-- ==== Sys2Proof/Word.lean ====
section
/-! DEFINITION. The plain types the commands and the state of the WH2416 hub are made of. -/

namespace Sys2Proof

/-- A byte of a frame, of a buffer cell or of the flash. -/
abbrev Byte := BitVec 8

/-- A 32-bit register word (R4). -/
abbrev Word := BitVec 32

/-- The six ports an access to BAR0 can arrive on (R36). -/
inductive Port where
  | host | usbf | ringE | ringW | twin | debug
  deriving DecidableEq, Repr

/-- The port code of R36, also its bit in RD_MASK and WR_MASK. -/
def Port.code : Port → Nat
  | .host => 0 | .usbf => 1 | .ringE => 2 | .ringW => 3 | .twin => 4 | .debug => 5

/-- The two ring ports of a node; as an output, the direction a frame is sent (R55). -/
inductive Side where
  | east | west
  deriving DecidableEq, Repr

/-- 0 for east, 1 for west: the value of ROUTE.DIR (R90). -/
def Side.code : Side → Nat
  | .east => 0 | .west => 1

/-- The place of the port's PHY and MAC pages after RINGE_PHY and RINGE_MAC (R26). -/
def Side.n : Side → Nat
  | .east => 0 | .west => 2

/-- The other ring port. -/
def Side.opp : Side → Side
  | .east => .west | .west => .east

/-- The three links that have a PHY: the two ring ports and the twin or junction link (R55, R156). -/
inductive Link where
  | ring (d : Side)
  | twin
  deriving DecidableEq, Repr

/-- 0 east, 1 west, 2 twin link; also the switch port P0, P1, P2 behind it (R20). -/
def Link.code : Link → Nat
  | .ring d => d.code | .twin => 2

/-- A Fardel frame (R88, R90). `launch` is the LAUNCH or CORR field; `len` is LEN as written in the
header, `payload` the bytes on the wire; `hchk` and `crc` are the check values the frame carries. `rsv` are the reserved
bits of the header, which senders write zero and receivers ignore: from bit 0 those of bytes 0, 1, DEST, SRC, LEN, ROUTE,
ENTRY (1, 4, 7, 7, 3, 3, 1 bits) and byte 27. -/
structure Frame where
  ver : Nat := 1
  tc : Nat := 6
  lt : Bool := false
  sec : Bool := false
  resp : Bool := false
  refuse : Bool := false
  dest : Nat := 0
  src : Nat := 0
  seq : Nat := 0
  launch : Nat := 0
  len : Nat := 0
  epochLo : Nat := 0
  assoc : Nat := 0
  hops : Nat := 0
  xings : Nat := 0
  dir : Nat := 0
  entry : Nat := 0
  hchk : Nat := 0
  payload : List Byte := []
  tag : Nat := 0
  crc : Nat := 0
  rsv : Nat := 0
  deriving DecidableEq, Repr

/-- The contents of a TC7 maintenance frame or of a PHY control block the hub sends or takes; the spec
gives what each carries (R56, R64, R77, R68, R78, R79), not its bytes. -/
inductive Maint where
  | beacon (node role : Nat)
  | contest (node role : Nat)
  | ballot (dir : Nat) (shed join allUp ready : Bool)
  | announce (dir : Nat) (join : Bool) (at_ : Nat)
  | training (node role : Nat)
  | remoteFault (cause : Nat)
  | laneReady (lane : Nat)
  | shedBlock (dir index : Nat)
  | joinBlock (dir index : Nat)
  | pdelayReq (msg : List Nat)
  | pdelayResp (msg : List Nat)
  | idle
  deriving DecidableEq, Repr

/-- What the hub sends out of itself: frames, messages, completions, pin actions. The log `sent` of the
state keeps them in order. `item` carries an output that has no structure of its own here. -/
inductive Emit where
  | frame (out : Nat) (f : Frame)
  | abandon (out : Nat)
  | maint (link : Nat) (m : Maint)
  | deliver (port : Nat) (f : Frame)
  | msix (vec : Nat) (addr : Nat) (data : Nat)
  | answer (port : Nat) (ok : Bool) (cause : Nat) (data : Nat)
  | bytes (name : String) (vals : List Byte)
  | item (name : String) (args : List Nat)
  deriving DecidableEq, Repr

end Sys2Proof
end

