-- ==== Sys2Proof/Syntax.lean ====
section
/-! DEFINITION. The commands of the hub, one constructor for each row of spec/opcode_table.json. -/

namespace Sys2Proof

/-- What a heartbeat frame tells (R159, R165, R171, R177, R178, R180, R182): the sender's role code, twin index,
PREFER, a RUN request, REC_VALID, every included context in step, SAFE or a fatal fault, the boundary at which
it gives up ownership and whether by a planned handover, its shed wishes. -/
structure Heartbeat where
  role : Nat := 0
  index : Nat := 0
  prefer : Nat := 0
  run : Bool := false
  recValid : Bool := false
  stepAll : Bool := false
  safe : Bool := false
  release : Option (Nat × Bool) := none
  wishE : Bool := true
  wishW : Bool := true
  deriving DecidableEq, Repr

/-- A record of a snapshot (R169): the header (cycle number, fabric time of the boundary in ns, ENG_MASK,
fragment count, byte length, program generations of the included engines), the node record (next SEQ of TC0
to TC6), an engine record (engine, dispatcher position, event flags, bank in use, configuration digest), a
context record as 48 words (context 32 n + c). -/
inductive SnapRec where
  | header (num ns mask frags bytes : Nat) (gens : List Nat)
  | node (seqs : List Nat)
  | engine (e pos flags bank digest : Nat)
  | context (k : Nat) (words : List Nat)
  deriving DecidableEq, Repr

/-- A CAN frame on the bus (R334, R339): `id` as MB_ID holds it (a base identifier in bits 28 to 18), the data
bytes in bus order. -/
structure CanFrame where
  ide : Bool := false
  id : Nat := 0
  rtr : Bool := false
  fdf : Bool := false
  brs : Bool := false
  esi : Bool := false
  dlc : Nat := 0
  data : List Byte := []
  deriving DecidableEq, Repr

/-- The measurements of an evaluation (R420, R427, R433): voltage codes of the east and west cable, the bus and the
slots, the twelve channel currents in 10 mA, and by direction the load in percent over 10 ms, the highest over 1 ms,
and the classes of frames inserted in the last 10 ms. -/
structure Meas where
  ve : Nat := 0
  vw : Nat := 0
  vbus : Nat := 0
  slots : List Nat := []
  cur : List Int := []
  load : List Nat := []
  peak : List Nat := []
  classes : List (List Nat) := []
  deriving DecidableEq, Repr

/-- An access in BAR0: the offset at which it begins, its length in words, and the byte enables of its first word (bits 3-0)
and of the last of several (bits 7-4) (R4, R8, R41). -/
structure Span where
  at_ : Nat
  dw : Nat := 1
  be : Nat := 15
  deriving DecidableEq, Repr

/-- What a reference source shows: edges have appeared on REFW, or source `src` (0 REFW, 1 east lanes) has been qualified for
1 ms, with the spread it carries: depth, rate and the time its modulation cycle has run (R57, R60). -/
inductive RefNote where
  | edges
  | qualified (src : Nat) (ssc : Option (Nat × Nat × Nat))
  deriving DecidableEq, Repr

/-- A condition that takes a link down: its DOWN_CAUSE code and, for cause 4, the lane skew now in UI (R74). -/
structure DownCause where
  code : Nat
  skewUi : Nat := 0
  deriving DecidableEq, Repr


/-- A command to the hub. -/
inductive Instr where
  /-- REGISTER_WRITE (R8). A write to a register that has no row of its own is judged under R41 and applied field by field according to each field's access code. -/
  | registerWrite (p : Port) (a : Span) (v : Nat)
  /-- LO_READ_CAPTURE (R52). A read of the _LO word of a multi-word value captures the whole value into the holding register of the reading port. -/
  | loReadCapture (p : Port) (a : Span)
  /-- SOFT_RESET (R29). A write of BLK_CTRL.SOFT_RESET starts a soft reset of the block, unless the block's chapter refuses it. -/
  | softReset (p : Port) (pg : Nat)
  /-- SOFT_RESET_DONE (R29). The soft reset completes within 2 µs and the page accepts accesses again. -/
  | softResetDone (pg : Nat)
  /-- FENCE_REQ (R30). A write of BLK_CTRL.FENCE_REQ asks the block to stop accepting work, or withdraws that request. -/
  | fenceReq (p : Port) (pg : Nat) (on : Bool)
  /-- BLOCK_FENCED (R30). The block completes or abandons its work in flight and reports FENCED. -/
  | blockFenced (pg : Nat)
  /-- BLK_ACCESS_WRITE (R37). A write of BLK_ACCESS takes effect only from the owner port and only while the page is unlocked. -/
  | blkAccessWrite (p : Port) (pg v : Nat)
  /-- LOCK (R35). A write of the lock key to LOCK makes the RWL fields of the page read only; any other value is counted as misuse. -/
  | lock (p : Port) (pg v : Nat)
  /-- INT_SET (R33). A write of INT_SET sets INT_STAT bits exactly as the events would. -/
  | intSet (p : Port) (pg v : Nat)
  /-- INT_STAT_CLEAR (R48). A W1C write of INT_STAT clears bits and sends a further MSI-X message if the source stays asserted. -/
  | intStatClear (p : Port) (pg v : Nat)
  /-- INT_EN_WRITE (R48). A write of INT_EN changes which bits contribute to the source and sends a message if the source stays asserted. -/
  | intEnWrite (p : Port) (pg v : Nat)
  /-- MSIX_UNMASK (R48). Unmasking a vector, or setting Enable or clearing Function Mask, sends the messages of the pending sources that are still asserted. -/
  | msixUnmask (vec : Option Nat) (enable fmask : Bool)
  /-- FLT_INJ_WRITE (R483). A write of FLT_INJ feeds inverted check bits to the checker from its next check on. -/
  | fltInjWrite (p : Port) (pg v : Nat)
  /-- DENY_CLR (R42). A write of DENY_CLR clears the selected per-port misuse counters. -/
  | denyClr (p : Port) (v : Nat)
  /-- FUNCTION_LEVEL_RESET (R45). A Function Level Reset returns the configuration space, MSI-X, BRIDGE and POLL to reset and abandons held reads. -/
  | functionLevelReset
  /-- D3HOT_ENTRY (R46). In D3hot the hub stops bus mastering and answers configuration requests only. -/
  | d3hotEntry
  /-- PERST (R452). PERST_N low acts as a Function Level Reset and the PCIe link retrains. -/
  | perst (low : Bool)
  /-- PCIE_LINK_UP (R468). The PCIe data link comes up and raises PCIE_UP. -/
  | pcieLinkUp (width speed : Nat)
  /-- PCIE_LINK_DOWN (R325). Loss of the PCIe link treats P3 as a fenced output, abandons held reads and discards prefetch lines. -/
  | pcieLinkDown
  /-- REF_BEACON_SEND (R56). An acting master sends a reference beacon in both directions every 1 ms. -/
  | refBeaconSend
  /-- REF_BEACON_RX (R64). A received reference beacon updates MASTER_ID and may make an acting master yield or send a contest notice. -/
  | refBeaconRx (d : Side) (node role : Nat)
  /-- BEACON_TIMEOUT (R63). A backup master that has heard no beacon for BEACON_TMO becomes acting master. -/
  | beaconTimeout
  /-- CONTEST_NOTICE (R64). A contest notice naming a higher-ranked master is passed on, and an acting master that reaches it yields. -/
  | contestNotice (d : Side) (node role : Nat)
  /-- REF_TAKE (R63). A write of REF_CTRL.TAKE makes a master or backup master the acting master. -/
  | refTake (p : Port)
  /-- REF_YIELD (R63). A write of REF_CTRL.YIELD makes an acting master stop acting. -/
  | refYield (p : Port)
  /-- REFW_LOSS (R57). REFW without an edge for 64 ns is declared absent, and the hub enters holdover and holds REFE static. -/
  | refwLoss
  /-- REF_SOURCE_QUALIFIED (R57). A higher-priority reference source that has been qualified for 1 ms becomes the source, and the output slews under R62. -/
  | refSourceQualified (src : RefNote)
  /-- PHY_BRING_UP_START (R73). A port with its domain on, ENABLE and AUTO_TRAIN set starts bring-up once a reference is available. -/
  | phyBringUpStart (l : Link)
  /-- LANE_PLL_LOCKED (R73). The lane PLLs lock and training begins. -/
  | lanePllLocked (l : Link)
  /-- TRAINING_COMPLETE (R73). PAM2 training ends and the ends switch to PAM4 adaptation. -/
  | trainingComplete (l : Link) (ffe0 ffe1 : Nat) (farNoPrecode : Bool) (named : Option (Nat × Nat))
  /-- TRAIN_FAIL (R73). Training that has not ended within 500 ms raises TRAIN_FAIL and sends the port to hold-off. -/
  | trainFail (l : Link) (lane1Only : Bool)
  /-- EQ_ADAPTED (R73). PAM4 equaliser adaptation completes and the codeword search begins. -/
  | eqAdapted (l : Link) (ctle0 ctle1 eye0 eye1 : Nat) (taps : List Nat)
  /-- CODEWORD_LOCK (R73). Four consecutive codewords decode and the receiver locks to the codeword boundary. -/
  | codewordLock (l : Link) (good : Nat)
  /-- DESKEW_DONE (R73). Lane markers set the lane skew. -/
  | deskewDone (d : Side) (swapped : Bool) (skewUi : Nat)
  /-- LINK_QUALIFIED (R73). After 1 ms without an uncorrectable codeword the end sends lane-ready blocks. -/
  | linkQualified (l : Link) (peerIndex : Nat)
  /-- LINK_UP (R73). Receipt of the far end's lane-ready blocks brings the port up and raises LINK_UP. -/
  | linkUp (l : Link)
  /-- LINK_DOWN (R74). A down condition takes the port down, sends remote fault blocks, records DOWN_CAUSE and informs the switch core. -/
  | linkDown (l : Link) (cause : DownCause)
  /-- UNCORRECTABLE_CODEWORD (R72). An uncorrectable codeword marks its blocks as errored, is counted and may take the port down. -/
  | uncorrectableCodeword (l : Link) (lane : Nat) (follows : Bool)
  /-- UNC_WINDOW_END (R74). A fixed 1 ms uncorrectable-codeword window ends and the next window starts. -/
  | uncWindowEnd (l : Link)
  /-- EYE_LOW (R82). A lane's eye height falls below EYE_MIN and raises EYE_LOW. -/
  | eyeLow (l : Link) (lane height : Nat)
  /-- RETRAIN (R82). A write of RETRAIN takes the port down and restarts bring-up at step 1. -/
  | retrain (p : Port) (l : Link)
  /-- HOLDOFF_EXPIRY (R75). After HOLDOFF the port returns to step 1 if AUTO_TRAIN is 1. -/
  | holdoffExpiry (l : Link)
  /-- LANE_BALLOT_SEND (R77). The lane coordinator sends a lane ballot around each direction every 1 ms. -/
  | laneBallotSend
  /-- LANE_BALLOT_RX (R77). A hub ANDs its shed wish and ORs its join need into a passing ballot. -/
  | laneBallotRx (dir : Side) (shed join allUp ready : Bool) (ann : Option (Bool × Nat))
  /-- LANE_BALLOT_RETURN (R78). A returned ballot leads the coordinator to announce a shed or a join at T = now + 200 µs. -/
  | laneBallotReturn (dir : Side) (shed join allUp ready : Bool)
  /-- SHED_PAUSE_START (R78). At T − 20 µs the hub stops inserting frames in the shedding direction. -/
  | shedPauseStart (dir : Side)
  /-- SHED_BLOCK_SEND (R78). At the first codeword boundary after T the hub sends a shed block and moves to lane 0. -/
  | shedBlockSend (dir : Side)
  /-- SHED_BLOCK_RX (R78). The receiver switches to one lane, lane 1 is powered down, insertion resumes and LANE_SHED is raised. -/
  | shedBlockRx (dir : Side)
  /-- JOIN_START (R79). A ballot that carries a join need makes every segment power and prepare lane 1. -/
  | joinStart (dir : Side)
  /-- JOIN_BLOCK_SEND (R79). At the announced time each transmitter sends a join block and resumes two-lane operation. -/
  | joinBlockSend (dir : Side)
  /-- JOIN_FAIL (R80). A lane 1 that is not ready within 3 ms raises JOIN_FAIL and keeps one-lane mode. -/
  | joinFail (dir : Side)
  /-- FRAME_ARRIVAL (R95). A received frame start is sorted by the rows of R95: removal, maintenance, local delivery, relay or transit. -/
  | frameArrival (d : Side) (f : Frame) (bad : Bool) (stamp : Nat)
  /-- FRAME_TRAILER_ACCEPT (R110). At a frame's trailer the hub applies the acceptance checks, tag and stream window, and delivers or discards the frame. -/
  | frameTrailerAccept (d : Side) (errored count31 : Bool) (wireLen : Nat)
  /-- JUNCTION_RELAY_RX (R98). A junction peer takes a relayed frame, increments XINGS and dual-sends it on its ring or discards it. -/
  | junctionRelayRx (f : Frame) (stamp : Nat)
  /-- STREAM_ENTRY_RETIRE (R113). A stream window entry with no acceptance for 10 ms is retired. -/
  | streamEntryRetire (node cls : Nat)
  /-- TRANSIT_CHECK_FAIL (R117). A transit check failure silences both outputs, raises TRANSIT_FAULT and drives BYPASS_N low. -/
  | transitCheckFail (out : Side) (kind : Nat)
  /-- BYPASS_REJOIN (R118). A write of BYP_CTRL.REJOIN drives BYPASS_N high and starts the relay wait, unless refused. -/
  | bypassRejoin (p : Port)
  /-- REJOIN_RELAY_WAIT_END (R118). After RELAY_WAIT the hub enables its ring ports and raises BYPASS_LEAVE. -/
  | rejoinRelayWaitEnd
  /-- BYPASS_FORCE (R118). A write of FORCE places the node in bypass, or when cleared acts as REJOIN. -/
  | bypassForce (p : Port) (on : Bool)
  /-- INS_PERIOD_START (R105). A new insertion period starts and every class quota restarts. -/
  | insPeriodStart (d : Side)
  /-- INSERTION (R103). The insertion gate starts a local or buffered transit frame on a ring output according to precedence. -/
  | insertion (d : Side) (expressAt : Option Nat) (visible : Nat)
  /-- COPY_ADMISSION (R132). An arriving copy is admitted against its queue minimum, class ceiling and shared pool, or discarded. -/
  | copyAdmission (inp : Nat) (f : Frame)
  /-- ARBITRATION_GRANT (R140). An output arbiter grants one requesting queue by the reserved, forced, lottery or age rule. -/
  | arbitrationGrant (p : Nat)
  /-- FRAME_SENT (R142). A granted frame has been passed on in full, its cells are released and the output arbitrates again. -/
  | frameSent (p : Nat)
  /-- LFSR_SEED (R141). A write of LFSR_SEED loads the selected output's shift register; zero is ignored. -/
  | lfsrSeed (p : Port) (seed : Nat)
  /-- VOQ_MIN_WRITE (R133). A write of VOQ_MIN changes a queue minimum unless MIN_SUM would exceed 8,192 cells. -/
  | voqMinWrite (p : Port) (v : Nat)
  /-- BANK_FENCE (R136). An uncorrectable ECC error in a bank withdraws the bank and discards the frames that hold cells in it. -/
  | bankFence (b : Nat)
  /-- AUDIT_PASS (R137). The auditor starts a pass over the cell ownership table every AUDIT_CFG.PERIOD. -/
  | auditPass
  /-- HOLD_WINDOW_EXPIRY (R145). A class hold window expires with the port still down and its held frames are discarded. -/
  | holdWindowExpiry (p c : Nat)
  /-- HEARTBEAT_SEND (R171). A twin sends a heartbeat frame whenever it has sent no frame for 1 µs. -/
  | heartbeatSend
  /-- HEARTBEAT_RX (R177). A heartbeat from the peer updates the peer's role and may announce a release or report SAFE. -/
  | heartbeatRx (h : Heartbeat)
  /-- HEARTBEAT_TIMEOUT (R177). No frame from the peer for HB_TMO makes the peer lost. -/
  | heartbeatTimeout
  /-- ALONE_WAIT_EXPIRY (R165). After ALONE_WAIT without a heartbeat, a twin becomes ALONE or raises BLOCKED. -/
  | aloneWaitExpiry
  /-- OWN_IN_CHANGE (R166). An assertion of OWN_IN releases the field output drivers within 20 ns. -/
  | ownInChange (level : Bool)
  /-- OWNERSHIP_CONFLICT (R168). OWN_OUT and OWN_IN both asserted for 100 ns cause a fatal fault and entry to SAFE with role NONE. -/
  | ownershipConflict
  /-- INTERLOCK_INCONSISTENCY (R181). OWN_IN deasserted for 1 µs while the peer holds ownership and has announced no release is a contained fault. -/
  | interlockInconsistency
  /-- OWN_RELEASE_POINT (R167). At OWN_SETTLE + 100 ns before the named boundary the releasing twin deasserts OWN_OUT. -/
  | ownReleasePoint
  /-- POUR_OVER_SEND (R171). The active twin sends the snapshot as twin-link frames ahead of every other frame. -/
  | pourOverSend
  /-- SNAPSHOT_FRAGMENT_RX (R173). The standby stores a snapshot fragment and, once the snapshot is complete, makes it the recovery point and compares its contexts. -/
  | snapshotFragmentRx (num idx : Nat) (good : Bool) (recs : List SnapRec)
  /-- RING_OUTPUT_TAKEOVER (R162). A twin whose peer is lost takes over the peer's ring output when remote fault blocks arrive. -/
  | ringOutputTakeover (d : Side)
  /-- RING_OUTPUT_RETURN (R162). The twin returns the output once the peer is STANDBY with REC_VALID. -/
  | ringOutputReturn (d : Side)
  /-- HANDOVER (R182). A write of TWIN.CTRL.HANDOVER starts a planned handover, or is refused. -/
  | handover (p : Port)
  /-- PEER_RELAY_ACCESS (R188). A write of PEER_CMD.GO relays one register access to the peer twin. -/
  | peerRelayAccess (p : Port)
  /-- PEER_RELAY_DONE (R188). The peer's answer ends the relayed access with STATUS done or error. -/
  | peerRelayDone (ok : Bool) (cause data : Nat)
  /-- PEER_RELAY_TIMEOUT (R188). A relayed access unanswered for 10 µs ends with error cause 4. -/
  | peerRelayTimeout
  /-- SYNC_SEND (R201). The grandmaster sends a Sync broadcast every 2^−LOG_SYNC s. -/
  | syncSend
  /-- ANNOUNCE_SEND (R201). The grandmaster sends an Announce broadcast every second. -/
  | announceSend
  /-- DELAY_REQ_SEND (R202). A node that is not the grandmaster sends a Delay_Req to the grandmaster every 2^(LOG_DREQ−4) s. -/
  | delayReqSend
  /-- PDELAY_REQ_SEND (R203). Each hub sends a Pdelay_Req on each ring port once per second. -/
  | pdelayReqSend (d : Side)
  /-- PDELAY_REQ_RX (R203). A neighbour answers a Pdelay_Req with a one-step Pdelay_Resp. -/
  | pdelayReqRx (d : Side) (msg : List Byte) (t2 : Nat)
  /-- PDELAY_RESP_RX (R203). A Pdelay_Resp sets SEG_DELAY and raises SEG_CHANGE when the result changes by more than 2 ns. -/
  | pdelayRespRx (d : Side) (header receipt : List Byte) (t4 : Nat) (requester : List Byte)
  /-- SYNC_RX (R204). An accepted Sync copy yields an offset, performs an armed step or drives the servo. -/
  | syncRx (l : Link) (f : Frame) (stamp : Nat)
  /-- DELAY_REQ_RX (R201). The grandmaster answers each accepted Delay_Req copy with a Delay_Resp. -/
  | delayReqRx (d : Side) (f : Frame) (stamp : Nat)
  /-- DELAY_RESP_RX (R204). A Delay_Resp gives a path delay sample that updates the path delay mean. -/
  | delayRespRx (d : Side) (f : Frame)
  /-- ANNOUNCE_RX (R201). An Announce feeds best master selection and may change the grandmaster. -/
  | announceRx (l : Link) (f : Frame)
  /-- ANNOUNCE_TIMEOUT (R201). A candidate that hears no Announce for three intervals runs the selection again. -/
  | announceTimeout
  /-- SYNC_TIMEOUT (R207). No accepted Sync for eight intervals puts the servo in holdover and freezes RATE. -/
  | syncTimeout
  /-- PATH_SYNC_TIMEOUT (R205). A path that has delivered no Sync for three intervals makes the servo change path. -/
  | pathSyncTimeout
  /-- STEP_GO (R206). A write of STEP_GO steps the counter to STEP0–STEP2 in LISTEN or SENTINEL, and is refused in other modes. -/
  | stepGo (p : Port) (hold : Bool)
  /-- STEP_ARM (R206). A write of STEP_ARM arms a step and sets STATE to awaiting step. -/
  | stepArm (p : Port) (hold : Bool)
  /-- LAUNCH_ELIGIBLE (R211). A launch frame becomes eligible at L − 300 ns. -/
  | launchEligible (v : Nat)
  /-- LAUNCH_DEADLINE (R212). A launch copy that has not started by L + TOL is discarded and counted as LAUNCH_MISS. -/
  | launchDeadline (v : Nat)
  /-- TOUT_ARM (R216). A write of CTRLk.ARM latches the channel configuration and schedules its edges. -/
  | toutArm (p : Port) (k : Nat)
  /-- TOUT_DISARM (R216). A write of CTRLk.DISARM stops every edge scheduled more than 200 ns later. -/
  | toutDisarm (p : Port) (k : Nat)
  /-- TOUT_EDGE (R215). The counter reaches a scheduled timed-output edge, which is driven and may raise DONE or EDGE. -/
  | toutEdge (k : Nat)
  /-- BASE_CYCLE_BOUNDARY (R227). At each boundary the hub captures the snapshot, swaps banks, changes clocks, checks deadlines and readies and starts contexts. -/
  | baseCycleBoundary
  /-- BC_GRID_CHANGE (R226). New BC_LEN or BC_PHASE values take effect at the start of the next whole second. -/
  | bcGridChange
  /-- DISPATCH_RESUME (R227). Dispatch of the affected engine resumes 100 ns after a swap or a clock change. -/
  | dispatchResume (e : Nat)
  /-- DEFERRAL_END (R232). A deferral ends when it has lasted the tolerance of the context's class. -/
  | deferralEnd (e c : Nat)
  /-- CTX_START (R245). A write of CTX_CTRL.START begins the context at the next boundary, unless its pin claim is refused. -/
  | ctxStart (p : Port) (e c : Nat) (pre : Bool)
  /-- CTX_START_NOW (R245). A write of CTX_CTRL.START_NOW begins the context at once. -/
  | ctxStartNow (p : Port) (e c : Nat) (pre : Bool)
  /-- CTX_CLEAR (R245). A write of CTX_CTRL.CLEAR returns a stopped context and its FIFOs to reset values. -/
  | ctxClear (p : Port) (e c : Nat) (pre : Bool)
  /-- CTX_STOP (R246). A write of CTX_CTRL.STOP requests a stop at the context's next dispatch. -/
  | ctxStop (p : Port) (e c : Nat) (pre : Bool)
  /-- STOP_COMPLETION (R246). At its next dispatch the context stops with STOP_RESULT COMPLETE or ABORTED. -/
  | stopCompletion (e c : Nat)
  /-- INJ_GO (R274). A write of INJ_GO latches CTX_INJ; with INJ_PREEMPT set it abandons the context's stall. -/
  | injGo (p : Port) (e c : Nat) (pre : Bool)
  /-- INJECTION_EXECUTE (R274). The latched word executes at the context's next dispatch in place of the word at CTX_PC. -/
  | injectionExecute (e c : Nat)
  /-- RESERVED_ENCODING (R255). A reserved instruction encoding stops the context as ABORTED and is recorded in PB_ILL. -/
  | reservedEncoding (e c : Nat)
  /-- JMP (R260). Jumps to ADDR when the condition holds, counting X or Y down first for the loop conditions. -/
  | jmp (e c : Nat)
  /-- WAIT (R261). Waits on pin, flag, FIFO or time state. -/
  | wait (e c : Nat)
  /-- IN (R262). Takes sampled pin bits into the ISR, X, Y or the check unit. -/
  | inBits (e c : Nat)
  /-- OUT (R263). Passes bits from the OSR, X or constants to the pin unit, optionally with a clock. -/
  | outBits (e c : Nat)
  /-- PUSH (R265). Stores a word into the RX FIFO, with the check unit's verdict when the input stream is checked and END is set. -/
  | push (e c : Nat)
  /-- PULL (R265). Takes a word from the TX FIFO into the OSR, X or Y and sets EOP. -/
  | pull (e c : Nat)
  /-- MOV (R266). Copies a source to a destination with a transform. -/
  | mov (e c : Nat)
  /-- SET (R264). Sets pin levels or directions at once, or in the output stream with SYNC. -/
  | setPins (e c : Nat)
  /-- ALU_ADD (R267). Adds the source to X or Y and sets Z and C. -/
  | aluAdd (e c : Nat)
  /-- ALU_SUB (R267). Subtracts the source from X or Y and sets Z and C. -/
  | aluSub (e c : Nat)
  /-- ALU_AND (R267). ANDs the source into X or Y. -/
  | aluAnd (e c : Nat)
  /-- ALU_OR (R267). ORs the source into X or Y. -/
  | aluOr (e c : Nat)
  /-- ALU_XOR (R267). XORs the source into X or Y. -/
  | aluXor (e c : Nat)
  /-- ALU_SHL (R267). Shifts X or Y left by the source's low five bits. -/
  | aluShl (e c : Nat)
  /-- ALU_SHR (R267). Shifts X or Y right by the source's low five bits. -/
  | aluShr (e c : Nat)
  /-- ALU_CMP (R267). Compares X or Y with the source and sets the flags only. -/
  | aluCmp (e c : Nat)
  /-- STAMP (R268). Captures the pending pin event time or the current time into X or Y. -/
  | stamp (e c : Nat)
  /-- TTRIG (R269). Arms a pin, origin or timer action at a fabric time, replacing any armed action. -/
  | ttrig (e c : Nat)
  /-- TTRIG_CANCEL (R269). Disarms the armed action at once. -/
  | ttrigCancel (e c : Nat)
  /-- TTRIG_ACTION_FIRE (R270). An armed action is performed at its time T, or is discarded with MISS set. -/
  | ttrigActionFire (e c : Nat)
  /-- CHK_SEED (R291). Sets the running value to INIT, folds the configured seed bits and chooses the snooped direction. -/
  | chkSeed (e c : Nat)
  /-- CHK_SEEDX (R271). Loads the running value from X and chooses the snooped direction. -/
  | chkSeedx (e c : Nat)
  /-- CHK_FOLD (R271). Folds the low WIDTH bits of X into the running value. -/
  | chkFold (e c : Nat)
  /-- CHK_APPEND (R292). Arms an append of the check value or passes the check value at once. -/
  | chkAppend (e c : Nat)
  /-- CHK_VERIFY (R271). Sets K when the running value equals the good residue. -/
  | chkVerify (e c : Nat)
  /-- CHK_SAVE (R271). Copies the running value into X. -/
  | chkSave (e c : Nat)
  /-- CHK_PAUSE (R271). Stops or resumes snooping. -/
  | chkPause (e c : Nat)
  /-- FIFO_MARK (R237). Sets the TX FIFO mark to the read position. -/
  | fifoMark (e c : Nat)
  /-- FIFO_REWIND (R237). Returns the TX FIFO read position to the mark. -/
  | fifoRewind (e c : Nat)
  /-- FIFO_RELEASE (R237). Frees the TX FIFO entries read so far. -/
  | fifoRelease (e c : Nat)
  /-- FIFO_FLUSH (R238). Requests a flush of the rest of the current packet of the TX or RX FIFO. -/
  | fifoFlush (e c : Nat)
  /-- EVENT (R273). Raises an engine event and sets or clears an engine flag. -/
  | event (e c : Nat)
  /-- LDI (R267). Loads a 16-bit immediate into X or Y. -/
  | ldi (e c : Nat)
  /-- YIELD (R228). Ends the current visit; the context stays ready. -/
  | yield (e c : Nat)
  /-- YIELD_EOC (R230). Ends the cycle's work and records lateness against the deadline. -/
  | yieldEoc (e c : Nat)
  /-- STALL_END (R256). A stalled instruction's condition holds and the instruction completes at the context's next dispatch. -/
  | stallEnd (e c : Nat)
  /-- PIN_UNDERRUN (R235). A pin unit's output buffer runs empty; the output holds its level and an underrun is counted. -/
  | pinUnderrun (e c : Nat)
  /-- TX_FLUSH (R238). A write of FIFO_CTRL.TX_FLUSH requests a flush of the selected context's TX FIFO. -/
  | txFlush (p : Port) (e : Nat)
  /-- RX_FLUSH (R238). A write of FIFO_CTRL.RX_FLUSH requests a flush of the RX FIFO and abandons the frame being assembled. -/
  | rxFlush (p : Port) (e : Nat)
  /-- FLUSH_COMPLETE (R238). A pending flush takes effect when the end-marked entry has been discarded. -/
  | flushComplete (e c : Nat) (rx : Bool)
  /-- TXF_PUSH (R240). Software pushes a word without an end mark into the TX FIFO. -/
  | txfPush (p : Port) (e v : Nat)
  /-- TXF_PUSH_END (R240). Software pushes a word with an end mark into the TX FIFO. -/
  | txfPushEnd (p : Port) (e v : Nat)
  /-- RXF_POP (R240). A read of RXF_POP returns and releases the RX FIFO entry at the read position. -/
  | rxfPop (p : Port) (e : Nat)
  /-- CONTEXT_SNAPSHOT (R247). A write of SNAP_CTRL.GO requests a capture of a context's register block. -/
  | contextSnapshot (p : Port) (e c : Nat)
  /-- CONTEXT_SNAPSHOT_DONE (R247). The capture is taken at the end of the next visit, or after 1 µs, and SNAP_DONE is raised. -/
  | contextSnapshotDone (e : Nat)
  /-- FRAMER_EMIT (R241). At an end-marked RX FIFO word the framer emits a frame from the assembled packet, or discards it. -/
  | framerEmit (e c : Nat)
  /-- FRAMER_RX (R242). The framer takes a frame for a context or sub-address endpoint, or refuses it. -/
  | framerRx (f : Frame)
  /-- FRAMER_UNPACK (R242). The framer unpacks a stored frame into the TX FIFO as space frees and answers a WRITE with WACK. -/
  | framerUnpack (e c : Nat)
  /-- READ_PEND_TIMEOUT (R244). A sub-address read unanswered for 10 ms is refused with code unavailable and cleared. -/
  | readPendTimeout (e c : Nat)
  /-- SUBA_WRITE (R243). A write of SUBA assigns a sub-address range, or is ignored and raises SUBA_REFUSED. -/
  | subaWrite (p : Port) (e base count : Nat)
  /-- PROGRAM_MEMORY_WRITE (R254). A write to an engine's program memory is stored, or is ignored and counted in PB_WREJ. -/
  | programMemoryWrite (p : Port) (e bank word v : Nat)
  /-- PB_SWAP (R277). A write of PB_CTRL.SWAP requests a bank swap at the next boundary. -/
  | pbSwap (p : Port) (e : Nat) (live : Bool)
  /-- PB_CANCEL (R277). A write of PB_CTRL.CANCEL withdraws a pending swap if it takes effect before the boundary. -/
  | pbCancel (p : Port) (e : Nat) (live : Bool)
  /-- BANK_SUPPLY_FAIL (R281). A bank supply outside its window for 1 µs releases the bank's outputs and records a fault. -/
  | bankSupplyFail (b : Nat)
  /-- PIN_INPUT_CHANGE (R285). A level change at a field pin ball enters the input filter; a run that is too short is counted as a glitch. -/
  | pinInputChange (pin : Nat) (level : Bool)
  /-- PIN_EDGE_ACCEPTED (R286). A filtered edge is accepted and, if selected, stamped into the holding context's pending event. -/
  | pinEdgeAccepted (pin : Nat)
  /-- BAR2_WRITE (R307). A host write to BAR2 is translated through its window and sent as a fabric WRITE. -/
  | bar2Write (off : Nat) (data : List Byte) (whole : Bool)
  /-- BAR2_READ (R309). A host read to BAR2 is held until its answer, served from the prefetch store or refused. -/
  | bar2Read (host off len : Nat) (whole : Bool)
  /-- ACCESS_ANSWER_RX (R303). A WACK, RDATA or refusal for endpoint 0 is matched to an outstanding request, completing a read, a write, a poll or a fence. -/
  | accessAnswerRx (f : Frame)
  /-- READ_TIMEOUT (R309). A held read unanswered for RD_TMO completes as RD_ERR selects and raises RD_TIMEOUT. -/
  | readTimeout (tag : Nat)
  /-- WRITE_TIMEOUT (R314). A write unanswered or unsent at PW_TMO fails, is logged and raises PW_ERROR. -/
  | writeTimeout (tag : Nat)
  /-- PREFETCH_LINE_EXPIRY (R312). A stored prefetch line is discarded 50 µs after it arrived and is logged if bytes were never returned. -/
  | prefetchLineExpiry (addr : Nat)
  /-- FENCE_GO (R316). A write of FENCE_CTRL.GO starts a fence over the window's earlier writes. -/
  | fenceGo (p : Port) (w : Nat)
  /-- FENCE_ABORT (R318). A write of FENCE_CTRL.ABORT aborts a running fence unless it has already completed. -/
  | fenceAbort (p : Port) (w : Nat)
  /-- READ_ABORT (R318). A write of RDA_CTRL.GO aborts every read of the window that is held. -/
  | readAbort (p : Port) (w : Nat)
  /-- PWE_CLEAR (R315). A write of PWE_CLR empties the posted-write error log. -/
  | pweClear (p : Port)
  /-- PFD_CLEAR (R313). A write of PFD_CLR empties the prefetch discard log. -/
  | pfdClear (p : Port)
  /-- POLL_DUE (R319). An enabled poll entry falls due and sends a 4-byte READ, or is skipped. -/
  | pollDue (e : Nat)
  /-- CQ_POP (R321). A write of CQ_POP removes the head of the change queue. -/
  | cqPop (p : Port)
  /-- HOST_RX_DELIVERY (R323). A message to endpoint 0 is written into a host receive ring, or dropped. -/
  | hostRxDelivery (f : Frame) (buf : Nat)
  /-- SEND_RING_SERVE (R324). The hub takes one frame from an enabled send ring, queues or refuses it, and writes back the descriptor. -/
  | sendRingServe (n count : Nat) (image : List Byte)
  /-- MGMT_REQUEST (R303). MGMT performs a remote TC4 request to endpoint 0 under the arrival port's masks and answers it. -/
  | mgmtRequest (f : Frame)
  /-- MGMT_DOORBELL (R331). A write of MGMT.DOORBELL raises doorbell bits and records the writer in DB_LAST. -/
  | mgmtDoorbell (p : Port) (node v : Nat)
  /-- CAN_MODE (R338). A write of CTRL.MODE selects the operating mode; leaving configuration resets the error counters. -/
  | canMode (p : Port) (n mode : Nat)
  /-- CAN_FRAME_RX (R339). A received CAN frame is stored in a matching buffer, stamped and forwarded, or counted in NOMATCH. -/
  | canFrameRx (n : Nat) (f : CanFrame) (sofNs sofSec : Nat)
  /-- CAN_TX_REQ (R342). A write of TX_REQ requests transmission of an event-mode buffer. -/
  | canTxReq (p : Port) (n : Nat)
  /-- CAN_TX_ABORT (R343). A write of TX_ABORT withdraws a buffer's request if it comes before the start of frame. -/
  | canTxAbort (p : Port) (n : Nat)
  /-- CAN_TX_START (R343). A buffer's frame reaches its start of frame, latching its contents. -/
  | canTxStart (n b : Nat)
  /-- CAN_TX_END (R343). A transmitted frame ends, setting TX_STAT and raising TX_DONE. -/
  | canTxEnd (n : Nat) (ok : Bool) (loop : Nat)
  /-- CAN_ENDPOINT_ACCESS (R341). A WRITE or READ to a CAN message object endpoint loads or returns the buffer, or is refused. -/
  | canEndpointAccess (f : Frame)
  /-- CAN_WINDOW_START (R346). A schedule window starts and its cell is performed; an exclusive buffer is latched or missed. -/
  | canWindowStart (n : Nat)
  /-- CAN_SWITCH (R348). A write of CYC_CTRL.SWITCH requests a matrix bank switch. -/
  | canSwitch (p : Port) (n : Nat)
  /-- CAN_SWITCH_CANCEL (R348). A write of CYC_CTRL.CANCEL withdraws a pending switch. -/
  | canSwitchCancel (p : Port) (n : Nat)
  /-- CAN_BUS_ERROR (R350). A bus error updates the error counters and may enter error passive or bus-off. -/
  | canBusError (n err : Nat) (heavy exempt : Bool)
  /-- CAN_RECOVER (R350). A write of CTRL.RECOVER in bus-off starts recovery. -/
  | canRecover (p : Port) (n : Nat)
  /-- CAN_RECOVERED (R350). After 128 occurrences of 11 recessive bits the controller becomes error active and raises RECOVERED. -/
  | canRecovered (n : Nat)
  /-- CAN_SLEEP (R351). A write of CTRL.SLEEP requests sleep. -/
  | canSleep (p : Port) (n : Nat)
  /-- CAN_SLEEP_ENTER (R351). Once the bus has been idle for 11 bits the controller enters sleep. -/
  | canSleepEnter (n : Nat)
  /-- CAN_WAKE_CONDITION (R351). A dominant level or a matching frame wakes a sleeping controller and raises WAKE. -/
  | canWakeCondition (n width : Nat) (f : Option CanFrame) (sofNs sofSec : Nat)
  /-- CAN_WAKE (R351). A write of CTRL.WAKE ends sleep. -/
  | canWake (p : Port) (n : Nat)
  /-- USB_ATTACH (R357). The upstream pull-up is connected or removed as PD6, ENABLE and USB_VBUS change. -/
  | usbAttach (vbus : Bool)
  /-- USB_BUS_RESET (R358). An upstream reset negotiates speed, returns to the default state and powers off the downstream ports. -/
  | usbBusReset (pairs : Nat)
  /-- GET_HUB_STATUS (R356). The hub answers a GetHubStatus request. -/
  | getHubStatus
  /-- GET_PORT_STATUS (R356). The hub answers a GetPortStatus request. -/
  | getPortStatus (k : Nat)
  /-- SET_HUB_FEATURE (R356). The hub performs a SetHubFeature request. -/
  | setHubFeature (feature : Nat)
  /-- CLEAR_HUB_FEATURE (R356). The hub performs a ClearHubFeature request. -/
  | clearHubFeature (feature : Nat)
  /-- SET_PORT_FEATURE (R359). The hub performs a SetPortFeature request, such as a port reset or port power. -/
  | setPortFeature (k feature : Nat) (ok : Bool)
  /-- CLEAR_PORT_FEATURE (R356). The hub performs a ClearPortFeature request. -/
  | clearPortFeature (k feature : Nat)
  /-- PORT_RESET_COMPLETE (R359). A downstream port reset of 10–20 ms ends and enables the port at its negotiated speed. -/
  | portResetComplete (k chirp : Nat) (low : Bool)
  /-- CLEAR_TT_BUFFER (R364). ClearTTBuffer discards the named endpoint's buffered transaction. -/
  | clearTtBuffer (k ep : Nat)
  /-- RESET_TT (R364). ResetTT discards all of a translator's transactions. -/
  | resetTt (k : Nat)
  /-- GET_HUB_DESCRIPTOR (R356). The hub returns its hub descriptor. -/
  | getHubDescriptor
  /-- GET_TT_STATE (R356). GetTTState is answered with STALL. -/
  | getTtState (k : Nat)
  /-- STOP_TT (R356). StopTT is answered with STALL. -/
  | stopTt (k : Nat)
  /-- SET_CONFIGURATION (R372). SET_CONFIGURATION resets the data toggles and discards a held response. -/
  | setConfiguration (fn : Bool) (v : Nat)
  /-- SET_INTERFACE (R372). SET_INTERFACE resets the interface's toggles and turns the stream on or off. -/
  | setInterface (n alt : Nat)
  /-- CLEAR_ENDPOINT_HALT (R372). CLEAR_FEATURE(ENDPOINT_HALT) resets the toggle and discards a partial command or a held response. -/
  | clearEndpointHalt (ep : Nat)
  /-- USB_OVERCURRENT (R360). A filtered over-current removes port power and raises OVERCURRENT. -/
  | usbOvercurrent (k : Nat) (low : Bool) (width : Nat)
  /-- USB_SUSPEND (R361). After 3 ms of bus inactivity the upstream link enters suspend. -/
  | usbSuspend
  /-- USB_LPM_L1 (R361). An LPM transaction enters L1, or is answered NYET. -/
  | usbLpmL1 (rwake : Bool)
  /-- USB_WAKE_SOURCE (R362). A wake source becomes active and drives resume upstream, or is recorded in a resume window. -/
  | usbWakeSource (k : Nat)
  /-- USB_HOST_RESUME (R363). Host resume K opens a resume window that is propagated downstream. -/
  | usbHostResume
  /-- USB_RESUME_WINDOW_CLOSE (R363). The resume window closes at the end of the host's resume signalling. -/
  | usbResumeWindowClose
  /-- VENDOR_READ (R366). The vendor read request returns 4 bytes of the USBFN page. -/
  | vendorRead (off : Nat)
  /-- VENDOR_WRITE (R366). The vendor write request stages a 4-byte write to the USBFN page. -/
  | vendorWrite (off v : Nat)
  /-- STATUS_STAGE_ACK (R366). Acknowledgement of the status stage commits a staged write or clears read RC fields. -/
  | statusStageAck
  /-- OPEN (R368). The OPEN command derives a session key from the two nonces and opens a session. -/
  | usbOpen (tag : Nat) (nonce : List Byte)
  /-- CLOSE (R368). The CLOSE command closes the session. -/
  | usbClose (tag counter : Nat) (mac : List Byte)
  /-- USB_READ (R369). The READ command reads 1–64 BAR0 words after authentication and checks. -/
  | usbRead (words tag counter arg : Nat) (mac : List Byte)
  /-- USB_WRITE (R369). The WRITE command writes 1–64 BAR0 words after authentication and checks. -/
  | usbWrite (tag counter arg : Nat) (data : List Nat) (mac : List Byte)
  /-- SEND (R371). The SEND command sends a message frame from a USB channel endpoint. -/
  | usbSend (tag counter ch : Nat) (data mac : List Byte)
  /-- RECV (R371). The RECV command returns the oldest queued channel message. -/
  | usbRecv (tag counter : Nat) (mac : List Byte)
  /-- AUTH_LOCKOUT_END (R368). One second after the failure limit, OPEN is accepted again. -/
  | authLockoutEnd
  /-- RESPONSE_ACK (R370). The host acknowledges the last data packet of a response, clearing the RC fields read. -/
  | responseAck
  /-- USB_CHANNEL_RX (R371). A message frame reaching a USB channel is queued, fed to the stream or refused. -/
  | usbChannelRx (f : Frame)
  /-- USB_REPORT_SEND (R373). The interrupt endpoint sends its report when the content differs from the last acknowledged report. -/
  | usbReportSend
  /-- USB_REPORT_ACK (R373). The host's acknowledgement of a report clears NOTIFY and the discard count. -/
  | usbReportAck
  /-- USB_SOF (R375). A start-of-frame is stamped and opens a stream service interval. -/
  | usbSof (frame micro : Nat)
  /-- USBFN_DOORBELL (R378). A write of USBFN.DOORBELL raises doorbell bits on source 62. -/
  | usbfnDoorbell (p : Port) (v : Nat)
  /-- KEY_DERIVED (R385). An association key derivation completes and the waiting frame is sealed or opened. -/
  | keyDerived
  /-- ASSOC_ENABLE (R382). A write of A_CFG.EN enables an association entry, or is ignored and sets CONFLICT. -/
  | assocEnable (p : Port) (v : Nat)
  /-- ROLL (R391). A write of A_CTRL.ROLL moves the transmit entry to the next epoch within its ceiling. -/
  | roll (p : Port)
  /-- REC_SAVE (R392). A write of REC_CTRL.SAVE starts writing the entry's record and raising its ceiling. -/
  | recSave (p : Port) (wrap : Bool)
  /-- REC_RESTORE (R392). A write of REC_CTRL.RESTORE starts restoring an entry from a record. -/
  | recRestore (p : Port) (wrap : Bool)
  /-- RECORD_OP_DONE (R393). A save or restore completes, with or without wrapping, and sets STATUS. -/
  | recordOpDone
  /-- A_EPOCH_WRITE (R392). A write of A_EPOCH sets a transmit entry's epoch and ceiling, or a receive entry's epochs and windows. -/
  | aEpochWrite (p : Port) (v : Nat)
  /-- EPOCH_GRACE_END (R387). The 1 ms during which the previous epoch is accepted ends. -/
  | epochGraceEnd (entry twinBit : Nat)
  /-- KEY_ALARM (R394). A voltage, clock, temperature, tamper or tag alarm erases the keys and raises ERASED. -/
  | keyAlarm (cause : Nat)
  /-- ZEROIZE (R394). A write of the key to KEYS.ZEROIZE raises the software alarm. -/
  | zeroize (p : Port) (v : Nat)
  /-- TAG_WINDOW_END (R394). A TAG_WIN period ends and the count of tag failures restarts. -/
  | tagWindowEnd
  /-- KILL_DONE (R395). The root key kill completes and raises KILL_DONE. -/
  | killDone
  /-- KEY_FLUSH (R398). A write of KEY_CTRL.FLUSH discards the unpinned key cache entries. -/
  | keyFlush (p : Port)
  /-- BREAKER_EN (R413). A write of CH_CTRL.EN turns a channel on or off and clears a latched trip through 0 then 1. -/
  | breakerEn (p : Port) (n : Nat) (en : Bool)
  /-- BREAKER_QUALIFIED (R408). The input has stayed inside the on-window for DELAY. -/
  | breakerQualified (n vin cable : Nat)
  /-- BREAKER_OFF_TIME_END (R414). The minimum off time since the last turn-off ends. -/
  | breakerOffTimeEnd (n : Nat)
  /-- BREAKER_RAMP_STEP (R409). Every 20 µs the ramp raises the gate duty unless the current exceeds INRUSH, and completes at full duty. -/
  | breakerRampStep (n : Nat) (cur : Int) (vin vout : Nat)
  /-- BREAKER_RAMP_TIMEOUT (R409). A ramp not complete within RAMP_MAX trips with cause ramp timeout. -/
  | breakerRampTimeout (n : Nat)
  /-- BREAKER_INSTANT_TRIP (R411). The fast comparator drives GDRVn low when the current exceeds INST, and latches the trip. -/
  | breakerInstantTrip (n : Nat) (cur : Int)
  /-- BREAKER_CURVE_TRIP (R412). The thermal accumulator reaches a trip and latches the channel tripped. -/
  | breakerCurveTrip (n : Nat) (cur : Int) (dt : Nat)
  /-- BREAKER_WINDOW_OPEN (R410). An input below UV_OFF for 1 ms or above OV_OFF for 10 µs opens the channel without latching. -/
  | breakerWindowOpen (n vin : Nat)
  /-- BREAKER_REVERSE_OPEN (R406). Reverse current above REV opens an inlet or forward within 1 µs without latching. -/
  | breakerReverseOpen (n : Nat) (cur : Int)
  /-- INLET_RECLOSE (R406). An inlet opened on reverse current closes again once its cable exceeds the bus by 0.2 V for 10 µs. -/
  | inletReclose (n vcable vbus : Nat)
  /-- SLOT_REMOVED (R416). A card found absent drives its slot channel off at once. -/
  | slotRemoved (k : Nat)
  /-- SLOT_INSERTED (R416). Presence stable for 5 ms marks an insertion and starts DELAY. -/
  | slotInserted (k : Nat)
  /-- CURVE_COMMIT (R422). A write of BRK.COMMIT applies a staged breaker curve, or refuses it and raises CURVE_BAD. -/
  | curveCommit (p : Port) (mask : Nat)
  /-- BUS_LOW (R419). A bus below BUS_WARN for 1 ms raises BUS_LOW. -/
  | busLow (vbus : Nat)
  /-- BUS_LOSS (R419). A bus below BUS_LOSS raises BUS_LOSS and sends the hub to SENTINEL. -/
  | busLoss (vbus : Nat)
  /-- BUS_OK (R419). A bus back above BUS_WARN for 1 ms raises BUS_OK. -/
  | busOk (vbus : Nat)
  /-- BUDGET_EVALUATION (R434). Every 1 ms, or on a trigger, the budget unit computes headroom and takes at most one lever action. -/
  | budgetEvaluation (m : Meas)
  /-- TEMP_SAMPLE (R428). A 1 ms temperature measurement updates TEMP and the thermal state. -/
  | tempSample (t0 t1 : Int)
  /-- TRAFFIC_TOLERANCE_MISS (R437). A local frame waiting longer than its class tolerance in a narrowed direction is a miss that sets the join need. -/
  | trafficToleranceMiss (d : Side) (c wait : Nat)
  /-- MODE_REQ_SENTINEL (R448). A write of MODE_REQ = 1 requests SENTINEL from LISTEN. -/
  | modeReqSentinel (p : Port)
  /-- MODE_REQ_LISTEN (R448). A write of MODE_REQ = 2 requests LISTEN. -/
  | modeReqListen (p : Port)
  /-- MODE_REQ_RUN (R448). A write of MODE_REQ = 3 requests RUN and starts the engine load. -/
  | modeReqRun (p : Port)
  /-- MODE_REQ_INVALID (R448). A write of MODE_REQ = 0, 4, 5, 6 or 7 is refused with cause 1. -/
  | modeReqInvalid (p : Port) (v : Nat)
  /-- ENGINE_LOAD_DONE (R449). The engine load completes, or fails and refuses the request with cause 2. -/
  | engineLoadDone
  /-- POWER_UP_RESET (R452). VDEM in range for 2 ms ends power-up reset and starts the start sequence in SENTINEL. -/
  | powerUpReset (index : Nat)
  /-- WARM_RESET (R452). RESET_N held low, or the key written to RESET_CTRL, resets PD1–PD7 and restarts the sequence at step 5. -/
  | warmReset (p : Option Port) (key : Nat)
  /-- TRST (R452). TRST_N low resets the JTAG debug access port. -/
  | trst
  /-- VDEM_LOSS (R446). VDEM leaving its range takes the hub to BYPASS with every output high-impedance. -/
  | vdemLoss
  /-- OTP_LOAD (R464). OTP is read into the shadow and a generation is selected. -/
  | otpLoad
  /-- ROOT_KEY_LOAD (R466). The root key is loaded from a key copy whose CRC passes. -/
  | rootKeyLoad
  /-- SENTINEL_EXIT (R450). BUS_OK having stood for the exit delay with enough power available resumes the start sequence. -/
  | sentinelExit
  /-- DOMAIN_SWITCH_ON (R453). At 1 ms intervals the hub switches the next power domain on and finally enters LISTEN. -/
  | domainSwitchOn
  /-- COPY_SECTOR_DONE (R457). A journaled copy step completes and its journal entry is appended. -/
  | copySectorDone
  /-- IMAGE_VERIFY_DONE (R456). Verification of the boot slot ends and selects slot A or B or sets NO_IMAGE. -/
  | imageVerifyDone
  /-- SETTINGS_RESTORE (R460). The settings store restores the pages of the powered domains and starts the flagged contexts. -/
  | settingsRestore
  /-- AUTO_RUN (R453). With AUTO_RUN set, the hub requests RUN once time is locked or it is grandmaster. -/
  | autoRun
  /-- SETTINGS_SAVE (R461). A write of SET_CTRL.SAVE starts writing every record into the other bank. -/
  | settingsSave (p : Port)
  /-- SETTINGS_SAVE_DONE (R461). Writing the bank header completes the save. -/
  | settingsSaveDone
  /-- FLASH_READ (R469). FL_CMD with OP read reads up to 16 words from the flash. -/
  | flashRead (p : Port) (len : Nat)
  /-- FLASH_PROGRAM (R469). FL_CMD with OP program programs up to 16 words, or ends in error for a protected region. -/
  | flashProgram (p : Port) (len : Nat)
  /-- FLASH_ERASE (R469). FL_CMD with OP erase erases a 64 KiB sector, or ends in error for a protected region. -/
  | flashErase (p : Port)
  /-- FLASH_CMD_DONE (R470). A flash command completes and raises CMD_DONE or ERROR. -/
  | flashCmdDone (res : Nat)
  /-- PROGRAM_GENERATION (R465). PROG_CTRL OP 0 writes a new OTP generation. -/
  | programGeneration (p : Port)
  /-- RETIRE (R465). PROG_CTRL OP 1 sets RETIRE of a generation. -/
  | retire (p : Port) (g : Nat)
  /-- PROGRAM_KEY (R465). PROG_CTRL OP 2 writes the root key into both copies and sets KEY_LOCKED. -/
  | programKey (p : Port)
  /-- SET_KILL_EN (R465). PROG_CTRL OP 3 programs KILL_EN. -/
  | setKillEn (p : Port)
  /-- OTP_PROG_DONE (R465). An OTP operation completes and raises PROG_DONE or PROG_FAIL. -/
  | otpProgDone (ok : Bool)
  /-- FAULT_DETECTED (R475). A checker detects a fault, sets its FLT_STAT bit and fences its unit. -/
  | faultDetected (pg ck detail : Nat) (corr : Bool)
  /-- FAULT_RECORDED (R475). The collector classifies and records a fault, judges escalation and reacts with a fence or SAFE. -/
  | faultRecorded
  /-- SELF_FAULT (R482). A fault of the collector itself leads straight to SAFE with no record. -/
  | selfFault (ck : Nat)
  /-- FAULT_CLEAR (R480). A write of CLR_CTRL.GO re-evaluates a checker and clears its fault or refuses. -/
  | faultClear (p : Port) (gone : Bool)
  /-- REC_POP (R477). A write of REC_POP removes the head fault record. -/
  | recPop (p : Port)
  /-- FLT_RELEASE (R486). A write of FLT_REL.RELEASE releases FLT_N once it has been low for 10 µs. -/
  | fltRelease (p : Port)
  /-- FLT_N_MIN_END (R486). The 10 µs minimum low time of FLT_N ends and an earlier release takes effect. -/
  | fltNMinEnd
  /-- ALIVE_TOGGLE (R485). ALIVE changes level at every 500,000 ns multiple of fabric time while it runs. -/
  | aliveToggle
  /-- ALIVE_RESTART (R485). ALIVE restarts at the first grid instant after 10 ms with no stop condition. -/
  | aliveRestart
  /-- CUP_SAMPLE (R489). A monitor takes a sample from its source and updates its statistics and threshold. -/
  | cupSample (m : Nat) (v : Int)
  /-- MONITOR_CONFIG_WRITE (R489). A write of MON_CFG, BIN_LO or BIN_W clears the monitor. -/
  | monitorConfigWrite (p : Port) (m off v : Nat)
  /-- CUP_SNAPSHOT (R492). A write of SNAP_CTRL.GO requests a copy of a monitor into the window. -/
  | cupSnapshot (p : Port) (m : Nat) (clear : Bool)
  /-- CUP_SNAPSHOT_DONE (R492). At the completion point the monitor is copied, and cleared if CLEAR is set. -/
  | cupSnapshotDone
  /-- CUP_SNAPSHOT_ABORT (R492). A write of SNAP_CTRL.ABORT aborts the snapshot or sets ABORT_LATE. -/
  | cupSnapshotAbort (p : Port)
  /-- RELAY_BLOCK_RX (R500). A hub checks a relayed image block, then writes, acknowledges and forwards it. -/
  | relayBlockRx (f : Frame)
  /-- RELAY_BLOCK_WRITTEN (R500). A relayed block has been written and read back; the hub acknowledges it, forwards it, and after the last block marks slot B staged. -/
  | relayBlockWritten (ok : Bool)
  /-- RELAY_ACK_RX (R501). An ACK frees a sender's unacknowledged block and completes the relay at the coordinator. -/
  | relayAckRx (f : Frame)
  /-- RELAY_REPORT_RX (R503). A REPORT enters the coordinator's report queue. -/
  | relayReportRx (f : Frame)
  /-- RELAY_RESEND_TIMEOUT (R501). A block unacknowledged for RELAY_TMO is sent again, and after three resends the sender stops with code 4. -/
  | relayResendTimeout (index : Nat)
  /-- RELAY_SENDER_SILENT (R501). A receiver that gets no block for 10 s stops with code 5. -/
  | relaySenderSilent
  /-- VERIFY (R503). A write of UPDATE.CTRL.VERIFY checks the locally loaded image in slot B. -/
  | verify (p : Port)
  /-- LOCAL_VERIFY_DONE (R503). Local verification ends and marks slot B ready, or fails. -/
  | localVerifyDone
  /-- RELAY_GO (R503). A write of RELAY_GO starts sending the image blocks from slot B. -/
  | relayGo (p : Port)
  /-- UPDATE_ABORT (R504). A write of UPDATE.CTRL.ABORT stops a relay, copy or swap, or sets ABORT_LATE. -/
  | updateAbort (p : Port)
  /-- RESTART (R505). A write of UPDATE.CTRL.RESTART starts the hub at once as a warm reset does. -/
  | restart (p : Port)
  /-- SWAP_GO (R506). A write of SWAP_GO writes the staged engine programs into the other banks. -/
  | swapGo (p : Port)
  /-- SWAP_STAGE_DONE (R506). The engine banks have been written, and swaps are requested for the named boundary. -/
  | swapStageDone
  /-- TWIN_HANDOVER (R507). A write of UPDATE.CTRL.TWIN_HANDOVER requests a handover with the in-step condition limited to engines of equal generation. -/
  | twinHandover (p : Port) (equal : Bool)
  /-- REP_POP (R508). A write of REP_POP removes the head of the report queue. -/
  | repPop (p : Port)
  /-- BIT_SLOT (R234). At each bit slot of a context's grid the pin unit drives the next queued output bit and samples an input bit, which enters the ISR at once and raises ISR_CNT. -/
  | bitSlot (e c : Nat)
  /-- JOIN_BLOCK_RX (R79). A receiver that takes a join block resumes two-lane reception and the hub raises LANE_JOIN. -/
  | joinBlockRx (dir : Side)
  /-- JOIN_LANE_READY (R79). A segment's lane 1 finishes its power-up, equaliser restore, lock and deskew and becomes ready to report in the next ballot. -/
  | joinLaneReady (dir : Side)
  /-- D3HOT_EXIT (R46). The host returns the function from D3hot to D0, so bus mastering resumes and P3 is no longer treated as fenced. -/
  | d3hotExit
  /-- PORT_CONNECT_CHANGE (R377). A device connects to or disconnects from a downstream port, setting C_PORT_CONNECT and raising PORT_CHANGE. -/
  | portConnectChange (k : Nat) (conn low : Bool)
  /-- SET_ADDRESS (R376). The host's SET_ADDRESS request gives the hub or function its USB address, leaving address 0. -/
  | setAddress (fn : Bool) (a : Nat)
  /-- SET_FEATURE (R362). The host's SET_FEATURE or CLEAR_FEATURE request enables or disables DEVICE_REMOTE_WAKEUP or halts an endpoint. -/
  | setFeature (fn set : Bool) (feature ep : Nat)
  /-- CAN_INTEGRATION_DONE (R338). After 11 consecutive recessive bits the integrating controller becomes error active and may receive and transmit. -/
  | canIntegrationDone (n : Nat)
  /-- BANK_SUPPLY_RETURN (R281). VIOBb comes back inside VSEL ± 10 %, and BANK_STAT.SUPPLY_OK becomes 1 again. -/
  | bankSupplyReturn (b : Nat)
  deriving DecidableEq, Repr

end Sys2Proof
end

