-- ==== Sys2Proof/Decode.lean ====
section
/-! DEFINITION. The command a word spells by the table's bits: the rows of spec/opcode_table.json give no bits (every row's
list of fields is empty), so no word spells a command. The instruction words of the hub's own engines are decoded in
Machine/Yemal.lean. -/

namespace Sys2Proof

/-- The command that a word of `nbits` bits spells: none, since no row gives bits. -/
def decodeTableWord (_nbits _w : Nat) : Option Instr := none

end Sys2Proof
end

