-- ==== Sys2Proof/Config.lean ====
section
/-! DEFINITION. What the spec leaves open: free values, as constants without a body. -/

namespace Sys2Proof.Config

/-- The free value drawn at a count: any number at all (log 2). -/
opaque freeValue : Nat → Nat

/-- The digest of configuration register values a snapshot carries (R169); the spec gives no algorithm (log 18). -/
opaque digest : List Nat → Nat

/-- TT think time in the hub descriptor, 0 to 3; the manual does not state it (log 34). -/
opaque hubThink : Nat

/-- bHubContrCurrent of the hub descriptor; the manual does not state it (log 34). -/
opaque hubCurrent : Nat

/-- The silicon revision an image's MIN_REV is compared with; the manual does not state it (log 8). -/
opaque siliconRev : Nat

/-- REF_OFFSET by the millisecond: the frequency offset it shows is a measurement (log 42). -/
opaque refOffset : Nat → Nat

/-- Symbols of a codeword that the channel damages and the lane corrects, by lane and number of the codeword: no command
carries them (log 61). -/
opaque corrSymbols : Nat → Nat → Nat

/-- Idle blocks the junction link dropped or repeated between two times (log 61). -/
opaque slips : Nat → Nat → Nat

end Sys2Proof.Config
end

