-- ==== Sys2Proof/Machine/Bits.lean ====
section
/-! DEFINITION. Check values and bytes: CRC-32C and CRC-32, byte order, the bytes of a frame (R88-R90). -/

namespace Sys2Proof

/-- One bit step of a reflected CRC of 32 bits with reflected polynomial `p`. -/
def crcBit (p c : Nat) : Nat := if c % 2 = 1 then (c / 2) ^^^ p else c / 2

/-- One byte of a reflected CRC. -/
def crcByte (p c b : Nat) : Nat :=
  let c0 := c ^^^ b
  crcBit p (crcBit p (crcBit p (crcBit p (crcBit p (crcBit p (crcBit p (crcBit p c0)))))))

/-- A reflected CRC of 32 bits with all ones at the start and inverted at the end. -/
def crcOf (p : Nat) (bs : List Nat) : Nat := (bs.foldl (crcByte p) 0xFFFFFFFF) ^^^ 0xFFFFFFFF

/-- CRC-32C (Castagnoli), the trailer and header check of R88 and R90. PRESUMED form, log 10. -/
def crc32c (bs : List Nat) : Nat := crcOf 0x82F63B78 bs

/-- CRC-32 (IEEE 802.3), the check of an OTP generation (R463). -/
def crc32 (bs : List Nat) : Nat := crcOf 0xEDB88320 bs

/-- The `n` bytes of a number, most significant first (R89). -/
def beBytes : Nat → Nat → List Nat
  | 0, _ => []
  | n + 1, v => (v / 256 ^ n % 256) :: beBytes n v

/-- The `n` bytes of a number, least significant first. -/
def leBytes : Nat → Nat → List Nat
  | 0, _ => []
  | n + 1, v => (v % 256) :: leBytes n (v / 256)

/-- The number whose bytes are given, most significant first. -/
def ofBe (bs : List Nat) : Nat := bs.foldl (fun a b => a * 256 + b % 256) 0

/-- The number whose bytes are given, least significant first. -/
def ofLe : List Nat → Nat
  | [] => 0
  | b :: t => b % 256 + 256 * ofLe t

/-- Bytes as numbers. -/
def bnat (bs : List Byte) : List Nat := bs.map BitVec.toNat

/-- Numbers as bytes. -/
def natb (bs : List Nat) : List Byte := bs.map (BitVec.ofNat 8)

/-- 1 for true, 0 for false, in a header byte. -/
def flagBit (b : Bool) (i : Nat) : Nat := if b then 2 ^ i else 0

/-- Bytes 0-23 of the header (R90): what travels unchanged but for CORR (R92). -/
def Frame.head24 (f : Frame) (launch : Nat) : List Nat :=
  [f.ver % 16 * 16 + f.rsv % 2 * 8 + f.tc % 8,
   flagBit f.lt 7 + flagBit f.sec 6 + flagBit f.resp 5 + flagBit f.refuse 4 + f.rsv / 2 % 16] ++
  beBytes 4 (f.rsv / 2 ^ 5 % 2 ^ 7 * 2 ^ 25 + f.dest % 2 ^ 25) ++ beBytes 4 (f.rsv / 2 ^ 12 % 2 ^ 7 * 2 ^ 25 + f.src % 2 ^ 25) ++
  beBytes 2 (f.seq % 2 ^ 16) ++ beBytes 8 (launch % 2 ^ 64) ++ beBytes 2 (f.rsv / 2 ^ 19 % 8 * 2 ^ 13 + f.len % 2 ^ 13) ++
  beBytes 2 (if f.sec then f.epochLo % 16 * 4096 + f.assoc % 4096 else 0)

/-- Bytes 0-27 of the header (R90), which HCHK covers. -/
def Frame.head28 (f : Frame) : List Nat :=
  f.head24 f.launch ++ [f.hops % 256, f.xings % 16 * 16 + f.rsv / 2 ^ 22 % 8 * 2 + f.dir % 2,
    f.rsv / 2 ^ 25 % 2 * 128 + f.entry % 128, f.rsv / 2 ^ 26 % 256]

/-- HCHK of a header (R90). -/
def Frame.headCheck (f : Frame) : Nat := crc32c f.head28

/-- The trailer of a frame: CRC-32C of the payload and tag (R88). -/
def Frame.trailer (f : Frame) : Nat :=
  crc32c (bnat f.payload ++ (if f.sec then beBytes 16 f.tag else []))

/-- The header with its check, and the trailer, as a sender writes them. -/
def Frame.sealChecks (f : Frame) : Frame := { f with hchk := f.headCheck, crc := f.trailer }

/-- The bytes a frame has on the wire (R88). -/
def Frame.wireLen (f : Frame) : Nat := 32 + f.payload.length + (if f.sec then 16 else 0) + 4

/-- The bytes R88 gives a frame by its header. -/
def Frame.statedLen (f : Frame) : Nat := 32 + f.len + (if f.sec then 16 else 0) + 4

/-- Every byte of the frame, as stored in buffer cells. -/
def Frame.bytes (f : Frame) : List Nat :=
  f.head28 ++ beBytes 4 f.hchk ++ bnat f.payload ++ (if f.sec then beBytes 16 f.tag else []) ++ beBytes 4 f.crc

/-- The node id of an endpoint id (R90). -/
def nodeOf (ep : Nat) : Nat := ep / 8192 % 4096

/-- The endpoint number inside its node. -/
def localOf (ep : Nat) : Nat := ep % 8192

/-- The greatest LEN of a class (R93). -/
def maxLen (tc : Nat) : Nat := if tc = 0 then 512 else if tc = 7 then 256 else 4096

/-- The header of the frame is malformed (R94, all cases but the wire length). -/
def Frame.badHeader (f : Frame) : Bool :=
  f.ver ≠ 1 || decide (maxLen f.tc < f.len) || (f.lt && f.tc = 1) || (f.sec && f.tc = 7)

/-- An express class (R93). -/
def express (tc : Nat) : Bool := decide (tc ≤ 3)

end Sys2Proof
end

