-- ==== Sys2Proof/Machine/Fields.lean ====
section
/-! DEFINITION. The register fields of every page, taken from the register tables of spec/: page, offset,
lowest bit, width, access code, reset value (the shipped OTP value where the table says OTP, R462), legal
values ("leaves the field unchanged" otherwise, R149), and the copies of a register. -/

namespace Sys2Proof.Machine

/-- The access codes of R8. -/
inductive Acc where
  | ro | rw | w1c | w1s | wo | rc | rwl
  deriving DecidableEq, Repr

/-- A register field. `page` is the first page of its block, `off` the byte offset of its first copy,
`lo` its lowest bit, `w` its width (64 for a value in a _LO/_HI pair, R52). Copies lie `stride` bytes or
`bstr` bits apart; `sel` is not 0 where a selector register names the copy. -/
structure Fld where
  page : Nat
  off : Nat
  lo : Nat
  w : Nat
  acc : Acc
  dflt : Nat → Nat := fun _ => 0
  cnt : Nat := 1
  stride : Nat := 0
  bstr : Nat := 0
  sel : Nat := 0
  ok : Nat → Bool := fun _ => true

namespace HDR

/-- HDR.BLK_ID.TYPE (R27). -/
def BLK_ID_TYPE : Fld := { page := 0x0, off := 0x0, lo := 24, w := 8, acc := .ro }
/-- HDR.BLK_ID.INSTANCE (R27). -/
def BLK_ID_INSTANCE : Fld := { page := 0x0, off := 0x0, lo := 16, w := 8, acc := .ro }
/-- HDR.BLK_ID.MAJOR (R27). -/
def BLK_ID_MAJOR : Fld := { page := 0x0, off := 0x0, lo := 8, w := 8, acc := .ro, dflt := fun _ => 1 }
/-- HDR.BLK_ID.MINOR (R27). -/
def BLK_ID_MINOR : Fld := { page := 0x0, off := 0x0, lo := 0, w := 8, acc := .ro }
/-- HDR.BLK_CTRL.FENCE_REQ (R28). -/
def BLK_CTRL_FENCE_REQ : Fld := { page := 0x0, off := 0x4, lo := 2, w := 1, acc := .rw }
/-- HDR.BLK_CTRL.SOFT_RESET (R28). -/
def BLK_CTRL_SOFT_RESET : Fld := { page := 0x0, off := 0x4, lo := 1, w := 1, acc := .w1s }
/-- HDR.BLK_CTRL.ENABLE (R28). -/
def BLK_CTRL_ENABLE : Fld := { page := 0x0, off := 0x4, lo := 0, w := 1, acc := .rw }
/-- HDR.BLK_STAT.LOCKED (R31). -/
def BLK_STAT_LOCKED : Fld := { page := 0x0, off := 0x8, lo := 8, w := 1, acc := .ro }
/-- HDR.BLK_STAT.FENCE_SRC (R31). -/
def BLK_STAT_FENCE_SRC : Fld := { page := 0x0, off := 0x8, lo := 4, w := 2, acc := .ro }
/-- HDR.BLK_STAT.ERROR (R31). -/
def BLK_STAT_ERROR : Fld := { page := 0x0, off := 0x8, lo := 3, w := 1, acc := .ro }
/-- HDR.BLK_STAT.BUSY (R31). -/
def BLK_STAT_BUSY : Fld := { page := 0x0, off := 0x8, lo := 2, w := 1, acc := .ro }
/-- HDR.BLK_STAT.FENCED (R31). -/
def BLK_STAT_FENCED : Fld := { page := 0x0, off := 0x8, lo := 1, w := 1, acc := .ro }
/-- HDR.BLK_STAT.READY (R31). -/
def BLK_STAT_READY : Fld := { page := 0x0, off := 0x8, lo := 0, w := 1, acc := .ro }
/-- HDR.BLK_ACCESS.WR_MASK (R32). -/
def BLK_ACCESS_WR_MASK : Fld := { page := 0x0, off := 0xc, lo := 8, w := 6, acc := .rwl, dflt := fun pg => if pg = 0x19 || pg = 0x5A then 1 else if pg = 0x49 then 0x23 else 0x2D }
/-- HDR.BLK_ACCESS.RD_MASK (R32). -/
def BLK_ACCESS_RD_MASK : Fld := { page := 0x0, off := 0xc, lo := 0, w := 6, acc := .rwl, dflt := fun pg => if pg = 0x19 || pg = 0x5A then 0x21 else 0x3F }
/-- HDR.INT_STAT.EVENTS (R33). -/
def INT_STAT_EVENTS : Fld := { page := 0x0, off := 0x10, lo := 0, w := 32, acc := .w1c }
/-- HDR.INT_EN.ENABLES (R33). -/
def INT_EN_ENABLES : Fld := { page := 0x0, off := 0x14, lo := 0, w := 32, acc := .rw }
/-- HDR.INT_SET.TEST (R33). -/
def INT_SET_TEST : Fld := { page := 0x0, off := 0x18, lo := 0, w := 32, acc := .wo }
/-- HDR.FLT_STAT.CHECKERS (R33). -/
def FLT_STAT_CHECKERS : Fld := { page := 0x0, off := 0x1c, lo := 0, w := 32, acc := .ro }
/-- HDR.FLT_INJ.INJECT (R33). -/
def FLT_INJ_INJECT : Fld := { page := 0x0, off := 0x20, lo := 0, w := 32, acc := .rwl }
/-- HDR.LOCK.LOCKED (R35). -/
def LOCK_LOCKED : Fld := { page := 0x0, off := 0x24, lo := 0, w := 1, acc := .ro }

/-- The fields of a HDR page. -/
def fields : List Fld :=
  [BLK_ID_TYPE, BLK_ID_INSTANCE, BLK_ID_MAJOR, BLK_ID_MINOR, BLK_CTRL_FENCE_REQ, BLK_CTRL_SOFT_RESET, BLK_CTRL_ENABLE, BLK_STAT_LOCKED, BLK_STAT_FENCE_SRC, BLK_STAT_ERROR, BLK_STAT_BUSY, BLK_STAT_FENCED] ++
  [BLK_STAT_READY, BLK_ACCESS_WR_MASK, BLK_ACCESS_RD_MASK, INT_STAT_EVENTS, INT_EN_ENABLES, INT_SET_TEST, FLT_STAT_CHECKERS, FLT_INJ_INJECT, LOCK_LOCKED]

end HDR

namespace DEVICE

/-- DEVICE.DENY_CNT.COUNT (R42). -/
def DENY_CNT_COUNT : Fld := { page := 0x0, off := 0x100, lo := 0, w := 32, acc := .ro, cnt := 6, stride := 4 }
/-- DEVICE.DENY_CLR.CLEAR (R42). -/
def DENY_CLR_CLEAR : Fld := { page := 0x0, off := 0x118, lo := 0, w := 6, acc := .wo }
/-- DEVICE.DENY_LAST.VALID (R42). -/
def DENY_LAST_VALID : Fld := { page := 0x0, off := 0x11c, lo := 31, w := 1, acc := .w1c }
/-- DEVICE.DENY_LAST.CAUSE (R42). -/
def DENY_LAST_CAUSE : Fld := { page := 0x0, off := 0x11c, lo := 26, w := 3, acc := .ro }
/-- DEVICE.DENY_LAST.WRITE (R42). -/
def DENY_LAST_WRITE : Fld := { page := 0x0, off := 0x11c, lo := 25, w := 1, acc := .ro }
/-- DEVICE.DENY_LAST.PORT (R42). -/
def DENY_LAST_PORT : Fld := { page := 0x0, off := 0x11c, lo := 22, w := 3, acc := .ro }
/-- DEVICE.DENY_LAST.WORD (R42). -/
def DENY_LAST_WORD : Fld := { page := 0x0, off := 0x11c, lo := 0, w := 22, acc := .ro }
/-- DEVICE.INT_SRC_LO.ASSERTED (R50). -/
def INT_SRC_LO_ASSERTED : Fld := { page := 0x0, off := 0x120, lo := 0, w := 32, acc := .ro }
/-- DEVICE.INT_SRC_HI.ASSERTED (R50). -/
def INT_SRC_HI_ASSERTED : Fld := { page := 0x0, off := 0x124, lo := 0, w := 32, acc := .ro }
/-- DEVICE.INTN_EN_LO.ENABLE (R50). -/
def INTN_EN_LO_ENABLE : Fld := { page := 0x0, off := 0x128, lo := 0, w := 32, acc := .rw, dflt := fun _ => 4294967295 }
/-- DEVICE.INTN_EN_HI.ENABLE (R50). -/
def INTN_EN_HI_ENABLE : Fld := { page := 0x0, off := 0x12c, lo := 0, w := 32, acc := .rw, dflt := fun _ => 4294967295 }
/-- DEVICE.MODE_STAT.REFUSE_CAUSE (R467). -/
def MODE_STAT_REFUSE_CAUSE : Fld := { page := 0x0, off := 0x40, lo := 16, w := 3, acc := .ro }
/-- DEVICE.MODE_STAT.PREV (R467). -/
def MODE_STAT_PREV : Fld := { page := 0x0, off := 0x40, lo := 8, w := 3, acc := .ro }
/-- DEVICE.MODE_STAT.LOADING (R467). -/
def MODE_STAT_LOADING : Fld := { page := 0x0, off := 0x40, lo := 7, w := 1, acc := .ro }
/-- DEVICE.MODE_STAT.PENDING (R467). -/
def MODE_STAT_PENDING : Fld := { page := 0x0, off := 0x40, lo := 6, w := 1, acc := .ro }
/-- DEVICE.MODE_STAT.MODE (R467). -/
def MODE_STAT_MODE : Fld := { page := 0x0, off := 0x40, lo := 0, w := 3, acc := .ro, dflt := fun _ => 1 }
/-- DEVICE.MODE_REQ.MODE (R467). -/
def MODE_REQ_MODE : Fld := { page := 0x0, off := 0x44, lo := 0, w := 3, acc := .wo }
/-- DEVICE.MODE_CFG.AUTO_RUN (R467). -/
def MODE_CFG_AUTO_RUN : Fld := { page := 0x0, off := 0x48, lo := 31, w := 1, acc := .rw }
/-- DEVICE.MODE_CFG.WAIT_LOCK (R467). -/
def MODE_CFG_WAIT_LOCK : Fld := { page := 0x0, off := 0x48, lo := 30, w := 1, acc := .rw, dflt := fun _ => 1 }
/-- DEVICE.MODE_CFG.EXIT_DLY (R467). -/
def MODE_CFG_EXIT_DLY : Fld := { page := 0x0, off := 0x48, lo := 8, w := 8, acc := .rw, dflt := fun _ => 50, ok := fun v => 1 ≤ v }
/-- DEVICE.MODE_CFG.WAKE_P (R467). -/
def MODE_CFG_WAKE_P : Fld := { page := 0x0, off := 0x48, lo := 0, w := 8, acc := .rw, dflt := fun _ => 80 }
/-- DEVICE.START_STAT.NO_KEY (R467). -/
def START_STAT_NO_KEY : Fld := { page := 0x0, off := 0x4c, lo := 12, w := 1, acc := .ro }
/-- DEVICE.START_STAT.UNCOMMISSIONED (R467). -/
def START_STAT_UNCOMMISSIONED : Fld := { page := 0x0, off := 0x4c, lo := 11, w := 1, acc := .ro }
/-- DEVICE.START_STAT.NO_IMAGE (R467). -/
def START_STAT_NO_IMAGE : Fld := { page := 0x0, off := 0x4c, lo := 10, w := 1, acc := .ro }
/-- DEVICE.START_STAT.IMAGE_FROM_B (R467). -/
def START_STAT_IMAGE_FROM_B : Fld := { page := 0x0, off := 0x4c, lo := 9, w := 1, acc := .ro }
/-- DEVICE.START_STAT.IMAGE_OK (R467). -/
def START_STAT_IMAGE_OK : Fld := { page := 0x0, off := 0x4c, lo := 8, w := 1, acc := .ro }
/-- DEVICE.START_STAT.STEP (R467). -/
def START_STAT_STEP : Fld := { page := 0x0, off := 0x4c, lo := 0, w := 4, acc := .ro }
/-- DEVICE.RESET_CAUSE.DEBUG (R467). -/
def RESET_CAUSE_DEBUG : Fld := { page := 0x0, off := 0x50, lo := 2, w := 1, acc := .w1c }
/-- DEVICE.RESET_CAUSE.WARM (R467). -/
def RESET_CAUSE_WARM : Fld := { page := 0x0, off := 0x50, lo := 1, w := 1, acc := .w1c }
/-- DEVICE.RESET_CAUSE.POWER_UP (R467). -/
def RESET_CAUSE_POWER_UP : Fld := { page := 0x0, off := 0x50, lo := 0, w := 1, acc := .w1c, dflt := fun _ => 1 }
/-- DEVICE.RESET_CTRL.KEY (R467). -/
def RESET_CTRL_KEY : Fld := { page := 0x0, off := 0x54, lo := 0, w := 32, acc := .wo }
/-- DEVICE.SET_CTRL.SAVE (R467). -/
def SET_CTRL_SAVE : Fld := { page := 0x0, off := 0x58, lo := 0, w := 1, acc := .w1s }
/-- DEVICE.SET_STAT.STATUS (R467). -/
def SET_STAT_STATUS : Fld := { page := 0x0, off := 0x5c, lo := 30, w := 2, acc := .ro }
/-- DEVICE.SET_STAT.DEFAULTED (R467). -/
def SET_STAT_DEFAULTED : Fld := { page := 0x0, off := 0x5c, lo := 8, w := 8, acc := .ro }
/-- DEVICE.SET_STAT.BAD_CRC (R467). -/
def SET_STAT_BAD_CRC : Fld := { page := 0x0, off := 0x5c, lo := 0, w := 8, acc := .ro }
/-- DEVICE.LOSS_CNT.COUNT (R467). -/
def LOSS_CNT_COUNT : Fld := { page := 0x0, off := 0x60, lo := 0, w := 32, acc := .ro }
/-- DEVICE.PCIE_STAT.DL_UP (R467). -/
def PCIE_STAT_DL_UP : Fld := { page := 0x0, off := 0x64, lo := 8, w := 1, acc := .ro }
/-- DEVICE.PCIE_STAT.WIDTH (R467). -/
def PCIE_STAT_WIDTH : Fld := { page := 0x0, off := 0x64, lo := 4, w := 4, acc := .ro }
/-- DEVICE.PCIE_STAT.SPEED (R467). -/
def PCIE_STAT_SPEED : Fld := { page := 0x0, off := 0x64, lo := 0, w := 3, acc := .ro }

/-- The fields of a DEVICE page. -/
def fields : List Fld :=
  [DENY_CNT_COUNT, DENY_CLR_CLEAR, DENY_LAST_VALID, DENY_LAST_CAUSE, DENY_LAST_WRITE, DENY_LAST_PORT, DENY_LAST_WORD, INT_SRC_LO_ASSERTED, INT_SRC_HI_ASSERTED, INTN_EN_LO_ENABLE, INTN_EN_HI_ENABLE, MODE_STAT_REFUSE_CAUSE] ++
  [ MODE_STAT_PREV, MODE_STAT_LOADING, MODE_STAT_PENDING, MODE_STAT_MODE, MODE_REQ_MODE, MODE_CFG_AUTO_RUN, MODE_CFG_WAIT_LOCK, MODE_CFG_EXIT_DLY, MODE_CFG_WAKE_P, START_STAT_NO_KEY, START_STAT_UNCOMMISSIONED, START_STAT_NO_IMAGE] ++
  [START_STAT_IMAGE_FROM_B, START_STAT_IMAGE_OK, START_STAT_STEP, RESET_CAUSE_DEBUG, RESET_CAUSE_WARM, RESET_CAUSE_POWER_UP, RESET_CTRL_KEY, SET_CTRL_SAVE, SET_STAT_STATUS, SET_STAT_DEFAULTED, SET_STAT_BAD_CRC, LOSS_CNT_COUNT] ++
  [PCIE_STAT_DL_UP, PCIE_STAT_WIDTH, PCIE_STAT_SPEED]

end DEVICE

namespace CLOCKS

/-- CLOCKS.REF_CFG.BEACON_TMO (R81). -/
def REF_CFG_BEACON_TMO : Fld := { page := 0x2, off := 0x80, lo := 16, w := 8, acc := .rw, dflt := fun _ => 5, ok := fun v => 2 ≤ v && v ≤ 50 }
/-- CLOCKS.REF_CFG.LANE_FALLBACK (R81). -/
def REF_CFG_LANE_FALLBACK : Fld := { page := 0x2, off := 0x80, lo := 12, w := 1, acc := .rw, dflt := fun _ => 1 }
/-- CLOCKS.REF_CFG.SSC_RATE (R81). -/
def REF_CFG_SSC_RATE : Fld := { page := 0x2, off := 0x80, lo := 8, w := 2, acc := .rwl, dflt := fun _ => 0, ok := fun v => v ≤ 2 }
/-- CLOCKS.REF_CFG.SSC_DEPTH (R81). -/
def REF_CFG_SSC_DEPTH : Fld := { page := 0x2, off := 0x80, lo := 4, w := 3, acc := .rwl, dflt := fun _ => 1, ok := fun v => 1 ≤ v && v ≤ 5 }
/-- CLOCKS.REF_CFG.SSC_EN (R81). -/
def REF_CFG_SSC_EN : Fld := { page := 0x2, off := 0x80, lo := 2, w := 1, acc := .rwl, dflt := fun _ => 0 }
/-- CLOCKS.REF_CFG.ROLE (R81). -/
def REF_CFG_ROLE : Fld := { page := 0x2, off := 0x80, lo := 0, w := 2, acc := .rwl, dflt := fun _ => 0, ok := fun v => v ≤ 2 }
/-- CLOCKS.REF_CTRL.YIELD (R81). -/
def REF_CTRL_YIELD : Fld := { page := 0x2, off := 0x84, lo := 1, w := 1, acc := .w1s }
/-- CLOCKS.REF_CTRL.TAKE (R81). -/
def REF_CTRL_TAKE : Fld := { page := 0x2, off := 0x84, lo := 0, w := 1, acc := .w1s }
/-- CLOCKS.REF_STAT.MASTER_ID (R81). -/
def REF_STAT_MASTER_ID : Fld := { page := 0x2, off := 0x88, lo := 16, w := 12, acc := .ro }
/-- CLOCKS.REF_STAT.CLOSED (R81). -/
def REF_STAT_CLOSED : Fld := { page := 0x2, off := 0x88, lo := 6, w := 1, acc := .ro }
/-- CLOCKS.REF_STAT.WEST_PRESENT (R81). -/
def REF_STAT_WEST_PRESENT : Fld := { page := 0x2, off := 0x88, lo := 5, w := 1, acc := .ro }
/-- CLOCKS.REF_STAT.LOCKED (R81). -/
def REF_STAT_LOCKED : Fld := { page := 0x2, off := 0x88, lo := 4, w := 1, acc := .ro }
/-- CLOCKS.REF_STAT.SOURCE (R81). -/
def REF_STAT_SOURCE : Fld := { page := 0x2, off := 0x88, lo := 2, w := 2, acc := .ro, dflt := fun _ => 2 }
/-- CLOCKS.REF_STAT.ACTING_MASTER (R81). -/
def REF_STAT_ACTING_MASTER : Fld := { page := 0x2, off := 0x88, lo := 0, w := 1, acc := .ro }
/-- CLOCKS.REF_OFFSET.OFFSET (R81). -/
def REF_OFFSET_OFFSET : Fld := { page := 0x2, off := 0x8c, lo := 0, w := 32, acc := .ro }
/-- CLOCKS.CLUS_CFG.FORCE_B (R441). -/
def CLUS_CFG_FORCE_B : Fld := { page := 0x2, off := 0x40, lo := 10, w := 2, acc := .rw }
/-- CLOCKS.CLUS_CFG.C0_FLOOR_B (R441). -/
def CLUS_CFG_C0_FLOOR_B : Fld := { page := 0x2, off := 0x40, lo := 8, w := 2, acc := .rwl, ok := fun v => v ≤ 2 }
/-- CLOCKS.CLUS_CFG.FORCE_A (R441). -/
def CLUS_CFG_FORCE_A : Fld := { page := 0x2, off := 0x40, lo := 2, w := 2, acc := .rw }
/-- CLOCKS.CLUS_CFG.C0_FLOOR_A (R441). -/
def CLUS_CFG_C0_FLOOR_A : Fld := { page := 0x2, off := 0x40, lo := 0, w := 2, acc := .rwl, ok := fun v => v ≤ 2 }
/-- CLOCKS.CLUS_STAT.LOCK_B (R441). -/
def CLUS_STAT_LOCK_B : Fld := { page := 0x2, off := 0x44, lo := 12, w := 1, acc := .ro }
/-- CLOCKS.CLUS_STAT.DEFER_B (R441). -/
def CLUS_STAT_DEFER_B : Fld := { page := 0x2, off := 0x44, lo := 10, w := 2, acc := .ro }
/-- CLOCKS.CLUS_STAT.CLK_B (R441). -/
def CLUS_STAT_CLK_B : Fld := { page := 0x2, off := 0x44, lo := 8, w := 2, acc := .ro }
/-- CLOCKS.CLUS_STAT.LOCK_A (R441). -/
def CLUS_STAT_LOCK_A : Fld := { page := 0x2, off := 0x44, lo := 4, w := 1, acc := .ro }
/-- CLOCKS.CLUS_STAT.DEFER_A (R441). -/
def CLUS_STAT_DEFER_A : Fld := { page := 0x2, off := 0x44, lo := 2, w := 2, acc := .ro }
/-- CLOCKS.CLUS_STAT.CLK_A (R441). -/
def CLUS_STAT_CLK_A : Fld := { page := 0x2, off := 0x44, lo := 0, w := 2, acc := .ro }
/-- CLOCKS.CLK_HOLD.CYCLES (R441). -/
def CLK_HOLD_CYCLES : Fld := { page := 0x2, off := 0x48, lo := 0, w := 8, acc := .rw, dflt := fun _ => 16, ok := fun v => 1 ≤ v }
/-- CLOCKS.STEP_CNT.COUNT (R441). -/
def STEP_CNT_COUNT : Fld := { page := 0x2, off := 0x4c, lo := 0, w := 32, acc := .ro, cnt := 2, stride := 4 }

/-- The fields of a CLOCKS page. -/
def fields : List Fld :=
  [REF_CFG_BEACON_TMO, REF_CFG_LANE_FALLBACK, REF_CFG_SSC_RATE, REF_CFG_SSC_DEPTH, REF_CFG_SSC_EN, REF_CFG_ROLE, REF_CTRL_YIELD, REF_CTRL_TAKE, REF_STAT_MASTER_ID, REF_STAT_CLOSED, REF_STAT_WEST_PRESENT, REF_STAT_LOCKED] ++
  [REF_STAT_SOURCE, REF_STAT_ACTING_MASTER, REF_OFFSET_OFFSET, CLUS_CFG_FORCE_B, CLUS_CFG_C0_FLOOR_B, CLUS_CFG_FORCE_A, CLUS_CFG_C0_FLOOR_A, CLUS_STAT_LOCK_B, CLUS_STAT_DEFER_B, CLUS_STAT_CLK_B, CLUS_STAT_LOCK_A, CLUS_STAT_DEFER_A] ++
  [CLUS_STAT_CLK_A, CLK_HOLD_CYCLES, STEP_CNT_COUNT]

end CLOCKS

namespace PHY

/-- PHY.PHY_CTRL.RETRAIN (R82). -/
def PHY_CTRL_RETRAIN : Fld := { page := 0x8, off := 0x40, lo := 3, w := 1, acc := .w1s }
/-- PHY.PHY_CTRL.DFE_FREEZE (R82). -/
def PHY_CTRL_DFE_FREEZE : Fld := { page := 0x8, off := 0x40, lo := 2, w := 1, acc := .rw }
/-- PHY.PHY_CTRL.PRECODE_DIS (R82). -/
def PHY_CTRL_PRECODE_DIS : Fld := { page := 0x8, off := 0x40, lo := 1, w := 1, acc := .rw }
/-- PHY.PHY_CTRL.AUTO_TRAIN (R82). -/
def PHY_CTRL_AUTO_TRAIN : Fld := { page := 0x8, off := 0x40, lo := 0, w := 1, acc := .rw, dflt := fun _ => 1 }
/-- PHY.PHY_STAT.DOWN_CAUSE (R82). -/
def PHY_STAT_DOWN_CAUSE : Fld := { page := 0x8, off := 0x44, lo := 12, w := 4, acc := .ro }
/-- PHY.PHY_STAT.SYNTONISED (R82). -/
def PHY_STAT_SYNTONISED : Fld := { page := 0x8, off := 0x44, lo := 10, w := 1, acc := .ro }
/-- PHY.PHY_STAT.CW_LOCK (R82). -/
def PHY_STAT_CW_LOCK : Fld := { page := 0x8, off := 0x44, lo := 8, w := 2, acc := .ro }
/-- PHY.PHY_STAT.RX_LANES (R82). -/
def PHY_STAT_RX_LANES : Fld := { page := 0x8, off := 0x44, lo := 6, w := 2, acc := .ro }
/-- PHY.PHY_STAT.TX_LANES (R82). -/
def PHY_STAT_TX_LANES : Fld := { page := 0x8, off := 0x44, lo := 4, w := 2, acc := .ro }
/-- PHY.PHY_STAT.STATE (R82). -/
def PHY_STAT_STATE : Fld := { page := 0x8, off := 0x44, lo := 0, w := 4, acc := .ro }
/-- PHY.PHY_DOWN_CFG.HOLDOFF (R82). -/
def PHY_DOWN_CFG_HOLDOFF : Fld := { page := 0x8, off := 0x48, lo := 16, w := 16, acc := .rw, dflt := fun _ => 10, ok := fun v => 1 ≤ v && v ≤ 1000 }
/-- PHY.PHY_DOWN_CFG.UNC_LIMIT (R82). -/
def PHY_DOWN_CFG_UNC_LIMIT : Fld := { page := 0x8, off := 0x48, lo := 0, w := 16, acc := .rw, dflt := fun _ => 16 }
/-- PHY.TX_FFE.POST (R82). -/
def TX_FFE_POST : Fld := { page := 0x8, off := 0x4c, lo := 16, w := 8, acc := .rw, cnt := 2, stride := 4 }
/-- PHY.TX_FFE.MAIN (R82). -/
def TX_FFE_MAIN : Fld := { page := 0x8, off := 0x4c, lo := 8, w := 8, acc := .rw, dflt := fun _ => 127, cnt := 2, stride := 4 }
/-- PHY.TX_FFE.PRE (R82). -/
def TX_FFE_PRE : Fld := { page := 0x8, off := 0x4c, lo := 0, w := 8, acc := .rw, cnt := 2, stride := 4 }
/-- PHY.RX_EQ.CTLE (R82). -/
def RX_EQ_CTLE : Fld := { page := 0x8, off := 0x54, lo := 16, w := 4, acc := .ro, cnt := 2, stride := 4 }
/-- PHY.RX_EQ.TAP1 (R82). -/
def RX_EQ_TAP1 : Fld := { page := 0x8, off := 0x54, lo := 0, w := 16, acc := .ro, cnt := 2, stride := 4 }
/-- PHY.EYE.WIDTH (R82). -/
def EYE_WIDTH : Fld := { page := 0x8, off := 0x5c, lo := 16, w := 16, acc := .ro, cnt := 2, stride := 4 }
/-- PHY.EYE.HEIGHT (R82). -/
def EYE_HEIGHT : Fld := { page := 0x8, off := 0x5c, lo := 0, w := 16, acc := .ro, cnt := 2, stride := 4 }
/-- PHY.EYE_MIN.HEIGHT (R82). -/
def EYE_MIN_HEIGHT : Fld := { page := 0x8, off := 0x64, lo := 0, w := 16, acc := .rw, dflt := fun _ => 96 }
/-- PHY.DFE_SEL.LANE (R82). -/
def DFE_SEL_LANE : Fld := { page := 0x8, off := 0x68, lo := 4, w := 1, acc := .rw }
/-- PHY.DFE_SEL.TAP (R82). -/
def DFE_SEL_TAP : Fld := { page := 0x8, off := 0x68, lo := 0, w := 4, acc := .rw, dflt := fun _ => 1 }
/-- PHY.DFE_VAL.VALUE (R82). -/
def DFE_VAL_VALUE : Fld := { page := 0x8, off := 0x6c, lo := 0, w := 16, acc := .ro, sel := 1 }
/-- PHY.CW.COUNT (R83). -/
def CW_COUNT : Fld := { page := 0x8, off := 0x80, lo := 0, w := 64, acc := .ro, cnt := 2, stride := 24 }
/-- PHY.CORR.COUNT (R83). -/
def CORR_COUNT : Fld := { page := 0x8, off := 0x88, lo := 0, w := 64, acc := .ro, cnt := 2, stride := 24 }
/-- PHY.UNC.COUNT (R83). -/
def UNC_COUNT : Fld := { page := 0x8, off := 0x90, lo := 0, w := 64, acc := .ro, cnt := 2, stride := 24 }
/-- PHY.CNT_CLR.CLEAR (R83). -/
def CNT_CLR_CLEAR : Fld := { page := 0x8, off := 0xb0, lo := 0, w := 1, acc := .wo }

/-- The fields of a PHY page. -/
def fields : List Fld :=
  [PHY_CTRL_RETRAIN, PHY_CTRL_DFE_FREEZE, PHY_CTRL_PRECODE_DIS, PHY_CTRL_AUTO_TRAIN, PHY_STAT_DOWN_CAUSE, PHY_STAT_SYNTONISED, PHY_STAT_CW_LOCK, PHY_STAT_RX_LANES, PHY_STAT_TX_LANES, PHY_STAT_STATE, PHY_DOWN_CFG_HOLDOFF, PHY_DOWN_CFG_UNC_LIMIT] ++
  [TX_FFE_POST, TX_FFE_MAIN, TX_FFE_PRE, RX_EQ_CTLE, RX_EQ_TAP1, EYE_WIDTH, EYE_HEIGHT, EYE_MIN_HEIGHT, DFE_SEL_LANE, DFE_SEL_TAP, DFE_VAL_VALUE, CW_COUNT] ++
  [CORR_COUNT, UNC_COUNT, CNT_CLR_CLEAR]

end PHY

namespace MAC

/-- MAC.LANE_CTRL.POLICY (R85). -/
def LANE_CTRL_POLICY : Fld := { page := 0x9, off := 0x40, lo := 0, w := 2, acc := .rw, ok := fun v => v ≤ 2 }
/-- MAC.LANE_STAT.PHASE (R85). -/
def LANE_STAT_PHASE : Fld := { page := 0x9, off := 0x44, lo := 6, w := 2, acc := .ro }
/-- MAC.LANE_STAT.FAULT_WISH (R85). -/
def LANE_STAT_FAULT_WISH : Fld := { page := 0x9, off := 0x44, lo := 5, w := 1, acc := .ro }
/-- MAC.LANE_STAT.WISH (R85). -/
def LANE_STAT_WISH : Fld := { page := 0x9, off := 0x44, lo := 4, w := 1, acc := .ro }
/-- MAC.LANE_STAT.COORD (R85). -/
def LANE_STAT_COORD : Fld := { page := 0x9, off := 0x44, lo := 3, w := 1, acc := .ro }
/-- MAC.LANE_STAT.MODE (R85). -/
def LANE_STAT_MODE : Fld := { page := 0x9, off := 0x44, lo := 0, w := 2, acc := .ro, dflt := fun _ => 2 }
/-- MAC.LANE_CHG_CNT.COUNT (R85). -/
def LANE_CHG_CNT_COUNT : Fld := { page := 0x9, off := 0x48, lo := 0, w := 32, acc := .ro }
/-- MAC.LINK_DOWN_CNT.COUNT (R85). -/
def LINK_DOWN_CNT_COUNT : Fld := { page := 0x9, off := 0x4c, lo := 0, w := 32, acc := .ro }
/-- MAC.INS_PERIOD.PERIOD (R123). -/
def INS_PERIOD_PERIOD : Fld := { page := 0x9, off := 0x80, lo := 0, w := 16, acc := .rw, dflt := fun _ => 100, ok := fun v => 10 ≤ v && v ≤ 1000 }
/-- MAC.INS_QUOTA.QUOTA (R123). -/
def INS_QUOTA_QUOTA : Fld := { page := 0x9, off := 0x84, lo := 0, w := 16, acc := .rw, dflt := fun i => if i < 4 then 0xFFFF else 256, cnt := 7, stride := 4 }
/-- MAC.TRANSIT_EXP.COUNT (R124). -/
def TRANSIT_EXP_COUNT : Fld := { page := 0x9, off := 0xc0, lo := 0, w := 64, acc := .ro }
/-- MAC.TRANSIT_ORD.COUNT (R124). -/
def TRANSIT_ORD_COUNT : Fld := { page := 0x9, off := 0xc8, lo := 0, w := 64, acc := .ro }
/-- MAC.TBUF_DROP.COUNT (R124). -/
def TBUF_DROP_COUNT : Fld := { page := 0x9, off := 0xd0, lo := 0, w := 64, acc := .ro }
/-- MAC.INSERTED.COUNT (R124). -/
def INSERTED_COUNT : Fld := { page := 0x9, off := 0xd8, lo := 0, w := 64, acc := .ro }
/-- MAC.ABANDONED.COUNT (R124). -/
def ABANDONED_COUNT : Fld := { page := 0x9, off := 0xe0, lo := 0, w := 64, acc := .ro }
/-- MAC.RX_ACCEPT.COUNT (R124). -/
def RX_ACCEPT_COUNT : Fld := { page := 0x9, off := 0xe8, lo := 0, w := 64, acc := .ro }
/-- MAC.RX_DUP.COUNT (R124). -/
def RX_DUP_COUNT : Fld := { page := 0x9, off := 0xf0, lo := 0, w := 64, acc := .ro }
/-- MAC.RX_STALE.COUNT (R124). -/
def RX_STALE_COUNT : Fld := { page := 0x9, off := 0xf8, lo := 0, w := 64, acc := .ro }
/-- MAC.RX_HCHK.COUNT (R124). -/
def RX_HCHK_COUNT : Fld := { page := 0x9, off := 0x100, lo := 0, w := 64, acc := .ro }
/-- MAC.RX_CRC.COUNT (R124). -/
def RX_CRC_COUNT : Fld := { page := 0x9, off := 0x108, lo := 0, w := 64, acc := .ro }
/-- MAC.RX_TAG.COUNT (R124). -/
def RX_TAG_COUNT : Fld := { page := 0x9, off := 0x110, lo := 0, w := 64, acc := .ro }
/-- MAC.RX_MALFORMED.COUNT (R124). -/
def RX_MALFORMED_COUNT : Fld := { page := 0x9, off := 0x118, lo := 0, w := 64, acc := .ro }
/-- MAC.RX_ERRORED.COUNT (R124). -/
def RX_ERRORED_COUNT : Fld := { page := 0x9, off := 0x120, lo := 0, w := 64, acc := .ro }
/-- MAC.REMOVED_HOPS.COUNT (R124). -/
def REMOVED_HOPS_COUNT : Fld := { page := 0x9, off := 0x128, lo := 0, w := 64, acc := .ro }
/-- MAC.REMOVED_RETURN.COUNT (R124). -/
def REMOVED_RETURN_COUNT : Fld := { page := 0x9, off := 0x130, lo := 0, w := 64, acc := .ro }
/-- MAC.REMOVED_XING.COUNT (R124). -/
def REMOVED_XING_COUNT : Fld := { page := 0x9, off := 0x138, lo := 0, w := 64, acc := .ro }
/-- MAC.RX_WIN_FULL.COUNT (R124). -/
def RX_WIN_FULL_COUNT : Fld := { page := 0x9, off := 0x140, lo := 0, w := 64, acc := .ro }
/-- MAC.CNT_CLR.CLEAR (R124). -/
def CNT_CLR_CLEAR : Fld := { page := 0x9, off := 0x148, lo := 0, w := 1, acc := .wo }
/-- MAC.LAUNCH_CFG.TOL (R214). -/
def LAUNCH_CFG_TOL : Fld := { page := 0x9, off := 0x160, lo := 0, w := 16, acc := .rw, dflt := fun _ => 10, ok := fun v => 1 ≤ v && v ≤ 10000 }
/-- MAC.LAUNCH_SENT.COUNT (R214). -/
def LAUNCH_SENT_COUNT : Fld := { page := 0x9, off := 0x168, lo := 0, w := 64, acc := .ro }
/-- MAC.LAUNCH_MISS.COUNT (R214). -/
def LAUNCH_MISS_COUNT : Fld := { page := 0x9, off := 0x170, lo := 0, w := 64, acc := .ro }
/-- MAC.LAUNCH_LAST.VALID (R214). -/
def LAUNCH_LAST_VALID : Fld := { page := 0x9, off := 0x178, lo := 31, w := 1, acc := .w1c }
/-- MAC.LAUNCH_LAST.CLASS (R214). -/
def LAUNCH_LAST_CLASS : Fld := { page := 0x9, off := 0x178, lo := 28, w := 3, acc := .ro }
/-- MAC.LAUNCH_LAST.LATE (R214). -/
def LAUNCH_LAST_LATE : Fld := { page := 0x9, off := 0x178, lo := 0, w := 28, acc := .ro }

/-- The fields of a MAC page. -/
def fields : List Fld :=
  [LANE_CTRL_POLICY, LANE_STAT_PHASE, LANE_STAT_FAULT_WISH, LANE_STAT_WISH, LANE_STAT_COORD, LANE_STAT_MODE, LANE_CHG_CNT_COUNT, LINK_DOWN_CNT_COUNT, INS_PERIOD_PERIOD, INS_QUOTA_QUOTA, TRANSIT_EXP_COUNT, TRANSIT_ORD_COUNT] ++
  [TBUF_DROP_COUNT, INSERTED_COUNT, ABANDONED_COUNT, RX_ACCEPT_COUNT, RX_DUP_COUNT, RX_STALE_COUNT, RX_HCHK_COUNT, RX_CRC_COUNT, RX_TAG_COUNT, RX_MALFORMED_COUNT, RX_ERRORED_COUNT, REMOVED_HOPS_COUNT] ++
  [REMOVED_RETURN_COUNT, REMOVED_XING_COUNT, RX_WIN_FULL_COUNT, CNT_CLR_CLEAR, LAUNCH_CFG_TOL, LAUNCH_SENT_COUNT, LAUNCH_MISS_COUNT, LAUNCH_LAST_VALID, LAUNCH_LAST_CLASS, LAUNCH_LAST_LATE]

end MAC

namespace TRANSIT

/-- TRANSIT.HOP_CFG.XING_MAX (R121). -/
def HOP_CFG_XING_MAX : Fld := { page := 0xe, off := 0x40, lo := 8, w := 4, acc := .rw, dflt := fun _ => 4, ok := fun v => 1 ≤ v }
/-- TRANSIT.HOP_CFG.HOP_INIT (R121). -/
def HOP_CFG_HOP_INIT : Fld := { page := 0xe, off := 0x40, lo := 0, w := 8, acc := .rw, dflt := fun _ => 128, ok := fun v => 2 ≤ v }
/-- TRANSIT.JUNC_MAP.RINGS (R121). -/
def JUNC_MAP_RINGS : Fld := { page := 0xe, off := 0x44, lo := 0, w := 32, acc := .rwl }
/-- TRANSIT.BYP_CTRL.RELAY_WAIT (R121). -/
def BYP_CTRL_RELAY_WAIT : Fld := { page := 0xe, off := 0x48, lo := 8, w := 8, acc := .rw, dflt := fun _ => 10, ok := fun v => 6 ≤ v && v ≤ 100 }
/-- TRANSIT.BYP_CTRL.REJOIN (R121). -/
def BYP_CTRL_REJOIN : Fld := { page := 0xe, off := 0x48, lo := 1, w := 1, acc := .w1s }
/-- TRANSIT.BYP_CTRL.FORCE (R121). -/
def BYP_CTRL_FORCE : Fld := { page := 0xe, off := 0x48, lo := 0, w := 1, acc := .rw }
/-- TRANSIT.BYP_STAT.FAULT_HELD (R121). -/
def BYP_STAT_FAULT_HELD : Fld := { page := 0xe, off := 0x4c, lo := 3, w := 1, acc := .ro }
/-- TRANSIT.BYP_STAT.CAUSE (R121). -/
def BYP_STAT_CAUSE : Fld := { page := 0xe, off := 0x4c, lo := 1, w := 2, acc := .ro, dflt := fun _ => 1 }
/-- TRANSIT.BYP_STAT.BYPASSED (R121). -/
def BYP_STAT_BYPASSED : Fld := { page := 0xe, off := 0x4c, lo := 0, w := 1, acc := .ro, dflt := fun _ => 1 }
/-- TRANSIT.CMP_STAT.VALID (R121). -/
def CMP_STAT_VALID : Fld := { page := 0xe, off := 0x50, lo := 31, w := 1, acc := .w1c }
/-- TRANSIT.CMP_STAT.OUTPUT (R121). -/
def CMP_STAT_OUTPUT : Fld := { page := 0xe, off := 0x50, lo := 30, w := 1, acc := .ro }
/-- TRANSIT.CMP_STAT.KIND (R121). -/
def CMP_STAT_KIND : Fld := { page := 0xe, off := 0x50, lo := 28, w := 2, acc := .ro }
/-- TRANSIT.TBUF_STAT.WEST_LVL (R121). -/
def TBUF_STAT_WEST_LVL : Fld := { page := 0xe, off := 0x54, lo := 16, w := 11, acc := .ro }
/-- TRANSIT.TBUF_STAT.EAST_LVL (R121). -/
def TBUF_STAT_EAST_LVL : Fld := { page := 0xe, off := 0x54, lo := 0, w := 11, acc := .ro }
/-- TRANSIT.TBUF_CFG.HIGH (R121). -/
def TBUF_CFG_HIGH : Fld := { page := 0xe, off := 0x58, lo := 0, w := 11, acc := .rw, dflt := fun _ => 768, ok := fun v => 64 ≤ v && v ≤ 1024 }
/-- TRANSIT.WIN_STAT.USED (R121). -/
def WIN_STAT_USED : Fld := { page := 0xe, off := 0x5c, lo := 0, w := 13, acc := .ro }
/-- TRANSIT.SEQ_NEXT.NEXT (R121). -/
def SEQ_NEXT_NEXT : Fld := { page := 0xe, off := 0x60, lo := 0, w := 16, acc := .ro, cnt := 8, stride := 4 }

/-- The fields of a TRANSIT page. -/
def fields : List Fld :=
  [HOP_CFG_XING_MAX, HOP_CFG_HOP_INIT, JUNC_MAP_RINGS, BYP_CTRL_RELAY_WAIT, BYP_CTRL_REJOIN, BYP_CTRL_FORCE, BYP_STAT_FAULT_HELD, BYP_STAT_CAUSE, BYP_STAT_BYPASSED, CMP_STAT_VALID, CMP_STAT_OUTPUT, CMP_STAT_KIND] ++
  [TBUF_STAT_WEST_LVL, TBUF_STAT_EAST_LVL, TBUF_CFG_HIGH, WIN_STAT_USED, SEQ_NEXT_NEXT]

end TRANSIT

namespace SWITCH

/-- SWITCH.HOLD.WINDOW (R150). -/
def HOLD_WINDOW : Fld := { page := 0x10, off := 0x40, lo := 0, w := 16, acc := .rw, dflt := fun i => if i < 4 then 0 else 20, cnt := 7, stride := 4, ok := fun v => v ≤ 500 }
/-- SWITCH.PORT_STAT.STATE (R150). -/
def PORT_STAT_STATE : Fld := { page := 0x10, off := 0x60, lo := 0, w := 2, acc := .ro, cnt := 8, stride := 0, bstr := 2 }
/-- SWITCH.VOQ_DISC.COUNT (R150). -/
def VOQ_DISC_COUNT : Fld := { page := 0x10, off := 0x80, lo := 0, w := 64, acc := .ro, cnt := 8, stride := 8 }
/-- SWITCH.PDOWN_DISC.COUNT (R150). -/
def PDOWN_DISC_COUNT : Fld := { page := 0x10, off := 0xc0, lo := 0, w := 64, acc := .ro, cnt := 8, stride := 8 }
/-- SWITCH.DISC_LAST.VALID (R150). -/
def DISC_LAST_VALID : Fld := { page := 0x10, off := 0x100, lo := 31, w := 1, acc := .w1c }
/-- SWITCH.DISC_LAST.CAUSE (R150). -/
def DISC_LAST_CAUSE : Fld := { page := 0x10, off := 0x100, lo := 20, w := 3, acc := .ro }
/-- SWITCH.DISC_LAST.VOQ (R150). -/
def DISC_LAST_VOQ : Fld := { page := 0x10, off := 0x100, lo := 0, w := 9, acc := .ro }
/-- SWITCH.CNT_CLR.CLEAR (R150). -/
def CNT_CLR_CLEAR : Fld := { page := 0x10, off := 0x104, lo := 0, w := 1, acc := .wo }

/-- The fields of a SWITCH page. -/
def fields : List Fld :=
  [HOLD_WINDOW, PORT_STAT_STATE, VOQ_DISC_COUNT, PDOWN_DISC_COUNT, DISC_LAST_VALID, DISC_LAST_CAUSE, DISC_LAST_VOQ, CNT_CLR_CLEAR]

end SWITCH

namespace BUFFER

/-- BUFFER.VOQ_SEL.INDEX (R152). -/
def VOQ_SEL_INDEX : Fld := { page := 0x11, off := 0x40, lo := 0, w := 9, acc := .rw }
/-- BUFFER.VOQ_MIN.MIN (R152). -/
def VOQ_MIN_MIN : Fld := { page := 0x11, off := 0x44, lo := 0, w := 8, acc := .rw, dflt := fun v => if v / 64 = v / 8 % 8 then 0 else [6, 17, 17, 17, 0, 0, 0, 2].getD (v % 8) 0, sel := 1 }
/-- BUFFER.VOQ_STAT.HELD (R152). -/
def VOQ_STAT_HELD : Fld := { page := 0x11, off := 0x48, lo := 31, w := 1, acc := .ro, sel := 1 }
/-- BUFFER.VOQ_STAT.CELLS (R152). -/
def VOQ_STAT_CELLS : Fld := { page := 0x11, off := 0x48, lo := 16, w := 15, acc := .ro, sel := 1 }
/-- BUFFER.VOQ_STAT.FRAMES (R152). -/
def VOQ_STAT_FRAMES : Fld := { page := 0x11, off := 0x48, lo := 0, w := 12, acc := .ro, sel := 1 }
/-- BUFFER.MIN_SUM.SUM (R152). -/
def MIN_SUM_SUM : Fld := { page := 0x11, off := 0x4c, lo := 0, w := 15, acc := .ro, dflt := fun _ => 3304 }
/-- BUFFER.POOL_STAT.SHARED_USED (R152). -/
def POOL_STAT_SHARED_USED : Fld := { page := 0x11, off := 0x50, lo := 16, w := 15, acc := .ro }
/-- BUFFER.POOL_STAT.FREE (R152). -/
def POOL_STAT_FREE : Fld := { page := 0x11, off := 0x50, lo := 0, w := 15, acc := .ro, dflt := fun _ => 24576 }
/-- BUFFER.CEIL.CELLS (R152). -/
def CEIL_CELLS : Fld := { page := 0x11, off := 0x54, lo := 0, w := 15, acc := .rw, dflt := fun c => [2048, 1024, 8192, 4096, 4096, 12288, 8192, 256].getD c 0, cnt := 8, stride := 4, ok := fun v => v ≤ 24576 }
/-- BUFFER.CLASS_USED.CELLS (R152). -/
def CLASS_USED_CELLS : Fld := { page := 0x11, off := 0x74, lo := 0, w := 15, acc := .ro, cnt := 8, stride := 4 }
/-- BUFFER.AUDIT_CFG.EN (R152). -/
def AUDIT_CFG_EN : Fld := { page := 0x11, off := 0xa0, lo := 16, w := 1, acc := .rw, dflt := fun _ => 1 }
/-- BUFFER.AUDIT_CFG.PERIOD (R152). -/
def AUDIT_CFG_PERIOD : Fld := { page := 0x11, off := 0xa0, lo := 0, w := 16, acc := .rw, dflt := fun _ => 10, ok := fun v => 1 ≤ v && v ≤ 10000 }
/-- BUFFER.AUDIT_PASSES.COUNT (R152). -/
def AUDIT_PASSES_COUNT : Fld := { page := 0x11, off := 0xa4, lo := 0, w := 32, acc := .ro }
/-- BUFFER.LEAK_CNT.COUNT (R152). -/
def LEAK_CNT_COUNT : Fld := { page := 0x11, off := 0xa8, lo := 0, w := 32, acc := .ro }
/-- BUFFER.LEAK_LAST.VALID (R152). -/
def LEAK_LAST_VALID : Fld := { page := 0x11, off := 0xac, lo := 31, w := 1, acc := .w1c }
/-- BUFFER.LEAK_LAST.STATE (R152). -/
def LEAK_LAST_STATE : Fld := { page := 0x11, off := 0xac, lo := 29, w := 2, acc := .ro }
/-- BUFFER.LEAK_LAST.OWNER (R152). -/
def LEAK_LAST_OWNER : Fld := { page := 0x11, off := 0xac, lo := 20, w := 9, acc := .ro }
/-- BUFFER.LEAK_LAST.CELL (R152). -/
def LEAK_LAST_CELL : Fld := { page := 0x11, off := 0xac, lo := 0, w := 15, acc := .ro }
/-- BUFFER.BANK_STAT.FENCED (R152). -/
def BANK_STAT_FENCED : Fld := { page := 0x11, off := 0xb0, lo := 0, w := 16, acc := .ro }
/-- BUFFER.ECC_CORR.COUNT (R152). -/
def ECC_CORR_COUNT : Fld := { page := 0x11, off := 0xb4, lo := 0, w := 32, acc := .ro }
/-- BUFFER.CNT_CLR.CLEAR (R152). -/
def CNT_CLR_CLEAR : Fld := { page := 0x11, off := 0xb8, lo := 0, w := 1, acc := .wo }

/-- The fields of a BUFFER page. -/
def fields : List Fld :=
  [VOQ_SEL_INDEX, VOQ_MIN_MIN, VOQ_STAT_HELD, VOQ_STAT_CELLS, VOQ_STAT_FRAMES, MIN_SUM_SUM, POOL_STAT_SHARED_USED, POOL_STAT_FREE, CEIL_CELLS, CLASS_USED_CELLS, AUDIT_CFG_EN, AUDIT_CFG_PERIOD] ++
  [AUDIT_PASSES_COUNT, LEAK_CNT_COUNT, LEAK_LAST_VALID, LEAK_LAST_STATE, LEAK_LAST_OWNER, LEAK_LAST_CELL, BANK_STAT_FENCED, ECC_CORR_COUNT, CNT_CLR_CLEAR]

end BUFFER

namespace ARB

/-- ARB.REQ_SEL.INDEX (R154). -/
def REQ_SEL_INDEX : Fld := { page := 0x12, off := 0x40, lo := 0, w := 9, acc := .rw }
/-- ARB.REQ_CFG.PRIV (R154). -/
def REQ_CFG_PRIV : Fld := { page := 0x12, off := 0x44, lo := 16, w := 1, acc := .rw, dflt := fun v => if v % 8 < 2 then 1 else 0, sel := 1 }
/-- ARB.REQ_CFG.WAIT_LIM (R154). -/
def REQ_CFG_WAIT_LIM : Fld := { page := 0x12, off := 0x44, lo := 8, w := 8, acc := .rw, dflt := fun v => [16, 16, 16, 16, 64, 64, 64, 8].getD (v % 8) 0, sel := 1, ok := fun v => 1 ≤ v }
/-- ARB.REQ_CFG.BEANS (R154). -/
def REQ_CFG_BEANS : Fld := { page := 0x12, off := 0x44, lo := 0, w := 8, acc := .rw, dflt := fun v => [64, 64, 32, 32, 8, 4, 2, 16].getD (v % 8) 0, sel := 1 }
/-- ARB.REQ_STAT.AGE (R154). -/
def REQ_STAT_AGE : Fld := { page := 0x12, off := 0x48, lo := 16, w := 16, acc := .ro, sel := 1 }
/-- ARB.REQ_STAT.WAIT (R154). -/
def REQ_STAT_WAIT : Fld := { page := 0x12, off := 0x48, lo := 8, w := 8, acc := .ro, sel := 1 }
/-- ARB.REQ_STAT.REQUESTING (R154). -/
def REQ_STAT_REQUESTING : Fld := { page := 0x12, off := 0x48, lo := 0, w := 1, acc := .ro, sel := 1 }
/-- ARB.RSV_CFG0.RSV_EVERY (R154). -/
def RSV_CFG0_RSV_EVERY : Fld := { page := 0x12, off := 0x4c, lo := 0, w := 8, acc := .rw, dflt := fun _ => 4, cnt := 4, stride := 0, bstr := 8, ok := fun v => v = 0 || (2 ≤ v && v ≤ 64) }
/-- ARB.RSV_CFG1.RSV_EVERY (R154). -/
def RSV_CFG1_RSV_EVERY : Fld := { page := 0x12, off := 0x50, lo := 0, w := 8, acc := .rw, dflt := fun _ => 4, cnt := 4, stride := 0, bstr := 8, ok := fun v => v = 0 || (2 ≤ v && v ≤ 64) }
/-- ARB.LFSR_SEL.OUTPUT (R154). -/
def LFSR_SEL_OUTPUT : Fld := { page := 0x12, off := 0x54, lo := 0, w := 3, acc := .rw }
/-- ARB.LFSR_VAL.VALUE (R154). -/
def LFSR_VAL_VALUE : Fld := { page := 0x12, off := 0x58, lo := 0, w := 32, acc := .ro, dflt := fun p => 0x10000001 + p, sel := 2 }
/-- ARB.LFSR_SEED.SEED (R154). -/
def LFSR_SEED_SEED : Fld := { page := 0x12, off := 0x5c, lo := 0, w := 32, acc := .wo }
/-- ARB.GRANT_CNT.COUNT (R154). -/
def GRANT_CNT_COUNT : Fld := { page := 0x12, off := 0x80, lo := 0, w := 32, acc := .ro, cnt := 8, stride := 4 }
/-- ARB.FORCED_CNT.COUNT (R154). -/
def FORCED_CNT_COUNT : Fld := { page := 0x12, off := 0xa0, lo := 0, w := 32, acc := .ro, cnt := 8, stride := 4 }
/-- ARB.RESERVED_CNT.COUNT (R154). -/
def RESERVED_CNT_COUNT : Fld := { page := 0x12, off := 0xc0, lo := 0, w := 32, acc := .ro, cnt := 8, stride := 4 }

/-- The fields of a ARB page. -/
def fields : List Fld :=
  [REQ_SEL_INDEX, REQ_CFG_PRIV, REQ_CFG_WAIT_LIM, REQ_CFG_BEANS, REQ_STAT_AGE, REQ_STAT_WAIT, REQ_STAT_REQUESTING, RSV_CFG0_RSV_EVERY, RSV_CFG1_RSV_EVERY, LFSR_SEL_OUTPUT, LFSR_VAL_VALUE, LFSR_SEED_SEED] ++
  [GRANT_CNT_COUNT, FORCED_CNT_COUNT, RESERVED_CNT_COUNT]

end ARB

namespace TWINLINK

/-- TWINLINK.LINK_CTRL.RETRAIN (R185). -/
def LINK_CTRL_RETRAIN : Fld := { page := 0xc, off := 0x40, lo := 2, w := 1, acc := .w1s }
/-- TWINLINK.LINK_CTRL.DFE_FREEZE (R185). -/
def LINK_CTRL_DFE_FREEZE : Fld := { page := 0xc, off := 0x40, lo := 1, w := 1, acc := .rw }
/-- TWINLINK.LINK_CTRL.AUTO_TRAIN (R185). -/
def LINK_CTRL_AUTO_TRAIN : Fld := { page := 0xc, off := 0x40, lo := 0, w := 1, acc := .rw, dflt := fun _ => 1 }
/-- TWINLINK.LINK_STAT.INDEX_CLASH (R185). -/
def LINK_STAT_INDEX_CLASH : Fld := { page := 0xc, off := 0x44, lo := 13, w := 1, acc := .ro }
/-- TWINLINK.LINK_STAT.SYNTONISED (R185). -/
def LINK_STAT_SYNTONISED : Fld := { page := 0xc, off := 0x44, lo := 12, w := 1, acc := .ro }
/-- TWINLINK.LINK_STAT.DOWN_CAUSE (R185). -/
def LINK_STAT_DOWN_CAUSE : Fld := { page := 0xc, off := 0x44, lo := 8, w := 4, acc := .ro }
/-- TWINLINK.LINK_STAT.MODE (R185). -/
def LINK_STAT_MODE : Fld := { page := 0xc, off := 0x44, lo := 4, w := 2, acc := .ro }
/-- TWINLINK.LINK_STAT.STATE (R185). -/
def LINK_STAT_STATE : Fld := { page := 0xc, off := 0x44, lo := 0, w := 4, acc := .ro }
/-- TWINLINK.TX_FFE.POST (R185). -/
def TX_FFE_POST : Fld := { page := 0xc, off := 0x48, lo := 16, w := 8, acc := .rw }
/-- TWINLINK.TX_FFE.MAIN (R185). -/
def TX_FFE_MAIN : Fld := { page := 0xc, off := 0x48, lo := 8, w := 8, acc := .rw, dflt := fun _ => 127 }
/-- TWINLINK.TX_FFE.PRE (R185). -/
def TX_FFE_PRE : Fld := { page := 0xc, off := 0x48, lo := 0, w := 8, acc := .rw }
/-- TWINLINK.RX_EQ.CTLE (R185). -/
def RX_EQ_CTLE : Fld := { page := 0xc, off := 0x4c, lo := 16, w := 4, acc := .ro }
/-- TWINLINK.RX_EQ.TAP1 (R185). -/
def RX_EQ_TAP1 : Fld := { page := 0xc, off := 0x4c, lo := 0, w := 16, acc := .ro }
/-- TWINLINK.EYE.WIDTH (R185). -/
def EYE_WIDTH : Fld := { page := 0xc, off := 0x50, lo := 16, w := 16, acc := .ro }
/-- TWINLINK.EYE.HEIGHT (R185). -/
def EYE_HEIGHT : Fld := { page := 0xc, off := 0x50, lo := 0, w := 16, acc := .ro }
/-- TWINLINK.DOWN_CFG.HOLDOFF (R185). -/
def DOWN_CFG_HOLDOFF : Fld := { page := 0xc, off := 0x54, lo := 16, w := 16, acc := .rw, dflt := fun _ => 10, ok := fun v => 1 ≤ v && v ≤ 1000 }
/-- TWINLINK.DOWN_CFG.UNC_LIMIT (R185). -/
def DOWN_CFG_UNC_LIMIT : Fld := { page := 0xc, off := 0x54, lo := 0, w := 16, acc := .rw, dflt := fun _ => 16 }
/-- TWINLINK.CW.COUNT (R185). -/
def CW_COUNT : Fld := { page := 0xc, off := 0x80, lo := 0, w := 64, acc := .ro }
/-- TWINLINK.CORR.COUNT (R185). -/
def CORR_COUNT : Fld := { page := 0xc, off := 0x88, lo := 0, w := 64, acc := .ro }
/-- TWINLINK.UNC.COUNT (R185). -/
def UNC_COUNT : Fld := { page := 0xc, off := 0x90, lo := 0, w := 64, acc := .ro }
/-- TWINLINK.SLIP.COUNT (R185). -/
def SLIP_COUNT : Fld := { page := 0xc, off := 0x98, lo := 0, w := 64, acc := .ro }
/-- TWINLINK.CNT_CLR.CLEAR (R185). -/
def CNT_CLR_CLEAR : Fld := { page := 0xc, off := 0xa0, lo := 0, w := 1, acc := .wo }

/-- The fields of a TWINLINK page. -/
def fields : List Fld :=
  [LINK_CTRL_RETRAIN, LINK_CTRL_DFE_FREEZE, LINK_CTRL_AUTO_TRAIN, LINK_STAT_INDEX_CLASH, LINK_STAT_SYNTONISED, LINK_STAT_DOWN_CAUSE, LINK_STAT_MODE, LINK_STAT_STATE, TX_FFE_POST, TX_FFE_MAIN, TX_FFE_PRE, RX_EQ_CTLE] ++
  [RX_EQ_TAP1, EYE_WIDTH, EYE_HEIGHT, DOWN_CFG_HOLDOFF, DOWN_CFG_UNC_LIMIT, CW_COUNT, CORR_COUNT, UNC_COUNT, SLIP_COUNT, CNT_CLR_CLEAR]

end TWINLINK

namespace TWIN

/-- TWIN.ROLE_CFG.ALONE_WAIT (R187). -/
def ROLE_CFG_ALONE_WAIT : Fld := { page := 0xd, off := 0x40, lo := 24, w := 8, acc := .rw, dflt := fun _ => 20, ok := fun v => 1 ≤ v && v ≤ 100 }
/-- TWIN.ROLE_CFG.OWN_SETTLE (R187). -/
def ROLE_CFG_OWN_SETTLE : Fld := { page := 0xd, off := 0x40, lo := 16, w := 8, acc := .rw, dflt := fun _ => 20, ok := fun v => 10 ≤ v && v ≤ 100 }
/-- TWIN.ROLE_CFG.HB_TMO (R187). -/
def ROLE_CFG_HB_TMO : Fld := { page := 0xd, off := 0x40, lo := 8, w := 8, acc := .rw, dflt := fun _ => 4, ok := fun v => 2 ≤ v && v ≤ 100 }
/-- TWIN.ROLE_CFG.PREFER (R187). -/
def ROLE_CFG_PREFER : Fld := { page := 0xd, off := 0x40, lo := 0, w := 2, acc := .rw, ok := fun v => v ≤ 2 }
/-- TWIN.CTRL.HANDOVER (R187). -/
def CTRL_HANDOVER : Fld := { page := 0xd, off := 0x44, lo := 0, w := 1, acc := .w1s }
/-- TWIN.POUR_CFG.ENG_MASK (R187). -/
def POUR_CFG_ENG_MASK : Fld := { page := 0xd, off := 0x48, lo := 0, w := 16, acc := .rwl, dflt := fun _ => 65535 }
/-- TWIN.STAT.LAST_CAUSE (R187). -/
def STAT_LAST_CAUSE : Fld := { page := 0xd, off := 0x4c, lo := 16, w := 4, acc := .ro }
/-- TWIN.STAT.DRIVES (R187). -/
def STAT_DRIVES : Fld := { page := 0xd, off := 0x4c, lo := 12, w := 2, acc := .ro }
/-- TWIN.STAT.HANDOVER_PEND (R187). -/
def STAT_HANDOVER_PEND : Fld := { page := 0xd, off := 0x4c, lo := 11, w := 1, acc := .ro }
/-- TWIN.STAT.STEP_ALL (R187). -/
def STAT_STEP_ALL : Fld := { page := 0xd, off := 0x4c, lo := 10, w := 1, acc := .ro }
/-- TWIN.STAT.REC_VALID (R187). -/
def STAT_REC_VALID : Fld := { page := 0xd, off := 0x4c, lo := 9, w := 1, acc := .ro }
/-- TWIN.STAT.INDEX (R187). -/
def STAT_INDEX : Fld := { page := 0xd, off := 0x4c, lo := 8, w := 1, acc := .ro }
/-- TWIN.STAT.PEER_SEEN (R187). -/
def STAT_PEER_SEEN : Fld := { page := 0xd, off := 0x4c, lo := 7, w := 1, acc := .ro }
/-- TWIN.STAT.DRIVERS (R187). -/
def STAT_DRIVERS : Fld := { page := 0xd, off := 0x4c, lo := 6, w := 1, acc := .ro }
/-- TWIN.STAT.OWN_IN (R187). -/
def STAT_OWN_IN : Fld := { page := 0xd, off := 0x4c, lo := 5, w := 1, acc := .ro }
/-- TWIN.STAT.OWN_OUT (R187). -/
def STAT_OWN_OUT : Fld := { page := 0xd, off := 0x4c, lo := 4, w := 1, acc := .ro }
/-- TWIN.STAT.PEER_ROLE (R187). -/
def STAT_PEER_ROLE : Fld := { page := 0xd, off := 0x4c, lo := 2, w := 2, acc := .ro }
/-- TWIN.STAT.ROLE (R187). -/
def STAT_ROLE : Fld := { page := 0xd, off := 0x4c, lo := 0, w := 2, acc := .ro }
/-- TWIN.REC_CYCLE.CYCLE (R187). -/
def REC_CYCLE_CYCLE : Fld := { page := 0xd, off := 0x50, lo := 0, w := 64, acc := .ro }
/-- TWIN.POUR_TIME.MAX (R187). -/
def POUR_TIME_MAX : Fld := { page := 0xd, off := 0x58, lo := 16, w := 16, acc := .ro }
/-- TWIN.POUR_TIME.LAST (R187). -/
def POUR_TIME_LAST : Fld := { page := 0xd, off := 0x58, lo := 0, w := 16, acc := .ro }
/-- TWIN.SNAP_SENT.COUNT (R187). -/
def SNAP_SENT_COUNT : Fld := { page := 0xd, off := 0x5c, lo := 0, w := 32, acc := .ro }
/-- TWIN.SNAP_OK.COUNT (R187). -/
def SNAP_OK_COUNT : Fld := { page := 0xd, off := 0x60, lo := 0, w := 32, acc := .ro }
/-- TWIN.SNAP_PARTIAL.COUNT (R187). -/
def SNAP_PARTIAL_COUNT : Fld := { page := 0xd, off := 0x64, lo := 0, w := 32, acc := .ro }
/-- TWIN.SNAP_LATE.COUNT (R187). -/
def SNAP_LATE_COUNT : Fld := { page := 0xd, off := 0x68, lo := 0, w := 32, acc := .ro }
/-- TWIN.TAKEOVERS.COUNT (R187). -/
def TAKEOVERS_COUNT : Fld := { page := 0xd, off := 0x6c, lo := 0, w := 32, acc := .ro }
/-- TWIN.EP0_DROP.COUNT (R187). -/
def EP0_DROP_COUNT : Fld := { page := 0xd, off := 0x70, lo := 0, w := 32, acc := .ro }
/-- TWIN.DIVERGE_CNT.COUNT (R187). -/
def DIVERGE_CNT_COUNT : Fld := { page := 0xd, off := 0x74, lo := 0, w := 32, acc := .ro }
/-- TWIN.STEP_SEL.ENGINE (R187). -/
def STEP_SEL_ENGINE : Fld := { page := 0xd, off := 0x78, lo := 0, w := 4, acc := .rw }
/-- TWIN.STEP_MAP.IN_STEP (R187). -/
def STEP_MAP_IN_STEP : Fld := { page := 0xd, off := 0x7c, lo := 0, w := 32, acc := .ro, sel := 1 }
/-- TWIN.PEER_ADDR.WRITE (R187). -/
def PEER_ADDR_WRITE : Fld := { page := 0xd, off := 0x80, lo := 31, w := 1, acc := .rw }
/-- TWIN.PEER_ADDR.WORD (R187). -/
def PEER_ADDR_WORD : Fld := { page := 0xd, off := 0x80, lo := 0, w := 22, acc := .rw }
/-- TWIN.PEER_WDATA.DATA (R187). -/
def PEER_WDATA_DATA : Fld := { page := 0xd, off := 0x84, lo := 0, w := 32, acc := .rw }
/-- TWIN.PEER_RDATA.DATA (R187). -/
def PEER_RDATA_DATA : Fld := { page := 0xd, off := 0x88, lo := 0, w := 32, acc := .ro }
/-- TWIN.PEER_CMD.CAUSE (R187). -/
def PEER_CMD_CAUSE : Fld := { page := 0xd, off := 0x8c, lo := 4, w := 3, acc := .ro }
/-- TWIN.PEER_CMD.STATUS (R187). -/
def PEER_CMD_STATUS : Fld := { page := 0xd, off := 0x8c, lo := 1, w := 2, acc := .ro }
/-- TWIN.PEER_CMD.GO (R187). -/
def PEER_CMD_GO : Fld := { page := 0xd, off := 0x8c, lo := 0, w := 1, acc := .w1s }
/-- TWIN.CNT_CLR.CLEAR (R187). -/
def CNT_CLR_CLEAR : Fld := { page := 0xd, off := 0x90, lo := 0, w := 1, acc := .wo }

/-- The fields of a TWIN page. -/
def fields : List Fld :=
  [ROLE_CFG_ALONE_WAIT, ROLE_CFG_OWN_SETTLE, ROLE_CFG_HB_TMO, ROLE_CFG_PREFER, CTRL_HANDOVER, POUR_CFG_ENG_MASK, STAT_LAST_CAUSE, STAT_DRIVES, STAT_HANDOVER_PEND, STAT_STEP_ALL, STAT_REC_VALID, STAT_INDEX] ++
  [STAT_PEER_SEEN, STAT_DRIVERS, STAT_OWN_IN, STAT_OWN_OUT, STAT_PEER_ROLE, STAT_ROLE, REC_CYCLE_CYCLE, POUR_TIME_MAX, POUR_TIME_LAST, SNAP_SENT_COUNT, SNAP_OK_COUNT, SNAP_PARTIAL_COUNT] ++
  [SNAP_LATE_COUNT, TAKEOVERS_COUNT, EP0_DROP_COUNT, DIVERGE_CNT_COUNT, STEP_SEL_ENGINE, STEP_MAP_IN_STEP, PEER_ADDR_WRITE, PEER_ADDR_WORD, PEER_WDATA_DATA, PEER_RDATA_DATA, PEER_CMD_CAUSE, PEER_CMD_STATUS] ++
  [PEER_CMD_GO, CNT_CLR_CLEAR]

end TWIN

namespace TOUT

/-- TOUT.CFG.EDGE_IRQ (R218). -/
def CFG_EDGE_IRQ : Fld := { page := 0x5, off := 0x40, lo := 5, w := 1, acc := .rw, cnt := 4, stride := 32 }
/-- TOUT.CFG.OWN_GATE (R218). -/
def CFG_OWN_GATE : Fld := { page := 0x5, off := 0x40, lo := 4, w := 1, acc := .rw, dflt := fun _ => 1, cnt := 4, stride := 32 }
/-- TOUT.CFG.ALIGN_SEC (R218). -/
def CFG_ALIGN_SEC : Fld := { page := 0x5, off := 0x40, lo := 3, w := 1, acc := .rw, cnt := 4, stride := 32 }
/-- TOUT.CFG.POL (R218). -/
def CFG_POL : Fld := { page := 0x5, off := 0x40, lo := 2, w := 1, acc := .rw, cnt := 4, stride := 32 }
/-- TOUT.CFG.MODE (R218). -/
def CFG_MODE : Fld := { page := 0x5, off := 0x40, lo := 0, w := 2, acc := .rw, cnt := 4, stride := 32, ok := fun v => v ≤ 2 }
/-- TOUT.START0.FRAC (R218). -/
def START0_FRAC : Fld := { page := 0x5, off := 0x44, lo := 16, w := 16, acc := .rw, cnt := 4, stride := 32 }
/-- TOUT.START0.SEC_HI (R218). -/
def START0_SEC_HI : Fld := { page := 0x5, off := 0x44, lo := 0, w := 16, acc := .rw, cnt := 4, stride := 32 }
/-- TOUT.START1.NS (R218). -/
def START1_NS : Fld := { page := 0x5, off := 0x48, lo := 0, w := 30, acc := .rw, cnt := 4, stride := 32, ok := fun v => v ≤ 999999999 }
/-- TOUT.START2.SEC_LO (R218). -/
def START2_SEC_LO : Fld := { page := 0x5, off := 0x4c, lo := 0, w := 32, acc := .rw, cnt := 4, stride := 32 }
/-- TOUT.PERIOD.NS (R218). -/
def PERIOD_NS : Fld := { page := 0x5, off := 0x50, lo := 0, w := 32, acc := .rw, dflt := fun _ => 1000000000, cnt := 4, stride := 32, ok := fun v => 100 ≤ v && v ≤ 4000000000 }
/-- TOUT.WIDTH.NS (R218). -/
def WIDTH_NS : Fld := { page := 0x5, off := 0x54, lo := 0, w := 32, acc := .rw, dflt := fun _ => 100000, cnt := 4, stride := 32 }
/-- TOUT.CTRL.DISARM (R218). -/
def CTRL_DISARM : Fld := { page := 0x5, off := 0x58, lo := 1, w := 1, acc := .w1s, cnt := 4, stride := 32 }
/-- TOUT.CTRL.ARM (R218). -/
def CTRL_ARM : Fld := { page := 0x5, off := 0x58, lo := 0, w := 1, acc := .w1s, cnt := 4, stride := 32 }
/-- TOUT.STAT.EDGES (R218). -/
def STAT_EDGES : Fld := { page := 0x5, off := 0x5c, lo := 16, w := 16, acc := .ro, cnt := 4, stride := 32 }
/-- TOUT.STAT.LEVEL (R218). -/
def STAT_LEVEL : Fld := { page := 0x5, off := 0x5c, lo := 1, w := 1, acc := .ro, cnt := 4, stride := 32 }
/-- TOUT.STAT.ARMED (R218). -/
def STAT_ARMED : Fld := { page := 0x5, off := 0x5c, lo := 0, w := 1, acc := .ro, cnt := 4, stride := 32 }

/-- The fields of a TOUT page. -/
def fields : List Fld :=
  [CFG_EDGE_IRQ, CFG_OWN_GATE, CFG_ALIGN_SEC, CFG_POL, CFG_MODE, START0_FRAC, START0_SEC_HI, START1_NS, START2_SEC_LO, PERIOD_NS, WIDTH_NS, CTRL_DISARM] ++
  [CTRL_ARM, STAT_EDGES, STAT_LEVEL, STAT_ARMED]

end TOUT

namespace TIME

/-- TIME.NOW0.FRAC (R220). -/
def NOW0_FRAC : Fld := { page := 0x4, off := 0x40, lo := 16, w := 16, acc := .ro }
/-- TIME.NOW0.SEC_HI (R220). -/
def NOW0_SEC_HI : Fld := { page := 0x4, off := 0x40, lo := 0, w := 16, acc := .ro }
/-- TIME.NOW1.NS (R220). -/
def NOW1_NS : Fld := { page := 0x4, off := 0x44, lo := 0, w := 30, acc := .ro }
/-- TIME.NOW2.SEC_LO (R220). -/
def NOW2_SEC_LO : Fld := { page := 0x4, off := 0x48, lo := 0, w := 32, acc := .ro }
/-- TIME.CFG.PRIORITY1 (R220). -/
def CFG_PRIORITY1 : Fld := { page := 0x4, off := 0x4c, lo := 24, w := 8, acc := .rw, dflt := fun _ => 128 }
/-- TIME.CFG.PRIORITY2 (R220). -/
def CFG_PRIORITY2 : Fld := { page := 0x4, off := 0x4c, lo := 16, w := 8, acc := .rw, dflt := fun _ => 128 }
/-- TIME.CFG.LOG_SYNC (R220). -/
def CFG_LOG_SYNC : Fld := { page := 0x4, off := 0x4c, lo := 13, w := 3, acc := .rw, dflt := fun _ => 3 }
/-- TIME.CFG.LOG_DREQ (R220). -/
def CFG_LOG_DREQ : Fld := { page := 0x4, off := 0x4c, lo := 10, w := 3, acc := .rw, dflt := fun _ => 4 }
/-- TIME.CFG.JUNC_TIME (R220). -/
def CFG_JUNC_TIME : Fld := { page := 0x4, off := 0x4c, lo := 9, w := 1, acc := .rw }
/-- TIME.CFG.GM_CAND (R220). -/
def CFG_GM_CAND : Fld := { page := 0x4, off := 0x4c, lo := 8, w := 1, acc := .rw }
/-- TIME.CFG.DOMAIN (R220). -/
def CFG_DOMAIN : Fld := { page := 0x4, off := 0x4c, lo := 0, w := 8, acc := .rw }
/-- TIME.GM_CLASS.ACCURACY (R220). -/
def GM_CLASS_ACCURACY : Fld := { page := 0x4, off := 0x50, lo := 8, w := 8, acc := .rw, dflt := fun _ => 254 }
/-- TIME.GM_CLASS.CLASS (R220). -/
def GM_CLASS_CLASS : Fld := { page := 0x4, off := 0x50, lo := 0, w := 8, acc := .rw, dflt := fun _ => 248 }
/-- TIME.SERVO_CFG.ALARM (R220). -/
def SERVO_CFG_ALARM : Fld := { page := 0x4, off := 0x54, lo := 16, w := 16, acc := .rw, dflt := fun _ => 1000, ok := fun v => 100 ≤ v }
/-- TIME.SERVO_CFG.SLEW_MAX (R220). -/
def SERVO_CFG_SLEW_MAX : Fld := { page := 0x4, off := 0x54, lo := 8, w := 8, acc := .rw, dflt := fun _ => 10, ok := fun v => 1 ≤ v && v ≤ 100 }
/-- TIME.SERVO_CFG.KI (R220). -/
def SERVO_CFG_KI : Fld := { page := 0x4, off := 0x54, lo := 4, w := 4, acc := .rw, dflt := fun _ => 4 }
/-- TIME.SERVO_CFG.KP (R220). -/
def SERVO_CFG_KP : Fld := { page := 0x4, off := 0x54, lo := 0, w := 4, acc := .rw, dflt := fun _ => 1 }
/-- TIME.CTRL.HOLD (R220). -/
def CTRL_HOLD : Fld := { page := 0x4, off := 0x58, lo := 2, w := 1, acc := .rw }
/-- TIME.CTRL.STEP_GO (R220). -/
def CTRL_STEP_GO : Fld := { page := 0x4, off := 0x58, lo := 1, w := 1, acc := .w1s }
/-- TIME.CTRL.STEP_ARM (R220). -/
def CTRL_STEP_ARM : Fld := { page := 0x4, off := 0x58, lo := 0, w := 1, acc := .w1s, dflt := fun _ => 1 }
/-- TIME.STEP0.FRAC (R220). -/
def STEP0_FRAC : Fld := { page := 0x4, off := 0x5c, lo := 16, w := 16, acc := .rw }
/-- TIME.STEP0.SEC_HI (R220). -/
def STEP0_SEC_HI : Fld := { page := 0x4, off := 0x5c, lo := 0, w := 16, acc := .rw }
/-- TIME.STEP1.NS (R220). -/
def STEP1_NS : Fld := { page := 0x4, off := 0x60, lo := 0, w := 30, acc := .rw, ok := fun v => v ≤ 999999999 }
/-- TIME.STEP2.SEC_LO (R220). -/
def STEP2_SEC_LO : Fld := { page := 0x4, off := 0x64, lo := 0, w := 32, acc := .rw }
/-- TIME.RATE.RATE (R220). -/
def RATE : Fld := { page := 0x4, off := 0x68, lo := 0, w := 32, acc := .rw, ok := fun v => v ≤ 274877907 || 0x100000000 - 274877907 ≤ v }
/-- TIME.STAT.GM_NODE (R220). -/
def STAT_GM_NODE : Fld := { page := 0x4, off := 0x6c, lo := 16, w := 12, acc := .ro }
/-- TIME.STAT.PATH (R220). -/
def STAT_PATH : Fld := { page := 0x4, off := 0x6c, lo := 5, w := 1, acc := .ro }
/-- TIME.STAT.GM (R220). -/
def STAT_GM : Fld := { page := 0x4, off := 0x6c, lo := 4, w := 1, acc := .ro }
/-- TIME.STAT.STATE (R220). -/
def STAT_STATE : Fld := { page := 0x4, off := 0x6c, lo := 0, w := 3, acc := .ro, dflt := fun _ => 1 }
/-- TIME.OFFSET.OFFSET (R220). -/
def OFFSET : Fld := { page := 0x4, off := 0x70, lo := 0, w := 32, acc := .ro }
/-- TIME.MPD.DELAY (R220). -/
def MPD_DELAY : Fld := { page := 0x4, off := 0x74, lo := 0, w := 32, acc := .ro, cnt := 2, stride := 4 }
/-- TIME.ASYM.ASYM (R220). -/
def ASYM : Fld := { page := 0x4, off := 0x7c, lo := 0, w := 32, acc := .rwl, cnt := 2, stride := 4, ok := fun v => v ≤ 6553600 || 0x100000000 - 6553600 ≤ v }
/-- TIME.SEG_DELAY.DELAY (R220). -/
def SEG_DELAY_DELAY : Fld := { page := 0x4, off := 0x84, lo := 0, w := 32, acc := .ro, cnt := 2, stride := 4 }
/-- TIME.UTC.VALID (R220). -/
def UTC_VALID : Fld := { page := 0x4, off := 0x8c, lo := 16, w := 1, acc := .ro }
/-- TIME.UTC.OFFSET (R220). -/
def UTC_OFFSET : Fld := { page := 0x4, off := 0x8c, lo := 0, w := 16, acc := .ro }
/-- TIME.SYNC_RX.COUNT (R220). -/
def SYNC_RX_COUNT : Fld := { page := 0x4, off := 0x90, lo := 0, w := 32, acc := .ro }
/-- TIME.SYNC_REJ.COUNT (R220). -/
def SYNC_REJ_COUNT : Fld := { page := 0x4, off := 0x94, lo := 0, w := 32, acc := .ro }
/-- TIME.DREQ_RX.COUNT (R220). -/
def DREQ_RX_COUNT : Fld := { page := 0x4, off := 0x98, lo := 0, w := 32, acc := .ro }
/-- TIME.CNT_CLR.CLEAR (R220). -/
def CNT_CLR_CLEAR : Fld := { page := 0x4, off := 0x9c, lo := 0, w := 1, acc := .wo }

/-- The fields of a TIME page. -/
def fields : List Fld :=
  [NOW0_FRAC, NOW0_SEC_HI, NOW1_NS, NOW2_SEC_LO, CFG_PRIORITY1, CFG_PRIORITY2, CFG_LOG_SYNC, CFG_LOG_DREQ, CFG_JUNC_TIME, CFG_GM_CAND, CFG_DOMAIN, GM_CLASS_ACCURACY] ++
  [GM_CLASS_CLASS, SERVO_CFG_ALARM, SERVO_CFG_SLEW_MAX, SERVO_CFG_KI, SERVO_CFG_KP, CTRL_HOLD, CTRL_STEP_GO, CTRL_STEP_ARM, STEP0_FRAC, STEP0_SEC_HI, STEP1_NS, STEP2_SEC_LO] ++
  [RATE, STAT_GM_NODE, STAT_PATH, STAT_GM, STAT_STATE, OFFSET, MPD_DELAY, ASYM, SEG_DELAY_DELAY, UTC_VALID, UTC_OFFSET, SYNC_RX_COUNT] ++
  [SYNC_REJ_COUNT, DREQ_RX_COUNT, CNT_CLR_CLEAR]

end TIME

namespace ENG

/-- ENG.ENG_CFG.URGENT (R248). -/
def ENG_CFG_URGENT : Fld := { page := 0x20, off := 0x40, lo := 16, w := 16, acc := .rw, dflt := fun _ => 50 }
/-- ENG.ENG_STAT.CLOCK (R248). -/
def ENG_STAT_CLOCK : Fld := { page := 0x20, off := 0x44, lo := 24, w := 2, acc := .ro }
/-- ENG.ENG_STAT.BANK (R248). -/
def ENG_STAT_BANK : Fld := { page := 0x20, off := 0x44, lo := 23, w := 1, acc := .ro }
/-- ENG.ENG_STAT.LAST_CTX (R248). -/
def ENG_STAT_LAST_CTX : Fld := { page := 0x20, off := 0x44, lo := 16, w := 5, acc := .ro }
/-- ENG.ENG_STAT.READY_N (R248). -/
def ENG_STAT_READY_N : Fld := { page := 0x20, off := 0x44, lo := 0, w := 6, acc := .ro }
/-- ENG.FLAGS.FLAG (R248). -/
def FLAGS_FLAG : Fld := { page := 0x20, off := 0x48, lo := 0, w := 8, acc := .rw }
/-- ENG.EV_CTX.RAISED (R248). -/
def EV_CTX_RAISED : Fld := { page := 0x20, off := 0x4c, lo := 0, w := 32, acc := .w1c }
/-- ENG.RUN_MAP.RUN (R248). -/
def RUN_MAP_RUN : Fld := { page := 0x20, off := 0x50, lo := 0, w := 32, acc := .ro }
/-- ENG.STALL_MAP.STALLED (R248). -/
def STALL_MAP_STALLED : Fld := { page := 0x20, off := 0x54, lo := 0, w := 32, acc := .ro }
/-- ENG.DEFER_MAP.DEFERRED (R248). -/
def DEFER_MAP_DEFERRED : Fld := { page := 0x20, off := 0x58, lo := 0, w := 32, acc := .ro }
/-- ENG.SNAP_CTRL.DONE (R248). -/
def SNAP_CTRL_DONE : Fld := { page := 0x20, off := 0x5c, lo := 6, w := 1, acc := .ro, dflt := fun _ => 1 }
/-- ENG.SNAP_CTRL.GO (R248). -/
def SNAP_CTRL_GO : Fld := { page := 0x20, off := 0x5c, lo := 5, w := 1, acc := .w1s }
/-- ENG.SNAP_CTRL.CONTEXT (R248). -/
def SNAP_CTRL_CONTEXT : Fld := { page := 0x20, off := 0x5c, lo := 0, w := 5, acc := .rw }
/-- ENG.DISP.COUNT (R248). -/
def DISP_COUNT : Fld := { page := 0x20, off := 0x60, lo := 0, w := 64, acc := .ro }
/-- ENG.DEFER_CNT.COUNT (R248). -/
def DEFER_CNT_COUNT : Fld := { page := 0x20, off := 0x68, lo := 0, w := 32, acc := .ro }
/-- ENG.LATE_CNT.COUNT (R248). -/
def LATE_CNT_COUNT : Fld := { page := 0x20, off := 0x6c, lo := 0, w := 32, acc := .ro }
/-- ENG.OVERRUN_CNT.COUNT (R248). -/
def OVERRUN_CNT_COUNT : Fld := { page := 0x20, off := 0x70, lo := 0, w := 32, acc := .ro }
/-- ENG.FRM_DROP_CNT.COUNT (R248). -/
def FRM_DROP_CNT_COUNT : Fld := { page := 0x20, off := 0x74, lo := 0, w := 32, acc := .ro }
/-- ENG.CNT_CLR.CLEAR (R248). -/
def CNT_CLR_CLEAR : Fld := { page := 0x20, off := 0x78, lo := 0, w := 1, acc := .wo }
/-- ENG.BC_LEN.NS (R248). -/
def BC_LEN_NS : Fld := { page := 0x20, off := 0x80, lo := 0, w := 32, acc := .rw, dflt := fun _ => 100000, ok := fun v => 10000 ≤ v && v ≤ 100000000 && 1000000000 % v = 0 }
/-- ENG.BC_PHASE.NS (R248). -/
def BC_PHASE_NS : Fld := { page := 0x20, off := 0x84, lo := 0, w := 32, acc := .rw }
/-- ENG.BC_NUM.CYCLE (R248). -/
def BC_NUM_CYCLE : Fld := { page := 0x20, off := 0x88, lo := 0, w := 64, acc := .ro }
/-- ENG.CTX_SEL.CONTEXT (R248). -/
def CTX_SEL_CONTEXT : Fld := { page := 0x20, off := 0x90, lo := 0, w := 5, acc := .rw }
/-- ENG.FIFO_CTRL.SW_OVF (R248). -/
def FIFO_CTRL_SW_OVF : Fld := { page := 0x20, off := 0x94, lo := 2, w := 1, acc := .w1c, sel := 1 }
/-- ENG.FIFO_CTRL.RX_FLUSH (R248). -/
def FIFO_CTRL_RX_FLUSH : Fld := { page := 0x20, off := 0x94, lo := 1, w := 1, acc := .w1s, sel := 1 }
/-- ENG.FIFO_CTRL.TX_FLUSH (R248). -/
def FIFO_CTRL_TX_FLUSH : Fld := { page := 0x20, off := 0x94, lo := 0, w := 1, acc := .w1s, sel := 1 }
/-- ENG.TXF_PUSH.DATA (R248). -/
def TXF_PUSH_DATA : Fld := { page := 0x20, off := 0x98, lo := 0, w := 32, acc := .wo, sel := 1 }
/-- ENG.TXF_PUSH_END.DATA (R248). -/
def TXF_PUSH_END_DATA : Fld := { page := 0x20, off := 0x9c, lo := 0, w := 32, acc := .wo, sel := 1 }
/-- ENG.RXF_POP.DATA (R248). -/
def RXF_POP_DATA : Fld := { page := 0x20, off := 0xa0, lo := 0, w := 32, acc := .rc, sel := 1 }
/-- ENG.RXF_POP_STAT.VALID (R248). -/
def RXF_POP_STAT_VALID : Fld := { page := 0x20, off := 0xa4, lo := 1, w := 1, acc := .ro, sel := 1 }
/-- ENG.RXF_POP_STAT.END (R248). -/
def RXF_POP_STAT_END : Fld := { page := 0x20, off := 0xa4, lo := 0, w := 1, acc := .ro, sel := 1 }
/-- ENG.SUBA.COUNT (R248). -/
def SUBA_COUNT : Fld := { page := 0x20, off := 0xa8, lo := 16, w := 7, acc := .rw, sel := 1 }
/-- ENG.SUBA.BASE (R248). -/
def SUBA_BASE : Fld := { page := 0x20, off := 0xa8, lo := 0, w := 13, acc := .rw, sel := 1 }
/-- ENG.CTX_CTRL.INJ_PREEMPT (R249). -/
def CTX_CTRL_INJ_PREEMPT : Fld := { page := 0x20, off := 0x400, lo := 5, w := 1, acc := .rw, cnt := 32, stride := 64 }
/-- ENG.CTX_CTRL.INJ_GO (R249). -/
def CTX_CTRL_INJ_GO : Fld := { page := 0x20, off := 0x400, lo := 4, w := 1, acc := .w1s, cnt := 32, stride := 64 }
/-- ENG.CTX_CTRL.CLEAR (R249). -/
def CTX_CTRL_CLEAR : Fld := { page := 0x20, off := 0x400, lo := 3, w := 1, acc := .w1s, cnt := 32, stride := 64 }
/-- ENG.CTX_CTRL.STOP (R249). -/
def CTX_CTRL_STOP : Fld := { page := 0x20, off := 0x400, lo := 2, w := 1, acc := .w1s, cnt := 32, stride := 64 }
/-- ENG.CTX_CTRL.START_NOW (R249). -/
def CTX_CTRL_START_NOW : Fld := { page := 0x20, off := 0x400, lo := 1, w := 1, acc := .w1s, cnt := 32, stride := 64 }
/-- ENG.CTX_CTRL.START (R249). -/
def CTX_CTRL_START : Fld := { page := 0x20, off := 0x400, lo := 0, w := 1, acc := .w1s, cnt := 32, stride := 64 }
/-- ENG.CTX_CFG.FIFO_SW (R249). -/
def CTX_CFG_FIFO_SW : Fld := { page := 0x20, off := 0x404, lo := 17, w := 1, acc := .rw, cnt := 32, stride := 64 }
/-- ENG.CTX_CFG.HDR (R249). -/
def CTX_CFG_HDR : Fld := { page := 0x20, off := 0x404, lo := 16, w := 1, acc := .rw, cnt := 32, stride := 64 }
/-- ENG.CTX_CFG.PIN_BASE (R249). -/
def CTX_CFG_PIN_BASE : Fld := { page := 0x20, off := 0x404, lo := 8, w := 8, acc := .rw, cnt := 32, stride := 64 }
/-- ENG.CTX_CFG.PIN_COUNT (R249). -/
def CTX_CFG_PIN_COUNT : Fld := { page := 0x20, off := 0x404, lo := 4, w := 4, acc := .rw, cnt := 32, stride := 64, ok := fun v => v ≤ 8 }
/-- ENG.CTX_CFG.CLASS (R249). -/
def CTX_CFG_CLASS : Fld := { page := 0x20, off := 0x404, lo := 0, w := 2, acc := .rw, dflt := fun _ => 3, cnt := 32, stride := 64 }
/-- ENG.CTX_DEADLINE.D (R249). -/
def CTX_DEADLINE_D : Fld := { page := 0x20, off := 0x408, lo := 0, w := 24, acc := .rw, cnt := 32, stride := 64 }
/-- ENG.CTX_PC.PC (R249). -/
def CTX_PC_PC : Fld := { page := 0x20, off := 0x40c, lo := 0, w := 11, acc := .rw, cnt := 32, stride := 64 }
/-- ENG.CTX_PC_SAVED.VALID (R249). -/
def CTX_PC_SAVED_VALID : Fld := { page := 0x20, off := 0x410, lo := 31, w := 1, acc := .w1c, cnt := 32, stride := 64 }
/-- ENG.CTX_PC_SAVED.PC (R249). -/
def CTX_PC_SAVED_PC : Fld := { page := 0x20, off := 0x410, lo := 0, w := 11, acc := .ro, cnt := 32, stride := 64 }
/-- ENG.CTX_X.VALUE (R249). -/
def CTX_X_VALUE : Fld := { page := 0x20, off := 0x414, lo := 0, w := 32, acc := .rw, cnt := 32, stride := 64 }
/-- ENG.CTX_Y.VALUE (R249). -/
def CTX_Y_VALUE : Fld := { page := 0x20, off := 0x418, lo := 0, w := 32, acc := .rw, cnt := 32, stride := 64 }
/-- ENG.CTX_OSR.VALUE (R249). -/
def CTX_OSR_VALUE : Fld := { page := 0x20, off := 0x41c, lo := 0, w := 32, acc := .rw, cnt := 32, stride := 64 }
/-- ENG.CTX_ISR.VALUE (R249). -/
def CTX_ISR_VALUE : Fld := { page := 0x20, off := 0x420, lo := 0, w := 32, acc := .rw, cnt := 32, stride := 64 }
/-- ENG.CTX_BITS.ISR_CNT (R249). -/
def CTX_BITS_ISR_CNT : Fld := { page := 0x20, off := 0x424, lo := 8, w := 6, acc := .rw, cnt := 32, stride := 64 }
/-- ENG.CTX_BITS.OSR_CNT (R249). -/
def CTX_BITS_OSR_CNT : Fld := { page := 0x20, off := 0x424, lo := 0, w := 6, acc := .rw, cnt := 32, stride := 64 }
/-- ENG.CTX_STAT.READ_PEND (R249). -/
def CTX_STAT_READ_PEND : Fld := { page := 0x20, off := 0x428, lo := 17, w := 1, acc := .ro, cnt := 32, stride := 64 }
/-- ENG.CTX_STAT.INJ_PEND (R249). -/
def CTX_STAT_INJ_PEND : Fld := { page := 0x20, off := 0x428, lo := 16, w := 1, acc := .ro, cnt := 32, stride := 64 }
/-- ENG.CTX_STAT.LAST_EV (R249). -/
def CTX_STAT_LAST_EV : Fld := { page := 0x20, off := 0x428, lo := 13, w := 3, acc := .ro, cnt := 32, stride := 64 }
/-- ENG.CTX_STAT.ABORT_LATE (R249). -/
def CTX_STAT_ABORT_LATE : Fld := { page := 0x20, off := 0x428, lo := 12, w := 1, acc := .ro, cnt := 32, stride := 64 }
/-- ENG.CTX_STAT.STOP_RESULT (R249). -/
def CTX_STAT_STOP_RESULT : Fld := { page := 0x20, off := 0x428, lo := 10, w := 2, acc := .ro, cnt := 32, stride := 64 }
/-- ENG.CTX_STAT.OVERRUN (R249). -/
def CTX_STAT_OVERRUN : Fld := { page := 0x20, off := 0x428, lo := 9, w := 1, acc := .ro, cnt := 32, stride := 64 }
/-- ENG.CTX_STAT.LATE (R249). -/
def CTX_STAT_LATE : Fld := { page := 0x20, off := 0x428, lo := 8, w := 1, acc := .ro, cnt := 32, stride := 64 }
/-- ENG.CTX_STAT.DEFERRED (R249). -/
def CTX_STAT_DEFERRED : Fld := { page := 0x20, off := 0x428, lo := 7, w := 1, acc := .ro, cnt := 32, stride := 64 }
/-- ENG.CTX_STAT.EOC (R249). -/
def CTX_STAT_EOC : Fld := { page := 0x20, off := 0x428, lo := 6, w := 1, acc := .ro, cnt := 32, stride := 64 }
/-- ENG.CTX_STAT.STALL_CAUSE (R249). -/
def CTX_STAT_STALL_CAUSE : Fld := { page := 0x20, off := 0x428, lo := 3, w := 3, acc := .ro, cnt := 32, stride := 64 }
/-- ENG.CTX_STAT.READY (R249). -/
def CTX_STAT_READY : Fld := { page := 0x20, off := 0x428, lo := 1, w := 1, acc := .ro, cnt := 32, stride := 64 }
/-- ENG.CTX_STAT.RUN (R249). -/
def CTX_STAT_RUN : Fld := { page := 0x20, off := 0x428, lo := 0, w := 1, acc := .ro, cnt := 32, stride := 64 }
/-- ENG.CTX_INJ.INSTR (R249). -/
def CTX_INJ_INSTR : Fld := { page := 0x20, off := 0x42c, lo := 0, w := 32, acc := .rw, cnt := 32, stride := 64 }
/-- ENG.CTX_BITPER.PERIOD (R249). -/
def CTX_BITPER_PERIOD : Fld := { page := 0x20, off := 0x430, lo := 0, w := 32, acc := .rw, dflt := fun _ => 64000, cnt := 32, stride := 64, ok := fun v => 1280 ≤ v }
/-- ENG.CTX_DEST.TC (R249). -/
def CTX_DEST_TC : Fld := { page := 0x20, off := 0x434, lo := 28, w := 3, acc := .rw, dflt := fun _ => 6, cnt := 32, stride := 64, ok := fun v => v ≤ 6 }
/-- ENG.CTX_DEST.DEST (R249). -/
def CTX_DEST_DEST : Fld := { page := 0x20, off := 0x434, lo := 0, w := 25, acc := .rw, cnt := 32, stride := 64 }
/-- ENG.CTX_TXF.FLUSH_PEND (R249). -/
def CTX_TXF_FLUSH_PEND : Fld := { page := 0x20, off := 0x438, lo := 31, w := 1, acc := .ro, cnt := 32, stride := 64 }
/-- ENG.CTX_TXF.PKTS (R249). -/
def CTX_TXF_PKTS : Fld := { page := 0x20, off := 0x438, lo := 16, w := 5, acc := .ro, cnt := 32, stride := 64 }
/-- ENG.CTX_TXF.FREE (R249). -/
def CTX_TXF_FREE : Fld := { page := 0x20, off := 0x438, lo := 8, w := 5, acc := .ro, dflt := fun _ => 16, cnt := 32, stride := 64 }
/-- ENG.CTX_TXF.WORDS (R249). -/
def CTX_TXF_WORDS : Fld := { page := 0x20, off := 0x438, lo := 0, w := 5, acc := .ro, cnt := 32, stride := 64 }
/-- ENG.CTX_RXF.FLUSH_PEND (R249). -/
def CTX_RXF_FLUSH_PEND : Fld := { page := 0x20, off := 0x43c, lo := 31, w := 1, acc := .ro, cnt := 32, stride := 64 }
/-- ENG.CTX_RXF.PKTS (R249). -/
def CTX_RXF_PKTS : Fld := { page := 0x20, off := 0x43c, lo := 16, w := 5, acc := .ro, cnt := 32, stride := 64 }
/-- ENG.CTX_RXF.FREE (R249). -/
def CTX_RXF_FREE : Fld := { page := 0x20, off := 0x43c, lo := 8, w := 5, acc := .ro, dflt := fun _ => 16, cnt := 32, stride := 64 }
/-- ENG.CTX_RXF.WORDS (R249). -/
def CTX_RXF_WORDS : Fld := { page := 0x20, off := 0x43c, lo := 0, w := 5, acc := .ro, cnt := 32, stride := 64 }
/-- ENG.PB_CTRL.LIVE_WR (R279). -/
def PB_CTRL_LIVE_WR : Fld := { page := 0x20, off := 0xc0, lo := 2, w := 1, acc := .rw }
/-- ENG.PB_CTRL.CANCEL (R279). -/
def PB_CTRL_CANCEL : Fld := { page := 0x20, off := 0xc0, lo := 1, w := 1, acc := .w1s }
/-- ENG.PB_CTRL.SWAP (R279). -/
def PB_CTRL_SWAP : Fld := { page := 0x20, off := 0xc0, lo := 0, w := 1, acc := .w1s }
/-- ENG.PB_STAT.SWAP_CYC (R279). -/
def PB_STAT_SWAP_CYC : Fld := { page := 0x20, off := 0xc4, lo := 16, w := 16, acc := .ro }
/-- ENG.PB_STAT.SWAP_PEND (R279). -/
def PB_STAT_SWAP_PEND : Fld := { page := 0x20, off := 0xc4, lo := 1, w := 1, acc := .ro }
/-- ENG.PB_STAT.BANK (R279). -/
def PB_STAT_BANK : Fld := { page := 0x20, off := 0xc4, lo := 0, w := 1, acc := .ro }
/-- ENG.PB_GEN.GEN (R279). -/
def PB_GEN_GEN : Fld := { page := 0x20, off := 0xc8, lo := 0, w := 32, acc := .rw, cnt := 2, stride := 4 }
/-- ENG.PB_WREJ.COUNT (R279). -/
def PB_WREJ_COUNT : Fld := { page := 0x20, off := 0xd0, lo := 0, w := 32, acc := .ro }
/-- ENG.PB_ILL.VALID (R279). -/
def PB_ILL_VALID : Fld := { page := 0x20, off := 0xd4, lo := 31, w := 1, acc := .w1c }
/-- ENG.PB_ILL.CONTEXT (R279). -/
def PB_ILL_CONTEXT : Fld := { page := 0x20, off := 0xd4, lo := 16, w := 5, acc := .ro }
/-- ENG.PB_ILL.INJECTED (R279). -/
def PB_ILL_INJECTED : Fld := { page := 0x20, off := 0xd4, lo := 15, w := 1, acc := .ro }
/-- ENG.PB_ILL.PC (R279). -/
def PB_ILL_PC : Fld := { page := 0x20, off := 0xd4, lo := 0, w := 11, acc := .ro }
/-- ENG.PB_ILL_WORD.INSTR (R279). -/
def PB_ILL_WORD_INSTR : Fld := { page := 0x20, off := 0xd8, lo := 0, w := 32, acc := .ro }

/-- The fields of a ENG page. -/
def fields : List Fld :=
  [ENG_CFG_URGENT, ENG_STAT_CLOCK, ENG_STAT_BANK, ENG_STAT_LAST_CTX, ENG_STAT_READY_N, FLAGS_FLAG, EV_CTX_RAISED, RUN_MAP_RUN, STALL_MAP_STALLED, DEFER_MAP_DEFERRED, SNAP_CTRL_DONE, SNAP_CTRL_GO] ++
  [SNAP_CTRL_CONTEXT, DISP_COUNT, DEFER_CNT_COUNT, LATE_CNT_COUNT, OVERRUN_CNT_COUNT, FRM_DROP_CNT_COUNT, CNT_CLR_CLEAR, BC_LEN_NS, BC_PHASE_NS, BC_NUM_CYCLE, CTX_SEL_CONTEXT, FIFO_CTRL_SW_OVF] ++
  [FIFO_CTRL_RX_FLUSH, FIFO_CTRL_TX_FLUSH, TXF_PUSH_DATA, TXF_PUSH_END_DATA, RXF_POP_DATA, RXF_POP_STAT_VALID, RXF_POP_STAT_END, SUBA_COUNT, SUBA_BASE, CTX_CTRL_INJ_PREEMPT, CTX_CTRL_INJ_GO, CTX_CTRL_CLEAR] ++
  [CTX_CTRL_STOP, CTX_CTRL_START_NOW, CTX_CTRL_START, CTX_CFG_FIFO_SW, CTX_CFG_HDR, CTX_CFG_PIN_BASE, CTX_CFG_PIN_COUNT, CTX_CFG_CLASS, CTX_DEADLINE_D, CTX_PC_PC, CTX_PC_SAVED_VALID, CTX_PC_SAVED_PC] ++
  [CTX_X_VALUE, CTX_Y_VALUE, CTX_OSR_VALUE, CTX_ISR_VALUE, CTX_BITS_ISR_CNT, CTX_BITS_OSR_CNT, CTX_STAT_READ_PEND, CTX_STAT_INJ_PEND, CTX_STAT_LAST_EV, CTX_STAT_ABORT_LATE, CTX_STAT_STOP_RESULT, CTX_STAT_OVERRUN] ++
  [CTX_STAT_LATE, CTX_STAT_DEFERRED, CTX_STAT_EOC, CTX_STAT_STALL_CAUSE, CTX_STAT_READY, CTX_STAT_RUN, CTX_INJ_INSTR, CTX_BITPER_PERIOD, CTX_DEST_TC, CTX_DEST_DEST, CTX_TXF_FLUSH_PEND, CTX_TXF_PKTS] ++
  [CTX_TXF_FREE, CTX_TXF_WORDS, CTX_RXF_FLUSH_PEND, CTX_RXF_PKTS, CTX_RXF_FREE, CTX_RXF_WORDS, PB_CTRL_LIVE_WR, PB_CTRL_CANCEL, PB_CTRL_SWAP, PB_STAT_SWAP_CYC, PB_STAT_SWAP_PEND, PB_STAT_BANK] ++
  [PB_GEN_GEN, PB_WREJ_COUNT, PB_ILL_VALID, PB_ILL_CONTEXT, PB_ILL_INJECTED, PB_ILL_PC, PB_ILL_WORD_INSTR]

end ENG

namespace PINBANK

/-- PINBANK.PIN_CFG.FLT_WIDTH (R295). -/
def PIN_CFG_FLT_WIDTH : Fld := { page := 0x50, off := 0x40, lo := 24, w := 8, acc := .rw, dflt := fun _ => 2, cnt := 32, stride := 4 }
/-- PINBANK.PIN_CFG.FLT_UNIT (R295). -/
def PIN_CFG_FLT_UNIT : Fld := { page := 0x50, off := 0x40, lo := 23, w := 1, acc := .rw, cnt := 32, stride := 4 }
/-- PINBANK.PIN_CFG.STAMP (R295). -/
def PIN_CFG_STAMP : Fld := { page := 0x50, off := 0x40, lo := 18, w := 2, acc := .rw, cnt := 32, stride := 4 }
/-- PINBANK.PIN_CFG.SAFE (R295). -/
def PIN_CFG_SAFE : Fld := { page := 0x50, off := 0x40, lo := 16, w := 2, acc := .rwl, dflt := fun _ => 2, cnt := 32, stride := 4 }
/-- PINBANK.PIN_CFG.SAFE_ON_FENCE (R295). -/
def PIN_CFG_SAFE_ON_FENCE : Fld := { page := 0x50, off := 0x40, lo := 15, w := 1, acc := .rwl, dflt := fun _ => 1, cnt := 32, stride := 4 }
/-- PINBANK.PIN_CFG.PULL (R295). -/
def PIN_CFG_PULL : Fld := { page := 0x50, off := 0x40, lo := 11, w := 2, acc := .rw, cnt := 32, stride := 4, ok := fun v => v ≤ 2 }
/-- PINBANK.PIN_CFG.OD (R295). -/
def PIN_CFG_OD : Fld := { page := 0x50, off := 0x40, lo := 10, w := 1, acc := .rw, cnt := 32, stride := 4 }
/-- PINBANK.PIN_CFG.DRIVE (R295). -/
def PIN_CFG_DRIVE : Fld := { page := 0x50, off := 0x40, lo := 8, w := 2, acc := .rw, dflt := fun _ => 1, cnt := 32, stride := 4 }
/-- PINBANK.PIN_CFG.SLEW (R295). -/
def PIN_CFG_SLEW : Fld := { page := 0x50, off := 0x40, lo := 7, w := 1, acc := .rw, dflt := fun _ => 1, cnt := 32, stride := 4 }
/-- PINBANK.BANK_CFG.VSEL (R295). -/
def BANK_CFG_VSEL : Fld := { page := 0x50, off := 0xc0, lo := 0, w := 2, acc := .rwl, dflt := fun _ => 2, ok := fun v => v ≤ 2 }
/-- PINBANK.BANK_STAT.SUPPLY_OK (R295). -/
def BANK_STAT_SUPPLY_OK : Fld := { page := 0x50, off := 0xc4, lo := 0, w := 1, acc := .ro }
/-- PINBANK.LEVEL.LEVEL (R295). -/
def LEVEL : Fld := { page := 0x50, off := 0xc8, lo := 0, w := 32, acc := .ro }
/-- PINBANK.DRIVEN.DRIVEN (R295). -/
def DRIVEN : Fld := { page := 0x50, off := 0xcc, lo := 0, w := 32, acc := .ro }
/-- PINBANK.HOLDER_SEL.PIN (R295). -/
def HOLDER_SEL_PIN : Fld := { page := 0x50, off := 0xd0, lo := 0, w := 5, acc := .rw }
/-- PINBANK.HOLDER.HELD (R295). -/
def HOLDER_HELD : Fld := { page := 0x50, off := 0xd4, lo := 31, w := 1, acc := .ro, sel := 1 }
/-- PINBANK.HOLDER.ENGINE (R295). -/
def HOLDER_ENGINE : Fld := { page := 0x50, off := 0xd4, lo := 5, w := 4, acc := .ro, sel := 1 }
/-- PINBANK.HOLDER.CONTEXT (R295). -/
def HOLDER_CONTEXT : Fld := { page := 0x50, off := 0xd4, lo := 0, w := 5, acc := .ro, sel := 1 }
/-- PINBANK.CLAIM_LAST.VALID (R295). -/
def CLAIM_LAST_VALID : Fld := { page := 0x50, off := 0xd8, lo := 31, w := 1, acc := .w1c }
/-- PINBANK.CLAIM_LAST.REQ_ENG (R295). -/
def CLAIM_LAST_REQ_ENG : Fld := { page := 0x50, off := 0xd8, lo := 27, w := 4, acc := .ro }
/-- PINBANK.CLAIM_LAST.REQ_CTX (R295). -/
def CLAIM_LAST_REQ_CTX : Fld := { page := 0x50, off := 0xd8, lo := 22, w := 5, acc := .ro }
/-- PINBANK.CLAIM_LAST.HOLD_ENG (R295). -/
def CLAIM_LAST_HOLD_ENG : Fld := { page := 0x50, off := 0xd8, lo := 18, w := 4, acc := .ro }
/-- PINBANK.CLAIM_LAST.HOLD_CTX (R295). -/
def CLAIM_LAST_HOLD_CTX : Fld := { page := 0x50, off := 0xd8, lo := 13, w := 5, acc := .ro }
/-- PINBANK.CLAIM_LAST.OVER (R295). -/
def CLAIM_LAST_OVER : Fld := { page := 0x50, off := 0xd8, lo := 12, w := 1, acc := .ro }
/-- PINBANK.CLAIM_LAST.PIN (R295). -/
def CLAIM_LAST_PIN : Fld := { page := 0x50, off := 0xd8, lo := 0, w := 5, acc := .ro }
/-- PINBANK.GLITCH_CNT.COUNT (R295). -/
def GLITCH_CNT_COUNT : Fld := { page := 0x50, off := 0xdc, lo := 0, w := 32, acc := .ro }
/-- PINBANK.STAMP_CNT.COUNT (R295). -/
def STAMP_CNT_COUNT : Fld := { page := 0x50, off := 0xe0, lo := 0, w := 32, acc := .ro }
/-- PINBANK.CNT_CLR.CLEAR (R295). -/
def CNT_CLR_CLEAR : Fld := { page := 0x50, off := 0xe4, lo := 0, w := 1, acc := .wo }

/-- The fields of a PINBANK page. -/
def fields : List Fld :=
  [PIN_CFG_FLT_WIDTH, PIN_CFG_FLT_UNIT, PIN_CFG_STAMP, PIN_CFG_SAFE, PIN_CFG_SAFE_ON_FENCE, PIN_CFG_PULL, PIN_CFG_OD, PIN_CFG_DRIVE, PIN_CFG_SLEW, BANK_CFG_VSEL, BANK_STAT_SUPPLY_OK, LEVEL] ++
  [DRIVEN, HOLDER_SEL_PIN, HOLDER_HELD, HOLDER_ENGINE, HOLDER_CONTEXT, CLAIM_LAST_VALID, CLAIM_LAST_REQ_ENG, CLAIM_LAST_REQ_CTX, CLAIM_LAST_HOLD_ENG, CLAIM_LAST_HOLD_CTX, CLAIM_LAST_OVER, CLAIM_LAST_PIN] ++
  [GLITCH_CNT_COUNT, STAMP_CNT_COUNT, CNT_CLR_CLEAR]

end PINBANK

namespace CHK

/-- CHK.POLY.POLY (R297). -/
def POLY : Fld := { page := 0x30, off := 0x40, lo := 0, w := 32, acc := .rw, dflt := fun _ => 4129, cnt := 4, stride := 32 }
/-- CHK.INIT.INIT (R297). -/
def INIT : Fld := { page := 0x30, off := 0x44, lo := 0, w := 32, acc := .rw, dflt := fun _ => 65535, cnt := 4, stride := 32 }
/-- CHK.XOR.XOROUT (R297). -/
def XOR_XOROUT : Fld := { page := 0x30, off := 0x48, lo := 0, w := 32, acc := .rw, cnt := 4, stride := 32 }
/-- CHK.RES.RESIDUE (R297). -/
def RES_RESIDUE : Fld := { page := 0x30, off := 0x4c, lo := 0, w := 32, acc := .rw, cnt := 4, stride := 32 }
/-- CHK.PCFG.SEED_SRC (R297). -/
def PCFG_SEED_SRC : Fld := { page := 0x30, off := 0x50, lo := 8, w := 2, acc := .rw, cnt := 4, stride := 32, ok := fun v => v ≤ 2 }
/-- CHK.PCFG.WIDTH (R297). -/
def PCFG_WIDTH : Fld := { page := 0x30, off := 0x50, lo := 0, w := 5, acc := .rw, dflt := fun _ => 16, cnt := 4, stride := 32 }
/-- CHK.CTX_PROF0.PROF (R297). -/
def CTX_PROF0_PROF : Fld := { page := 0x30, off := 0xc0, lo := 0, w := 2, acc := .rw, cnt := 16, stride := 0, bstr := 2 }
/-- CHK.CTX_PROF1.PROF (R297). -/
def CTX_PROF1_PROF : Fld := { page := 0x30, off := 0xc4, lo := 0, w := 2, acc := .rw, cnt := 16, stride := 0, bstr := 2 }
/-- CHK.CTX_SEL.CONTEXT (R297). -/
def CTX_SEL_CONTEXT : Fld := { page := 0x30, off := 0xc8, lo := 0, w := 5, acc := .rw }
/-- CHK.RUNVAL.VALUE (R297). -/
def RUNVAL_VALUE : Fld := { page := 0x30, off := 0xcc, lo := 0, w := 32, acc := .rw, sel := 1 }
/-- CHK.RXSEQ.SEQ (R297). -/
def RXSEQ_SEQ : Fld := { page := 0x30, off := 0xd0, lo := 0, w := 16, acc := .rw, sel := 1 }
/-- CHK.SNOOP.APPEND_ARMED (R297). -/
def SNOOP_APPEND_ARMED : Fld := { page := 0x30, off := 0xd4, lo := 3, w := 1, acc := .ro, sel := 1 }
/-- CHK.SNOOP.PAUSED (R297). -/
def SNOOP_PAUSED : Fld := { page := 0x30, off := 0xd4, lo := 2, w := 1, acc := .ro, sel := 1 }
/-- CHK.SNOOP.DIR (R297). -/
def SNOOP_DIR : Fld := { page := 0x30, off := 0xd4, lo := 1, w := 1, acc := .ro, sel := 1 }
/-- CHK.SNOOP.SEEDED (R297). -/
def SNOOP_SEEDED : Fld := { page := 0x30, off := 0xd4, lo := 0, w := 1, acc := .ro, sel := 1 }
/-- CHK.PASS_CNT.COUNT (R297). -/
def PASS_CNT_COUNT : Fld := { page := 0x30, off := 0xe0, lo := 0, w := 32, acc := .ro }
/-- CHK.BAD_CNT.COUNT (R297). -/
def BAD_CNT_COUNT : Fld := { page := 0x30, off := 0xe4, lo := 0, w := 32, acc := .ro }
/-- CHK.APPEND_CNT.COUNT (R297). -/
def APPEND_CNT_COUNT : Fld := { page := 0x30, off := 0xe8, lo := 0, w := 32, acc := .ro }
/-- CHK.CNT_CLR.CLEAR (R297). -/
def CNT_CLR_CLEAR : Fld := { page := 0x30, off := 0xec, lo := 0, w := 1, acc := .wo }
/-- CHK.BAD_LAST.VALID (R297). -/
def BAD_LAST_VALID : Fld := { page := 0x30, off := 0xf0, lo := 31, w := 1, acc := .w1c }
/-- CHK.BAD_LAST.CONTEXT (R297). -/
def BAD_LAST_CONTEXT : Fld := { page := 0x30, off := 0xf0, lo := 16, w := 5, acc := .ro }
/-- CHK.BAD_LAST.SEQ (R297). -/
def BAD_LAST_SEQ : Fld := { page := 0x30, off := 0xf0, lo := 0, w := 16, acc := .ro }

/-- The fields of a CHK page. -/
def fields : List Fld :=
  [POLY, INIT, XOR_XOROUT, RES_RESIDUE, PCFG_SEED_SRC, PCFG_WIDTH, CTX_PROF0_PROF, CTX_PROF1_PROF, CTX_SEL_CONTEXT, RUNVAL_VALUE, RXSEQ_SEQ, SNOOP_APPEND_ARMED] ++
  [SNOOP_PAUSED, SNOOP_DIR, SNOOP_SEEDED, PASS_CNT_COUNT, BAD_CNT_COUNT, APPEND_CNT_COUNT, CNT_CLR_CLEAR, BAD_LAST_VALID, BAD_LAST_CONTEXT, BAD_LAST_SEQ]

end CHK

namespace BRIDGE

/-- BRIDGE.WIN_SEL.WINDOW (R327). -/
def WIN_SEL_WINDOW : Fld := { page := 0x14, off := 0x40, lo := 0, w := 7, acc := .rw }
/-- BRIDGE.WIN_BASE_LO.ADDR (R327). -/
def WIN_BASE_LO_ADDR : Fld := { page := 0x14, off := 0x44, lo := 22, w := 10, acc := .rw, sel := 1 }
/-- BRIDGE.WIN_BASE_HI.ADDR (R327). -/
def WIN_BASE_HI_ADDR : Fld := { page := 0x14, off := 0x48, lo := 0, w := 17, acc := .rw, sel := 1 }
/-- BRIDGE.WIN_CFG.RD_ERR (R327). -/
def WIN_CFG_RD_ERR : Fld := { page := 0x14, off := 0x4c, lo := 4, w := 1, acc := .rw, sel := 1 }
/-- BRIDGE.WIN_CFG.ORDER (R327). -/
def WIN_CFG_ORDER : Fld := { page := 0x14, off := 0x4c, lo := 3, w := 1, acc := .rw, dflt := fun _ => 1, sel := 1 }
/-- BRIDGE.WIN_CFG.PREFETCH (R327). -/
def WIN_CFG_PREFETCH : Fld := { page := 0x14, off := 0x4c, lo := 2, w := 1, acc := .rw, sel := 1 }
/-- BRIDGE.WIN_CFG.NONPOSTED (R327). -/
def WIN_CFG_NONPOSTED : Fld := { page := 0x14, off := 0x4c, lo := 1, w := 1, acc := .rw, sel := 1 }
/-- BRIDGE.WIN_CFG.EN (R327). -/
def WIN_CFG_EN : Fld := { page := 0x14, off := 0x4c, lo := 0, w := 1, acc := .rw, sel := 1 }
/-- BRIDGE.WIN_STAT.HELD (R327). -/
def WIN_STAT_HELD : Fld := { page := 0x14, off := 0x50, lo := 16, w := 7, acc := .ro, sel := 1 }
/-- BRIDGE.WIN_STAT.WRITES (R327). -/
def WIN_STAT_WRITES : Fld := { page := 0x14, off := 0x50, lo := 0, w := 11, acc := .ro, sel := 1 }
/-- BRIDGE.RD_TMO.US (R327). -/
def RD_TMO_US : Fld := { page := 0x14, off := 0x54, lo := 0, w := 14, acc := .rw, dflt := fun _ => 100, ok := fun v => 1 ≤ v && v ≤ 10000 }
/-- BRIDGE.PW_TMO.MS (R327). -/
def PW_TMO_MS : Fld := { page := 0x14, off := 0x58, lo := 0, w := 10, acc := .rw, dflt := fun _ => 10, ok := fun v => 1 ≤ v && v ≤ 1000 }
/-- BRIDGE.FENCE_CTRL.WINDOW (R327). -/
def FENCE_CTRL_WINDOW : Fld := { page := 0x14, off := 0x60, lo := 16, w := 7, acc := .rw }
/-- BRIDGE.FENCE_CTRL.ABORT (R327). -/
def FENCE_CTRL_ABORT : Fld := { page := 0x14, off := 0x60, lo := 1, w := 1, acc := .w1s }
/-- BRIDGE.FENCE_CTRL.GO (R327). -/
def FENCE_CTRL_GO : Fld := { page := 0x14, off := 0x60, lo := 0, w := 1, acc := .w1s }
/-- BRIDGE.FENCE_STAT.STATUS (R327). -/
def FENCE_STAT_STATUS : Fld := { page := 0x14, off := 0x64, lo := 30, w := 2, acc := .ro }
/-- BRIDGE.FENCE_STAT.ABORT_LATE (R327). -/
def FENCE_STAT_ABORT_LATE : Fld := { page := 0x14, off := 0x64, lo := 29, w := 1, acc := .ro }
/-- BRIDGE.FENCE_STAT.FAILED (R327). -/
def FENCE_STAT_FAILED : Fld := { page := 0x14, off := 0x64, lo := 0, w := 11, acc := .ro }
/-- BRIDGE.RDA_CTRL.WINDOW (R327). -/
def RDA_CTRL_WINDOW : Fld := { page := 0x14, off := 0x68, lo := 16, w := 7, acc := .rw }
/-- BRIDGE.RDA_CTRL.GO (R327). -/
def RDA_CTRL_GO : Fld := { page := 0x14, off := 0x68, lo := 0, w := 1, acc := .w1s }
/-- BRIDGE.RDA_STAT.STATUS (R327). -/
def RDA_STAT_STATUS : Fld := { page := 0x14, off := 0x6c, lo := 30, w := 2, acc := .ro }
/-- BRIDGE.RDA_STAT.ABORT_LATE (R327). -/
def RDA_STAT_ABORT_LATE : Fld := { page := 0x14, off := 0x6c, lo := 29, w := 1, acc := .ro }
/-- BRIDGE.RDA_STAT.ABORTED_N (R327). -/
def RDA_STAT_ABORTED_N : Fld := { page := 0x14, off := 0x6c, lo := 8, w := 8, acc := .ro }
/-- BRIDGE.RDA_STAT.LATE_N (R327). -/
def RDA_STAT_LATE_N : Fld := { page := 0x14, off := 0x6c, lo := 0, w := 8, acc := .ro }
/-- BRIDGE.PWE_STAT.TOTAL (R327). -/
def PWE_STAT_TOTAL : Fld := { page := 0x14, off := 0x70, lo := 5, w := 27, acc := .ro }
/-- BRIDGE.PWE_STAT.VALID (R327). -/
def PWE_STAT_VALID : Fld := { page := 0x14, off := 0x70, lo := 0, w := 5, acc := .ro }
/-- BRIDGE.PWE_CLR.CLEAR (R327). -/
def PWE_CLR_CLEAR : Fld := { page := 0x14, off := 0x74, lo := 0, w := 1, acc := .wo }
/-- BRIDGE.PFD_STAT.TOTAL (R327). -/
def PFD_STAT_TOTAL : Fld := { page := 0x14, off := 0x78, lo := 6, w := 26, acc := .ro }
/-- BRIDGE.PFD_STAT.VALID (R327). -/
def PFD_STAT_VALID : Fld := { page := 0x14, off := 0x78, lo := 0, w := 6, acc := .ro }
/-- BRIDGE.PFD_CLR.CLEAR (R327). -/
def PFD_CLR_CLEAR : Fld := { page := 0x14, off := 0x7c, lo := 0, w := 1, acc := .wo }
/-- BRIDGE.RD_TMO_CNT.COUNT (R327). -/
def RD_TMO_CNT_COUNT : Fld := { page := 0x14, off := 0x80, lo := 0, w := 32, acc := .ro }
/-- BRIDGE.LATE_ANS.COUNT (R327). -/
def LATE_ANS_COUNT : Fld := { page := 0x14, off := 0x84, lo := 0, w := 32, acc := .ro }
/-- BRIDGE.BAD_ACC.COUNT (R327). -/
def BAD_ACC_COUNT : Fld := { page := 0x14, off := 0x88, lo := 0, w := 32, acc := .ro }
/-- BRIDGE.RX_MAP.RING (R327). -/
def RX_MAP_RING : Fld := { page := 0x14, off := 0x8c, lo := 0, w := 3, acc := .rw, dflt := fun c => c, cnt := 8, stride := 0, bstr := 4 }
/-- BRIDGE.CNT_CLR.CLEAR (R327). -/
def CNT_CLR_CLEAR : Fld := { page := 0x14, off := 0x90, lo := 0, w := 1, acc := .wo }
/-- BRIDGE.PWE_W0.ADDR_LO (R327). -/
def PWE_W0_ADDR_LO : Fld := { page := 0x14, off := 0x100, lo := 0, w := 32, acc := .ro, cnt := 16, stride := 32 }
/-- BRIDGE.PWE_W1.WINDOW (R327). -/
def PWE_W1_WINDOW : Fld := { page := 0x14, off := 0x104, lo := 24, w := 7, acc := .ro, cnt := 16, stride := 32 }
/-- BRIDGE.PWE_W1.ADDR_HI (R327). -/
def PWE_W1_ADDR_HI : Fld := { page := 0x14, off := 0x104, lo := 0, w := 17, acc := .ro, cnt := 16, stride := 32 }
/-- BRIDGE.PWE_W2.TAG (R327). -/
def PWE_W2_TAG : Fld := { page := 0x14, off := 0x108, lo := 16, w := 16, acc := .ro, cnt := 16, stride := 32 }
/-- BRIDGE.PWE_W2.CODE (R327). -/
def PWE_W2_CODE : Fld := { page := 0x14, off := 0x108, lo := 8, w := 8, acc := .ro, cnt := 16, stride := 32 }
/-- BRIDGE.PWE_W2.PORT (R327). -/
def PWE_W2_PORT : Fld := { page := 0x14, off := 0x108, lo := 0, w := 3, acc := .ro, cnt := 16, stride := 32 }
/-- BRIDGE.PWE_W3.NS (R327). -/
def PWE_W3_NS : Fld := { page := 0x14, off := 0x10c, lo := 0, w := 30, acc := .ro, cnt := 16, stride := 32 }
/-- BRIDGE.PWE_W4.SEC_LO (R327). -/
def PWE_W4_SEC_LO : Fld := { page := 0x14, off := 0x110, lo := 0, w := 32, acc := .ro, cnt := 16, stride := 32 }
/-- BRIDGE.PFD_W0.ADDR_LO (R327). -/
def PFD_W0_ADDR_LO : Fld := { page := 0x14, off := 0x300, lo := 0, w := 32, acc := .ro, cnt := 32, stride := 16 }
/-- BRIDGE.PFD_W1.WINDOW (R327). -/
def PFD_W1_WINDOW : Fld := { page := 0x14, off := 0x304, lo := 24, w := 7, acc := .ro, cnt := 32, stride := 16 }
/-- BRIDGE.PFD_W1.ADDR_HI (R327). -/
def PFD_W1_ADDR_HI : Fld := { page := 0x14, off := 0x304, lo := 0, w := 17, acc := .ro, cnt := 32, stride := 16 }
/-- BRIDGE.PFD_W2.CAUSE (R327). -/
def PFD_W2_CAUSE : Fld := { page := 0x14, off := 0x308, lo := 7, w := 3, acc := .ro, cnt := 32, stride := 16 }
/-- BRIDGE.PFD_W2.COUNT (R327). -/
def PFD_W2_COUNT : Fld := { page := 0x14, off := 0x308, lo := 0, w := 7, acc := .ro, cnt := 32, stride := 16 }
/-- BRIDGE.RXR_BASE_LO.ADDR (R327). -/
def RXR_BASE_LO_ADDR : Fld := { page := 0x14, off := 0x600, lo := 0, w := 32, acc := .rw, cnt := 8, stride := 32 }
/-- BRIDGE.RXR_BASE_HI.ADDR (R327). -/
def RXR_BASE_HI_ADDR : Fld := { page := 0x14, off := 0x604, lo := 0, w := 32, acc := .rw, cnt := 8, stride := 32 }
/-- BRIDGE.TXR_BASE_LO.ADDR (R327). -/
def TXR_BASE_LO_ADDR : Fld := { page := 0x14, off := 0x700, lo := 0, w := 32, acc := .rw, cnt := 8, stride := 32 }
/-- BRIDGE.TXR_BASE_HI.ADDR (R327). -/
def TXR_BASE_HI_ADDR : Fld := { page := 0x14, off := 0x704, lo := 0, w := 32, acc := .rw, cnt := 8, stride := 32 }
/-- BRIDGE.RXR_CFG.EN (R327). -/
def RXR_CFG_EN : Fld := { page := 0x14, off := 0x608, lo := 31, w := 1, acc := .rw, cnt := 8, stride := 32 }
/-- BRIDGE.TXR_CFG.EN (R327). -/
def TXR_CFG_EN : Fld := { page := 0x14, off := 0x708, lo := 31, w := 1, acc := .rw, cnt := 8, stride := 32 }
/-- BRIDGE.RXR_CFG.SIZE (R327). -/
def RXR_CFG_SIZE : Fld := { page := 0x14, off := 0x608, lo := 16, w := 4, acc := .rw, dflt := fun _ => 4, cnt := 8, stride := 32, ok := fun v => 4 ≤ v && v ≤ 12 }
/-- BRIDGE.TXR_CFG.SIZE (R327). -/
def TXR_CFG_SIZE : Fld := { page := 0x14, off := 0x708, lo := 16, w := 4, acc := .rw, dflt := fun _ => 4, cnt := 8, stride := 32, ok := fun v => 4 ≤ v && v ≤ 12 }
/-- BRIDGE.RXR_CFG.BUF_LEN (R327). -/
def RXR_CFG_BUF_LEN : Fld := { page := 0x14, off := 0x608, lo := 0, w := 13, acc := .rw, dflt := fun _ => 4128, cnt := 8, stride := 32, ok := fun v => 64 ≤ v && v ≤ 4128 && v % 4 = 0 }
/-- BRIDGE.RXR_HEAD.INDEX (R327). -/
def RXR_HEAD_INDEX : Fld := { page := 0x14, off := 0x60c, lo := 0, w := 12, acc := .ro, cnt := 8, stride := 32 }
/-- BRIDGE.RXR_TAIL.INDEX (R327). -/
def RXR_TAIL_INDEX : Fld := { page := 0x14, off := 0x610, lo := 0, w := 12, acc := .rw, cnt := 8, stride := 32 }
/-- BRIDGE.TXR_HEAD.INDEX (R327). -/
def TXR_HEAD_INDEX : Fld := { page := 0x14, off := 0x70c, lo := 0, w := 12, acc := .ro, cnt := 8, stride := 32 }
/-- BRIDGE.TXR_TAIL.INDEX (R327). -/
def TXR_TAIL_INDEX : Fld := { page := 0x14, off := 0x710, lo := 0, w := 12, acc := .rw, cnt := 8, stride := 32 }
/-- BRIDGE.RXR_DROP.COUNT (R327). -/
def RXR_DROP_COUNT : Fld := { page := 0x14, off := 0x614, lo := 0, w := 32, acc := .ro, cnt := 8, stride := 32 }
/-- BRIDGE.TXR_REFUSED.COUNT (R327). -/
def TXR_REFUSED_COUNT : Fld := { page := 0x14, off := 0x714, lo := 0, w := 32, acc := .ro, cnt := 8, stride := 32 }

/-- The fields of a BRIDGE page. -/
def fields : List Fld :=
  [WIN_SEL_WINDOW, WIN_BASE_LO_ADDR, WIN_BASE_HI_ADDR, WIN_CFG_RD_ERR, WIN_CFG_ORDER, WIN_CFG_PREFETCH, WIN_CFG_NONPOSTED, WIN_CFG_EN, WIN_STAT_HELD, WIN_STAT_WRITES, RD_TMO_US, PW_TMO_MS] ++
  [FENCE_CTRL_WINDOW, FENCE_CTRL_ABORT, FENCE_CTRL_GO, FENCE_STAT_STATUS, FENCE_STAT_ABORT_LATE, FENCE_STAT_FAILED, RDA_CTRL_WINDOW, RDA_CTRL_GO, RDA_STAT_STATUS, RDA_STAT_ABORT_LATE, RDA_STAT_ABORTED_N, RDA_STAT_LATE_N] ++
  [PWE_STAT_TOTAL, PWE_STAT_VALID, PWE_CLR_CLEAR, PFD_STAT_TOTAL, PFD_STAT_VALID, PFD_CLR_CLEAR, RD_TMO_CNT_COUNT, LATE_ANS_COUNT, BAD_ACC_COUNT, RX_MAP_RING, CNT_CLR_CLEAR, PWE_W0_ADDR_LO] ++
  [PWE_W1_WINDOW, PWE_W1_ADDR_HI, PWE_W2_TAG, PWE_W2_CODE, PWE_W2_PORT, PWE_W3_NS, PWE_W4_SEC_LO, PFD_W0_ADDR_LO, PFD_W1_WINDOW, PFD_W1_ADDR_HI, PFD_W2_CAUSE, PFD_W2_COUNT] ++
  [RXR_BASE_LO_ADDR, RXR_BASE_HI_ADDR, TXR_BASE_LO_ADDR, TXR_BASE_HI_ADDR, RXR_CFG_EN, TXR_CFG_EN, RXR_CFG_SIZE, TXR_CFG_SIZE, RXR_CFG_BUF_LEN, RXR_HEAD_INDEX, RXR_TAIL_INDEX, TXR_HEAD_INDEX] ++
  [TXR_TAIL_INDEX, RXR_DROP_COUNT, TXR_REFUSED_COUNT]

end BRIDGE

namespace POLL

/-- POLL.POLL_SEL.INDEX (R329). -/
def POLL_SEL_INDEX : Fld := { page := 0x15, off := 0x40, lo := 0, w := 10, acc := .rw }
/-- POLL.PE_ADDR_LO.ADDR (R329). -/
def PE_ADDR_LO_ADDR : Fld := { page := 0x15, off := 0x44, lo := 2, w := 30, acc := .rw, sel := 1 }
/-- POLL.PE_ADDR_HI.ADDR (R329). -/
def PE_ADDR_HI_ADDR : Fld := { page := 0x15, off := 0x48, lo := 0, w := 17, acc := .rw, sel := 1 }
/-- POLL.PE_CFG.EN (R329). -/
def PE_CFG_EN : Fld := { page := 0x15, off := 0x4c, lo := 31, w := 1, acc := .rw, sel := 1 }
/-- POLL.PE_CFG.MODE (R329). -/
def PE_CFG_MODE : Fld := { page := 0x15, off := 0x4c, lo := 30, w := 1, acc := .rw, sel := 1 }
/-- POLL.PE_CFG.PERIOD (R329). -/
def PE_CFG_PERIOD : Fld := { page := 0x15, off := 0x4c, lo := 0, w := 17, acc := .rw, dflt := fun _ => 100, sel := 1, ok := fun v => 1 ≤ v && v ≤ 100000 }
/-- POLL.PE_MASK.MASK (R329). -/
def PE_MASK_MASK : Fld := { page := 0x15, off := 0x50, lo := 0, w := 32, acc := .rw, dflt := fun _ => 4294967295, sel := 1 }
/-- POLL.PE_EXPECT.EXPECT (R329). -/
def PE_EXPECT_EXPECT : Fld := { page := 0x15, off := 0x54, lo := 0, w := 32, acc := .rw, sel := 1 }
/-- POLL.PE_LAST.LAST (R329). -/
def PE_LAST_LAST : Fld := { page := 0x15, off := 0x58, lo := 0, w := 32, acc := .ro, sel := 1 }
/-- POLL.PE_STAT.FAILED (R329). -/
def PE_STAT_FAILED : Fld := { page := 0x15, off := 0x5c, lo := 1, w := 1, acc := .ro, sel := 1 }
/-- POLL.PE_STAT.IN_FLIGHT (R329). -/
def PE_STAT_IN_FLIGHT : Fld := { page := 0x15, off := 0x5c, lo := 0, w := 1, acc := .ro, sel := 1 }
/-- POLL.CQ_COUNT.COUNT (R329). -/
def CQ_COUNT_COUNT : Fld := { page := 0x15, off := 0x60, lo := 0, w := 9, acc := .ro }
/-- POLL.CQ_HEAD0.KIND (R329). -/
def CQ_HEAD0_KIND : Fld := { page := 0x15, off := 0x64, lo := 29, w := 3, acc := .ro }
/-- POLL.CQ_HEAD0.CODE (R329). -/
def CQ_HEAD0_CODE : Fld := { page := 0x15, off := 0x64, lo := 16, w := 8, acc := .ro }
/-- POLL.CQ_HEAD0.INDEX (R329). -/
def CQ_HEAD0_INDEX : Fld := { page := 0x15, off := 0x64, lo := 0, w := 10, acc := .ro }
/-- POLL.CQ_HEAD1.VALUE (R329). -/
def CQ_HEAD1_VALUE : Fld := { page := 0x15, off := 0x68, lo := 0, w := 32, acc := .ro }
/-- POLL.CQ_HEAD2.NS (R329). -/
def CQ_HEAD2_NS : Fld := { page := 0x15, off := 0x6c, lo := 0, w := 30, acc := .ro }
/-- POLL.CQ_HEAD3.SEC_LO (R329). -/
def CQ_HEAD3_SEC_LO : Fld := { page := 0x15, off := 0x70, lo := 0, w := 32, acc := .ro }
/-- POLL.CQ_POP.POP (R329). -/
def CQ_POP_POP : Fld := { page := 0x15, off := 0x74, lo := 0, w := 1, acc := .wo }
/-- POLL.CQ_OVF.COUNT (R329). -/
def CQ_OVF_COUNT : Fld := { page := 0x15, off := 0x78, lo := 0, w := 32, acc := .ro }
/-- POLL.POLL_SKIP.COUNT (R329). -/
def POLL_SKIP_COUNT : Fld := { page := 0x15, off := 0x7c, lo := 0, w := 32, acc := .ro }
/-- POLL.CNT_CLR.CLEAR (R329). -/
def CNT_CLR_CLEAR : Fld := { page := 0x15, off := 0x84, lo := 0, w := 1, acc := .wo }

/-- The fields of a POLL page. -/
def fields : List Fld :=
  [POLL_SEL_INDEX, PE_ADDR_LO_ADDR, PE_ADDR_HI_ADDR, PE_CFG_EN, PE_CFG_MODE, PE_CFG_PERIOD, PE_MASK_MASK, PE_EXPECT_EXPECT, PE_LAST_LAST, PE_STAT_FAILED, PE_STAT_IN_FLIGHT, CQ_COUNT_COUNT] ++
  [CQ_HEAD0_KIND, CQ_HEAD0_CODE, CQ_HEAD0_INDEX, CQ_HEAD1_VALUE, CQ_HEAD2_NS, CQ_HEAD3_SEC_LO, CQ_POP_POP, CQ_OVF_COUNT, POLL_SKIP_COUNT, CNT_CLR_CLEAR]

end POLL

namespace MGMT

/-- MGMT.ABSENT_CNT.COUNT (R331). -/
def ABSENT_CNT_COUNT : Fld := { page := 0x16, off := 0x40, lo := 0, w := 32, acc := .ro }
/-- MGMT.REMOTE_WR.COUNT (R331). -/
def REMOTE_WR_COUNT : Fld := { page := 0x16, off := 0x44, lo := 0, w := 32, acc := .ro }
/-- MGMT.REMOTE_RD.COUNT (R331). -/
def REMOTE_RD_COUNT : Fld := { page := 0x16, off := 0x48, lo := 0, w := 32, acc := .ro }
/-- MGMT.DOORBELL.RING (R331). -/
def DOORBELL_RING : Fld := { page := 0x16, off := 0x4c, lo := 0, w := 8, acc := .w1s }
/-- MGMT.DB_LAST.PORT (R331). -/
def DB_LAST_PORT : Fld := { page := 0x16, off := 0x50, lo := 26, w := 3, acc := .ro }
/-- MGMT.DB_LAST.NODE (R331). -/
def DB_LAST_NODE : Fld := { page := 0x16, off := 0x50, lo := 0, w := 12, acc := .ro }
/-- MGMT.CNT_CLR.CLEAR (R331). -/
def CNT_CLR_CLEAR : Fld := { page := 0x16, off := 0x54, lo := 0, w := 1, acc := .wo }
/-- MGMT.REFUSED_RX.COUNT (R331). -/
def REFUSED_RX_COUNT : Fld := { page := 0x16, off := 0x58, lo := 0, w := 32, acc := .ro }
/-- MGMT.REFUSED_LAST0.VALID (R331). -/
def REFUSED_LAST0_VALID : Fld := { page := 0x16, off := 0x5c, lo := 31, w := 1, acc := .w1c }
/-- MGMT.REFUSED_LAST0.CODE (R331). -/
def REFUSED_LAST0_CODE : Fld := { page := 0x16, off := 0x5c, lo := 24, w := 4, acc := .ro }
/-- MGMT.REFUSED_LAST0.ENDPOINT (R331). -/
def REFUSED_LAST0_ENDPOINT : Fld := { page := 0x16, off := 0x5c, lo := 0, w := 13, acc := .ro }
/-- MGMT.REFUSED_LAST1.SEQ (R331). -/
def REFUSED_LAST1_SEQ : Fld := { page := 0x16, off := 0x60, lo := 16, w := 16, acc := .ro }
/-- MGMT.REFUSED_LAST1.NODE (R331). -/
def REFUSED_LAST1_NODE : Fld := { page := 0x16, off := 0x60, lo := 0, w := 12, acc := .ro }
/-- MGMT.EPD.SIDE_EFFECT (R331). -/
def EPD_SIDE_EFFECT : Fld := { page := 0x16, off := 0x400, lo := 0, w := 32, acc := .rw, dflt := fun w => if w = 0 then 0x0000FFFF else if w < 16 then 0 else if w = 16 then 0xFFFF0000 else 0xFFFFFFFF, cnt := 256, stride := 4 }

/-- The fields of a MGMT page. -/
def fields : List Fld :=
  [ABSENT_CNT_COUNT, REMOTE_WR_COUNT, REMOTE_RD_COUNT, DOORBELL_RING, DB_LAST_PORT, DB_LAST_NODE, CNT_CLR_CLEAR, REFUSED_RX_COUNT, REFUSED_LAST0_VALID, REFUSED_LAST0_CODE, REFUSED_LAST0_ENDPOINT, REFUSED_LAST1_SEQ] ++
  [REFUSED_LAST1_NODE, EPD_SIDE_EFFECT]

end MGMT

namespace CAN

/-- CAN.CTRL.OWN_GATE (R353). -/
def CTRL_OWN_GATE : Fld := { page := 0x40, off := 0x40, lo := 11, w := 1, acc := .rw, dflt := fun _ => 1 }
/-- CAN.CTRL.FD_EN (R353). -/
def CTRL_FD_EN : Fld := { page := 0x40, off := 0x40, lo := 10, w := 1, acc := .rw, dflt := fun _ => 1 }
/-- CAN.CTRL.WAKE (R353). -/
def CTRL_WAKE : Fld := { page := 0x40, off := 0x40, lo := 7, w := 1, acc := .w1s }
/-- CAN.CTRL.SLEEP (R353). -/
def CTRL_SLEEP : Fld := { page := 0x40, off := 0x40, lo := 6, w := 1, acc := .w1s }
/-- CAN.CTRL.RECOVER (R353). -/
def CTRL_RECOVER : Fld := { page := 0x40, off := 0x40, lo := 5, w := 1, acc := .w1s }
/-- CAN.CTRL.MODE (R353). -/
def CTRL_MODE : Fld := { page := 0x40, off := 0x40, lo := 0, w := 2, acc := .rw }
/-- CAN.STAT.GATED (R353). -/
def STAT_GATED : Fld := { page := 0x40, off := 0x44, lo := 5, w := 1, acc := .ro }
/-- CAN.STAT.RX_ACTIVE (R353). -/
def STAT_RX_ACTIVE : Fld := { page := 0x40, off := 0x44, lo := 4, w := 1, acc := .ro }
/-- CAN.STAT.TX_ACTIVE (R353). -/
def STAT_TX_ACTIVE : Fld := { page := 0x40, off := 0x44, lo := 3, w := 1, acc := .ro }
/-- CAN.STAT.BUS (R353). -/
def STAT_BUS : Fld := { page := 0x40, off := 0x44, lo := 0, w := 3, acc := .ro }
/-- CAN.ERR.TEC (R353). -/
def ERR_TEC : Fld := { page := 0x40, off := 0x48, lo := 16, w := 9, acc := .ro }
/-- CAN.ERR.LAST_ERR (R353). -/
def ERR_LAST_ERR : Fld := { page := 0x40, off := 0x48, lo := 8, w := 3, acc := .ro }
/-- CAN.ERR.REC (R353). -/
def ERR_REC : Fld := { page := 0x40, off := 0x48, lo := 0, w := 8, acc := .ro }
/-- CAN.NBT.BRP (R353). -/
def NBT_BRP : Fld := { page := 0x40, off := 0x4c, lo := 24, w := 6, acc := .rw, dflt := fun _ => 1 }
/-- CAN.NBT.TSEG1 (R353). -/
def NBT_TSEG1 : Fld := { page := 0x40, off := 0x4c, lo := 16, w := 8, acc := .rw, dflt := fun _ => 63 }
/-- CAN.NBT.TSEG2 (R353). -/
def NBT_TSEG2 : Fld := { page := 0x40, off := 0x4c, lo := 8, w := 7, acc := .rw, dflt := fun _ => 16 }
/-- CAN.NBT.SJW (R353). -/
def NBT_SJW : Fld := { page := 0x40, off := 0x4c, lo := 0, w := 7, acc := .rw, dflt := fun _ => 16 }
/-- CAN.DBT.BRP (R353). -/
def DBT_BRP : Fld := { page := 0x40, off := 0x50, lo := 24, w := 6, acc := .rw, dflt := fun _ => 1 }
/-- CAN.DBT.TSEG1 (R353). -/
def DBT_TSEG1 : Fld := { page := 0x40, off := 0x50, lo := 16, w := 5, acc := .rw, dflt := fun _ => 7 }
/-- CAN.DBT.TSEG2 (R353). -/
def DBT_TSEG2 : Fld := { page := 0x40, off := 0x50, lo := 8, w := 4, acc := .rw, dflt := fun _ => 2 }
/-- CAN.DBT.SJW (R353). -/
def DBT_SJW : Fld := { page := 0x40, off := 0x50, lo := 0, w := 4, acc := .rw, dflt := fun _ => 2 }
/-- CAN.TDC.EN (R353). -/
def TDC_EN : Fld := { page := 0x40, off := 0x54, lo := 31, w := 1, acc := .rw, dflt := fun _ => 1 }
/-- CAN.TDC.VALUE (R353). -/
def TDC_VALUE : Fld := { page := 0x40, off := 0x54, lo := 16, w := 7, acc := .ro }
/-- CAN.TDC.OFFSET (R353). -/
def TDC_OFFSET : Fld := { page := 0x40, off := 0x54, lo := 0, w := 7, acc := .rw, dflt := fun _ => 8 }
/-- CAN.MB_SEL.BUFFER (R353). -/
def MB_SEL_BUFFER : Fld := { page := 0x40, off := 0x60, lo := 0, w := 6, acc := .rw }
/-- CAN.MB_CFG.IRQ (R353). -/
def MB_CFG_IRQ : Fld := { page := 0x40, off := 0x64, lo := 3, w := 1, acc := .rw, sel := 1 }
/-- CAN.MB_CFG.TXMODE (R353). -/
def MB_CFG_TXMODE : Fld := { page := 0x40, off := 0x64, lo := 2, w := 1, acc := .rw, sel := 1 }
/-- CAN.MB_CFG.DIR (R353). -/
def MB_CFG_DIR : Fld := { page := 0x40, off := 0x64, lo := 1, w := 1, acc := .rw, sel := 1 }
/-- CAN.MB_CFG.EN (R353). -/
def MB_CFG_EN : Fld := { page := 0x40, off := 0x64, lo := 0, w := 1, acc := .rw, sel := 1 }
/-- CAN.MB_ID.IDE (R353). -/
def MB_ID_IDE : Fld := { page := 0x40, off := 0x68, lo := 31, w := 1, acc := .rw, sel := 1 }
/-- CAN.MB_ID.ID (R353). -/
def MB_ID_ID : Fld := { page := 0x40, off := 0x68, lo := 0, w := 29, acc := .rw, sel := 1 }
/-- CAN.MB_MASK.MASK (R353). -/
def MB_MASK_MASK : Fld := { page := 0x40, off := 0x6c, lo := 0, w := 29, acc := .rw, dflt := fun _ => 536870911, sel := 1 }
/-- CAN.MB_CTRL.TX_LATE (R353). -/
def MB_CTRL_TX_LATE : Fld := { page := 0x40, off := 0x70, lo := 23, w := 1, acc := .ro, sel := 1 }
/-- CAN.MB_CTRL.TX_STAT (R353). -/
def MB_CTRL_TX_STAT : Fld := { page := 0x40, off := 0x70, lo := 21, w := 2, acc := .ro, sel := 1 }
/-- CAN.MB_CTRL.TX_ABORT (R353). -/
def MB_CTRL_TX_ABORT : Fld := { page := 0x40, off := 0x70, lo := 20, w := 1, acc := .w1s, sel := 1 }
/-- CAN.MB_CTRL.TX_REQ (R353). -/
def MB_CTRL_TX_REQ : Fld := { page := 0x40, off := 0x70, lo := 19, w := 1, acc := .w1s, sel := 1 }
/-- CAN.MB_CTRL.LOST (R353). -/
def MB_CTRL_LOST : Fld := { page := 0x40, off := 0x70, lo := 18, w := 1, acc := .w1c, sel := 1 }
/-- CAN.MB_CTRL.NEW (R353). -/
def MB_CTRL_NEW : Fld := { page := 0x40, off := 0x70, lo := 17, w := 1, acc := .w1c, sel := 1 }
/-- CAN.MB_CTRL.ESI (R353). -/
def MB_CTRL_ESI : Fld := { page := 0x40, off := 0x70, lo := 6, w := 1, acc := .ro, sel := 1 }
/-- CAN.MB_CTRL.BRS (R353). -/
def MB_CTRL_BRS : Fld := { page := 0x40, off := 0x70, lo := 5, w := 1, acc := .rw, sel := 1 }
/-- CAN.MB_CTRL.FDF (R353). -/
def MB_CTRL_FDF : Fld := { page := 0x40, off := 0x70, lo := 4, w := 1, acc := .rw, sel := 1 }
/-- CAN.MB_CTRL.DLC (R353). -/
def MB_CTRL_DLC : Fld := { page := 0x40, off := 0x70, lo := 0, w := 4, acc := .rw, sel := 1 }
/-- CAN.MB_DEST.FWD (R353). -/
def MB_DEST_FWD : Fld := { page := 0x40, off := 0x74, lo := 31, w := 1, acc := .rw, sel := 1 }
/-- CAN.MB_DEST.TC (R353). -/
def MB_DEST_TC : Fld := { page := 0x40, off := 0x74, lo := 28, w := 3, acc := .rw, dflt := fun _ => 6, sel := 1, ok := fun v => v ≠ 4 && v ≠ 7 }
/-- CAN.MB_DEST.DEST (R353). -/
def MB_DEST_DEST : Fld := { page := 0x40, off := 0x74, lo := 0, w := 25, acc := .rw, sel := 1 }
/-- CAN.MB_STAMP0.NS (R353). -/
def MB_STAMP0_NS : Fld := { page := 0x40, off := 0x78, lo := 0, w := 30, acc := .ro, sel := 1 }
/-- CAN.MB_STAMP1.SEC_LO (R353). -/
def MB_STAMP1_SEC_LO : Fld := { page := 0x40, off := 0x7c, lo := 0, w := 32, acc := .ro, sel := 1 }
/-- CAN.MB_DATA.DATA (R353). -/
def MB_DATA_DATA : Fld := { page := 0x40, off := 0x80, lo := 0, w := 32, acc := .rw, cnt := 16, stride := 4, sel := 1 }
/-- CAN.CYC_CFG.EN (R353). -/
def CYC_CFG_EN : Fld := { page := 0x40, off := 0xc0, lo := 31, w := 1, acc := .rw }
/-- CAN.CYC_CFG.DIRECT (R353). -/
def CYC_CFG_DIRECT : Fld := { page := 0x40, off := 0xc0, lo := 30, w := 1, acc := .rw }
/-- CAN.CYC_CFG.CYCLES (R353). -/
def CYC_CFG_CYCLES : Fld := { page := 0x40, off := 0xc0, lo := 8, w := 7, acc := .rw, dflt := fun _ => 1, ok := fun v => 1 ≤ v && v ≤ 64 }
/-- CAN.CYC_CFG.WINDOWS (R353). -/
def CYC_CFG_WINDOWS : Fld := { page := 0x40, off := 0xc0, lo := 0, w := 6, acc := .rw, dflt := fun _ => 1, ok := fun v => 1 ≤ v && v ≤ 32 }
/-- CAN.CYC_LEN.NS (R353). -/
def CYC_LEN_NS : Fld := { page := 0x40, off := 0xc4, lo := 0, w := 32, acc := .rw, dflt := fun _ => 1000000, ok := fun v => 50000 ≤ v && v ≤ 1000000000 && 1000000000 % v = 0 }
/-- CAN.CYC_PHASE.NS (R353). -/
def CYC_PHASE_NS : Fld := { page := 0x40, off := 0xc8, lo := 0, w := 32, acc := .rw }
/-- CAN.CYC_CTRL.CANCEL (R353). -/
def CYC_CTRL_CANCEL : Fld := { page := 0x40, off := 0xcc, lo := 1, w := 1, acc := .w1s }
/-- CAN.CYC_CTRL.SWITCH (R353). -/
def CYC_CTRL_SWITCH : Fld := { page := 0x40, off := 0xcc, lo := 0, w := 1, acc := .w1s }
/-- CAN.CYC_STAT.BANK (R353). -/
def CYC_STAT_BANK : Fld := { page := 0x40, off := 0xd0, lo := 16, w := 1, acc := .ro }
/-- CAN.CYC_STAT.SWITCH_PEND (R353). -/
def CYC_STAT_SWITCH_PEND : Fld := { page := 0x40, off := 0xd0, lo := 15, w := 1, acc := .ro }
/-- CAN.CYC_STAT.CYCLE (R353). -/
def CYC_STAT_CYCLE : Fld := { page := 0x40, off := 0xd0, lo := 8, w := 7, acc := .ro }
/-- CAN.CYC_STAT.WINDOW (R353). -/
def CYC_STAT_WINDOW : Fld := { page := 0x40, off := 0xd0, lo := 0, w := 5, acc := .ro }
/-- CAN.WIN_SEL.BANK (R353). -/
def WIN_SEL_BANK : Fld := { page := 0x40, off := 0xd4, lo := 16, w := 1, acc := .rw }
/-- CAN.WIN_SEL.WINDOW (R353). -/
def WIN_SEL_WINDOW : Fld := { page := 0x40, off := 0xd4, lo := 0, w := 5, acc := .rw }
/-- CAN.WIN_START.NS (R353). -/
def WIN_START_NS : Fld := { page := 0x40, off := 0xd8, lo := 0, w := 30, acc := .rw, sel := 2 }
/-- CAN.CELL_SEL.BANK (R353). -/
def CELL_SEL_BANK : Fld := { page := 0x40, off := 0xdc, lo := 16, w := 1, acc := .rw }
/-- CAN.CELL_SEL.CYCLE (R353). -/
def CELL_SEL_CYCLE : Fld := { page := 0x40, off := 0xdc, lo := 8, w := 6, acc := .rw }
/-- CAN.CELL_SEL.WINDOW (R353). -/
def CELL_SEL_WINDOW : Fld := { page := 0x40, off := 0xdc, lo := 0, w := 5, acc := .rw }
/-- CAN.CELL.KIND (R353). -/
def CELL_KIND : Fld := { page := 0x40, off := 0xe0, lo := 8, w := 2, acc := .rw, sel := 3, ok := fun v => v ≤ 2 }
/-- CAN.CELL.BUF (R353). -/
def CELL_BUF : Fld := { page := 0x40, off := 0xe0, lo := 0, w := 6, acc := .rw, sel := 3 }
/-- CAN.WAKE_CFG.MODE (R353). -/
def WAKE_CFG_MODE : Fld := { page := 0x40, off := 0xe4, lo := 16, w := 1, acc := .rw }
/-- CAN.WAKE_CFG.FILT (R353). -/
def WAKE_CFG_FILT : Fld := { page := 0x40, off := 0xe4, lo := 0, w := 8, acc := .rw, dflt := fun _ => 10, ok := fun v => 1 ≤ v }
/-- CAN.WAKE_ID.IDE (R353). -/
def WAKE_ID_IDE : Fld := { page := 0x40, off := 0xe8, lo := 31, w := 1, acc := .rw }
/-- CAN.WAKE_ID.ID (R353). -/
def WAKE_ID_ID : Fld := { page := 0x40, off := 0xe8, lo := 0, w := 29, acc := .rw }
/-- CAN.WAKE_IDM.MASK (R353). -/
def WAKE_IDM_MASK : Fld := { page := 0x40, off := 0xec, lo := 0, w := 29, acc := .rw }
/-- CAN.WAKE_D.DATA (R353). -/
def WAKE_D_DATA : Fld := { page := 0x40, off := 0xf0, lo := 0, w := 32, acc := .rw, cnt := 2, stride := 4 }
/-- CAN.WAKE_DM.MASK (R353). -/
def WAKE_DM_MASK : Fld := { page := 0x40, off := 0xf8, lo := 0, w := 32, acc := .rw, cnt := 2, stride := 4 }
/-- CAN.TX_OK.COUNT (R353). -/
def TX_OK_COUNT : Fld := { page := 0x40, off := 0x100, lo := 0, w := 32, acc := .ro }
/-- CAN.RX_OK.COUNT (R353). -/
def RX_OK_COUNT : Fld := { page := 0x40, off := 0x104, lo := 0, w := 32, acc := .ro }
/-- CAN.WIN_MISS.COUNT (R353). -/
def WIN_MISS_COUNT : Fld := { page := 0x40, off := 0x108, lo := 0, w := 32, acc := .ro }
/-- CAN.BUSOFF_CNT.COUNT (R353). -/
def BUSOFF_CNT_COUNT : Fld := { page := 0x40, off := 0x10c, lo := 0, w := 32, acc := .ro }
/-- CAN.NOMATCH.COUNT (R353). -/
def NOMATCH_COUNT : Fld := { page := 0x40, off := 0x110, lo := 0, w := 32, acc := .ro }
/-- CAN.CNT_CLR.CLEAR (R353). -/
def CNT_CLR_CLEAR : Fld := { page := 0x40, off := 0x114, lo := 0, w := 1, acc := .wo }

/-- The fields of a CAN page. -/
def fields : List Fld :=
  [CTRL_OWN_GATE, CTRL_FD_EN, CTRL_WAKE, CTRL_SLEEP, CTRL_RECOVER, CTRL_MODE, STAT_GATED, STAT_RX_ACTIVE, STAT_TX_ACTIVE, STAT_BUS, ERR_TEC, ERR_LAST_ERR] ++
  [ERR_REC, NBT_BRP, NBT_TSEG1, NBT_TSEG2, NBT_SJW, DBT_BRP, DBT_TSEG1, DBT_TSEG2, DBT_SJW, TDC_EN, TDC_VALUE, TDC_OFFSET] ++
  [MB_SEL_BUFFER, MB_CFG_IRQ, MB_CFG_TXMODE, MB_CFG_DIR, MB_CFG_EN, MB_ID_IDE, MB_ID_ID, MB_MASK_MASK, MB_CTRL_TX_LATE, MB_CTRL_TX_STAT, MB_CTRL_TX_ABORT, MB_CTRL_TX_REQ] ++
  [MB_CTRL_LOST, MB_CTRL_NEW, MB_CTRL_ESI, MB_CTRL_BRS, MB_CTRL_FDF, MB_CTRL_DLC, MB_DEST_FWD, MB_DEST_TC, MB_DEST_DEST, MB_STAMP0_NS, MB_STAMP1_SEC_LO, MB_DATA_DATA] ++
  [CYC_CFG_EN, CYC_CFG_DIRECT, CYC_CFG_CYCLES, CYC_CFG_WINDOWS, CYC_LEN_NS, CYC_PHASE_NS, CYC_CTRL_CANCEL, CYC_CTRL_SWITCH, CYC_STAT_BANK, CYC_STAT_SWITCH_PEND, CYC_STAT_CYCLE, CYC_STAT_WINDOW] ++
  [WIN_SEL_BANK, WIN_SEL_WINDOW, WIN_START_NS, CELL_SEL_BANK, CELL_SEL_CYCLE, CELL_SEL_WINDOW, CELL_KIND, CELL_BUF, WAKE_CFG_MODE, WAKE_CFG_FILT, WAKE_ID_IDE, WAKE_ID_ID] ++
  [WAKE_IDM_MASK, WAKE_D_DATA, WAKE_DM_MASK, TX_OK_COUNT, RX_OK_COUNT, WIN_MISS_COUNT, BUSOFF_CNT_COUNT, NOMATCH_COUNT, CNT_CLR_CLEAR]

end CAN

namespace USBHUB

/-- USBHUB.HUB_CFG.LPM_EN (R376). -/
def HUB_CFG_LPM_EN : Fld := { page := 0x48, off := 0x40, lo := 1, w := 1, acc := .rw, dflt := fun _ => 1 }
/-- USBHUB.HUB_CFG.HS_EN (R376). -/
def HUB_CFG_HS_EN : Fld := { page := 0x48, off := 0x40, lo := 0, w := 1, acc := .rw, dflt := fun _ => 1 }
/-- USBHUB.HUB_STAT.ADDRESS (R376). -/
def HUB_STAT_ADDRESS : Fld := { page := 0x48, off := 0x44, lo := 8, w := 7, acc := .ro }
/-- USBHUB.HUB_STAT.RWAKE_EN (R376). -/
def HUB_STAT_RWAKE_EN : Fld := { page := 0x48, off := 0x44, lo := 5, w := 1, acc := .ro }
/-- USBHUB.HUB_STAT.CONFIGURED (R376). -/
def HUB_STAT_CONFIGURED : Fld := { page := 0x48, off := 0x44, lo := 4, w := 1, acc := .ro }
/-- USBHUB.HUB_STAT.LINK (R376). -/
def HUB_STAT_LINK : Fld := { page := 0x48, off := 0x44, lo := 2, w := 2, acc := .ro }
/-- USBHUB.HUB_STAT.SPEED (R376). -/
def HUB_STAT_SPEED : Fld := { page := 0x48, off := 0x44, lo := 0, w := 2, acc := .ro }
/-- USBHUB.WAKE_SRC.PORT (R376). -/
def WAKE_SRC_PORT : Fld := { page := 0x48, off := 0x48, lo := 1, w := 5, acc := .w1c }
/-- USBHUB.WAKE_SRC.HOST_FIRST (R376). -/
def WAKE_SRC_HOST_FIRST : Fld := { page := 0x48, off := 0x48, lo := 0, w := 1, acc := .w1c }
/-- USBHUB.PORT_STAT.CHANGE (R376). -/
def PORT_STAT_CHANGE : Fld := { page := 0x48, off := 0x50, lo := 16, w := 6, acc := .ro, cnt := 4, stride := 4 }
/-- USBHUB.PORT_STAT.RESET (R376). -/
def PORT_STAT_RESET : Fld := { page := 0x48, off := 0x50, lo := 8, w := 1, acc := .ro, cnt := 4, stride := 4 }
/-- USBHUB.PORT_STAT.SPEED (R376). -/
def PORT_STAT_SPEED : Fld := { page := 0x48, off := 0x50, lo := 6, w := 2, acc := .ro, cnt := 4, stride := 4 }
/-- USBHUB.PORT_STAT.POWER (R376). -/
def PORT_STAT_POWER : Fld := { page := 0x48, off := 0x50, lo := 5, w := 1, acc := .ro, cnt := 4, stride := 4 }
/-- USBHUB.PORT_STAT.OVER_CURRENT (R376). -/
def PORT_STAT_OVER_CURRENT : Fld := { page := 0x48, off := 0x50, lo := 4, w := 1, acc := .ro, cnt := 4, stride := 4 }
/-- USBHUB.PORT_STAT.L1 (R376). -/
def PORT_STAT_L1 : Fld := { page := 0x48, off := 0x50, lo := 3, w := 1, acc := .ro, cnt := 4, stride := 4 }
/-- USBHUB.PORT_STAT.SUSPEND (R376). -/
def PORT_STAT_SUSPEND : Fld := { page := 0x48, off := 0x50, lo := 2, w := 1, acc := .ro, cnt := 4, stride := 4 }
/-- USBHUB.PORT_STAT.ENABLE (R376). -/
def PORT_STAT_ENABLE : Fld := { page := 0x48, off := 0x50, lo := 1, w := 1, acc := .ro, cnt := 4, stride := 4 }
/-- USBHUB.PORT_STAT.CONNECT (R376). -/
def PORT_STAT_CONNECT : Fld := { page := 0x48, off := 0x50, lo := 0, w := 1, acc := .ro, cnt := 4, stride := 4 }
/-- USBHUB.PORT_CTRL.OVC_FILT (R376). -/
def PORT_CTRL_OVC_FILT : Fld := { page := 0x48, off := 0x60, lo := 8, w := 8, acc := .rw, dflt := fun _ => 8, cnt := 4, stride := 4, ok := fun v => 1 ≤ v && v ≤ 40 }
/-- USBHUB.PORT_CTRL.LOCK_OFF (R376). -/
def PORT_CTRL_LOCK_OFF : Fld := { page := 0x48, off := 0x60, lo := 0, w := 1, acc := .rwl, cnt := 4, stride := 4 }
/-- USBHUB.CHAN_CFG.EN (R376). -/
def CHAN_CFG_EN : Fld := { page := 0x48, off := 0x80, lo := 31, w := 1, acc := .rw, cnt := 16, stride := 4 }
/-- USBHUB.CHAN_CFG.ISO (R376). -/
def CHAN_CFG_ISO : Fld := { page := 0x48, off := 0x80, lo := 30, w := 1, acc := .rw, cnt := 16, stride := 4 }
/-- USBHUB.CHAN_CFG.TC (R376). -/
def CHAN_CFG_TC : Fld := { page := 0x48, off := 0x80, lo := 27, w := 3, acc := .rw, dflt := fun _ => 6, cnt := 16, stride := 4, ok := fun v => v ≠ 1 && v ≠ 4 && v ≠ 7 }
/-- USBHUB.CHAN_CFG.DEST (R376). -/
def CHAN_CFG_DEST : Fld := { page := 0x48, off := 0x80, lo := 0, w := 25, acc := .rw, cnt := 16, stride := 4 }
/-- USBHUB.TT_DROP.COUNT (R376). -/
def TT_DROP_COUNT : Fld := { page := 0x48, off := 0xc0, lo := 0, w := 32, acc := .ro }
/-- USBHUB.OVC_CNT.COUNT (R376). -/
def OVC_CNT_COUNT : Fld := { page := 0x48, off := 0xc4, lo := 0, w := 32, acc := .ro }
/-- USBHUB.RESUME_CNT.COUNT (R376). -/
def RESUME_CNT_COUNT : Fld := { page := 0x48, off := 0xc8, lo := 0, w := 32, acc := .ro }
/-- USBHUB.CNT_CLR.CLEAR (R376). -/
def CNT_CLR_CLEAR : Fld := { page := 0x48, off := 0xcc, lo := 0, w := 1, acc := .wo }

/-- The fields of a USBHUB page. -/
def fields : List Fld :=
  [HUB_CFG_LPM_EN, HUB_CFG_HS_EN, HUB_STAT_ADDRESS, HUB_STAT_RWAKE_EN, HUB_STAT_CONFIGURED, HUB_STAT_LINK, HUB_STAT_SPEED, WAKE_SRC_PORT, WAKE_SRC_HOST_FIRST, PORT_STAT_CHANGE, PORT_STAT_RESET, PORT_STAT_SPEED] ++
  [PORT_STAT_POWER, PORT_STAT_OVER_CURRENT, PORT_STAT_L1, PORT_STAT_SUSPEND, PORT_STAT_ENABLE, PORT_STAT_CONNECT, PORT_CTRL_OVC_FILT, PORT_CTRL_LOCK_OFF, CHAN_CFG_EN, CHAN_CFG_ISO, CHAN_CFG_TC, CHAN_CFG_DEST] ++
  [TT_DROP_COUNT, OVC_CNT_COUNT, RESUME_CNT_COUNT, CNT_CLR_CLEAR]

end USBHUB

namespace USBFN

/-- USBFN.FN_STAT.WAKE_PEND (R378). -/
def FN_STAT_WAKE_PEND : Fld := { page := 0x49, off := 0x40, lo := 7, w := 1, acc := .ro }
/-- USBFN.FN_STAT.STREAM_ON (R378). -/
def FN_STAT_STREAM_ON : Fld := { page := 0x49, off := 0x40, lo := 6, w := 1, acc := .ro }
/-- USBFN.FN_STAT.IN_HALT (R378). -/
def FN_STAT_IN_HALT : Fld := { page := 0x49, off := 0x40, lo := 5, w := 1, acc := .ro }
/-- USBFN.FN_STAT.OUT_HALT (R378). -/
def FN_STAT_OUT_HALT : Fld := { page := 0x49, off := 0x40, lo := 4, w := 1, acc := .ro }
/-- USBFN.FN_STAT.SESSION (R378). -/
def FN_STAT_SESSION : Fld := { page := 0x49, off := 0x40, lo := 0, w := 1, acc := .ro }
/-- USBFN.AUTH_CFG.FAIL_LIMIT (R378). -/
def AUTH_CFG_FAIL_LIMIT : Fld := { page := 0x49, off := 0x44, lo := 8, w := 8, acc := .rw, dflt := fun _ => 8, ok := fun v => 1 ≤ v }
/-- USBFN.AUTH_CFG.REQUIRED (R378). -/
def AUTH_CFG_REQUIRED : Fld := { page := 0x49, off := 0x44, lo := 0, w := 1, acc := .rwl, dflt := fun _ => 1 }
/-- USBFN.DOORBELL.RING (R378). -/
def DOORBELL_RING : Fld := { page := 0x49, off := 0x48, lo := 0, w := 8, acc := .w1s }
/-- USBFN.DB_NOTIFY.NOTIFY (R378). -/
def DB_NOTIFY_NOTIFY : Fld := { page := 0x49, off := 0x4c, lo := 0, w := 8, acc := .w1s }
/-- USBFN.STREAM_CFG.LATENCY (R378). -/
def STREAM_CFG_LATENCY : Fld := { page := 0x49, off := 0x50, lo := 0, w := 16, acc := .rw, dflt := fun _ => 2000, ok := fun v => 125 ≤ v && v ≤ 50000 }
/-- USBFN.STREAM_STAT.QUEUED (R378). -/
def STREAM_STAT_QUEUED : Fld := { page := 0x49, off := 0x54, lo := 0, w := 10, acc := .ro }
/-- USBFN.STREAM_DROP.COUNT (R378). -/
def STREAM_DROP_COUNT : Fld := { page := 0x49, off := 0x58, lo := 0, w := 32, acc := .ro }
/-- USBFN.STREAM_LATE.COUNT (R378). -/
def STREAM_LATE_COUNT : Fld := { page := 0x49, off := 0x5c, lo := 0, w := 32, acc := .ro }
/-- USBFN.AUTH_FAIL.COUNT (R378). -/
def AUTH_FAIL_COUNT : Fld := { page := 0x49, off := 0x60, lo := 0, w := 32, acc := .ro }
/-- USBFN.CMD_CNT.COUNT (R378). -/
def CMD_CNT_COUNT : Fld := { page := 0x49, off := 0x64, lo := 0, w := 32, acc := .ro }
/-- USBFN.SOF_NS.NS (R378). -/
def SOF_NS_NS : Fld := { page := 0x49, off := 0x68, lo := 0, w := 30, acc := .ro }
/-- USBFN.SOF_FRAME.MICRO (R378). -/
def SOF_FRAME_MICRO : Fld := { page := 0x49, off := 0x6c, lo := 11, w := 3, acc := .ro }
/-- USBFN.SOF_FRAME.FRAME (R378). -/
def SOF_FRAME_FRAME : Fld := { page := 0x49, off := 0x6c, lo := 0, w := 11, acc := .ro }
/-- USBFN.CNT_CLR.CLEAR (R378). -/
def CNT_CLR_CLEAR : Fld := { page := 0x49, off := 0x70, lo := 0, w := 1, acc := .wo }

/-- The fields of a USBFN page. -/
def fields : List Fld :=
  [FN_STAT_WAKE_PEND, FN_STAT_STREAM_ON, FN_STAT_IN_HALT, FN_STAT_OUT_HALT, FN_STAT_SESSION, AUTH_CFG_FAIL_LIMIT, AUTH_CFG_REQUIRED, DOORBELL_RING, DB_NOTIFY_NOTIFY, STREAM_CFG_LATENCY, STREAM_STAT_QUEUED, STREAM_DROP_COUNT] ++
  [STREAM_LATE_COUNT, AUTH_FAIL_COUNT, CMD_CNT_COUNT, SOF_NS_NS, SOF_FRAME_MICRO, SOF_FRAME_FRAME, CNT_CLR_CLEAR]

end USBFN

namespace GCM

/-- GCM.CFG.RX_REQ (R396). -/
def CFG_RX_REQ : Fld := { page := 0x18, off := 0x40, lo := 16, w := 7, acc := .rwl }
/-- GCM.CFG.TX_REQ (R396). -/
def CFG_TX_REQ : Fld := { page := 0x18, off := 0x40, lo := 8, w := 7, acc := .rwl }
/-- GCM.CFG.OPEN_LOAD (R396). -/
def CFG_OPEN_LOAD : Fld := { page := 0x18, off := 0x40, lo := 0, w := 1, acc := .rwl, dflt := fun _ => 1 }
/-- GCM.A_SEL.ENTRY (R396). -/
def A_SEL_ENTRY : Fld := { page := 0x18, off := 0x44, lo := 0, w := 8, acc := .rw }
/-- GCM.A_CFG.EN (R396). -/
def A_CFG_EN : Fld := { page := 0x18, off := 0x48, lo := 31, w := 1, acc := .rw, sel := 1 }
/-- GCM.A_CFG.DIR (R396). -/
def A_CFG_DIR : Fld := { page := 0x18, off := 0x48, lo := 30, w := 1, acc := .rw, sel := 1 }
/-- GCM.A_CFG.TC (R396). -/
def A_CFG_TC : Fld := { page := 0x18, off := 0x48, lo := 24, w := 3, acc := .rw, sel := 1, ok := fun v => v ≤ 6 }
/-- GCM.A_CFG.NODE (R396). -/
def A_CFG_NODE : Fld := { page := 0x18, off := 0x48, lo := 12, w := 12, acc := .rw, sel := 1 }
/-- GCM.A_CFG.NUMBER (R396). -/
def A_CFG_NUMBER : Fld := { page := 0x18, off := 0x48, lo := 0, w := 12, acc := .rw, sel := 1 }
/-- GCM.A_BASE.BASE (R396). -/
def A_BASE_BASE : Fld := { page := 0x18, off := 0x4c, lo := 0, w := 25, acc := .rw, sel := 1 }
/-- GCM.A_MASK.MASK (R396). -/
def A_MASK_MASK : Fld := { page := 0x18, off := 0x50, lo := 0, w := 25, acc := .rw, dflt := fun _ => 33554431, sel := 1 }
/-- GCM.A_EPOCH.CEIL (R396). -/
def A_EPOCH_CEIL : Fld := { page := 0x18, off := 0x54, lo := 16, w := 16, acc := .ro, sel := 1 }
/-- GCM.A_EPOCH.EPOCH (R396). -/
def A_EPOCH_EPOCH : Fld := { page := 0x18, off := 0x54, lo := 0, w := 16, acc := .rw, sel := 1 }
/-- GCM.A_SOFT.LOG2 (R396). -/
def A_SOFT_LOG2 : Fld := { page := 0x18, off := 0x58, lo := 0, w := 6, acc := .rw, dflt := fun _ => 48, sel := 1, ok := fun v => 20 ≤ v && v ≤ 62 }
/-- GCM.A_CTRL.ROLL (R396). -/
def A_CTRL_ROLL : Fld := { page := 0x18, off := 0x5c, lo := 0, w := 1, acc := .w1s, sel := 1 }
/-- GCM.A_STAT.CONFLICT (R396). -/
def A_STAT_CONFLICT : Fld := { page := 0x18, off := 0x60, lo := 3, w := 1, acc := .ro, sel := 1 }
/-- GCM.A_STAT.SAVED (R396). -/
def A_STAT_SAVED : Fld := { page := 0x18, off := 0x60, lo := 2, w := 1, acc := .ro, sel := 1 }
/-- GCM.A_STAT.HALTED (R396). -/
def A_STAT_HALTED : Fld := { page := 0x18, off := 0x60, lo := 1, w := 1, acc := .ro, sel := 1 }
/-- GCM.A_STAT.EPOCH_REQ (R396). -/
def A_STAT_EPOCH_REQ : Fld := { page := 0x18, off := 0x60, lo := 0, w := 1, acc := .ro, sel := 1 }
/-- GCM.A_RXEP.EPOCH_T1 (R396). -/
def A_RXEP_EPOCH_T1 : Fld := { page := 0x18, off := 0x64, lo := 16, w := 16, acc := .ro, sel := 1 }
/-- GCM.A_RXEP.EPOCH_T0 (R396). -/
def A_RXEP_EPOCH_T0 : Fld := { page := 0x18, off := 0x64, lo := 0, w := 16, acc := .ro, sel := 1 }
/-- GCM.A_PN.PN (R396). -/
def A_PN_PN : Fld := { page := 0x18, off := 0x68, lo := 0, w := 64, acc := .ro, dflt := fun _ => 1, sel := 1 }
/-- GCM.REC_CTRL.STATUS (R396). -/
def REC_CTRL_STATUS : Fld := { page := 0x18, off := 0x70, lo := 30, w := 2, acc := .ro }
/-- GCM.REC_CTRL.CAUSE (R396). -/
def REC_CTRL_CAUSE : Fld := { page := 0x18, off := 0x70, lo := 27, w := 3, acc := .ro }
/-- GCM.REC_CTRL.WRAP (R396). -/
def REC_CTRL_WRAP : Fld := { page := 0x18, off := 0x70, lo := 8, w := 1, acc := .rw, dflt := fun _ => 1 }
/-- GCM.REC_CTRL.RESTORE (R396). -/
def REC_CTRL_RESTORE : Fld := { page := 0x18, off := 0x70, lo := 1, w := 1, acc := .w1s }
/-- GCM.REC_CTRL.SAVE (R396). -/
def REC_CTRL_SAVE : Fld := { page := 0x18, off := 0x70, lo := 0, w := 1, acc := .w1s }
/-- GCM.REC.WORD (R396). -/
def REC_WORD : Fld := { page := 0x18, off := 0x74, lo := 0, w := 32, acc := .rw, cnt := 10, stride := 4 }
/-- GCM.SEALED.COUNT (R396). -/
def SEALED_COUNT : Fld := { page := 0x18, off := 0xa0, lo := 0, w := 64, acc := .ro }
/-- GCM.OPENED.COUNT (R396). -/
def OPENED_COUNT : Fld := { page := 0x18, off := 0xa8, lo := 0, w := 64, acc := .ro }
/-- GCM.TAG_FAIL.COUNT (R396). -/
def TAG_FAIL_COUNT : Fld := { page := 0x18, off := 0xb0, lo := 0, w := 32, acc := .ro }
/-- GCM.REPLAY.COUNT (R396). -/
def REPLAY_COUNT : Fld := { page := 0x18, off := 0xb4, lo := 0, w := 32, acc := .ro }
/-- GCM.UNSECURED.COUNT (R396). -/
def UNSECURED_COUNT : Fld := { page := 0x18, off := 0xb8, lo := 0, w := 32, acc := .ro }
/-- GCM.NOASSOC.COUNT (R396). -/
def NOASSOC_COUNT : Fld := { page := 0x18, off := 0xbc, lo := 0, w := 32, acc := .ro }
/-- GCM.REFUSED.COUNT (R396). -/
def REFUSED_COUNT : Fld := { page := 0x18, off := 0xc0, lo := 0, w := 32, acc := .ro }
/-- GCM.CNT_CLR.CLEAR (R396). -/
def CNT_CLR_CLEAR : Fld := { page := 0x18, off := 0xc4, lo := 0, w := 1, acc := .wo }
/-- GCM.TAG_LAST.VALID (R396). -/
def TAG_LAST_VALID : Fld := { page := 0x18, off := 0xc8, lo := 31, w := 1, acc := .w1c }
/-- GCM.TAG_LAST.CAUSE (R396). -/
def TAG_LAST_CAUSE : Fld := { page := 0x18, off := 0xc8, lo := 28, w := 3, acc := .ro }
/-- GCM.TAG_LAST.TWIN (R396). -/
def TAG_LAST_TWIN : Fld := { page := 0x18, off := 0xc8, lo := 27, w := 1, acc := .ro }
/-- GCM.TAG_LAST.PORT (R396). -/
def TAG_LAST_PORT : Fld := { page := 0x18, off := 0xc8, lo := 26, w := 1, acc := .ro }
/-- GCM.TAG_LAST.NODE (R396). -/
def TAG_LAST_NODE : Fld := { page := 0x18, off := 0xc8, lo := 12, w := 12, acc := .ro }
/-- GCM.TAG_LAST.NUMBER (R396). -/
def TAG_LAST_NUMBER : Fld := { page := 0x18, off := 0xc8, lo := 0, w := 12, acc := .ro }

/-- The fields of a GCM page. -/
def fields : List Fld :=
  [CFG_RX_REQ, CFG_TX_REQ, CFG_OPEN_LOAD, A_SEL_ENTRY, A_CFG_EN, A_CFG_DIR, A_CFG_TC, A_CFG_NODE, A_CFG_NUMBER, A_BASE_BASE, A_MASK_MASK, A_EPOCH_CEIL] ++
  [A_EPOCH_EPOCH, A_SOFT_LOG2, A_CTRL_ROLL, A_STAT_CONFLICT, A_STAT_SAVED, A_STAT_HALTED, A_STAT_EPOCH_REQ, A_RXEP_EPOCH_T1, A_RXEP_EPOCH_T0, A_PN_PN, REC_CTRL_STATUS, REC_CTRL_CAUSE] ++
  [REC_CTRL_WRAP, REC_CTRL_RESTORE, REC_CTRL_SAVE, REC_WORD, SEALED_COUNT, OPENED_COUNT, TAG_FAIL_COUNT, REPLAY_COUNT, UNSECURED_COUNT, NOASSOC_COUNT, REFUSED_COUNT, CNT_CLR_CLEAR] ++
  [TAG_LAST_VALID, TAG_LAST_CAUSE, TAG_LAST_TWIN, TAG_LAST_PORT, TAG_LAST_NODE, TAG_LAST_NUMBER]

end GCM

namespace KEYS

/-- KEYS.ROOT_STAT.KILL_EN (R398). -/
def ROOT_STAT_KILL_EN : Fld := { page := 0x19, off := 0x40, lo := 5, w := 1, acc := .ro }
/-- KEYS.ROOT_STAT.KILLED (R398). -/
def ROOT_STAT_KILLED : Fld := { page := 0x19, off := 0x40, lo := 4, w := 1, acc := .ro }
/-- KEYS.ROOT_STAT.KILL_RUN (R398). -/
def ROOT_STAT_KILL_RUN : Fld := { page := 0x19, off := 0x40, lo := 3, w := 1, acc := .ro }
/-- KEYS.ROOT_STAT.LOCKED (R398). -/
def ROOT_STAT_LOCKED : Fld := { page := 0x19, off := 0x40, lo := 2, w := 1, acc := .ro }
/-- KEYS.ROOT_STAT.COPY (R398). -/
def ROOT_STAT_COPY : Fld := { page := 0x19, off := 0x40, lo := 1, w := 1, acc := .ro }
/-- KEYS.ROOT_STAT.PRESENT (R398). -/
def ROOT_STAT_PRESENT : Fld := { page := 0x19, off := 0x40, lo := 0, w := 1, acc := .ro }
/-- KEYS.ALARM_CFG.TAG_WIN (R398). -/
def ALARM_CFG_TAG_WIN : Fld := { page := 0x19, off := 0x44, lo := 16, w := 8, acc := .rwl, dflt := fun _ => 10, ok := fun v => 1 ≤ v && v ≤ 100 }
/-- KEYS.ALARM_CFG.TAG_LIMIT (R398). -/
def ALARM_CFG_TAG_LIMIT : Fld := { page := 0x19, off := 0x44, lo := 0, w := 16, acc := .rwl, dflt := fun _ => 64 }
/-- KEYS.ALARM_STAT.CAUSE (R398). -/
def ALARM_STAT_CAUSE : Fld := { page := 0x19, off := 0x48, lo := 0, w := 6, acc := .ro }
/-- KEYS.ALARM_NS.NS (R398). -/
def ALARM_NS_NS : Fld := { page := 0x19, off := 0x4c, lo := 0, w := 30, acc := .ro }
/-- KEYS.ALARM_SEC.SEC_LO (R398). -/
def ALARM_SEC_SEC_LO : Fld := { page := 0x19, off := 0x50, lo := 0, w := 32, acc := .ro }
/-- KEYS.ZEROIZE.KEY (R398). -/
def ZEROIZE_KEY : Fld := { page := 0x19, off := 0x54, lo := 0, w := 32, acc := .wo }
/-- KEYS.KEY_CTRL.FLUSH (R398). -/
def KEY_CTRL_FLUSH : Fld := { page := 0x19, off := 0x58, lo := 0, w := 1, acc := .w1s }
/-- KEYS.CACHE_STAT.PINNED (R398). -/
def CACHE_STAT_PINNED : Fld := { page := 0x19, off := 0x5c, lo := 16, w := 9, acc := .ro }
/-- KEYS.CACHE_STAT.VALID (R398). -/
def CACHE_STAT_VALID : Fld := { page := 0x19, off := 0x5c, lo := 0, w := 9, acc := .ro }
/-- KEYS.DERIVE_CNT.COUNT (R398). -/
def DERIVE_CNT_COUNT : Fld := { page := 0x19, off := 0x60, lo := 0, w := 32, acc := .ro }
/-- KEYS.MISS_CNT.COUNT (R398). -/
def MISS_CNT_COUNT : Fld := { page := 0x19, off := 0x64, lo := 0, w := 32, acc := .ro }
/-- KEYS.CNT_CLR.CLEAR (R398). -/
def CNT_CLR_CLEAR : Fld := { page := 0x19, off := 0x68, lo := 0, w := 1, acc := .wo }

/-- The fields of a KEYS page. -/
def fields : List Fld :=
  [ROOT_STAT_KILL_EN, ROOT_STAT_KILLED, ROOT_STAT_KILL_RUN, ROOT_STAT_LOCKED, ROOT_STAT_COPY, ROOT_STAT_PRESENT, ALARM_CFG_TAG_WIN, ALARM_CFG_TAG_LIMIT, ALARM_STAT_CAUSE, ALARM_NS_NS, ALARM_SEC_SEC_LO, ZEROIZE_KEY] ++
  [KEY_CTRL_FLUSH, CACHE_STAT_PINNED, CACHE_STAT_VALID, DERIVE_CNT_COUNT, MISS_CNT_COUNT, CNT_CLR_CLEAR]

end KEYS

namespace BRK

/-- BRK.ON_MAP.ON (R421). -/
def ON_MAP_ON : Fld := { page := 0x4c, off := 0x40, lo := 0, w := 12, acc := .ro }
/-- BRK.TRIP_MAP.TRIPPED (R421). -/
def TRIP_MAP_TRIPPED : Fld := { page := 0x4c, off := 0x44, lo := 0, w := 12, acc := .ro }
/-- BRK.PRES.PRESENT (R421). -/
def PRES_PRESENT : Fld := { page := 0x4c, off := 0x48, lo := 0, w := 8, acc := .ro }
/-- BRK.COMMIT.CURVE (R421). -/
def COMMIT_CURVE : Fld := { page := 0x4c, off := 0x4c, lo := 0, w := 12, acc := .w1s }
/-- BRK.CH_CTRL.KEEP (R422). -/
def CH_CTRL_KEEP : Fld := { page := 0x4c, off := 0x100, lo := 1, w := 1, acc := .rw, cnt := 12, stride := 64 }
/-- BRK.CH_CTRL.EN (R422). -/
def CH_CTRL_EN : Fld := { page := 0x4c, off := 0x100, lo := 0, w := 1, acc := .rw, dflt := fun n => if n < 4 then 1 else 0, cnt := 12, stride := 64 }
/-- BRK.CH_CFG.INRUSH (R422). -/
def CH_CFG_INRUSH : Fld := { page := 0x4c, off := 0x104, lo := 16, w := 16, acc := .rw, dflt := fun n => if n < 4 then 300 else 100, cnt := 12, stride := 64 }
/-- BRK.CH_CFG.RAMP_MAX (R422). -/
def CH_CFG_RAMP_MAX : Fld := { page := 0x4c, off := 0x104, lo := 8, w := 8, acc := .rw, dflt := fun _ => 50, cnt := 12, stride := 64, ok := fun v => 1 ≤ v && v ≤ 250 }
/-- BRK.CH_CFG.FITTED (R422). -/
def CH_CFG_FITTED : Fld := { page := 0x4c, off := 0x104, lo := 0, w := 1, acc := .rwl, dflt := fun _ => 1, cnt := 12, stride := 64 }
/-- BRK.CH_WIN.UV_ON (R422). -/
def CH_WIN_UV_ON : Fld := { page := 0x4c, off := 0x108, lo := 24, w := 8, acc := .rw, dflt := fun _ => 144, cnt := 12, stride := 64 }
/-- BRK.CH_WIN.OV_ON (R422). -/
def CH_WIN_OV_ON : Fld := { page := 0x4c, off := 0x108, lo := 16, w := 8, acc := .rw, dflt := fun _ => 228, cnt := 12, stride := 64 }
/-- BRK.CH_WIN.UV_OFF (R422). -/
def CH_WIN_UV_OFF : Fld := { page := 0x4c, off := 0x108, lo := 8, w := 8, acc := .rw, dflt := fun _ => 136, cnt := 12, stride := 64 }
/-- BRK.CH_WIN.OV_OFF (R422). -/
def CH_WIN_OV_OFF : Fld := { page := 0x4c, off := 0x108, lo := 0, w := 8, acc := .rw, dflt := fun _ => 240, cnt := 12, stride := 64 }
/-- BRK.CH_DELAY.OFF_MIN (R422). -/
def CH_DELAY_OFF_MIN : Fld := { page := 0x4c, off := 0x10c, lo := 16, w := 16, acc := .rw, dflt := fun n => if n < 4 then 100 else 500, cnt := 12, stride := 64, ok := fun v => 10 ≤ v && v ≤ 10000 }
/-- BRK.CH_DELAY.DELAY (R422). -/
def CH_DELAY_DELAY : Fld := { page := 0x4c, off := 0x10c, lo := 0, w := 12, acc := .rw, dflt := fun _ => 100, cnt := 12, stride := 64, ok := fun v => 1 ≤ v && v ≤ 4000 }
/-- BRK.CH_INST.REV (R422). -/
def CH_INST_REV : Fld := { page := 0x4c, off := 0x110, lo := 16, w := 16, acc := .rw, dflt := fun n => if n < 4 then 20 else 0, cnt := 12, stride := 64 }
/-- BRK.CH_INST.INST (R422). -/
def CH_INST_INST : Fld := { page := 0x4c, off := 0x110, lo := 0, w := 16, acc := .rw, dflt := fun n => if n < 4 then 2000 else 600, cnt := 12, stride := 64 }
/-- BRK.CH_SCALE.TAU (R422). -/
def CH_SCALE_TAU : Fld := { page := 0x4c, off := 0x114, lo := 16, w := 16, acc := .rw, dflt := fun _ => 1000, cnt := 12, stride := 64, ok := fun v => 1 ≤ v && v ≤ 60000 }
/-- BRK.CH_SCALE.SCALE (R422). -/
def CH_SCALE_SCALE : Fld := { page := 0x4c, off := 0x114, lo := 0, w := 16, acc := .rwl, dflt := fun n => if n < 4 then 1200 else 200, cnt := 12, stride := 64 }
/-- BRK.CH_TRIPS.COUNT (R422). -/
def CH_TRIPS_COUNT : Fld := { page := 0x4c, off := 0x118, lo := 0, w := 16, acc := .ro, cnt := 12, stride := 64 }
/-- BRK.CURVE.I (R422). -/
def CURVE_I : Fld := { page := 0x4c, off := 0x11c, lo := 16, w := 16, acc := .rw, dflt := fun i => if i / 8 < 4 then [440, 500, 600, 700, 800, 1000, 1200, 1600].getD (i % 8) 0 else [110, 125, 150, 200, 250, 300, 400, 500].getD (i % 8) 0, cnt := 96, stride := 0 }
/-- BRK.CURVE.T (R422). -/
def CURVE_T : Fld := { page := 0x4c, off := 0x11c, lo := 0, w := 16, acc := .rw, dflt := fun i => [60000, 20000, 5000, 1000, 200, 50, 10, 2].getD (i % 8) 0, cnt := 96, stride := 0 }
/-- BRK.CH_STAT.STAGED (R422). -/
def CH_STAT_STAGED : Fld := { page := 0x4c, off := 0x13c, lo := 11, w := 1, acc := .ro, cnt := 12, stride := 64 }
/-- BRK.CH_STAT.PRESENT (R422). -/
def CH_STAT_PRESENT : Fld := { page := 0x4c, off := 0x13c, lo := 10, w := 1, acc := .ro, cnt := 12, stride := 64 }
/-- BRK.CH_STAT.CURVE_BAD (R422). -/
def CH_STAT_CURVE_BAD : Fld := { page := 0x4c, off := 0x13c, lo := 9, w := 1, acc := .ro, cnt := 12, stride := 64 }
/-- BRK.CH_STAT.LATCHED (R422). -/
def CH_STAT_LATCHED : Fld := { page := 0x4c, off := 0x13c, lo := 8, w := 1, acc := .ro, cnt := 12, stride := 64 }
/-- BRK.CH_STAT.CAUSE (R422). -/
def CH_STAT_CAUSE : Fld := { page := 0x4c, off := 0x13c, lo := 4, w := 4, acc := .ro, cnt := 12, stride := 64 }
/-- BRK.CH_STAT.STATE (R422). -/
def CH_STAT_STATE : Fld := { page := 0x4c, off := 0x13c, lo := 0, w := 4, acc := .ro, cnt := 12, stride := 64 }

/-- The fields of a BRK page. -/
def fields : List Fld :=
  [ON_MAP_ON, TRIP_MAP_TRIPPED, PRES_PRESENT, COMMIT_CURVE, CH_CTRL_KEEP, CH_CTRL_EN, CH_CFG_INRUSH, CH_CFG_RAMP_MAX, CH_CFG_FITTED, CH_WIN_UV_ON, CH_WIN_OV_ON, CH_WIN_UV_OFF] ++
  [CH_WIN_OV_OFF, CH_DELAY_OFF_MIN, CH_DELAY_DELAY, CH_INST_REV, CH_INST_INST, CH_SCALE_TAU, CH_SCALE_SCALE, CH_TRIPS_COUNT, CURVE_I, CURVE_T, CH_STAT_STAGED, CH_STAT_PRESENT] ++
  [CH_STAT_CURVE_BAD, CH_STAT_LATCHED, CH_STAT_CAUSE, CH_STAT_STATE]

end BRK

namespace LINE

/-- LINE.PORT_STAT.WEST (R424). -/
def PORT_STAT_WEST : Fld := { page := 0x4d, off := 0x40, lo := 2, w := 2, acc := .ro }
/-- LINE.PORT_STAT.EAST (R424). -/
def PORT_STAT_EAST : Fld := { page := 0x4d, off := 0x40, lo := 0, w := 2, acc := .ro }
/-- LINE.PORT_CFG.FWD_IDLE (R424). -/
def PORT_CFG_FWD_IDLE : Fld := { page := 0x4d, off := 0x44, lo := 16, w := 8, acc := .rw, dflt := fun _ => 20 }
/-- LINE.PORT_CFG.BUS_WARN (R424). -/
def PORT_CFG_BUS_WARN : Fld := { page := 0x4d, off := 0x44, lo := 8, w := 8, acc := .rw, dflt := fun _ => 160 }
/-- LINE.PORT_CFG.BUS_LOSS (R424). -/
def PORT_CFG_BUS_LOSS : Fld := { page := 0x4d, off := 0x44, lo := 0, w := 8, acc := .rw, dflt := fun _ => 120 }
/-- LINE.V_E.CODE (R424). -/
def V_E_CODE : Fld := { page := 0x4d, off := 0x48, lo := 0, w := 12, acc := .ro }
/-- LINE.V_W.CODE (R424). -/
def V_W_CODE : Fld := { page := 0x4d, off := 0x4c, lo := 0, w := 12, acc := .ro }
/-- LINE.V_BUS.CODE (R424). -/
def V_BUS_CODE : Fld := { page := 0x4d, off := 0x50, lo := 0, w := 12, acc := .ro }
/-- LINE.V_SLOT.CODE (R424). -/
def V_SLOT_CODE : Fld := { page := 0x4d, off := 0x54, lo := 0, w := 12, acc := .ro, cnt := 8, stride := 4 }
/-- LINE.CNT_CLR.CLEAR (R424). -/
def CNT_CLR_CLEAR : Fld := { page := 0x4d, off := 0x80, lo := 0, w := 1, acc := .wo }
/-- LINE.I_NOW.MAX (R424). -/
def I_NOW_MAX : Fld := { page := 0x4d, off := 0x100, lo := 16, w := 16, acc := .ro, cnt := 12, stride := 16 }
/-- LINE.I_NOW.NOW (R424). -/
def I_NOW_NOW : Fld := { page := 0x4d, off := 0x100, lo := 0, w := 16, acc := .ro, cnt := 12, stride := 16 }
/-- LINE.THERM.F (R424). -/
def THERM_F : Fld := { page := 0x4d, off := 0x104, lo := 0, w := 25, acc := .ro, cnt := 12, stride := 16 }
/-- LINE.OFF_CNT.COUNT (R424). -/
def OFF_CNT_COUNT : Fld := { page := 0x4d, off := 0x108, lo := 0, w := 32, acc := .ro, cnt := 12, stride := 16 }

/-- The fields of a LINE page. -/
def fields : List Fld :=
  [PORT_STAT_WEST, PORT_STAT_EAST, PORT_CFG_FWD_IDLE, PORT_CFG_BUS_WARN, PORT_CFG_BUS_LOSS, V_E_CODE, V_W_CODE, V_BUS_CODE, V_SLOT_CODE, CNT_CLR_CLEAR, I_NOW_MAX, I_NOW_NOW] ++
  [THERM_F, OFF_CNT_COUNT]

end LINE

namespace POWER

/-- POWER.BUD_CFG.RESERVE (R442). -/
def BUD_CFG_RESERVE : Fld := { page := 0x1, off := 0x40, lo := 24, w := 8, acc := .rw, dflt := fun _ => 50 }
/-- POWER.BUD_CFG.RESTORE (R442). -/
def BUD_CFG_RESTORE : Fld := { page := 0x1, off := 0x40, lo := 16, w := 8, acc := .rw, dflt := fun _ => 20 }
/-- POWER.BUD_CFG.POLICY (R442). -/
def BUD_CFG_POLICY : Fld := { page := 0x1, off := 0x40, lo := 0, w := 2, acc := .rw, ok := fun v => v ≤ 2 }
/-- POWER.CABLE_LIM.LIMIT (R442). -/
def CABLE_LIM_LIMIT : Fld := { page := 0x1, off := 0x44, lo := 0, w := 16, acc := .rw, dflt := fun _ => 400, ok := fun v => 100 ≤ v && v ≤ 400 }
/-- POWER.HEADROOM.P_AVAIL (R442). -/
def HEADROOM_P_AVAIL : Fld := { page := 0x1, off := 0x48, lo := 16, w := 16, acc := .ro }
/-- POWER.HEADROOM.H (R442). -/
def HEADROOM_H : Fld := { page := 0x1, off := 0x48, lo := 0, w := 16, acc := .ro }
/-- POWER.P_IN.HUB_P (R442). -/
def P_IN_HUB_P : Fld := { page := 0x1, off := 0x4c, lo := 16, w := 16, acc := .ro }
/-- POWER.P_IN.P_IN (R442). -/
def P_IN : Fld := { page := 0x1, off := 0x4c, lo := 0, w := 16, acc := .ro }
/-- POWER.LEVERS.SHORT (R442). -/
def LEVERS_SHORT : Fld := { page := 0x1, off := 0x50, lo := 24, w := 1, acc := .ro }
/-- POWER.LEVERS.SHED (R442). -/
def LEVERS_SHED : Fld := { page := 0x1, off := 0x50, lo := 16, w := 8, acc := .ro }
/-- POWER.LEVERS.WISH_W (R442). -/
def LEVERS_WISH_W : Fld := { page := 0x1, off := 0x50, lo := 9, w := 1, acc := .ro }
/-- POWER.LEVERS.WISH_E (R442). -/
def LEVERS_WISH_E : Fld := { page := 0x1, off := 0x50, lo := 8, w := 1, acc := .ro }
/-- POWER.TOL_TC12.TC2 (R442). -/
def TOL_TC12_TC2 : Fld := { page := 0x1, off := 0x54, lo := 16, w := 16, acc := .rw, dflt := fun _ => 100 }
/-- POWER.TOL_TC12.TC1 (R442). -/
def TOL_TC12_TC1 : Fld := { page := 0x1, off := 0x54, lo := 0, w := 16, acc := .rw, dflt := fun _ => 1000 }
/-- POWER.TOL_TC34.TC4 (R442). -/
def TOL_TC34_TC4 : Fld := { page := 0x1, off := 0x58, lo := 16, w := 16, acc := .rw, dflt := fun _ => 10000 }
/-- POWER.TOL_TC34.TC3 (R442). -/
def TOL_TC34_TC3 : Fld := { page := 0x1, off := 0x58, lo := 0, w := 16, acc := .rw, dflt := fun _ => 100 }
/-- POWER.TOL_TC56.TC6 (R442). -/
def TOL_TC56_TC6 : Fld := { page := 0x1, off := 0x5c, lo := 16, w := 16, acc := .rw, dflt := fun _ => 50000 }
/-- POWER.TOL_TC56.TC5 (R442). -/
def TOL_TC56_TC5 : Fld := { page := 0x1, off := 0x5c, lo := 0, w := 16, acc := .rw, dflt := fun _ => 50000 }
/-- POWER.TOL_C12.TOL_C2 (R442). -/
def TOL_C12_TOL_C2 : Fld := { page := 0x1, off := 0x60, lo := 16, w := 16, acc := .rw, dflt := fun _ => 200 }
/-- POWER.TOL_C12.TOL_C1 (R442). -/
def TOL_C12_TOL_C1 : Fld := { page := 0x1, off := 0x60, lo := 0, w := 16, acc := .rw, dflt := fun _ => 50 }
/-- POWER.TOL_C3.TOL_C3 (R442). -/
def TOL_C3 : Fld := { page := 0x1, off := 0x64, lo := 0, w := 16, acc := .rw, dflt := fun _ => 1000 }
/-- POWER.LANE_LOAD.JOIN (R442). -/
def LANE_LOAD_JOIN : Fld := { page := 0x1, off := 0x68, lo := 8, w := 8, acc := .rw, dflt := fun _ => 70 }
/-- POWER.LANE_LOAD.SHED (R442). -/
def LANE_LOAD_SHED : Fld := { page := 0x1, off := 0x68, lo := 0, w := 8, acc := .rw, dflt := fun _ => 40 }
/-- POWER.SLOT_PRI.PRI (R442). -/
def SLOT_PRI_PRI : Fld := { page := 0x1, off := 0x6c, lo := 0, w := 4, acc := .rw, dflt := fun k => k, cnt := 8, stride := 0, bstr := 4 }
/-- POWER.SLOT_ADMIT.CURRENT (R442). -/
def SLOT_ADMIT_CURRENT : Fld := { page := 0x1, off := 0x70, lo := 0, w := 16, acc := .rw, dflt := fun _ => 100, cnt := 8, stride := 4 }
/-- POWER.THERM_CFG.CRIT (R442). -/
def THERM_CFG_CRIT : Fld := { page := 0x1, off := 0x90, lo := 16, w := 8, acc := .rwl, dflt := fun _ => 115 }
/-- POWER.THERM_CFG.HOT (R442). -/
def THERM_CFG_HOT : Fld := { page := 0x1, off := 0x90, lo := 8, w := 8, acc := .rwl, dflt := fun _ => 105 }
/-- POWER.THERM_CFG.WARN (R442). -/
def THERM_CFG_WARN : Fld := { page := 0x1, off := 0x90, lo := 0, w := 8, acc := .rwl, dflt := fun _ => 95 }
/-- POWER.TEMP.MAX (R442). -/
def TEMP_MAX : Fld := { page := 0x1, off := 0x94, lo := 16, w := 16, acc := .ro }
/-- POWER.TEMP.NOW (R442). -/
def TEMP_NOW : Fld := { page := 0x1, off := 0x94, lo := 0, w := 16, acc := .ro }
/-- POWER.PWR_STAT.SAVING (R442). -/
def PWR_STAT_SAVING : Fld := { page := 0x1, off := 0x98, lo := 2, w := 1, acc := .ro }
/-- POWER.PWR_STAT.THERM (R442). -/
def PWR_STAT_THERM : Fld := { page := 0x1, off := 0x98, lo := 0, w := 2, acc := .ro }
/-- POWER.TOL_LAST.VALID (R442). -/
def TOL_LAST_VALID : Fld := { page := 0x1, off := 0x9c, lo := 31, w := 1, acc := .w1c }
/-- POWER.TOL_LAST.KIND (R442). -/
def TOL_LAST_KIND : Fld := { page := 0x1, off := 0x9c, lo := 30, w := 1, acc := .ro }
/-- POWER.TOL_LAST.CLASS (R442). -/
def TOL_LAST_CLASS : Fld := { page := 0x1, off := 0x9c, lo := 27, w := 3, acc := .ro }
/-- POWER.TOL_LAST.WHERE (R442). -/
def TOL_LAST_WHERE : Fld := { page := 0x1, off := 0x9c, lo := 0, w := 9, acc := .ro }
/-- POWER.TOL_MISS_CNT.COUNT (R442). -/
def TOL_MISS_CNT_COUNT : Fld := { page := 0x1, off := 0xa0, lo := 0, w := 32, acc := .ro }
/-- POWER.SHORT_CNT.COUNT (R442). -/
def SHORT_CNT_COUNT : Fld := { page := 0x1, off := 0xa4, lo := 0, w := 32, acc := .ro }
/-- POWER.SLOT_SHED_CNT.COUNT (R442). -/
def SLOT_SHED_CNT_COUNT : Fld := { page := 0x1, off := 0xa8, lo := 0, w := 32, acc := .ro }
/-- POWER.CNT_CLR.CLEAR (R442). -/
def CNT_CLR_CLEAR : Fld := { page := 0x1, off := 0xac, lo := 0, w := 1, acc := .wo }

/-- The fields of a POWER page. -/
def fields : List Fld :=
  [BUD_CFG_RESERVE, BUD_CFG_RESTORE, BUD_CFG_POLICY, CABLE_LIM_LIMIT, HEADROOM_P_AVAIL, HEADROOM_H, P_IN_HUB_P, P_IN, LEVERS_SHORT, LEVERS_SHED, LEVERS_WISH_W, LEVERS_WISH_E] ++
  [TOL_TC12_TC2, TOL_TC12_TC1, TOL_TC34_TC4, TOL_TC34_TC3, TOL_TC56_TC6, TOL_TC56_TC5, TOL_C12_TOL_C2, TOL_C12_TOL_C1, TOL_C3, LANE_LOAD_JOIN, LANE_LOAD_SHED, SLOT_PRI_PRI] ++
  [SLOT_ADMIT_CURRENT, THERM_CFG_CRIT, THERM_CFG_HOT, THERM_CFG_WARN, TEMP_MAX, TEMP_NOW, PWR_STAT_SAVING, PWR_STAT_THERM, TOL_LAST_VALID, TOL_LAST_KIND, TOL_LAST_CLASS, TOL_LAST_WHERE] ++
  [TOL_MISS_CNT_COUNT, SHORT_CNT_COUNT, SLOT_SHED_CNT_COUNT, CNT_CLR_CLEAR]

end POWER

namespace XSPI

/-- XSPI.FL_CFG.DIV (R469). -/
def FL_CFG_DIV : Fld := { page := 0x58, off := 0x40, lo := 16, w := 8, acc := .rw, dflt := fun _ => 20, ok := fun v => 5 ≤ v && v ≤ 40 }
/-- XSPI.FL_CFG.DUMMY (R469). -/
def FL_CFG_DUMMY : Fld := { page := 0x58, off := 0x40, lo := 8, w := 5, acc := .rw, dflt := fun _ => 8 }
/-- XSPI.FL_CFG.PROTO (R469). -/
def FL_CFG_PROTO : Fld := { page := 0x58, off := 0x40, lo := 0, w := 2, acc := .rw, dflt := fun _ => 0, ok := fun v => v ≤ 1 }
/-- XSPI.FL_ADDR.ADDR (R469). -/
def FL_ADDR_ADDR : Fld := { page := 0x58, off := 0x48, lo := 0, w := 32, acc := .rw }
/-- XSPI.FL_DATA.DATA (R469). -/
def FL_DATA_DATA : Fld := { page := 0x58, off := 0x50, lo := 0, w := 32, acc := .rw, cnt := 16, stride := 4 }
/-- XSPI.FL_CMD.STATUS (R469). -/
def FL_CMD_STATUS : Fld := { page := 0x58, off := 0x90, lo := 30, w := 2, acc := .ro }
/-- XSPI.FL_CMD.CAUSE (R469). -/
def FL_CMD_CAUSE : Fld := { page := 0x58, off := 0x90, lo := 27, w := 3, acc := .ro }
/-- XSPI.FL_CMD.LEN (R469). -/
def FL_CMD_LEN : Fld := { page := 0x58, off := 0x90, lo := 8, w := 6, acc := .rw, ok := fun v => 1 ≤ v && v ≤ 16 }
/-- XSPI.FL_CMD.OP (R469). -/
def FL_CMD_OP : Fld := { page := 0x58, off := 0x90, lo := 4, w := 2, acc := .rw, ok := fun v => v ≤ 2 }
/-- XSPI.FL_CMD.GO (R469). -/
def FL_CMD_GO : Fld := { page := 0x58, off := 0x90, lo := 0, w := 1, acc := .w1s }
/-- XSPI.ERR_CNT.COUNT (R469). -/
def ERR_CNT_COUNT : Fld := { page := 0x58, off := 0x94, lo := 0, w := 32, acc := .ro }

/-- The fields of a XSPI page. -/
def fields : List Fld :=
  [FL_CFG_DIV, FL_CFG_DUMMY, FL_CFG_PROTO, FL_ADDR_ADDR, FL_DATA_DATA, FL_CMD_STATUS, FL_CMD_CAUSE, FL_CMD_LEN, FL_CMD_OP, FL_CMD_GO, ERR_CNT_COUNT]

end XSPI

namespace OTP

/-- OTP.OTP_STAT.KILL_EN (R471). -/
def OTP_STAT_KILL_EN : Fld := { page := 0x5a, off := 0x40, lo := 19, w := 1, acc := .ro }
/-- OTP.OTP_STAT.KILL_STARTED (R471). -/
def OTP_STAT_KILL_STARTED : Fld := { page := 0x5a, off := 0x40, lo := 18, w := 1, acc := .ro }
/-- OTP.OTP_STAT.KEY_BLANK (R471). -/
def OTP_STAT_KEY_BLANK : Fld := { page := 0x5a, off := 0x40, lo := 17, w := 1, acc := .ro }
/-- OTP.OTP_STAT.KEY_LOCKED (R471). -/
def OTP_STAT_KEY_LOCKED : Fld := { page := 0x5a, off := 0x40, lo := 16, w := 1, acc := .ro }
/-- OTP.OTP_STAT.NONE (R471). -/
def OTP_STAT_NONE : Fld := { page := 0x5a, off := 0x40, lo := 10, w := 1, acc := .ro }
/-- OTP.OTP_STAT.SEL (R471). -/
def OTP_STAT_SEL : Fld := { page := 0x5a, off := 0x40, lo := 8, w := 2, acc := .ro }
/-- OTP.OTP_STAT.RETIRED (R471). -/
def OTP_STAT_RETIRED : Fld := { page := 0x5a, off := 0x40, lo := 4, w := 4, acc := .ro }
/-- OTP.OTP_STAT.VALID (R471). -/
def OTP_STAT_VALID : Fld := { page := 0x5a, off := 0x40, lo := 0, w := 4, acc := .ro }
/-- OTP.GEN_VIEW.GEN (R471). -/
def GEN_VIEW_GEN : Fld := { page := 0x5a, off := 0x44, lo := 0, w := 2, acc := .rw }
/-- OTP.GEN_WORD.WORD (R471). -/
def GEN_WORD_WORD : Fld := { page := 0x5a, off := 0x100, lo := 0, w := 32, acc := .ro, cnt := 48, stride := 4, sel := 1 }
/-- OTP.STAGE.WORD (R471). -/
def STAGE_WORD : Fld := { page := 0x5a, off := 0x200, lo := 0, w := 32, acc := .rw, cnt := 46, stride := 4 }
/-- OTP.PROG_CTRL.STATUS (R471). -/
def PROG_CTRL_STATUS : Fld := { page := 0x5a, off := 0x2c0, lo := 30, w := 2, acc := .ro }
/-- OTP.PROG_CTRL.CAUSE (R471). -/
def PROG_CTRL_CAUSE : Fld := { page := 0x5a, off := 0x2c0, lo := 27, w := 3, acc := .ro }
/-- OTP.PROG_CTRL.GO (R471). -/
def PROG_CTRL_GO : Fld := { page := 0x5a, off := 0x2c0, lo := 8, w := 1, acc := .w1s }
/-- OTP.PROG_CTRL.OP (R471). -/
def PROG_CTRL_OP : Fld := { page := 0x5a, off := 0x2c0, lo := 4, w := 3, acc := .rw, ok := fun v => v ≤ 3 }
/-- OTP.PROG_CTRL.GEN (R471). -/
def PROG_CTRL_GEN : Fld := { page := 0x5a, off := 0x2c0, lo := 0, w := 2, acc := .rw }
/-- OTP.KEY.KEY (R471). -/
def KEY : Fld := { page := 0x5a, off := 0x300, lo := 0, w := 32, acc := .wo, cnt := 8, stride := 4 }

/-- The fields of a OTP page. -/
def fields : List Fld :=
  [OTP_STAT_KILL_EN, OTP_STAT_KILL_STARTED, OTP_STAT_KEY_BLANK, OTP_STAT_KEY_LOCKED, OTP_STAT_NONE, OTP_STAT_SEL, OTP_STAT_RETIRED, OTP_STAT_VALID, GEN_VIEW_GEN, GEN_WORD_WORD, STAGE_WORD, PROG_CTRL_STATUS] ++
  [PROG_CTRL_CAUSE, PROG_CTRL_GO, PROG_CTRL_OP, PROG_CTRL_GEN, KEY]

end OTP

namespace FAULT

/-- FAULT.COL_STAT.SELF (R487). -/
def COL_STAT_SELF : Fld := { page := 0x3, off := 0x40, lo := 31, w := 1, acc := .ro }
/-- FAULT.COL_STAT.OVF (R487). -/
def COL_STAT_OVF : Fld := { page := 0x3, off := 0x40, lo := 30, w := 1, acc := .w1c }
/-- FAULT.COL_STAT.FATAL_N (R487). -/
def COL_STAT_FATAL_N : Fld := { page := 0x3, off := 0x40, lo := 16, w := 8, acc := .ro }
/-- FAULT.COL_STAT.CONT_N (R487). -/
def COL_STAT_CONT_N : Fld := { page := 0x3, off := 0x40, lo := 8, w := 8, acc := .ro }
/-- FAULT.COL_STAT.REC_N (R487). -/
def COL_STAT_REC_N : Fld := { page := 0x3, off := 0x40, lo := 0, w := 6, acc := .ro }
/-- FAULT.REC_HEAD0.CLASS (R487). -/
def REC_HEAD0_CLASS : Fld := { page := 0x3, off := 0x44, lo := 30, w := 2, acc := .ro }
/-- FAULT.REC_HEAD0.INJ (R487). -/
def REC_HEAD0_INJ : Fld := { page := 0x3, off := 0x44, lo := 29, w := 1, acc := .ro }
/-- FAULT.REC_HEAD0.PROT (R487). -/
def REC_HEAD0_PROT : Fld := { page := 0x3, off := 0x44, lo := 28, w := 1, acc := .ro }
/-- FAULT.REC_HEAD0.ESC (R487). -/
def REC_HEAD0_ESC : Fld := { page := 0x3, off := 0x44, lo := 27, w := 1, acc := .ro }
/-- FAULT.REC_HEAD0.ROW (R487). -/
def REC_HEAD0_ROW : Fld := { page := 0x3, off := 0x44, lo := 24, w := 3, acc := .ro }
/-- FAULT.REC_HEAD0.PAGE (R487). -/
def REC_HEAD0_PAGE : Fld := { page := 0x3, off := 0x44, lo := 16, w := 8, acc := .ro }
/-- FAULT.REC_HEAD0.CHECKER (R487). -/
def REC_HEAD0_CHECKER : Fld := { page := 0x3, off := 0x44, lo := 8, w := 5, acc := .ro }
/-- FAULT.REC_HEAD0.SEQ (R487). -/
def REC_HEAD0_SEQ : Fld := { page := 0x3, off := 0x44, lo := 0, w := 8, acc := .ro }
/-- FAULT.REC_HEAD1.DETAIL (R487). -/
def REC_HEAD1_DETAIL : Fld := { page := 0x3, off := 0x48, lo := 0, w := 32, acc := .ro }
/-- FAULT.REC_HEAD2.NS (R487). -/
def REC_HEAD2_NS : Fld := { page := 0x3, off := 0x4c, lo := 0, w := 30, acc := .ro }
/-- FAULT.REC_HEAD3.SEC_LO (R487). -/
def REC_HEAD3_SEC_LO : Fld := { page := 0x3, off := 0x50, lo := 0, w := 32, acc := .ro }
/-- FAULT.REC_POP.POP (R487). -/
def REC_POP_POP : Fld := { page := 0x3, off := 0x54, lo := 0, w := 1, acc := .wo }
/-- FAULT.CORR_CNT.COUNT (R487). -/
def CORR_CNT_COUNT : Fld := { page := 0x3, off := 0x58, lo := 0, w := 32, acc := .ro }
/-- FAULT.CORR_LOST.COUNT (R487). -/
def CORR_LOST_COUNT : Fld := { page := 0x3, off := 0x5c, lo := 0, w := 32, acc := .ro }
/-- FAULT.CLR_SEL.PAGE (R487). -/
def CLR_SEL_PAGE : Fld := { page := 0x3, off := 0x60, lo := 16, w := 8, acc := .rw }
/-- FAULT.CLR_SEL.CHECKER (R487). -/
def CLR_SEL_CHECKER : Fld := { page := 0x3, off := 0x60, lo := 8, w := 5, acc := .rw }
/-- FAULT.CLR_CTRL.STATUS (R487). -/
def CLR_CTRL_STATUS : Fld := { page := 0x3, off := 0x64, lo := 30, w := 2, acc := .ro }
/-- FAULT.CLR_CTRL.CAUSE (R487). -/
def CLR_CTRL_CAUSE : Fld := { page := 0x3, off := 0x64, lo := 28, w := 2, acc := .ro }
/-- FAULT.CLR_CTRL.GO (R487). -/
def CLR_CTRL_GO : Fld := { page := 0x3, off := 0x64, lo := 0, w := 1, acc := .w1s }
/-- FAULT.ESC_CFG.BANK_LIMIT (R487). -/
def ESC_CFG_BANK_LIMIT : Fld := { page := 0x3, off := 0x68, lo := 8, w := 4, acc := .rwl, dflt := fun _ => 4, ok := fun v => 1 ≤ v && v ≤ 10 }
/-- FAULT.ESC_CFG.CONT_LIMIT (R487). -/
def ESC_CFG_CONT_LIMIT : Fld := { page := 0x3, off := 0x68, lo := 0, w := 8, acc := .rwl, dflt := fun _ => 8 }
/-- FAULT.FLT_REL.RELEASE (R487). -/
def FLT_REL_RELEASE : Fld := { page := 0x3, off := 0x6c, lo := 0, w := 1, acc := .w1s }
/-- FAULT.EXT_STAT.FLTN_LOW (R487). -/
def EXT_STAT_FLTN_LOW : Fld := { page := 0x3, off := 0x70, lo := 2, w := 1, acc := .ro }
/-- FAULT.EXT_STAT.ALIVE_RUN (R487). -/
def EXT_STAT_ALIVE_RUN : Fld := { page := 0x3, off := 0x70, lo := 1, w := 1, acc := .ro }
/-- FAULT.EXT_STAT.PROT_FAULT (R487). -/
def EXT_STAT_PROT_FAULT : Fld := { page := 0x3, off := 0x70, lo := 0, w := 1, acc := .ro }
/-- FAULT.REPEAT_CNT.COUNT (R487). -/
def REPEAT_CNT_COUNT : Fld := { page := 0x3, off := 0x74, lo := 0, w := 32, acc := .ro }
/-- FAULT.PAGE_MAP.FAULTED (R487). -/
def PAGE_MAP_FAULTED : Fld := { page := 0x3, off := 0x80, lo := 0, w := 32, acc := .ro, cnt := 3, stride := 4 }
/-- FAULT.CNT_CLR.CLEAR (R487). -/
def CNT_CLR_CLEAR : Fld := { page := 0x3, off := 0x8c, lo := 0, w := 1, acc := .wo }

/-- The fields of a FAULT page. -/
def fields : List Fld :=
  [COL_STAT_SELF, COL_STAT_OVF, COL_STAT_FATAL_N, COL_STAT_CONT_N, COL_STAT_REC_N, REC_HEAD0_CLASS, REC_HEAD0_INJ, REC_HEAD0_PROT, REC_HEAD0_ESC, REC_HEAD0_ROW, REC_HEAD0_PAGE, REC_HEAD0_CHECKER] ++
  [REC_HEAD0_SEQ, REC_HEAD1_DETAIL, REC_HEAD2_NS, REC_HEAD3_SEC_LO, REC_POP_POP, CORR_CNT_COUNT, CORR_LOST_COUNT, CLR_SEL_PAGE, CLR_SEL_CHECKER, CLR_CTRL_STATUS, CLR_CTRL_CAUSE, CLR_CTRL_GO] ++
  [ESC_CFG_BANK_LIMIT, ESC_CFG_CONT_LIMIT, FLT_REL_RELEASE, EXT_STAT_FLTN_LOW, EXT_STAT_ALIVE_RUN, EXT_STAT_PROT_FAULT, REPEAT_CNT_COUNT, PAGE_MAP_FAULTED, CNT_CLR_CLEAR]

end FAULT

namespace CUP

/-- CUP.SNAP_CTRL.STATUS (R494). -/
def SNAP_CTRL_STATUS : Fld := { page := 0x6, off := 0x40, lo := 30, w := 2, acc := .ro }
/-- CUP.SNAP_CTRL.ABORT_LATE (R494). -/
def SNAP_CTRL_ABORT_LATE : Fld := { page := 0x6, off := 0x40, lo := 29, w := 1, acc := .ro }
/-- CUP.SNAP_CTRL.ABORT (R494). -/
def SNAP_CTRL_ABORT : Fld := { page := 0x6, off := 0x40, lo := 9, w := 1, acc := .w1s }
/-- CUP.SNAP_CTRL.GO (R494). -/
def SNAP_CTRL_GO : Fld := { page := 0x6, off := 0x40, lo := 8, w := 1, acc := .w1s }
/-- CUP.SNAP_CTRL.CLEAR (R494). -/
def SNAP_CTRL_CLEAR : Fld := { page := 0x6, off := 0x40, lo := 7, w := 1, acc := .rw, dflt := fun _ => 1 }
/-- CUP.SNAP_CTRL.MONITOR (R494). -/
def SNAP_CTRL_MONITOR : Fld := { page := 0x6, off := 0x40, lo := 0, w := 5, acc := .rw, ok := fun v => v ≤ 23 }
/-- CUP.MON_CFG.EN (R494). -/
def MON_CFG_EN : Fld := { page := 0x6, off := 0x100, lo := 31, w := 1, acc := .rw, cnt := 24, stride := 32 }
/-- CUP.MON_CFG.LOG2 (R494). -/
def MON_CFG_LOG2 : Fld := { page := 0x6, off := 0x100, lo := 30, w := 1, acc := .rw, cnt := 24, stride := 32 }
/-- CUP.MON_CFG.SRC (R494). -/
def MON_CFG_SRC : Fld := { page := 0x6, off := 0x100, lo := 24, w := 6, acc := .rw, cnt := 24, stride := 32, ok := fun v => v ≤ 40 }
/-- CUP.MON_CFG.INDEX (R494). -/
def MON_CFG_INDEX : Fld := { page := 0x6, off := 0x100, lo := 8, w := 10, acc := .rw, cnt := 24, stride := 32 }
/-- CUP.MON_CFG.SHIFT (R494). -/
def MON_CFG_SHIFT : Fld := { page := 0x6, off := 0x100, lo := 0, w := 5, acc := .rw, cnt := 24, stride := 32 }
/-- CUP.BIN_LO.LO (R494). -/
def BIN_LO_LO : Fld := { page := 0x6, off := 0x104, lo := 0, w := 32, acc := .rw, cnt := 24, stride := 32 }
/-- CUP.BIN_W.WIDTH (R494). -/
def BIN_W_WIDTH : Fld := { page := 0x6, off := 0x108, lo := 0, w := 32, acc := .rw, dflt := fun _ => 1, cnt := 24, stride := 32, ok := fun v => 1 ≤ v && v ≤ 2147483648 }
/-- CUP.THR.VALUE (R494). -/
def THR_VALUE : Fld := { page := 0x6, off := 0x10c, lo := 0, w := 32, acc := .rw, cnt := 24, stride := 32 }
/-- CUP.THR_CFG.MODE (R494). -/
def THR_CFG_MODE : Fld := { page := 0x6, off := 0x110, lo := 0, w := 2, acc := .rw, cnt := 24, stride := 32, ok := fun v => v ≤ 2 }
/-- CUP.LIVE_COUNT.COUNT (R494). -/
def LIVE_COUNT_COUNT : Fld := { page := 0x6, off := 0x114, lo := 0, w := 32, acc := .ro, cnt := 24, stride := 32 }
/-- CUP.SNAP_INFO.MONITOR (R494). -/
def SNAP_INFO_MONITOR : Fld := { page := 0x6, off := 0x400, lo := 0, w := 5, acc := .ro }
/-- CUP.SNAP_MIN.VALUE (R494). -/
def SNAP_MIN_VALUE : Fld := { page := 0x6, off := 0x404, lo := 0, w := 32, acc := .ro }
/-- CUP.SNAP_MAX.VALUE (R494). -/
def SNAP_MAX_VALUE : Fld := { page := 0x6, off := 0x408, lo := 0, w := 32, acc := .ro }
/-- CUP.SNAP_COUNT.COUNT (R494). -/
def SNAP_COUNT_COUNT : Fld := { page := 0x6, off := 0x40c, lo := 0, w := 32, acc := .ro }
/-- CUP.SNAP_SUM.SUM (R494). -/
def SNAP_SUM_SUM : Fld := { page := 0x6, off := 0x410, lo := 0, w := 64, acc := .ro }
/-- CUP.SNAP_NS.NS (R494). -/
def SNAP_NS_NS : Fld := { page := 0x6, off := 0x418, lo := 0, w := 30, acc := .ro }
/-- CUP.SNAP_SEC.SEC_LO (R494). -/
def SNAP_SEC_SEC_LO : Fld := { page := 0x6, off := 0x41c, lo := 0, w := 32, acc := .ro }
/-- CUP.SNAP_BIN.COUNT (R494). -/
def SNAP_BIN_COUNT : Fld := { page := 0x6, off := 0x420, lo := 0, w := 32, acc := .ro, cnt := 32, stride := 4 }

/-- The fields of a CUP page. -/
def fields : List Fld :=
  [SNAP_CTRL_STATUS, SNAP_CTRL_ABORT_LATE, SNAP_CTRL_ABORT, SNAP_CTRL_GO, SNAP_CTRL_CLEAR, SNAP_CTRL_MONITOR, MON_CFG_EN, MON_CFG_LOG2, MON_CFG_SRC, MON_CFG_INDEX, MON_CFG_SHIFT, BIN_LO_LO] ++
  [BIN_W_WIDTH, THR_VALUE, THR_CFG_MODE, LIVE_COUNT_COUNT, SNAP_INFO_MONITOR, SNAP_MIN_VALUE, SNAP_MAX_VALUE, SNAP_COUNT_COUNT, SNAP_SUM_SUM, SNAP_NS_NS, SNAP_SEC_SEC_LO, SNAP_BIN_COUNT]

end CUP

namespace UPDATE

/-- UPDATE.CFG.RELAY_TMO (R508). -/
def CFG_RELAY_TMO : Fld := { page := 0x59, off := 0x40, lo := 16, w := 8, acc := .rw, dflt := fun _ => 20, ok := fun v => 5 ≤ v && v ≤ 100 }
/-- UPDATE.CFG.DIR (R508). -/
def CFG_DIR : Fld := { page := 0x59, off := 0x40, lo := 2, w := 1, acc := .rw }
/-- UPDATE.CFG.LOCAL_LOAD (R508). -/
def CFG_LOCAL_LOAD : Fld := { page := 0x59, off := 0x40, lo := 1, w := 1, acc := .rwl }
/-- UPDATE.CFG.ACCEPT (R508). -/
def CFG_ACCEPT : Fld := { page := 0x59, off := 0x40, lo := 0, w := 1, acc := .rwl, dflt := fun _ => 1 }
/-- UPDATE.GEN_FLOOR.GEN (R508). -/
def GEN_FLOOR_GEN : Fld := { page := 0x59, off := 0x44, lo := 0, w := 32, acc := .rwl }
/-- UPDATE.CTRL.TWIN_HANDOVER (R508). -/
def CTRL_TWIN_HANDOVER : Fld := { page := 0x59, off := 0x48, lo := 5, w := 1, acc := .w1s }
/-- UPDATE.CTRL.RESTART (R508). -/
def CTRL_RESTART : Fld := { page := 0x59, off := 0x48, lo := 4, w := 1, acc := .w1s }
/-- UPDATE.CTRL.SWAP_GO (R508). -/
def CTRL_SWAP_GO : Fld := { page := 0x59, off := 0x48, lo := 3, w := 1, acc := .w1s }
/-- UPDATE.CTRL.ABORT (R508). -/
def CTRL_ABORT : Fld := { page := 0x59, off := 0x48, lo := 2, w := 1, acc := .w1s }
/-- UPDATE.CTRL.RELAY_GO (R508). -/
def CTRL_RELAY_GO : Fld := { page := 0x59, off := 0x48, lo := 1, w := 1, acc := .w1s }
/-- UPDATE.CTRL.VERIFY (R508). -/
def CTRL_VERIFY : Fld := { page := 0x59, off := 0x48, lo := 0, w := 1, acc := .w1s }
/-- UPDATE.STAT.STATUS (R508). -/
def STAT_STATUS : Fld := { page := 0x59, off := 0x4c, lo := 30, w := 2, acc := .ro }
/-- UPDATE.STAT.ABORT_LATE (R508). -/
def STAT_ABORT_LATE : Fld := { page := 0x59, off := 0x4c, lo := 29, w := 1, acc := .ro }
/-- UPDATE.STAT.STATE (R508). -/
def STAT_STATE : Fld := { page := 0x59, off := 0x4c, lo := 24, w := 4, acc := .ro }
/-- UPDATE.STAT.FAIL (R508). -/
def STAT_FAIL : Fld := { page := 0x59, off := 0x4c, lo := 16, w := 8, acc := .ro }
/-- UPDATE.STAT.BLOCKS (R508). -/
def STAT_BLOCKS : Fld := { page := 0x59, off := 0x4c, lo := 0, w := 9, acc := .ro }
/-- UPDATE.IMG_ID.ID (R508). -/
def IMG_ID_ID : Fld := { page := 0x59, off := 0x50, lo := 0, w := 64, acc := .ro }
/-- UPDATE.ACT_ID.ID (R508). -/
def ACT_ID_ID : Fld := { page := 0x59, off := 0x58, lo := 0, w := 64, acc := .ro }
/-- UPDATE.IMG_GEN.GEN (R508). -/
def IMG_GEN_GEN : Fld := { page := 0x59, off := 0x60, lo := 0, w := 32, acc := .ro }
/-- UPDATE.ACT_GEN.GEN (R508). -/
def ACT_GEN_GEN : Fld := { page := 0x59, off := 0x64, lo := 0, w := 32, acc := .ro }
/-- UPDATE.SWAP_AT.CYCLE (R508). -/
def SWAP_AT_CYCLE : Fld := { page := 0x59, off := 0x68, lo := 0, w := 64, acc := .rw }
/-- UPDATE.REP_COUNT.COUNT (R508). -/
def REP_COUNT_COUNT : Fld := { page := 0x59, off := 0x70, lo := 0, w := 8, acc := .ro }
/-- UPDATE.REP_HEAD.CODE (R508). -/
def REP_HEAD_CODE : Fld := { page := 0x59, off := 0x74, lo := 24, w := 8, acc := .ro }
/-- UPDATE.REP_HEAD.NODE (R508). -/
def REP_HEAD_NODE : Fld := { page := 0x59, off := 0x74, lo := 12, w := 12, acc := .ro }
/-- UPDATE.REP_HEAD.BLOCKS (R508). -/
def REP_HEAD_BLOCKS : Fld := { page := 0x59, off := 0x74, lo := 0, w := 9, acc := .ro }
/-- UPDATE.REP_POP.POP (R508). -/
def REP_POP_POP : Fld := { page := 0x59, off := 0x78, lo := 0, w := 1, acc := .wo }
/-- UPDATE.TAG_FAIL.COUNT (R508). -/
def TAG_FAIL_COUNT : Fld := { page := 0x59, off := 0x7c, lo := 0, w := 32, acc := .ro }
/-- UPDATE.RESENT.COUNT (R508). -/
def RESENT_COUNT : Fld := { page := 0x59, off := 0x80, lo := 0, w := 32, acc := .ro }
/-- UPDATE.REP_LOST.COUNT (R508). -/
def REP_LOST_COUNT : Fld := { page := 0x59, off := 0x84, lo := 0, w := 32, acc := .ro }
/-- UPDATE.CNT_CLR.CLEAR (R508). -/
def CNT_CLR_CLEAR : Fld := { page := 0x59, off := 0x90, lo := 0, w := 1, acc := .wo }

/-- The fields of a UPDATE page. -/
def fields : List Fld :=
  [CFG_RELAY_TMO, CFG_DIR, CFG_LOCAL_LOAD, CFG_ACCEPT, GEN_FLOOR_GEN, CTRL_TWIN_HANDOVER, CTRL_RESTART, CTRL_SWAP_GO, CTRL_ABORT, CTRL_RELAY_GO, CTRL_VERIFY, STAT_STATUS] ++
  [STAT_ABORT_LATE, STAT_STATE, STAT_FAIL, STAT_BLOCKS, IMG_ID_ID, ACT_ID_ID, IMG_GEN_GEN, ACT_GEN_GEN, SWAP_AT_CYCLE, REP_COUNT_COUNT, REP_HEAD_CODE, REP_HEAD_NODE] ++
  [REP_HEAD_BLOCKS, REP_POP_POP, TAG_FAIL_COUNT, RESENT_COUNT, REP_LOST_COUNT, CNT_CLR_CLEAR]

end UPDATE

end Sys2Proof.Machine
end

