-- ==== Sys2Proof/Machine/Tbl.lean ====
section
/-! DEFINITION. Sparse tables: lists of (key, value) with strictly rising keys. They hold the register
fields, the memories and every numbered set of like things in the state. -/

namespace Sys2Proof.Machine

/-- A sparse table: key and value pairs, keys strictly rising. -/
abbrev Tbl (α : Type) := List (Nat × α)

/-- The value at a key, if one is listed. -/
def Tbl.find {α : Type} : Tbl α → Nat → Option α
  | [], _ => none
  | (k, v) :: t, i => if k = i then some v else Tbl.find t i

/-- The value at a key, or the default. -/
def Tbl.get {α : Type} (d : α) (t : Tbl α) (i : Nat) : α := (Tbl.find t i).getD d

/-- Lists a value at a key, in its place among rising keys, replacing the value listed there. -/
def Tbl.put {α : Type} : Tbl α → Nat → α → Tbl α
  | [], i, v => [(i, v)]
  | (k, w) :: t, i, v =>
    if i < k then (i, v) :: (k, w) :: t
    else if i = k then (i, v) :: t
    else (k, w) :: Tbl.put t i v

/-- Unlists a key. -/
def Tbl.del {α : Type} (t : Tbl α) (i : Nat) : Tbl α := t.filter (fun e => e.1 ≠ i)

/-- Applies a function to the value at a key. -/
def Tbl.upd {α : Type} (d : α) (t : Tbl α) (i : Nat) (f : α → α) : Tbl α :=
  Tbl.put t i (f (Tbl.get d t i))

/-- Writes a value in the canonical form in which the default is not listed. -/
def Tbl.set {α : Type} [DecidableEq α] (d : α) (t : Tbl α) (i : Nat) (v : α) : Tbl α :=
  if v = d then Tbl.del t i else Tbl.put t i v

/-- Keys strictly rise. -/
def Tbl.rising {α : Type} : Tbl α → Bool
  | [] => true
  | (k, _) :: t => t.all (fun e => decide (k < e.1)) && Tbl.rising t

/-- The canonical form of a memory: keys strictly rising, no entry equal to the default. -/
def Tbl.wf {α : Type} [DecidableEq α] (d : α) (t : Tbl α) : Bool :=
  Tbl.rising t && t.all (fun e => decide (e.2 ≠ d))

/-- A sorted set of numbers without repeats: membership is `List.elem`. -/
def insertNat : List Nat → Nat → List Nat
  | [], i => [i]
  | k :: t, i => if i < k then i :: k :: t else if i = k then k :: t else k :: insertNat t i

/-- Takes a number out of a set. -/
def deleteNat (l : List Nat) (i : Nat) : List Nat := l.filter (fun k => k ≠ i)

end Sys2Proof.Machine
end

