-- ==== Sys2Proof/Machine/State.lean ====
section
/-! DEFINITION. The state of the WH2416 hub as plain data, its reset value, and the reasons a step can stop. -/

namespace Sys2Proof.Machine

/-- Why a step faults. `outsideAddressSpace` is raised by a command that names a byte offset outside the
16 MiB of BAR0 or the 512 MiB of BAR2 (R25, R43); no access can carry such an offset, so stopping is safe. -/
inductive Fault where
  | outsideAddressSpace
  deriving DecidableEq, Repr

/-- Why a step is refused. `notModelled` is answered by an arm of exec for a command without a meaning; it
names the command. Safe: nothing is claimed of such a command. -/
inductive Refusal where
  | notModelled (mnemonic : String)
  deriving DecidableEq, Repr

/-- One-time-programmable memory (R462, R463): the 192 words of the four generations that differ from the
shipped contents (key 48 g + w), the selected generation of the shadow (none selected: none), the two
copies of the root key and their CRCs, the control bits, an operation in progress, the twin
index sampled, generations whose programming lost power (R465). -/
structure Otp where
  words : Tbl Nat := []
  sel : Option Nat := some 0
  keyWords : Tbl Nat := []
  keyCrc : Tbl Nat := []
  keyLocked : Bool := false
  killEn : Bool := false
  killStarted : Bool := false
  killed : Bool := false
  staged : Tbl Nat := []
  op : Option (Nat × Nat) := none
  index : Nat := 0
  spoiled : List Nat := []
  deriving DecidableEq, Repr

/-- The MSI-X structures of the PCI Express function (R43, R48): Enable, Function Mask, the 256 words of
the table (address low and high, data, vector control) and the vectors whose pending bit is set; and, for every
INT_STAT bit (32 times the page plus the bit), the monotonic time of its last event (R49). -/
structure Msix where
  enable : Bool := false
  fmask : Bool := false
  words : Tbl Nat := []
  pba : List Nat := []
  events : Tbl Nat := []
  deriving DecidableEq, Repr

/-- What the page headers hold beside their fields: pages fenced by software (after the block reported
FENCED) and by the collector (R30, R31), pages in soft reset (R29), pages whose domain has come on since their last restore (R451), and the holding registers of R52,
keyed by port code times 2^24 plus the BAR0 offset of a later word. -/
structure PageUnit where
  swFence : List Nat := []
  colFence : List Nat := []
  inReset : List Nat := []
  fresh : List Nat := []
  hold : Tbl Nat := []
  deriving DecidableEq, Repr

/-- The PCI Express function: power state (R46), data link (R468), PERST_N held low (R452); of the writable
configuration space beside MSI-X and the power state (R43) the Command register, the bases of BAR0/1 and BAR2/3, and
the AER uncorrectable error status (R41). What else the configuration space holds is fixed: `State.configWord`. -/
structure Pcie where
  d3hot : Bool := false
  up : Bool := false
  perst : Bool := false
  command : Nat := 0
  bar0 : Nat := 0
  bar2 : Nat := 0
  aer : Nat := 0
  deriving DecidableEq, Repr

/-- The reference unit beside its registers (R56-R64): `stay` keeps a master or backup master follower
until TAKE, `heard` is the monotonic time of the last beacon, `masterRole` the role of the acting master
the hub follows; `carried` the spread (depth, rate) of the source in use or, in holdover, of the one before (R60, R61),
`origin` the monotonic time at which its modulation began; `held` the frequency offset held in holdover (R61, R81); `edges`
the monotonic time since which REFW has edges (R57). -/
structure RefUnit where
  stay : Bool := false
  heard : Nat := 0
  masterRole : Nat := 0
  carried : Option (Nat × Nat) := none
  origin : Nat := 0
  held : Nat := 0
  edges : Option Nat := none
  deriving DecidableEq, Repr

/-- A PHY beside its registers (R69-R75): uncorrectable codewords in a row per lane and in the current
1 ms window, lane-ready received and sent, when the codeword counters of each lane began to run (R83), since when the port
has been up, from which its transmit codeword phase counts (R57, R100). -/
structure Phy where
  run0 : Nat := 0
  run1 : Nat := 0
  winCnt : Nat := 0
  skew : Nat := 0
  qualified : Bool := false
  farReady : Bool := false
  cw0 : Option Nat := none
  cw1 : Option Nat := none
  upAt : Option Nat := none
  deriving DecidableEq, Repr

/-- The lane unit of one direction (R76-R80): a scheduled change (true for a join) and its fabric time,
the join need, a ballot seen with a join need, the start of join preparation, readiness to report, whether the shed or join
block went out and came in. -/
structure LaneDir where
  sched : Option (Bool × Nat) := none
  need : Bool := false
  asked : Bool := false
  prep : Bool := false
  ready : Bool := false
  sentBlock : Bool := false
  gotBlock : Bool := false
  deriving DecidableEq, Repr

/-- One stream window entry (R111): source node and class, highest accepted number, the map of the last
64 numbers, and the fabric time of the last acceptance. -/
structure StreamEnt where
  node : Nat
  cls : Nat
  high : Nat
  map : Nat
  last : Nat
  deriving DecidableEq, Repr

/-- What becomes of the frame a ring port is receiving (R95): nothing, skipped to the next frame start, into
queue `v`, cut through, into the transit buffer, for an absent endpoint, an answer or refusal for an
endpoint other than 0 (R115), a time message (R200), or a TC7 frame for the ring maintenance unit. -/
inductive RxKind where
  | idle
  | skip
  | local_ (v : Nat)
  | express
  | ordinary
  | buffered
  | absent
  | answer
  | timed
  | ring
  deriving DecidableEq, Repr

/-- A ring input: the frame being received, what becomes of it, whether a block of it was errored, and the ball stamp of its
first symbol in 2^-16 ns (R71). -/
structure RxPort where
  cur : Frame := {}
  kind : RxKind := .idle
  errored : Bool := false
  stamp : Nat := 0
  deriving DecidableEq, Repr

/-- What a ring output is sending: nothing, an express or cut-through transit frame, a frame of its
transit buffer, or the head of queue v (R103). -/
inductive Sending where
  | idle
  | transit
  | fromBuf
  | queue (v : Nat)
  deriving DecidableEq, Repr

/-- A ring output (R103-R106): its transit buffer in arrival order (each frame whole: 0, ended by a count-31 block as it was
received: 1, or by one of this hub: 2), the TC7 frames that wait, the bytes each class has sent in
rank 3 this period, the insertion period in force and the fabric time it last restarted, what it is sending, silenced
outputs (R117), and the fabric time of the transmit slot of the frame it is sending (R198). -/
structure TxPort where
  tbuf : List (Frame × Nat) := []
  maint : List Maint := []
  used : Tbl Nat := []
  period : Nat := 100
  started : Nat := 0
  cur : Sending := .idle
  silent : Bool := true
  slotAt : Nat := 0
  deriving DecidableEq, Repr

/-- The bypass relay drive (R117-R119): whether the hub has entered LISTEN since reset, the start-up
bypass (R126), a running relay wait, the level of BYPASS_N, and whether the ring ports are enabled. -/
structure Bypass where
  high : Bool := false
  entered : Bool := false
  startup : Bool := true
  waiting : Bool := false
  ports : Bool := false
  deriving DecidableEq, Repr

/-- A copy in a virtual output queue (R128, R132): the frame, its cells, the split of its charge between
the queue's minimum and the pool, whether its trailer has been accepted, whether it has become eligible
at its launch time, that time in full (R210), and the bridge's request it carries (0 none). -/
structure Copy where
  frame : Frame
  cells : List Nat
  a : Nat
  s : Nat
  accepted : Bool := true
  eligible : Bool := true
  launchAt : Option Nat := none
  bridgeTag : Nat := 0
  deriving DecidableEq, Repr

/-- A virtual output queue and its requester (R127, R143): copies in order, the cells charged to the
minimum, the generation, the core cycle since which the head requests, the wait counter. -/
structure Voq where
  q : List Copy := []
  minUsed : Nat := 0
  gen : Nat := 0
  since : Option Nat := none
  wait : Nat := 0
  held : Bool := false
  deriving DecidableEq, Repr

/-- A switch output (R140-R146): port down, classes whose hold window runs with its end, the queue that
holds the grant, grants since the last reserved grant (and before the grant now held), the datapath
generation. -/
structure OutPort where
  down : Bool := false
  hold : Tbl Nat := []
  grant : Option Nat := none
  since : Nat := 0
  prev : Nat := 0
  gen : Nat := 0
  deriving DecidableEq, Repr

/-- An entry of the cell ownership table (R131); `st` is 0 FREE, 1 WITHDRAWN, 2 QUEUED, 3 INFLIGHT. -/
structure CellEnt where
  st : Nat := 0
  owner : Nat := 0
  gen : Nat := 0
  refs : Nat := 0
  next : Nat := 0
  deriving DecidableEq, Repr

/-- The buffer beside its registers: the ownership table, the cells off their free lists, the bank the
allocator looks at next, the suspects of the auditor's last pass, and the bridge requests that lost a copy
to a discard (R129-R138). -/
structure BufUnit where
  cells : Tbl CellEnt := []
  offFree : List Nat := []
  nextBank : Nat := 0
  suspects : Tbl CellEnt := []
  lost : List Nat := []
  deriving DecidableEq, Repr

/-- A number taken or kept by a frame of a context: the base cycle, the context (32 by engine), the class, the SEQ (R178). -/
structure SeqNote where
  cycle : Nat
  ctx : Nat
  cls : Nat
  seq : Nat
  deriving DecidableEq, Repr

/-- The twin unit beside its registers (R161-R182): peer lost and its cause (R177), the boundary the peer has
named for its release and whether planned, the monotonic time since which OWN_IN is deasserted, and since which
it has been asserted together with OWN_OUT, the boundary this twin has named (number, ns; 0 planned, 1 from
SAFE, 2 for LISTEN), what the peer's last heartbeat told, BLOCKED raised, a RUN request that waits for a role,
the role to take at the next boundary, the own capture, the snapshot being sent and its next fragment, the
receive store (cycle number, next fragment, records), the recovery point, the contexts in step by engine, the
peer's shed wishes, the relayed access that waits for the snapshot's last frame (R171), the cycle number of the last
snapshot counted as partial (R173), the numbers muted frames took and those that repeated frames keep (R178). -/
structure TwinUnit where
  lost : Bool := false
  cause : Nat := 0
  announced : Option (Nat × Bool) := none
  ownInLow : Nat := 0
  bothAt : Option Nat := none
  release : Option (Nat × Nat × Nat) := none
  peerRun : Bool := false
  peerPref : Nat := 0
  peerRec : Bool := false
  peerStep : Bool := false
  blocked : Bool := false
  req : Bool := false
  nextRole : Nat := 0
  own : List SnapRec := []
  out : List SnapRec := []
  outNext : Nat := 0
  store : Option (Nat × Nat × List SnapRec) := none
  recPoint : List SnapRec := []
  step : Tbl Nat := []
  wishE : Bool := true
  wishW : Bool := true
  access : List Nat := []
  bad : Option Nat := none
  numbers : List SeqNote := []
  repeats : List SeqNote := []
  deriving DecidableEq, Repr

/-- One direction's path into the node in the time unit (R203-R205): the latest accepted Sync (t1, t2, CORR in
2^-16 ns) with the monotonic time it came, the last 16 accepted path delay samples, rejections in a row. -/
structure TimePath where
  sync : Option (Nat × Nat × Int) := none
  heard : Nat := 0
  samples : List Int := []
  rejected : Nat := 0
  deriving DecidableEq, Repr

/-- The time unit beside its registers (R197-R208): paths 0 west, 1 east; the sequenceId last accepted by
message type, sender and arrival port; whether a grandmaster is known, its data set of the standard's
comparison, the monotonic time of its last Announce; the next sequenceIds of Sync, Announce, Delay_Req; the
Delay_Req outstanding (sequenceId and t3 in 2^-16 ns); the Pdelay_Req of each port (sequenceId and transmit
stamp) and the neighbour its last Pdelay_Resp came from, plus one; the mean path delays of the segments (known results); the phase term in force in 2^-40 and its end;
consecutive offsets within 10 ns and beyond ALARM. -/
structure TimeUnit where
  west : TimePath := {}
  east : TimePath := {}
  ids : List (Nat × Nat × Nat × Nat) := []
  known : Bool := false
  best : List Nat := []
  heard : Nat := 0
  syncId : Nat := 0
  annId : Nat := 0
  dreqId : Nat := 0
  dreq : Option (Nat × Nat) := none
  pdId : Nat := 0
  pdelay : Tbl (Nat × Nat) := []
  nbr : Tbl Nat := []
  phase : Int := 0
  phaseEnd : Nat := 0
  near : Nat := 0
  far : Nat := 0
  deriving DecidableEq, Repr

/-- A latched schedule of a timed output (R215, R216): mode 1 one-shot, 2 periodic; ALIGN_SEC, polarity,
OWN_GATE, EDGE_IRQ; START, PERIOD and WIDTH in ns; the next active edge; the time after which no active edge is
driven. -/
structure ToutSched where
  mode : Nat := 0
  align : Bool := false
  pol : Bool := false
  gate : Bool := true
  irq : Bool := false
  start : Nat := 0
  period : Nat := 1000000000
  width : Nat := 100000
  next : Option Nat := none
  stop : Option Nat := none
  deriving DecidableEq, Repr

/-- A pending inactive edge: its time in ns, the schedule it belongs to, and whether that is still in force. -/
structure ToutFall where
  at_ : Nat := 0
  sched : ToutSched := {}
  own : Bool := true
  deriving DecidableEq, Repr

/-- A timed output channel: the schedule in force, those that still run out after a DISARM or a further ARM, and the
pending inactive edges. -/
structure ToutCh where
  cur : Option ToutSched := none
  old : List ToutSched := []
  falls : List ToutFall := []
  deriving DecidableEq, Repr

/-- An entry of a context FIFO (R236): the word, its end mark, and the endpoint and number of the frame that
brought it (R291). -/
structure FifoEnt where
  word : Word := 0
  last : Bool := false
  dest : Nat := 0
  seq : Nat := 0
  deriving DecidableEq, Repr

/-- A context FIFO (R236, R238): 16 entries, the positions W, R, M and F modulo 32, a pending flush, and
whether R is at a packet boundary. -/
structure Fifo where
  ents : Tbl FifoEnt := []
  w : Nat := 0
  r : Nat := 0
  m : Nat := 0
  f : Nat := 0
  flush : Bool := false
  edge : Bool := true
  deriving DecidableEq, Repr

/-- What waits in a context's pin units for one bit slot (R263, R264): the SETs with SYNC that act at its start (of directions
or levels, mask, value), the bits for the pins of a mask, and the clock pins of clocked OUTs with their CPOL. -/
structure PinSlot where
  sets : List (Bool × Nat × Nat) := []
  mask : Nat := 0
  value : Nat := 0
  clk : List (Nat × Bool) := []
  deriving DecidableEq, Repr

/-- The pin units of a context (R234, R235, R282-R284): the pins it holds, levels, directions, pins released by
a safe value, the slots to come with the bits each pin unit holds for them, the buffered samples of each pin, the grid
origin (fabric time), the next slot, the clocks whose mid edge is due, the clocks that return to rest at the next slot,
whether bits have been queued since the last underrun, underruns, frozen. -/
structure PinUnit where
  held : Bool := false
  base : Nat := 0
  cnt : Nat := 0
  levels : Nat := 0
  dirs : Nat := 0
  rel : Nat := 0
  outq : List PinSlot := []
  inbuf : Tbl (List Bool) := []
  origin : Nat := 0
  slot : Nat := 0
  half : List (Nat × Bool) := []
  rest : List (Nat × Bool) := []
  fed : Bool := false
  underruns : Nat := 0
  frozen : Bool := false
  deriving DecidableEq, Repr

/-- The check unit's state of a context (R290-R294): running value, RXSEQ, direction (true input), paused,
append armed, seeded, the profile latched by the last seed. -/
structure CheckCtx where
  run : Nat := 0
  rxseq : Nat := 0
  dirIn : Bool := false
  paused : Bool := false
  append : Bool := false
  seeded : Bool := false
  prof : Option Nat := none
  deriving DecidableEq, Repr

/-- An instruction in progress (R256, R276, R278): the latched word, whether it was injected, bits of an IN or
OUT still to move, appended bits still to pass, whether its stall has ended, whether the stall froze the
pins, the time T of a TTRIG between its visits, the resume entry of a swap that came meanwhile. -/
structure Latch where
  word : Nat
  inj : Bool := false
  left : Nat := 0
  extra : List Bool := []
  hit : Bool := false
  froze : Bool := false
  at_ : Option Int := none
  resume : Option Nat := none
  deriving DecidableEq, Repr

/-- A pending read of a sub-address endpoint (R244): the request frame. -/
structure ReadPend where
  req : Frame
  tag : Nat
  offset : Nat
  count : Nat
  deriving DecidableEq, Repr

/-- A frame in the framer's receive store (R242): its packet as words, how many have been unpacked, the bytes
it holds of the store, and the write to be answered. -/
structure StoredPkt where
  words : List Word
  done : Nat := 0
  size : Nat := 0
  req : Frame
  wack : Bool := false
  deriving DecidableEq, Repr

/-- A channel context beside its configuration registers (R170, R228, R249). `nextIssue` is the issue cycle
of R224, `began` the boundary its cycle began at, `deadline` the D in force in ns (R229), `judged` that the boundary after it
has judged the overrun (R230), `osrEnd` the end mark of the word in the OSR (R271), `spent` a deferral that
ran out (R431), `deferAt` the fabric time the deferral began, `action` the armed action (time, action, pin,
late), `lastOut` the pin, lanes, order and clock of the last OUT, `asm` the framer's packet and whether
it is whole. -/
structure Ctx where
  pc : Nat := 0
  x : Word := 0
  y : Word := 0
  osr : Word := 0
  isr : Word := 0
  osrCnt : Nat := 0
  isrCnt : Nat := 0
  z : Bool := false
  c : Bool := false
  k : Bool := false
  eop : Bool := false
  osrEnd : Bool := false
  miss : Bool := false
  pev : Bool := false
  pevNs : Nat := 0
  run : Bool := false
  eoc : Bool := false
  stall : Nat := 0
  deferred : Bool := false
  spent : Bool := false
  judged : Bool := false
  deferAt : Nat := 0
  latch : Option Latch := none
  inj : Option Nat := none
  startPend : Bool := false
  stopReq : Bool := false
  stopResult : Nat := 0
  abortLate : Bool := false
  late : Bool := false
  overrun : Bool := false
  lastEv : Nat := 0
  savedPc : Nat := 0
  savedValid : Bool := false
  deadline : Nat := 0
  began : Nat := 0
  eocCycle : Option Nat := none
  nextIssue : Nat := 0
  action : Option (Int × Nat × Nat × Bool) := none
  lastOut : Option (Nat × Nat × Bool × Option (Nat × Bool)) := none
  tx : Fifo := {}
  rx : Fifo := {}
  pin : PinUnit := {}
  chk : CheckCtx := {}
  asm : List Word := []
  asmWhole : Bool := false
  store : List StoredPkt := []
  read : Option ReadPend := none
  deriving DecidableEq, Repr

/-- A check profile in force (R289, R298). -/
structure Prof where
  poly : Nat := 0x1021
  init : Nat := 0xFFFF
  xorout : Nat := 0
  residue : Nat := 0
  src : Nat := 0
  width : Nat := 16
  deriving DecidableEq, Repr

/-- An engine beside its registers (R224, R227, R247, R257): dispatch paused, the last issue cycle, flag
changes of EVENT not yet seen (cycle, set, flag), the context whose snapshot is wanted, the words captured
at the end of its visit, the snapshot window, the profiles in force, a working C0
context held when the engine was fenced. -/
structure EngUnit where
  paused : Bool := false
  lastIssue : Nat := 0
  flagq : List (Nat × Bool × Nat) := []
  snapOf : Option Nat := none
  captured : Option (List Nat) := none
  window : List Nat := []
  profs : Tbl Prof := []
  lostC0 : Bool := false
  deriving DecidableEq, Repr

/-- The base cycle (R225, R226): length and phase in force, the last boundary of the grid before (time in ns
and number) with the time the grid began, a grid waiting for its second, and the last boundary acted on. -/
structure BaseCycle where
  len : Nat := 100000
  phase : Nat := 0
  since : Nat := 0
  floorNs : Nat := 0
  floorNum : Nat := 0
  pend : Option (Nat × Nat × Nat) := none
  done : Option Nat := none
  deriving DecidableEq, Repr

/-- The events on one pin of one nanosecond (R288): their rounded time, the level before them, the slot's bit, the TTRIG
actions in order (none: TOGGLE), and the SET without SYNC. -/
structure PinEv where
  at_ : Nat
  start : Bool
  slot : Option Bool := none
  trig : List (Option Bool) := []
  set : Option Bool := none
  deriving DecidableEq, Repr

/-- A field pin (R285, R288): level at the ball, filtered level, monotonic and fabric time at which a run of a new level
began; the events of the last nanosecond that had any, and the last edge (ns: its rounded time, the time it was placed). -/
structure PinIn where
  ball : Bool := false
  filt : Bool := false
  since : Option (Nat × Nat) := none
  ev : Option PinEv := none
  edge : Option (Nat × Nat) := none
  deriving DecidableEq, Repr

/-- A request the bridge has accepted and that is neither answered nor failed (R305, R307, R314): `kind` 0 write, 1
read, 2 poll; its tag; window or poll entry; fabric address; bytes of a write; COUNT; whether a prefetch; the
held read and the part of it; whether its window orders (R308), posts (R307); accepted at (monotonic time); whether
it has left the bridge; once it is queued: that time, its SEQ and the copies not discarded; whether a fence covers it. -/
structure Req where
  kind : Nat
  tag : Nat
  win : Nat
  addr : Nat
  data : List Byte := []
  count : Nat := 0
  pf : Bool := false
  read : Nat := 0
  part : Nat := 0
  order : Bool := false
  posted : Bool := true
  at_ : Nat := 0
  gone : Bool := false
  left : Option Nat := none
  seq : Nat := 0
  copies : Nat := 0
  fenced : Bool := false
  deriving DecidableEq, Repr

/-- A held BAR2 read (R309): the host's transaction, its window, fabric address and length, RD_ERR, since when, the
parts still missing, the parts that have come. -/
structure HeldRead where
  id : Nat
  host : Nat
  win : Nat
  addr : Nat
  len : Nat
  ones : Bool
  at_ : Nat
  missing : Nat
  parts : Tbl (List Byte) := []
  deriving DecidableEq, Repr

/-- A line of the prefetch store (R311): its window and fabric address, its bytes, the words returned, when it
arrived. -/
structure Line where
  win : Nat
  addr : Nat
  data : List Byte
  served : Nat := 0
  at_ : Nat
  deriving DecidableEq, Repr

/-- A host request that waits for credit (R307, R309): a BAR2 write of bytes, or a read of a length for a host transaction,
with whether every byte enable is set; or a BAR0 access, its words and byte enables. -/
inductive Intake where
  | write (off : Nat) (data : List Byte) (whole : Bool)
  | read (host off len : Nat) (whole : Bool)
  | reg (wr : Bool) (a v dw be : Nat)
  deriving DecidableEq, Repr

/-- A send ring whose frame waits for its key: the ring, the frame's tag, the address of its descriptor (R324, R385). -/
structure TxWait where
  ring : Nat
  tag : Nat
  desc : Nat
  deriving DecidableEq, Repr

/-- A poll entry beside its registers (R319, R320): the multiple of PERIOD last seen, whether the next answer is the
first after enabling, the tag of the unanswered poll. -/
structure PollEnt where
  slot : Nat := 0
  fresh : Bool := true
  tag : Option Nat := none
  deriving DecidableEq, Repr

/-- A change entry (R320, R329): kind, failure code, poll entry, m, the fabric time in ns. -/
structure Change where
  kind : Nat
  code : Nat
  index : Nat
  value : Nat
  ns : Nat
  deriving DecidableEq, Repr

/-- The host bridge and the poll unit beside their registers (R301-R330): outstanding requests in the order of
acceptance, held reads, the windows of the reads last completed with their core cycles, the prefetch store oldest first, host
requests waiting for credit, the next tags, the window of the running fence, the send ring whose turn comes next, the send
rings whose frame waits for its key, the tag of the next such frame, poll entries, the change queue. -/
structure BridgeUnit where
  reqs : List Req := []
  reads : List HeldRead := []
  ended : List (Nat × Nat) := []
  lines : List Line := []
  intake : List Intake := []
  tag : Nat := 0
  pollTag : Nat := 0
  readId : Nat := 0
  fence : Option Nat := none
  turn : Nat := 0
  txWait : List TxWait := []
  txTag : Nat := 65537
  polls : Tbl PollEnt := []
  cq : List Change := []
  deriving DecidableEq, Repr

/-- A transmission of a CAN controller (R342, R346): its buffer, whether for an exclusive window, the latched
frame. -/
structure CanTx where
  buf : Nat
  exc : Bool
  frame : CanFrame
  deriving DecidableEq, Repr

/-- A CAN controller beside its registers (R334-R352): bus-off not yet left, the frame on the bus, an exclusive
buffer latched and waiting for an idle bus, NEW and LOST of each buffer as its frame was stored (1 and 2), the
matrix cycle at which the matrix starts, the basic cycle begun with the next window to start, the window starts
of that cycle, kind, start and end (fabric ns) of the window that runs. The banks are the register copies of CELL and
WIN_START. -/
structure CanUnit where
  off : Bool := false
  tx : Option CanTx := none
  exc : Option CanTx := none
  stored : Tbl Nat := []
  first : Nat := 0
  pos : Option (Nat × Nat) := none
  starts : List Nat := []
  kind : Nat := 0
  began : Nat := 0
  till : Nat := 0
  deriving DecidableEq, Repr

/-- The USB hub and its function beside their registers (R356-R375). Hub: VBUS above 4.0 V, attached, downstream
ports (0-3) with the PORT_POWER feature, wHubChange, whether the LPM transaction allowed remote wake, the open
resume window (opened by the host; sources in it), buffered split transactions by port, ports disabled by a
translator fault, ports in a test mode. Function: address, configured, remote wake enabled, EP2 halted, data
toggles of EP1 OUT, EP1 IN, EP2 (true DATA1), the held response with the RC words its READ returned, the staged
vendor write, session key, last accepted COUNTER, failures in a row; channel
queue, stream queue (16-byte records), records discarded since the last acknowledged report, the last report
acknowledged and the one sent, the stamp S of the last service interval (ns). -/
structure UsbUnit where
  vbus : Bool := false
  attached : Bool := false
  power : List Nat := []
  hubChange : Nat := 0
  lpmWake : Bool := false
  window : Option (Bool × List Nat) := none
  tt : Tbl (List Nat) := []
  ttBad : List Nat := []
  test : List Nat := []
  fnAddr : Nat := 0
  fnConf : Bool := false
  fnWake : Bool := false
  ep2Halt : Bool := false
  togOut : Bool := false
  togIn : Bool := false
  togInt : Bool := false
  resp : Option (List Nat × List (Nat × Nat)) := none
  staged : Option (Nat × Nat) := none
  key : List Nat := []
  counter : Nat := 0
  fails : Nat := 0
  queue : List (Nat × List Byte) := []
  stream : List (List Nat) := []
  drops : Nat := 0
  acked : Option (List Nat) := none
  report : Option (List Nat) := none
  sof : Option Nat := none
  deriving DecidableEq, Repr

/-- A frame that waits for an association key to be derived (R385): a frame to be sealed by transmit entry
`entry` for input `inp`, or a received frame to be opened, at ring port `port` with its queue. -/
inductive GcmWait where
  | seal (f : Frame) (inp : Nat) (tag : Nat) (outs : List Nat)
  | opening (port : Nat) (f : Frame) (q : Nat)
  deriving DecidableEq, Repr

/-- A record operation in progress (R392): SAVE or RESTORE, its entry, WRAP. -/
structure RecOp where
  save : Bool
  entry : Nat
  wrap : Bool
  deriving DecidableEq, Repr

/-- The GCM engine and the key store beside their registers (R381-R400): packet-number windows by entry,
twin bit and epoch (highest number and map), the end of the grace of a previous epoch by entry and twin bit,
entries with an accepted ROLL not yet in effect, the key cache (source node, destination node, class,
epoch; least recently used first), destinations that entries have sealed for, the root key, frames waiting
for a key, the record operation, tag failures of the current period, the wrapping, USB and image keys
derived. -/
structure GcmUnit where
  wins : Tbl (Nat × Nat) := []
  grace : Tbl Nat := []
  rolls : List Nat := []
  cache : List (Nat × Nat × Nat × Nat) := []
  sealedFor : List (Nat × Nat) := []
  root : Option (List Nat) := none
  waiting : List GcmWait := []
  recOp : Option RecOp := none
  tagCnt : Nat := 0
  deriving DecidableEq, Repr

/-- A turn-off of a breaker channel (R417): the 1 µs sample it fell in, its place in the order of R417, the state left, and
the end of RAMP_MAX if the channel was in ramp. -/
structure BrkOff where
  sample : Nat
  rank : Nat
  state : Nat
  rampEnd : Option Nat := none
  deriving DecidableEq, Repr

/-- A breaker channel beside its registers (R406-R417): gate duty in 64ths while it ramps, the thermal accumulator
in 2^-24 of THERM.F, the committed curve (none: as shipped), qualifying complete, an inlet opened on reverse
current and not yet closed again, fenced by the collector, admitted from budget hold, the last turn-off. -/
structure BrkCh where
  duty : Nat := 0
  heat : Nat := 0
  curve : Option (List (Nat × Nat)) := none
  qual : Bool := false
  rev : Bool := false
  fenced : Bool := false
  admitted : Bool := false
  off : Option BrkOff := none
  deriving DecidableEq, Repr

/-- The breakers beside their registers: channels, BUS_LOW standing, the monotonic time since which BUS_OK has
stood. -/
structure BrkUnit where
  chs : Tbl BrkCh := []
  low : Bool := false
  okAt : Option Nat := none
  deriving DecidableEq, Repr

/-- The budget unit beside its registers (R427-R441): the tolerances in force (C1-C3 in 100 ns, TC1-TC6 in µs;
a change takes effect at an evaluation, R429), and by cluster: the issue clock wanted (0 800, 1 400, 2
200 MHz), the deferral level wanted, boundaries passed without a context miss, the clusters with a context
miss since the last boundary (R432, R437). The steps taken and not undone, oldest first (10 + cluster deferral, 20 +
cluster clock, 30 + direction wish), since when H has sufficed to undo the last, the loads of the last measurement by
direction (percent over 10 ms, over 1 ms, classes inserted), samples in a row with the sensors apart, an evaluation
wanted at once. -/
structure BudUnit where
  tols : List Nat := [50, 200, 1000, 1000, 100, 100, 10000, 50000, 50000]
  clkWant : List Nat := [0, 0]
  deferWant : List Nat := [0, 0]
  quiet : List Nat := [0, 0]
  missed : List Nat := []
  steps : List Nat := []
  above : Option Nat := none
  load : List Nat := []
  peak : List Nat := []
  classes : List (List Nat) := []
  apart : Nat := 0
  wake : Bool := false
  deriving DecidableEq, Repr

/-- A journal entry (R457): START with the image tag and the number of blocks, ERASED k, WRITTEN k, DONE with the tag. -/
inductive JEnt where
  | start (tag : List Nat) (count : Nat)
  | erased (k : Nat)
  | written (k : Nat)
  | done (tag : List Nat)
  deriving DecidableEq, Repr

/-- A record of a settings bank (R459): the page, the format version, its RW and RWL field copies that differ from their
reset value (by field key), what contexts hold in such fields (context, values), LOCKED, the contexts with a start flag. -/
structure SetRec where
  page : Nat
  version : Nat
  words : Tbl Nat := []
  units : List (Nat × List Nat) := []
  locked : Bool := false
  starts : List Nat := []
  deriving DecidableEq, Repr

/-- The flash behind xSPI (R455): its bytes that differ from an erased byte, outside the journal and the settings banks;
the journal from its newest START on (R457); the settings banks with a valid header, as sequence number and records
(R459); slot B marked ready for activation (R502); the command in progress (operation, address, words to program or
their number). -/
structure FlashUnit where
  mem : List Host.Cell := []
  journal : List JEnt := []
  banks : List (Option (Nat × List SetRec)) := [none, none]
  ready : Bool := false
  cmd : Option (Nat × Nat × List Nat) := none
  deriving DecidableEq, Repr

/-- The mode unit beside its registers (R446-R458): the mode an accepted request aims at, whether the engine load it
needs is complete; at step 5 the exit delay and whether SENTINEL is left without software; the monotonic time of the last
BUS_LOSS entry and the doubling of the delay; at step 6 the domains still to switch on; PSU_EN; at step 7 a copy in
progress, copies done in this start, the copy halted by an abort and the sector then in progress; the slot booted (0 A, 1 B) with its IMAGE_ID and
format versions; a settings save in progress; AUTO_RUN done. -/
structure ModeUnit where
  want : Option Nat := none
  loaded : Bool := false
  exitDly : Nat := 64000000
  auto : Bool := true
  lossAt : Option Nat := none
  lossMult : Nat := 1
  dom : List Nat := []
  psu : Bool := false
  copying : Bool := false
  copies : Nat := 0
  halted : Bool := false
  lastSector : Option Nat := none
  boot : Option Nat := none
  versions : List Nat := []
  saving : Bool := false
  autoDone : Bool := false
  deriving DecidableEq, Repr

/-- A fault that a checker has detected and the collector has not yet recorded (R475, R478): its page, checker
and detail, whether it was corrected at once, whether it was injected, and when. -/
structure Det where
  page : Nat
  checker : Nat
  detail : Nat := 0
  corr : Bool := false
  inj : Bool := false
  mono : Nat := 0
  deriving DecidableEq, Repr

/-- A fault record (R477, R487): class 0 corrected, 1 contained, 2 fatal. -/
structure FaultRec where
  cls : Nat
  inj : Bool
  prot : Bool
  esc : Bool
  row : Nat
  page : Nat
  checker : Nat
  seq : Nat
  detail : Nat
  fab : Nat
  deriving DecidableEq, Repr

/-- The fault collector beside its registers (R474-R487): detected faults in order, the record FIFO, the
next record number, uncleared contained and fatal faults (page, checker), the uncleared faults of the
protection path, reports whose fence is still to be
applied, the collector's own latch, FLT_N with the time since which it is low and a pending
release, ALIVE with the end of its last stop condition and the last
500,000 ns instant it acted at. -/
structure FaultUnit where
  todo : List Det := []
  det : List Det := []
  recs : List FaultRec := []
  seq : Nat := 0
  conts : List (Nat × Nat) := []
  fatals : List (Nat × Nat) := []
  prots : List (Nat × Nat) := []
  self : Bool := false
  fltLow : Bool := false
  lowAt : Nat := 0
  relPend : Bool := false
  aliveRun : Bool := false
  aliveLevel : Bool := false
  aliveOk : Nat := 0
  grid : Nat := 0
  deriving DecidableEq, Repr

/-- A Cupping monitor's accumulators (R489): minimum, maximum, samples, sum, histogram. -/
structure CupMon where
  lo : Int := 0x7FFFFFFF
  hi : Int := -0x80000000
  count : Nat := 0
  sum : Int := 0
  bins : Tbl Nat := []
  deriving DecidableEq, Repr

/-- A relay this hub takes part in as a receiver (R500, R501): the image, its coordinator and number of blocks, the next
block, the chain tag before it, whether the writes are omitted; the block being written with the node it came from. -/
structure RelayRx where
  id : Nat
  coord : Nat
  count : Nat
  next : Nat := 0
  tag : List Nat := []
  skip : Bool := false
  block : Option (List Nat × Nat) := none
  deriving DecidableEq, Repr

/-- A block sent and not yet acknowledged: its resends and the twin indices (2 a single node) that acknowledged it. -/
structure RelayOut where
  index : Nat
  block : List Nat
  tries : Nat := 0
  acked : List Nat := []
  deriving DecidableEq, Repr

/-- A relay this hub sends (R500, R501, R503): the image, the neighbour, whether this hub coordinates, blocks not yet
acknowledged, blocks that wait, the twin indices that acknowledged any block. -/
structure RelayTx where
  id : Nat
  dest : Nat
  coord : Bool := false
  count : Nat := 0
  out : List RelayOut := []
  wait : List (Nat × List Nat) := []
  ackers : List Nat := []
  deriving DecidableEq, Repr

/-- The update unit beside its registers (R497-R507): the relay received, the relay sent, the image last refused as
busy, a report already sent, the report queue (code, node, blocks), a local verification, the staging of a swap, the
boundary number of a requested swap. -/
structure UpdUnit where
  rx : Option RelayRx := none
  tx : Option RelayTx := none
  refused : Option Nat := none
  told : Bool := false
  reps : List (Nat × Nat × Nat) := []
  verifying : Bool := false
  staging : Bool := false
  swap : Option Nat := none
  deriving DecidableEq, Repr

/-- The whole state of the hub. -/
structure State where
  /-- The commands waiting, first in first out (the block model's queue). -/
  pending : List Instr := []
  /-- What the hub has sent out of itself, oldest first (the model's own log). -/
  sent : List Emit := []
  /-- The counter the free values are drawn with (the model's own, log 2). -/
  free : Nat := 0
  /-- Core cycles ticked (the model's own, log 3). -/
  cycle : Nat := 0
  /-- Monotonic time in 1/64 ns (the model's own, log 3). -/
  mono : Nat := 0
  /-- The fabric time counter in 2^-48 ns (R191). -/
  fab : Nat := 0
  /-- The register fields that differ from their reset value, by field key. -/
  regs : Tbl Nat := []
  /-- Running timers and the monotonic time each ends. -/
  timers : Tbl Nat := []
  /-- The OTP and its shadow, and the twin index sampled from TWIN_ID (R13). -/
  otp : Otp := {}
  /-- MSI-X structures. -/
  msix : Msix := {}
  /-- Fences, soft resets and holding registers of the pages. -/
  pageUnit : PageUnit := {}
  /-- The PCI Express function. -/
  pcie : Pcie := {}
  /-- The power domains that are on (R23). -/
  pd : List Nat := [0]
  /-- The reference unit. -/
  ref : RefUnit := {}
  /-- The PHYs of links 0 east, 1 west, 2 twin. -/
  phy : Tbl Phy := []
  /-- The lane units of directions 0 east, 1 west. -/
  lanes : Tbl LaneDir := []
  /-- The stream window table (R111). -/
  win : List StreamEnt := []
  /-- The ring inputs. -/
  rx : Tbl RxPort := []
  /-- The ring outputs. -/
  tx : Tbl TxPort := []
  /-- The bypass relay drive. -/
  byp : Bypass := {}
  /-- The 512 virtual output queues. -/
  voqs : Tbl Voq := []
  /-- The eight switch outputs. -/
  outs : Tbl OutPort := []
  /-- The buffer's ownership table and free lists. -/
  buf : BufUnit := {}
  /-- The stored bytes of the 24,576 cells, 256 bytes each (R129). -/
  bufMem : List Host.Cell := []
  /-- The arbiters' shift registers (R141). -/
  lfsr : List Nat := [0x10000001, 0x10000002, 0x10000003, 0x10000004, 0x10000005, 0x10000006, 0x10000007, 0x10000008]
  /-- The fault collector. -/
  flt : FaultUnit := {}
  /-- The twin unit. -/
  twin : TwinUnit := {}
  /-- The GCM engine and the key store. -/
  gcm : GcmUnit := {}
  /-- Frames passed to the units of outputs P2 to P7 and to the time unit (8). -/
  inbox : List (Nat × Frame) := []
  /-- The 512 contexts, key 32 n + c. -/
  ctxs : Tbl Ctx := []
  /-- The sixteen engines. -/
  engs : Tbl EngUnit := []
  /-- The base cycle. -/
  base : BaseCycle := {}
  /-- Program memory, key (2 n + bank) 2048 + word, a word not listed being 0 (R252). -/
  prog : Tbl Nat := []
  /-- The inputs of the 256 field pins. -/
  pins : Tbl PinIn := []
  /-- The 24 Cupping monitors. -/
  cup : Tbl CupMon := []
  /-- The budget unit. -/
  bud : BudUnit := {}
  /-- The mode unit. -/
  modeU : ModeUnit := {}
  /-- The time unit. -/
  time : TimeUnit := {}
  /-- The four timed outputs. -/
  tout : Tbl ToutCh := []
  /-- The host bridge and the poll unit. -/
  bridge : BridgeUnit := {}
  /-- The four CAN controllers. -/
  can : Tbl CanUnit := []
  /-- The USB hub and its embedded function. -/
  usb : UsbUnit := {}
  /-- The breaker channels and the line. -/
  brk : BrkUnit := {}
  /-- A Cupping snapshot in progress: its monitor and CLEAR (R492). -/
  cupSnap : Option (Nat × Bool) := none
  /-- The flash. -/
  flash : FlashUnit := {}
  /-- The update unit. -/
  upd : UpdUnit := {}
  deriving DecidableEq, Repr

/-- The hub right after power-up reset: mode SENTINEL, step 0 of the start sequence, every register field
at its reset value (none differs, so the field table is empty), every queue empty (R5, R446, R453). -/
def State.reset : State := {}

end Sys2Proof.Machine
end

