-- ==== Sys2Proof/Machine/Ops.lean ====
section
/-! DEFINITION. The named operations every meaning is written with: register fields, counters, timers,
pages, power domains, time, free values, the log of what is sent. -/

namespace Sys2Proof.Machine

/-! ### Register fields -/

/-- The key of copy `i` of a field on the page `n` places after the first page of its block. -/
def Fld.key (f : Fld) (n i : Nat) : Nat :=
  (((f.page + n) * 4096 + f.off) * 64 + f.lo) * 8192 + i % 8192

/-- The value of copy `i` of field `f` on page `f.page + n`. -/
def State.rdn (s : State) (n : Nat) (f : Fld) (i : Nat := 0) : Nat :=
  (Tbl.find s.regs (f.key n i)).getD (f.dflt i)

/-- The value of a field of a block with one page. -/
def State.rd (s : State) (f : Fld) (i : Nat := 0) : Nat := s.rdn 0 f i

/-- A one-bit field as a truth value. -/
def State.flag (s : State) (f : Fld) (i : Nat := 0) : Bool := s.rd f i = 1

/-- A one-bit field of page `f.page + n`. -/
def State.flagn (s : State) (n : Nat) (f : Fld) (i : Nat := 0) : Bool := s.rdn n f i = 1

/-- The field table after a value, cut to the field's width, is stored in copy `i`; a field at its reset
value is not listed. -/
def putField (t : Tbl Nat) (n : Nat) (f : Fld) (i v : Nat) : Tbl Nat :=
  if v % 2 ^ f.w = f.dflt i then Tbl.del t (f.key n i) else Tbl.put t (f.key n i) (v % 2 ^ f.w)

/-- Stores a value in copy `i` of a field. -/
def State.wrn (s : State) (n : Nat) (f : Fld) (v : Nat) (i : Nat := 0) : State :=
  { s with regs := putField s.regs n f i v }

/-- Stores a value in a field of a block with one page. -/
def State.wr (s : State) (f : Fld) (v : Nat) (i : Nat := 0) : State := s.wrn 0 f v i

/-- Adds to a counter that saturates at its greatest value. -/
def State.satn (s : State) (n : Nat) (f : Fld) (i : Nat := 0) (k : Nat := 1) : State :=
  s.wrn n f (min (s.rdn n f i + k) (2 ^ f.w - 1)) i

/-- Adds to a saturating counter of a block with one page. -/
def State.sat (s : State) (f : Fld) (i : Nat := 0) (k : Nat := 1) : State := s.satn 0 f i k

/-- Adds to a counter that wraps. -/
def State.incn (s : State) (n : Nat) (f : Fld) (i : Nat := 0) (k : Nat := 1) : State :=
  s.wrn n f (s.rdn n f i + k) i

/-- Adds to a wrapping counter of a block with one page. -/
def State.inc (s : State) (f : Fld) (i : Nat := 0) (k : Nat := 1) : State := s.incn 0 f i k

/-- Returns every copy of the listed fields of page `f.page + n` to its reset value (CNT_CLR and resets). -/
def State.clrFields (s : State) (n : Nat) (fs : List Fld) : State :=
  fs.foldl (fun s f => (List.range f.cnt).foldl (fun s i => s.wrn n f (f.dflt i) i) s) s

/-- 1 for true. -/
def bit (b : Bool) : Nat := if b then 1 else 0

/-- Bit `i` of a number. -/
def bitOf (v i : Nat) : Bool := v / 2 ^ i % 2 = 1

/-- Sets bit `i` of a number. -/
def setBit (v i : Nat) : Nat := if bitOf v i then v else v + 2 ^ i

/-- Clears bit `i` of a number. -/
def clrBit (v i : Nat) : Nat := if bitOf v i then v - 2 ^ i else v

/-- Bits `lo` up to `lo + w - 1` of a number. -/
def bits (v lo w : Nat) : Nat := v / 2 ^ lo % 2 ^ w

/-- A number of `w` bits read as two's complement. -/
def toSigned (w v : Nat) : Int := if v % 2 ^ w < 2 ^ (w - 1) then (v % 2 ^ w : Nat) else (v % 2 ^ w : Nat) - (2 ^ w : Nat)

/-- An integer as a number of `w` bits, two's complement. -/
def ofSigned (w : Nat) (v : Int) : Nat := (v % (2 ^ w : Nat)).toNat

/-! ### Time, timers, free values, output -/

/-- `n` nanoseconds of monotonic time (units of 1/64 ns). -/
def ns (n : Nat) : Nat := n * 64

/-- `n` microseconds of monotonic time. -/
def us (n : Nat) : Nat := n * 64000

/-- `n` milliseconds of monotonic time. -/
def ms (n : Nat) : Nat := n * 64000000

/-- `n` nanoseconds of fabric time (units of 2^-48 ns, R191). -/
def fns (n : Nat) : Nat := n * 2 ^ 48

/-- Starts timer `t`, to end `d` from now. -/
def State.start (s : State) (t d : Nat) : State := { s with timers := Tbl.put s.timers t (s.mono + d) }

/-- Stops timer `t`. -/
def State.stop (s : State) (t : Nat) : State := { s with timers := Tbl.del s.timers t }

/-- Timer `t` runs. -/
def State.running (s : State) (t : Nat) : Bool := (Tbl.find s.timers t).isSome

/-- Timer `t` runs and its end has come (R10). -/
def State.due (s : State) (t : Nat) : Bool :=
  match Tbl.find s.timers t with
  | some d => decide (d ≤ s.mono)
  | none => false

/-- Puts one item at the end of the log of what the hub sends. -/
def State.emit (s : State) (e : Emit) : State := { s with sent := s.sent ++ [e] }

/-- Draws a free value: a number nothing constrains, and the state with the counter advanced (log 2). -/
def State.draw (s : State) : Nat × State := (Config.freeValue s.free, { s with free := s.free + 1 })

/-! ### Pages and power domains -/

/-- The block type code of a page (R26); 0 for an unassigned page. -/
def blockType (pg : Nat) : Nat :=
  if pg < 7 then pg + 1
  else if pg = 8 ∨ pg = 10 then 8
  else if pg = 9 ∨ pg = 11 then 9
  else if pg = 12 then 0x0A
  else if pg = 13 then 0x0B
  else if pg = 14 then 0x0C
  else if 0x10 ≤ pg ∧ pg ≤ 0x12 then pg
  else if 0x14 ≤ pg ∧ pg ≤ 0x16 then pg
  else if pg = 0x18 ∨ pg = 0x19 then pg
  else if 0x20 ≤ pg ∧ pg < 0x30 then 0x20
  else if 0x30 ≤ pg ∧ pg < 0x40 then 0x21
  else if 0x40 ≤ pg ∧ pg < 0x44 then 0x22
  else if pg = 0x48 then 0x24
  else if pg = 0x49 then 0x25
  else if pg = 0x4C then 0x26
  else if pg = 0x4D then 0x27
  else if 0x50 ≤ pg ∧ pg < 0x58 then 0x28
  else if pg = 0x58 then 0x29
  else if pg = 0x59 then 0x2A
  else if pg = 0x5A then 0x2B
  else 0

/-- The instance number BLK_ID shows (R27). -/
def blockInstance (pg : Nat) : Nat :=
  if pg = 10 ∨ pg = 11 then 1
  else if 0x20 ≤ pg ∧ pg < 0x40 then pg % 16
  else if 0x40 ≤ pg ∧ pg < 0x44 then pg % 4
  else if 0x50 ≤ pg ∧ pg < 0x58 then pg % 8
  else 0

/-- The power domain of a page (R26). -/
def pageDomain (pg : Nat) : Nat :=
  if pg < 5 then 0
  else if pg = 5 then 6
  else if pg = 6 then 3
  else if pg = 8 ∨ pg = 9 then 1
  else if pg = 10 ∨ pg = 11 then 2
  else if pg < 0x14 then 3
  else if pg = 0x14 ∨ pg = 0x15 then 6
  else if pg = 0x16 then 3
  else if pg = 0x18 ∨ pg = 0x19 then 7
  else if 0x20 ≤ pg ∧ pg < 0x28 then 4
  else if 0x28 ≤ pg ∧ pg < 0x30 then 5
  else if 0x30 ≤ pg ∧ pg < 0x38 then 4
  else if 0x38 ≤ pg ∧ pg < 0x40 then 5
  else if 0x40 ≤ pg ∧ pg < 0x4C then 6
  else if pg = 0x4C ∨ pg = 0x4D then 0
  else if 0x50 ≤ pg ∧ pg < 0x58 then 3
  else if pg = 0x58 then 6
  else if pg = 0x59 then 3
  else 0

/-- The power domain is on (R23). -/
def State.pdOn (s : State) (d : Nat) : Bool := s.pd.contains d

/-- The page's power domain is on. -/
def State.pageOn (s : State) (pg : Nat) : Bool := s.pdOn (pageDomain pg)

/-- Every assigned page number (R26). -/
def allPages : List Nat := (List.range 0x5B).filter (fun pg => blockType pg ≠ 0)

/-- The page is locked (R35). -/
def State.locked (s : State) (pg : Nat) : Bool := s.rdn pg HDR.LOCK_LOCKED = 1

/-- BLK_CTRL.FENCE_REQ of a page (R28). -/
def State.fenceReq (s : State) (pg : Nat) : Bool := s.rdn pg HDR.BLK_CTRL_FENCE_REQ = 1

/-- The block accepts no new work: software asks for a fence, or the collector has fenced it (R30). -/
def State.fenced (s : State) (pg : Nat) : Bool := s.fenceReq pg || s.pageUnit.colFence.contains pg

/-- BLK_CTRL.ENABLE of a page (R28). -/
def State.enabled (s : State) (pg : Nat) : Bool := s.rdn pg HDR.BLK_CTRL_ENABLE = 1

/-! ### Modes and identity -/

/-- MODE_STAT.MODE: 0 BYPASS, 1 SENTINEL, 2 LISTEN, 3 RUN, 4 STANDBY, 5 SAFE (R445). -/
def State.mode (s : State) : Nat := s.rd DEVICE.MODE_STAT_MODE

/-- The hub forwards and answers: LISTEN, RUN, STANDBY or SAFE (R24). -/
def State.live (s : State) : Bool := decide (2 ≤ s.mode)

end Sys2Proof.Machine
end

