-- ==== Sys2Proof/Machine/Irq.lean ====
section
/-! DEFINITION. Interrupt sources, MSI-X messages and INT_N (R47-R51), and the events that set INT_STAT. -/

namespace Sys2Proof.Machine

/-- The pages and INT_STAT bits that contribute to an interrupt source (R47 with the routing each block's
chapter gives its bits). -/
def sourceBits (src : Nat) : List (Nat × Nat) :=
  if src < 16 then [(0x20 + src, 0x3FFF), (0x30 + src, 1)]
  else if 35 ≤ src ∧ src ≤ 38 then [(0x40 + (src - 35), 0x1FF)]
  else match src with
  | 16 => [(0x08, 0x1F), (0x09, 0xF)]
  | 17 => [(0x0A, 0xFF), (0x0B, 0xF)]
  | 18 => [(0x0C, 0xF)]
  | 19 => [(0x0D, 0xFF)]
  | 20 => [(0x09, 0x30), (0x0B, 0x30)]
  | 21 => [(0x0E, 1)]
  | 22 => [(0x0E, 6)]
  | 23 => [(0x11, 3)]
  | 24 => [(0x10, 1)]
  | 25 => [(0x10, 6)]
  | 26 => [(0x04, 7)]
  | 27 => [(0x04, 0x78)]
  | 28 => [(0x05, 0xFFF)]
  | 29 => [(0x09, 0x40), (0x0B, 0x40)]
  | 30 => [(0x14, 1)]
  | 31 => [(0x15, 1)]
  | 32 => [(0x14, 2)]
  | 33 => [(0x14, 4)]
  | 34 => [(0x14, 8)]
  | 39 => [(0x48, 0x7F)]
  | 40 => [(0x49, 0x1F)]
  | 41 => [(0x18, 1)]
  | 42 => [(0x19, 3)]
  | 43 => [(0x18, 6)]
  | 44 => [(0x4C, 0x100F000F)]
  | 45 => [(0x4C, 0x0FF00FF0)]
  | 46 => [(0x4D, 0x1F)]
  | 47 => [(0x01, 7)]
  | 48 => [(0x01, 0x10)]
  | 49 => [(0x01, 0xF00)]
  | 50 => [(0x03, 1)]
  | 51 => [(0x03, 2)]
  | 52 => [(0x03, 4)]
  | 53 => [(0x06, 0xFFFFFF)]
  | 54 => [(0x59, 7)]
  | 55 => [(0x59, 0x70)]
  | 56 => [(0x5A, 3)]
  | 57 => [(0x58, 3)]
  | 58 => [(0x00, 3)]
  | 59 => [(0x14, 0x10), (0x59, 0x1000), (0x06, 0x1000000)] ++
      (List.range 16).map (fun n => (0x20 + n, 0x8000))
  | 60 => [(0x00, 0x700)]
  | 61 => [(0x59, 0x100)]
  | 62 => [(0x49, 0xFF00)]
  | 63 => [(0x16, 0xFF)]
  | _ => []

/-- The sources a page contributes to. -/
def sourcesOf (pg : Nat) : List Nat :=
  if 0x20 ≤ pg ∧ pg < 0x30 then [pg - 0x20, 59]
  else if 0x30 ≤ pg ∧ pg < 0x40 then [pg - 0x30]
  else if 0x40 ≤ pg ∧ pg < 0x44 then [pg - 0x40 + 35]
  else match pg with
  | 0x00 => [58, 60] | 0x01 => [47, 48, 49] | 0x03 => [50, 51, 52] | 0x04 => [26, 27] | 0x05 => [28]
  | 0x06 => [53, 59] | 0x08 => [16] | 0x0A => [17] | 0x09 => [16, 20, 29] | 0x0B => [17, 20, 29]
  | 0x0C => [18] | 0x0D => [19] | 0x0E => [21, 22] | 0x10 => [24, 25] | 0x11 => [23]
  | 0x14 => [30, 32, 33, 34, 59] | 0x15 => [31] | 0x16 => [63] | 0x18 => [41, 43] | 0x19 => [42]
  | 0x48 => [39] | 0x49 => [40, 62] | 0x4C => [44, 45] | 0x4D => [46] | 0x58 => [57]
  | 0x59 => [54, 55, 59, 61] | 0x5A => [56] | _ => []

/-- The INT_STAT bits a page defines; the others are reserved (R33). -/
def irqMask (pg : Nat) : Nat :=
  (sourcesOf pg).foldl (fun m src => (sourceBits src).foldl (fun m e => if e.1 = pg then m ||| e.2 else m) m) 0

/-- Source `src` is asserted: an enabled INT_STAT bit is set on a contributing page (R48). -/
def State.asserted (s : State) (src : Nat) : Bool :=
  (sourceBits src).any (fun e =>
    (s.rdn e.1 HDR.INT_STAT_EVENTS &&& s.rdn e.1 HDR.INT_EN_ENABLES) &&& e.2 ≠ 0)

/-- Word `i` of the MSI-X table; a vector comes up masked (log 7). -/
def Msix.word (m : Msix) (i : Nat) : Nat := Tbl.get (if i % 4 = 3 then 1 else 0) m.words i

/-- Vector `v` may send now: Enable 1, Function Mask 0, its own mask 0 (R48), and the function may master
the bus (R46). -/
def State.msixOpen (s : State) (v : Nat) : Bool :=
  s.msix.enable && !s.msix.fmask && s.msix.word (4 * v + 3) % 2 = 0 && !s.pcie.d3hot

/-- Sends the message of vector `v`, or sets its pending bit while it may not send (R48). -/
def State.msixSend (s : State) (v : Nat) : State :=
  if s.msixOpen v then
    { s.emit (.msix v (s.msix.word (4 * v) + s.msix.word (4 * v + 1) * 2 ^ 32) (s.msix.word (4 * v + 2)))
      with msix := { s.msix with pba := deleteNat s.msix.pba v } }
  else { s with msix := { s.msix with pba := insertNat s.msix.pba v } }

/-- What a change from `old` to `s` on page `pg` sends: each source that became asserted, or that `wr` (a
write of INT_STAT or INT_EN) leaves asserted, sends; a source no longer asserted loses its pending bit. -/
def State.settle (s old : State) (pg : Nat) (wr : Bool) : State :=
  (sourcesOf pg).foldl (fun t src =>
    if t.asserted src then (if wr || !old.asserted src then t.msixSend src else t)
    else { t with msix := { t.msix with pba := deleteNat t.msix.pba src } }) s

/-- The number of the cycle of the clock that serves a page (R21, R26) at monotonic time `t`: the crystal at 25 MHz (32.768
kHz in SENTINEL), the ring reference at 156.25 MHz, a cluster's clock, CAN at 80 MHz, USB at 60 MHz, or the core at 1 GHz. -/
def State.pageCycle (s : State) (pg t : Nat) : Nat :=
  if pageDomain pg = 0 then (if s.mode = 1 then t / 1953125 else t / 2560)
  else if (8 ≤ pg ∧ pg ≤ 0x0C) ∨ pg = 0x0E then t * 5 / 2048
  else if 0x20 ≤ pg ∧ pg < 0x40 then t / (80 * 2 ^ s.rdn (pg % 16) ENG.ENG_STAT_CLOCK)
  else if 0x40 ≤ pg ∧ pg < 0x44 then t / 800
  else if pg = 0x48 ∨ pg = 0x49 then t * 3 / 3200
  else t / 64

/-- An event of bit `b` falls in the present cycle of the clock that serves the page (R49). -/
def State.justNow (s : State) (pg b : Nat) : Bool :=
  match Tbl.find s.msix.events (32 * pg + b) with
  | some t => s.pageCycle pg t = s.pageCycle pg s.mono
  | none => false

/-- An event: sets bit `b` of the page's INT_STAT, whatever INT_EN holds (R33), with its message (R48); its time is kept
for R49. -/
def State.raise (s : State) (pg b : Nat) : State :=
  let s1 := s.wrn pg HDR.INT_STAT_EVENTS (setBit (s.rdn pg HDR.INT_STAT_EVENTS) b)
  { s1 with msix := { s1.msix with events := Tbl.put s1.msix.events (32 * pg + b) s.mono } }.settle s pg false

/-- INT_N is driven low: an enabled source is asserted, outside BYPASS and SENTINEL (R51). -/
def State.intN (s : State) : Bool :=
  s.live && (List.range 64).any (fun src =>
    s.asserted src &&
    (if src < 32 then bitOf (s.rd DEVICE.INTN_EN_LO_ENABLE) src else bitOf (s.rd DEVICE.INTN_EN_HI_ENABLE) (src - 32)))

/-- Sends the messages of the vectors that have become able to send and whose source is still asserted,
clearing their pending bits; drops the pending bits of sources that are not (R48). -/
def State.msixFlush (s : State) : State :=
  s.msix.pba.foldl (fun t v =>
    if t.asserted v then (if t.msixOpen v then t.msixSend v else t)
    else { t with msix := { t.msix with pba := deleteNat t.msix.pba v } }) s

end Sys2Proof.Machine
end

