-- ==== Sys2Proof/Machine/Cup.lean ====
section
/-! DEFINITION. The Cupping monitors: taking a sample (R489-R493). -/

namespace Sys2Proof.Machine

/-- Saturation at ±(2^31 - 1) (R491 quantities). -/
def sat31 (v : Int) : Int := max (-0x7FFFFFFF) (min 0x7FFFFFFF v)

/-- The bin of a sample with LOG2 at 1 (R490). -/
def logBin (v : Int) : Nat := if v < 1 then 0 else min 31 (Nat.log2 v.toNat + 1)

/-- The bin of a sample with LOG2 at 0 (R490). -/
def linBin (lo : Int) (w : Nat) (v : Int) : Nat :=
  if v < lo then 0 else min 31 (((v - lo) / (w : Int)).toNat + 1)

/-- The accumulators after a sample that falls into bin `b` (R489). -/
def CupMon.take (m : CupMon) (v : Int) (b : Nat) : CupMon :=
  { lo := min m.lo v, hi := max m.hi v, count := Nat.min (m.count + 1) 0xFFFFFFFF,
    sum := max (-0x8000000000000000) (min 0x7FFFFFFFFFFFFFFF (m.sum + v)),
    bins := Tbl.put m.bins b (Nat.min (Tbl.get 0 m.bins b + 1) 0xFFFFFFFF) }

/-- Monitor `i` takes a sample, with its threshold (R489, R490, R493). -/
def State.monitorTake (s : State) (i : Nat) (q : Int) : State :=
  let v := sat31 q
  let sh := v / (2 ^ s.rd CUP.MON_CFG_SHIFT i : Nat)
  let b := if s.flag CUP.MON_CFG_LOG2 i then logBin sh
    else linBin (toSigned 32 (s.rd CUP.BIN_LO_LO i)) (s.rd CUP.BIN_W_WIDTH i) sh
  let s1 := { s with cup := Tbl.upd {} s.cup i (fun m => m.take v b) }
  let thr := toSigned 32 (s1.rd CUP.THR_VALUE i)
  let mode := s1.rd CUP.THR_CFG_MODE i
  if (mode = 1 && decide (thr < v)) || (mode = 2 && decide (v < thr)) then s1.raise 0x06 i else s1

/-- Monitor `i` is enabled for source `src` and names this index of it; 0x3FF names every one of sources 20,
21, 24 and 25, and a source without an index ignores the field (R489, R491). -/
def State.monitors (s : State) (i src : Nat) (idx : Option Nat) : Bool :=
  s.flag CUP.MON_CFG_EN i && s.rd CUP.MON_CFG_SRC i = src &&
  (match idx with
   | none => true
   | some k => s.rd CUP.MON_CFG_INDEX i = k ||
      (s.rd CUP.MON_CFG_INDEX i = 0x3FF && [20, 21, 24, 25].contains src))

/-- A source delivers a sample to every monitor that watches it. -/
def State.offer (s : State) (src : Nat) (idx : Option Nat) (v : Int) : State :=
  if s.pageOn 0x06 then
    (List.range 24).foldl (fun t i => if t.monitors i src idx then t.monitorTake i v else t) s
  else s

end Sys2Proof.Machine
end

