-- ==== Sys2Proof/Machine/FifoOps.lean ====
section
/-! DEFINITION. The context FIFOs: counts, reading, writing, marks, flush (R236-R238). -/

namespace Sys2Proof.Machine

/-- Free entries: 16 - (W - F). -/
def Fifo.free (q : Fifo) : Nat := 16 - (q.w + 32 - q.f) % 32

/-- Readable words: W - R. -/
def Fifo.words (q : Fifo) : Nat := (q.w + 32 - q.r) % 32

/-- The entry at a position. -/
def Fifo.ent (q : Fifo) (p : Nat) : FifoEnt := Tbl.get {} q.ents (p % 16)

/-- End-marked words from R up to W. -/
def Fifo.pkts (q : Fifo) : Nat := ((List.range q.words).filter (fun i => (q.ent (q.r + i)).last)).length

/-- Stores an entry at W. -/
def Fifo.put (q : Fifo) (e : FifoEnt) : Fifo :=
  { q with ents := Tbl.put q.ents (q.w % 16) e, w := (q.w + 1) % 32 }

/-- Returns the entry at R and advances R (R237). -/
def Fifo.take (q : Fifo) : FifoEnt × Fifo :=
  (q.ent q.r, { q with r := (q.r + 1) % 32, edge := (q.ent q.r).last })

/-- MARK: M ← R. -/
def Fifo.mark (q : Fifo) : Fifo := { q with m := q.r }

/-- REWIND: R ← M. -/
def Fifo.rewind (q : Fifo) : Fifo := { q with r := q.m }

/-- RELEASE: F ← R, M ← R. -/
def Fifo.release (q : Fifo) : Fifo := { q with f := q.r, m := q.r }

/-- The first end-marked entry from R, as a count of entries up to and including it. -/
def Fifo.toEnd (q : Fifo) : Option Nat :=
  ((List.range q.words).find? (fun i => (q.ent (q.r + i)).last)).map (· + 1)

/-- A flush takes effect: F ← M ← R, and nothing has been read since (R238). -/
def Fifo.flushed (q : Fifo) : Fifo := { q with f := q.r, m := q.r, flush := false, edge := true }

/-- A flush is requested: at a packet boundary it takes effect at once, otherwise it is pending (R238). -/
def Fifo.requestFlush (q : Fifo) : Fifo := if q.edge then q.flushed else { q with flush := true }

/-- A pending flush discards the entries present, up to and including the next end-marked one, after which it
takes effect (R238). -/
def Fifo.flushStep (q : Fifo) : Fifo :=
  if q.flush then
    match q.toEnd with
    | some n => { q with r := (q.r + n) % 32 }.flushed
    | none => { q with r := q.w }
  else q

end Sys2Proof.Machine
end

