-- ==== Sys2Proof/Machine/Access.lean ====
section
/-! DEFINITION. OTP words, identity of the hub, and the judging of register accesses (R35-R42). -/

namespace Sys2Proof.Machine

/-- The shipped word `w` of generation 0 (R462, R463); identity numbers the spec does not give are 0 (log 8). -/
def shippedWord (w : Nat) : Nat :=
  let mask (t : Nat) : Nat :=
    if t = 0x19 ∨ t = 0x2B then 0x21 + 0x01 * 64
    else if t = 0x25 then 0x3F + 0x23 * 64
    else 0x3F + 0x2D * 64
  if w = 0 then 0x01003000
  else if w = 1 then 0x10
  else if 2 ≤ w ∧ w ≤ 19 then
    ((List.range 48).foldl (fun a t => a + mask t * 2 ^ (12 * t)) 0) / 2 ^ (32 * (w - 2)) % 2 ^ 32
  else if w = 24 then 0x0FFF000F
  else if w = 25 then 0xAAAA
  else if w = 26 then 0x73695F
  else if w = 27 then 0x140800
  else 0

/-- The CRC-32 of 46 words, each least significant byte first. DEDUCED order, log 10. -/
def genCrc (f : Nat → Nat) : Nat := crc32 ((List.range 46).flatMap (fun w => leBytes 4 (f w)))

/-- Word `w` of OTP generation `g`. -/
def Otp.word (o : Otp) (g w : Nat) : Nat :=
  Tbl.get (if g = 0 then (if w = 46 then genCrc shippedWord else shippedWord w) else 0) o.words (48 * g + w)

/-- Generation `g` is selectable: its CRC passes and RETIRE is 0 (R464). -/
def Otp.valid (o : Otp) (g : Nat) : Bool := genCrc (o.word g) = o.word g 46

/-- Word `w` of the shadow; zero while no generation is selected. -/
def State.shadow (s : State) (w : Nat) : Nat :=
  match s.otp.sel with
  | some g => s.otp.word g w
  | none => 0

/-- 0 single, 1 twin, 2 junction, 3 uncommissioned (R15, R454). -/
def State.role (s : State) : Nat := if s.otp.sel = none then 3 else bits (s.shadow 0) 12 2

/-- The node id (R12). -/
def State.nodeId (s : State) : Nat := bits (s.shadow 0) 0 12

/-- The station number: the low 7 bits of the node id (R12). -/
def State.station (s : State) : Nat := s.nodeId % 128

/-- The ring number. -/
def State.ring (s : State) : Nat := s.nodeId / 128

/-- The owner port's code in OTP (R37). -/
def State.ownerPort (s : State) : Nat := bits (s.shadow 1) 16 3

/-- The port is the owner of the masks (R37). -/
def State.isOwner (s : State) (p : Port) : Bool :=
  match s.ownerPort, p with
  | 0, .host => true | 1, .usbf => true | 2, .ringE => true | 2, .ringW => true
  | 3, .twin => true | 4, .debug => true | _, _ => false

/-- The read mask of a page permits the port (R36, R38). -/
def State.mayRead (s : State) (p : Port) (pg : Nat) : Bool := bitOf (s.rdn pg HDR.BLK_ACCESS_RD_MASK pg) p.code

/-- The write mask of a page permits the port. -/
def State.mayWrite (s : State) (p : Port) (pg : Nat) : Bool := bitOf (s.rdn pg HDR.BLK_ACCESS_WR_MASK pg) p.code

/-- The judgement of an access to a register page, in the order of R41: the cause of misuse, or none. -/
def State.judgePage (s : State) (p : Port) (wr : Bool) (pg off v : Nat) : Option Nat :=
  if blockType pg = 0 then some 1
  else if !s.pageOn pg && !(!wr && (off = 0 || off = 8)) then some 4
  else if !wr && !(off = 0 || off = 8 || off = 0xC) && !s.mayRead p pg then some 2
  else if wr && off = 0xC && !s.isOwner p then some 3
  else if wr && off ≠ 0xC && !s.mayWrite p pg then some 3
  else if s.pageUnit.inReset.contains pg && decide (0x40 ≤ off) then some 4
  else if wr && off = 0x24 && v ≠ 0x4C4F434B then some 5
  else none

/-- The judgement of any BAR0 access (R25, R39, R41). `oneWord` says the access is a single 32-bit word. -/
def State.judge (s : State) (p : Port) (wr : Bool) (a v : Nat) (oneWord : Bool) : Option Nat :=
  if !oneWord || a % 4 ≠ 0 then some 0
  else if a < 0x100000 then s.judgePage p wr (a / 4096) (a % 4096) v
  else if a < 0x140000 then
    let pg := 0x20 + (a - 0x100000) / 0x4000
    if !s.pageOn pg then some 4
    else if !wr && !s.mayRead p pg then some 2
    else if wr && !s.mayWrite p pg then some 3
    else if s.pageUnit.inReset.contains pg then some 4
    else none
  else if (0x400000 ≤ a ∧ a < 0xA18000) then
    if !s.pageOn 0x11 then some 4
    else if wr then some 3
    else if !s.mayRead p 0x11 then some 2
    else none
  else if (0xFF0000 ≤ a ∧ a < 0xFF0400) ∨ (0xFF8000 ≤ a ∧ a < 0xFF8008) then
    if p = .host then none else some (if wr then 3 else 2)
  else some 1

/-- A counted misuse: DENY_CNT of the port and DENY_LAST (R41, R42). -/
def State.misuse (s : State) (p : Port) (wr : Bool) (a cause : Nat) : State :=
  (((((s.sat DEVICE.DENY_CNT_COUNT p.code).wr DEVICE.DENY_LAST_VALID 1).wr DEVICE.DENY_LAST_CAUSE cause).wr
    DEVICE.DENY_LAST_WRITE (bit wr)).wr DEVICE.DENY_LAST_PORT p.code).wr DEVICE.DENY_LAST_WORD (a / 4)

/-- A dropped write over PCI Express is logged in AER as a Completer Abort (R41): bit 15 of the uncorrectable error
status, where the PCI Express base specification has it (PRESUMED, log 62). -/
def State.aerLog (s : State) (p : Port) : State :=
  if p = .host then { s with pcie := { s.pcie with aer := setBit s.pcie.aer 15 } } else s

/-- The access can reach the hub at all: in SENTINEL and BYPASS only DEBUG arrives (R41); in D3hot the function answers
only configuration requests (R46). -/
def State.arrives (s : State) (p : Port) : Bool :=
  (s.live || (p = .debug && s.mode = 1)) && !(p = .host && s.pcie.d3hot)

/-- The timer of the peer's next frame (R177). -/
def tHbTmo : Nat := 31

/-- A frame of the peer has arrived (R177). -/
def State.peerFrame (s : State) : State := s.start tHbTmo (s.rd TWIN.ROLE_CFG_HB_TMO * us 1)

/-- An access over the twin link comes in a frame of the peer (R177). -/
def State.heard (s : State) (p : Port) : State := if p = .twin && s.role = 1 then s.peerFrame else s

/-- RD_TMO in monotonic time. -/
def State.rdTmo (s : State) : Nat := s.rd BRIDGE.RD_TMO_US * us 1

/-- A non-posted window's write holds back the posted queue (R307). -/
def State.postedHeld (s : State) : Bool :=
  s.bridge.reqs.any (fun r => r.kind = 0 && !r.posted && decide (s.mono < r.at_ + s.rdTmo))

/-- The requests of windows in the outstanding table (R307). -/
def State.tableUsed (s : State) : Nat := (s.bridge.reqs.filter (fun (r : Req) => r.kind ≠ 2)).length

/-- The request is a posted one, a write. -/
def Intake.posted : Intake → Bool
  | .write _ _ _ => true
  | .read _ _ _ _ => false
  | .reg wr _ _ _ _ => wr

/-- A host access of BAR0 waits for credit: a write while the posted queue is held back or behind a write that waits, a read
behind any request that waits or while 64 reads are held; both while the outstanding table is full (R307, R309). -/
def State.hostWaits (s : State) (p : Port) (wr : Bool) : Bool :=
  p = .host && (decide (1024 ≤ s.tableUsed) ||
    (if wr then s.postedHeld || s.bridge.intake.any Intake.posted
     else s.bridge.intake ≠ [] || decide (64 ≤ s.bridge.reads.length)))

/-- A host access of BAR0 waits in the intake. -/
def State.holdAccess (s : State) (wr : Bool) (a v dw be : Nat) : State :=
  { s with bridge := { s.bridge with intake := s.bridge.intake ++ [.reg wr a v dw be] } }

/-- A write access by its own row of the table: held back until the host has credit for it, judged under R41; the effect `k`
happens if it is permitted; answered by its port. -/
def State.access (s : State) (p : Port) (pg off v : Nat) (k : State → State) : State :=
  if !s.arrives p then s
  else if s.hostWaits p true then s.holdAccess true (pg * 4096 + off) v 1 15
  else match s.judgePage p true pg off v with
    | some 5 => ((s.heard p).misuse p true (pg * 4096 + off) 5).emit (.answer p.code true 0 0)
    | some c => (((s.heard p).misuse p true (pg * 4096 + off) c).aerLog p).emit (.answer p.code false c 0)
    | none => (k (s.heard p)).emit (.answer p.code true 0 0)

/-- A read access by its own row of the table: judged under R41; `k` gives the data and what the read does. -/
def State.readAccess (s : State) (p : Port) (pg off : Nat) (k : State → Nat × State) : State :=
  if !s.arrives p then s
  else if s.hostWaits p false then s.holdAccess false (pg * 4096 + off) 0 1 15
  else match s.judgePage p false pg off 0 with
    | some c => ((s.heard p).misuse p false (pg * 4096 + off) c).emit (.answer p.code false c 0)
    | none => (k (s.heard p)).2.emit (.answer p.code true 0 (k (s.heard p)).1)

/-- A write access to a word outside the register pages (R25, R41). -/
def State.accessWord (s : State) (p : Port) (a v : Nat) (k : State → State) : State :=
  if !s.arrives p then s
  else if s.hostWaits p true then s.holdAccess true a v 1 15
  else match s.judge p true a v true with
    | some c => (((s.heard p).misuse p true a c).aerLog p).emit (.answer p.code false c 0)
    | none => (k (s.heard p)).emit (.answer p.code true 0 0)

end Sys2Proof.Machine
end

