-- ==== Sys2Proof/Machine/Crypto.lean ====
section
/-! DEFINITION. The ciphers the spec names by their standards: AES, CMAC, the counter-mode key
derivation of R384, GCM (R386) and AES-KW (R393). Blocks and keys are lists of byte values. PRESUMED from
the NIST standards the spec cites, log 12. -/

namespace Sys2Proof

/-- Doubling in the AES byte field. -/
def xtime (a : Nat) : Nat := if a < 128 then 2 * a else (2 * a) ^^^ 0x11B

/-- A product in the AES byte field, from the low bit of `b` up. -/
def gmulAux : Nat → Nat → Nat → Nat
  | 0, _, _ => 0
  | n + 1, a, b => (if b % 2 = 1 then a else 0) ^^^ gmulAux n (xtime a) (b / 2)

/-- A product in the AES byte field. -/
def gmul (a b : Nat) : Nat := gmulAux 8 a b

/-- The inverse in the AES byte field (0 for 0), as the power 254. -/
def ginv (a : Nat) : Nat :=
  let a2 := gmul a a
  let a4 := gmul a2 a2
  let a8 := gmul a4 a4
  let a16 := gmul a8 a8
  let a32 := gmul a16 a16
  let a64 := gmul a32 a32
  let a128 := gmul a64 a64
  gmul (gmul (gmul a128 a64) (gmul a32 a16)) (gmul (gmul a8 a4) a2)

/-- A byte turned left by `k` bits. -/
def rotl8 (a k : Nat) : Nat := (a * 2 ^ k) % 256 + a / 2 ^ (8 - k)

/-- The AES byte substitution. -/
def subByte (a : Nat) : Nat :=
  let b := ginv (a % 256)
  b ^^^ rotl8 b 1 ^^^ rotl8 b 2 ^^^ rotl8 b 3 ^^^ rotl8 b 4 ^^^ 0x63

/-- The inverse of the AES byte substitution. -/
def invSubByte (a : Nat) : Nat :=
  let a := a % 256
  ginv (rotl8 a 1 ^^^ rotl8 a 3 ^^^ rotl8 a 6 ^^^ 0x05)

/-- Bytes combined by exclusive or, as long as the shorter list. -/
def xorB (a b : List Nat) : List Nat := List.zipWith (· ^^^ ·) a b

/-- Byte `i` of a list, 0 beyond its end. -/
def nth (l : List Nat) (i : Nat) : Nat := l.getD i 0

/-- The next word of the key schedule of a key of `nk` words: words in reverse order, `i` words so far, the round
constant. -/
def nextKeyWord (nk : Nat) (ws : List (List Nat)) (i rcon : Nat) : List Nat :=
  let t := ws.headD []
  let t := if i % nk = 0 then
      xorB [subByte (nth t 1), subByte (nth t 2), subByte (nth t 3), subByte (nth t 0)] [rcon, 0, 0, 0]
    else if nk = 8 ∧ i % 8 = 4 then t.map subByte
    else t
  xorB (ws.getD (nk - 1) []) t

/-- The key schedule: `n` more words. -/
def growKey (nk : Nat) : Nat → List (List Nat) → Nat → Nat → List (List Nat)
  | 0, ws, _, _ => ws
  | n + 1, ws, i, rcon => growKey nk n (nextKeyWord nk ws i rcon :: ws) (i + 1) (if i % nk = 0 then xtime rcon else rcon)

/-- The words of a key: four for a key of 128 bits (the USB session key, R368), else eight. -/
def keySize (key : List Nat) : Nat := if key.length = 16 then 4 else 8

/-- The words of the key schedule, in order: 44 of AES-128, 60 of AES-256. -/
def keyWords (key : List Nat) : List (List Nat) :=
  let nk := keySize key
  let w0 := (List.range nk).map (fun k => (key.drop (4 * k)).take 4)
  (growKey nk (3 * nk + 28) w0.reverse nk 1).reverse

/-- Round key `r` as 16 bytes. -/
def roundKey (ws : List (List Nat)) (r : Nat) : List Nat := ((ws.drop (4 * r)).take 4).flatten

/-- The row shift: byte `4 c + r` comes from column `c + r`. -/
def shiftRows (b : List Nat) : List Nat :=
  (List.range 16).map (fun i => nth b (4 * ((i / 4 + i % 4) % 4) + i % 4))

/-- The inverse row shift. -/
def invShiftRows (b : List Nat) : List Nat :=
  (List.range 16).map (fun i => nth b (4 * ((i / 4 + 4 - i % 4) % 4) + i % 4))

/-- A column mix with the circulant of four coefficients. -/
def mixWith (m0 m1 m2 m3 : Nat) (b : List Nat) : List Nat :=
  (List.range 16).map (fun i =>
    let c := 4 * (i / 4)
    let r := i % 4
    gmul m0 (nth b (c + r)) ^^^ gmul m1 (nth b (c + (r + 1) % 4)) ^^^ gmul m2 (nth b (c + (r + 2) % 4)) ^^^
      gmul m3 (nth b (c + (r + 3) % 4)))

/-- AES of one block: ten rounds with a key of 128 bits, 14 with one of 256. -/
def aes (key b : List Nat) : List Nat :=
  let ws := keyWords key
  let n := keySize key + 5
  let b1 := (List.range n).foldl (fun b r =>
    xorB (mixWith 2 3 1 1 (shiftRows (b.map subByte))) (roundKey ws (r + 1))) (xorB b (roundKey ws 0))
  xorB (shiftRows (b1.map subByte)) (roundKey ws (n + 1))

/-- The inverse of AES of one block. -/
def aesInv (key b : List Nat) : List Nat :=
  let ws := keyWords key
  let n := keySize key + 5
  let b0 := (invShiftRows (xorB b (roundKey ws (n + 1)))).map invSubByte
  (List.range n).foldl (fun b r =>
    (invShiftRows (mixWith 14 11 13 9 (xorB b (roundKey ws (n - r))))).map invSubByte) b0 |> (xorB · (roundKey ws 0))

/-- A block of zeros. -/
def zeros (n : Nat) : List Nat := List.replicate n 0

/-- A list cut into blocks of 16 bytes, with at most `n` blocks. -/
def blocks16 : Nat → List Nat → List (List Nat)
  | 0, _ => []
  | n + 1, l => if l = [] then [] else l.take 16 :: blocks16 n (l.drop 16)

/-- The blocks of a list. -/
def blocksOf (l : List Nat) : List (List Nat) := blocks16 (l.length / 16 + 1) l

/-- Doubling of a block for the CMAC subkeys. -/
def dblBlock (b : List Nat) : List Nat :=
  let v := ofBe b
  beBytes 16 (if v < 2 ^ 127 then 2 * v else ((2 * v) % 2 ^ 128) ^^^ 0x87)

/-- AES-CMAC of a message: AES-256 under the keys of R384, AES-128 under a session key, itself a CMAC (R368, log 36). -/
def cmac (key m : List Nat) : List Nat :=
  let k1 := dblBlock (aes key (zeros 16))
  let bs := blocksOf m
  let final := bs.getLastD []
  let whole := final.length = 16
  let mn := if whole then xorB final k1 else xorB (final ++ 0x80 :: zeros (15 - final.length)) (dblBlock k1)
  aes key (xorB ((bs.dropLast).foldl (fun c b => aes key (xorB c b)) (zeros 16)) mn)

/-- The counter-mode derivation of R384: PRF calls 1 and on, cut to `n` bytes. -/
def kdf (root label context : List Nat) (n : Nat) : List Nat :=
  (((List.range ((n + 15) / 16)).map (fun i =>
    cmac root (beBytes 4 (i + 1) ++ label ++ 0 :: context ++ beBytes 4 (8 * n)))).flatten).take n

/-- A product in the field of GHASH, over the bits of `x` from the first. -/
def ghMulAux : Nat → Nat → Nat → Nat → Nat
  | 0, _, _, z => z
  | n + 1, x, v, z =>
    ghMulAux n x (if v % 2 = 1 then (v / 2) ^^^ (0xE1 * 2 ^ 120) else v / 2)
      (if x / 2 ^ n % 2 = 1 then z ^^^ v else z)

/-- GHASH of data already cut to whole blocks. -/
def ghash (h : Nat) (bs : List (List Nat)) : Nat :=
  bs.foldl (fun y b => ghMulAux 128 (y ^^^ (ofBe (b ++ zeros (16 - b.length)))) h 0) 0

/-- GCM's counter mode from counter block `iv ‖ 2` on. -/
def gcmCrypt (key iv d : List Nat) : List Nat :=
  let bs := blocksOf d
  (((List.range bs.length).zip bs).map (fun e => xorB e.2 (aes key (iv ++ beBytes 4 (e.1 + 2))))).flatten

/-- GCM's 16-byte tag over additional data `a` and ciphertext `c`, for a 12-byte IV. -/
def gcmTag (key iv a c : List Nat) : List Nat :=
  let h := ofBe (aes key (zeros 16))
  let s := ghash h (blocksOf a ++ blocksOf c ++ [beBytes 8 (8 * a.length) ++ beBytes 8 (8 * c.length)])
  xorB (beBytes 16 s) (aes key (iv ++ beBytes 4 1))

/-- One step of AES-KW over semiblock `i` of `r` with counter `t`. -/
def kwStep (key : List Nat) (acc : List Nat × List (List Nat)) (t : Nat) : List Nat × List (List Nat) :=
  let n := acc.2.length
  let i := t % n
  let b := aes key (acc.1 ++ acc.2.getD i [])
  (xorB (b.take 8) (beBytes 8 (t + 1)), acc.2.set i (b.drop 8))

/-- One step back of AES-KW. -/
def kwStepBack (key : List Nat) (acc : List Nat × List (List Nat)) (t : Nat) : List Nat × List (List Nat) :=
  let n := acc.2.length
  let i := t % n
  let b := aesInv key (xorB acc.1 (beBytes 8 (t + 1)) ++ acc.2.getD i [])
  (b.take 8, acc.2.set i (b.drop 8))

/-- Eight-byte pieces of a list. -/
def semis (l : List Nat) : List (List Nat) := (List.range (l.length / 8)).map (fun i => (l.drop (8 * i)).take 8)

/-- AES-KW: wraps whole semiblocks; the result is one semiblock longer. -/
def kwWrap (key p : List Nat) : List Nat :=
  let r := semis p
  let e := (List.range (6 * r.length)).foldl (kwStep key) (List.replicate 8 0xA6, r)
  e.1 ++ e.2.flatten

/-- AES-KW unwrap: the plaintext, or none if the check fails. -/
def kwUnwrap (key c : List Nat) : Option (List Nat) :=
  let r := semis (c.drop 8)
  let e := (List.range (6 * r.length)).reverse.foldl (kwStepBack key) (c.take 8, r)
  if e.1 = List.replicate 8 0xA6 then some e.2.flatten else none

/-- The security prefix: the twin bit in [63] and the packet number (R90, R386). -/
def prefixOf (b p : Nat) : List Nat := beBytes 8 (b * 2 ^ 63 + p % 2 ^ 63)

/-- The additional authenticated data of a frame: bytes 24-31 of the header zero, bytes 12-19 too in TC1
frames, then the prefix (R92, R386). -/
def Frame.aad (f : Frame) (pre : List Nat) : List Nat :=
  f.head24 (if f.tc = 1 then 0 else f.launch) ++ zeros 8 ++ pre

/-- The twin bit a secured frame carries. -/
def Frame.twinBit (f : Frame) : Nat := ofBe ((bnat f.payload).take 8) / 2 ^ 63

/-- The packet number a secured frame carries. -/
def Frame.packetNo (f : Frame) : Nat := ofBe ((bnat f.payload).take 8) % 2 ^ 63

/-- The opened frame: its payload without prefix, in plain; LEN follows. -/
def Frame.withPlain (f : Frame) (plain : List Nat) : Frame := { f with payload := natb plain, len := plain.length }

end Sys2Proof
end

