-- ==== Sys2Proof/Machine/SessionOps.lean ====
section
/-! DEFINITION. Closing the session of the USB function (R368, R394). -/

namespace Sys2Proof.Machine

/-- The session is closed: SESSION_CLOSED, the session key forgotten (R368, R379). -/
def State.closeSession (s : State) : State :=
  if s.flag USBFN.FN_STAT_SESSION then
    ({ s with usb := { s.usb with key := [], counter := 0 } }.wr USBFN.FN_STAT_SESSION 0).raise 0x49 1
  else s

end Sys2Proof.Machine
end

