-- ==== Sys2Proof/Machine/GcmOps.lean ====
section
/-! DEFINITION. Secured associations: keys, sealing, opening, packet-number windows, alarms (R381-R395). -/

namespace Sys2Proof.Machine

/-- A checker reports a fault (R475). Its FLT_STAT bit, its fence and its way to the collector follow when
the command that found it ends (`State.drain`). -/
def State.report (s : State) (pg ck : Nat) (detail : Nat := 0) (corr : Bool := false) : State :=
  { s with flt := { s.flt with todo := s.flt.todo ++
    [{ page := pg, checker := ck, detail := detail, corr := corr, inj := bitOf (s.rdn pg HDR.FLT_INJ_INJECT) ck, mono := s.mono }] } }

/-- Nanoseconds of the fabric time, seconds taken out (R191). -/
def State.nowNs (s : State) : Nat := s.fab / 2 ^ 48 % 1000000000

/-- Seconds of the fabric time (R191). -/
def State.nowSec (s : State) : Nat := s.fab / 2 ^ 48 / 1000000000

def tTagWin : Nat := 40
def tKill : Nat := 41
def tRec : Nat := 42
/-- The grace of the previous epoch of entry `i`, twin bit `b` (R387). -/
def tGrace (i b : Nat) : Nat := 1000 + 2 * i + b

/-- A 32-bit word list as bytes in register byte order (R4). -/
def wordsLe (ws : List Nat) : List Nat := ws.flatMap (leBytes 4)

/-- Words from bytes in register byte order. -/
def leWords (bs : List Nat) : List Nat := (List.range (bs.length / 4)).map (fun i => ofLe ((bs.drop (4 * i)).take 4))

/-- The ASCII bytes of a derivation label: FDL- and a letter (R384). -/
def label (c : Nat) : List Nat := [0x46, 0x44, 0x4C, 0x2D, c]

/-- The association key and its salt (R384). -/
def assocKey (root : List Nat) (k : Nat × Nat × Nat × Nat) : List Nat × List Nat :=
  let o := kdf root (label 0x41) (beBytes 2 k.1 ++ beBytes 2 k.2.1 ++ beBytes 1 k.2.2.1 ++ beBytes 2 k.2.2.2) 36
  (o.take 32, o.drop 32)

/-- The wrapping key (R384). -/
def State.wrapKey (s : State) (root : List Nat) : List Nat :=
  kdf root (label 0x57) (beBytes 2 s.nodeId ++ beBytes 1 s.otp.index) 32

/-- The USB service key (R384, R368). -/
def State.usbKey (s : State) (root : List Nat) : List Nat :=
  kdf root (label 0x55) (beBytes 2 s.nodeId ++ beBytes 1 s.otp.index) 32

/-- The image key (R384). -/
def imageKey (root : List Nat) : List Nat := kdf root (label 0x49) [] 32

/-- Keys can be used: a root key is loaded, not erased, and the GCM page is not fenced (R383, R390, R397). -/
def State.keysUsable (s : State) : Bool :=
  s.gcm.root.isSome && !s.flag KEYS.ROOT_STAT_LOCKED && !s.fenced 0x18

/-- The enabled transmit entry of lowest index for a frame (R381). -/
def State.txEntry (s : State) (tc dest : Nat) : Option Nat :=
  (List.range 256).find? (fun i =>
    s.flag GCM.A_CFG_EN i && !s.flag GCM.A_CFG_DIR i && s.rd GCM.A_CFG_TC i = tc &&
    (dest &&& s.rd GCM.A_MASK_MASK i) = (s.rd GCM.A_BASE_BASE i &&& s.rd GCM.A_MASK_MASK i))

/-- The enabled receive entry for a secured frame (R382). -/
def State.rxEntry (s : State) (f : Frame) : Option Nat :=
  (List.range 256).find? (fun i =>
    s.flag GCM.A_CFG_EN i && s.flag GCM.A_CFG_DIR i && s.rd GCM.A_CFG_NODE i = nodeOf f.src &&
    s.rd GCM.A_CFG_NUMBER i = f.assoc && s.rd GCM.A_CFG_TC i = f.tc)

/-- The key a frame of transmit entry `i` is sealed with. -/
def State.sealKey (s : State) (i : Nat) (f : Frame) : Nat × Nat × Nat × Nat :=
  (s.nodeId, nodeOf f.dest, f.tc, s.rd GCM.A_EPOCH_EPOCH i)

/-- A cached key is pinned: the current or next epoch of an enabled transmit entry, for a destination mask
over several nodes only where the entry has sealed for that node (R385). -/
def State.pinned (s : State) (k : Nat × Nat × Nat × Nat) : Bool :=
  (List.range 256).any (fun i =>
    s.flag GCM.A_CFG_EN i && !s.flag GCM.A_CFG_DIR i && k.1 = s.nodeId && s.rd GCM.A_CFG_TC i = k.2.2.1 &&
    (k.2.2.2 = s.rd GCM.A_EPOCH_EPOCH i || k.2.2.2 = s.rd GCM.A_EPOCH_EPOCH i + 1) &&
    ((k.2.1 * 8192 &&& s.rd GCM.A_MASK_MASK i) / 8192 = (s.rd GCM.A_BASE_BASE i &&& s.rd GCM.A_MASK_MASK i) / 8192) &&
    (s.rd GCM.A_MASK_MASK i / 8192 = 0xFFF || s.gcm.sealedFor.contains (i, k.2.1)))

/-- A cached key is used: it becomes the most recently used. -/
def State.useKey (s : State) (k : Nat × Nat × Nat × Nat) : State :=
  { s with gcm := { s.gcm with cache := s.gcm.cache.filter (· ≠ k) ++ [k] } }

/-- A derived key enters the cache of 256; the least recently used key that is not pinned makes room
(R385). -/
def State.cacheKey (s : State) (k : Nat × Nat × Nat × Nat) : State :=
  let c := s.gcm.cache.filter (· ≠ k)
  let c1 := if c.length < 256 then c
    else match c.find? (fun e => !s.pinned e) with
      | some e => c.filter (· ≠ e)
      | none => c.drop 1
  (s.inc KEYS.DERIVE_CNT_COUNT).useKey k |> fun t => { t with gcm := { t.gcm with cache := c1 ++ [k] } }

/-- The twin bit the hub seals with (R386). -/
def State.twinBit (s : State) : Nat := if s.role = 1 then s.otp.index else 0

/-- Seals a frame under transmit entry `i` with its key, and moves the entry's packet number on; the first frame after a ROLL
clears EPOCH_REQ and HALTED (R386, R390, R391). -/
def State.sealFrame (s : State) (i : Nat) (root : List Nat) (f : Frame) : Frame × State :=
  let e := s.rd GCM.A_EPOCH_EPOCH i
  let p := s.rd GCM.A_PN_PN i
  let k := assocKey root (s.sealKey i f)
  let pre := prefixOf s.twinBit p
  let g := { f with sec := true, assoc := s.rd GCM.A_CFG_NUMBER i, epochLo := e % 16, len := f.len + 8 }
  let iv := k.2 ++ pre
  let ct := gcmCrypt k.1 iv (bnat f.payload)
  let sealed := { g with payload := natb (pre ++ ct), tag := ofBe (gcmTag k.1 iv (g.aad pre) ct) }
  let s1 := if s.gcm.rolls.contains i then (s.wr GCM.A_STAT_EPOCH_REQ 0 i).wr GCM.A_STAT_HALTED 0 i else s
  let s2 := (s1.wr GCM.A_PN_PN (p + 1) i).sat GCM.SEALED_COUNT
  let s3 := { s2 with gcm := { s2.gcm with
    rolls := s2.gcm.rolls.filter (· ≠ i),
    sealedFor := if s2.gcm.sealedFor.contains (i, nodeOf f.dest) then s2.gcm.sealedFor
      else s2.gcm.sealedFor ++ [(i, nodeOf f.dest)] } }
  let s4 := if 2 ^ (s3.rd GCM.A_SOFT_LOG2 i) ≤ p + 1 && !s3.flag GCM.A_STAT_EPOCH_REQ i then
      (s3.wr GCM.A_STAT_EPOCH_REQ 1 i).raise 0x18 0 else s3
  let s5 := if p + 1 = 2 ^ 63 - 1 then (s4.wr GCM.A_STAT_HALTED 1 i).raise 0x18 1 else s4
  (sealed, s5.useKey (s.sealKey i f))

/-- What the sealing rules say of a frame the node originates for the ring (R381, R390). -/
inductive SealPlan where
  | plain
  | refuse
  | wait (i : Nat)
  | sealed (i : Nat) (root : List Nat)
  deriving DecidableEq, Repr

/-- The plan for a frame: unsecured, refused, sealed, or sealed once its key is derived. -/
def State.sealPlan (s : State) (f : Frame) : SealPlan :=
  match s.txEntry f.tc f.dest with
  | none => if bitOf (s.rd GCM.CFG_TX_REQ) f.tc then .refuse else .plain
  | some i =>
    if !s.keysUsable || (s.flag GCM.A_STAT_HALTED i && !s.gcm.rolls.contains i) then .refuse
    else match s.gcm.root with
      | none => .refuse
      | some r => if s.gcm.cache.contains (s.sealKey i f) then .sealed i r else .wait i

/-- The current epoch of a receive entry for a twin bit (R387). -/
def State.rxEpoch (s : State) (i b : Nat) : Nat :=
  if b = 0 then s.rd GCM.A_RXEP_EPOCH_T0 i else s.rd GCM.A_RXEP_EPOCH_T1 i

/-- The epoch inferred from ASSOC[15:12]: congruent to it in E - 1 to E + 14 (R387). -/
def inferEpoch (e lo : Nat) : Int := (e : Int) - 1 + ((lo : Int) - ((e : Int) - 1)) % 16

/-- The key of a packet-number window. -/
def winKey (i b e : Nat) : Nat := (2 * i + b) * 65536 + e

/-- The packet number is rejected by the window (R388). -/
def State.replayed (s : State) (i b e p : Nat) : Bool :=
  let w := Tbl.get (0, 0) s.gcm.wins (winKey i b e)
  if w.1 < p then false else if p + 63 < w.1 then true else bitOf w.2 (w.1 - p)

/-- What step 5 of R110 finds for a frame. -/
inductive OpenVerdict where
  | fail (cause : Nat)
  | unsecured
  | derive (k : Nat × Nat × Nat × Nat)
  | opened (i b e p : Nat) (plain : List Nat) (k : Nat × Nat × Nat × Nat)
  deriving DecidableEq, Repr

/-- Step 5 of R110: the verdict on a frame, before anything is marked (R383, R386-R388). A copy judged by
the time unit neither consults nor marks the window (R388). -/
def State.openFrame (s : State) (f : Frame) (judgeWindow : Bool) : OpenVerdict :=
  if !f.sec then (if bitOf (s.rd GCM.CFG_RX_REQ) f.tc then .fail 3 else .unsecured)
  else if !s.keysUsable then .fail 4
  else match s.rxEntry f, s.gcm.root with
    | some i, some root =>
      let b := f.twinBit
      let p := f.packetNo
      let cur := s.rxEpoch i b
      let ei := inferEpoch cur f.epochLo
      if ei < 0 || 65535 < ei || (ei = (cur : Int) - 1 &&
          !(match Tbl.find s.gcm.grace (2 * i + b) with | some t => decide (s.mono < t) | none => false)) then .fail 4
      else
        let e := ei.toNat
        let k := (nodeOf f.src, nodeOf f.dest, f.tc, e)
        if !s.gcm.cache.contains k then .derive k
        else
          let a := assocKey root k
          let pre := (bnat f.payload).take 8
          let ct := (bnat f.payload).drop 8
          let iv := a.2 ++ pre
          if ofBe (gcmTag a.1 iv (f.aad pre) ct) ≠ f.tag then .fail 1
          else if judgeWindow && s.replayed i b e p then .fail 2
          else .opened i b e p (gcmCrypt a.1 iv ct) k
    | _, _ => .fail 4

/-- A frame of a later epoch has been accepted: it becomes the current one, the one before stays open for 1 ms (R387). -/
def State.advanceEpoch (s : State) (i b e : Nat) : State :=
  if s.rxEpoch i b < e then
    let s1 := s.wr (if b = 0 then GCM.A_RXEP_EPOCH_T0 else GCM.A_RXEP_EPOCH_T1) e i
    { (s1.start (tGrace i b) (ms 1)) with gcm := { s1.gcm with
      wins := s1.gcm.wins.filter (fun w => !(winKey i b 0 ≤ w.1 && decide (w.1 < winKey i b (e - 1)))),
      grace := Tbl.put s1.gcm.grace (2 * i + b) (s1.mono + ms 1) } }
  else s

/-- Marks the packet number of an accepted frame and advances the epoch (R387, R388). -/
def State.markOpened (s : State) (i b e p : Nat) : State :=
  let w := Tbl.get (0, 0) s.gcm.wins (winKey i b e)
  let w1 := if w.1 < p then (p, (w.2 * 2 ^ min (p - w.1) 64 + 1) % 2 ^ 64) else (w.1, setBit w.2 (w.1 - p))
  let s1 := { s with gcm := { s.gcm with wins := Tbl.put s.gcm.wins (winKey i b e) w1 } }
  (s1.sat GCM.OPENED_COUNT).advanceEpoch i b e

/-- In SAFE the domain of GCM and KEYS is off once a key alarm has erased the keys (R23). The association entries, epochs and
packet numbers are kept, and frames go on being judged by them, sealed ones refused (R394, log 72). -/
def State.keyDark (s : State) : State :=
  if s.mode = 5 && s.flag KEYS.ROOT_STAT_LOCKED then { s with pd := deleteNat s.pd 7 } else s

/-- An alarm (R394): its cause is added; the first erases every key, blocks the OTP key area, closes a USB
session, is dated, raises ERASED and is reported; with KILL_EN it starts the kill of the root key (R395). -/
def State.alarm (s : State) (cause : Nat) : State :=
  let old := s.rd KEYS.ALARM_STAT_CAUSE
  let s1 := s.wr KEYS.ALARM_STAT_CAUSE (setBit old cause)
  if old ≠ 0 then s1
  else
    let s2 := ((s1.wr KEYS.ROOT_STAT_LOCKED 1).wr KEYS.ALARM_NS_NS s1.nowNs).wr KEYS.ALARM_SEC_SEC_LO s1.nowSec
    let s3 := { s2.closeSession with gcm := { s2.gcm with root := none, cache := [] } }
    let s4 := (s3.raise 0x19 0).report 0x19 3 cause
    let s5 := if s4.otp.killEn then
        (({ s4 with otp := { s4.otp with killStarted := true } }).wr KEYS.ROOT_STAT_KILL_RUN 1).start tKill (ms 40)
      else s4
    s5.keyDark

/-- The GCM counter of a failure cause (R383). -/
def gcmFailFld (cause : Nat) : Fld :=
  if cause = 1 then GCM.TAG_FAIL_COUNT
  else if cause = 2 then GCM.REPLAY_COUNT
  else if cause = 3 then GCM.UNSECURED_COUNT
  else GCM.NOASSOC_COUNT

/-- TAG_LAST takes the newest failure of cause 1 or 2 on port `d`, and TAG_FAIL is raised (R383, R396). -/
def State.tagLast (s : State) (d cause : Nat) (f : Frame) : State :=
  ((((((s.wr GCM.TAG_LAST_VALID 1).wr GCM.TAG_LAST_CAUSE cause).wr GCM.TAG_LAST_TWIN f.twinBit).wr
    GCM.TAG_LAST_PORT d).wr GCM.TAG_LAST_NODE (nodeOf f.src)).wr GCM.TAG_LAST_NUMBER f.assoc).raise 0x18 2

/-- A cause-1 failure counts in the period; more than TAG_LIMIT of them are the TAG alarm (R394). -/
def State.tagCounted (s : State) : State :=
  let n := s.gcm.tagCnt + 1
  let lim := s.rd KEYS.ALARM_CFG_TAG_LIMIT
  if lim ≠ 0 && decide (lim < n) then ({ s with gcm := { s.gcm with tagCnt := n } }).alarm 4
  else { s with gcm := { s.gcm with tagCnt := n } }

/-- A frame failed step 5 on port `d` (0 east, 1 west; 3 the twin link, which has no MAC page and no code in TAG_LAST): counted
by cause, recorded and raised for causes 1 and 2; cause 1 counts toward the tag alarm (R383, R394). -/
def State.openFailed (s : State) (d cause : Nat) (f : Frame) : State :=
  let s1 := (if d ≤ 1 then s.satn (2 * d) MAC.RX_TAG_COUNT else s).sat (gcmFailFld cause)
  if cause = 1 then (if d ≤ 1 then s1.tagLast d cause f else s1).tagCounted
  else if cause = 2 then s1.tagLast d cause f
  else s1

end Sys2Proof.Machine
end

