-- ==== Sys2Proof/Machine/CtxOps.lean ====
section
/-! DEFINITION. Contexts, engines and the base cycle: access, boundaries, states of a context, deferral
(R223-R232, R429, R431). -/

namespace Sys2Proof.Machine

/-! ### Contexts and engines -/

/-- Context `c` of engine `e`. -/
def State.ctx (s : State) (e c : Nat) : Ctx := Tbl.get {} s.ctxs (32 * e + c)

/-- Changes context `c` of engine `e`. -/
def State.updCtx (s : State) (e c : Nat) (f : Ctx → Ctx) : State := { s with ctxs := Tbl.upd {} s.ctxs (32 * e + c) f }

/-- Engine `e`. -/
def State.eng (s : State) (e : Nat) : EngUnit := Tbl.get {} s.engs e

/-- Changes engine `e`. -/
def State.updEng (s : State) (e : Nat) (f : EngUnit → EngUnit) : State := { s with engs := Tbl.upd {} s.engs e f }

/-- The ENG page of engine `e` (R26). -/
def engPage (e : Nat) : Nat := 0x20 + e

/-- The engine's domain is on. -/
def State.engOn (s : State) (e : Nat) : Bool := decide (e < 16) && s.pageOn (engPage e)

/-- The engine is fenced (R251). -/
def State.engFenced (s : State) (e : Nat) : Bool := s.fenced (engPage e)

/-- CTX_CFG.PIN_COUNT of a context. -/
def State.pinCount (s : State) (e c : Nat) : Nat := s.rdn e ENG.CTX_CFG_PIN_COUNT c

/-- CTX_CFG.CLASS of a context: 0 to 3 for C0 to C3 (R229). -/
def State.ctxClass (s : State) (e c : Nat) : Nat := s.rdn e ENG.CTX_CFG_CLASS c

/-- Working: running and not ended for the cycle (R228). -/
def Ctx.working (x : Ctx) : Bool := x.run && !x.eoc

/-- Working and not stalled (R228): the dispatcher may pick it, by rule 1 alone while it is deferred (R231). -/
def Ctx.issuable (x : Ctx) : Bool := x.run && !x.eoc && x.stall = 0

/-- Ready: working, neither stalled nor deferred (R228). -/
def Ctx.ready (x : Ctx) : Bool := x.issuable && !x.deferred

/-- The engine holds a working C0 context (R233, R476). -/
def State.holdsC0 (s : State) (e : Nat) : Bool :=
  (List.range 32).any (fun c => (s.ctx e c).working && s.ctxClass e c = 0)

/-- The cluster of an engine (R223). -/
def clusterOf (e : Nat) : Nat := e / 8

/-- The endpoint id of a context (R17). -/
def State.ctxEndpoint (s : State) (e c : Nat) : Nat := s.nodeId * 8192 + 16 + 32 * e + c

/-! ### Time and the base cycle -/

/-- Fabric time in whole nanoseconds. -/
def State.fabNs (s : State) : Nat := s.fab / 2 ^ 48

/-- Fabric time rounded to the nearest nanosecond (R287). -/
def roundNs (t : Nat) : Nat := (t + 2 ^ 47) / 2 ^ 48

/-- The last grid point at or before `t`, in ns. -/
def gridPrev (len phase t : Nat) : Nat := t - (t - phase) % len

/-- The first grid point at or after `t`. -/
def gridFrom (len phase t : Nat) : Nat := if t ≤ phase then phase else t + (len - (t - phase) % len) % len

/-- The most recent boundary at time `t` ns and its number (R225, R226). -/
def BaseCycle.prev (b : BaseCycle) (t : Nat) : Nat × Nat :=
  let p := gridPrev b.len b.phase t
  if b.phase ≤ t ∧ b.since ≤ p then (p, (p - b.phase) / b.len) else (b.floorNs, b.floorNum)

/-- The next boundary after time `t` ns; a grid that waits for its second takes over there (R226). -/
def BaseCycle.next (b : BaseCycle) (t : Nat) : Nat :=
  let n := gridFrom b.len b.phase (max (t + 1) b.since)
  match b.pend with
  | some (len, phase, at_) => if at_ ≤ n then gridFrom len phase (max (t + 1) at_) else n
  | none => n

/-- The most recent boundary now: its time in ns and its number. -/
def State.boundary (s : State) : Nat × Nat := s.base.prev s.fabNs

/-- B + D - now of a context in ns (R229, R230). -/
def State.slack (s : State) (x : Ctx) : Int := (x.began + x.deadline : Nat) - (s.fabNs : Int)

/-! ### Issue cycles (R223, R224) -/

/-- The issue clock's period in 1/64 ns: 800, 400 or 200 MHz. -/
def State.issuePeriod (s : State) (e : Nat) : Nat := 80 * 2 ^ s.rdn e ENG.ENG_STAT_CLOCK

/-- The current issue cycle of engine `e`: by the clock, or later where dispatches have already taken the
cycles that follow (log 14). -/
def State.issueCycle (s : State) (e : Nat) : Nat := max (s.mono / s.issuePeriod e) (s.eng e).lastIssue

/-! ### Engine flags (R257, R273) -/

/-- The flag changes of EVENTs dispatched at least four issue cycles ago reach FLAGS. -/
def State.settleFlags (s : State) (e : Nat) (cycle : Nat) : State :=
  let q := (s.eng e).flagq
  let s1 := (q.filter (fun x => decide (x.1 ≤ cycle))).foldl (fun (t : State) (x : Nat × Bool × Nat) =>
    t.wrn e ENG.FLAGS_FLAG (if x.2.1 then setBit (t.rdn e ENG.FLAGS_FLAG) x.2.2 else clrBit (t.rdn e ENG.FLAGS_FLAG) x.2.2)) s
  if q = [] then s else s1.updEng e (fun g => { g with flagq := q.filter (fun x => decide (cycle < x.1)) })

/-- The engine flags now, with every change that has come due (R248, R257). -/
def State.flagsNow (s : State) (e : Nat) : Nat := (s.settleFlags e (s.issueCycle e)).rdn e ENG.FLAGS_FLAG

/-- Engine flag `k` as JMP and WAIT see it in an issue cycle. -/
def State.flagSeen (s : State) (e k : Nat) : Bool := bitOf (s.flagsNow e) k

/-! ### Deferral (R232, R429, R431) -/

/-- The deferral level of a cluster (R431). -/
def State.deferLevel (s : State) (cl : Nat) : Nat :=
  if cl = 0 then s.rd CLOCKS.CLUS_STAT_DEFER_A else s.rd CLOCKS.CLUS_STAT_DEFER_B

/-- The tolerance of a context class in ns, as in force; class C0 has none (R429). -/
def State.ctxTol (s : State) (cls : Nat) : Nat := if cls = 0 then 0 else 100 * s.bud.tols.getD (cls - 1) 0

/-- A class is covered at a deferral level: 1 C3, 2 C3 and C2, 3 C1 to C3 (R430, R431). -/
def covered (level cls : Nat) : Bool := cls ≠ 0 && decide (4 ≤ cls + level)

/-- A context has become ready: at a deferral level that covers its class it becomes deferred, unless its
tolerance is 0 or its last deferral ran out (R429, R431, R232). -/
def State.becomeReady (s : State) (e c : Nat) : State :=
  let cls := s.ctxClass e c
  let x := s.ctx e c
  if x.ready && !x.spent && covered (s.deferLevel (clusterOf e)) cls && s.ctxTol cls ≠ 0 then
    (s.updCtx e c (fun x => { x with deferred := true, deferAt := s.fab })).satn e ENG.DEFER_CNT_COUNT
  else s

/-- A deferral ends; `ranOut` says that its tolerance did (R232, R431, source 21). -/
def State.endDeferral (s : State) (e c : Nat) (ranOut : Bool) : State :=
  let x := s.ctx e c
  if x.deferred then
    (s.updCtx e c (fun x => { x with deferred := false, spent := ranOut })).offer 21 (some (32 * e + c))
      ((s.fab - x.deferAt) / 2 ^ 48 : Nat)
  else if ranOut then s
  else if x.spent then s.updCtx e c (fun x => { x with spent := false })
  else s

end Sys2Proof.Machine
end

