-- ==== Sys2Proof/Machine/CheckOps.lean ====
section
/-! DEFINITION. The check units: the running value, seeds, snooping, check values, verdicts (R271, R289-R294,
R298). -/

namespace Sys2Proof.Machine

/-- W of a profile: a WIDTH of 0 means 32 (R297). -/
def Prof.w (p : Prof) : Nat := if p.width = 0 then 32 else p.width

/-- The running value takes one bit (R289). -/
def Prof.step (p : Prof) (v : Nat) (b : Bool) : Nat :=
  let fb := b != bitOf v (p.w - 1)
  let v1 := 2 * v % 2 ^ p.w
  if fb then v1 ^^^ (p.poly % 2 ^ p.w) else v1

/-- The running value takes bits in order. -/
def Prof.fold (p : Prof) (v : Nat) (bs : List Bool) : Nat := bs.foldl p.step (v % 2 ^ p.w)

/-- The low `n` bits of a number, most significant first. -/
def msbBits (n v : Nat) : List Bool := ((List.range n).reverse).map (bitOf v)

/-- The low `n` bits of a number, least significant first. -/
def lsbBits (n v : Nat) : List Bool := (List.range n).map (bitOf v)

/-- A profile of engine `e` in force (R298). -/
def State.profile (s : State) (e k : Nat) : Prof := Tbl.get {} (s.eng e).profs k

/-- CTX_PROF of a context (R297). -/
def State.ctxProf (s : State) (e c : Nat) : Nat :=
  if c < 16 then s.rdn e CHK.CTX_PROF0_PROF c else s.rdn e CHK.CTX_PROF1_PROF (c - 16)

/-- The number of the profile a context uses: the one its last seed latched, or CTX_PROF's (R298). -/
def State.profNo (s : State) (e c : Nat) : Nat := ((s.ctx e c).chk.prof).getD (s.ctxProf e c)

/-- The profile a context uses. -/
def State.prof (s : State) (e c : Nat) : Prof := s.profile e (s.profNo e c)

/-- Bits that pass on a stream are snooped in the direction the check unit follows, unless paused (R290). -/
def CheckCtx.snoop (k : CheckCtx) (p : Prof) (input : Bool) (bs : List Bool) : CheckCtx :=
  if k.dirIn = input && !k.paused then { k with run := p.fold k.run bs } else k

/-- The check value as W bits, the coefficient of x^(W-1) first on the line (R292). -/
def CheckCtx.value (k : CheckCtx) (p : Prof) : List Bool := msbBits p.w ((k.run ^^^ p.xorout) % 2 ^ p.w)

/-- The running value equals RESIDUE (R293). -/
def CheckCtx.pass (k : CheckCtx) (p : Prof) : Bool := k.run % 2 ^ p.w = p.residue % 2 ^ p.w

/-- The endpoint id and sequence number a seed folds (R291). For the output stream they are those of the
packet that holds the TX FIFO entry at R, else of the next stored frame; with neither, of a packet still to
come, they are not known: a drawn value (log 15). -/
def State.seedSource (s : State) (e c : Nat) (input : Bool) : (Nat × Nat) × State :=
  let x := s.ctx e c
  if input then ((s.ctxEndpoint e c, x.chk.rxseq), s)
  else if x.tx.words ≠ 0 then (((x.tx.ent x.tx.r).dest, (x.tx.ent x.tx.r).seq), s)
  else match x.store with
    | p :: _ => ((p.req.dest, p.req.seq), s)
    | [] =>
      let d := s.draw
      let d2 := d.2.draw
      ((d.1 % 2 ^ 25, d2.1 % 2 ^ 16), d2.2)

/-- The bits a seed folds after INIT (R291). -/
def Prof.seedBits (p : Prof) (ep seq : Nat) : List Bool :=
  match p.src with
  | 1 => msbBits 25 ep
  | 2 => msbBits 25 ep ++ msbBits 16 seq
  | _ => []

/-- SEED: INIT and the configured bits, the direction, the profile latched (R271, R291, R298). -/
def State.seed (s : State) (e c : Nat) (input : Bool) : State :=
  let no := s.ctxProf e c
  let p := s.profile e no
  let d := if p.src = 0 then ((0, 0), s) else s.seedSource e c input
  d.2.updCtx e c (fun x => { x with chk := { x.chk with
    run := p.fold p.init (p.seedBits d.1.1 d.1.2), dirIn := input, seeded := true, prof := some no } })

/-- SEEDX: the running value is loaded from X (R271, R291). -/
def State.seedX (s : State) (e c : Nat) (input : Bool) : State :=
  let no := s.ctxProf e c
  s.updCtx e c (fun x => { x with chk := { x.chk with
    run := x.x.toNat % 2 ^ (s.profile e no).w, dirIn := input, seeded := true, prof := some no } })

/-- The verdict word of a PUSH with END, RXSEQ advanced and the verdict counted (R293, R299). -/
def State.verdict (s : State) (e c : Nat) : Nat × State :=
  let k := (s.ctx e c).chk
  let p := s.prof e c
  let seq := if p.src < 2 then 0 else k.rxseq
  let w := (if k.pass p then 2 ^ 31 else 0) + s.profNo e c * 2 ^ 29 + seq
  let s1 := s.updCtx e c (fun x => { x with chk := { x.chk with rxseq := (x.chk.rxseq + 1) % 65536 } })
  if k.pass p then (w, s1.incn e CHK.PASS_CNT_COUNT)
  else (w, (((((s1.satn e CHK.BAD_CNT_COUNT).wrn e CHK.BAD_LAST_VALID 1).wrn e CHK.BAD_LAST_CONTEXT c).wrn e
    CHK.BAD_LAST_SEQ seq).raise (0x30 + e) 0))

/-- The staged profile registers come into force at a boundary (R298). -/
def State.loadProfiles (s : State) (e : Nat) : State :=
  s.updEng e (fun g => { g with profs := (List.range 4).map (fun i => (i,
    { poly := s.rdn e CHK.POLY i, init := s.rdn e CHK.INIT i, xorout := s.rdn e CHK.XOR_XOROUT i,
      residue := s.rdn e CHK.RES_RESIDUE i, src := s.rdn e CHK.PCFG_SEED_SRC i, width := s.rdn e CHK.PCFG_WIDTH i })) })

end Sys2Proof.Machine
end

