-- ==== Sys2Proof/Machine/SwitchOps.lean ====
section
/-! DEFINITION. The switch core's operations: queues, cells, admission, arbitration, port down and fenced
outputs (R127-R149). -/

namespace Sys2Proof.Machine

/-- Queue `v` (R127). -/
def State.voq (s : State) (v : Nat) : Voq := Tbl.get {} s.voqs v

/-- Changes queue `v`. -/
def State.updVoq (s : State) (v : Nat) (f : Voq → Voq) : State := { s with voqs := Tbl.upd {} s.voqs v f }

/-- Switch output `p` (R20). -/
def State.out (s : State) (p : Nat) : OutPort := Tbl.get {} s.outs p

/-- Changes switch output `p`. -/
def State.updOut (s : State) (p : Nat) (f : OutPort → OutPort) : State := { s with outs := Tbl.upd {} s.outs p f }

/-- The output port a queue names. -/
def outOf (v : Nat) : Nat := v / 8 % 8

/-- The class of a queue. -/
def clsOf (v : Nat) : Nat := v % 8

/-- The queue of an input, an output and a class (R127). -/
def voqIdx (inp out cls : Nat) : Nat := 64 * inp + 8 * out + cls

/-- The 56 used queues of output `p`, in ascending index. -/
def queuesOf (p : Nat) : List Nat :=
  ((List.range 8).filter (fun i => i ≠ p)).flatMap (fun i => (List.range 8).map (voqIdx i p))

/-- The cells a frame occupies (R129). -/
def cellsOf (f : Frame) : Nat := (f.statedLen + 255) / 256

/-- Cell `c` of the ownership table. -/
def State.cell (s : State) (c : Nat) : CellEnt := Tbl.get {} s.buf.cells c

/-- Changes a cell's entry. -/
def State.updCell (s : State) (c : Nat) (f : CellEnt → CellEnt) : State :=
  { s with buf := { s.buf with cells := Tbl.upd {} s.buf.cells c f } }

/-- Bank `b` is fenced (R136). -/
def State.bankFenced (s : State) (b : Nat) : Bool := bitOf (s.rd BUFFER.BANK_STAT_FENCED) b

/-- The number of fenced banks. -/
def State.fencedBanks (s : State) : Nat := ((List.range 16).filter s.bankFenced).length

/-- The first free cell of bank `b`: the lowest on its free list. DESIGN CHOICE, log 11. -/
def State.freeIn (s : State) (b : Nat) : Option Nat :=
  ((List.range 1536).map (fun k => 1536 * b + k)).find? (fun c => !s.buf.offFree.contains c)

/-- The next bank in turn, from `b`, that has a free cell (R129). -/
def State.bankFrom (s : State) (b : Nat) : Option (Nat × Nat) :=
  ((List.range 16).map (fun k => (b + k) % 16)).findSome? (fun b => (s.freeIn b).map (fun c => (b, c)))

/-- Takes `n` cells off the free lists, each from the next bank in turn (R129). -/
def State.takeCells : Nat → State → List Nat × State
  | 0, s => ([], s)
  | n + 1, s =>
    match s.bankFrom s.buf.nextBank with
    | none => ([], s)
    | some (b, c) =>
      let r := State.takeCells n
        { s with buf := { s.buf with nextBank := (b + 1) % 16, offFree := insertNat s.buf.offFree c } }
      (c :: r.1, r.2)

/-- Writes the ownership entries of a frame's cells (R131). -/
def State.ownCells (s : State) (cs : List Nat) (st owner gen refs : Nat) : State :=
  (cs.zip (cs.drop 1 ++ [0x7FFF])).foldl
    (fun t e => t.updCell e.1 (fun _ => { st := st, owner := owner, gen := gen % 16, refs := refs, next := e.2 })) s

/-- Marks cells taken by an owner, keeping their chain and counts. -/
def State.markCells (s : State) (cs : List Nat) (st owner gen : Nat) : State :=
  cs.foldl (fun t c => t.updCell c (fun e => { e with st := st, owner := owner, gen := gen % 16 })) s

/-- Stores bytes in the buffer, each at its address in the canonical form (R129). -/
def memWrite (d : Byte) (m : List Host.Cell) (a : Nat) : List Nat → List Host.Cell
  | [] => m
  | b :: t => memWrite d (Tbl.set d m a (BitVec.ofNat 8 b)) (a + 1) t

/-- The `n` bytes of a memory from an address. -/
def memRead (d : Byte) (m : List Host.Cell) (a : Nat) : Nat → List Byte
  | 0 => []
  | n + 1 => Tbl.get d m a :: memRead d m (a + 1) n

/-- A frame's bytes go to its cells, 256 to a cell (R129). -/
def State.fillCells (s : State) (cs : List Nat) (bs : List Nat) : State :=
  match cs with
  | [] => s
  | c :: t => State.fillCells { s with bufMem := memWrite 0 s.bufMem (256 * c) (bs.take 256) } t (bs.drop 256)

/-- One reference to each cell ends: at zero the cell is FREE, or WITHDRAWN in a fenced bank; with one left
it belongs to the queue of the other copy, or to the output that reads it (R130, R131, R136). -/
def State.releaseCells (s : State) (v : Nat) (cs : List Nat) : State :=
  cs.foldl (fun t c =>
    let e := t.cell c
    if e.refs ≤ 1 then
      if t.bankFenced (c / 1536) then t.updCell c (fun _ => { st := 1, next := 0x7FFF })
      else { t.updCell c (fun _ => {}) with buf := { (t.updCell c (fun _ => {})).buf with offFree := deleteNat t.buf.offFree c } }
    else
      let w := if outOf v = 0 then v + 8 else v - 8
      let p := outOf w
      if (t.out p).grant = some w && (match (t.voq w).q with | k :: _ => k.cells.contains c | [] => false) then
        t.updCell c (fun e => { e with refs := 1, owner := p, gen := (t.out p).gen, st := 3 })
      else t.updCell c (fun e => { e with refs := 1, owner := w, gen := (t.voq w).gen, st := 2 })) s

/-- A copy's charge and cells are returned exactly as recorded (R132). -/
def State.releaseCopy (s : State) (v : Nat) (c : Copy) : State :=
  let s1 := s.updVoq v (fun q => { q with minUsed := q.minUsed - c.a })
  let s2 := s1.wr BUFFER.POOL_STAT_SHARED_USED (s1.rd BUFFER.POOL_STAT_SHARED_USED - c.s)
  let s3 := s2.wr BUFFER.CLASS_USED_CELLS (s2.rd BUFFER.CLASS_USED_CELLS (clsOf v) - c.s) (clsOf v)
  s3.releaseCells v c.cells

/-- A copy of queue `v` was discarded: counted by class and cause, recorded and raised (R150, R151). -/
def State.countDiscard (s : State) (v cause : Nat) : State :=
  let voq := cause = 1 || cause = 2 || cause = 6
  let s1 := if voq then s.sat SWITCH.VOQ_DISC_COUNT (clsOf v) else s.sat SWITCH.PDOWN_DISC_COUNT (clsOf v)
  let s2 := ((s1.wr SWITCH.DISC_LAST_VALID 1).wr SWITCH.DISC_LAST_CAUSE cause).wr SWITCH.DISC_LAST_VOQ v
  s2.raise 0x10 (if voq then 0 else 1)

/-- A discarded copy of a bridge request is noted for the bridge (R314). -/
def State.lostCopy (s : State) (c : Copy) : State :=
  if c.bridgeTag = 0 then s else { s with buf := { s.buf with lost := s.buf.lost ++ [c.bridgeTag] } }

/-- The head of `v` can be sent: accepted and eligible (R110, R128). -/
def Voq.ready (q : Voq) : Bool :=
  match q.q with
  | [] => false
  | c :: _ => c.accepted && c.eligible

/-- Output `p` is a ring output, or P2 in junction mode: one with hold windows (R145). -/
def State.holds (s : State) (p : Nat) : Bool := p ≤ 1 || (p = 2 && s.role = 2)

/-- The unit of output `p` is fenced, or P2 is down in a twin pair (R146). -/
def State.unitFenced (s : State) (p : Nat) : Bool :=
  bitOf (s.rdn 0x12 HDR.FLT_STAT_CHECKERS) p ||
  (match p with
   | 2 => s.fenced 0x0C || (s.role ≠ 2 && (s.out 2).down)
   | 3 => s.fenced 0x14
   | 7 => s.fenced 0x16
   | _ => false)

/-- Output `p` is fenced: its unit, or P3 has lost its host (R146, R325). -/
def State.outFenced (s : State) (p : Nat) : Bool := s.unitFenced p || (p = 3 && (!s.pcie.up || s.pcie.d3hot))

/-- Queue `v` belongs to a fenced output. The answers to the bridge's own requests, TC4 at P3, still pass while only the host
is gone: polling continues and accepted writes are carried to their answers (R303, R325, log 69). -/
def State.queueFenced (s : State) (v : Nat) : Bool :=
  if outOf v = 3 && clsOf v = 4 then s.unitFenced 3 else s.outFenced (outOf v)

/-- The output takes a new frame: not down, its unit not fenced, the switch core not fenced by software (R140, R148). -/
def State.outOpen (s : State) (p : Nat) : Bool :=
  !(s.out p).down && !s.unitFenced p && !s.fenced 0x10

/-- The bytes of a cluster's receive store in use (R242). -/
def State.storeBytes (s : State) (cl : Nat) : Nat :=
  s.ctxs.foldl (fun n x => if x.1 / 256 = cl then n + (x.2.store.map (·.size)).foldl (· + ·) 0 else n) 0

/-- The bytes of frames that wait in the inbox of an output's unit. -/
def State.inboxBytes (s : State) (p : Nat) : Nat :=
  s.inbox.foldl (fun n e => if e.1 = p then n + e.2.statedLen else n) 0

/-- The unit of the output has room for the head of queue `v`: at P4 and P5 the framer's 64 KiB receive store (R140,
R242). -/
def State.unitRoom (s : State) (v : Nat) : Bool :=
  let p := outOf v
  if p = 4 ∨ p = 5 then
    match (s.voq v).q with
    | c :: _ => decide (s.storeBytes (p - 4) + s.inboxBytes p + c.frame.statedLen ≤ 65536)
    | [] => true
  else true

/-- Brings the requester of queue `v` up to date: it requests while its head can be sent, does not hold the
grant already and its output can take the frame; its age and wait counter restart when it stops (R140, R143). -/
def State.touch (s : State) (v : Nat) : State :=
  if (s.voq v).ready && s.outOpen (outOf v) && s.unitRoom v && decide ((s.out (outOf v)).grant ≠ some v) then
    (if (s.voq v).since.isSome then s else s.updVoq v (fun q => { q with since := some s.cycle }))
  else s.updVoq v (fun q => { q with since := none, wait := 0 })

/-- Brings every requester of an output up to date. -/
def State.touchOut (s : State) (p : Nat) : State := (queuesOf p).foldl State.touch s

/-- Discards every copy of queue `v` with a cause; the emptied queue takes a new generation (R131). -/
def State.discardQueue (s : State) (cause v : Nat) : State :=
  let q := s.voq v
  if q.q = [] then s
  else
    let s1 := q.q.foldl (fun t c => ((t.releaseCopy v c).countDiscard v cause).lostCopy c) s
    (s1.updVoq v (fun q => { q with q := [], gen := (q.gen + 1) % 16, held := false })).touch v

/-- Ends the grant an output holds, without a release. -/
def State.dropGrant (s : State) (p : Nat) : State := s.updOut p (fun o => { o with grant := none })

/-- The head of queue `v` leaves by a discard: a grant for it ends, a ring output that was sending it ends it with a count-31
block, and the next head's age and wait counter start anew (R101, R142, R143). -/
def State.headGone (s : State) (v : Nat) : State :=
  let p := outOf v
  let s1 := s.updVoq v (fun q => { q with since := none, wait := 0 })
  if (s.out p).grant = some v then
    let s2 := s1.updOut p (fun o => { o with grant := none, since := o.prev })
    if p ≤ 1 && (Tbl.get {} s.tx p).cur = .queue v then
      (({ s2 with tx := Tbl.upd {} s2.tx p (fun t => { t with cur := .idle }) }).emit (.abandon p)).satn (2 * p) MAC.ABANDONED_COUNT
    else s2
  else s1

/-- One copy (by its place `k`) leaves queue `v` without being sent; a queue that this empties takes a new generation
(R131). -/
def State.removeAt (s : State) (v k : Nat) (c : Copy) : State :=
  let s0 := if k = 0 then s.headGone v else s
  (s0.updVoq v (fun q =>
    { q with q := q.q.eraseIdx k, gen := if q.q.length = 1 then (q.gen + 1) % 16 else q.gen })).releaseCopy v c

/-- Discards one copy (by its place `k` in queue `v`) with a cause. -/
def State.discardAt (s : State) (v k cause : Nat) : State :=
  match (s.voq v).q[k]? with
  | none => s
  | some c => (((s.removeAt v k c).countDiscard v cause).lostCopy c).touch v

/-- The cells of a frame that an output has ceased to read belong to a queue again: of two copies to that for P0, unless the
other output reads them (R131). -/
def State.requeueCells (s : State) (v : Nat) (cs : List Nat) : State :=
  let w := if outOf v = 0 then v + 8 else v - 8
  cs.foldl (fun (t : State) c =>
    if (t.cell c).refs < 2 then t.updCell c (fun e => { e with st := 2, owner := v, gen := (t.voq v).gen % 16 })
    else if (t.out (outOf w)).grant = some w && (match (t.voq w).q with | k :: _ => k.cells.contains c | [] => false) then
      t.updCell c (fun e => { e with st := 3, owner := outOf w, gen := (t.out (outOf w)).gen % 16 })
    else t.updCell c (fun e => { e with st := 2, owner := min v w, gen := (t.voq (min v w)).gen % 16 })) s

/-- An attempt that was not completed: the frame stays at the head of its queue, the grant ends and the reserved-grant
count does not advance for it (R104, R142). -/
def State.abandonGrant (s : State) (p : Nat) : State :=
  match (s.out p).grant with
  | none => s
  | some v =>
    let s1 := s.updOut p (fun o => { o with grant := none, since := o.prev })
    match (s.voq v).q with
    | [] => s1
    | c :: _ => (s1.requeueCells v c.cells).touch v

/-- The hold window length of a class in monotonic time (R145). -/
def State.holdLen (s : State) (c : Nat) : Nat := if c = 7 then 0 else s.rd SWITCH.HOLD_WINDOW c * us 100

/-- The discards that the state of output `p` calls for now: with cause 7 at a fenced unit, or at P2 down in a twin pair;
at a port that is down the classes without a running window, cause 4 where they were held and 3 where not (R145, R146). None
while software fences SWITCH: they come when the fence is removed (R148). -/
def State.settleOut (s : State) (p : Nat) : State :=
  if s.fenced 0x10 then s
  else if 2 ≤ p && s.outFenced p then ((queuesOf p).filter s.queueFenced).foldl (State.discardQueue · 7) s
  else if !(s.out p).down then s
  else if s.holds p then
    ((queuesOf p).filter (fun v => (Tbl.find (s.out p).hold (clsOf v)).isNone)).foldl
      (fun t v => (t.discardQueue (if (t.voq v).held then 4 else 3) v).updVoq v (fun q => { q with held := false })) s
  else (queuesOf p).foldl (State.discardQueue · 7) s

/-- The switch core learns that output `p` is down: hold windows start, the classes that are not held are
discarded with cause 3, PORT_STAT shows it (R145). P2 in a twin pair discards all with cause 7 (R146). -/
def State.portDown (s : State) (p : Nat) : State :=
  if (s.out p).down then s
  else
    let s0 := (s.abandonGrant p).updOut p (fun o => { o with down := true, gen := (o.gen + 1) % 16 })
    if s.holds p then
      let held := (List.range 8).filter (fun c => s.holdLen c ≠ 0)
      let s1 := s0.updOut p (fun o => { o with hold := held.map (fun c => (c, s.mono + s.holdLen c)) })
      let s2 := ((queuesOf p).filter (fun v => held.contains (clsOf v))).foldl
        (fun t v => t.updVoq v (fun q => { q with held := true })) s1
      ((s2.settleOut p).wr SWITCH.PORT_STAT_STATE (if held = [] then 1 else 2) p).touchOut p
    else
      ((s0.settleOut p).wr SWITCH.PORT_STAT_STATE 1 p).touchOut p

/-- The MAC of ring output `p` or its arbiter is fenced: the output acts as one whose port is down (R476). -/
def State.portFenced (s : State) (p : Nat) : Bool :=
  decide (p ≤ 1) && (s.fenced (9 + 2 * p) || bitOf (s.rdn (9 + 2 * p) HDR.FLT_STAT_CHECKERS) 0 ||
    bitOf (s.rdn 0x12 HDR.FLT_STAT_CHECKERS) p)

/-- The port of output `p` comes up: held frames are released in queue order (R145); not while the output is fenced. -/
def State.portUp (s : State) (p : Nat) : State :=
  if s.portFenced p then s
  else
    let held := (queuesOf p).filter (fun v => (s.voq v).held && (s.voq v).q ≠ [])
    let s1 := s.updOut p (fun o => { o with down := false, hold := [] })
    let s2 := (queuesOf p).foldl (fun t v => t.updVoq v (fun q => { q with held := false })) s1
    let s3 := (s2.wr SWITCH.PORT_STAT_STATE (if s2.outFenced p then 1 else 0) p).touchOut p
    if held = [] then s3 else s3.raise 0x10 2

/-- The unit of an output becomes fenced: its queued frames are discarded with cause 7; P0 and P1 act as a
port down (R146, R476). -/
def State.fenceOutput (s : State) (p : Nat) : State :=
  if p ≤ 1 then s.portDown p
  else
    let s1 := (s.abandonGrant p).updOut p (fun o => { o with gen := (o.gen + 1) % 16 })
    ((if s1.fenced 0x10 then s1 else ((queuesOf p).filter s1.queueFenced).foldl (State.discardQueue · 7) s1).wr
      SWITCH.PORT_STAT_STATE 1 p).touchOut p

/-- The fence of an output's unit is removed. -/
def State.unfenceOutput (s : State) (p : Nat) : State :=
  if s.outFenced p || (s.out p).down then s else (s.wr SWITCH.PORT_STAT_STATE 0 p).touchOut p

/-- A hold window has ended. A port that comes up in the core cycle in which it ends wins, so the window acts in the next
(R145). -/
def State.holdOver (s : State) (d : Nat) : Bool := decide (d + 64 ≤ s.mono)

/-- Why a new copy for queue `v` is refused before its charge is looked at (R145, R146, R148). -/
def State.refusedEarly (s : State) (v : Nat) : Option Nat :=
  let p := outOf v
  if s.fenceReq 0x10 then some 1
  else if 2 ≤ p && s.queueFenced v then some 7
  else if (s.out p).down then
    (if s.holds p then
      match Tbl.find (s.out p).hold (clsOf v) with
      | some d => if s.holdOver d then some 3 else none
      | none => some 3
     else some 7)
  else none

/-- The cells of the shared pool (R132). -/
def State.pool (s : State) : Nat := 24576 - 1536 * s.fencedBanks - s.rd BUFFER.MIN_SUM_SUM

/-- Admission of a copy of `n` cells to queue `v`: its split (a, s), or the cause of its discard (R132). -/
def State.admitCopy (s : State) (v n : Nat) : Except Nat (Nat × Nat) :=
  match s.refusedEarly v with
  | some c => .error c
  | none =>
    let a := min n (s.rd BUFFER.VOQ_MIN_MIN v - (s.voq v).minUsed)
    let sh := n - a
    if sh = 0 then .ok (a, 0)
    else if s.rd BUFFER.CEIL_CELLS (clsOf v) < s.rd BUFFER.CLASS_USED_CELLS (clsOf v) + sh then .error 2
    else if s.pool < s.rd BUFFER.POOL_STAT_SHARED_USED + sh then .error 1
    else .ok (a, sh)

/-- Charges an admitted copy to queue `v` (R132). -/
def State.charge (s : State) (v a sh : Nat) : State :=
  let s1 := s.updVoq v (fun q => { q with minUsed := q.minUsed + a })
  let s2 := s1.wr BUFFER.POOL_STAT_SHARED_USED (s1.rd BUFFER.POOL_STAT_SHARED_USED + sh)
  s2.wr BUFFER.CLASS_USED_CELLS (s2.rd BUFFER.CLASS_USED_CELLS (clsOf v) + sh) (clsOf v)

/-- Puts an admitted copy at the end of its queue; held if its output holds (R145). -/
def State.enqueue (s : State) (v : Nat) (c : Copy) : State :=
  (s.updVoq v (fun q => { q with q := q.q ++ [c], held := q.held || (s.out (outOf v)).down })).touch v

/-- The copies of one frame are judged in order in one core cycle (R134, R135): the queues that admit it
with their splits, each charged; a refused copy counts as a discard of its own queue. -/
def State.admitAll : List Nat → Nat → State → List (Nat × Nat × Nat) × State
  | [], _, s => ([], s)
  | v :: t, n, s =>
    match s.admitCopy v n with
    | .error c => State.admitAll t n (s.countDiscard v c)
    | .ok (a, sh) =>
      let r := State.admitAll t n (s.charge v a sh)
      ((v, a, sh) :: r.1, r.2)

/-- Stores an admitted frame once and queues a copy in each admitting queue (R130). -/
def State.storeCopies (s : State) (adm : List (Nat × Nat × Nat)) (f : Frame) (accepted : Bool)
    (launch : Option Nat) (tag : Nat) : State :=
  match adm with
  | [] => s
  | (v0, _, _) :: _ =>
    let r := s.takeCells (cellsOf f)
    let s1 := r.2.ownCells r.1 (if accepted then 2 else 3) (if accepted then v0 else v0 / 64)
      (if accepted then (s.voq v0).gen else (s.out (v0 / 64)).gen) adm.length
    let s2 := s1.fillCells r.1 f.bytes
    adm.foldl (fun t e => t.enqueue e.1
      { frame := f, cells := r.1, a := e.2.1, s := e.2.2, accepted := accepted, launchAt := launch,
        eligible := match launch with | some l => decide (l ≤ t.fab + fns 300) | none => true, bridgeTag := tag }) s2

/-! ### Arbitration (R140-R144) -/

/-- The waiting age of queue `v` in core cycles (R143). -/
def State.age (s : State) (v : Nat) : Nat :=
  match (s.voq v).since with
  | some c => s.cycle - c
  | none => 0

/-- The requester of greatest age, ties to the lowest index (R140). -/
def State.oldest (s : State) : List Nat → Option Nat
  | [] => none
  | v :: t =>
    match s.oldest t with
    | none => some v
    | some w => if s.age w ≤ s.age v then some v else some w

/-- The requester whose range of beans contains `r` (R140 rule 3). -/
def State.lottery (s : State) : List Nat → Nat → Option Nat
  | [], _ => none
  | v :: t, r =>
    if r < s.rd ARB.REQ_CFG_BEANS v then some v else s.lottery t (r - s.rd ARB.REQ_CFG_BEANS v)

/-- The shift register of output `p` (R141). -/
def State.lfsrOf (s : State) (p : Nat) : Nat := s.lfsr.getD p 0

/-- One advance of a shift register (R141). -/
def lfsrNext (l : Nat) : Nat :=
  (l * 2) % 2 ^ 32 + ((l / 2 ^ 31 + l / 2 ^ 30 + l / 2 ^ 29 + l / 2 ^ 9) % 2)

/-- The privileged set (R140). -/
def State.privileged (s : State) (v : Nat) : Bool := s.flag ARB.REQ_CFG_PRIV v

/-- RSV_EVERY of output `p`. -/
def State.rsvEvery (s : State) (p : Nat) : Nat :=
  if p < 4 then s.rd ARB.RSV_CFG0_RSV_EVERY p else s.rd ARB.RSV_CFG1_RSV_EVERY (p - 4)

/-- The winner among requesters and the rule it won by: 1 reserved, 2 forced, 3 lottery, 4 age (R140). -/
def State.winner (s : State) (p : Nat) (reqs : List Nat) : Option (Nat × Nat) :=
  let rsv := s.rsvEvery p
  let priv := reqs.filter s.privileged
  let forced := reqs.filter (fun v => !s.privileged v && decide (s.rd ARB.REQ_CFG_WAIT_LIM v ≤ (s.voq v).wait))
  if rsv ≠ 0 ∧ rsv ≤ (s.out p).since + 1 ∧ priv ≠ [] then (s.oldest priv).map (·, 1)
  else if forced ≠ [] then (s.oldest forced).map (·, 2)
  else
    let sum := (reqs.map (fun v => s.rd ARB.REQ_CFG_BEANS v)).foldl (· + ·) 0
    if 0 < sum then (s.lottery reqs ((s.lfsrOf p / 2 ^ 16 * sum) / 2 ^ 16)).map (·, 3)
    else (s.oldest reqs).map (·, 4)

/-- At a ring output the head of queue `v` is a later frame of the stream of a frame, abandoned or not, that can be sent and
waits at the head of another queue: it is not sent before that one (R107, log 56). -/
def State.heldBack (s : State) (p v : Nat) : Bool :=
  decide (p ≤ 1) &&
  match (s.voq v).q with
  | [] => false
  | b :: _ => (queuesOf p).any (fun w => w ≠ v && clsOf v = clsOf w && (s.voq w).ready &&
      (match (s.voq w).q with
       | a :: _ => nodeOf a.frame.src = nodeOf b.frame.src &&
          (let d := (b.frame.seq + 65536 - a.frame.seq) % 65536
           decide (1 ≤ d) && decide (d < 32768))
       | [] => false))

/-- The queues of output `p` that request, of the classes in the offered rank (R107, R140). -/
def State.requesters (s : State) (p : Nat) (classes : List Nat) : List Nat :=
  (queuesOf p).filter (fun v => (s.voq v).since.isSome && classes.contains (clsOf v) && !s.heldBack p v)

/-- At a ring output the queues outside the offered rank do not request: their ages and wait counters restart
(R140, R143; log 56). -/
def State.outsideRank (s : State) (p : Nat) (classes : List Nat) : State :=
  if 1 < p then s
  else ((queuesOf p).filter (fun v => (s.voq v).since.isSome && !classes.contains (clsOf v))).foldl
    (fun t v => t.updVoq v (fun q => { q with since := some s.cycle, wait := 0 })) s

/-- One arbitration at output `p` among the classes offered: the grant, its counts, the losers' wait
counters (R140-R143). -/
def State.arbitrate (s : State) (p : Nat) (classes : List Nat) : State :=
  let reqs := s.requesters p classes
  match s.winner p reqs with
  | none => s
  | some (v, rule) =>
    let s1 := (reqs.filter (fun w => w ≠ v && !s.privileged w)).foldl
      (fun t w => t.updVoq w (fun q => { q with wait := min (q.wait + 1) (max q.wait (s.rd ARB.REQ_CFG_WAIT_LIM w)) }))
      (s.outsideRank p classes)
    let s2 := s1.updVoq v (fun q => { q with since := none, wait := 0 })
    let s3 := s2.updOut p (fun o =>
      { o with grant := some v, prev := o.since, since := if rule = 1 then 0 else o.since + 1 })
    let s4 := s3.inc ARB.GRANT_CNT_COUNT p
    let s5 := if rule = 2 then s4.inc ARB.FORCED_CNT_COUNT p
      else if rule = 1 then s4.inc ARB.RESERVED_CNT_COUNT p else s4
    match (s.voq v).q with
    | [] => s5
    | c :: _ => s5.markCells c.cells 3 p (s.out p).gen


/-- The granted frame of output `p` has been passed on in full: it leaves its queue and its cells are
released (R130, R142). Answers the copy. -/
def State.popGranted (s : State) (p : Nat) : Option (Nat × Copy) × State :=
  match (s.out p).grant with
  | none => (none, s)
  | some v =>
    match (s.voq v).q with
    | [] => (none, s.dropGrant p)
    | c :: t =>
      let s1 := (s.updVoq v (fun q => { q with q := t })).updOut p (fun o => { o with grant := none })
      (some (v, c), (s1.releaseCopy v c).touch v)

end Sys2Proof.Machine
end

