-- ==== Sys2Proof/Machine/LinkOps.lean ====
section
/-! DEFINITION. Links going up and down, the reference and the acting master, the peer lost: the operations
that several chapters' commands share (R56-R75, R177). -/

namespace Sys2Proof.Machine

/-- Timer numbers of this chapter: training or hold-off of a link, its 1 ms window, beacons, ballots. -/
def tPhy (l : Link) : Nat := l.code
def tUnc (l : Link) : Nat := 10 + l.code
def tQual (l : Link) : Nat := 15 + l.code
def tBeacon : Nat := 20
def tBeaconTmo : Nat := 21
def tBallot : Nat := 22
def tJoin (d : Side) : Nat := 24 + d.code
def tRelay : Nat := 28
def tHeartbeat : Nat := 30

def tAlone : Nat := 32
def tPeerRelay : Nat := 33
def tDomOff : Nat := 34

/-- Does a periodic event: it acts when its timer is not running or has ended, and starts it again. -/
def State.every (s : State) (t d : Nat) (k : State → State) : State :=
  if s.running t && !s.due t then s else (k s).start t d

/-- Does what a timer's end does, once it has ended; before that nothing (log 4). -/
def State.whenDue (s : State) (t : Nat) (k : State → State) : State :=
  if s.due t then k (s.stop t) else s

/-- The PHY behind link `l`. -/
def State.phyOf (s : State) (l : Link) : Phy := Tbl.get {} s.phy l.code

/-- Changes the PHY behind link `l`. -/
def State.updPhy (s : State) (l : Link) (f : Phy → Phy) : State := { s with phy := Tbl.upd {} s.phy l.code f }

/-- The lane unit of a direction. -/
def State.lane (s : State) (d : Side) : LaneDir := Tbl.get {} s.lanes d.code

/-- Changes the lane unit of a direction. -/
def State.updLane (s : State) (d : Side) (f : LaneDir → LaneDir) : State :=
  { s with lanes := Tbl.upd {} s.lanes d.code f }

/-- The page of a link's PHY registers. -/
def phyPage : Link → Nat
  | .ring d => 8 + d.n
  | .twin => 0x0C

/-- PHY_STAT.STATE or LINK_STAT.STATE: 0 off, 1-7 bring-up step, 8 up, 9 hold-off (R82, R185). -/
def State.linkState (s : State) : Link → Nat
  | .ring d => s.rdn d.n PHY.PHY_STAT_STATE
  | .twin => s.rd TWINLINK.LINK_STAT_STATE

/-- Sets the link's STATE. -/
def State.setLinkState (s : State) (l : Link) (v : Nat) : State :=
  match l with
  | .ring d => s.wrn d.n PHY.PHY_STAT_STATE v
  | .twin => s.wr TWINLINK.LINK_STAT_STATE v

/-- Sets the link's DOWN_CAUSE. -/
def State.setDownCause (s : State) (l : Link) (v : Nat) : State :=
  match l with
  | .ring d => s.wrn d.n PHY.PHY_STAT_DOWN_CAUSE v
  | .twin => s.wr TWINLINK.LINK_STAT_DOWN_CAUSE v

/-- Sets the link's SYNTONISED. -/
def State.setSynt (s : State) (l : Link) (v : Nat) : State :=
  match l with
  | .ring d => s.wrn d.n PHY.PHY_STAT_SYNTONISED v
  | .twin => s.wr TWINLINK.LINK_STAT_SYNTONISED v

/-- AUTO_TRAIN of the link. -/
def State.autoTrain (s : State) : Link → Bool
  | .ring d => s.flagn d.n PHY.PHY_CTRL_AUTO_TRAIN
  | .twin => s.flag TWINLINK.LINK_CTRL_AUTO_TRAIN

/-- RETRAIN reads 1 until step 1 begins (R82). -/
def State.setRetrain (s : State) (l : Link) (v : Nat) : State :=
  match l with
  | .ring d => s.wrn d.n PHY.PHY_CTRL_RETRAIN v
  | .twin => s.wr TWINLINK.LINK_CTRL_RETRAIN v

/-- HOLDOFF in monotonic time: units of 100 µs (R75). -/
def State.holdoff (s : State) : Link → Nat
  | .ring d => s.rdn d.n PHY.PHY_DOWN_CFG_HOLDOFF * us 100
  | .twin => s.rd TWINLINK.DOWN_CFG_HOLDOFF * us 100

/-- UNC_LIMIT of the link (R74). -/
def State.uncLimit (s : State) : Link → Nat
  | .ring d => s.rdn d.n PHY.PHY_DOWN_CFG_UNC_LIMIT
  | .twin => s.rd TWINLINK.DOWN_CFG_UNC_LIMIT

/-- The link may be brought up: its domain is on, its block enabled, the ring ports enabled after the relay
wait (R118), and for the twin link the hub is a twin or a junction (R15, R73, R157). -/
def State.linkAllowed (s : State) (l : Link) : Bool :=
  s.pageOn (phyPage l) && s.enabled (phyPage l) &&
  (match l with | .twin => s.role = 1 || s.role = 2 | .ring _ => s.byp.ports)

/-- A ring input. -/
def State.rxOf (s : State) (d : Side) : RxPort := Tbl.get {} s.rx d.code

/-- Changes a ring input. -/
def State.updRx (s : State) (d : Side) (f : RxPort → RxPort) : State := { s with rx := Tbl.upd {} s.rx d.code f }

/-- A ring output. -/
def State.txOf (s : State) (d : Side) : TxPort := Tbl.get {} s.tx d.code

/-- Changes a ring output. -/
def State.updTx (s : State) (d : Side) (f : TxPort → TxPort) : State := { s with tx := Tbl.upd {} s.tx d.code f }

/-- The newest frame of a transit buffer is to end with a count-31 block (R101). -/
def TxPort.cutLast (t : TxPort) (how : Nat) : TxPort :=
  { t with tbuf := match t.tbuf.getLast? with
      | some e => t.tbuf.dropLast ++ [(e.1, how)]
      | none => [] }

/-- The lanes in use in the direction a ring output sends (R76); one on the twin link (R156). -/
def State.laneMode (s : State) : Link → Nat
  | .ring d => s.rdn d.n MAC.LANE_STAT_MODE
  | .twin => 1

/-! ### Codeword counters (R83, R185) -/

/-- When the codeword counters of a lane began to run; none while it receives no codewords. -/
def State.cwRun (s : State) (l : Link) (lane : Nat) : Option Nat := if lane = 0 then (s.phyOf l).cw0 else (s.phyOf l).cw1

/-- Codewords a lane has received: one every 25.6 ns while it runs; the count saturates (R70, R83). -/
def State.cwShown (s : State) (l : Link) (lane : Nat) : Nat :=
  let kept := match l with
    | .ring d => s.rdn d.n PHY.CW_COUNT lane
    | .twin => s.rd TWINLINK.CW_COUNT
  match s.cwRun l lane with
  | none => kept
  | some a => min (2 ^ 64 - 1) (kept + (s.mono - a) * 5 / 8192)

/-- Symbols corrected in `n` codewords of a lane from codeword `k` on, at most 7 in each (R69, R83); how many the channel
damages is a free value of the codeword (log 61). -/
def corrected (lane k : Nat) : Nat → Nat
  | 0 => 0
  | n + 1 => corrected lane k n + Config.corrSymbols lane (k + n) % 8

/-- The number of the codeword of 25.6 ns at a monotonic time. -/
def codewordAt (t : Nat) : Nat := t * 5 / 8192

/-- Symbols a lane has corrected (R83). -/
def State.corrShown (s : State) (l : Link) (lane : Nat) : Nat :=
  let kept := match l with
    | .ring d => s.rdn d.n PHY.CORR_COUNT lane
    | .twin => s.rd TWINLINK.CORR_COUNT
  match s.cwRun l lane with
  | none => kept
  | some a => min (2 ^ 64 - 1) (kept + corrected (2 * l.code + lane) (codewordAt a) (codewordAt s.mono - codewordAt a))

/-- Idle blocks the junction link dropped or repeated (R157, R185): a free value (log 61). -/
def State.slipShown (s : State) : Nat :=
  match s.cwRun .twin 0 with
  | none => s.rd TWINLINK.SLIP_COUNT
  | some a => if s.role ≠ 2 || a = s.mono then s.rd TWINLINK.SLIP_COUNT
    else min (2 ^ 64 - 1) (s.rd TWINLINK.SLIP_COUNT + Config.slips a s.mono)

/-- The counters of a lane run from now on. -/
def State.cwFrom (s : State) (l : Link) (lane : Nat) : State :=
  s.updPhy l (fun p => if lane = 0 then { p with cw0 := some s.mono } else { p with cw1 := some s.mono })

/-- The counters of a lane stop and keep what they show. -/
def State.cwStop (s : State) (l : Link) (lane : Nat) : State :=
  match s.cwRun l lane with
  | none => s
  | some _ =>
    let s1 := match l with
      | .ring d => (s.wrn d.n PHY.CW_COUNT (s.cwShown l lane) lane).wrn d.n PHY.CORR_COUNT (s.corrShown l lane) lane
      | .twin => ((s.wr TWINLINK.CW_COUNT (s.cwShown l lane)).wr TWINLINK.CORR_COUNT (s.corrShown l lane)).wr
          TWINLINK.SLIP_COUNT s.slipShown
    s1.updPhy l (fun p => if lane = 0 then { p with cw0 := none } else { p with cw1 := none })

/-- CNT_CLR: a lane that runs counts from now on. -/
def State.cwAgain (s : State) (l : Link) : State :=
  s.updPhy l (fun p => { p with cw0 := p.cw0.map (fun _ => s.mono), cw1 := p.cw1.map (fun _ => s.mono) })

/-- Shows the lanes in use, transmit and receive, of a ring port; the receive side follows the opposite
direction's mode (R76, R82). -/
def State.showLanes (s : State) (d : Side) (up : Bool) : State :=
  if up then
    (s.wrn d.n PHY.PHY_STAT_TX_LANES (s.laneMode (.ring d))).wrn d.n PHY.PHY_STAT_RX_LANES (s.laneMode (.ring d.opp))
  else (s.wrn d.n PHY.PHY_STAT_TX_LANES 0).wrn d.n PHY.PHY_STAT_RX_LANES 0

/-- This hub is one of a twin pair. -/
def State.isTwin (s : State) : Bool := s.role = 1

/-- The twin's ROLE: 0 NONE, 1 ACTIVE, 2 STANDBY, 3 ALONE (R187). -/
def State.twinRole (s : State) : Nat := s.rd TWIN.STAT_ROLE

/-- The shed wish of this hub alone: forced by POLICY, by a lane fault, or the budget's (R77, R80, R85). -/
def State.ownWish (s : State) (d : Side) : Bool :=
  match s.rdn d.n MAC.LANE_CTRL_POLICY with
  | 1 => false
  | 2 => true
  | _ => s.flagn d.n MAC.LANE_STAT_FAULT_WISH ||
      (match d with | .east => s.flag POWER.LEVERS_WISH_E | .west => s.flag POWER.LEVERS_WISH_W)

/-- The transit path forwards on this output: always, or in a twin pair only on an output this twin drives
(R159). -/
def State.forwards (s : State) (d : Side) : Bool := !s.isTwin || bitOf (s.rd TWIN.STAT_DRIVES) d.code

/-- The receive stamp of a TC1 frame: the ball stamp less the port's ASYM (R195). Copy 0 of ASYM, MPD and SEG_DELAY
is the west port. -/
def State.rxStamp (s : State) (d : Side) (ball : Nat) : Nat :=
  ((ball : Int) - toSigned 32 (s.rd TIME.ASYM (1 - d.code))).toNat

/-! ### Transmit slots and TC7 frames (R91, R100, R102, R103) -/

/-- Blocks of a codeword group of an output: 20 in two-lane mode, 10 in one-lane mode (R91, R100). -/
def State.groupBlocks (s : State) (d : Side) : Nat := if s.laneMode (.ring d) = 2 then 20 else 10

/-- The block period of an output in 1/1600 ns: 1.28 ns or 2.56 ns, so that a group lasts 25.6 ns (R70, R100). -/
def State.blockPeriod (s : State) (d : Side) : Nat := if s.laneMode (.ring d) = 2 then 2048 else 4096

/-- The time since link-up in 1/1600 ns: the transmit codeword phase is set there (R100). -/
def State.sinceUp (s : State) (d : Side) : Nat := 25 * (s.mono - (s.phyOf (.ring d)).upAt.getD 0)

/-- The number of the next transmit block slot of an output. -/
def State.nextSlot (s : State) (d : Side) : Nat := (s.sinceUp d + s.blockPeriod d - 1) / s.blockPeriod d

/-- The next slot is the last block of a codeword group, where no frame starts (R91). -/
def State.lastOfGroup (s : State) (d : Side) : Bool := s.nextSlot d % s.groupBlocks d = s.groupBlocks d - 1

/-- The slot in which a frame that is ready now starts: the next one, or the one after the last block of a group (R91). -/
def State.startSlot (s : State) (d : Side) : Nat := s.nextSlot d + bit (s.lastOfGroup d)

/-- The fabric time of the slot in which a frame that is ready now starts (R102). -/
def State.slotFab (s : State) (d : Side) : Nat :=
  s.fab + (s.startSlot d * s.blockPeriod d - s.sinceUp d) * 2 ^ 48 / 1600

/-- Before a frame that meets the last block of a group, the transmitter sends an idle block there (R91). -/
def State.fillSlot (s : State) (d : Side) : State := if s.lastOfGroup d then s.emit (.maint d.code .idle) else s

/-- The fabric time of that slot in units of 2^-16 ns, to the nearest (R102, R198). -/
def State.slot16 (s : State) (d : Side) : Nat := (s.slotFab d + 2 ^ 31) / 2 ^ 32

/-- A time message with `t` added to its correctionField, bytes 8 to 15. -/
def addCorrection (msg : List Nat) (t : Nat) : List Nat :=
  msg.take 8 ++ beBytes 8 ((ofBe ((msg.drop 8).take 8) + t) % 2 ^ 64) ++ msg.drop 16

/-- A TC7 frame leaves in the next slot. A Pdelay_Req leaves its transmit stamp in the time unit with its sequenceId; in a
Pdelay_Resp, which waits with its request's receive stamp subtracted, the slot's time completes the turnaround time (R203). -/
def State.emitMaint (s : State) (d : Side) (m : Maint) : State :=
  let s1 := s.fillSlot d
  match m with
  | .pdelayReq msg =>
    { s1.emit (.maint d.code m) with time := { s1.time with
      pdelay := Tbl.put s1.time.pdelay d.code (ofBe ((msg.drop 30).take 2), s.slot16 d) } }
  | .pdelayResp msg => s1.emit (.maint d.code (.pdelayResp (addCorrection msg (s.slot16 d))))
  | _ => s1.emit (.maint d.code m)

/-- A TC7 frame goes out on an output that is up and that this hub drives (R159): at once while the output sends nothing,
otherwise it waits for rank 2 of R103. -/
def State.sendMaint (s : State) (d : Side) (m : Maint) : State :=
  if !s.forwards d || s.linkState (.ring d) ≠ 8 then s
  else if (s.txOf d).cur = .idle && (s.txOf d).maint = [] then s.emitMaint d m
  else s.updTx d (fun t => { t with maint := t.maint ++ [m] })

/-- TWIN.POUR_CFG.ENG_MASK includes engine `e` (R169). -/
def State.included (s : State) (e : Nat) : Bool := bitOf (s.rd TWIN.POUR_CFG_ENG_MASK) e

/-- Context `c` of engine `e` is in step (R174). -/
def State.inStep (s : State) (e c : Nat) : Bool := bitOf (Tbl.get 0 s.twin.step e) c

/-- A standby's framer sends no frame from an included context that is out of step (R174). -/
def State.muted (s : State) (e c : Nat) : Bool := s.isTwin && s.twinRole = 2 && s.included e && !s.inStep e c

/-- Drivers are enabled only while OWN_OUT is asserted and OWN_IN deasserted (R166). -/
def State.showDrivers (s : State) : State := s.wr TWIN.STAT_DRIVERS (bit (s.flag TWIN.STAT_OWN_OUT && !s.flag TWIN.STAT_OWN_IN))

/-- OWN_OUT changes; with OWN_IN asserted too the 100 ns of R168 begin. -/
def State.setOwnOut (s : State) (b : Bool) : State :=
  let s1 := (s.wr TWIN.STAT_OWN_OUT (bit b)).showDrivers
  { s1 with twin := { s1.twin with bothAt := if b && s1.flag TWIN.STAT_OWN_IN then some s1.mono else none } }

/-- A snapshot that is not complete is discarded and counted, once for its cycle number (R173). -/
def State.dropPartial (s : State) : State :=
  match s.twin.store with
  | none => s
  | some (n, _, _) => (({ s with twin := { s.twin with store := none, bad := some n } }).sat TWIN.SNAP_PARTIAL_COUNT).raise 0x0D 5

/-- The peer becomes lost with a cause (R177): an active twin is then ALONE (R180). A heartbeat that reports SAFE has
been seen all the same (R187). -/
def State.peerLost (s : State) (cause : Nat) : State :=
  if s.isTwin && !s.twin.lost then
    let s1 := { s with twin := { s.twin with lost := true, cause := cause } }
    let s2 := (if cause = 3 then s1.dropPartial else s1.dropPartial.wr TWIN.STAT_PEER_SEEN 0).raise 0x0D 2
    if s2.twinRole = 1 then s2.wr TWIN.STAT_ROLE 3 else s2
  else s

/-- Frames of an output's transit buffer are discarded and counted (R106), TC7 frames that wait with them. -/
def State.dropTbuf (s : State) (d : Side) : State :=
  (s.satn d.n MAC.TBUF_DROP_COUNT 0 (s.txOf d).tbuf.length).updTx d (fun t => { t with tbuf := [], maint := [], cur := .idle })

/-- The hub is acting master (R56). -/
def State.acting (s : State) : Bool := s.flag CLOCKS.REF_STAT_ACTING_MASTER

/-- The spread of the reference this hub works with, depth and rate: its own setting while acting master, otherwise that of
its source, which holdover continues (R60, R61). -/
def State.spread (s : State) : Option (Nat × Nat) :=
  if s.acting then
    (if s.flag CLOCKS.REF_CFG_SSC_EN then some (s.rd CLOCKS.REF_CFG_SSC_DEPTH, s.rd CLOCKS.REF_CFG_SSC_RATE) else none)
  else s.ref.carried

/-- The modulation period of a rate code in 1/64 ns: 30, 31.5 or 33 kHz (R60). -/
def spreadPeriod (rate : Nat) : Nat := if rate = 0 then 2133333 else if rate = 1 then 2031746 else 1939394

/-- The down-spread in ppm at monotonic time `t` of a triangular profile of `depth` × 0.1 % (R60, R61): its phase runs on
from where it began. -/
def State.spreadPpm (s : State) (t : Nat) : Nat :=
  match s.spread with
  | none => 0
  | some (depth, rate) =>
    let n := spreadPeriod rate
    let x := (t - s.ref.origin) % n
    1000 * depth * (if 2 * x ≤ n then 2 * x else 2 * (n - x)) / n

/-- What REF_OFFSET shows (R61, R81): 0 for the crystal itself, the held offset in holdover, otherwise the measurement of the
last whole millisecond, a free value (log 42). -/
def State.refOffset (s : State) : Nat :=
  match s.rd CLOCKS.REF_STAT_SOURCE with
  | 3 => 0
  | 2 => s.ref.held
  | _ => Config.refOffset (s.mono / ms 1)

/-- What the hub keeps of a source that it loses: its frequency, its spread and the phase of its modulation (R61). -/
def State.holdSource (s : State) : State :=
  { s with ref := { s.ref with held := s.refOffset % 2 ^ 32, carried := s.spread } }

/-- An event of the reference, shown on RINGW_PHY while its domain is on (R84). -/
def State.raiseRef (s : State) (b : Nat) : State := if s.pageOn 0x0A then s.raise 0x0A b else s

/-- The hub that followed a source that is gone enters holdover (R57, R61, R84). -/
def State.loseSource (s : State) : State :=
  (((s.holdSource.wr CLOCKS.REF_STAT_SOURCE 2).wr CLOCKS.REF_STAT_LOCKED 0).raiseRef 5).raiseRef 6

/-- A mode request is refused with a cause (R448). -/
def State.refuseReq (s : State) (cause : Nat) : State := (s.wr DEVICE.MODE_STAT_REFUSE_CAUSE cause).raise 0 1

/-- The accepted mode request is over. -/
def State.endReq (s : State) : State :=
  let s1 := { s with modeU := { s.modeU with want := none, loaded := false } }
  (({ s1 with twin := { s1.twin with req := false, nextRole := 0 } }).wr DEVICE.MODE_STAT_PENDING 0).stop tAlone

/-- A request still in progress loses to something of higher order and is refused (R447). -/
def State.loseReq (s : State) (cause : Nat) : State :=
  if s.modeU.want = none then s else (s.endReq.wr DEVICE.MODE_STAT_LOADING 0).refuseReq cause

/-- A link goes down from any step: hold-off starts; from up, LINK_DOWN is raised, remote fault blocks are
sent, the switch core is told, the east lanes are lost as a source of the reference, and on the twin link the peer
is lost (R57, R74, R106, R145, R177). -/
def State.linkDown (s : State) (l : Link) (cause : Nat) : State :=
  let wasUp := s.linkState l = 8
  let s1 := ((((s.cwStop l 0).cwStop l 1).setLinkState l 9).setDownCause l cause).setSynt l 0
  let s2 := (s1.updPhy l (fun p =>
    { p with run0 := 0, run1 := 0, winCnt := 0, qualified := false, farReady := false, upAt := none })).start (tPhy l) (s1.holdoff l)
  let s3 := (s2.stop (tUnc l)).stop (tQual l)
  let s4 := match l with
    | .ring d => (s3.showLanes d false).wrn d.n PHY.PHY_STAT_CW_LOCK 0
    | .twin => s3
  if wasUp then
    let s5 := (s4.raise (phyPage l) 1).emit (.maint l.code (.remoteFault cause))
    match l with
    | .ring d =>
      let s6 := (s5.satn d.n MAC.LINK_DOWN_CNT_COUNT).portDown d.code
      let s7 := (s6.dropTbuf d).updRx d (fun _ => {})
      let s8 := if d = .east && s7.rd CLOCKS.REF_STAT_SOURCE = 1 then s7.loseSource else s7
      if cause = 6 then s8.raise (9 + d.n) 3 else s8
    | .twin => if s5.role = 2 ∨ s5.role = 1 then (s5.portDown 2).peerLost 1 else s5
  else s4

/-- Step 1 begins again: RETRAIN reads 0 (R75, R82). -/
def State.linkRestart (s : State) (l : Link) : State :=
  ((s.setLinkState l 1).setRetrain l 0).stop (tPhy l)

/-! ### Reference -/

/-- Rank of an acting master: role master above backup master, then the lower node id (R64). -/
def outranks (node role node' role' : Nat) : Bool :=
  decide (role < role') || (role = role' && decide (node < node'))

/-- REFE is driven only while acting master or while the source is the REFW pair (R58); in a twin pair only by the twin with
index 0 (R159). -/
def State.refeDriven (s : State) : Bool :=
  (s.acting || s.rd CLOCKS.REF_STAT_SOURCE = 0) && (!s.isTwin || s.otp.index = 0)

/-- What REFE carries: a static level (none), or the reference with its spread, if any (R58, R60). -/
def State.refe (s : State) : Option (Option (Nat × Nat)) := if s.refeDriven then some s.spread else none


/-- The hub becomes acting master: crystal source, its own spread setting (R56, R60, R63). -/
def State.becomeActing (s : State) : State :=
  if s.acting then s
  else
    let s1 := ((s.wr CLOCKS.REF_STAT_ACTING_MASTER 1).wr CLOCKS.REF_STAT_SOURCE 3).wr CLOCKS.REF_STAT_LOCKED 1
    let s2 := { s1 with ref := { s1.ref with stay := false, origin := s1.mono } }
    ((s2.raiseRef 7).raiseRef 6).stop tBeaconTmo

/-- An acting master stops acting: it goes to holdover and stays follower (R63, R64, R57). -/
def State.stopActing (s : State) : State :=
  if s.acting then
    let s0 := s.holdSource
    let s1 := (s0.wr CLOCKS.REF_STAT_ACTING_MASTER 0).wr CLOCKS.REF_STAT_CLOSED 0
    let s2 := { s1 with ref := { s1.ref with stay := true } }
    (s2.raiseRef 7).loseSource.start tBeaconTmo (s2.rd CLOCKS.REF_CFG_BEACON_TMO * ms 1)
  else s

/-- The hub learns of an acting master, other than itself, by a beacon, training frames or a notice: an
acting master yields to a higher rank; another hub tells both directions of a rank above the one it
follows, if it has heard of one (R64, log 63). -/
def State.learnMaster (s : State) (node role : Nat) : State :=
  if s.acting then
    (if outranks node role s.nodeId (s.rd CLOCKS.REF_CFG_ROLE) then s.stopActing else s)
  else if outranks node role (s.rd CLOCKS.REF_STAT_MASTER_ID) s.ref.masterRole && s.ref.masterRole ≠ 0 then
    (s.sendMaint .east (.contest node role)).sendMaint .west (.contest node role)
  else s

/-- The acting master this hub names in its training frames: itself, or the one it follows (R64). -/
def State.namedMaster (s : State) : Nat × Nat :=
  if s.acting then (s.nodeId, s.rd CLOCKS.REF_CFG_ROLE) else (s.rd CLOCKS.REF_STAT_MASTER_ID, s.ref.masterRole)

end Sys2Proof.Machine
end

