-- ==== Sys2Proof/Machine/FrameOps.lean ====
section
/-! DEFINITION. Originating frames, refusals, where a frame goes inside the node, the stream window, and the
acceptance of frames (R17, R18, R96, R98, R108-R115, R210, R303). -/

namespace Sys2Proof.Machine

/-! ### Destinations inside the node -/

/-- The context (engine, context) that owns a sub-address (R19, R243). -/
def State.subaOwner (s : State) (ep : Nat) : Option (Nat × Nat) :=
  ((List.range 16).flatMap (fun n => (List.range 32).map (fun c => (n, c)))).find? (fun e =>
    s.rdn e.1 ENG.SUBA_COUNT e.2 ≠ 0 && decide (s.rdn e.1 ENG.SUBA_BASE e.2 ≤ ep) &&
    decide (ep < s.rdn e.1 ENG.SUBA_BASE e.2 + s.rdn e.1 ENG.SUBA_COUNT e.2))

/-- The context an endpoint number belongs to, its own or by sub-address (R17). -/
def State.ctxOf (s : State) (ep : Nat) : Option (Nat × Nat) :=
  if 16 ≤ ep ∧ ep < 528 then some ((ep - 16) / 32, (ep - 16) % 32)
  else if 2048 ≤ ep ∧ ep < 8192 then s.subaOwner ep
  else none

/-- A TC5 message to endpoint 0 with first payload byte 0xB1 to 0xB3 is relay traffic (R303, R500). -/
def isRelay (f : Frame) : Bool :=
  f.tc = 5 && (match f.payload with
    | b :: _ => decide (0xB1 ≤ b.toNat) && decide (b.toNat ≤ 0xB3)
    | [] => false)

/-- The switch output that serves a frame for this node; none for an absent endpoint (R18, R20, R303). -/
def State.destPort (s : State) (f : Frame) : Option Nat :=
  let ep := localOf f.dest
  if ep = 0 then
    (if f.resp || f.refuse then some 3
     else if f.tc = 4 then some 7
     else if isRelay f then some 7
     else some 3)
  else if 1024 ≤ ep ∧ ep < 1280 then some 6
  else if 1536 ≤ ep ∧ ep < 1552 then (if s.flag USBHUB.CHAN_CFG_EN (ep - 1536) then some 6 else none)
  else match s.ctxOf ep with
    | some (n, _) => some (if n < 8 then 4 else 5)
    | none => none

/-! ### Placing frames on the ring, launch times -/

/-- The fabric time nearest to now, in [now - 2^31 s, now + 2^31 s), with the given low seconds (R210);
0 for a time before fabric time began. -/
def State.launchTime (s : State) (l : Nat) : Nat :=
  let sub := (l % 2 ^ 32 / 4) * 2 ^ 48 + (l % 4) * 2 ^ 46
  let span := 2 ^ 32 * 1000000000 * 2 ^ 48
  let t0 := (l / 2 ^ 32 % 2 ^ 32) * 1000000000 * 2 ^ 48 + sub
  let k := (s.fab + span / 2 - t0 - 1) / span
  if s.fab + span / 2 ≤ t0 then 0 else t0 + k * span

/-- The launch time of a frame bound for the ring, if it has one. -/
def State.launchOf (s : State) (f : Frame) : Option Nat := if f.lt && f.tc ≠ 1 then some (s.launchTime f.launch) else none

/-- What the hub that places a frame on the ring writes (R92, R96, R108). -/
def State.placed (s : State) (p : Nat) (f : Frame) : Frame :=
  let g := { f with hops := s.rd TRANSIT.HOP_CFG_HOP_INIT, entry := s.station, dir := p % 2 }
  { g with hchk := g.headCheck, crc := g.trailer }

/-- The ring outputs a node queues copies for: both, or in a twin pair those it drives (R108, R160). -/
def State.ringOuts (s : State) : List Nat :=
  if s.isTwin then [0, 1].filter (fun p => bitOf (s.rd TWIN.STAT_DRIVES) p) else [0, 1]

/-! ### Originating -/

/-- What became of a frame a unit of the node originated. -/
inductive Orig where
  | queued (seq copies : Nat)
  | refused
  | dropped
  | waiting
  | absent
  deriving DecidableEq, Repr

/-- The frame with the number it takes and the fields an originator leaves zero. -/
def freshFrame (f : Frame) : Frame := { f with ver := 1, xings := 0, sec := false, assoc := 0, epochLo := 0, rsv := 0 }

/-- Ring index after `i`. -/
def ringNext (size i : Nat) : Nat := (i + 1) % 2 ^ size

/-- The head descriptor of send ring `n` is done: its status is written to host memory at `desc`, HEAD advances, a frame that
was not queued is counted (R322, R324). Without a host nothing is written (R325). -/
def State.txDone (s : State) (n desc status : Nat) : State :=
  let s1 := if s.pcie.up && !s.pcie.d3hot then s.emit (.item "HOST_WRITE" ((desc + 12) :: leBytes 4 (2 ^ 31 + status))) else s
  let s2 := s1.wr BRIDGE.TXR_HEAD_INDEX (ringNext (s.rd BRIDGE.TXR_CFG_SIZE n) (s.rd BRIDGE.TXR_HEAD_INDEX n)) n
  if status = 0 then s2 else s2.sat BRIDGE.TXR_REFUSED_COUNT n

/-- A send ring's frame that waited for its key has been queued (0) or not sent (3): its descriptor is done (R324, R385). -/
def State.txSettled (s : State) (tag status : Nat) : State :=
  match s.bridge.txWait.find? (fun (w : TxWait) => w.tag = tag) with
  | none => s
  | some w =>
    { s with bridge := { s.bridge with txWait := s.bridge.txWait.filter (fun (x : TxWait) => x.tag ≠ tag) } }.txDone w.ring w.desc status

/-- The switch core reports the SEQ of a bridge request that has been queued, with its copies (R303), and the queuing of a send
ring's frame that waited for its key (R324). -/
def State.reqSent (s : State) (tag seq copies : Nat) : State :=
  if tag = 0 then s
  else
    let s1 := { s with bridge := { s.bridge with reqs := s.bridge.reqs.map (fun (r : Req) =>
      if r.tag + 1 = tag then { r with left := some s.mono, seq := seq, copies := copies } else r) } }
    s1.txSettled tag 0

/-- A bridge request was not queued: noted for the bridge (R314). -/
def State.lostTag (s : State) (tag : Nat) : State :=
  if tag = 0 then s else { s with buf := { s.buf with lost := s.buf.lost ++ [tag] } }

/-- A frame bound for the ring, sealed or not, is admitted, numbered and stored in its copies (R109, R132,
R134, R386, R390). -/
def State.storeRing (s : State) (inp : Nat) (f : Frame) (tag : Nat) (plan : SealPlan) : Orig × State :=
  let grown := match plan with
    | .sealed _ _ => { f with sec := true, len := f.len + 8 }
    | _ => f
  let adm := State.admitAll (s.ringOuts.map (fun p => voqIdx inp p f.tc)) (cellsOf grown) s
  if adm.1 = [] then (.dropped, adm.2.lostTag tag)
  else
    let q := adm.2.rd TRANSIT.SEQ_NEXT_NEXT f.tc
    let s1 := adm.2.inc TRANSIT.SEQ_NEXT_NEXT f.tc
    let g := { f with seq := q }
    let done := match plan with
      | .sealed i root => s1.sealFrame i root g
      | _ => (g, s1)
    (.queued q adm.1.length,
      (done.2.storeCopies adm.1 (done.2.placed 0 done.1) true (done.2.launchOf done.1) tag).reqSent tag q adm.1.length)

/-- A frame is handed to a unit: shown in the log and kept in the inbox until the unit takes it. -/
def State.deliverTo (s : State) (p : Nat) (f : Frame) : State :=
  { s.emit (.deliver p f) with inbox := s.inbox ++ [(p, f)] }

/-- A frame for the node itself is delivered inside the switch core, without a number (R108). One for the port it comes from
has no queue, since those are never used (R127): it passes to the unit at once, unless its output refuses it (log 66). -/
def State.storeLocal (s : State) (inp : Nat) (f : Frame) (tag : Nat) : Orig × State :=
  match s.destPort f with
  | none => (.absent, s)
  | some p =>
    if p = inp then
      match s.refusedEarly (voqIdx inp p f.tc) with
      | some c => (.dropped, (s.countDiscard (voqIdx inp p f.tc) c).lostTag tag)
      | none => (.queued 0 1, (s.deliverTo p { f with hchk := f.headCheck, crc := f.trailer }).reqSent tag 0 1)
    else
    let adm := State.admitAll [voqIdx inp p f.tc] (cellsOf f) s
    if adm.1 = [] then (.dropped, adm.2.lostTag tag)
    else (.queued 0 1, (adm.2.storeCopies adm.1 { f with hchk := f.headCheck, crc := f.trailer } true none tag).reqSent tag 0 1)

/-- A unit behind input `inp` originates a frame (R108, R381, R385, R390): delivered locally, refused by the
GCM engine, waiting for a key, or stored for the ring. -/
def State.originate (s : State) (inp : Nat) (f : Frame) (tag : Nat := 0) : Orig × State :=
  let g := freshFrame f
  if nodeOf g.dest = s.nodeId then
    (if (g.resp || g.refuse) && localOf g.dest ≠ 0 then (.absent, s) else s.storeLocal inp g tag)
  else match s.sealPlan g with
    | .refuse => (.refused, (s.sat GCM.REFUSED_COUNT).lostTag tag)
    | .wait _ =>
      (.waiting, { (s.inc KEYS.MISS_CNT_COUNT) with gcm := { s.gcm with
        waiting := s.gcm.waiting ++ [.seal g inp tag s.ringOuts] } })
    | plan => s.storeRing inp g tag plan

/-- A message to the node itself that is an answer or refusal for an endpoint other than 0 is counted and
recorded, never delivered (R115, R331). -/
def State.countAnswer (s : State) (f : Frame) : State :=
  let p := bnat f.payload
  let s1 := (s.sat MGMT.REFUSED_RX_COUNT).wr MGMT.REFUSED_LAST0_VALID 1
  let s2 := (s1.wr MGMT.REFUSED_LAST0_CODE (if f.refuse then p.headD 0 else 0)).wr MGMT.REFUSED_LAST0_ENDPOINT (localOf f.dest)
  (s2.wr MGMT.REFUSED_LAST1_SEQ (if f.refuse then ofBe ((p.drop 2).take 2) else 0)).wr MGMT.REFUSED_LAST1_NODE (nodeOf f.src)

/-- The refusal of a frame with a code (R115). -/
def refusalOf (f : Frame) (code : Nat) : Frame :=
  { tc := 4, resp := true, refuse := true, dest := f.src, src := f.dest, len := 8,
    payload := natb ([code, 0] ++ beBytes 2 f.seq ++ beBytes 4 f.dest) }

/-- Refuses a frame with a code; a frame with RESP or REFUSE is never refused (R115). Code 0x02 counts
ABSENT_CNT (R18). -/
def State.refuse (s : State) (inp : Nat) (f : Frame) (code : Nat) : State :=
  if f.resp || f.refuse then s
  else
    let s1 := if code = 2 then s.sat MGMT.ABSENT_CNT_COUNT else s
    let r := refusalOf f code
    if nodeOf r.dest = s1.nodeId && localOf r.dest ≠ 0 then s1.countAnswer r
    else (s1.originate inp r).2

/-- A local unit sends a frame; one for an absent endpoint of the node itself is answered by a refusal
(R18), an answer or refusal for another endpoint of it is counted (R115). -/
def State.send (s : State) (inp : Nat) (f : Frame) (tag : Nat := 0) : Orig × State :=
  let r := s.originate inp f tag
  match r.1 with
  | .absent => if f.resp || f.refuse then (.absent, r.2.countAnswer f) else (.absent, r.2.refuse 7 f 2)
  | _ => r

/-! ### Stream window (R111-R113) -/

/-- The entry of a stream. -/
def State.stream (s : State) (node cls : Nat) : Option StreamEnt :=
  s.win.find? (fun e => e.node = node && e.cls = cls)

/-- An acceptance in the last 10 ms of fabric time (R113). -/
def State.streamFresh (s : State) (e : StreamEnt) : Bool := decide (s.fab < e.last + fns 10000000)

/-- The verdict of the stream window on a number (R112, R113). -/
inductive SeqVerdict where
  | accept
  | duplicate
  | stale
  | full
  deriving DecidableEq, Repr

/-- Judges a number against an entry (R112). -/
def StreamEnt.judge (e : StreamEnt) (q : Nat) : SeqVerdict :=
  let d := (q + 65536 - e.high) % 65536
  if 1 ≤ d ∧ d ≤ 32767 then .accept
  else
    let i := (e.high + 65536 - q) % 65536
    if i ≤ 63 then (if bitOf e.map i then .duplicate else .accept) else .stale

/-- The entry after an accepted number (R112). -/
def StreamEnt.mark (e : StreamEnt) (q now : Nat) : StreamEnt :=
  let d := (q + 65536 - e.high) % 65536
  if 1 ≤ d ∧ d ≤ 32767 then { e with high := q, map := (e.map * 2 ^ min d 64 + 1) % 2 ^ 64, last := now }
  else { e with map := setBit e.map ((e.high + 65536 - q) % 65536), last := now }

/-- Judges a frame of a stream (R112, R113). -/
def State.judgeSeq (s : State) (node cls q : Nat) : SeqVerdict :=
  match s.stream node cls with
  | some e => if s.streamFresh e then e.judge q else .accept
  | none => if 4096 ≤ (s.win.filter s.streamFresh).length then .full else .accept

/-- Marks an accepted number; a stream without a fresh entry opens one (R112, R113). -/
def State.markSeq (s : State) (node cls q : Nat) : State :=
  match s.stream node cls with
  | some e =>
    let e1 := if s.streamFresh e then e.mark q s.fab else { e with high := q, map := 1, last := s.fab }
    { s with win := s.win.map (fun x => if x.node = node && x.cls = cls then e1 else x) }
  | none =>
    { s with win := (if s.win.length < 4096 then s.win else s.win.filter s.streamFresh) ++
      [{ node := node, cls := cls, high := q, map := 1, last := s.fab }] }

/-- The window marks the number as seen (step 4 of R110). -/
def State.seqSeen (s : State) (node cls q : Nat) : Bool :=
  match s.stream node cls with
  | some e => s.streamFresh e && decide (e.judge q = .duplicate)
  | none => false

/-! ### Acceptance (R110) -/

/-- The copy of the received frame `f` in queue `v` that is not yet accepted: it is being written, or waits for its key. -/
def State.openCopy (s : State) (v : Nat) (f : Frame) : Option Nat :=
  (s.voq v).q.findIdx? (fun c => !c.accepted && decide (c.frame = f))

/-- The copy of a frame that failed acceptance is removed and its cells freed (R128). -/
def State.dropOpen (s : State) (v : Nat) (f : Frame) : State :=
  match s.openCopy v f with
  | none => s
  | some k =>
    match (s.voq v).q[k]? with
    | none => s
    | some c => (s.removeAt v k c).touch v

/-- The copy of `f` is accepted: it waits in its queue with the frame as opened, `g`, in a queue's possession (R110). -/
def State.acceptOpen (s : State) (v : Nat) (f g : Frame) : State :=
  match s.openCopy v f with
  | none => s
  | some k =>
    match (s.voq v).q[k]? with
    | none => s
    | some c =>
      ((s.updVoq v (fun q => { q with q := q.q.set k { c with frame := g, accepted := true } })).markCells c.cells 2 v
        (s.voq v).gen).touch v

/-- A secured relay frame found so once opened goes to the queue of P7 instead (R303). -/
def State.deliverOpen (s : State) (v : Nat) (f g : Frame) : State :=
  if outOf v = 3 && isRelay g && localOf g.dest = 0 then
    let s1 := s.dropOpen v f
    let w := voqIdx (v / 64) 7 (clsOf v)
    let adm := State.admitAll [w] (cellsOf g) s1
    adm.2.storeCopies adm.1 g true none 0
  else s.acceptOpen v f g

/-- The broadcast of R199: a TC1 frame to endpoint 0 of its own source node. -/
def isBroadcast (f : Frame) : Bool := f.tc = 1 && localOf f.dest = 0 && nodeOf f.dest = nodeOf f.src

/-- A time message whose CORR is completed in its transmit slot waits with the reference time that the slot's time is
measured from, above bit 63 of the field and one more than the time (R198, R199). -/
def corrLater (corr ref : Nat) : Nat := corr % 2 ^ 64 + 2 ^ 64 * (ref + 1)

/-- The reference time of a message that waits so. -/
def corrRef (f : Frame) : Option Nat := if f.launch < 2 ^ 64 then none else some (f.launch / 2 ^ 64 - 1)

/-- Where an arriving frame that is being judged is bound: a queue, an absent endpoint, an answer, or the junction's peer with
the receive stamp of a time broadcast (R199). -/
inductive RxBound where
  | queue (v : Nat)
  | absent
  | answer
  | relay (stamp : Nat)
  deriving DecidableEq, Repr

/-- A time broadcast is relayed over P2 with its receive stamp (R199). -/
def State.relayTimed (s : State) (d stamp : Nat) (f : Frame) : State :=
  let adm := State.admitAll [voqIdx d 2 f.tc] (cellsOf f) s
  adm.2.storeCopies adm.1 { f with launch := corrLater f.launch stamp } true none 0

/-- The frame is discarded: a queued copy is removed. -/
def State.dropBound (s : State) (b : RxBound) (f : Frame) : State :=
  match b with
  | .queue v => s.dropOpen v f
  | _ => s

/-- Step 7 of R110: delivery, the refusal of R18 for an absent endpoint, or the count of R115. `f` is the
frame as received, `g` as opened. A relayed frame goes on unchanged (R97). -/
def State.deliverBound (s : State) (d : Nat) (b : RxBound) (f g : Frame) : State :=
  match b with
  | .relay stamp => s.relayTimed d stamp f
  | .queue v => if outOf v = 2 then s.acceptOpen v f f else s.deliverOpen v f g
  | .absent => s.refuse 7 f 2
  | .answer => s.countAnswer g

/-- Steps 6 and 7 of R110, indivisible: judge and mark the number, mark the packet number, deliver. -/
def State.judgeAndDeliver (s : State) (d : Nat) (b : RxBound) (f g : Frame) (mark : Option (Nat × Nat × Nat × Nat)) :
    State :=
  match s.judgeSeq (nodeOf f.src) f.tc f.seq with
  | .accept =>
    let s1 := (s.markSeq (nodeOf f.src) f.tc f.seq).satn (2 * d) MAC.RX_ACCEPT_COUNT
    let s2 := match mark with
      | some (i, tb, e, p) => s1.markOpened i tb e p
      | none => s1
    s2.deliverBound d b f g
  | .duplicate => (s.satn (2 * d) MAC.RX_DUP_COUNT).dropBound b f
  | .stale => ((s.satn (2 * d) MAC.RX_STALE_COUNT).raise (9 + 2 * d) 4).dropBound b f
  | .full => ((s.satn (2 * d) MAC.RX_WIN_FULL_COUNT).raise (9 + 2 * d) 5).dropBound b f

/-- The wait list's code for where a frame is bound: the queue, 512 absent, 513 answer, above them a relay's stamp. -/
def RxBound.code : RxBound → Nat
  | .queue v => v
  | .absent => 512
  | .answer => 513
  | .relay t => 514 + t

/-- Back from the code. -/
def RxBound.ofCode (n : Nat) : RxBound :=
  if n < 512 then .queue n else if n = 512 then .absent else if n = 513 then .answer else .relay (n - 514)

/-- Step 5 of R110 and what follows; a frame whose key is not cached waits for its derivation (R385). -/
def State.openAndJudge (s : State) (d : Nat) (b : RxBound) (f : Frame) : State :=
  match s.openFrame f true with
  | .fail c => (s.openFailed d c f).dropBound b f
  | .unsecured => s.judgeAndDeliver d b f f none
  | .derive _ =>
    { (s.inc KEYS.MISS_CNT_COUNT) with gcm := { s.gcm with waiting := s.gcm.waiting ++ [.opening d f b.code] } }
  | .opened i tb e p plain k => (s.useKey k).judgeAndDeliver d b f (f.withPlain plain) (some (i, tb, e, p))

/-- The acceptance of a frame on ring port `d` at its trailer (R110): `errored` and `count31` say how its
blocks ended, `wireLen` its length on the wire. -/
def State.acceptFrame (s : State) (d : Nat) (b : RxBound) (f : Frame) (errored count31 : Bool) (wireLen : Nat) : State :=
  if errored || count31 then (s.satn (2 * d) MAC.RX_ERRORED_COUNT).dropBound b f
  else if wireLen ≠ f.statedLen then (s.satn (2 * d) MAC.RX_MALFORMED_COUNT).dropBound b f
  else if f.crc ≠ f.trailer then (s.satn (2 * d) MAC.RX_CRC_COUNT).dropBound b f
  else if f.sec && s.seqSeen (nodeOf f.src) f.tc f.seq then (s.satn (2 * d) MAC.RX_DUP_COUNT).dropBound b f
  else s.openAndJudge d b f

/-- A time message that has been judged under step 5 (R200): handed to the time unit (output 8), its entry's epoch moved on
(R387), or failed. -/
def State.timeVerdict (s : State) (d : Nat) (f : Frame) : OpenVerdict → State
  | .fail c => s.openFailed d c f
  | .unsecured => s.deliverTo 8 f
  | .derive _ => s
  | .opened i b e _ plain k => ((s.advanceEpoch i b e).useKey k).deliverTo 8 (f.withPlain plain)

/-- Step 5 of R110 for a time message; a key not cached is derived meanwhile (R385). -/
def State.timeOpen (s : State) (d : Nat) (f : Frame) : State :=
  match s.openFrame f false with
  | .derive k =>
    let s1 := (s.inc KEYS.MISS_CNT_COUNT).cacheKey k
    s1.timeVerdict d f (s1.openFrame f false)
  | v => s.timeVerdict d f v

/-- A time message for the time unit: steps 1-3 and 5 of R110, neither window marked (R200). -/
def State.timeCopy (s : State) (d : Nat) (f : Frame) (errored count31 : Bool) (wireLen : Nat) : State :=
  if errored || count31 then s.satn (2 * d) MAC.RX_ERRORED_COUNT
  else if wireLen ≠ f.statedLen then s.satn (2 * d) MAC.RX_MALFORMED_COUNT
  else if f.crc ≠ f.trailer then s.satn (2 * d) MAC.RX_CRC_COUNT
  else s.timeOpen d f

/-- A time broadcast that came over the twin link is judged for the time unit by step 5 (R199, R200, R206); `3` names that
port. -/
def State.timeRelayed (s : State) (f : Frame) : State := s.timeOpen 3 f

end Sys2Proof.Machine
end

