-- ==== Sys2Proof/Machine/Remote.lean ====
section
/-! DEFINITION. Remote accesses: the access prefix of TC4 frames, answers, the arrival port (R301-R303, R312). -/

namespace Sys2Proof.Machine

/-- A TC4 access as its prefix gives it (R301): op 1 WRITE, 2 READ, 0x81 WACK, 0x82 RDATA. -/
structure Access where
  op : Nat
  flags : Nat
  tag : Nat
  offset : Nat
  count : Nat
  data : List Byte
  deriving DecidableEq, Repr

/-- The access a TC4 payload holds; none for a payload shorter than the prefix. -/
def parseAccess (f : Frame) : Option Access :=
  let p := bnat f.payload
  if p.length < 12 then none
  else some { op := p.getD 0 0, flags := p.getD 1 0, tag := ofBe ((p.drop 2).take 2),
              offset := ofBe ((p.drop 4).take 4) % 2 ^ 24, count := ofBe ((p.drop 8).take 4), data := f.payload.drop 12 }

/-- The bytes of an access with its data. -/
def accessBytes (op flags tag offset count : Nat) (data : List Byte) : List Byte :=
  natb ([op, flags] ++ beBytes 2 tag ++ beBytes 4 (offset % 2 ^ 24) ++ beBytes 4 count) ++ data

/-- A request within the limits of R301; the others are refused as misaligned. -/
def Access.good (a : Access) (f : Frame) : Bool :=
  if a.op = 1 then decide (4 ≤ a.data.length) && a.data.length % 4 = 0 && f.len = 12 + a.data.length
  else if a.op = 2 then f.len = 12 && decide (4 ≤ a.count) && decide (a.count ≤ 256) && a.count % 4 = 0
  else false

/-- The answer to request `req`: WACK, or RDATA with data (R302). -/
def answerTo (req : Frame) (a : Access) (op flags : Nat) (data : List Byte) : Frame :=
  let count := if op = 0x82 then data.length else 0
  { tc := 4, resp := true, dest := req.src, src := req.dest, len := 12 + data.length,
    payload := accessBytes op flags a.tag a.offset count data }

/-- Sends the answer from the unit behind input `inp` (R302). -/
def State.answer (s : State) (inp : Nat) (req : Frame) (a : Access) (op flags : Nat) (data : List Byte) : State :=
  (s.send inp (answerTo req a op flags data)).2

/-- The port a request is judged as arriving on: HOST from the node itself, else the ring port its copy came in
by (R303). A frame sent with DIR 0, east, arrives on a west port (R55, R92). -/
def State.arrivalPort (s : State) (f : Frame) : Port :=
  if nodeOf f.src = s.nodeId then .host else if f.dir = 0 then .ringW else .ringE

/-- MGMT.EPD marks an endpoint as having read side effects (R312, R332). -/
def State.sideEffect (s : State) (ep : Nat) : Bool := bitOf (s.rd MGMT.EPD_SIDE_EFFECT (ep / 32)) (ep % 32)

/-- A frame is taken from the inbox of a switch output. -/
def State.takeInbox (s : State) (p : Nat) (f : Frame) : State := { s with inbox := s.inbox.erase (p, f) }

end Sys2Proof.Machine
end

