-- ==== Sys2Proof/Machine/Yemal.lean ====
section
/-! DEFINITION. The words of the Yemal instructions: fields, reserved encodings, decoder and encoder (R255,
R259). -/

namespace Sys2Proof

/-- The conditions of JMP (R260), in the order of their codes. -/
inductive JmpCond where
  | always | xz | lx | yz | ly | xeqy | z | c | pin | flag | k | miss | armed | eop | pev | osr0 | txw
  | rxfull | isr32 | xlty | late
  deriving DecidableEq, Repr

/-- The sources of WAIT (R261). -/
inductive WaitSrc where
  | pin | flag | txwords | txpkts | rxfree | armed | pev | drained
  deriving DecidableEq, Repr

/-- The destinations of IN (R262). -/
inductive InDst where
  | isr | x | y | check
  deriving DecidableEq, Repr

/-- The sources of OUT (R263). -/
inductive OutSrc where
  | osr | x | zeros | ones
  deriving DecidableEq, Repr

/-- The sources of PUSH (R265). -/
inductive PushSrc where
  | isr | x | y
  deriving DecidableEq, Repr

/-- The destinations of PULL (R265). -/
inductive PullDst where
  | osr | x | y
  deriving DecidableEq, Repr

/-- The destinations of MOV (R259). -/
inductive MovDst where
  | x | y | osr | isr | pins | dirs | pc | cnts
  deriving DecidableEq, Repr

/-- The sources of MOV (R266). -/
inductive MovSrc where
  | x | y | osr | isr | pins | pcsaved | fifostat | zero | cnts | slack | cycle
  deriving DecidableEq, Repr

/-- The transforms of MOV (R266). -/
inductive MovOp where
  | copy | invert | negate | bitrev | byterev | halfswap | ones
  deriving DecidableEq, Repr

/-- The operations of ALU (R267). -/
inductive AluOp where
  | add | sub | and | or | xor | shl | shr | cmp
  deriving DecidableEq, Repr

/-- What STAMP captures (R268). -/
inductive StampWhat where
  | eventRel | nowRel | eventAbs | nowAbs
  deriving DecidableEq, Repr

/-- The bases of TTRIG (R269). -/
inductive TrigBase where
  | boundary | next | event | now
  deriving DecidableEq, Repr

/-- The actions of TTRIG (R269). -/
inductive TrigAct where
  | low | high | toggle | release | origin | timer | cancel
  deriving DecidableEq, Repr

/-- The operations of CHK (R271). -/
inductive ChkOp where
  | seed | seedx | fold | append | verify | save | pause
  deriving DecidableEq, Repr

/-- The operations of FIFO (R272). -/
inductive FifoOp where
  | mark | rewind | release | flush
  deriving DecidableEq, Repr

/-- What EVENT does to the engine flag (R273). -/
inductive FlagOp where
  | none | set | clear
  deriving DecidableEq, Repr

/-- The modes of LDI (R267). -/
inductive LdiMode where
  | zero | sign | high
  deriving DecidableEq, Repr

/-- A decoded Yemal instruction (R258, R259). A count of IN, OUT or FOLD is 1 to 32; `lanes` is the code of
the number of pins (1, 2, 4, 8). -/
inductive Yemal where
  | jmp (neg : Bool) (cond : JmpCond) (idx addr : Nat)
  | wait (pol : Bool) (src : WaitSrc) (idx count : Nat) (clr : Bool)
  | inBits (count pin lanes : Nat) (lsb : Bool) (dst : InDst)
  | outBits (count pin lanes : Nat) (lsb : Bool) (src : OutSrc) (clk : Bool) (clkpin : Nat) (cpol : Bool)
  | push (last : Bool) (src : PushSrc) (min : Nat) (keep : Bool)
  | pull (dst : PullDst) (gate : Bool) (low : Nat)
  | mov (dst : MovDst) (src : MovSrc) (op : MovOp)
  | setPins (dirs sync : Bool) (mask value : Nat)
  | alu (op : AluOp) (y imm : Bool) (value : Nat)
  | stamp (what : StampWhat) (toy keep : Bool)
  | ttrig (base : TrigBase) (act : TrigAct) (pin : Nat) (xoff : Bool) (offset : Nat)
  | chk (op : ChkOp) (arg : Bool) (width : Nat)
  | fifo (rx : Bool) (op : FifoOp)
  | event (num : Nat) (irq : Bool) (fop : FlagOp) (flag : Nat)
  | ldi (y : Bool) (mode : LdiMode) (imm : Nat)
  | yield (eoc : Bool)
  deriving DecidableEq, Repr

/-! ### Codes -/

def JmpCond.all : List JmpCond :=
  [.always, .xz, .lx, .yz, .ly, .xeqy, .z, .c, .pin, .flag, .k, .miss, .armed, .eop, .pev, .osr0, .txw,
   .rxfull, .isr32, .xlty, .late]
def WaitSrc.all : List WaitSrc := [.pin, .flag, .txwords, .txpkts, .rxfree, .armed, .pev, .drained]
def InDst.all : List InDst := [.isr, .x, .y, .check]
def OutSrc.all : List OutSrc := [.osr, .x, .zeros, .ones]
def PushSrc.all : List PushSrc := [.isr, .x, .y]
def PullDst.all : List PullDst := [.osr, .x, .y]
def MovDst.all : List MovDst := [.x, .y, .osr, .isr, .pins, .dirs, .pc, .cnts]
def MovSrc.all : List MovSrc := [.x, .y, .osr, .isr, .pins, .pcsaved, .fifostat, .zero, .cnts, .slack, .cycle]
def MovOp.all : List MovOp := [.copy, .invert, .negate, .bitrev, .byterev, .halfswap, .ones]
def AluOp.all : List AluOp := [.add, .sub, .and, .or, .xor, .shl, .shr, .cmp]
def StampWhat.all : List StampWhat := [.eventRel, .nowRel, .eventAbs, .nowAbs]
def TrigBase.all : List TrigBase := [.boundary, .next, .event, .now]
def TrigAct.all : List TrigAct := [.low, .high, .toggle, .release, .origin, .timer, .cancel]
def ChkOp.all : List ChkOp := [.seed, .seedx, .fold, .append, .verify, .save, .pause]
def FifoOp.all : List FifoOp := [.mark, .rewind, .release, .flush]
def FlagOp.all : List FlagOp := [.none, .set, .clear]
def LdiMode.all : List LdiMode := [.zero, .sign, .high]

/-- The place of an element in a list: the code of a field value. -/
def codeIn {α : Type} [DecidableEq α] (a : α) : List α → Nat
  | [] => 0
  | b :: t => if a = b then 0 else 1 + codeIn a t

/-- The pins of a slot by the LANES code (R259). -/
def lanePins (lanes : Nat) : Nat := 2 ^ lanes

/-! ### Reserved values (R255, R259, R260) -/

/-- The field rules of R259 and R260 and the pin limits of R255, for a context with `pc` pins. -/
def Yemal.wf (pc : Nat) : Yemal → Bool
  | .jmp neg cond idx addr =>
    decide (addr < 2048) && decide (idx < 8) && !(neg && cond = .always) &&
    (match cond with
     | .pin => decide (idx < pc)
     | .flag => true
     | _ => idx = 0)
  | .wait pol src idx count clr =>
    decide (idx < 8) && decide (count < 32) &&
    (match src with
     | .pin => decide (idx < pc)
     | .flag => true
     | _ => idx = 0) &&
    (match src with
     | .txwords | .txpkts | .rxfree => decide (1 ≤ count) && decide (count ≤ 16)
     | _ => count = 0) &&
    (!clr || (src = .flag && pol))
  | .inBits count pin lanes _ _ =>
    decide (1 ≤ count) && decide (count ≤ 32) && decide (pin < 8) && decide (lanes < 4) &&
    count % lanePins lanes = 0 && decide (pin + lanePins lanes ≤ pc)
  | .outBits count pin lanes _ _ clk clkpin _ =>
    decide (1 ≤ count) && decide (count ≤ 32) && decide (pin < 8) && decide (lanes < 4) &&
    count % lanePins lanes = 0 && decide (pin + lanePins lanes ≤ pc) && decide (clkpin < 8) &&
    (if clk then decide (clkpin < pc) else clkpin = 0)
  | .push _ src min keep => decide (min < 32) && (src = .isr || (min = 0 && !keep))
  | .pull dst gate low => decide (low < 32) && (!gate || dst = .osr) && (gate || low = 0)
  | .mov _ _ _ => true
  | .setPins _ _ mask value => decide (mask < 256) && decide (value < 256)
  | .alu _ _ imm value => decide (value < 65536) && (imm || value = 0)
  | .stamp what toy keep =>
    (!toy || what = .eventRel || what = .nowRel) && (!keep || what = .eventRel || what = .eventAbs)
  | .ttrig base act pin xoff offset =>
    decide (pin < 8) && decide (offset < 524288) && (!xoff || offset = 0) &&
    (match act with
     | .low | .high | .toggle | .release => decide (pin < pc)
     | .origin | .timer => pin = 0
     | .cancel => base = .boundary && pin = 0 && !xoff && offset = 0)
  | .chk op _ width => if op = .fold then decide (1 ≤ width) && decide (width ≤ 32) else width = 0
  | .fifo rx op => !rx || op = .flush
  | .event num _ fop flag => decide (num < 8) && decide (flag < 8) && (fop ≠ .none || flag = 0)
  | .ldi _ _ imm => decide (imm < 65536)
  | .yield _ => true

/-! ### Encoder and decoder -/

/-- A bit of a field at place `i`. -/
def put1 (b : Bool) (i : Nat) : Nat := if b then 2 ^ i else 0

/-- The word of an instruction (R259); a count of 32 is written 0. -/
def Yemal.encode : Yemal → Nat
  | .jmp neg cond idx addr => put1 neg 27 + codeIn cond JmpCond.all * 2 ^ 22 + idx * 2 ^ 19 + addr
  | .wait pol src idx count clr =>
    1 * 2 ^ 28 + put1 pol 27 + codeIn src WaitSrc.all * 2 ^ 24 + idx * 2 ^ 21 + count * 2 ^ 16 + put1 clr 15
  | .inBits count pin lanes lsb dst =>
    2 * 2 ^ 28 + count % 32 * 2 ^ 23 + pin * 2 ^ 20 + lanes * 2 ^ 18 + put1 lsb 17 + codeIn dst InDst.all * 2 ^ 15
  | .outBits count pin lanes lsb src clk clkpin cpol =>
    3 * 2 ^ 28 + count % 32 * 2 ^ 23 + pin * 2 ^ 20 + lanes * 2 ^ 18 + put1 lsb 17 + codeIn src OutSrc.all * 2 ^ 15 +
    put1 clk 14 + clkpin * 2 ^ 11 + put1 cpol 10
  | .push last src min keep =>
    4 * 2 ^ 28 + put1 last 27 + codeIn src PushSrc.all * 2 ^ 25 + min * 2 ^ 20 + put1 keep 19
  | .pull dst gate low => 5 * 2 ^ 28 + codeIn dst PullDst.all * 2 ^ 26 + put1 gate 25 + low * 2 ^ 20
  | .mov dst src op =>
    6 * 2 ^ 28 + codeIn dst MovDst.all * 2 ^ 24 + codeIn src MovSrc.all * 2 ^ 20 + codeIn op MovOp.all * 2 ^ 17
  | .setPins dirs sync mask value => 7 * 2 ^ 28 + put1 dirs 27 + put1 sync 26 + mask * 2 ^ 18 + value * 2 ^ 10
  | .alu op y imm value => 8 * 2 ^ 28 + codeIn op AluOp.all * 2 ^ 25 + put1 y 24 + put1 imm 23 + value
  | .stamp what toy keep => 9 * 2 ^ 28 + codeIn what StampWhat.all * 2 ^ 26 + put1 toy 25 + put1 keep 24
  | .ttrig base act pin xoff offset =>
    10 * 2 ^ 28 + codeIn base TrigBase.all * 2 ^ 26 + codeIn act TrigAct.all * 2 ^ 23 + pin * 2 ^ 20 + put1 xoff 19 +
    offset
  | .chk op arg width => 11 * 2 ^ 28 + codeIn op ChkOp.all * 2 ^ 25 + put1 arg 24 + width % 32 * 2 ^ 19
  | .fifo rx op => 12 * 2 ^ 28 + put1 rx 27 + codeIn op FifoOp.all * 2 ^ 25
  | .event num irq fop flag =>
    13 * 2 ^ 28 + num * 2 ^ 25 + put1 irq 24 + codeIn fop FlagOp.all * 2 ^ 22 + flag * 2 ^ 19
  | .ldi y mode imm => 14 * 2 ^ 28 + put1 y 27 + codeIn mode LdiMode.all * 2 ^ 25 + imm
  | .yield eoc => 15 * 2 ^ 28 + put1 eoc 27

/-- Field `[lo + w - 1 : lo]` of a word. -/
def fieldOf (v lo w : Nat) : Nat := v / 2 ^ lo % 2 ^ w

/-- Bit `i` of a word. -/
def bitAt (v i : Nat) : Bool := v / 2 ^ i % 2 = 1

/-- A count field: 0 means 32. -/
def countOf (v : Nat) : Nat := if v = 0 then 32 else v

/-- The fields of a word by its opcode, reserved bits not looked at; none where a field value is reserved. -/
def Yemal.unpack (v : Nat) : Option Yemal :=
  match v / 2 ^ 28 with
  | 0 => (JmpCond.all[fieldOf v 22 5]?).map (fun cond => .jmp (bitAt v 27) cond (fieldOf v 19 3) (fieldOf v 0 11))
  | 1 => (WaitSrc.all[fieldOf v 24 3]?).map (fun c =>
      .wait (bitAt v 27) c (fieldOf v 21 3) (fieldOf v 16 5) (bitAt v 15))
  | 2 => (InDst.all[fieldOf v 15 2]?).map (fun c =>
      .inBits (countOf (fieldOf v 23 5)) (fieldOf v 20 3) (fieldOf v 18 2) (bitAt v 17) c)
  | 3 => (OutSrc.all[fieldOf v 15 2]?).map (fun c =>
      .outBits (countOf (fieldOf v 23 5)) (fieldOf v 20 3) (fieldOf v 18 2) (bitAt v 17) c (bitAt v 14)
        (fieldOf v 11 3) (bitAt v 10))
  | 4 => (PushSrc.all[fieldOf v 25 2]?).map (fun c => .push (bitAt v 27) c (fieldOf v 20 5) (bitAt v 19))
  | 5 => (PullDst.all[fieldOf v 26 2]?).map (fun c => .pull c (bitAt v 25) (fieldOf v 20 5))
  | 6 =>
    match MovDst.all[fieldOf v 24 4]?, MovSrc.all[fieldOf v 20 4]?, MovOp.all[fieldOf v 17 3]? with
    | some d, some s, some o => some (.mov d s o)
    | _, _, _ => none
  | 7 => some (.setPins (bitAt v 27) (bitAt v 26) (fieldOf v 18 8) (fieldOf v 10 8))
  | 8 => (AluOp.all[fieldOf v 25 3]?).map (fun o => .alu o (bitAt v 24) (bitAt v 23) (fieldOf v 0 16))
  | 9 => (StampWhat.all[fieldOf v 26 2]?).map (fun w => .stamp w (bitAt v 25) (bitAt v 24))
  | 10 =>
    match TrigBase.all[fieldOf v 26 2]?, TrigAct.all[fieldOf v 23 3]? with
    | some b, some a => some (.ttrig b a (fieldOf v 20 3) (bitAt v 19) (fieldOf v 0 19))
    | _, _ => none
  | 11 => (ChkOp.all[fieldOf v 25 3]?).map (fun o =>
      .chk o (bitAt v 24) (if o = .fold then countOf (fieldOf v 19 5) else fieldOf v 19 5))
  | 12 => (FifoOp.all[fieldOf v 25 2]?).map (fun o => .fifo (bitAt v 27) o)
  | 13 => (FlagOp.all[fieldOf v 22 2]?).map (fun o => .event (fieldOf v 25 3) (bitAt v 24) o (fieldOf v 19 3))
  | 14 => (LdiMode.all[fieldOf v 25 2]?).map (fun m => .ldi (bitAt v 27) m (fieldOf v 0 16))
  | 15 => some (.yield (bitAt v 27))
  | _ => none

/-- The instruction a word spells in a context with `pc` pins; none for a reserved encoding (R255): a reserved
field value, a field rule broken, or a reserved field that is not zero, so that the fields do not spell the
whole word. -/
def Yemal.decode (pc v : Nat) : Option Yemal :=
  match Yemal.unpack v with
  | some y => if y.wf pc && y.encode = v then some y else none
  | none => none

end Sys2Proof
end

