-- ==== Sys2Proof/Machine/FramerOps.lean ====
section
/-! DEFINITION. The cluster framers: assembling packets, emitting frames, storing and unpacking frames, pending
reads, the context register block as seen from outside (R241-R244, R247, R249). -/

namespace Sys2Proof.Machine

/-! ### The register block (R249) -/

/-- CTX_TXF or CTX_RXF. -/
def Fifo.word (q : Fifo) : Nat := put1 q.flush 31 + q.pkts * 2 ^ 16 + q.free * 2 ^ 8 + q.words

/-- Word `k` of the register block of a context (R249). -/
def State.ctxWord (s : State) (e c k : Nat) : Nat :=
  let x := s.ctx e c
  match k with
  | 0 => s.rdn e ENG.CTX_CTRL_INJ_PREEMPT c * 32 + put1 x.inj.isSome 4 + put1 x.startPend 0
  | 1 => s.rdn e ENG.CTX_CFG_FIFO_SW c * 2 ^ 17 + s.rdn e ENG.CTX_CFG_HDR c * 2 ^ 16 +
      s.rdn e ENG.CTX_CFG_PIN_BASE c * 2 ^ 8 + s.rdn e ENG.CTX_CFG_PIN_COUNT c * 16 + s.rdn e ENG.CTX_CFG_CLASS c
  | 2 => s.rdn e ENG.CTX_DEADLINE_D c
  | 3 => x.pc
  | 4 => put1 x.savedValid 31 + x.savedPc
  | 5 => x.x.toNat
  | 6 => x.y.toNat
  | 7 => x.osr.toNat
  | 8 => x.isr.toNat
  | 9 => x.isrCnt * 2 ^ 8 + x.osrCnt
  | 10 => put1 x.read.isSome 17 + put1 x.inj.isSome 16 + x.lastEv * 2 ^ 13 + put1 x.abortLate 12 +
      x.stopResult * 2 ^ 10 + put1 x.overrun 9 + put1 x.late 8 + put1 x.deferred 7 + put1 x.eoc 6 + x.stall * 8 +
      put1 x.ready 1 + put1 x.run 0
  | 11 => s.rdn e ENG.CTX_INJ_INSTR c
  | 12 => s.rdn e ENG.CTX_BITPER_PERIOD c
  | 13 => s.rdn e ENG.CTX_DEST_TC c * 2 ^ 28 + s.rdn e ENG.CTX_DEST_DEST c
  | 14 => x.tx.word
  | 15 => x.rx.word
  | _ => 0

/-- The sixteen words of a register block. -/
def State.ctxBlock (s : State) (e c : Nat) : List Nat := (List.range 16).map (s.ctxWord e c)

/-! ### Outgoing packets (R241, R243, R244) -/

/-- A packet is discarded and counted; `raise` says whether FRM_DROP is raised too (R241). -/
def State.frameDrop (s : State) (e : Nat) (raise : Bool) : State :=
  let s1 := s.satn e ENG.FRM_DROP_CNT_COUNT
  if raise then s1.raise (engPage e) 12 else s1

/-- The words in the assembly store of a cluster; it holds 64 KiB (R241). -/
def State.asmWords (s : State) (cl : Nat) : Nat :=
  s.ctxs.foldl (fun n x => if x.1 / 256 = cl then n + x.2.asm.length else n) 0

/-- The framer reads RX FIFO words into the packet, up to an end mark, while `room` words fit the store; it
releases each word as it reads it (R237, R241). -/
def Ctx.framerRead : Nat → Nat → Ctx → Ctx
  | 0, _, x => x
  | _, 0, x => x
  | n + 1, room + 1, x =>
    if x.asmWhole || x.rx.flush || x.rx.words = 0 then x
    else
      let t := x.rx.take
      Ctx.framerRead n room { x with rx := t.2.release, asm := x.asm ++ [t.1.word], asmWhole := t.1.last }

/-- The framer reads each RX FIFO word as soon as it is present, unless software has taken its place (R240,
R241). -/
def State.framerRead (s : State) (e c : Nat) : State :=
  if s.rdn e ENG.CTX_CFG_FIFO_SW c = 1 then s
  else
    let room := 16384 - s.asmWords (clusterOf e)
    s.updCtx e c (Ctx.framerRead 16 room)

/-- Words as bytes, each most significant byte first (R89). -/
def wordBytes (ws : List Word) : List Byte := ws.flatMap (fun w => natb (beBytes 4 w.toNat))

/-- Bytes as words, most significant byte first. -/
def bytesWords (bs : List Byte) : List Word :=
  (List.range (bs.length / 4)).map (fun i => BitVec.ofNat 32 (ofBe (bnat ((bs.drop (4 * i)).take 4))))

/-- A pushed packet with RD = 1: the answer to the pending read, or discarded and counted (R244). -/
def State.readAnswer (s : State) (e c : Nat) (data : List Byte) : State :=
  match (s.ctx e c).read with
  | none => s.frameDrop e false
  | some r =>
    if r.count < data.length then s.frameDrop e false
    else if s.muted e c then s.updCtx e c (fun x => { x with read := none })
    else
      let a : Access := { op := 2, flags := 0, tag := r.tag, offset := r.offset, count := r.count, data := [] }
      (s.updCtx e c (fun x => { x with read := none })).answer (4 + clusterOf e) r.req a 0x82 0 data

/-- A muted frame of class `tc` bound for the ring takes the next number without being sent, as the active twin's frame
does; the number is noted for a takeover that repeats the frame (R174, R178, log 19). -/
def State.noteNumber (s : State) (e c tc : Nat) : State :=
  if nodeOf (s.rdn e ENG.CTX_DEST_DEST c) = s.nodeId then s
  else
    let n : SeqNote := { cycle := s.boundary.2, ctx := 32 * e + c, cls := tc, seq := s.rd TRANSIT.SEQ_NEXT_NEXT tc }
    State.inc { s with twin := { s.twin with numbers := s.twin.numbers ++ [n] } } TRANSIT.SEQ_NEXT_NEXT tc

/-- The number the next frame of a context repeats in this cycle, if it repeats one (R178). -/
def State.repeatOf (s : State) (e c tc : Nat) : Option SeqNote :=
  s.twin.repeats.find? (fun (n : SeqNote) => n.ctx = 32 * e + c && n.cls = tc && decide (s.boundary.2 ≤ n.cycle))

/-- A frame that repeats one of the recovery point keeps that frame's number, and the counter stands as before (R178). -/
def State.sendRepeat (s : State) (inp : Nat) (f : Frame) (n : SeqNote) : State :=
  let next := s.rd TRANSIT.SEQ_NEXT_NEXT f.tc
  let s1 := (((s.wr TRANSIT.SEQ_NEXT_NEXT n.seq f.tc).send inp f).2).wr TRANSIT.SEQ_NEXT_NEXT next f.tc
  { s1 with twin := { s1.twin with repeats := s1.twin.repeats.erase n } }

/-- A packet becomes a frame of the context (R241); a muted one is not sent (R174, log 19), a repeated one keeps its
number (R178). -/
def State.emitPacket (s : State) (e c ep : Nat) (words : List Word) : State :=
  let tc := s.rdn e ENG.CTX_DEST_TC c
  let f : Frame := { tc := tc, dest := s.rdn e ENG.CTX_DEST_DEST c, src := s.nodeId * 8192 + ep, len := 4 * words.length,
                     payload := wordBytes words }
  if s.muted e c then (if maxLen tc < 4 * words.length then s else s.noteNumber e c tc)
  else if maxLen tc < 4 * words.length then s.frameDrop e true
  else match s.repeatOf e c tc with
    | some n => s.sendRepeat (4 + clusterOf e) f n
    | none => (s.send (4 + clusterOf e) f).2

/-- A whole packet is taken out of the assembly store and emitted, answered with, or discarded (R241, R243). -/
def State.emitWhole (s : State) (e c : Nat) (words : List Word) : State :=
  let own := 16 + 32 * e + c
  if s.rdn e ENG.CTX_CFG_HDR c = 0 then s.emitPacket e c own words
  else match words with
    | [] => s
    | h :: rest =>
      let idx := bits h.toNat 24 7
      if bitOf h.toNat 31 then s.readAnswer e c (wordBytes rest)
      else if idx = 127 then s.emitPacket e c own rest
      else if idx < s.rdn e ENG.SUBA_COUNT c then s.emitPacket e c (s.rdn e ENG.SUBA_BASE c + idx) rest
      else s.frameDrop e true

/-! ### Incoming frames (R242-R244) -/


/-- Words of a stored packet move into the TX FIFO while it has room, the end mark on the last (R242). -/
def unpackWords (dest seq : Nat) : Nat → StoredPkt → Fifo → StoredPkt × Fifo
  | 0, p, q => (p, q)
  | n + 1, p, q =>
    match p.words[p.done]? with
    | none => (p, q)
    | some w =>
      if q.free = 0 then (p, q)
      else unpackWords dest seq n { p with done := p.done + 1 }
        (q.put { word := w, last := p.done + 1 = p.words.length, dest := dest, seq := seq })

/-- The framer unpacks the first stored frame as space frees; once its last word is in the TX FIFO its WRITE
is answered with WACK and it leaves the store, whose room the output waits for (R140, R242, R302). -/
def State.unpackOne (s : State) (e c : Nat) : Bool × State :=
  let x := s.ctx e c
  match x.store with
  | [] => (false, s)
  | p :: rest =>
    let r := unpackWords p.req.dest p.req.seq 16 p x.tx
    if r.1.done < r.1.words.length then
      (false, s.updCtx e c (fun x => { x with tx := r.2, store := r.1 :: rest }))
    else
      let s1 := s.updCtx e c (fun x => { x with tx := r.2, store := rest })
      (true, (match (if p.wack then parseAccess p.req else none) with
        | some a => s1.answer (4 + clusterOf e) p.req a 0x81 0 []
        | none => s1).touchOut (4 + clusterOf e))

/-- Unpacks what fits of at most four stored frames, in arrival order (R242). -/
def State.unpack (s : State) (e c : Nat) : Nat → State
  | 0 => s
  | n + 1 =>
    if s.rdn e ENG.CTX_CFG_FIFO_SW c = 1 then s
    else match s.unpackOne e c with
      | (true, t) => t.unpack e c n
      | (false, t) => t

/-- Ends a pending read by a refusal with code unavailable (R244). -/
def State.refuseRead (s : State) (e c : Nat) : State :=
  match (s.ctx e c).read with
  | none => s
  | some r => (s.updCtx e c (fun x => { x with read := none })).refuse (4 + clusterOf e) r.req 4

/-- The timer of a pending read (R244). -/
def tRead (e c : Nat) : Nat := 2000 + 32 * e + c

/-- The framer has no place for the packet: the context is stopped, its engine fenced, or it already holds
four frames (R242). -/
def State.packetUnavail (s : State) (e c : Nat) : Bool :=
  !(s.ctx e c).run || s.engFenced e || !s.engOn e || decide (4 ≤ (s.ctx e c).store.length)

/-- A packet for a context enters the receive store (R242). -/
def State.storePacket (s : State) (e c : Nat) (f : Frame) (words : List Word) (wack : Bool) : State :=
  (s.updCtx e c (fun x => { x with store := x.store ++ [{ words := words, size := f.statedLen, req := f, wack := wack }] })).unpack e c 4

/-- A read of a context's register block (R242, R249). -/
def State.readBlock (s : State) (e c : Nat) (f : Frame) (a : Access) : State :=
  let inp := 4 + clusterOf e
  if a.offset < 0x2000 ∨ 0x2040 ≤ a.offset then s.refuse inp f 2
  else if a.offset % 4 ≠ 0 then s.refuse inp f 1
  else if 0x2040 < a.offset + a.count then s.refuse inp f 2
  else if !s.mayRead (s.arrivalPort f) (engPage e) then s.refuse inp f 3
  else if s.engFenced e || !s.engOn e then s.refuse inp f 4
  else
    let ws := (List.range (a.count / 4)).map (fun i => s.ctxWord e c ((a.offset - 0x2000) / 4 + i))
    s.answer inp f a 0x82 0 (natb (ws.flatMap (leBytes 4)))

/-- A frame for a context's own endpoint that is not a read (R242, R243). -/
def State.frameToCtx (s : State) (e c : Nat) (f : Frame) (off : Nat) (data : List Byte) (wack : Bool) : State :=
  let inp := 4 + clusterOf e
  if off ≠ 0 then s.refuse inp f (if 0x2000 ≤ off ∧ off < 0x2040 then 3 else 2)
  else if s.packetUnavail e c then s.refuse inp f 4
  else s.storePacket e c f
    ((if s.rdn e ENG.CTX_CFG_HDR c = 1 then [BitVec.ofNat 32 (127 * 2 ^ 24)] else []) ++ bytesWords data) wack

/-- A frame for a sub-address endpoint (R242-R244). -/
def State.frameToSuba (s : State) (e c : Nat) (f : Frame) (off : Nat) (data : List Byte) (read : Option Access) : State :=
  let inp := 4 + clusterOf e
  let hdr := (localOf f.dest - s.rdn e ENG.SUBA_BASE c) * 2 ^ 24 + off
  if s.rdn e ENG.CTX_CFG_HDR c = 0 || s.packetUnavail e c || (read.isSome && (s.ctx e c).read.isSome) then s.refuse inp f 4
  else match read with
    | none => s.storePacket e c f (BitVec.ofNat 32 hdr :: bytesWords data) (f.tc = 4)
    | some a =>
      ((s.storePacket e c f [BitVec.ofNat 32 (2 ^ 31 + hdr), BitVec.ofNat 32 a.count] false).updCtx e c (fun x =>
        { x with read := some { req := f, tag := a.tag, offset := a.offset, count := a.count } })).start (tRead e c) (ms 10)

/-- The framer takes a frame for a context or sub-address endpoint, or refuses it, the first refusal in the
order of R242. -/
def State.framerTake (s : State) (e c : Nat) (f : Frame) : State :=
  let inp := 4 + clusterOf e
  let sub := decide (2048 ≤ localOf f.dest)
  if f.resp || f.refuse then s.countAnswer f
  else if f.tc ≠ 4 then
    if f.len = 0 || f.len % 4 ≠ 0 then s.refuse inp f 1
    else if sub then s.frameToSuba e c f 0 f.payload none
    else s.frameToCtx e c f 0 f.payload false
  else match parseAccess f with
    | none => s.refuse inp f 1
    | some a =>
      if !a.good f then s.refuse inp f 1
      else if a.op = 2 && bitOf a.flags 0 && s.sideEffect (localOf f.dest) then s.answer inp f a 0x82 2 []
      else if a.op = 1 then
        (if sub then s.frameToSuba e c f a.offset a.data none else s.frameToCtx e c f a.offset a.data true)
      else if sub then s.frameToSuba e c f a.offset [] (some a)
      else s.readBlock e c f a

end Sys2Proof.Machine
end

