-- ==== Sys2Proof/Machine/Flags.lean ====
section
/-! DEFINITION. What the ALU instructions compute and how they set Z and C (R267). -/

namespace Sys2Proof.Machine

/-- ADD: the sum. -/
def aluAdd (a b : Word) : Word := a + b

/-- The carry out of bit 31. -/
def carryAdd (a b : Word) : Bool := decide (2 ^ 32 ≤ a.toNat + b.toNat)

/-- SUB and CMP: the difference. -/
def aluSub (a b : Word) : Word := a - b

/-- The borrow: DST < source, unsigned. -/
def borrow (a b : Word) : Bool := decide (a.toNat < b.toNat)

/-- The shift amount: bits [4:0] of the source. -/
def shiftBy (b : Word) : Nat := b.toNat % 32

/-- SHL. -/
def aluShl (a b : Word) : Word := a <<< shiftBy b

/-- SHR. -/
def aluShr (a b : Word) : Word := a >>> shiftBy b

/-- The last bit shifted out to the left by `k`, 1 to 31. -/
def outLeft (a : Word) (k : Nat) : Bool := a.getLsbD (32 - k)

/-- The last bit shifted out to the right by `k`, 1 to 31. -/
def outRight (a : Word) (k : Nat) : Bool := a.getLsbD (k - 1)

/-- Z and C of the last ALU instruction. -/
def Ctx.setZC (x : Ctx) (r : Word) (c : Bool) : Ctx := { x with z := r = 0, c := c }

/-- Writes the destination register of an ALU instruction: X, or Y. -/
def Ctx.setXY (x : Ctx) (y : Bool) (r : Word) : Ctx := if y then { x with y := r } else { x with x := r }

end Sys2Proof.Machine
end

