-- ==== Sys2Proof/Machine/PinOps.lean ====
section
/-! DEFINITION. Field pins: holders, the driven condition, reading, placing edges, the bit grid, freezing, claims,
safe values (R166, R234, R235, R264, R280-R288). -/

namespace Sys2Proof.Machine

/-! ### Pins, banks, holders -/

/-- The input of a field pin. -/
def State.pinIn (s : State) (p : Nat) : PinIn := Tbl.get {} s.pins p

/-- Changes the input of a field pin. -/
def State.updPinIn (s : State) (p : Nat) (f : PinIn → PinIn) : State := { s with pins := Tbl.upd {} s.pins p f }

/-- BANK_STAT.SUPPLY_OK of the bank of pin `p` (R280, R281). -/
def State.bankOk (s : State) (p : Nat) : Bool := s.flagn (p / 32) PINBANK.BANK_STAT_SUPPLY_OK

/-- The filtered level of a pin, 0 while its bank's supply is out of its window (R281, R285). -/
def State.readPin (s : State) (p : Nat) : Bool := decide (p < 256) && (s.pinIn p).filt && s.bankOk p

/-- The pin units hold pin `p` (R282). -/
def PinUnit.holds (u : PinUnit) (p : Nat) : Bool := u.held && decide (u.base ≤ p) && decide (p < u.base + u.cnt)

/-- The context that holds a pin, as 32 n + c (R282). -/
def State.holder (s : State) (p : Nat) : Option Nat := (s.ctxs.find? (fun e => e.2.pin.holds p)).map (·.1)

/-- The mode drives field outputs and, in a twin pair, the ownership condition holds; an uncommissioned hub never drives
(R15, R24, R166, R283). -/
def State.drives (s : State) : Bool :=
  (s.mode = 3 || s.mode = 5) && s.role ≠ 3 &&
  (s.role ≠ 1 || (s.flag TWIN.STAT_OWN_OUT && !s.flag TWIN.STAT_OWN_IN))

/-- The bank of a pin may drive: its supply is in its window, its page is not fenced, and the fault of a lost
supply has been cleared (R281, R283, R476). -/
def State.bankDrives (s : State) (p : Nat) : Bool :=
  s.bankOk p && !s.fenced (0x50 + p / 32) && !bitOf (s.rdn (0x50 + p / 32) HDR.FLT_STAT_CHECKERS) 0

/-- A pin is driven, and at which level (R283); none while undriven. With OD a high level is released. -/
def State.driven (s : State) (p : Nat) : Option Bool :=
  match s.holder p with
  | none => none
  | some k =>
    let u := (Tbl.get {} s.ctxs k).pin
    let r := p - u.base
    if bitOf u.dirs r && !bitOf u.rel r && s.drives && s.bankDrives p then
      (if bitOf u.levels r && s.flagn (p / 32) PINBANK.PIN_CFG_OD (p % 32) then none else some (bitOf u.levels r))
    else none

/-! ### Edges (R264, R287, R288) -/

/-- Puts a bit into a number of relative pins. -/
def withBit (v i : Nat) (b : Bool) : Nat := if b then setBit v i else clrBit v i

/-- The time an edge due at `t` is placed: 2 ns after the last edge on the pin if it is due sooner (R288). Edges of one
nanosecond share one place; a time before the last edge's follows a step of fabric time back (log 68). -/
def spaced (last : Option (Nat × Nat)) (t : Nat) : Nat :=
  match last with
  | some (t0, placed) => if t = t0 then placed else if t < t0 then t else max t (placed + 2)
  | none => t

/-- The events of a nanosecond applied in the order of R288: the slot's bit, the TTRIG actions, the SET. -/
def PinEv.level (v : PinEv) : Bool :=
  v.set.getD (v.trig.foldl (fun l a => a.getD (!l)) (v.slot.getD v.start))

/-- An event joins those of its nanosecond; `rank` is 0 for a slot's bit, 1 for a TTRIG action (none: TOGGLE), 2 for a SET
(R288). -/
def PinEv.add (v : PinEv) (op : Option Bool) (rank : Nat) : PinEv :=
  match rank with
  | 0 => { v with slot := op }
  | 1 => { v with trig := v.trig ++ [op] }
  | _ => { v with set := op }

/-- The events of the nanosecond `t` on a pin, which begin from its level (R288). -/
def PinIn.evAt (i : PinIn) (t : Nat) (level : Bool) : PinEv :=
  match i.ev with
  | some v => if v.at_ = t then v else { at_ := t, start := level }
  | none => { at_ := t, start := level }

/-- An event on relative pin `r` of a context at time `t` ns, a level or (none) a TOGGLE. The pin takes the level that the
events of its nanosecond give together, and an edge is logged (R288). -/
def State.pinEvent (s : State) (e c r : Nat) (op : Option Bool) (t rank : Nat) : State :=
  let u := (s.ctx e c).pin
  let p := u.base + r
  if u.cnt ≤ r then s
  else
    let ev := ((s.pinIn p).evAt t (bitOf u.levels r)).add op rank
    let s1 := s.updPinIn p (fun i => { i with ev := some ev })
    if ev.level = bitOf u.levels r then s1
    else
      let t1 := spaced (s.pinIn p).edge t
      ((s1.updCtx e c (fun x => { x with pin := { x.pin with levels := withBit x.pin.levels r ev.level } })).updPinIn p
        (fun i => { i with edge := some (t, t1) })).emit (.item "FIO" [p, bit ev.level, t1])

/-- Relative pin `r` of a context is given a level at time `t` ns (R288). -/
def State.setLevel (s : State) (e c r : Nat) (v : Bool) (t rank : Nat) : State := s.pinEvent e c r (some v) t rank

/-- The pins of a mask are given levels. -/
def State.setLevels (s : State) (e c mask value t rank : Nat) : State :=
  (List.range 8).foldl (fun t' r => if bitOf mask r then t'.setLevel e c r (bitOf value r) t rank else t') s

/-- The pins of a mask are given directions, 1 output (R264). -/
def State.setDirs (s : State) (e c mask value : Nat) : State :=
  s.updCtx e c (fun x => { x with pin := { x.pin with dirs := (List.range (min 8 x.pin.cnt)).foldl (fun d r =>
    if bitOf mask r then withBit d r (bitOf value r) else d) x.pin.dirs } })

/-- SET without SYNC: levels or directions of the pins of a mask, now (R264). -/
def State.setNow (s : State) (e c : Nat) (dirs : Bool) (mask value : Nat) : State :=
  if dirs then s.setDirs e c mask value else s.setLevels e c mask value (roundNs s.fab) 2

/-- The input levels of the context's pins (R266). -/
def State.pinLevels (s : State) (e c : Nat) : Nat :=
  (List.range (min 8 (s.pinCount e c))).foldl (fun v r =>
    if s.readPin (s.rdn e ENG.CTX_CFG_PIN_BASE c + r) then v + 2 ^ r else v) 0

/-! ### The bit grid (R234, R287) -/

/-- The bit period of a context in fabric time units: CTX_BITPER in 2^-8 ns. -/
def State.bitPeriod (s : State) (e c : Nat) : Nat := s.rdn e ENG.CTX_BITPER_PERIOD c * 2 ^ 40

/-- The start of slot `j`. -/
def PinUnit.slotTime (u : PinUnit) (per j : Nat) : Nat := u.origin + j * per

/-- The middle of slot `j`. -/
def PinUnit.midTime (u : PinUnit) (per j : Nat) : Nat := u.origin + j * per + per / 2

/-- The first slot that begins at or after `t`. -/
def PinUnit.slotFrom (u : PinUnit) (per t : Nat) : Nat := if t ≤ u.origin then 0 else (t - u.origin + per - 1) / per

/-- The pins a slot occupies: those it drives with bits and those it clocks. -/
def PinSlot.uses (q : PinSlot) : Nat := q.clk.foldl (fun m k => setBit m k.1) q.mask

/-- What a slot holds, with what another adds to it. -/
def PinSlot.join (a b : PinSlot) : PinSlot :=
  { sets := a.sets ++ b.sets, mask := a.mask ||| b.mask, value := a.value ||| b.value, clk := a.clk ++ b.clk }

/-- The places a pin unit has left of its 32, where each bit and each SET that waits takes one (R234, R264). -/
def PinUnit.roomAt (u : PinUnit) (r : Nat) : Nat :=
  32 - u.outq.foldl (fun n q => n + bit (bitOf q.mask r) + (q.sets.filter (fun (x : Bool × Nat × Nat) => bitOf x.2.1 r)).length) 0

/-- The places every pin unit of a mask has left (R234). -/
def PinUnit.room (u : PinUnit) (mask : Nat) : Nat :=
  ((List.range 8).filter (bitOf mask)).foldl (fun n r => min n (u.roomAt r)) 32

/-- The pins of `w` lanes from `pin`. -/
def laneMask (pin w : Nat) : Nat := (2 ^ w - 1) * 2 ^ pin

/-- The place after the last queued slot that satisfies a condition. -/
def afterLast (p : PinSlot → Bool) (l : List PinSlot) : Nat := (l.reverse.dropWhile (fun q => !p q)).length

/-- A slot's contents enter the queue at place `i`. -/
def putSlot (l : List PinSlot) (i : Nat) (b : PinSlot) : List PinSlot :=
  if i < l.length then l.set i ((l.getD i {}).join b) else l ++ [b]

/-- Bits enter the next slot that is free in every pin unit they use (R234, R263). -/
def queueBits (l : List PinSlot) (b : PinSlot) : List PinSlot := putSlot l (afterLast (fun q => q.uses &&& b.uses ≠ 0) l) b

/-- A SET with SYNC enters the first slot after every bit passed before it (R264). -/
def queueSet (l : List PinSlot) (dirs : Bool) (mask value : Nat) : List PinSlot :=
  putSlot l (afterLast (fun q => q.mask ≠ 0) l) { sets := [(dirs, mask, value)] }

/-- No bit waits in the pin units' queues. -/
def PinUnit.noBits (u : PinUnit) : Bool := u.outq.all (fun q => q.mask = 0)

/-- The queue of a context's pin units takes a new form; an empty one begins at the first slot from now (R263). -/
def PinUnit.requeue (u : PinUnit) (per now : Nat) (l : List PinSlot) : PinUnit :=
  { u with slot := if u.outq = [] then max u.slot (u.slotFrom per now) else u.slot, outq := l }

/-- Slots are passed to the pin units, which drive them from the next free slot (R263). -/
def PinUnit.pass (u : PinUnit) (per now : Nat) (l : List PinSlot) : PinUnit :=
  if l = [] then u else { u.requeue per now (l.foldl queueBits u.outq) with fed := true }

/-- Slots are passed for a context. -/
def State.passSlots (s : State) (e c : Nat) (l : List PinSlot) : State :=
  s.updCtx e c (fun x => { x with pin := x.pin.pass (s.bitPeriod e c) s.fab l })

/-- A SET with SYNC is passed for a context (R264). -/
def State.passSet (s : State) (e c : Nat) (dirs : Bool) (mask value : Nat) : State :=
  s.updCtx e c (fun x => { x with pin := x.pin.requeue (s.bitPeriod e c) s.fab (queueSet x.pin.outq dirs mask value) })

/-- The samples that the pin units of all `w` lanes from `pin` hold (R234). -/
def PinUnit.sampled (u : PinUnit) (pin w : Nat) : Nat :=
  ((List.range w).map (fun j => (Tbl.get [] u.inbuf (pin + j)).length)).foldl min 32

/-- The first `n` samples of the lanes, each as a number of relative pins. -/
def PinUnit.samples (u : PinUnit) (pin w n : Nat) : List Nat :=
  (List.range n).map (fun i => (List.range w).foldl (fun v j =>
    if (Tbl.get [] u.inbuf (pin + j)).getD i false then v + 2 ^ (pin + j) else v) 0)

/-- The first `n` samples of the lanes leave their buffers. -/
def PinUnit.dropSamples (u : PinUnit) (pin w n : Nat) : PinUnit :=
  { u with inbuf := (List.range w).foldl (fun t j => Tbl.upd [] t (pin + j) (List.drop n)) u.inbuf }

/-- The pins freeze (R235). -/
def State.freeze (s : State) (e c : Nat) : State := s.updCtx e c (fun x => { x with pin := { x.pin with frozen := true } })

/-- The pins thaw: shifting resumes at the first slot from now (R235, R276). -/
def State.thaw (s : State) (e c : Nat) : State :=
  if (s.ctx e c).pin.frozen then
    s.updCtx e c (fun x => { x with pin := { x.pin with
      frozen := false, slot := max x.pin.slot (x.pin.slotFrom (s.bitPeriod e c) s.fab) } })
  else s

/-! ### Claims (R282) -/

/-- The first pin of a range below 256 that another context holds, with its holder. -/
def State.claimClash (s : State) (e c : Nat) : Option (Nat × Nat) :=
  let b := s.rdn e ENG.CTX_CFG_PIN_BASE c
  ((List.range (s.pinCount e c)).filterMap (fun r =>
    match s.holder (b + r) with
    | some k => if k = 32 * e + c || decide (256 ≤ b + r) then none else some (b + r, k)
    | none => none)).head?

/-- The refusal of a start, in CLAIM_LAST of a bank (R282, R295). -/
def State.claimRefused (s : State) (e c b pin hold : Nat) (beyond : Bool) : State :=
  ((((((s.wrn b PINBANK.CLAIM_LAST_VALID 1).wrn b PINBANK.CLAIM_LAST_REQ_ENG e).wrn b PINBANK.CLAIM_LAST_REQ_CTX c).wrn b
    PINBANK.CLAIM_LAST_HOLD_ENG (hold / 32)).wrn b PINBANK.CLAIM_LAST_HOLD_CTX (hold % 32)).wrn b
    PINBANK.CLAIM_LAST_OVER (bit beyond)).wrn b PINBANK.CLAIM_LAST_PIN (pin % 32)

/-- A context claims its pins at a start; refused (none) if one is held by another context or the range ends
beyond pin 255. A range that changed while the context was stopped replaces the one it held. -/
def State.claim (s : State) (e c : Nat) : Bool × State :=
  let b := s.rdn e ENG.CTX_CFG_PIN_BASE c
  let n := s.pinCount e c
  match s.claimClash e c with
  | some (p, k) => (false, s.claimRefused e c (p / 32) p k false)
  | none =>
    if 256 < b + n then (false, s.claimRefused e c 7 0 0 true)
    else (true, s.updCtx e c (fun x =>
      { x with pin := { x.pin with
          held := decide (0 < n), base := b, cnt := n,
          levels := if x.pin.base = b then x.pin.levels % 2 ^ n else 0, dirs := if x.pin.base = b then x.pin.dirs % 2 ^ n else 0 } }))

/-! ### Safe values (R284) -/

/-- The safe value of relative pin `r` of a context, if it is an output. -/
def State.safePin (s : State) (e c r : Nat) : State :=
  let u := (s.ctx e c).pin
  let p := u.base + r
  if bitOf u.dirs r && decide (r < u.cnt) then
    match s.rdn (p / 32) PINBANK.PIN_CFG_SAFE (p % 32) with
    | 0 => s.setLevel e c r false (roundNs s.fab) 2
    | 1 => s.setLevel e c r true (roundNs s.fab) 2
    | 2 => s.updCtx e c (fun x => { x with pin := { x.pin with rel := setBit x.pin.rel r } })
    | _ => s
  else s

/-- Every held output takes its safe value: the entry to SAFE where the hub holds ownership (R284). -/
def State.safePins (s : State) : State :=
  s.ctxs.foldl (fun t e => if e.2.pin.held then (List.range 8).foldl (fun t r => t.safePin (e.1 / 32) (e.1 % 32) r) t else t) s

/-- The outputs of a fenced engine's contexts with SAFE_ON_FENCE take their safe values (R284). -/
def State.fencePins (s : State) (n : Nat) : State :=
  s.ctxs.foldl (fun t e =>
    if e.2.pin.held && e.1 / 32 = n then
      (List.range 8).foldl (fun t r =>
        let p := e.2.pin.base + r
        if t.flagn (p / 32) PINBANK.PIN_CFG_SAFE_ON_FENCE (p % 32) then t.safePin n (e.1 % 32) r else t) t
    else t) s

end Sys2Proof.Machine
end

