-- ==== Sys2Proof/Machine/Operands.lean ====
section
/-! DEFINITION. The operand forms of the Yemal instructions: conditions of JMP and WAIT, sources, transforms and
destinations of MOV, ALU operands, the times of STAMP and TTRIG, the bits of IN and OUT (R260-R269). -/

namespace Sys2Proof.Machine

/-! ### JMP and WAIT -/

/-- Relative pin `i` of a context reads high (R260, R285). -/
def State.relPin (s : State) (e c i : Nat) : Bool := s.readPin (s.rdn e ENG.CTX_CFG_PIN_BASE c + i)

/-- D is not 0 and the slack is below 0 (R230, R260). -/
def State.isLate (s : State) (x : Ctx) : Bool := x.deadline ≠ 0 && decide ((x.began + x.deadline) * 2 ^ 48 < s.fab)

/-- The side effect of a JMP condition: LX and LY count down, MISS clears (R260). -/
def Ctx.jmpCount (x : Ctx) : JmpCond → Ctx
  | .lx => { x with x := x.x - 1 }
  | .ly => { x with y := x.y - 1 }
  | .miss => { x with miss := false }
  | _ => x

/-- A JMP condition, on the context before its side effect (R260). -/
def State.jmpCond (s : State) (e c idx : Nat) (x : Ctx) : JmpCond → Bool
  | .always => true
  | .xz => x.x = 0
  | .lx => x.x - 1 ≠ 0
  | .yz => x.y = 0
  | .ly => x.y - 1 ≠ 0
  | .xeqy => x.x = x.y
  | .z => x.z
  | .c => x.c
  | .pin => s.relPin e c idx
  | .flag => s.flagSeen e idx
  | .k => x.k
  | .miss => x.miss
  | .armed => x.action.isSome
  | .eop => x.eop
  | .pev => x.pev
  | .osr0 => x.osrCnt = 0
  | .txw => decide (1 ≤ x.tx.words)
  | .rxfull => x.rx.free = 0
  | .isr32 => x.isrCnt = 32
  | .xlty => decide (x.x.toNat < x.y.toNat)
  | .late => s.isLate x

/-- Every bit passed to the pin units has been driven (R261). -/
def PinUnit.drained (u : PinUnit) : Bool := u.noBits && u.half = []

/-- A WAIT source's condition (R261). -/
def State.waitSrc (s : State) (e c idx count : Nat) (x : Ctx) : WaitSrc → Bool
  | .pin => s.relPin e c idx
  | .flag => s.flagSeen e idx
  | .txwords => decide (count ≤ x.tx.words)
  | .txpkts => decide (count ≤ x.tx.pkts)
  | .rxfree => decide (count ≤ x.rx.free)
  | .armed => x.action.isSome
  | .pev => x.pev
  | .drained => x.osrCnt = 0 && x.pin.drained

/-! ### MOV -/

/-- The value of a MOV source (R266). -/
def State.movSrc (s : State) (e c : Nat) (x : Ctx) : MovSrc → Word
  | .x => x.x
  | .y => x.y
  | .osr => x.osr
  | .isr => x.isr
  | .pins => BitVec.ofNat 32 (s.pinLevels e c)
  | .pcsaved => BitVec.ofNat 32 (put1 x.savedValid 31 + x.savedPc)
  | .fifostat => BitVec.ofNat 32 (x.tx.words + x.tx.pkts * 2 ^ 8 + x.rx.free * 2 ^ 16 + x.rx.words * 2 ^ 24)
  | .zero => 0
  | .cnts => BitVec.ofNat 32 (x.isrCnt * 2 ^ 8 + x.osrCnt)
  | .slack => if x.deadline = 0 then 0 else BitVec.ofInt 32 (sat31 (s.slack x))
  | .cycle => BitVec.ofNat 32 s.boundary.2

/-- The bits of a word in reverse order. -/
def revBits (w : Word) : Word :=
  BitVec.ofNat 32 ((List.range 32).foldl (fun v i => 2 * v + w.toNat / 2 ^ i % 2) 0)

/-- The four bytes of a word in reverse order. -/
def revBytes (w : Word) : Word := BitVec.ofNat 32 (ofLe (beBytes 4 w.toNat))

/-- The number of 1 bits of a word. -/
def countOnes (w : Word) : Nat := ((List.range 32).filter (fun i => w.getLsbD i)).length

/-- A MOV transform (R266). -/
def movOp (w : Word) : MovOp → Word
  | .copy => w
  | .invert => ~~~w
  | .negate => -w
  | .bitrev => revBits w
  | .byterev => revBytes w
  | .halfswap => (w >>> 16) ||| (w <<< 16)
  | .ones => BitVec.ofNat 32 (countOnes w)

/-! ### ALU, LDI -/

/-- The destination register's value and the source of an ALU instruction: VALUE, or the other register
(R259, R267). -/
def Ctx.aluOperands (x : Ctx) (y imm : Bool) (value : Nat) : Word × Word :=
  let d := if y then x.y else x.x
  let o := if y then x.x else x.y
  (d, if imm then BitVec.ofNat 32 value else o)

/-- The value LDI writes over `d` (R267). -/
def ldiValue (d : Word) (imm : Nat) : LdiMode → Word
  | .zero => BitVec.ofNat 32 imm
  | .sign => BitVec.ofNat 32 (if 0x8000 ≤ imm then imm + 0xFFFF0000 else imm)
  | .high => BitVec.ofNat 32 (imm * 65536 + d.toNat % 65536)

/-! ### STAMP, TTRIG -/

/-- A time relative to the most recent boundary, as STAMP writes it (R268). -/
def State.relative (s : State) (t : Nat) : Word := BitVec.ofInt 32 (sat31 ((t : Int) - (s.boundary.1 : Int)))

/-- The nanoseconds of a time. -/
def nsPart (t : Nat) : Word := BitVec.ofNat 32 (t % 1000000000)

/-- The seconds of a time. -/
def secPart (t : Nat) : Word := BitVec.ofNat 32 (t / 1000000000)

/-- The base time of a TTRIG in fabric time units (R269). -/
def State.trigBase (s : State) (x : Ctx) : TrigBase → Nat
  | .boundary => s.boundary.1 * 2 ^ 48
  | .next => (s.boundary.1 + s.base.len) * 2 ^ 48
  | .event => x.pevNs * 2 ^ 48
  | .now => s.fab

/-- T = base + offset (R269), in fabric time units. -/
def State.trigTime (s : State) (x : Ctx) (base : TrigBase) (xoff : Bool) (offset : Nat) : Int :=
  (s.trigBase x base : Int) + (if xoff then x.x.toInt else (offset : Int)) * 2 ^ 48

/-! ### IN and OUT -/

/-- The bits of a slot on `w` pins from `pin` in the order they are taken (R262). -/
def laneOrder (pin w : Nat) (lsb : Bool) : List Nat :=
  if lsb then (List.range w).map (pin + ·) else ((List.range w).map (pin + ·)).reverse

/-- The bits a sample of all pins yields to an IN (R262). -/
def sampleBits (pin w : Nat) (lsb : Bool) (sample : Nat) : List Bool := (laneOrder pin w lsb).map (bitOf sample)

/-- One bit enters the ISR (R262). -/
def Ctx.isrBit (x : Ctx) (lsb b : Bool) : Ctx :=
  { x with
    isr := if lsb then (x.isr >>> 1) ||| (if b then 0x80000000#32 else 0) else (x.isr <<< 1) ||| (if b then 1#32 else 0)
    isrCnt := min 32 (x.isrCnt + 1) }

/-- Bits taken together, right-aligned in a register (R262). -/
def alignedBits (lsb : Bool) (bs : List Bool) : Word :=
  BitVec.ofNat 32 ((if lsb then bs.reverse else bs).foldl (fun v b => 2 * v + bit b) 0)

/-- The slot that puts bits on pins in the order they leave (R263). -/
def makeSlot (pin w : Nat) (lsb : Bool) (clk : Option (Nat × Bool)) (bs : List Bool) : PinSlot :=
  let vs := (laneOrder pin w lsb).zip bs
  { mask := laneMask pin w, value := vs.foldl (fun m q => if q.2 then m + 2 ^ q.1 else m) 0, clk := clk.toList }

/-- Bits cut into slots of `w`; `n` bounds the number of slots. -/
def makeSlots (pin w : Nat) (lsb : Bool) (clk : Option (Nat × Bool)) : Nat → List Bool → List PinSlot
  | 0, _ => []
  | _, [] => []
  | n + 1, bs => makeSlot pin w lsb clk (bs.take w) :: makeSlots pin w lsb clk n (bs.drop w)

/-- One bit leaves the OSR, or a zero once it has run down (R263). -/
def Ctx.osrBit (x : Ctx) (lsb : Bool) : Bool × Ctx :=
  if x.osrCnt = 0 then (false, x)
  else if lsb then (x.osr.getLsbD 0, { x with osr := x.osr >>> 1, osrCnt := x.osrCnt - 1 })
  else (x.osr.getLsbD 31, { x with osr := x.osr <<< 1, osrCnt := x.osrCnt - 1 })

/-- The bits an OUT from X or a constant passes: the low COUNT bits of X in the order IN fills them, zeros or
ones (R263). -/
def Ctx.outBitsOf (x : Ctx) (n : Nat) (lsb : Bool) : OutSrc → List Bool
  | .x => (if lsb then (List.range n) else (List.range n).reverse).map (fun i => x.x.getLsbD i)
  | .ones => List.replicate n true
  | _ => List.replicate n false

end Sys2Proof.Machine
end

