-- ==== Sys2Proof/Machine/EngOps.lean ====
section
/-! DEFINITION. The engines: what each Yemal instruction does, visits and stalls, dispatch, start, stop, injection,
fences (R224-R276). -/

namespace Sys2Proof.Machine

/-! ### IN and OUT in progress -/

/-- Changes the latched instruction. -/
def Ctx.updLatch (x : Ctx) (f : Latch → Latch) : Ctx := { x with latch := x.latch.map f }

/-- The bits the latched IN or OUT has still to move. -/
def Ctx.left (x : Ctx) : Nat := (x.latch.map (·.left)).getD 0

/-- The bits of one buffered sample enter the ISR and are snooped (R262, R290). -/
def Ctx.takeSample (p : Prof) (pin w : Nat) (lsb : Bool) (x : Ctx) (sample : Nat) : Ctx :=
  let bs := sampleBits pin w lsb sample
  let x1 := bs.foldl (fun (x : Ctx) b => x.isrBit lsb b) x
  { x1 with chk := x1.chk.snoop p true bs }

/-- An IN to the ISR takes the buffered samples it still needs (R262). -/
def Ctx.feedIsr (p : Prof) (pin w : Nat) (lsb : Bool) (x : Ctx) : Ctx :=
  let n := min (x.left / w) (x.pin.sampled pin w)
  let x1 := (x.pin.samples pin w n).foldl (Ctx.takeSample p pin w lsb) x
  { (x1.updLatch (fun l => { l with left := l.left - n * w })) with pin := x1.pin.dropSamples pin w n }

/-- An IN to X, Y or CHECK takes all its bits once they are buffered (R262). -/
def Ctx.takeAll (p : Prof) (pin w : Nat) (lsb : Bool) (n : Nat) (dst : InDst) (x : Ctx) : Ctx :=
  let k := n / w
  let bs := (x.pin.samples pin w k).flatMap (sampleBits pin w lsb)
  let x1 := { x with pin := x.pin.dropSamples pin w k, chk := x.chk.snoop p true bs }
  let x2 := match dst with
    | .x => { x1 with x := alignedBits lsb bs }
    | .y => { x1 with y := alignedBits lsb bs }
    | _ => x1
  x2.updLatch (fun l => { l with left := 0 })

/-- The IN in progress moves what it can (R262, R234). -/
def State.feedIn (s : State) (e c count pin lanes : Nat) (lsb : Bool) (dst : InDst) : State :=
  let w := lanePins lanes
  if dst = .isr then s.updCtx e c (Ctx.feedIsr (s.prof e c) pin w lsb)
  else if count / w ≤ (s.ctx e c).pin.sampled pin w then s.updCtx e c (Ctx.takeAll (s.prof e c) pin w lsb count dst)
  else s

/-- One bit of an OUT from the OSR: an appended bit, else a bit of the OSR or a zero, snooped; when it empties
a word pulled with an end mark and an append is armed, the check value follows (R263, R271, R290). Answers
the bit, or none when nothing is left, and whether an append began. -/
def Ctx.nextOut (p : Prof) (lsb : Bool) (x : Ctx) : Option Bool × Bool × Ctx :=
  match x.latch with
  | none => (none, false, x)
  | some l =>
    match l.extra with
    | b :: t => (some b, false, { x with latch := some { l with extra := t } })
    | [] =>
      if l.left = 0 then (none, false, x)
      else
        let o := x.osrBit lsb
        let k := o.2.chk.snoop p false [o.1]
        let ends := x.osrCnt = 1 && x.osrEnd && k.append
        (some o.1, ends, { o.2 with
          chk := { k with append := k.append && !ends }
          latch := some { l with left := l.left - 1, extra := if ends then k.value p else [] } })

/-- The next bits for a slot of up to `n` pins. -/
def Ctx.outGroup (p : Prof) (lsb : Bool) : Nat → Ctx → List Bool × Nat × Ctx
  | 0, x => ([], 0, x)
  | n + 1, x =>
    match x.nextOut p lsb with
    | (none, _, x1) => ([], 0, x1)
    | (some b, a, x1) =>
      let r := Ctx.outGroup p lsb n x1
      (b :: r.1, r.2.1 + (if a then 1 else 0), r.2.2)

/-- Slots of an OUT from the OSR while the queue has room; `fill` gives the bits of lanes a check value leaves
over (log 15). Answers the slots and the appends begun. -/
def Ctx.outSlots (p : Prof) (pin w : Nat) (lsb : Bool) (clk : Option (Nat × Bool)) (fill : Nat) :
    Nat → Ctx → List PinSlot × Nat × Ctx
  | 0, x => ([], 0, x)
  | n + 1, x =>
    let g := Ctx.outGroup p lsb w x
    if g.1 = [] then ([], g.2.1, g.2.2)
    else
      let bs := g.1 ++ (List.range (w - g.1.length)).map (bitOf fill)
      let r := Ctx.outSlots p pin w lsb clk fill n g.2.2
      (makeSlot pin w lsb clk bs :: r.1, g.2.1 + r.2.1, r.2.2)

/-- The clock option of an OUT. -/
def clkOf (clk : Bool) (clkpin : Nat) (cpol : Bool) : Option (Nat × Bool) := if clk then some (clkpin, cpol) else none

/-- The OUT in progress passes what the queue has room for (R263). -/
def State.feedOut (s : State) (e c count pin lanes : Nat) (lsb : Bool) (src : OutSrc) (clk : Option (Nat × Bool)) : State :=
  let w := lanePins lanes
  let x := s.ctx e c
  let p := s.prof e c
  if src = .osr then
    let r := Ctx.outSlots p pin w lsb clk s.draw.1 (x.pin.room (laneMask pin w)) x
    let s1 := if r.2.1 = 0 then s else s.incn e CHK.APPEND_CNT_COUNT 0 r.2.1
    let s2 := if w = 1 || (r.2.1 = 0 && (x.latch.map (·.extra)).getD [] = []) then s1 else s1.draw.2
    (s2.updCtx e c (fun _ => r.2.2)).passSlots e c r.1
  else if count / w ≤ x.pin.room (laneMask pin w) ∧ x.left ≠ 0 then
    let bs := x.outBitsOf count lsb src
    (s.updCtx e c (fun x => { (x.updLatch (fun l => { l with left := 0 })) with chk := x.chk.snoop p false bs })).passSlots e c
      (makeSlots pin w lsb clk 32 bs)
  else s

/-- An IN or OUT in progress has moved every bit. -/
def Ctx.moved (x : Ctx) : Bool :=
  match x.latch with
  | some l => l.left = 0 && l.extra = []
  | none => true

/-- The latched instruction decoded for its context. -/
def State.latched (s : State) (e c : Nat) : Option Yemal :=
  match (s.ctx e c).latch with
  | some l => Yemal.decode (s.pinCount e c) l.word
  | none => none

/-- Whatever IN or OUT is in progress moves what it can: after a bit slot, or as a stall is tested. -/
def State.feed (s : State) (e c : Nat) : State :=
  match s.latched e c with
  | some (.inBits n pin lanes lsb dst) => s.feedIn e c n pin lanes lsb dst
  | some (.outBits n pin lanes lsb src clk cp cpol) => s.feedOut e c n pin lanes lsb src (clkOf clk cp cpol)
  | _ => s

/-! ### What each instruction does -/

/-- How a visit ends: the instruction is done, it set the program counter, it stalls with a cause of R249, or it
takes a second visit. -/
inductive Visit where
  | done
  | jumped
  | stall (cause : Nat)
  | first
  deriving DecidableEq, Repr

/-- JMP (R260). -/
def State.doJmp (s : State) (e c : Nat) (neg : Bool) (cond : JmpCond) (idx addr : Nat) : Visit × State :=
  let x := s.ctx e c
  let s1 := s.updCtx e c (fun x => x.jmpCount cond)
  if s.jmpCond e c idx x cond != neg then (.jumped, s1.updCtx e c (fun x => { x with pc := addr })) else (.done, s1)

/-- A wait on flag `k` until it is 1 (R261). -/
def waitsOn (y : Option Yemal) (k : Nat) : Bool :=
  match y with
  | some (.wait true .flag idx _ _) => idx = k
  | _ => false

/-- The flag of an ended wait with CLR is cleared; other contexts whose waits for it end in the same period end
them too (R261). -/
def State.waitClear (s : State) (e k : Nat) : State :=
  let s1 := (List.range 32).foldl (fun (t : State) c =>
    if (t.ctx e c).stall = 5 && waitsOn (t.latched e c) k then
      (t.updCtx e c (fun x => { (x.updLatch (fun l => { l with hit := true })) with stall := 0 })).becomeReady e c
    else t) (s.settleFlags e (s.issueCycle e))
  s1.wrn e ENG.FLAGS_FLAG (clrBit (s1.rdn e ENG.FLAGS_FLAG) k)

/-- WAIT at its dispatch (R261). -/
def State.doWait (s : State) (e c : Nat) (pol : Bool) (src : WaitSrc) (idx count : Nat) (clr : Bool) : Visit × State :=
  if s.waitSrc e c idx count (s.ctx e c) src = pol then (.done, if clr then s.waitClear e idx else s) else (.stall 5, s)

/-- IN at its dispatch (R262, R276). -/
def State.doIn (s : State) (e c count pin lanes : Nat) (lsb : Bool) (dst : InDst) : Visit × State :=
  let s1 := ((s.thaw e c).updCtx e c (fun x => x.updLatch (fun l => { l with left := count }))).feedIn e c count pin lanes lsb dst
  if (s1.ctx e c).moved then (.done, s1) else (.stall 3, s1)

/-- OUT at its dispatch (R263, R276). -/
def State.doOut (s : State) (e c count pin lanes : Nat) (lsb : Bool) (src : OutSrc) (clk : Option (Nat × Bool)) :
    Visit × State :=
  let s0 := (s.thaw e c).updCtx e c (fun x =>
    { (x.updLatch (fun l => { l with left := count })) with lastOut := some (pin, lanePins lanes, lsb, clk) })
  let s1 := s0.feedOut e c count pin lanes lsb src clk
  if (s1.ctx e c).moved then (.done, s1) else (.stall 4, s1)

/-- A stall at PULL or PUSH freezes the pins (R235). -/
def State.stallFrozen (s : State) (e c cause : Nat) : Visit × State :=
  if (s.ctx e c).pin.frozen then (.stall cause, s)
  else (.stall cause, (s.freeze e c).updCtx e c (fun x => x.updLatch (fun l => { l with froze := true })))

/-- The word a PUSH stores. -/
def Ctx.pushWord (x : Ctx) : PushSrc → Word
  | .isr => x.isr
  | .x => x.x
  | .y => x.y

/-- The check unit checks the context's input stream, so a PUSH with END stores its verdict (R265, R293). -/
def State.storesVerdict (s : State) (e c : Nat) (last : Bool) : Bool := last && (s.ctx e c).chk.dirIn

/-- A word goes into the RX FIFO. -/
def State.rxPut (s : State) (e c : Nat) (w : Word) (last : Bool) : State :=
  s.updCtx e c (fun x => { x with rx := x.rx.put { word := w, last := last } })

/-- PUSH (R265). -/
def State.doPush (s : State) (e c : Nat) (last : Bool) (src : PushSrc) (min : Nat) (keep : Bool) : Visit × State :=
  let x := s.ctx e c
  let verdict := s.storesVerdict e c last
  if src = .isr && decide (x.isrCnt < min) then (.done, s)
  else if x.rx.free < (if verdict then 2 else 1) then s.stallFrozen e c 2
  else
    let s1 := if verdict then
        let v := s.verdict e c
        (v.2.rxPut e c (x.pushWord src) false).rxPut e c (BitVec.ofNat 32 v.1) true
      else s.rxPut e c (x.pushWord src) last
    let s2 := if src = .isr && !keep then s1.updCtx e c (fun x => { x with isr := 0, isrCnt := 0 }) else s1
    (.done, s2.framerRead e c)

/-- PULL (R265, R272). -/
def State.doPull (s : State) (e c : Nat) (dst : PullDst) (gate : Bool) (low : Nat) : Visit × State :=
  let x := s.ctx e c
  if gate && decide (low < x.osrCnt) then (.done, s)
  else if x.tx.flush then s.stallFrozen e c 6
  else if x.tx.words = 0 then s.stallFrozen e c 1
  else
    let t := x.tx.take
    (.done, s.updCtx e c (fun x =>
      let x1 := { x with tx := t.2, eop := t.1.last }
      match dst with
      | .osr => { x1 with osr := t.1.word, osrCnt := 32, osrEnd := t.1.last }
      | .x => { x1 with x := t.1.word }
      | .y => { x1 with y := t.1.word }))

/-- MOV (R266). -/
def State.doMov (s : State) (e c : Nat) (dst : MovDst) (src : MovSrc) (op : MovOp) : Visit × State :=
  let v := movOp (s.movSrc e c (s.ctx e c) src) op
  let mask := 2 ^ s.pinCount e c - 1
  match dst with
  | .x => (.done, s.updCtx e c (fun x => { x with x := v }))
  | .y => (.done, s.updCtx e c (fun x => { x with y := v }))
  | .osr => (.done, s.updCtx e c (fun x => { x with osr := v, osrEnd := false }))
  | .isr => (.done, s.updCtx e c (fun x => { x with isr := v }))
  | .pins => (.done, (s.thaw e c).setNow e c false mask v.toNat)
  | .dirs => (.done, (s.thaw e c).setNow e c true mask v.toNat)
  | .pc => (.jumped, s.updCtx e c (fun x => { x with pc := v.toNat % 2048 }))
  | .cnts => (.done, s.updCtx e c (fun x =>
      { x with isrCnt := min 32 (bits v.toNat 8 6), osrCnt := min 32 (bits v.toNat 0 6) }))

/-- SET (R264, R276). -/
def State.doSet (s : State) (e c : Nat) (dirs sync : Bool) (mask value : Nat) : Visit × State :=
  let s1 := s.thaw e c
  if !sync then (.done, s1.setNow e c dirs mask value)
  else if (s1.ctx e c).pin.room mask = 0 then (.stall 4, s1)
  else (.done, s1.passSet e c dirs mask value)

/-- An ALU instruction that writes `r` and C `cy` (R267). -/
def State.aluWrite (s : State) (e c : Nat) (y : Bool) (r : Word) (cy : Bool) : Visit × State :=
  (.done, s.updCtx e c (fun x => (x.setXY y r).setZC r cy))

/-- ALU ADD. -/
def State.doAdd (s : State) (e c : Nat) (y imm : Bool) (value : Nat) : Visit × State :=
  let o := (s.ctx e c).aluOperands y imm value
  s.aluWrite e c y (aluAdd o.1 o.2) (carryAdd o.1 o.2)

/-- ALU SUB. -/
def State.doSub (s : State) (e c : Nat) (y imm : Bool) (value : Nat) : Visit × State :=
  let o := (s.ctx e c).aluOperands y imm value
  s.aluWrite e c y (aluSub o.1 o.2) (borrow o.1 o.2)

/-- ALU AND. -/
def State.doAnd (s : State) (e c : Nat) (y imm : Bool) (value : Nat) : Visit × State :=
  let o := (s.ctx e c).aluOperands y imm value
  s.aluWrite e c y (o.1 &&& o.2) false

/-- ALU OR. -/
def State.doOr (s : State) (e c : Nat) (y imm : Bool) (value : Nat) : Visit × State :=
  let o := (s.ctx e c).aluOperands y imm value
  s.aluWrite e c y (o.1 ||| o.2) false

/-- ALU XOR. -/
def State.doXor (s : State) (e c : Nat) (y imm : Bool) (value : Nat) : Visit × State :=
  let o := (s.ctx e c).aluOperands y imm value
  s.aluWrite e c y (o.1 ^^^ o.2) false

/-- A shift by 0 shifts no bit out, so the spec states no C: a free value (log 16). -/
def State.shiftCarry (s : State) (k : Nat) (cy : Bool) : Bool × State :=
  if k = 0 then (s.draw.1 % 2 = 1, s.draw.2) else (cy, s)

/-- ALU SHL. -/
def State.doShl (s : State) (e c : Nat) (y imm : Bool) (value : Nat) : Visit × State :=
  let o := (s.ctx e c).aluOperands y imm value
  let k := s.shiftCarry (shiftBy o.2) (outLeft o.1 (shiftBy o.2))
  k.2.aluWrite e c y (aluShl o.1 o.2) k.1

/-- ALU SHR. -/
def State.doShr (s : State) (e c : Nat) (y imm : Bool) (value : Nat) : Visit × State :=
  let o := (s.ctx e c).aluOperands y imm value
  let k := s.shiftCarry (shiftBy o.2) (outRight o.1 (shiftBy o.2))
  k.2.aluWrite e c y (aluShr o.1 o.2) k.1

/-- ALU CMP: the flags only. -/
def State.doCmp (s : State) (e c : Nat) (y imm : Bool) (value : Nat) : Visit × State :=
  let o := (s.ctx e c).aluOperands y imm value
  (.done, s.updCtx e c (fun x => x.setZC (aluSub o.1 o.2) (borrow o.1 o.2)))

/-- STAMP (R268). -/
def State.doStamp (s : State) (e c : Nat) (what : StampWhat) (toy keep : Bool) : Visit × State :=
  (.done, s.updCtx e c (fun x =>
    let drop := { x with pev := x.pev && keep }
    match what with
    | .eventRel => drop.setXY toy (s.relative x.pevNs)
    | .nowRel => x.setXY toy (s.relative s.fabNs)
    | .eventAbs => { drop with x := nsPart x.pevNs, y := secPart x.pevNs }
    | .nowAbs => { x with x := nsPart s.fabNs, y := secPart s.fabNs }))

/-- The number of an action, as the context record carries it (R170, R259). -/
def actCode (a : TrigAct) : Nat := codeIn a TrigAct.all

/-- TTRIG: the first visit takes T, the second arms the action, late when T is less than 20 ns ahead (R256,
R269, R270, R276). -/
def State.doTtrig (s : State) (e c : Nat) (base : TrigBase) (act : TrigAct) (pin : Nat) (xoff : Bool) (offset : Nat) :
    Visit × State :=
  let x := s.ctx e c
  match (x.latch.bind (·.at_)) with
  | none => (.first, s.updCtx e c (fun x => x.updLatch (fun l => { l with at_ := some (s.trigTime x base xoff offset) })))
  | some t =>
    let late := decide (t < (s.fab : Int) + 20 * 2 ^ 48)
    let s1 := if act = .origin then s.thaw e c else s
    (.done, s1.updCtx e c (fun x => { x with action := some (t, actCode act, pin, late), miss := x.miss || late }))

/-- TTRIG CANCEL: two visits, then the armed action is disarmed (R256, R269). -/
def State.doCancel (s : State) (e c : Nat) : Visit × State :=
  match ((s.ctx e c).latch.bind (·.at_)) with
  | none => (.first, s.updCtx e c (fun x => x.updLatch (fun l => { l with at_ := some 0 })))
  | some _ => (.done, s.updCtx e c (fun x => { x with action := none }))

/-- CHK SEED. -/
def State.doSeed (s : State) (e c : Nat) (arg : Bool) : Visit × State := (.done, s.seed e c arg)

/-- CHK SEEDX. -/
def State.doSeedx (s : State) (e c : Nat) (arg : Bool) : Visit × State := (.done, s.seedX e c arg)

/-- CHK FOLD (R271). -/
def State.doFold (s : State) (e c width : Nat) : Visit × State :=
  (.done, s.updCtx e c (fun x => { x with chk := { x.chk with run := (s.prof e c).fold x.chk.run (msbBits width x.x.toNat) } }))

/-- The options an APPEND at once uses: those of the last OUT; before any OUT the spec gives none, and they are
free values (log 15). -/
def State.appendOptions (s : State) (e c : Nat) : (Nat × Nat × Bool × Option (Nat × Bool)) × State :=
  match (s.ctx e c).lastOut with
  | some o => (o, s)
  | none => ((s.draw.1 % 8, 1, s.draw.1 / 8 % 2 = 1, none), s.draw.2)

/-- CHK APPEND: armed, or the check value passed at once, not snooped (R271, R290, R292). -/
def State.doAppend (s : State) (e c : Nat) (now : Bool) : Visit × State :=
  if now then
    let o := s.appendOptions e c
    let bs := (s.ctx e c).chk.value (s.prof e c)
    let w := o.1.2.1
    let d := o.2.draw
    let pad := if bs.length % w = 0 then [] else (List.range (w - bs.length % w)).map (bitOf d.1)
    (.done, (d.2.incn e CHK.APPEND_CNT_COUNT).passSlots e c (makeSlots o.1.1 w o.1.2.2.1 o.1.2.2.2 32 (bs ++ pad)))
  else (.done, s.updCtx e c (fun x => { x with chk := { x.chk with append := true } }))

/-- CHK VERIFY (R271, R293). -/
def State.doVerify (s : State) (e c : Nat) : Visit × State :=
  (.done, s.updCtx e c (fun x => { x with k := x.chk.pass (s.prof e c) }))

/-- CHK SAVE (R271). -/
def State.doSave (s : State) (e c : Nat) : Visit × State :=
  (.done, s.updCtx e c (fun x => { x with x := BitVec.ofNat 32 x.chk.run }))

/-- CHK PAUSE (R271). -/
def State.doPause (s : State) (e c : Nat) (arg : Bool) : Visit × State :=
  (.done, s.updCtx e c (fun x => { x with chk := { x.chk with paused := arg } }))

/-- FIFO MARK (R272). -/
def State.doMark (s : State) (e c : Nat) : Visit × State := (.done, s.updCtx e c (fun x => { x with tx := x.tx.mark }))

/-- FIFO REWIND (R272). -/
def State.doRewind (s : State) (e c : Nat) : Visit × State := (.done, s.updCtx e c (fun x => { x with tx := x.tx.rewind }))

/-- FIFO RELEASE: the space is freed, and the framer unpacks into it (R237, R242, R272). -/
def State.doRelease (s : State) (e c : Nat) : Visit × State :=
  (.done, (s.updCtx e c (fun x => { x with tx := x.tx.release })).unpack e c 4)

/-- A flush of the TX FIFO is requested (R238). -/
def State.flushTx (s : State) (e c : Nat) : State :=
  (s.updCtx e c (fun x => { x with tx := x.tx.requestFlush })).unpack e c 4

/-- A flush of the RX FIFO is requested; the frame being assembled from it, whose end mark has not been read, is abandoned and
counted (R238). -/
def State.flushRx (s : State) (e c : Nat) : State :=
  let s1 := s.updCtx e c (fun x => { x with rx := x.rx.requestFlush })
  if (s1.ctx e c).asm = [] || (s1.ctx e c).asmWhole then s1
  else (s1.updCtx e c (fun x => { x with asm := [], asmWhole := false })).frameDrop e false

/-- FIFO FLUSH (R238, R272). -/
def State.doFlush (s : State) (e c : Nat) (rx : Bool) : Visit × State := (.done, if rx then s.flushRx e c else s.flushTx e c)

/-- EVENT: the engine event at once, the flag change seen from the fourth issue cycle after it (R257, R273). -/
def State.doEvent (s : State) (e c num : Nat) (irq : Bool) (fop : FlagOp) (flag : Nat) : Visit × State :=
  let s1 := if irq then
      ((s.wrn e ENG.EV_CTX_RAISED (setBit (s.rdn e ENG.EV_CTX_RAISED) c)).updCtx e c (fun x => { x with lastEv := num })).raise
        (engPage e) num
    else s
  (.done, if fop = .none then s1
    else s1.updEng e (fun g => { g with flagq := g.flagq ++ [(g.lastIssue + 4, decide (fop = .set), flag)] }))

/-- LDI (R267). -/
def State.doLdi (s : State) (e c : Nat) (y : Bool) (mode : LdiMode) (imm : Nat) : Visit × State :=
  (.done, s.updCtx e c (fun x => x.setXY y (ldiValue (if y then x.y else x.x) imm mode)))

/-- YIELD without EOC: the visit ends (R228, R273). -/
def State.doYield (s : State) : Visit × State := (.done, s)

/-- A context missed its tolerance: a late cycle end of class C1 to C3 while its cluster is slowed or deferring
(R437). -/
def State.contextMiss (s : State) (e c : Nat) : State :=
  let cl := clusterOf e
  let cls := s.ctxClass e c
  let clk := if cl = 0 then s.rd CLOCKS.CLUS_STAT_CLK_A else s.rd CLOCKS.CLUS_STAT_CLK_B
  if cls = 0 || (clk = 0 && s.deferLevel cl = 0) then s
  else
    let s1 := ((s.sat POWER.TOL_MISS_CNT_COUNT).wr POWER.TOL_LAST_VALID 1).wr POWER.TOL_LAST_KIND 0
    let s2 := (s1.wr POWER.TOL_LAST_CLASS cls).wr POWER.TOL_LAST_WHERE (32 * e + c)
    { s2 with bud := { s2.bud with missed := insertNat s2.bud.missed cl } }.raise 0x01 4

/-- The lateness of a cycle end is judged and offered (R230). -/
def State.judgeEnd (s : State) (e c : Nat) : State :=
  let x := s.ctx e c
  if x.deadline = 0 then s
  else
    let s1 := s.offer 20 (some (32 * e + c)) (-(s.slack x))
    if s.isLate x then
      (((s1.updCtx e c (fun x => { x with late := true })).satn e ENG.LATE_CNT_COUNT).raise (engPage e) 8).contextMiss e c
    else s1

/-- YIELD with EOC: the context ends its cycle's work (R228, R230, R232). -/
def State.doYieldEoc (s : State) (e c : Nat) : Visit × State :=
  let s1 := (s.endDeferral e c false).updCtx e c (fun x => { x with eoc := true, eocCycle := some (s.eng e).lastIssue })
  (.done, s1.judgeEnd e c)

/-- What an instruction does in a visit (R258). -/
def State.doYemal (s : State) (e c : Nat) : Yemal → Visit × State
  | .jmp neg cond idx addr => s.doJmp e c neg cond idx addr
  | .wait pol src idx count clr => s.doWait e c pol src idx count clr
  | .inBits n pin lanes lsb dst => s.doIn e c n pin lanes lsb dst
  | .outBits n pin lanes lsb src clk cp cpol => s.doOut e c n pin lanes lsb src (clkOf clk cp cpol)
  | .push last src min keep => s.doPush e c last src min keep
  | .pull dst gate low => s.doPull e c dst gate low
  | .mov dst src op => s.doMov e c dst src op
  | .setPins dirs sync mask value => s.doSet e c dirs sync mask value
  | .alu .add y imm v => s.doAdd e c y imm v
  | .alu .sub y imm v => s.doSub e c y imm v
  | .alu .and y imm v => s.doAnd e c y imm v
  | .alu .or y imm v => s.doOr e c y imm v
  | .alu .xor y imm v => s.doXor e c y imm v
  | .alu .shl y imm v => s.doShl e c y imm v
  | .alu .shr y imm v => s.doShr e c y imm v
  | .alu .cmp y imm v => s.doCmp e c y imm v
  | .stamp what toy keep => s.doStamp e c what toy keep
  | .ttrig _ .cancel _ _ _ => s.doCancel e c
  | .ttrig base act pin xoff offset => s.doTtrig e c base act pin xoff offset
  | .chk .seed arg _ => s.doSeed e c arg
  | .chk .seedx arg _ => s.doSeedx e c arg
  | .chk .fold _ width => s.doFold e c width
  | .chk .append arg _ => s.doAppend e c arg
  | .chk .verify _ _ => s.doVerify e c
  | .chk .save _ _ => s.doSave e c
  | .chk .pause arg _ => s.doPause e c arg
  | .fifo _ .mark => s.doMark e c
  | .fifo _ .rewind => s.doRewind e c
  | .fifo _ .release => s.doRelease e c
  | .fifo rx .flush => s.doFlush e c rx
  | .event num irq fop flag => s.doEvent e c num irq fop flag
  | .ldi y mode imm => s.doLdi e c y mode imm
  | .yield true => s.doYieldEoc e c
  | .yield false => s.doYield

/-! ### Visits -/

/-- The word of program memory (R252). -/
def State.progWord (s : State) (e bank a : Nat) : Nat := Tbl.get 0 s.prog ((2 * e + bank) * 2048 + a % 2048)

/-- The bank in use. -/
def State.bank (s : State) (e : Nat) : Nat := s.rdn e ENG.PB_STAT_BANK

/-- The program counter after a completed instruction that did not set it: unchanged after an injected one, the
resume entry of a swap that came meanwhile, else the next word (R252, R256, R274, R278). -/
def nextPc (pc : Nat) (l : Latch) : Nat :=
  match l.resume with
  | some p => p
  | none => if l.inj then pc else (pc + 1) % 2048

/-- How a visit leaves the context (R256): done and jumped end the instruction, a stall keeps it latched with
its cause and ends a deferral (R232). -/
def State.endVisit (s : State) (e c : Nat) : Visit → State
  | .done => s.updCtx e c (fun x => { x with latch := none, pc := (x.latch.map (nextPc x.pc)).getD x.pc })
  | .jumped => s.updCtx e c (fun x => { x with latch := none })
  | .first => s
  | .stall k => (s.endDeferral e c false).updCtx e c (fun x => { x with stall := k })

/-- A visit of a latched instruction: one whose bits have moved or whose wait has ended completes; PULL and PUSH
take or store their word now; a TTRIG arms (R256). -/
def State.visitLatched (s : State) (e c : Nat) (l : Latch) (y : Yemal) : State :=
  let again := match y with
    | .push _ _ _ _ => true
    | .pull _ _ _ => true
    | _ => !l.hit
  if again then
    let r := s.doYemal e c y
    r.2.endVisit e c r.1
  else s.endVisit e c .done

/-- A visit that issues a word: it is latched, counted and executed. -/
def State.visitWord (s : State) (e c w : Nat) (inj : Bool) (y : Yemal) : State :=
  let s1 := (s.incn e ENG.DISP_COUNT).updCtx e c (fun x => { x with latch := some { word := w, inj := inj } })
  let r := s1.doYemal e c y
  r.2.endVisit e c r.1

/-! ### Stopping (R246, R255) -/

/-- A context stops with a result: 1 ABORTED, 2 COMPLETE; `late` is ABORT_LATE (R246). A stalled instruction is
abandoned, and a freeze of its stall ends. -/
def State.halt (s : State) (e c result : Nat) (late : Bool) : State :=
  let s1 := (s.endDeferral e c false).updCtx e c (fun x =>
    { x with run := false, eoc := false, stall := 0, stopReq := false, stopResult := result, abortLate := late,
             pin := { x.pin with frozen := x.pin.frozen && !((x.latch.map (·.froze)).getD false) }, latch := none })
  let s2 := s1.raise (engPage e) 10
  if late then s2.raise (engPage e) 15 else s2

/-- A reserved encoding is reached: the context stops as ABORTED and the word is recorded (R255, R279). -/
def State.illegal (s : State) (e c w : Nat) (inj : Bool) : State :=
  let s1 := (((s.wrn e ENG.PB_ILL_VALID 1).wrn e ENG.PB_ILL_CONTEXT c).wrn e ENG.PB_ILL_INJECTED (bit inj)).wrn e
    ENG.PB_ILL_PC (s.ctx e c).pc
  (s1.wrn e ENG.PB_ILL_WORD_INSTR w).halt e c 1 false

/-! ### Dispatch (R224, R231) -/

/-- A context is urgent in the sense of rule 1 of R231. -/
def State.urgent (s : State) (e : Nat) (x : Ctx) : Bool :=
  let w := s.rdn e ENG.ENG_CFG_URGENT
  w ≠ 0 && x.deadline ≠ 0 && decide (((x.began + x.deadline) * 2 ^ 48 : Nat) - (s.fab : Int) ≤ 10 * w * 2 ^ 48)

/-- Some rule of R231 lets the dispatcher pick the context: a deferred one only while it is urgent. -/
def State.eligible (s : State) (e : Nat) (x : Ctx) : Bool := x.issuable && (!x.deferred || s.urgent e x)

/-- The issue cycle of the next dispatch of engine `e`: the next one free by R224 in which some context may be picked. -/
def State.dispatchCycle (s : State) (e : Nat) : Nat :=
  let k := max (s.mono / s.issuePeriod e) ((s.eng e).lastIssue + 1)
  let ns := ((List.range 32).filter (fun c => s.eligible e (s.ctx e c))).map (fun c => (s.ctx e c).nextIssue)
  match ns with
  | [] => k
  | n :: t => max k (t.foldl min n)

/-- Rule 1 prefers `b` to `a`: lower class, then earlier B + D, then lower number. -/
def State.moreUrgent (s : State) (e : Nat) (a b : Nat) : Bool :=
  let ka := (s.ctxClass e a, (s.ctx e a).began + (s.ctx e a).deadline)
  let kb := (s.ctxClass e b, (s.ctx e b).began + (s.ctx e b).deadline)
  decide (kb.1 < ka.1) || (kb.1 = ka.1 && decide (kb.2 < ka.2))

/-- The contexts the dispatcher may pick in a cycle. -/
def State.candidates (s : State) (e cycle : Nat) : List Nat :=
  (List.range 32).filter (fun c => s.eligible e (s.ctx e c) && decide ((s.ctx e c).nextIssue ≤ cycle))

/-- The dispatcher's choice of R231, none if no context qualifies or the engine does not dispatch; LISTEN runs no engine
program (R24). -/
def State.pick (s : State) (e : Nat) : Option Nat :=
  if !s.engOn e || s.engFenced e || (s.eng e).paused || s.mode = 2 then none
  else
    let k := s.dispatchCycle e
    let cs := s.candidates e k
    match cs.filter (fun c => s.urgent e (s.ctx e c)) with
    | u :: us => some (us.foldl (fun a b => if s.moreUrgent e a b then b else a) u)
    | [] =>
      let last := s.rdn e ENG.ENG_STAT_LAST_CTX
      ((List.range 32).map (fun i => (last + 1 + i) % 32)).find? (fun c => cs.contains c && !(s.ctx e c).deferred)

/-- What is due at a dispatch of a context. -/
inductive Due where
  | latched (l : Latch)
  | stop
  | inject (w : Nat)
  | fetch (w : Nat)
  deriving DecidableEq, Repr

/-- What is due at the context's next dispatch: the second visit of a TTRIG, else a requested stop, else the
completion of a latched instruction, else a pending injection, else the word at CTX_PC (R246, R256, R275). -/
def State.due_ (s : State) (e c : Nat) : Due :=
  let x := s.ctx e c
  match x.latch with
  | some l => if x.stopReq && l.at_ = none then .stop else .latched l
  | none =>
    if x.stopReq then .stop
    else match x.inj with
      | some w => .inject w
      | none => .fetch (s.progWord e (s.bank e) x.pc)

/-- A dispatch takes its issue cycle, and the flags of earlier EVENTs are seen (R224, R248, R257). -/
def State.takeCycle (s : State) (e c : Nat) : State :=
  let k := s.dispatchCycle e
  let s1 := (s.settleFlags e k).wrn e ENG.ENG_STAT_LAST_CTX c
  (s1.updEng e (fun g => { g with lastIssue := k })).updCtx e c (fun x => { x with nextIssue := k + 4 })

/-- At the end of a visit a wanted snapshot of the context is captured (R247). -/
def State.capture (s : State) (e c : Nat) : State :=
  if (s.eng e).snapOf = some c && (s.eng e).captured = none then
    s.updEng e (fun g => { g with captured := some (s.ctxBlock e c) })
  else s

/-- Engine `e` dispatches context `c`, whose due instruction must be one of `kind`; nothing happens where the
dispatcher picks another context or another instruction is due (log 14). -/
def State.dispatch (s : State) (e c : Nat) (kind : Yemal → Bool) : State :=
  if s.pick e ≠ some c then s
  else match s.due_ e c with
    | .latched l =>
      match Yemal.decode (s.pinCount e c) l.word with
      | some y => if kind y then ((s.takeCycle e c).visitLatched e c l y).capture e c else s
      | none => s
    | .fetch w =>
      match Yemal.decode (s.pinCount e c) w with
      | some y => if kind y then ((s.takeCycle e c).visitWord e c w false y).capture e c else s
      | none => s
    | _ => s

/-- The injected word executes (R274). -/
def State.injectRun (s : State) (e c : Nat) : State :=
  if s.pick e ≠ some c then s
  else match s.due_ e c with
    | .inject w =>
      let s1 := (s.takeCycle e c).updCtx e c (fun x => { x with inj := none })
      match Yemal.decode (s.pinCount e c) w with
      | some y => (s1.visitWord e c w true y).capture e c
      | none => (s1.illegal e c w true).capture e c
    | _ => s

/-- A reserved encoding is due (R255). -/
def State.reservedRun (s : State) (e c : Nat) : State :=
  if s.pick e ≠ some c then s
  else match s.due_ e c with
    | .fetch w =>
      if Yemal.decode (s.pinCount e c) w = none then ((s.takeCycle e c).illegal e c w false).capture e c else s
    | .inject w =>
      if Yemal.decode (s.pinCount e c) w = none then
        (((s.takeCycle e c).updCtx e c (fun x => { x with inj := none })).illegal e c w true).capture e c
      else s
    | _ => s

/-- The completion point of a STOP (R246): a YIELD with end-of-cycle executes and the context stops COMPLETE;
anything else is not executed and it stops ABORTED. -/
def State.stopRun (s : State) (e c : Nat) : State :=
  if s.pick e ≠ some c then s
  else match s.due_ e c with
    | .stop =>
      let s1 := s.takeCycle e c
      let w := s.progWord e (s.bank e) (s.ctx e c).pc
      if (s.ctx e c).latch = none && w = 0xF8000000 then
        ((s1.visitWord e c w false (.yield true)).halt e c 2 true).capture e c
      else (s1.halt e c 1 false).capture e c
    | _ => s

/-! ### Start, stop, clear, injection, fences -/

/-- A context starts, if its engine is on, not fenced, and its pins can be claimed (R245, R282). In LISTEN, which runs no
engine program (R24), it waits for the boundary at which the hub leaves it. -/
def State.startNow (s : State) (e c : Nat) : State :=
  if (s.ctx e c).run || s.engFenced e || !s.engOn e then s
  else if s.mode = 2 then s.updCtx e c (fun x => { x with startPend := true })
  else
    let cl := s.claim e c
    if !cl.1 then cl.2
    else
      (cl.2.updCtx e c (fun x =>
        { x with run := true, eoc := false, stall := 0, stopReq := false, startPend := false, stopResult := 0,
                 abortLate := false, began := s.boundary.1, spent := false, judged := false,
                 pin := { x.pin with
                   origin := s.fab, slot := 0, half := [], rest := [], rel := 0 } })).becomeReady e c

/-- CTX_CTRL.START: the context begins at the next boundary (R245). -/
def State.startAtBoundary (s : State) (e c : Nat) : State :=
  if (s.ctx e c).run then s else s.updCtx e c (fun x => { x with startPend := true })

/-- The registers CLEAR returns to their reset values (R245, R249). -/
def clearFields : List Fld :=
  [ENG.CTX_CTRL_INJ_PREEMPT, ENG.CTX_CFG_FIFO_SW, ENG.CTX_CFG_HDR, ENG.CTX_CFG_PIN_BASE, ENG.CTX_CFG_PIN_COUNT,
   ENG.CTX_CFG_CLASS, ENG.CTX_DEADLINE_D, ENG.CTX_INJ_INSTR, ENG.CTX_BITPER_PERIOD, ENG.CTX_DEST_TC, ENG.CTX_DEST_DEST]

/-- CTX_CTRL.CLEAR: registers, FIFOs, flags, pins and check unit of a stopped context return to their reset
values; a pending read is refused. What the framer holds stays with it: it unpacks into the cleared FIFO (R242, R244, R245,
R257, R270, R275, R282, R294). -/
def State.clearCtx (s : State) (e c : Nat) : State :=
  if (s.ctx e c).run then s
  else
    let s1 := s.refuseRead e c
    let s2 := clearFields.foldl (fun t f => t.wrn e f (f.dflt c) c) s1
    (s2.updCtx e c (fun x => { store := x.store, asm := x.asm, asmWhole := x.asmWhole, nextIssue := x.nextIssue })).unpack e c 4

/-- CTX_CTRL.STOP (R246): a context that has ended its cycle stops at once, COMPLETE, and with ABORT_LATE if
the YIELD was dispatched in this issue cycle; a stalled one stops at once, ABORTED; any other at its next
dispatch. -/
def State.stopCtx (s : State) (e c : Nat) : State :=
  let x := s.ctx e c
  if !x.run then s
  else if x.eoc then s.halt e c 2 (x.eocCycle = some (s.issueCycle e))
  else if x.stall ≠ 0 then s.halt e c 1 false
  else s.updCtx e c (fun x => { x with stopReq := true })

/-- CTX_CTRL.INJ_GO (R274, R276): latches CTX_INJ; with INJ_PREEMPT a stall is abandoned and the pins freeze. -/
def State.injectGo (s : State) (e c : Nat) : State :=
  let x := s.ctx e c
  if x.inj.isSome then s
  else
    let s1 := s.updCtx e c (fun x => { x with inj := some (s.rdn e ENG.CTX_INJ_INSTR c) })
    if s1.flagn e ENG.CTX_CTRL_INJ_PREEMPT c && x.run && x.stall ≠ 0 then
      (s1.updCtx e c (fun x => { x with savedPc := x.pc, savedValid := true, latch := none, stall := 0,
                                        pin := { x.pin with frozen := true } })).becomeReady e c
    else s1

/-- A write of CTX_CTRL (R249): INJ_PREEMPT first, then the requests. -/
def State.writeCtxCtrl (s : State) (e c v : Nat) : State :=
  let s1 := s.wrn e ENG.CTX_CTRL_INJ_PREEMPT (bits v 5 1) c
  let s2 := if bitOf v 3 then s1.clearCtx e c else s1
  let s3 := if bitOf v 2 then s2.stopCtx e c else s2
  let s4 := if bitOf v 1 then s3.startNow e c else s3
  let s5 := if bitOf v 0 then s4.startAtBoundary e c else s4
  if bitOf v 4 then s5.injectGo e c else s5

/-- A fence of an engine: its contexts stop as ABORTED, its pending reads are refused, outputs with
SAFE_ON_FENCE take their safe values (R244, R251, R284). -/
def State.fenceEngine (s : State) (n : Nat) : State :=
  let s0 := s.updEng n (fun g => { g with lostC0 := s.holdsC0 n })
  ((List.range 32).foldl (fun t c =>
    let t1 := t.refuseRead n c
    if (t1.ctx n c).run then t1.halt n c 1 false else t1) s0).fencePins n

/-- Every context of every engine stops as a STOP resulting in ABORTED (R484). -/
def State.abortAll (s : State) : State :=
  s.ctxs.foldl (fun t e => if e.2.run then t.halt (e.1 / 32) (e.1 % 32) 1 false else t) s

/-! ### Stall ends -/

/-- The condition of the context's stall as the hub tests it now, moving what bits can move first; a flush that
has ended leaves a PULL waiting for a word (R234, R235, R256, R261, R265). -/
def State.stallEnded (s : State) (e c : Nat) : Bool :=
  let x := s.ctx e c
  match s.latched e c with
  | some (.wait pol src idx count _) => s.waitSrc e c idx count x src = pol
  | some (.inBits _ _ _ _ _) => x.moved
  | some (.outBits _ _ _ _ _ _ _ _) => x.moved
  | some (.setPins _ _ mask _) => x.pin.room mask ≠ 0
  | some (.push last _ _ _) => decide ((if s.storesVerdict e c last then 2 else 1) ≤ x.rx.free)
  | some (.pull _ _ _) => !x.tx.flush && x.tx.words ≠ 0
  | _ => false

/-- What the end of a stall itself does: the SET passes its slot, an ended WAIT clears its flag. -/
def State.stallEffect (s : State) (e c : Nat) : State :=
  match s.latched e c with
  | some (.setPins dirs _ mask value) => s.passSet e c dirs mask value
  | some (.wait _ _ idx _ true) => s.waitClear e idx
  | _ => s

/-- A stall is tested; when it ends the context is ready, its pins thaw if the stall froze them, and the
instruction completes at the next dispatch (R235, R256). -/
def State.testStall (s : State) (e c : Nat) : State :=
  let x := s.ctx e c
  if !x.run || x.stall = 0 then s
  else
    let s1 := s.feed e c
    if s1.stallEnded e c then
      let s2 := s1.updCtx e c (fun x => { (x.updLatch (fun l => { l with hit := true })) with stall := 0 })
      let s3 := if (x.latch.map (·.froze)).getD false then s2.thaw e c else s2
      (s3.stallEffect e c).becomeReady e c
    else if x.stall = 6 && !(s1.ctx e c).tx.flush then s1.updCtx e c (fun x => { x with stall := 1 })
    else s1

end Sys2Proof.Machine
end

