-- ==== Sys2Proof/Machine/BoundaryOps.lean ====
section
/-! DEFINITION. What happens at a base-cycle boundary: bank swap, issue clocks and deferral levels, overruns,
contexts that become ready or start (R226-R233, R277, R278, R298, R432, R437). -/

namespace Sys2Proof.Machine

/-- The timer of an engine's dispatch pause (R227). -/
def tPause (e : Nat) : Nat := 60 + e

/-- The timer of a wanted snapshot (R247). -/
def tSnap (e : Nat) : Nat := 80 + e

/-- Dispatch of an engine pauses for 100 ns, and for 40 periods of the issue clock where a bank swap's pause lasts longer,
at 200 MHz (R183, R227). -/
def State.pauseEngine (s : State) (e : Nat) (swap : Bool := false) : State :=
  let d := if swap then max (ns 100) (40 * s.issuePeriod e) else ns 100
  let end_ := match Tbl.find s.timers (tPause e) with
    | some t => max t (s.mono + d)
    | none => s.mono + d
  (s.updEng e (fun g => { g with paused := true })).start (tPause e) (end_ - s.mono)

/-! ### Step 2: bank swap (R183, R253, R277, R278) -/

/-- The resume entry of a context in a bank, if it is VALID (R253). -/
def State.resumeEntry (s : State) (e bank c : Nat) : Option Nat :=
  let w := s.progWord e bank (0x7E0 + c)
  if bitOf w 31 then some (w % 2048) else none

/-- The context continues from the new bank; a latched instruction completes first (R278). -/
def Ctx.swapTo (x : Ctx) : Option Nat → Ctx
  | none => x
  | some p =>
    match x.latch with
    | some l => { x with latch := some { l with resume := some p } }
    | none => { x with pc := p }

/-- The requested swap of an engine takes effect at boundary number `num`. -/
def State.swapBank (s : State) (e num : Nat) : State :=
  let b := 1 - s.bank e
  let s1 := (List.range 32).foldl (fun (t : State) c =>
    match s.resumeEntry e b c with
    | none => t
    | some p => t.updCtx e c (fun x => x.swapTo (some p))) s
  (((s1.wrn e ENG.PB_STAT_BANK b).wrn e ENG.PB_STAT_SWAP_PEND 0).wrn e ENG.PB_STAT_SWAP_CYC num).pauseEngine e true

/-! ### Step 3: issue clocks and deferral levels (R432, R437) -/

/-- Writes element `i` of a list of two. -/
def setPair (l : List Nat) (i v : Nat) : List Nat := if i = 0 then [v, l.getD 1 0] else [l.getD 0 0, v]

/-- The issue clock of a cluster: 0 800, 1 400, 2 200 MHz (R441). -/
def State.clusClk (s : State) (cl : Nat) : Nat :=
  if cl = 0 then s.rd CLOCKS.CLUS_STAT_CLK_A else s.rd CLOCKS.CLUS_STAT_CLK_B

/-- CLUS_CFG.FORCE of a cluster. -/
def State.clusForce (s : State) (cl : Nat) : Nat :=
  if cl = 0 then s.rd CLOCKS.CLUS_CFG_FORCE_A else s.rd CLOCKS.CLUS_CFG_FORCE_B

/-- CLUS_CFG.C0_FLOOR of a cluster. -/
def State.clusFloor (s : State) (cl : Nat) : Nat :=
  if cl = 0 then s.rd CLOCKS.CLUS_CFG_C0_FLOOR_A else s.rd CLOCKS.CLUS_CFG_C0_FLOOR_B

/-- The cluster holds a working C0 context. -/
def State.clusC0 (s : State) (cl : Nat) : Bool := (List.range 8).any (fun i => s.holdsC0 (8 * cl + i))

/-- The clock a cluster should have: what FORCE fixes or the budget wants, not below the floor while it holds a
working C0 context (R233, R432). -/
def State.clkTarget (s : State) (cl : Nat) : Nat :=
  let want := if s.clusForce cl = 0 then s.bud.clkWant.getD cl 0 else s.clusForce cl - 1
  if s.clusC0 cl then min want (s.clusFloor cl) else want

/-- One step from `a` towards `b`. -/
def oneStep (a b : Nat) : Nat := if a < b then a + 1 else if b < a then a - 1 else a

/-- The issue cycles an engine counts go on from `now` as they went from `was`: those still to come stay as many cycles
ahead (R224, R257). -/
def EngUnit.recount (g : EngUnit) (was now : Nat) : EngUnit :=
  { g with lastIssue := g.lastIssue + now - was, flagq := g.flagq.map (fun (x : Nat × Bool × Nat) => (x.1 + now - was, x.2)) }

/-- The same for a context. -/
def Ctx.recount (x : Ctx) (was now : Nat) : Ctx :=
  { x with nextIssue := x.nextIssue + now - was, eocCycle := x.eocCycle.map (fun (k : Nat) => k + now - was) }

/-- The issue clock of engine `e` changes: the register and the count of issue cycles, which the new period measures (R224,
R248). -/
def State.setEngClk (s : State) (e v : Nat) : State :=
  let was := s.mono / s.issuePeriod e
  let s1 := s.wrn e ENG.ENG_STAT_CLOCK v
  let now := s1.mono / s1.issuePeriod e
  let s2 := s1.updEng e (fun g => g.recount was now)
  { s2 with ctxs := s2.ctxs.map (fun (k : Nat × Ctx) => if k.1 / 32 = e then (k.1, k.2.recount was now) else k) }

/-- The issue clock of a cluster changes: its registers, the count of steps, the pause of its engines (R227,
R248, R441). -/
def State.setClk (s : State) (cl v : Nat) : State :=
  let s1 := (if cl = 0 then s.wr CLOCKS.CLUS_STAT_CLK_A v else s.wr CLOCKS.CLUS_STAT_CLK_B v).inc CLOCKS.STEP_CNT_COUNT cl
  (List.range 8).foldl (fun t i => (t.setEngClk (8 * cl + i) v).pauseEngine (8 * cl + i)) s1

/-- The last `n` steps `x` of the budget's list are undone. -/
def dropSteps (l : List Nat) (x n : Nat) : List Nat :=
  (List.range n).foldl (fun (r : List Nat) _ => r.erase x) l.reverse |>.reverse

/-- A context miss makes the budget want the clock one step faster, where FORCE leaves it, and the deferral level
one lower, steps it need not undo again; CLK_HOLD restarts (R436, R437). -/
def State.applyMiss (s : State) (cl : Nat) : State :=
  if s.bud.missed.contains cl then
    let c := s.bud.clkWant.getD cl 0
    let d := s.bud.deferWant.getD cl 0
    let c' := min c (s.clusClk cl - 1)
    let d' := min d (s.deferLevel cl - 1)
    { s with bud := { s.bud with
      clkWant := setPair s.bud.clkWant cl c'
      deferWant := setPair s.bud.deferWant cl d'
      steps := dropSteps (dropSteps s.bud.steps (10 + cl) (d - d')) (20 + cl) (c - c')
      quiet := setPair s.bud.quiet cl 0 } }
  else { s with bud := { s.bud with quiet := setPair s.bud.quiet cl (min 255 (s.bud.quiet.getD cl 0 + 1)) } }

/-- The levers of a cluster take effect at the boundary, the clock by one step at most (R430, R432). -/
def State.clusBoundary (s : State) (cl : Nat) : State :=
  let s1 := s.applyMiss cl
  let d := s1.bud.deferWant.getD cl 0
  let s2 := if cl = 0 then s1.wr CLOCKS.CLUS_STAT_DEFER_A d else s1.wr CLOCKS.CLUS_STAT_DEFER_B d
  let v := oneStep (s2.clusClk cl) (s2.clkTarget cl)
  if v = s2.clusClk cl then s2 else s2.setClk cl v

/-! ### Steps 4 to 6 (R229, R230, R245) -/

/-- A context that has not ended its work when the boundary after the one it began at arrives overruns, once; in class C0 that
is also a fault (R230, R250). -/
def State.judgeOverrun (s : State) (e c : Nat) : State :=
  let x := s.ctx e c
  if x.run && !x.eoc && x.deadline ≠ 0 && !x.judged then
    let s1 := ((s.updCtx e c (fun x => { x with overrun := true, judged := true })).satn e ENG.OVERRUN_CNT_COUNT).raise (engPage e) 9
    if s.ctxClass e c = 0 then s1.report (engPage e) 4 (32 * e + c) else s1
  else s

/-- The D in force from this boundary in ns: CTX_DEADLINE in units of 10 ns, at most the base cycle (R229). -/
def State.newDeadline (s : State) (e c : Nat) : Nat := min (10 * s.rdn e ENG.CTX_DEADLINE_D c) s.base.len

/-- A context begins its cycle at the boundary at `b` ns: one that has ended its work becomes ready (R227,
R230). -/
def State.beginCycle (s : State) (e c b : Nat) : State :=
  let x := s.ctx e c
  let d := s.newDeadline e c
  if x.run && x.eoc then
    (s.updCtx e c (fun x => { x with eoc := false, late := false, overrun := false, judged := false, began := b,
                                     deadline := d })).becomeReady e c
  else if x.deadline = d && (x.deadline ≠ 0 || !x.run) then s
  else s.updCtx e c (fun x => { x with
    deadline := d, began := if x.run && x.deadline = 0 then b else x.began, judged := x.judged && !(x.run && x.deadline = 0) })

/-- A pending START begins, on time at the boundary (R227, R230, R245). -/
def State.beginStart (s : State) (e c : Nat) : State :=
  if (s.ctx e c).startPend then
    (s.updCtx e c (fun x => { x with startPend := false, late := x.run && x.late, overrun := x.run && x.overrun })).startNow e c
  else s

/-- Every context of the engines that are on, in ascending engine and context. -/
def State.overContexts (s : State) (f : State → Nat → Nat → State) : State :=
  (List.range 16).foldl (fun t e => if s.engOn e then (List.range 32).foldl (fun t c => f t e c) t else t) s

/-- A group swap of the update unit waits for a later boundary (R506). -/
def State.swapHeld (s : State) (num : Nat) : Bool :=
  match s.upd.swap with
  | some n => decide (num < n)
  | none => false

/-- Steps 2 to 6 of R227 at the boundary at `b` ns with number `num`. -/
def State.boundarySteps (s : State) (b num : Nat) : State :=
  let on := (List.range 16).filter s.engOn
  let s2 := on.foldl (fun t e =>
    let t1 := if t.flagn e ENG.PB_STAT_SWAP_PEND && !t.engFenced e && !t.swapHeld num then t.swapBank e num else t
    t1.loadProfiles e) s
  let s3 := [0, 1].foldl (fun t cl => if s.pdOn (4 + cl) then t.clusBoundary cl else t) s2
  let s3b := { s3 with bud := { s3.bud with missed := [] } }
  let s4 := s3b.overContexts State.judgeOverrun
  let s5 := s4.overContexts (fun t e c => t.beginCycle e c b)
  s5.overContexts State.beginStart

/-! ### The grid (R225, R226) -/

/-- New BC_LEN or BC_PHASE values wait for the start of the next whole second (R226). -/
def State.regrid (s : State) : State :=
  { s with base := { s.base with
    pend := some (s.rd ENG.BC_LEN_NS, s.rd ENG.BC_PHASE_NS, (s.fabNs / 1000000000 + 1) * 1000000000) } }

/-- A write of BC_LEN (R226, R248). -/
def State.writeBcLen (s : State) (v : Nat) : State := if ENG.BC_LEN_NS.ok v then (s.wr ENG.BC_LEN_NS v).regrid else s

/-- A write of BC_PHASE: 0 to BC_LEN - 1 (R248). -/
def State.writeBcPhase (s : State) (v : Nat) : State :=
  if v < s.rd ENG.BC_LEN_NS then (s.wr ENG.BC_PHASE_NS v).regrid else s

/-- The grid that waits comes into force (R226). -/
def State.gridChange (s : State) : State :=
  match s.base.pend with
  | some (len, phase, at_) =>
    if at_ ≤ s.fabNs then
      let f := s.base.prev (at_ - 1)
      { s with base := { s.base with
        len := len, phase := phase, since := at_, floorNs := f.1, floorNum := f.2, pend := none } }
    else s
  | none => s

end Sys2Proof.Machine
end

