-- ==== Sys2Proof/Machine/WordOps.lean ====
section
/-! DEFINITION. Writing the fields of one register word (R6, R8). -/

namespace Sys2Proof.Machine

/-- Writes a field's bits of the word `v` to copy `i` of it; a value the field does not take, or an RWL field of a
locked page, leaves it unchanged (R35, R149). -/
def State.put (s : State) (n v i : Nat) (f : Fld) : State :=
  if f.ok (bits v f.lo f.w) && !(f.acc = .rwl && s.locked (f.page + n)) then s.wrn n f (bits v f.lo f.w) i else s

/-- Writes several fields of one word. -/
def State.putAll (s : State) (n v i : Nat) (fs : List Fld) : State := fs.foldl (fun t f => t.put n v i f) s

/-- Clears the bits of a W1C field that the word holds as 1. -/
def State.w1c (s : State) (n v i : Nat) (f : Fld) : State :=
  s.wrn n f (s.rdn n f i - (s.rdn n f i &&& bits v f.lo f.w)) i

end Sys2Proof.Machine
end

