-- ==== Sys2Proof/Machine/BrkOps.lean ====
section
/-! DEFINITION. The breaker channels and the line: states, turning on and off, trips, the thermal curve (R401-R426). -/

namespace Sys2Proof.Machine

/-- The timers of channel `n`: DELAY, OFF_MIN, RAMP_MAX, the next ramp step; and the pause after an admitted slot. -/
def tDelay (n : Nat) : Nat := 120 + n
def tOffMin (n : Nat) : Nat := 140 + n
def tRampMax (n : Nat) : Nat := 160 + n
def tRampStep (n : Nat) : Nat := 180 + n
def tAdmit : Nat := 199

/-- Channel `n` beside its registers. -/
def State.brkCh (s : State) (n : Nat) : BrkCh := Tbl.get {} s.brk.chs n

/-- Changes channel `n`. -/
def State.updBrk (s : State) (n : Nat) (f : BrkCh → BrkCh) : State := { s with brk := { s.brk with chs := Tbl.upd {} s.brk.chs n f } }

/-- CH_STAT.STATE (R408). -/
def State.chState (s : State) (n : Nat) : Nat := s.rd BRK.CH_STAT_STATE n

/-- Writes CH_STAT.STATE. -/
def State.setCh (s : State) (n st : Nat) : State := s.wr BRK.CH_STAT_STATE st n

/-- Channel `n` is a slot outlet. -/
def isSlot (n : Nat) : Bool := decide (4 ≤ n)

/-! ### Voltages and currents (R420) -/

/-- A voltage code lies at or above a threshold in units of 0.25 V. -/
def codeGe (code thr : Nat) : Bool := decide (thr * 64 ≤ code * 5)

/-- A voltage code lies at or below a threshold in units of 0.25 V. -/
def codeLe (code thr : Nat) : Bool := decide (code * 5 ≤ thr * 64)

/-- The cable voltage code of a side: 0 east, 1 west. -/
def State.vCable (s : State) (i : Nat) : Nat := if i % 2 = 0 then s.rd LINE.V_E_CODE else s.rd LINE.V_W_CODE

/-- Writes the cable voltage code of a side. -/
def State.setCable (s : State) (i v : Nat) : State := if i % 2 = 0 then s.wr LINE.V_E_CODE v else s.wr LINE.V_W_CODE v

/-- The input voltage code of channel `n` (R401). -/
def State.vIn (s : State) (n : Nat) : Nat := if n < 2 then s.vCable n else s.rd LINE.V_BUS_CODE

/-- Writes the input voltage code of channel `n`. -/
def State.setVin (s : State) (n v : Nat) : State := if n < 2 then s.setCable n v else s.wr LINE.V_BUS_CODE v

/-- Writes the output voltage code of channel `n` (R401). -/
def State.setVout (s : State) (n v : Nat) : State :=
  if n < 2 then s.wr LINE.V_BUS_CODE v
  else if n < 4 then s.setCable n v
  else s.wr LINE.V_SLOT_CODE v (n - 4)

/-- A current sample of channel `n`, in 10 mA: NOW and the largest so far (R424). -/
def State.setCur (s : State) (n : Nat) (i : Int) : State :=
  let s1 := s.wr LINE.I_NOW_NOW (ofSigned 16 i) n
  if (s1.rd LINE.I_NOW_MAX n : Int) < i then s1.wr LINE.I_NOW_MAX i.toNat n else s1

/-- The last current sample of channel `n`. -/
def State.curOf (s : State) (n : Nat) : Int := toSigned 16 (s.rd LINE.I_NOW_NOW n)

/-- The input of channel `n` lies inside its on-window (R408). -/
def State.inOnWindow (s : State) (n : Nat) : Bool :=
  codeGe (s.vIn n) (s.rd BRK.CH_WIN_UV_ON n) && codeLe (s.vIn n) (s.rd BRK.CH_WIN_OV_ON n)

/-! ### Being held off (R405, R408, R418, R426) -/

/-- The other channel of the same cable port: inlet and forward. -/
def partner (n : Nat) : Nat := if n < 2 then n + 2 else n - 2

/-- An inlet or forward qualifies only while its voltages allow it (R405). -/
def State.lineAllows (s : State) (n : Nat) : Bool :=
  if n < 2 then s.inOnWindow n
  else s.inOnWindow n && !codeGe (s.vCable n) (s.rd LINE.PORT_CFG_FWD_IDLE)

/-- The partner keeps an inlet or forward off (R405). -/
def State.partnerHolds (s : State) (n : Nat) : Bool :=
  let st := s.chState (partner n)
  if n < 2 then st = 4 || st = 5
  else st = 1 || st = 2 || st = 3 || st = 4 || st = 5

/-- Channel `n` may leave the off state. -/
def State.mayQualify (s : State) (n : Nat) : Bool :=
  s.enabled 0x4C && s.flag BRK.CH_CTRL_EN n && s.flag BRK.CH_CFG_FITTED n &&
  (if isSlot n then decide (2 ≤ s.mode) && s.flag BRK.CH_STAT_PRESENT n
   else s.lineAllows n && !s.partnerHolds n && !(s.brkCh n).rev)

/-! ### Turning off -/

/-- The port roles after a change of what is on (R424, R425). -/
def State.showRoles (s : State) : State :=
  let role (i : Nat) : Nat := if s.chState i = 5 then 1 else if s.chState (i + 2) = 5 then 2 else 0
  let s1 := if role 0 = s.rd LINE.PORT_STAT_EAST then s else (s.wr LINE.PORT_STAT_EAST (role 0)).raise 0x4D 3
  if role 1 = s1.rd LINE.PORT_STAT_WEST then s1 else (s1.wr LINE.PORT_STAT_WEST (role 1)).raise 0x4D 4

/-- ON_MAP follows the states; a change of an inlet or forward makes the budget evaluate at once (R427). -/
def State.showOn (s : State) (n : Nat) : State :=
  let old := s.rd BRK.ON_MAP_ON
  let new := if s.chState n = 5 then setBit old n else clrBit old n
  let s1 := (s.wr BRK.ON_MAP_ON new).showRoles
  if old ≠ new && decide (n < 4) then { s1 with bud := { s1.bud with wake := true } } else s1

/-- The channel has its gate low: timers of the ramp stopped. -/
def State.gateLow (s : State) (n : Nat) : State :=
  ((s.updBrk n (fun c => { c with duty := 0, qual := false, admitted := false })).stop (tRampMax n)).stop (tRampStep n)

/-- Starts the minimum off time (R414). -/
def State.startOffMin (s : State) (n : Nat) : State := s.start (tOffMin n) (s.rd BRK.CH_DELAY_OFF_MIN n * ms 1)

/-- The channel conducts or ramps. -/
def State.chPowered (s : State) (n : Nat) : Bool := s.chState n = 4 || s.chState n = 5

/-- The place of a turn-off's cause among the events of one sample: comparator and reverse opening, curve and ramp timeout,
removal, fence, window, and last a write (R417); shedding and modes come after. -/
def offRank (cause : Nat) : Nat :=
  match cause with
  | 2 | 4 | 7 => 1
  | 3 | 5 => 2
  | 8 => 3
  | 11 => 4
  | 6 => 5
  | 1 => 6
  | _ => 7

/-- The number of the present 1 µs sample (R417). -/
def State.sampleNo (s : State) : Nat := s.mono / us 1

/-- A turn-off with a cause into state `st` (R408, R410, R413, R414, R423). -/
def State.chOff (s : State) (n cause st : Nat) : State :=
  let o : BrkOff := { sample := s.sampleNo, rank := offRank cause, state := s.chState n, rampEnd := Tbl.find s.timers (tRampMax n) }
  let s0 := s.updBrk n (fun c => { c with off := some o })
  let s1 := (((s0.gateLow n).wr BRK.CH_STAT_CAUSE cause n).setCh n st).sat LINE.OFF_CNT_COUNT n
  let s2 := if cause = 7 && decide (n < 2) then s1 else s1.startOffMin n
  let s3 := if st = 6 then s2 else s2.raise 0x4C (16 + n)
  s3.showOn n

/-- The channel is latched. -/
def State.latch (s : State) (n : Nat) : State :=
  (s.wr BRK.CH_STAT_LATCHED 1 n).wr BRK.TRIP_MAP_TRIPPED (setBit (s.rd BRK.TRIP_MAP_TRIPPED) n)

/-- A latched trip (R413). -/
def State.chTrip (s : State) (n cause : Nat) : State :=
  (((s.latch n).sat BRK.CH_TRIPS_COUNT n).chOff n cause 6).raise 0x4C n

/-- The state the channel would be in had the event that turned it off in this sample not come before one of `cause`, which
goes before it (R417); otherwise its state. -/
def State.stateFor (s : State) (n cause : Nat) : Nat :=
  match (s.brkCh n).off with
  | some o => if o.sample = s.sampleNo ∧ offRank cause < o.rank then o.state else s.chState n
  | none => s.chState n

/-- The channel's turn-off in this sample takes the cause of an event that goes before the one that turned it off (R417). -/
def State.recause (s : State) (n cause : Nat) : State :=
  (s.wr BRK.CH_STAT_CAUSE cause n).updBrk n (fun c => { c with off := c.off.map (fun (o : BrkOff) => { o with rank := offRank cause }) })

/-- A trip (R413), also of a channel that a later event of the sample has already turned off: its cause is recorded and TRIP_n
raised, and it latches unless a write of EN = 0 followed (R417). -/
def State.tripNow (s : State) (n cause : Nat) : State :=
  if s.chPowered n then s.chTrip n cause
  else
    let s1 := (s.recause n cause).sat BRK.CH_TRIPS_COUNT n
    (if s.flag BRK.CH_CTRL_EN n then (((s1.latch n).gateLow n).stop (tDelay n)).setCh n 6 else s1).raise 0x4C n

/-- An opening without a latch, also of a channel that a later event of the sample has already turned off (R417). -/
def State.openNow (s : State) (n cause st : Nat) : State :=
  if s.chPowered n then s.chOff n cause st else s.recause n cause

/-- A channel that is to be off: turned off with a cause if it conducts, else back to off. -/
def State.chDrop (s : State) (n cause : Nat) : State :=
  if s.chPowered n then s.chOff n cause 0
  else if s.chState n = 1 ∨ s.chState n = 2 ∨ s.chState n = 3 then ((s.gateLow n).stop (tDelay n)).setCh n 0
  else s

/-! ### Turning on -/

/-- The ramp begins (R409). -/
def State.startRamp (s : State) (n : Nat) : State :=
  (((s.updBrk n (fun c => { c with duty := 0 })).setCh n 4).start (tRampMax n) (s.rd BRK.CH_CFG_RAMP_MAX n * ms 1)).start
    (tRampStep n) (us 20)

/-- Qualifying and off time are both complete: budget hold for a slot, else the ramp; POLICY 2 admits slots without
the hold (R408, R434). -/
def State.chProceed (s : State) (n : Nat) : State :=
  if !(s.brkCh n).qual then s
  else if s.running (tOffMin n) then s.setCh n 2
  else if isSlot n && s.rd POWER.BUD_CFG_POLICY ≠ 2 then s.setCh n 3
  else s.startRamp n

/-- Channel `n` enters qualifying, or leaves it for off, as its conditions say; an excursion of a slot's input
restarts DELAY (R408). -/
def State.chSettle (s : State) (n : Nat) : State :=
  let st := s.chState n
  if st = 0 then
    if s.mayQualify n && !(s.brkCh n).fenced then (s.setCh n 1).start (tDelay n) (s.rd BRK.CH_DELAY_DELAY n * ms 1) else s
  else if st = 1 ∨ st = 2 ∨ st = 3 then
    if !s.mayQualify n then s.chDrop n 0
    else if st = 1 && !s.inOnWindow n then s.start (tDelay n) (s.rd BRK.CH_DELAY_DELAY n * ms 1)
    else s
  else s

/-- Every channel settles, in ascending order. -/
def State.settleAll (s : State) : State := (List.range 12).foldl State.chSettle s

/-- The channel is on (R409, R423): CHANGE, ON_MAP; an admitted slot is reported and starts the pause of R436. -/
def State.chOn (s : State) (n : Nat) : State :=
  let adm := (s.brkCh n).admitted
  let s1 := (((s.updBrk n (fun c => { c with duty := 64, admitted := false, rev := false })).setCh n 5).stop (tRampMax n)).stop
    (tRampStep n)
  let s2 := (s1.raise 0x4C (16 + n)).showOn n
  if adm then (s2.raise 0x01 2).start tAdmit (ms 10) else s2

/-! ### The curve (R412) -/

/-- The committed curve of channel `n` in 10 mA and ms. -/
def State.curve (s : State) (n : Nat) : List (Nat × Nat) :=
  (s.brkCh n).curve.getD ((List.range 8).map (fun k => (BRK.CURVE_I.dflt (8 * n + k), BRK.CURVE_T.dflt (8 * n + k))))

/-- The accumulator after a current of `i` (10 mA) for `dt` µs, in 2^-48 of a trip. -/
def heatAfter (curve : List (Nat × Nat)) (tau i dt heat : Nat) : Nat :=
  match (curve.filter (fun p => decide (p.1 ≤ i))).getLast? with
  | some (ik, tk) => heat + 2 ^ 48 * dt * i ^ 2 / (tk * 1000 * ik ^ 2)
  | none => heat - min heat (heat * dt / (tau * 10000))

/-- THERM.F shows the accumulator. -/
def State.showHeat (s : State) (n : Nat) : State := s.wr LINE.THERM_F (min ((s.brkCh n).heat / 2 ^ 24) (2 ^ 25 - 1)) n

/-- A current sample of channel `n` enters the accumulator, frozen during a ramp; a channel that is on trips at
2^24 (R412). -/
def State.heatSample (s : State) (n : Nat) (i : Int) (dt : Nat) : State :=
  if s.chState n = 4 then s
  else
    let s1 := (s.updBrk n (fun c => { c with heat := heatAfter (s.curve n) (s.rd BRK.CH_SCALE_TAU n) i.toNat dt c.heat })).showHeat n
    if s1.stateFor n 3 = 5 && decide (2 ^ 48 ≤ (s1.brkCh n).heat) then s1.tripNow n 3 else s1

/-- The staged curve of channel `n`. -/
def State.staged (s : State) (n : Nat) : List (Nat × Nat) :=
  (List.range 8).map (fun k => (s.rd BRK.CURVE_I (8 * n + k), s.rd BRK.CURVE_T (8 * n + k)))

/-- Breakpoints are as R412 asks: currents strictly ascending, times non-increasing and not 0. -/
def curveGood : List (Nat × Nat) → Bool
  | [] => true
  | [a] => decide (1 ≤ a.2)
  | a :: b :: t => decide (a.1 < b.1) && decide (b.2 ≤ a.2) && curveGood (b :: t)

/-- The commit of channel `n`'s staged curve, or its refusal (R422). -/
def State.commitCurve (s : State) (n : Nat) : State :=
  let c := s.staged n
  if curveGood c && decide (s.rd BRK.CH_CFG_INRUSH n ≤ (c.headD (0, 0)).1) && decide (1 ≤ (c.headD (0, 0)).1) then
    ((s.updBrk n (fun x => { x with curve := some c })).wr BRK.CH_STAT_STAGED 0 n).wr BRK.CH_STAT_CURVE_BAD 0 n
  else (s.wr BRK.CH_STAT_CURVE_BAD 1 n).raise 0x4C 28

/-! ### Fences, modes, writes -/

/-- The collector's fence of channel `n` (R417, R423). -/
def State.brkFence (s : State) (n : Nat) : State :=
  let s1 := s.updBrk n (fun c => { c with fenced := true })
  if s1.chState n = 6 ∨ s1.chState n = 8 then s1
  else if s1.chPowered n then s1.chOff n 11 7
  else if s1.stateFor n 11 = 4 ∨ s1.stateFor n 11 = 5 then ((s1.recause n 11).chDrop n 11).setCh n 7
  else (s1.chDrop n 11).setCh n 7

/-- The fence of channel `n` is removed (R417). -/
def State.brkUnfence (s : State) (n : Nat) : State :=
  let s1 := s.updBrk n (fun c => { c with fenced := false })
  if s1.chState n = 7 then (s1.setCh n 0).settleAll else s1

/-- SENTINEL is entered: the slots are held off, cause mode (R418). -/
def State.slotsOff (s : State) : State := ((List.range 8).foldl (fun t k => t.chDrop (4 + k) 10) s).settleAll

/-- A write of CH_CTRL (R413, R417, R422, R426). -/
def State.writeChCtrl (s : State) (n v : Nat) : State :=
  let s1 := s.wr BRK.CH_CTRL_KEEP (v / 2 % 2) n
  if !s1.flag BRK.CH_CFG_FITTED n then s1
  else
    let s2 := s1.wr BRK.CH_CTRL_EN (v % 2) n
    if v % 2 = 1 then s2.settleAll
    else
      let s3 := (s2.chDrop n 1).updBrk n (fun c => { c with rev := false })
      let s4 := if s3.flag BRK.CH_STAT_LATCHED n then
          (s3.wr BRK.CH_STAT_LATCHED 0 n).wr BRK.TRIP_MAP_TRIPPED (clrBit (s3.rd BRK.TRIP_MAP_TRIPPED) n)
        else s3
      let s5 := if s4.chState n = 6 then s4.setCh n (if (s4.brkCh n).fenced then 7 else 0) else s4
      s5.settleAll

/-- FITTED of channel `n` takes a value: an absent channel is off and shows state 8 (R408). -/
def State.setFitted (s : State) (n v : Nat) : State :=
  let s1 := s.wr BRK.CH_CFG_FITTED v n
  if v = 0 then (s1.chDrop n 1).setCh n 8
  else if s1.chState n = 8 then s1.setCh n 0 else s1

/-- Writes of channel registers that follow rules of their own; `off` counts from the channel's first (R422). -/
def State.brkChWrite (s : State) (n off v : Nat) : Option State :=
  match off with
  | 0x00 => some (s.writeChCtrl n v)
  | 0x04 =>
    let s1 := if bits v 16 16 ≤ ((s.curve n).headD (0, 0)).1 then s.wr BRK.CH_CFG_INRUSH (bits v 16 16) n else s
    let s2 := s1.put 0 v n BRK.CH_CFG_RAMP_MAX
    some (if s2.locked 0x4C then s2 else (s2.setFitted n (v % 2)).settleAll)
  | 0x08 =>
    let uvOn := bits v 24 8
    let ovOn := bits v 16 8
    some (if bits v 8 8 > uvOn ∨ bits v 0 8 < ovOn ∨ ovOn ≤ uvOn then s
      else s.putAll 0 v n [BRK.CH_WIN_UV_ON, BRK.CH_WIN_OV_ON, BRK.CH_WIN_UV_OFF, BRK.CH_WIN_OV_OFF])
  | 0x10 => some ((if n < 4 then s.put 0 v n BRK.CH_INST_REV else s).put 0 v n BRK.CH_INST_INST)
  | _ => if 0x1C ≤ off ∧ off ≤ 0x38 then
      some ((s.putAll 0 v (8 * n + (off - 0x1C) / 4) [BRK.CURVE_I, BRK.CURVE_T]).wr BRK.CH_STAT_STAGED 1 n)
    else none

/-- A write of COMMIT: each named channel's curve is applied at the next sample, which is this step. -/
def State.writeCommit (s : State) (v : Nat) : State :=
  (List.range 12).foldl (fun t n => if bitOf v n then t.commitCurve n else t) s

/-- Step 4 of the start sequence: BRK and LINE are enabled, FITTED and EN taken from OTP (R426, R463). -/
def State.brkStart (s : State) : State :=
  let w := s.shadow 24
  let s1 := (s.wrn 0x4C HDR.BLK_CTRL_ENABLE 1).wrn 0x4D HDR.BLK_CTRL_ENABLE 1
  let s2 := (List.range 12).foldl (fun t n => t.setFitted n (bits w (16 + n) 1)) s1
  ((List.range 4).foldl (fun t n => t.wr BRK.CH_CTRL_EN (bits w n 1) n) s2).settleAll

end Sys2Proof.Machine
end

