-- ==== Sys2Proof/Machine/BudOps.lean ====
section
/-! DEFINITION. The budget unit: the account, the levers, their order (R427-R440). -/

namespace Sys2Proof.Machine

/-- Changes the budget unit. -/
def State.updBud (s : State) (f : BudUnit → BudUnit) : State := { s with bud := f s.bud }

/-- The tolerances the registers hold (R429). -/
def State.tolRegs (s : State) : List Nat :=
  [s.rd POWER.TOL_C12_TOL_C1, s.rd POWER.TOL_C12_TOL_C2, s.rd POWER.TOL_C3, s.rd POWER.TOL_TC12_TC1,
    s.rd POWER.TOL_TC12_TC2, s.rd POWER.TOL_TC34_TC3, s.rd POWER.TOL_TC34_TC4, s.rd POWER.TOL_TC56_TC5, s.rd POWER.TOL_TC56_TC6]

/-- The tolerance of traffic class `c`, 1 to 6, in µs. -/
def State.tcTol (s : State) (c : Nat) : Nat := s.bud.tols.getD (2 + c) 0

/-- The quantities of an evaluation in 0.1 W (R427): P_IN, P_AVAIL, HUB_P, H, and whether the budget is short. -/
structure Account where
  pin : Int
  avail : Int
  hub : Int
  head : Int
  short : Bool
  deriving DecidableEq, Repr

/-- Power in 0.1 W of a current in 10 mA at the bus voltage. -/
def State.busPower (s : State) (i : Int) : Int := (s.rd LINE.V_BUS_CODE : Int) * i / 512

/-- The account of the present measurements (R427). -/
def State.account (s : State) : Account :=
  let lim : Int := s.rd POWER.CABLE_LIM_LIMIT
  let inlets := s.curOf 0 + s.curOf 1
  let fwd := s.curOf 2 + s.curOf 3
  let slots : Int := ((List.range 8).map (fun k => s.curOf (4 + k))).sum
  let on := [0, 1].filter (fun n => s.chState n = 5)
  let spare : Int := (on.map (fun n => lim - s.curOf n)).sum
  let head := s.busPower spare - (s.rd POWER.BUD_CFG_RESERVE : Int)
  { pin := s.busPower (inlets - fwd), avail := s.busPower (lim * on.length - fwd)
    hub := s.busPower (inlets - fwd) - s.busPower slots, head := head
    short := decide (head < 0) || [0, 1].any (fun n => decide (lim < s.curOf n)) || s.brk.low }

/-- A power as an unsigned field of 16 bits. -/
def power16 (v : Int) : Nat := min v.toNat 0xFFFF

/-- P_AVAIL of the last evaluation. -/
def State.pAvail (s : State) : Nat := s.rd POWER.HEADROOM_P_AVAIL

/-- The quantities are written and offered (R442, R491). -/
def State.showAccount (s : State) (a : Account) : State :=
  let s1 := ((s.wr POWER.HEADROOM_P_AVAIL (power16 a.avail)).wr POWER.HEADROOM_H
    (ofSigned 16 (max (-32768) (min 32767 a.head)))).wr POWER.P_IN_HUB_P (power16 a.hub)
  ((s1.wr POWER.P_IN (power16 a.pin)).offer 35 none a.pin).offer 36 none a.head

/-! ### Levers 1 to 3 (R430-R433) -/

/-- The classes a deferral level and those above it newly cover have a tolerance other than 0. -/
def State.deferUseful (s : State) (level : Nat) : Bool :=
  ((List.range (3 - level)).map (fun k => s.bud.tols.getD k 0)).any (fun t => t ≠ 0)

/-- The next deferral step, cluster B before A at each step. -/
def State.deferStep (s : State) : Option Nat :=
  let can (cl : Nat) : Bool :=
    s.pdOn (4 + cl) && decide (s.bud.deferWant.getD cl 0 < 3) && s.deferUseful (s.bud.deferWant.getD cl 0)
  if can 1 && (!can 0 || decide (s.bud.deferWant.getD 1 0 ≤ s.bud.deferWant.getD 0 0)) then some 1
  else if can 0 then some 0 else none

/-- A cluster's clock may step down under lever 2 (R432). -/
def State.clkCanDrop (s : State) (cl : Nat) : Bool :=
  let w := s.bud.clkWant.getD cl 0
  s.pdOn (4 + cl) && s.clusForce cl = 0 && decide (w < 2) && w = s.clusClk cl &&
  decide (s.rd CLOCKS.CLK_HOLD_CYCLES ≤ s.bud.quiet.getD cl 0) && (!s.clusC0 cl || decide (w < s.clusFloor cl))

/-- The next clock step, cluster B before A at each step. -/
def State.clkStep (s : State) : Option Nat :=
  if s.clkCanDrop 1 && (!s.clkCanDrop 0 || decide (s.bud.clkWant.getD 1 0 ≤ s.bud.clkWant.getD 0 0)) then some 1
  else if s.clkCanDrop 0 then some 0 else none

/-- The wish register of a direction. -/
def wishFld (d : Nat) : Fld := if d = 0 then POWER.LEVERS_WISH_E else POWER.LEVERS_WISH_W

/-- The budget may wish to shed a direction (R433). -/
def State.mayWish (s : State) (d : Nat) : Bool :=
  s.rdn (2 * d) MAC.LANE_CTRL_POLICY = 0 && decide (s.bud.load.getD d 100 < s.rd POWER.LANE_LOAD_SHED) &&
  (s.bud.classes.getD d [1, 2, 3, 4, 5, 6]).all (fun c => c = 0 || decide (6 < c) || decide (25 ≤ s.tcTol c))

/-- The next shed wish, the east direction before the west. -/
def State.wishStep (s : State) : Option Nat := [0, 1].find? (fun d => !s.flag (wishFld d) && s.mayWish d)

/-- The first step of levers 1 to 3 that is permitted; none left: none (R430). -/
def State.saveStep (s : State) : Option State :=
  match s.deferStep with
  | some cl => some (s.updBud (fun b => { b with
      deferWant := setPair b.deferWant cl (b.deferWant.getD cl 0 + 1), steps := b.steps ++ [10 + cl] }))
  | none =>
    match s.clkStep with
    | some cl => some (s.updBud (fun b => { b with
        clkWant := setPair b.clkWant cl (b.clkWant.getD cl 0 + 1), steps := b.steps ++ [20 + cl] }))
    | none =>
      match s.wishStep with
      | some d => some ((s.wr (wishFld d) 1).updBud (fun b => { b with steps := b.steps ++ [30 + d] }))
      | none => none

/-- A wish whose conditions no longer hold is dropped (R433). -/
def State.dropWish (s : State) (d : Nat) : State :=
  if s.flag (wishFld d) && !s.mayWish d then
    (s.wr (wishFld d) 0).updBud (fun b => { b with steps := b.steps.filter (· ≠ 30 + d) })
  else s

/-- The saving of a step in 0.1 W (R430). -/
def State.stepSaving (s : State) (st : Nat) : Int :=
  if st < 20 then 1
  else if st < 30 then (if s.bud.clkWant.getD (st - 20) 0 = 1 then 11 else 5)
  else 8

/-- The last step is undone (R436). -/
def State.undoStep (s : State) (st : Nat) : State :=
  let s1 := s.updBud (fun b => { b with steps := b.steps.dropLast, above := none })
  if st < 20 then s1.updBud (fun b => { b with deferWant := setPair b.deferWant (st - 10) (b.deferWant.getD (st - 10) 0 - 1) })
  else if st < 30 then s1.updBud (fun b => { b with clkWant := setPair b.clkWant (st - 20) (b.clkWant.getD (st - 20) 0 - 1) })
  else s1.wr (wishFld (st - 30)) 0

/-- Undoing under POLICY 1: H has stood at RESTORE plus the step's saving for 100 ms (R436). -/
def State.undo (s : State) (h : Int) : State :=
  match s.bud.steps.getLast? with
  | none => s.updBud (fun b => { b with above := none })
  | some st =>
    if h < (s.rd POWER.BUD_CFG_RESTORE : Int) + s.stepSaving st then s.updBud (fun b => { b with above := none })
    else match s.bud.above with
      | none => s.updBud (fun b => { b with above := some s.mono })
      | some t =>
        if t + ms 100 ≤ s.mono && decide (s.rd POWER.PWR_STAT_THERM < 1) then s.undoStep st else s

/-! ### Lever 4: slots (R435, R436) -/

/-- The slot to shed: among those that may be, the highest SLOT_PRI, then the highest number (R435). -/
def State.shedCandidate (s : State) : Option Nat :=
  let ok := (List.range 8).filter (fun k => s.chState (4 + k) = 5 && !s.flag BRK.CH_CTRL_KEEP (4 + k))
  let key (k : Nat) : Nat := 8 * s.rd POWER.SLOT_PRI_PRI k + k
  ok.find? (fun k => ok.all (fun j => decide (key j ≤ key k)))

/-- Sheds one slot, where the mode lets it (R435). -/
def State.shedSlot (s : State) : Option State :=
  if s.mode < 2 ∨ 4 < s.mode then none
  else match s.shedCandidate with
    | none => none
    | some k =>
      let s1 := (s.chOff (4 + k) 9 0).settleAll
      some (((s1.sat POWER.SLOT_SHED_CNT_COUNT).wr POWER.LEVERS_SHED (setBit (s1.rd POWER.LEVERS_SHED) k)).raise 0x01 1)

/-- A slot in budget hold is admitted: its ramp starts. -/
def State.admitSlot (s : State) (k : Nat) : State :=
  ((s.wr POWER.LEVERS_SHED (clrBit (s.rd POWER.LEVERS_SHED) k)).updBrk (4 + k) (fun c => { c with admitted := true })).startRamp (4 + k)

/-- The slot in budget hold whose turn it is: lowest SLOT_PRI, then lowest number. -/
def State.admitCandidate (s : State) : Option Nat :=
  let held := (List.range 8).filter (fun k => s.chState (4 + k) = 3)
  let key (k : Nat) : Nat := 8 * s.rd POWER.SLOT_PRI_PRI k + k
  held.find? (fun k => held.all (fun j => decide (key k ≤ key j)))

/-- Considers restoring a slot (R436); none if none is admitted. -/
def State.restoreSlot (s : State) (h : Int) : Option State :=
  match s.admitCandidate with
  | none => none
  | some k =>
    if s.brk.low || (List.range 8).any (fun j => s.chState (4 + j) = 4) || (s.running tAdmit && !s.due tAdmit) ||
        decide (h < (s.rd POWER.BUD_CFG_RESTORE : Int) + s.busPower (s.rd POWER.SLOT_ADMIT_CURRENT k)) then none
    else some (s.admitSlot k)

/-- The budget is short and no lever is left (R438). -/
def State.shortage (s : State) : State :=
  let s1 := if s.flag POWER.LEVERS_SHORT then s else (s.wr POWER.LEVERS_SHORT 1).raise 0x01 0
  s1.sat POWER.SHORT_CNT_COUNT

/-! ### An evaluation (R427, R434) -/

/-- What an evaluation does when it saves. -/
def State.save (s : State) (short : Bool) : State :=
  match s.saveStep with
  | some s1 => if s1.brk.low then (s1.shedSlot).getD s1 else s1
  | none =>
    if !short then s
    else match s.shedSlot with
      | some s1 => s1
      | none => s.shortage

/-- The action of an evaluation (R434, R443). -/
def State.budAct (s : State) (a : Account) : State :=
  let saving := a.short || decide (2 ≤ s.rd POWER.PWR_STAT_THERM)
  let s1 := if a.short then s else s.wr POWER.LEVERS_SHORT 0
  if s1.mode < 2 || s1.mode = 5 || s1.fenced 0x01 then s1.wr POWER.PWR_STAT_SAVING 0
  else
    let s2 := (s1.dropWish 0).dropWish 1
    match s2.rd POWER.BUD_CFG_POLICY with
    | 2 =>
      let s3 := ((List.range 8).filter (fun k => s2.chState (4 + k) = 3)).foldl State.admitSlot (s2.wr POWER.PWR_STAT_SAVING 0)
      if a.short then s3.shortage else s3
    | p =>
      let s3 := s2.wr POWER.PWR_STAT_SAVING (bit saving)
      if saving then s3.save a.short
      else if p = 0 then
        let s4 := (s3.saveStep).getD s3
        (s4.restoreSlot a.head).getD s4
      else match s3.restoreSlot a.head with
        | some s4 => s4
        | none => s3.undo a.head

/-- In one-lane mode a load above LANE_LOAD.JOIN sets the join need (R433). -/
def State.joinNeed (s : State) (d : Side) : State :=
  if s.laneMode (.ring d) = 1 && decide (s.rd POWER.LANE_LOAD_JOIN < s.bud.peak.getD d.code 0) then
    s.updLane d (fun l => { l with need := true })
  else s

/-- An evaluation of the measurements as they stand (R427, R429). -/
def State.evaluate (s : State) : State :=
  let s1 := s.updBud (fun b => { b with tols := s.tolRegs, wake := false })
  let a := s1.account
  (((s1.showAccount a).joinNeed .east).joinNeed .west).budAct a

/-- An evaluation that a change has asked for at once (R427). -/
def State.evalWoken (s : State) : State := if s.bud.wake then s.evaluate else s

/-- The measurements of R420 enter the registers; the channels settle on them. -/
def State.measure (s : State) (m : Meas) : State :=
  let s1 := ((s.wr LINE.V_E_CODE m.ve).wr LINE.V_W_CODE m.vw).wr LINE.V_BUS_CODE m.vbus
  let s2 := (List.range 8).foldl (fun t k => t.wr LINE.V_SLOT_CODE (m.slots.getD k 0) k) s1
  let s3 := (List.range 12).foldl (fun t n => t.setCur n (m.cur.getD n 0)) s2
  (s3.updBud (fun b => { b with load := m.load, peak := m.peak, classes := m.classes })).settleAll

/-! ### Temperature (R428) -/

/-- The threshold of a thermal state in 1/16 °C. -/
def State.thermThr (s : State) (st : Nat) : Int :=
  16 * ((if st = 1 then s.rd POWER.THERM_CFG_WARN else if st = 2 then s.rd POWER.THERM_CFG_HOT
    else s.rd POWER.THERM_CFG_CRIT : Nat) : Int)

/-- The thermal state rises by one. -/
def State.thermUp (s : State) (st : Nat) : State :=
  let s1 := (s.wr POWER.PWR_STAT_THERM st).raise 0x01 (7 + st)
  if st = 3 then s1.report 0x01 2 else s1

/-- The thermal state after a temperature `t` (R428): it rises through each threshold reached, falls 5 °C below. -/
def State.thermTo (s : State) (t : Int) : State :=
  let now := s.rd POWER.PWR_STAT_THERM
  let up := [1, 2, 3].foldl (fun u st => if decide (now < st) && decide (u.thermThr st ≤ t) then u.thermUp st else u) s
  if up.rd POWER.PWR_STAT_THERM ≠ now then up.updBud (fun b => { b with wake := true })
  else
    let down := ([1, 2, 3].filter (fun st => decide (st ≤ now) && decide (s.thermThr st - 80 < t))).length
    if down = now then s
    else
      let s1 := (s.wr POWER.PWR_STAT_THERM down).updBud (fun b => { b with wake := true })
      if down = 0 then s1.raise 0x01 11 else s1

end Sys2Proof.Machine
end

