-- ==== Sys2Proof/Machine/BridgeOps.lean ====
section
/-! DEFINITION. The host bridge: windows, requests, failures and their log, the fence, held reads, the prefetch
store, polls (R301-R330). -/

namespace Sys2Proof.Machine

/-- Changes the bridge. -/
def State.updBridge (s : State) (f : BridgeUnit → BridgeUnit) : State := { s with bridge := f s.bridge }

/-- The host can reach the bridge: the data link is up, the function is not in D3hot, the page is not fenced (R325,
R476). -/
def State.hostUp (s : State) : Bool := s.pcie.up && !s.pcie.d3hot && s.pageOn 0x14 && !s.fenced 0x14

/-- The fabric address BAR2 offset `off` maps to (R304). -/
def State.fabricAddr (s : State) (off : Nat) : Nat :=
  let w := off / 2 ^ 22
  s.rd BRIDGE.WIN_BASE_HI_ADDR w * 2 ^ 32 + s.rd BRIDGE.WIN_BASE_LO_ADDR w * 2 ^ 22 + off % 2 ^ 22

/-- The endpoint id of a fabric address. -/
def addrEp (a : Nat) : Nat := a / 2 ^ 24


/-- PW_TMO in monotonic time. -/
def State.pwTmo (s : State) : Nat := s.rd BRIDGE.PW_TMO_MS * ms 1

/-! ### Failed writes and the fence (R314-R318) -/

/-- A failure is logged: the first fifteen in entries 0 to 14, later ones in entry 15 (R315, log 30). -/
def State.logPwe (s : State) (r : Req) (code port : Nat) : State :=
  let n := s.rd BRIDGE.PWE_STAT_VALID
  let i := min n 15
  let s1 := (((s.wr BRIDGE.PWE_W0_ADDR_LO r.addr i).wr BRIDGE.PWE_W1_WINDOW r.win i).wr BRIDGE.PWE_W1_ADDR_HI
    (r.addr / 2 ^ 32) i).wr BRIDGE.PWE_W2_TAG r.tag i
  let s2 := (((s1.wr BRIDGE.PWE_W2_CODE code i).wr BRIDGE.PWE_W2_PORT port i).wr BRIDGE.PWE_W3_NS
    (s.fabNs % 1000000000) i).wr BRIDGE.PWE_W4_SEC_LO (s.fabNs / 1000000000) i
  ((s2.wr BRIDGE.PWE_STAT_VALID (min 16 (n + 1))).sat BRIDGE.PWE_STAT_TOTAL).raise 0x14 0

/-- Forgets a request. -/
def State.dropReq (s : State) (tag : Nat) : State :=
  s.updBridge (fun b => { b with reqs := b.reqs.filter (fun r => r.tag ≠ tag) })

/-- The running fence completes when none of its writes is outstanding (R316, R317). -/
def State.fenceCheck (s : State) : State :=
  match s.bridge.fence with
  | none => s
  | some _ =>
    if s.bridge.reqs.any (·.fenced) then s
    else (((s.updBridge (fun b => { b with fence := none })).wr BRIDGE.FENCE_STAT_STATUS 2).wr BRIDGE.FENCE_CTRL_GO 0).raise 0x14 3

/-- A write has ended: failed with a code and the port the report came on, or answered (R314, R316). -/
def State.endWrite (s : State) (r : Req) (fail : Option (Nat × Nat)) : State :=
  let s1 := s.dropReq r.tag
  let s2 := match fail with
    | none => s1
    | some (code, port) =>
      let t := s1.logPwe r code port
      if r.fenced then t.sat BRIDGE.FENCE_STAT_FAILED else t
  if r.fenced then s2.fenceCheck else s2

/-! ### The prefetch store (R311-R313) -/

/-- Bytes of a line never returned. -/
def Line.unread (l : Line) : Nat := 64 - 4 * ((List.range 16).filter (bitOf l.served)).length

/-- A line is discarded; with bytes never returned it is logged with a cause (R313, log 30). -/
def State.discardLine (s : State) (l : Line) (cause : Nat) : State :=
  let s1 := s.updBridge (fun b => { b with lines := b.lines.filter (fun x => x ≠ l) })
  if l.unread = 0 then s1
  else
    let n := s1.rd BRIDGE.PFD_STAT_VALID
    let i := min n 31
    let s2 := ((s1.wr BRIDGE.PFD_W0_ADDR_LO l.addr i).wr BRIDGE.PFD_W1_WINDOW l.win i).wr BRIDGE.PFD_W1_ADDR_HI
      (l.addr / 2 ^ 32) i
    let s3 := (s2.wr BRIDGE.PFD_W2_CAUSE cause i).wr BRIDGE.PFD_W2_COUNT l.unread i
    ((s3.wr BRIDGE.PFD_STAT_VALID (min 32 (n + 1))).sat BRIDGE.PFD_STAT_TOTAL).raise 0x14 2

/-- Every line that satisfies a condition is discarded. -/
def State.discardLines (s : State) (cause : Nat) (p : Line → Bool) : State :=
  (s.bridge.lines.filter p).foldl (fun t l => t.discardLine l cause) s

/-- A window is changed: its prefetched lines are discarded (R306, R312). -/
def State.windowChanged (s : State) (w : Nat) : State := s.discardLines 4 (fun l => l.win = w)

/-- A line has come: stored, the oldest making room (R311, R312). -/
def State.storeLine (s : State) (l : Line) : State :=
  let s1 := match s.bridge.lines with
    | o :: _ => if 32 ≤ s.bridge.lines.length then s.discardLine o 2 else s
    | [] => s
  s1.updBridge (fun b => { b with lines := b.lines ++ [l] })

/-- The words of `n` bytes at offset `o` of a line. -/
def wordMask (o n : Nat) : Nat := (2 ^ (n / 4) - 1) * 2 ^ (o / 4)

/-- `n` bytes at offset `o` of a line are returned; a line returned in full is discarded (R312). -/
def State.serveLine (s : State) (l : Line) (o n : Nat) : State :=
  let l2 := { l with served := l.served ||| wordMask o n }
  let s1 := s.updBridge (fun b => { b with lines := b.lines.map (fun x => if x = l then l2 else x) })
  if l2.unread = 0 then s1.discardLine l2 1 else s1

/-! ### Held reads (R305, R309) -/

/-- The pieces of a read's data at address `a`: what is longer than 256 bytes is cut after at most 256 bytes at a 64-byte
boundary (R43, R305, log 69). -/
def completions : Nat → Nat → List Nat → List (List Nat)
  | 0, _, bs => [bs]
  | n + 1, a, bs =>
    if bs.length ≤ 256 then [bs]
    else bs.take (256 - a % 64) :: completions n (a + (256 - a % 64)) (bs.drop (256 - a % 64))

/-- The completions of a host read at address `a` with its data, in address order (R305). -/
def State.completeRead (s : State) (host a : Nat) (data : List Byte) : State :=
  (completions 32 a (bnat data)).foldl (fun t bs => t.emit (.item "CPLD" (host :: bs))) s

/-- A held read of window `w` has reached its completion point in this core cycle (R317). -/
def State.readEnded (s : State) (w : Nat) : State :=
  s.updBridge (fun b => { b with ended := (w, s.mono / 64) :: b.ended.filter (fun e => e.2 = s.mono / 64) })

/-- A held read ends without its data: Completer Abort, or all bytes 0xFF (R309); its requests are forgotten. -/
def State.failRead (s : State) (h : HeldRead) : State :=
  let s1 := s.updBridge (fun b => { b with
    reads := b.reads.filter (fun x => x.id ≠ h.id), reqs := b.reqs.filter (fun r => r.kind ≠ 1 || r.read ≠ h.id) })
  if h.ones then s1.completeRead h.host h.addr (List.replicate h.len 0xFF) else s1.emit (.item "CPL_CA" [h.host])

/-- A part of a held read has come; with the last one the read completes, in address order. -/
def State.readPart (s : State) (id part : Nat) (data : List Byte) : State :=
  match s.bridge.reads.find? (fun h => h.id = id) with
  | none => s
  | some h =>
    let parts := Tbl.put h.parts part data
    if 1 < h.missing then
      s.updBridge (fun b => { b with
        reads := b.reads.map (fun x => if x.id = id then { x with parts := parts, missing := x.missing - 1 } else x) })
    else
      ((((s.updBridge (fun b => { b with reads := b.reads.filter (fun x => x.id ≠ id) })).readEnded h.win).offer 24 (some h.win)
        ((s.mono - h.at_) / 64 : Nat))).completeRead h.host h.addr (parts.flatMap (·.2))

/-! ### Polls (R319-R321) -/

/-- A poll entry. -/
def State.poll (s : State) (i : Nat) : PollEnt := Tbl.get {} s.bridge.polls i

/-- Changes a poll entry. -/
def State.updPoll (s : State) (i : Nat) (f : PollEnt → PollEnt) : State :=
  s.updBridge (fun b => { b with polls := Tbl.upd {} b.polls i f })

/-- A change is queued, or counted while the queue is full; answers whether it was (R321). -/
def State.queueChange (s : State) (kind code i v : Nat) : Bool × State :=
  if 256 ≤ s.bridge.cq.length then (false, s.sat POLL.CQ_OVF_COUNT)
  else (true, (s.updBridge (fun b => { b with
    cq := b.cq ++ [{ kind := kind, code := code, index := i, value := v, ns := s.fabNs }] })).raise 0x15 0)

/-- A poll has failed with a code (R320). -/
def State.pollFailed (s : State) (i code : Nat) : State :=
  let s1 := (s.updPoll i (fun e => { e with tag := none })).wr POLL.PE_STAT_IN_FLIGHT 0 i
  if s.flag POLL.PE_STAT_FAILED i then s1
  else (s1.wr POLL.PE_STAT_FAILED 1 i).queueChange 3 code i 0 |>.2

/-- A poll is answered with a value (R320); the first answer after enabling only sets LAST. -/
def State.pollAnswered (s : State) (i value : Nat) : State :=
  let m := value &&& s.rd POLL.PE_MASK_MASK i
  let last := s.rd POLL.PE_LAST_LAST i
  let want := s.rd POLL.PE_EXPECT_EXPECT i
  let e := s.poll i
  let s1 := ((s.updPoll i (fun e => { e with tag := none, fresh := false })).wr POLL.PE_STAT_IN_FLIGHT 0 i).wr
    POLL.PE_STAT_FAILED 0 i
  let kind : Option Nat :=
    if s.flag POLL.PE_STAT_FAILED i then some 4
    else if s.rd POLL.PE_CFG_MODE i = 0 then (if m ≠ last then some 0 else none)
    else if m ≠ want ∧ last = want then some 1
    else if m = want ∧ last ≠ want then some 2
    else none
  if e.fresh then s1.wr POLL.PE_LAST_LAST m i
  else match kind with
    | none => s1
    | some k =>
      let r := s1.queueChange k 0 i m
      if r.1 then r.2.wr POLL.PE_LAST_LAST m i else r.2

/-- A write to an entry's address, MODE or MASK, or its enabling, ends a poll in flight; the next answer is a first
one (R329). -/
def State.pollRestart (s : State) (i : Nat) : State :=
  let s1 := match (s.poll i).tag with
    | some t => s.dropReq t
    | none => s
  (s1.updPoll i (fun e => { e with tag := none, fresh := true })).wr POLL.PE_STAT_IN_FLIGHT 0 i

/-- PERIOD of an entry in ns. -/
def State.pollPeriod (s : State) (i : Nat) : Nat := s.rd POLL.PE_CFG_PERIOD i * 10000

/-- Every enabled entry counts the multiples of its PERIOD from the present fabric time, which has stepped (R319, log 70). -/
def State.pollRebase (s : State) : State :=
  s.updBridge (fun b => { b with
    polls := b.polls.map (fun (e : Nat × PollEnt) => (e.1, { e.2 with slot := s.fabNs / s.pollPeriod e.1 })) })

/-- An entry is enabled or takes a new PERIOD: its next poll is due at the next multiple of PERIOD (R319). -/
def State.pollEnable (s : State) (i : Nat) : State :=
  (s.pollRestart i).updPoll i (fun e => { e with slot := s.fabNs / s.pollPeriod i })

/-! ### Requests leaving (R305, R307, R308, R314) -/

/-- The frame of a request (R301, R305). -/
def State.reqFrame (s : State) (r : Req) : Frame :=
  let off := r.addr % 2 ^ 24
  let bs := if r.kind = 0 then accessBytes 1 0 r.tag off 0 r.data else accessBytes 2 (bit r.pf) r.tag off r.count []
  { tc := 4, dest := addrEp r.addr, src := s.nodeId * 8192, len := bs.length, payload := bs }

/-- An earlier request of an ordered window to the same endpoint is still open (R308). -/
def heldBehind (earlier : List Req) (r : Req) : Bool :=
  r.order && earlier.any (fun q => q.kind ≠ 2 && q.win = r.win && addrEp q.addr = addrEp r.addr)

/-- The first request that may leave and has not. -/
def nextToSend : List Req → List Req → Option Req
  | _, [] => none
  | earlier, r :: t => if !r.gone && !heldBehind earlier r then some r else nextToSend (earlier ++ [r]) t

/-- A request leaves the bridge; a write leaves no stored line of its window and endpoint behind (R312, log 58). -/
def State.sendReq (s : State) (r : Req) : State :=
  let s0 := if r.kind = 0 then s.discardLines 3 (fun l => l.win = r.win && addrEp l.addr = addrEp r.addr) else s
  let s1 := s0.updBridge (fun b => { b with reqs := b.reqs.map (fun q => if q.tag = r.tag then { q with gone := true } else q) })
  let o := s1.send 3 (s.reqFrame r) (r.tag + 1)
  match o.1 with
  | .absent => o.2.reqSent (r.tag + 1) 0 1
  | _ => o.2

/-- A request fails without an answer from the far side. -/
def State.failReq (s : State) (r : Req) (code port : Nat) : State :=
  match r.kind with
  | 0 => s.endWrite r (some (code, port))
  | 1 =>
    match s.bridge.reads.find? (fun h => h.id = r.read) with
    | some h => (s.failRead h).readEnded h.win
    | none => s.dropReq r.tag
  | _ => (s.dropReq r.tag).pollFailed r.win code

/-- What the switch core and the GCM engine report of discarded copies: a request all of whose copies are gone fails
with code 0x11 (R314, log 31); a send ring's frame that waited for its key was not sent (R324). -/
def State.settleLost (s : State) : State :=
  s.buf.lost.foldl (fun t tag =>
    match t.bridge.reqs.find? (fun r => r.tag + 1 = tag) with
    | none => t.txSettled tag 3
    | some r =>
      if r.copies ≤ 1 then t.failReq r 0x11 0
      else t.updBridge (fun b => { b with
        reqs := b.reqs.map (fun q => if q.tag = r.tag then { q with copies := q.copies - 1 } else q) }))
    { s with buf := { s.buf with lost := [] } }

/-- Requests leave while any may, `n` at most. -/
def State.sendReady : Nat → State → State
  | 0, s => s
  | n + 1, s =>
    match nextToSend [] s.bridge.reqs with
    | none => s
    | some r => State.sendReady n (s.sendReq r).settleLost

/-! ### Taking host requests (R304-R309, R311) -/


/-- The next free tag of window traffic, bit 15 being 0 (R305). -/
def State.freeTag (s : State) : Nat :=
  (((List.range 2048).map (fun k => (s.bridge.tag + k) % 32768)).find? (fun t => s.bridge.reqs.all (fun r => r.tag ≠ t))).getD 0

/-- A request enters the outstanding table. -/
def State.addReq (s : State) (r : Req) : State :=
  let t := s.freeTag
  s.updBridge (fun b => { b with reqs := b.reqs ++ [{ r with tag := t, at_ := s.mono }], tag := (t + 1) % 32768 })

/-- A BAR2 write is accepted (R307, R312). -/
def State.acceptWrite (s : State) (off : Nat) (data : List Byte) : State :=
  let w := off / 2 ^ 22
  let a := s.fabricAddr off
  (s.discardLines 3 (fun l => l.win = w && addrEp l.addr = addrEp a)).addReq
    { kind := 0, tag := 0, win := w, addr := a, data := data, order := s.flag BRIDGE.WIN_CFG_ORDER w
      posted := !s.flag BRIDGE.WIN_CFG_NONPOSTED w }

/-- Pieces of at most 256 bytes, cut at 256-byte boundaries. -/
def cutAt256 : Nat → Nat → Nat → List (Nat × Nat)
  | 0, _, _ => []
  | n + 1, a, len =>
    if len = 0 then []
    else
      let k := min len (256 - a % 256)
      (a, k) :: cutAt256 n (a + k) (len - k)

/-- The fabric READs of a host read: one, or for a read longer than 256 bytes its pieces at 256-byte boundaries (R305). -/
def readParts (a len : Nat) : List (Nat × Nat) := if len ≤ 256 then [(a, len)] else cutAt256 17 a len

/-- A read is held and its requests enter the table; with `pf` the whole line is asked for (R309, R311). -/
def State.holdRead (s : State) (host w a len : Nat) (pf : Bool) : State :=
  let id := s.bridge.readId
  let parts := if pf then [(a / 64 * 64, 64)] else readParts a len
  let s1 := s.updBridge (fun b => { b with
    readId := id + 1
    reads := b.reads ++ [{ id := id, host := host, win := w, addr := a, len := len, ones := s.flag BRIDGE.WIN_CFG_RD_ERR w
                           at_ := s.mono, missing := parts.length }] })
  parts.foldl (fun t p => t.addReq
    { kind := 1, tag := 0, win := w, addr := p.1, count := p.2, pf := pf, read := id, part := p.1
      order := s.flag BRIDGE.WIN_CFG_ORDER w }) s1

/-- A BAR2 read is accepted: served from a stored line, or held (R309, R311). -/
def State.acceptRead (s : State) (host off len : Nat) : State :=
  let w := off / 2 ^ 22
  let a := s.fabricAddr off
  let inLine := decide (len ≤ 64) && a / 64 = (a + len - 1) / 64
  if s.flag BRIDGE.WIN_CFG_PREFETCH w && inLine then
    match s.bridge.lines.find? (fun l => l.win = w && l.addr = a / 64 * 64) with
    | some l => (s.serveLine l (a % 64) len).completeRead host a ((l.data.drop (a % 64)).take len)
    | none => s.holdRead host w a len true
  else s.holdRead host w a len false

/-- A BAR2 access that is not carried: counted; a read is answered by Completer Abort, a write logged in AER (R304). -/
def State.badAccess (s : State) (e : Emit) : State := (s.sat BRIDGE.BAD_ACC_COUNT).emit e

/-- The window of a BAR2 offset carries an access of `n` bytes (R304). -/
def State.carries (s : State) (off n : Nat) (whole : Bool) : Bool :=
  s.flag BRIDGE.WIN_CFG_EN (off / 2 ^ 22) && whole && off % 4 = 0 && n % 4 = 0 && decide (0 < n)

/-- A BAR2 write that has credit arrives (R304, R306). -/
def State.takeWrite (s : State) (off : Nat) (data : List Byte) (whole : Bool) : State :=
  if !s.carries off data.length whole || decide (256 < data.length) then (s.aerLog .host).badAccess (.item "AER" [off])
  else s.acceptWrite off data

/-- A BAR2 read that has credit arrives (R304, R306). -/
def State.takeRead (s : State) (host off len : Nat) (whole : Bool) : State :=
  if !s.carries off len whole || decide (4096 < len) then s.badAccess (.item "CPL_CA" [host]) else s.acceptRead host off len

/-- There is credit for a request: a place in the outstanding table for each fabric request it makes, for a write a posted
queue that is not held back, for a read fewer than 64 held (R307, R309). -/
def State.hasCredit (s : State) : Intake → Bool
  | .write _ _ _ => decide (s.tableUsed < 1024) && !s.postedHeld
  | .read _ o l _ => decide (s.tableUsed + (readParts o l).length ≤ 1024) && decide (s.bridge.reads.length < 64)
  | .reg wr _ _ _ _ => decide (s.tableUsed < 1024) && (if wr then !s.postedHeld else decide (s.bridge.reads.length < 64))

/-- The waiting host request that is taken next: the oldest if it has credit; a write also before reads that have none, while
no read goes before a write (R307, R309). -/
def State.admitIntake (s : State) : Option (Intake × List Intake) :=
  match s.bridge.intake with
  | [] => none
  | x :: t =>
    if s.hasCredit x then some (x, t)
    else if x.posted then none
    else (t.find? Intake.posted).bind (fun w => if s.hasCredit w then some (w, s.bridge.intake.erase w) else none)

/-- Waiting BAR2 requests are taken while credit admits them, `n` at most; a BAR0 access whose turn it is goes first. -/
def State.takeIntake : Nat → State → State
  | 0, s => s
  | n + 1, s =>
    match s.admitIntake with
    | some (.write o d whole, rest) =>
      State.takeIntake n ((s.updBridge (fun b => { b with intake := rest })).takeWrite o d whole)
    | some (.read h o l whole, rest) =>
      State.takeIntake n ((s.updBridge (fun b => { b with intake := rest })).takeRead h o l whole)
    | _ => s

/-- The bridge moves on: losses settled, host requests accepted, requests sent. -/
def State.pump (s : State) : State :=
  let s1 := s.settleLost
  let s2 := State.takeIntake (s1.bridge.intake.length) s1
  State.sendReady s2.bridge.reqs.length s2

/-! ### Link loss and resets (R325, R45) -/

/-- The host is gone: held reads are abandoned without completion, waiting requests released, stored lines discarded
(R325). -/
def State.bridgeDown (s : State) : State :=
  let s1 := s.updBridge (fun b => { b with reads := [], intake := [], reqs := b.reqs.filter (fun r => r.kind ≠ 1) })
  s1.discardLines 5 (fun _ => true)

end Sys2Proof.Machine
end

