-- ==== Sys2Proof/Machine/CanOps.lean ====
section
/-! DEFINITION. The CAN FD controllers: frames, buffers, error counters, the schedule matrix (R334-R355). -/

namespace Sys2Proof.Machine

/-- Controller `n` beside its registers. -/
def State.canU (s : State) (n : Nat) : CanUnit := Tbl.get {} s.can n

/-- Changes controller `n`. -/
def State.updCan (s : State) (n : Nat) (f : CanUnit → CanUnit) : State := { s with can := Tbl.upd {} s.can n f }

/-- The page of controller `n`. -/
def canPage (n : Nat) : Nat := 0x40 + n

/-- The controller works at all: it exists, its domain is on and its page is not in soft reset (R23, R29). -/
def State.canOn (s : State) (n : Nat) : Bool :=
  decide (n < 4) && s.pageOn (canPage n) && !s.pageUnit.inReset.contains (canPage n)

/-- STAT.GATED: a twin without ownership, with OWN_GATE at 1 (R352). -/
def State.canGated (s : State) (n : Nat) : Bool :=
  s.isTwin && s.flagn n CAN.CTRL_OWN_GATE && !(s.flag TWIN.STAT_OWN_OUT && !s.flag TWIN.STAT_OWN_IN)

/-- CANn_STB is high: configuration, sleep in edge mode, or no power (R338, R351). -/
def State.canStb (s : State) (n : Nat) : Bool :=
  !s.canOn n || s.rdn n CAN.CTRL_MODE = 0 || (s.rdn n CAN.STAT_BUS = 6 && s.rdn n CAN.WAKE_CFG_MODE = 0)

/-- The controller may send frames: normal or loopback mode, taking part in the bus, not fenced, not gated
(R335, R338, R352). -/
def State.canSends (s : State) (n : Nat) : Bool :=
  s.canOn n && !s.fenced (canPage n) && (s.rdn n CAN.CTRL_MODE = 1 || s.rdn n CAN.CTRL_MODE = 3) &&
  (s.rdn n CAN.STAT_BUS = 2 || s.rdn n CAN.STAT_BUS = 3) && !s.canGated n

/-- Data bytes of a DLC (R339). -/
def dlcBytes (fdf : Bool) (dlc : Nat) : Nat :=
  if dlc ≤ 8 then dlc
  else if !fdf then 8
  else [12, 16, 20, 24, 32, 48, 64].getD (dlc - 9) 64

/-- A number rounded up to a multiple of 4. -/
def up4 (n : Nat) : Nat := (n + 3) / 4 * 4

/-! ### Buffers -/

/-- The data bytes of buffer `b`. -/
def State.mbBytes (s : State) (n b : Nat) : List Nat :=
  (List.range 16).flatMap (fun k => beBytes 4 (s.rdn n CAN.MB_DATA_DATA (16 * b + k)))

/-- The frame buffer `b` holds. -/
def State.mbFrame (s : State) (n b : Nat) : CanFrame :=
  let fdf := s.flagn n CAN.MB_CTRL_FDF b
  let dlc := s.rdn n CAN.MB_CTRL_DLC b
  { ide := s.flagn n CAN.MB_ID_IDE b, id := s.rdn n CAN.MB_ID_ID b, fdf := fdf, brs := s.flagn n CAN.MB_CTRL_BRS b
    dlc := dlc, data := natb ((s.mbBytes n b).take (dlcBytes fdf dlc)), esi := fdf && s.rdn n CAN.STAT_BUS = 3 }

/-- Loads the data words of buffer `b` from bytes, as many whole words as they fill. -/
def State.mbLoad (s : State) (n b : Nat) (bs : List Nat) : State :=
  (List.range (up4 bs.length / 4)).foldl (fun t k =>
    t.wrn n CAN.MB_DATA_DATA (ofBe (((bs ++ [0, 0, 0]).drop (4 * k)).take 4)) (16 * b + k)) s

/-- The MB_ID word. -/
def State.mbIdWord (s : State) (n b : Nat) : Nat := s.rdn n CAN.MB_ID_IDE b * 2 ^ 31 + s.rdn n CAN.MB_ID_ID b

/-- The MB_CTRL word, with NEW and LOST as given. -/
def State.mbCtrlWord (s : State) (n b new lost : Nat) : Nat :=
  s.rdn n CAN.MB_CTRL_TX_LATE b * 2 ^ 23 + s.rdn n CAN.MB_CTRL_TX_STAT b * 2 ^ 21 +
  s.rdn n CAN.MB_CTRL_TX_ABORT b * 2 ^ 20 + s.rdn n CAN.MB_CTRL_TX_REQ b * 2 ^ 19 + lost * 2 ^ 18 + new * 2 ^ 17 +
  s.rdn n CAN.MB_CTRL_ESI b * 2 ^ 6 + s.rdn n CAN.MB_CTRL_BRS b * 2 ^ 5 + s.rdn n CAN.MB_CTRL_FDF b * 2 ^ 4 +
  s.rdn n CAN.MB_CTRL_DLC b

/-- The payload of R340. -/
def State.mbPayload (s : State) (n b : Nat) : List Nat :=
  let st := Tbl.get 0 (s.canU n).stored b
  let len := dlcBytes (s.flagn n CAN.MB_CTRL_FDF b) (s.rdn n CAN.MB_CTRL_DLC b)
  beBytes 4 (s.mbIdWord n b) ++ beBytes 4 (s.mbCtrlWord n b (st % 2) (st / 2)) ++
  beBytes 4 (s.rdn n CAN.MB_STAMP0_NS b) ++ beBytes 4 (s.rdn n CAN.MB_STAMP1_SEC_LO b) ++
  (s.mbBytes n b).take len ++ List.replicate (up4 len - len) 0

/-- The endpoint of buffer `b` (R17). -/
def canEp (n b : Nat) : Nat := 1024 + 64 * n + b

/-- The buffer that stores a received frame: the lowest-numbered enabled receive buffer that matches (R339). -/
def State.canMatch (s : State) (n : Nat) (f : CanFrame) : Option Nat :=
  (List.range 64).find? (fun b =>
    s.flagn n CAN.MB_CFG_EN b && !s.flagn n CAN.MB_CFG_DIR b && s.flagn n CAN.MB_ID_IDE b = f.ide &&
    (f.id &&& s.rdn n CAN.MB_MASK_MASK b) = (s.rdn n CAN.MB_ID_ID b &&& s.rdn n CAN.MB_MASK_MASK b))

/-- Writes a stamp of buffer `b` (R339). -/
def State.mbStamp (s : State) (n b ns sec : Nat) : State :=
  (s.wrn n CAN.MB_STAMP0_NS (ns % 1000000000) b).wrn n CAN.MB_STAMP1_SEC_LO sec b

/-- Stores a frame in buffer `b`, forwarding it with MB_DEST.FWD (R339, R340). -/
def State.canStore (s : State) (n b : Nat) (f : CanFrame) (ns sec : Nat) : State :=
  let was := s.rdn n CAN.MB_CTRL_NEW b
  let s1 := if was = 1 then s.wrn n CAN.MB_CTRL_LOST 1 b else s
  let s2 := (((((s1.wrn n CAN.MB_CTRL_NEW 1 b).wrn n CAN.MB_ID_ID f.id b).wrn n CAN.MB_CTRL_DLC f.dlc b).wrn n
    CAN.MB_CTRL_FDF (bit f.fdf) b).wrn n CAN.MB_CTRL_BRS (bit f.brs) b).wrn n CAN.MB_CTRL_ESI (bit f.esi) b
  let s3 := ((s2.mbLoad n b ((bnat f.data).take (dlcBytes f.fdf f.dlc))).mbStamp n b ns sec).updCan n (fun u =>
    { u with stored := Tbl.put u.stored b (1 + 2 * s2.rdn n CAN.MB_CTRL_LOST b) })
  let s4 := s3.incn n CAN.RX_OK_COUNT
  let s5 := if s4.flagn n CAN.MB_CFG_IRQ b then s4.raise (canPage n) 0 else s4
  if s5.flagn n CAN.MB_DEST_FWD b then
    let p := s5.mbPayload n b
    (s5.send 6 { tc := s5.rdn n CAN.MB_DEST_TC b, dest := s5.rdn n CAN.MB_DEST_DEST b
                 src := s5.nodeId * 8192 + canEp n b, len := p.length, payload := natb p }).2
  else s5

/-- A good frame for the buffers: stored, or counted in NOMATCH (R334, R339). -/
def State.canTake (s : State) (n : Nat) (f : CanFrame) (ns sec : Nat) : State :=
  match (if f.rtr then none else s.canMatch n f) with
  | some b => s.canStore n b f ns sec
  | none => s.satn n CAN.NOMATCH_COUNT

/-! ### Transmission -/

/-- An exclusive occurrence is missed (R346). -/
def State.canMiss (s : State) (n : Nat) : State := (s.satn n CAN.WIN_MISS_COUNT).raise (canPage n) 2

/-- The frame on the bus ends without success: an exclusive one is missed, an aborted request withdrawn, any other
request stays pending (R343, R345, R346). -/
def State.canTxFail (s : State) (n : Nat) : State :=
  match (s.canU n).tx with
  | none => s
  | some t =>
    let s1 := (s.updCan n (fun u => { u with tx := none })).wrn n CAN.STAT_TX_ACTIVE 0
    if t.exc then s1.canMiss n
    else if s1.flagn n CAN.MB_CTRL_TX_ABORT t.buf then
      (((s1.wrn n CAN.MB_CTRL_TX_ABORT 0 t.buf).wrn n CAN.MB_CTRL_TX_REQ 0 t.buf).wrn n CAN.MB_CTRL_TX_STAT 3 t.buf).wrn n
        CAN.MB_CTRL_TX_LATE 1 t.buf
    else s1

/-- A latched exclusive buffer that has had no start of frame is missed (R346). -/
def State.canDropExc (s : State) (n : Nat) : State :=
  if (s.canU n).exc.isSome then (s.updCan n (fun u => { u with exc := none })).canMiss n else s

/-- The order of identifiers in arbitration: the smaller wins (R342). -/
def arbKey (ide : Bool) (id : Nat) : Nat := id / 2 ^ 18 * 2 ^ 20 + (if ide then 3 * 2 ^ 18 + id % 2 ^ 18 else 0)

/-- Buffer `b` is an enabled transmit buffer of the given mode. -/
def State.canIsTx (s : State) (n b : Nat) (sched : Bool) : Bool :=
  s.flagn n CAN.MB_CFG_EN b && s.flagn n CAN.MB_CFG_DIR b && s.flagn n CAN.MB_CFG_TXMODE b = sched

/-- The event-mode buffer the controller offers next (R342). -/
def State.canOffer (s : State) (n : Nat) : Option Nat :=
  let cand := (List.range 64).filter (fun b => s.canIsTx n b false && s.flagn n CAN.MB_CTRL_TX_REQ b)
  let key (b : Nat) : Nat := arbKey (s.flagn n CAN.MB_ID_IDE b) (s.rdn n CAN.MB_ID_ID b)
  cand.find? (fun b => cand.all (fun c => decide (key b ≤ key c)))

/-- What starts on an idle bus now: the latched exclusive buffer before its window ends; an event-mode buffer in
an arbitrating window, or at any time with the matrix off (R345-R347). -/
def State.canNext (s : State) (n : Nat) : Option CanTx :=
  let u := s.canU n
  match u.exc with
  | some t => if u.began ≤ s.fabNs ∧ s.fabNs < u.till then some t else none
  | none =>
    if !s.flagn n CAN.CYC_CFG_EN || (u.kind = 2 && decide (u.began ≤ s.fabNs) && decide (s.fabNs < u.till)) then
      (s.canOffer n).map (fun b => { buf := b, exc := false, frame := s.mbFrame n b })
    else none

/-- TX_REQ of buffer `b` (R342); a pending request stays as it is. -/
def State.canReq (s : State) (n b : Nat) : State :=
  if s.canIsTx n b false && !s.flagn n CAN.MB_CTRL_TX_REQ b then
    ((s.wrn n CAN.MB_CTRL_TX_REQ 1 b).wrn n CAN.MB_CTRL_TX_STAT 1 b).wrn n CAN.MB_CTRL_TX_LATE 0 b
  else s

/-- TX_ABORT of buffer `b`, compared against its request at the start of frame (R343). -/
def State.canAbort (s : State) (n b : Nat) : State :=
  if !s.flagn n CAN.MB_CTRL_TX_REQ b then s
  else match (s.canU n).tx with
    | some t => if t.buf = b then s.wrn n CAN.MB_CTRL_TX_ABORT 1 b
      else (s.wrn n CAN.MB_CTRL_TX_REQ 0 b).wrn n CAN.MB_CTRL_TX_STAT 3 b
    | none => (s.wrn n CAN.MB_CTRL_TX_REQ 0 b).wrn n CAN.MB_CTRL_TX_STAT 3 b

/-- A write of MB_CTRL of the selected buffer (R353). -/
def State.writeMbCtrl (s : State) (n v : Nat) : State :=
  let b := s.rdn n CAN.MB_SEL_BUFFER
  let s1 := s.putAll n v b [CAN.MB_CTRL_BRS, CAN.MB_CTRL_FDF, CAN.MB_CTRL_DLC]
  let s2 := (s1.w1c n v b CAN.MB_CTRL_LOST).w1c n v b CAN.MB_CTRL_NEW
  let s3 := if bitOf v 19 then s2.canReq n b else s2
  if bitOf v 20 then s3.canAbort n b else s3

/-! ### Error counters and operating mode -/

/-- Error active, error passive or bus-off after a change of the counters (R350). -/
def State.canLevel (s : State) (n : Nat) : State :=
  if 255 < s.rdn n CAN.ERR_TEC then
    if s.rdn n CAN.STAT_BUS = 4 then s
    else ((((s.canTxFail n).updCan n (fun u => { u with off := true })).wrn n CAN.STAT_BUS 4).satn n
      CAN.BUSOFF_CNT_COUNT).raise (canPage n) 4
  else if 127 < s.rdn n CAN.ERR_TEC ∨ 127 < s.rdn n CAN.ERR_REC then
    if s.rdn n CAN.STAT_BUS = 3 then s else (s.wrn n CAN.STAT_BUS 3).raise (canPage n) 3
  else s.wrn n CAN.STAT_BUS 2

/-- A frame has been received without error: the receive counter falls (ISO 11898-1; PRESUMED, log 32). -/
def State.canRxGood (s : State) (n : Nat) : State :=
  let r := s.rdn n CAN.ERR_REC
  if r = 0 then s
  else if r ≤ 127 then s.wrn n CAN.ERR_REC (r - 1)
  else s.draw.2.wrn n CAN.ERR_REC (119 + s.draw.1 % 9)

/-- The controller ends sleep (R351). -/
def State.canWakeUp (s : State) (n : Nat) : State := (s.wrn n CAN.STAT_BUS 1).raise (canPage n) 6

/-- CTRL.MODE becomes `m`: entering configuration ends what is on the bus, leaving it clears the error counters and
starts integration (R338). A bus-off controller stays bus-off through configuration mode. -/
def State.canSetMode (s : State) (n m : Nat) : State :=
  let old := s.rdn n CAN.CTRL_MODE
  let s1 := s.wrn n CAN.CTRL_MODE m
  if old ≠ 0 && m = 0 then ((s1.canTxFail n).canDropExc n).wrn n CAN.STAT_BUS 0
  else if old = 0 && m ≠ 0 then
    ((s1.wrn n CAN.ERR_TEC 0).wrn n CAN.ERR_REC 0).wrn n CAN.STAT_BUS (if (s1.canU n).off then 4 else 1)
  else s1

/-- CTRL.RECOVER written as 1: recovery from bus-off begins (R350). -/
def State.canRecoverBit (s : State) (n : Nat) : State :=
  if s.rdn n CAN.STAT_BUS = 4 then (s.wrn n CAN.STAT_BUS 5).wrn n CAN.CTRL_RECOVER 1 else s

/-- CTRL.WAKE written as 1 (R351). -/
def State.canWakeBit (s : State) (n : Nat) : State := if s.rdn n CAN.STAT_BUS = 6 then s.canWakeUp n else s

/-- CTRL.SLEEP written as 1 (R351). -/
def State.canSleepBit (s : State) (n : Nat) : State := if s.rdn n CAN.STAT_BUS ≠ 6 then s.wrn n CAN.CTRL_SLEEP 1 else s

/-- A write of CTRL (R338, R350, R351). -/
def State.writeCanCtrl (s : State) (n v : Nat) : State :=
  let s1 := (s.putAll n v 0 [CAN.CTRL_OWN_GATE, CAN.CTRL_FD_EN]).canSetMode n (v % 4)
  let s2 := if bitOf v 5 then s1.canRecoverBit n else s1
  let s3 := if bitOf v 7 then s2.canWakeBit n else s2
  if bitOf v 6 then s3.canSleepBit n else s3

/-- The collector's fence of a controller: recessive at once; it keeps its buffers (R335). -/
def State.canFence (s : State) (n : Nat) : State := s.canTxFail n

/-! ### The schedule matrix -/

/-- The copy of a cell in the CELL field. -/
def cellCopy (bank cyc w : Nat) : Nat := 2048 * bank + 32 * cyc + w

/-- The active bank. -/
def State.canBank (s : State) (n : Nat) : Nat := s.rdn n CAN.CYC_STAT_BANK

/-- The bank that writes go to; none while a switch is pending and DIRECT is 0 (R348, R349). -/
def State.canWriteBank (s : State) (n : Nat) : Option Nat :=
  if s.flagn n CAN.CYC_CFG_DIRECT then some (s.canBank n)
  else if s.flagn n CAN.CYC_STAT_SWITCH_PEND then none
  else some (1 - s.canBank n)

/-- The bank a selector reads: 0 shadow, 1 active (R353). -/
def State.canReadBank (s : State) (n sel : Nat) : Nat := if sel = 1 then s.canBank n else 1 - s.canBank n

/-- A write of WIN_START of the selected window. -/
def State.writeWinStart (s : State) (n v : Nat) : State :=
  match s.canWriteBank n with
  | none => s
  | some b => s.put n v (32 * b + s.rdn n CAN.WIN_SEL_WINDOW) CAN.WIN_START_NS

/-- A write of CELL of the selected cell. -/
def State.writeCell (s : State) (n v : Nat) : State :=
  match s.canWriteBank n with
  | none => s
  | some b => s.putAll n v (cellCopy b (s.rdn n CAN.CELL_SEL_CYCLE) (s.rdn n CAN.CELL_SEL_WINDOW)) [CAN.CELL_KIND, CAN.CELL_BUF]

/-- The window starts of a bank. -/
def State.bankStarts (s : State) (n b : Nat) : List Nat :=
  (List.range (s.rdn n CAN.CYC_CFG_WINDOWS)).map (fun w => s.rdn n CAN.WIN_START_NS (32 * b + w))

/-- The starts increase strictly and the last is below CYC_LEN (R348). -/
def startsGood (len : Nat) : List Nat → Bool
  | [] => true
  | [a] => decide (a < len)
  | a :: b :: t => decide (a < b) && startsGood len (b :: t)

/-- Window `w` has a length: its start exceeds every earlier start and lies below CYC_LEN (R349). -/
def winLasts (len : Nat) (starts : List Nat) (w : Nat) : Bool :=
  decide (starts.getD w 0 < len) && (starts.take w).all (fun a => decide (a < starts.getD w 0))

/-- The offset at which window `w` ends: the start of the next window that has a length, or CYC_LEN (R345). -/
def winEnd (len : Nat) (starts : List Nat) (w : Nat) : Nat :=
  match ((List.range starts.length).drop (w + 1)).find? (winLasts len starts) with
  | some k => starts.getD k 0
  | none => len

/-- The fabric time, in ns, at which basic cycle `m` begins (R344). -/
def State.cycStart (s : State) (n m : Nat) : Nat := m * s.rdn n CAN.CYC_LEN_NS + s.rdn n CAN.CYC_PHASE_NS

/-- The number of the basic cycle at the present time. -/
def State.cycNow (s : State) (n : Nat) : Nat := (s.fabNs - s.rdn n CAN.CYC_PHASE_NS) / s.rdn n CAN.CYC_LEN_NS

/-- A write of CYC_CFG: CYCLES and WINDOWS only while EN is 0; the matrix starts at the next matrix-cycle boundary
after EN is set, and stops when it is cleared (R344). -/
def State.writeCycCfg (s : State) (n v : Nat) : State :=
  let was := s.flagn n CAN.CYC_CFG_EN
  let s1 := s.putAll n v 0 ((if was then [] else [CAN.CYC_CFG_CYCLES, CAN.CYC_CFG_WINDOWS]) ++
    [CAN.CYC_CFG_DIRECT, CAN.CYC_CFG_EN])
  if !was && s1.flagn n CAN.CYC_CFG_EN then
    let c := s1.rdn n CAN.CYC_CFG_CYCLES
    let m := if s1.fabNs ≤ s1.rdn n CAN.CYC_PHASE_NS then 0 else (s1.cycNow n / c + 1) * c
    s1.updCan n (fun u => { u with first := m, pos := none, starts := [], kind := 0, till := 0, exc := none })
  else if was && !s1.flagn n CAN.CYC_CFG_EN then
    s1.updCan n (fun u => { u with pos := none, starts := [], kind := 0, till := 0, exc := none })
  else s1

/-- A matrix-cycle boundary with a switch pending: the shadow bank is checked (R348). -/
def State.canSwitchNow (s : State) (n : Nat) : State :=
  if !s.flagn n CAN.CYC_STAT_SWITCH_PEND then s
  else
    let s1 := (s.wrn n CAN.CYC_STAT_SWITCH_PEND 0).wrn n CAN.CYC_CTRL_SWITCH 0
    if startsGood (s.rdn n CAN.CYC_LEN_NS) (s.bankStarts n (1 - s.canBank n)) then
      (s1.wrn n CAN.CYC_STAT_BANK (1 - s.canBank n)).raise (canPage n) 7
    else s1.raise (canPage n) 8

/-- The basic cycle to begin next; none while windows of the present one are still to start. After a step of fabric time back
it is the next by the new time, so that the index follows fabric time (R344, log 70). -/
def State.canNextCycle (s : State) (n : Nat) : Option Nat :=
  let u := s.canU n
  let c := s.rdn n CAN.CYC_CFG_CYCLES
  match u.pos with
  | none => some (if s.fabNs < s.rdn n CAN.CYC_PHASE_NS then 0 else min u.first ((s.cycNow n / c + 1) * c))
  | some (m, w) =>
    if s.fabNs < s.cycStart n m then some (s.cycNow n + 1)
    else if w < u.starts.length then none
    else some (m + 1)

/-- A basic cycle begins once its time has come: index, bank switch, window starts (R344, R348, R349). -/
def State.canCycle (s : State) (n : Nat) : State :=
  let next := s.canNextCycle n
  match next with
  | none => s
  | some m =>
    if s.fabNs < s.cycStart n m then s
    else
      let k := max m (s.cycNow n)
      let i := k % s.rdn n CAN.CYC_CFG_CYCLES
      let s1 := (s.canDropExc n).wrn n CAN.CYC_STAT_CYCLE i
      let s2 := if i = 0 then s1.canSwitchNow n else s1
      s2.updCan n (fun u => { u with pos := some (k, 0), starts := s2.bankStarts n (s2.canBank n), kind := 0, till := 0 })

/-- The cell of window `w` in the cycle that runs. -/
def State.canCell (s : State) (n w : Nat) : Nat × Nat :=
  let i := cellCopy (s.canBank n) (s.rdn n CAN.CYC_STAT_CYCLE) w
  (s.rdn n CAN.CELL_KIND i, s.rdn n CAN.CELL_BUF i)

/-- Windows without a length are passed over; an exclusive cell in one is missed (R349). -/
def State.canPass (s : State) (n : Nat) : Nat → State
  | 0 => s
  | k + 1 =>
    let u := s.canU n
    match u.pos with
    | none => s
    | some (m, w) =>
      if u.starts.length ≤ w || winLasts (s.rdn n CAN.CYC_LEN_NS) u.starts w then s
      else
        let s1 := s.updCan n (fun u => { u with pos := some (m, w + 1) })
        (if (s.canCell n w).1 = 1 then s1.canMiss n else s1).canPass n k

/-- The next window starts once its time has come, and its cell is performed (R345-R347). -/
def State.canWindow (s : State) (n : Nat) : State :=
  let u := s.canU n
  match u.pos with
  | none => s
  | some (m, w) =>
    if u.starts.length ≤ w || decide (s.fabNs < s.cycStart n m + u.starts.getD w 0) then s
    else
      let s1 := (s.canDropExc n).wrn n CAN.CYC_STAT_WINDOW w
      let cell := s1.canCell n w
      let s2 := s1.updCan n (fun u => { u with
        pos := some (m, w + 1), kind := cell.1, began := s.cycStart n m + u.starts.getD w 0
        till := s.cycStart n m + winEnd (s.rdn n CAN.CYC_LEN_NS) u.starts w })
      if cell.1 ≠ 1 then s2
      else if s2.canIsTx n cell.2 true && decide (1 ≤ s2.rdn n CAN.STAT_BUS) && decide (s2.rdn n CAN.STAT_BUS ≤ 3) then
        s2.updCan n (fun u => { u with exc := some { buf := cell.2, exc := true, frame := s2.mbFrame n cell.2 } })
      else s2.canMiss n

/-! ### Writes of other registers -/

/-- A write of NBT or DBT, as fields of the word: kept only in configuration mode, with no field zero, the bit long
enough and SJW at most TSEG2 (R336). -/
def State.writeBitTiming (s : State) (n v least : Nat) (brp t1 t2 sjw : Fld) : State :=
  let g (f : Fld) : Nat := bits v f.lo f.w
  if s.rdn n CAN.CTRL_MODE ≠ 0 || g brp = 0 || g t1 = 0 || g t2 = 0 || g sjw = 0 || decide (g t2 < g sjw) ||
      decide (g brp * (1 + g t1 + g t2) < least) then s
  else s.putAll n v 0 [brp, t1, t2, sjw]

/-- The writes of CAN registers that follow rules of their own; none for the others (R336, R344, R348, R353). -/
def State.canWrite (s : State) (n off v : Nat) : Option State :=
  let b := s.rdn n CAN.MB_SEL_BUFFER
  match off with
  | 0x40 => some (s.writeCanCtrl n v)
  | 0x4C => some (s.writeBitTiming n v 80 CAN.NBT_BRP CAN.NBT_TSEG1 CAN.NBT_TSEG2 CAN.NBT_SJW)
  | 0x50 => some (s.writeBitTiming n v 10 CAN.DBT_BRP CAN.DBT_TSEG1 CAN.DBT_TSEG2 CAN.DBT_SJW)
  | 0x54 => some (if s.rdn n CAN.CTRL_MODE = 0 then s.putAll n v 0 [CAN.TDC_EN, CAN.TDC_OFFSET] else s)
  | 0x64 => some (s.putAll n v b ((if s.flagn n CAN.MB_CFG_EN b then [] else [CAN.MB_CFG_TXMODE, CAN.MB_CFG_DIR]) ++
      [CAN.MB_CFG_IRQ, CAN.MB_CFG_EN]))
  | 0x70 => some (s.writeMbCtrl n v)
  | 0xC0 => some (s.writeCycCfg n v)
  | 0xC4 => some (if s.flagn n CAN.CYC_CFG_EN then s else s.put n v 0 CAN.CYC_LEN_NS)
  | 0xC8 => some (if s.flagn n CAN.CYC_CFG_EN || decide (s.rdn n CAN.CYC_LEN_NS ≤ v) then s else s.put n v 0 CAN.CYC_PHASE_NS)
  | 0xCC =>
    let s1 := if bitOf v 0 then (s.wrn n CAN.CYC_STAT_SWITCH_PEND 1).wrn n CAN.CYC_CTRL_SWITCH 1 else s
    some (if bitOf v 1 then (s1.wrn n CAN.CYC_STAT_SWITCH_PEND 0).wrn n CAN.CYC_CTRL_SWITCH 0 else s1)
  | 0xD8 => some (s.writeWinStart n v)
  | 0xE0 => some (s.writeCell n v)
  | 0x114 => some (if bitOf v 0 then s.clrFields n [CAN.TX_OK_COUNT, CAN.RX_OK_COUNT, CAN.WIN_MISS_COUNT,
      CAN.BUSOFF_CNT_COUNT, CAN.NOMATCH_COUNT] else s)
  | _ => none

/-- The copy of a selected CAN register that a read or write of `off` names (R353). -/
def State.canSel (s : State) (n off : Nat) : Nat :=
  if 0x64 ≤ off ∧ off < 0x80 then s.rdn n CAN.MB_SEL_BUFFER
  else if off = 0xD8 then 32 * s.canReadBank n (s.rdn n CAN.WIN_SEL_BANK) + s.rdn n CAN.WIN_SEL_WINDOW
  else if off = 0xE0 then
    cellCopy (s.canReadBank n (s.rdn n CAN.CELL_SEL_BANK)) (s.rdn n CAN.CELL_SEL_CYCLE) (s.rdn n CAN.CELL_SEL_WINDOW)
  else 0

/-! ### Message object endpoints -/

/-- A WRITE to a transmit buffer (R341). -/
def State.mbWrite (s : State) (n b : Nat) (f : Frame) (a : Access) : State :=
  let d := bnat a.data
  let ctrl := ofBe ((d.drop 4).take 4)
  let len := dlcBytes (bitOf ctrl 4) (ctrl % 16)
  if d.length < 8 || d.length - 8 ≠ up4 len then s.refuse 6 f 1
  else
    let s1 := (s.putAll n (ofBe (d.take 4)) b [CAN.MB_ID_IDE, CAN.MB_ID_ID]).putAll n ctrl b
      [CAN.MB_CTRL_BRS, CAN.MB_CTRL_FDF, CAN.MB_CTRL_DLC]
    let s2 := s1.mbLoad n b (d.drop 8)
    (s2.canReq n b).answer 6 f a 0x81 0 []

/-- Free bytes, for what a read asks beyond the payload (log 33). -/
def State.drawBytes (s : State) : Nat → List Nat × State
  | 0 => ([], s)
  | k + 1 =>
    let r := s.draw.2.drawBytes k
    (s.draw.1 % 256 :: r.1, r.2)

/-- A READ of a buffer: the R340 payload, COUNT bytes of it; clears NEW and LOST (R341). -/
def State.mbRead (s : State) (n b : Nat) (f : Frame) (a : Access) : State :=
  let p := s.mbPayload n b
  let r := s.drawBytes (a.count - p.length)
  let s1 := (r.2.wrn n CAN.MB_CTRL_NEW 0 b).wrn n CAN.MB_CTRL_LOST 0 b
  s1.answer 6 f a 0x82 0 (natb (p.take a.count ++ r.1))

/-- A frame for a message object endpoint (R115, R301, R312, R341). -/
def State.canAccess (s : State) (f : Frame) : State :=
  let e := localOf f.dest - 1024
  let n := e / 64
  let b := e % 64
  if f.resp || f.refuse then s.countAnswer f
  else match (if f.tc = 4 then parseAccess f else none) with
    | none => if f.tc = 4 then s.refuse 6 f 1 else s.refuse 6 f 2
    | some a =>
      if !a.good f then s.refuse 6 f 1
      else if !s.canOn n || s.fenced (canPage n) || !s.flagn n CAN.MB_CFG_EN b then s.refuse 6 f 4
      else if a.offset ≠ 0 then s.refuse 6 f 2
      else if a.op = 1 then (if s.flagn n CAN.MB_CFG_DIR b then s.mbWrite n b f a else s.refuse 6 f 2)
      else if bitOf a.flags 0 && s.sideEffect (localOf f.dest) then s.answer 6 f a 0x82 2 []
      else s.mbRead n b f a

end Sys2Proof.Machine
end

