-- ==== Sys2Proof/Machine/DomOps.lean ====
section
/-! DEFINITION. Power domains switching on and off, the OTP reset values of a page, and the fence of a buffer bank
(R23, R136, R451-R453). -/

namespace Sys2Proof.Machine

/-- An uncorrectable error of buffer bank `b`: the bank is fenced (R136). -/
def State.fenceBank (s : State) (b : Nat) : State :=
  if s.bankFenced b then s
  else
    let s1 := s.wr BUFFER.BANK_STAT_FENCED (setBit (s.rd BUFFER.BANK_STAT_FENCED) b)
    let free := ((List.range 1536).map (fun k => 1536 * b + k)).filter (fun c => !s1.buf.offFree.contains c)
    let s2 := free.foldl (fun t c =>
      { t.updCell c (fun _ => { st := 1, next := 0x7FFF }) with
        buf := { (t.updCell c (fun _ => { st := 1, next := 0x7FFF })).buf with offFree := insertNat t.buf.offFree c } }) s1
    (List.range 512).foldl (fun t v =>
      ((List.range (s.voq v).q.length).reverse).foldl (fun t k =>
        match (t.voq v).q[k]? with
        | none => t
        | some c => if c.cells.any (fun c => c / 1536 = b) then t.discardAt v k 6 else t) t) s2

/-! ### OTP values of page fields -/

/-- Bits of the mask area of the shadow, words 2 to 19 (R463). -/
def State.maskBits (s : State) (i : Nat) : Nat :=
  ((s.shadow (2 + i / 32) + s.shadow (3 + i / 32) * 2 ^ 32) / 2 ^ (i % 32)) % 64

/-- The fields of a page that take their reset value from OTP take it from the selected generation (R38, R463); the
field table holds the shipped values, which stand while no generation is selected. -/
def State.otpPage (s : State) (pg : Nat) : State :=
  if s.otp.sel = none then s
  else
    let t := blockType pg
    let s1 := if s.locked pg then s
      else (s.wrn pg HDR.BLK_ACCESS_RD_MASK (s.maskBits (12 * t)) pg).wrn pg HDR.BLK_ACCESS_WR_MASK (s.maskBits (12 * t + 6)) pg
    if pg = 0x02 then s1.putAll 0 (s.shadow 1) 0
      [CLOCKS.REF_CFG_SSC_RATE, CLOCKS.REF_CFG_SSC_DEPTH, CLOCKS.REF_CFG_SSC_EN, CLOCKS.REF_CFG_ROLE]
    else if pg = 0x01 then
      ((s1.wr POWER.THERM_CFG_CRIT (bits (s.shadow 26) 16 8)).wr POWER.THERM_CFG_HOT (bits (s.shadow 26) 8 8)).wr
        POWER.THERM_CFG_WARN (bits (s.shadow 26) 0 8)
    else if 0x50 ≤ pg ∧ pg < 0x58 then
      s1.wrn (pg - 0x50) PINBANK.BANK_CFG_VSEL (bits (s.shadow 25) (2 * (pg - 0x50)) 2)
    else if pg = 0x58 then s1.putAll 0 (s.shadow 27) 0 [XSPI.FL_CFG_DIV, XSPI.FL_CFG_DUMMY, XSPI.FL_CFG_PROTO]
    else if pg = 0x19 then s1.wr KEYS.ROOT_STAT_KILL_EN (bit s.otp.killEn)
    else s1

/-! ### Domains -/

/-- The page of a stored field copy. -/
def keyPage (k : Nat) : Nat := k / 2 ^ 31

/-- The offset of a stored field copy. -/
def keyOff (k : Nat) : Nat := k / 2 ^ 19 % 4096

/-- What a page keeps while its domain is off: LOCK (R451), FLT_STAT, which only the FAULT page clears (R33, R480), and
the root key and alarm status, whose state lies in the Demitasse domain (R385, R394). -/
def keptOff (k : Nat) : Bool :=
  keyOff k = 0x24 || keyOff k = 0x1C ||
  (keyPage k = 0x19 && (keyOff k = 0x40 || keyOff k = 0x48 || keyOff k = 0x4C || keyOff k = 0x50))

/-- The timers of a domain. -/
def timerDomain (t : Nat) : Nat :=
  if t = 0 ∨ t = 10 ∨ t = 15 ∨ t = 24 then 1
  else if t = 1 ∨ t = 11 ∨ t = 16 ∨ t = 25 then 2
  else if t = 2 ∨ t = 12 ∨ t = 17 ∨ t = 28 ∨ (30 ≤ t ∧ t ≤ 34) ∨ t = 50 ∨ (210 ≤ t ∧ t < 500) then 3
  else if (60 ≤ t ∧ t < 68) ∨ (80 ≤ t ∧ t < 88) ∨ (2000 ≤ t ∧ t < 2256) then 4
  else if (68 ≤ t ∧ t < 76) ∨ (88 ≤ t ∧ t < 96) ∨ (2256 ≤ t ∧ t < 2512) then 5
  else if 110 ≤ t ∧ t ≤ 116 then 6
  else if t = 40 ∨ t = 42 ∨ (1000 ≤ t ∧ t < 2000) then 7
  else 0

/-- The fields and timers of a domain's pages return to reset; a vector whose source this deasserts loses its pending bit
(R48). -/
def State.domRegs (s : State) (d : Nat) : State :=
  let pages := allPages.filter (fun pg => pageDomain pg = d)
  let s1 := { s with
    regs := s.regs.filter (fun e => pageDomain (keyPage e.1) ≠ d || keptOff e.1)
    timers := s.timers.filter (fun e => timerDomain e.1 ≠ d)
    pageUnit := { s.pageUnit with
      swFence := s.pageUnit.swFence.filter (fun pg => pageDomain pg ≠ d)
      inReset := s.pageUnit.inReset.filter (fun pg => pageDomain pg ≠ d)
      hold := s.pageUnit.hold.filter (fun e => pageDomain (e.1 % 2 ^ 24 / 4096) ≠ d || decide (0x100000 ≤ e.1 % 2 ^ 24)) } }
  (pages.foldl State.otpPage s1).msixFlush

/-- The state of the switch core domain returns to reset; a bank's fence stands until it is cleared (R30, R480). What
the balls carry stays. -/
def State.resetPd3 (s : State) : State :=
  let banks := (List.range 16).filter (fun b => bitOf (s.rdn 0x11 HDR.FLT_STAT_CHECKERS) b)
  let s1 := { s with
    phy := Tbl.del s.phy 2
    twin := { ownInLow := s.mono }
    win := []
    byp := {}
    voqs := []
    outs := []
    buf := {}
    bufMem := []
    inbox := []
    cup := []
    cupSnap := none
    upd := {}
    pins := s.pins.map (fun e => (e.1, { ball := e.2.ball }))
    lfsr := State.reset.lfsr }
  banks.foldl State.fenceBank s1

/-- The PCI Express link has lost its power (R468). -/
def State.pcieDark (s : State) : State :=
  let s1 := { s with pcie := { perst := s.pcie.perst }, msix := { events := s.msix.events } }
  let s2 := ((s1.wr DEVICE.PCIE_STAT_DL_UP 0).wr DEVICE.PCIE_STAT_WIDTH 0).wr DEVICE.PCIE_STAT_SPEED 0
  if s.pcie.up then s2.raise 0 9 else s2

/-- A settings save in progress ends in error as the flash loses its power; the previous bank stays in force (R461,
log 43). -/
def State.saveLost (s : State) : State :=
  if s.modeU.saving then
    ({ s with modeU := { s.modeU with saving := false } }.wr DEVICE.SET_CTRL_SAVE 0).wr DEVICE.SET_STAT_STATUS 3
  else s

/-- The reference as a ring domain goes off: REFW is no longer seen without PD2, the east lanes are gone without PD1, and a hub
that followed them enters holdover (R57, R61). -/
def State.refDark (s : State) (d : Nat) : State :=
  let s1 := if d = 2 then { s with ref := { s.ref with edges := none } }.wr CLOCKS.REF_STAT_CLOSED 0 else s
  if (d = 1 && s1.rd CLOCKS.REF_STAT_SOURCE = 1) || (d = 2 && s1.rd CLOCKS.REF_STAT_SOURCE = 0) then s1.loseSource else s1

/-- A power domain switches off: its pages and state are lost (R23). -/
def State.domainOff (s : State) (d : Nat) : State :=
  if !s.pdOn d || d = 0 then s
  else
    let s := s.refDark d
    let s1 := { s.domRegs d with pd := deleteNat s.pd d }
    match d with
    | 1 => { s1 with phy := Tbl.del s.phy 0, lanes := Tbl.del s.lanes 0, rx := Tbl.del s.rx 0, tx := Tbl.del s.tx 0 }
    | 2 => { s1 with phy := Tbl.del s.phy 1, lanes := Tbl.del s.lanes 1, rx := Tbl.del s.rx 1, tx := Tbl.del s.tx 1 }
    | 3 => s1.resetPd3
    | 4 => { s1 with
        ctxs := s.ctxs.filter (fun e => decide (256 ≤ e.1))
        engs := s.engs.filter (fun e => decide (8 ≤ e.1))
        prog := s.prog.filter (fun e => decide (32768 ≤ e.1))
        base := {} }
    | 5 => { s1 with
        ctxs := s.ctxs.filter (fun e => decide (e.1 < 256))
        engs := s.engs.filter (fun e => decide (e.1 < 8))
        prog := s.prog.filter (fun e => decide (e.1 < 32768)) }
    | 6 => { s1.saveLost.pcieDark with tout := [], bridge := {}, can := [], usb := { vbus := s.usb.vbus }, flash := { s.flash with cmd := none } }
    | 7 => { s1 with gcm := { root := s.gcm.root } }
    | _ => s1

/-- The pins are sampled again: a ball that differs from the filtered level begins a run (R285). -/
def State.resample (s : State) : State :=
  { s with pins := s.pins.map (fun (e : Nat × PinIn) =>
      (e.1, { e.2 with since := if e.2.ball = e.2.filt then none else some (s.mono, s.fab) })) }

/-- A power domain switches on, its blocks enabled, its pages to be restored (R451-R453). As PD3 comes on, P0, P1 and in
junction mode P2 count as down, their hold windows started, until their first LINK_UP (R145). A page's masks and other
OTP fields come from the selected generation (R32, R38). -/
def State.domainOn (s : State) (d : Nat) : State :=
  if s.pdOn d then s
  else
    let pages := allPages.filter (fun pg => pageDomain pg = d)
    let s1 := { s with
      pd := insertNat s.pd d
      pageUnit := { s.pageUnit with fresh := pages.foldl insertNat s.pageUnit.fresh } }
    let s2 : State := pages.foldl (fun t pg => (t.otpPage pg).wrn pg HDR.BLK_CTRL_ENABLE 1) s1
    if d = 3 then
      let ports : List Nat := if s2.role = 2 then [0, 1, 2] else [0, 1]
      (ports.foldl (fun (t : State) p => (t.portDown p).updOut p (fun o => { o with gen := 0 })) s2).resample
    else s2

end Sys2Proof.Machine
end

