-- ==== Sys2Proof/Machine/RingOps.lean ====
section
/-! DEFINITION. Transit, insertion, the bypass relay (R95-R106, R116-R119, R211). -/

namespace Sys2Proof.Machine

/-- A ring output can carry frames: its port is up and it is not silenced (R106, R117). -/
def State.outUp (s : State) (d : Side) : Bool :=
  s.linkState (.ring d) = 8 && !(s.txOf d).silent

/-- The bytes in a transit buffer. -/
def TxPort.level (t : TxPort) : Nat := (t.tbuf.map (fun e => e.1.statedLen)).foldl (· + ·) 0

/-- Class `c` has rank 3 at output `d`: its quota is not spent, and for TC4-TC6 the transit buffer is not
above HIGH (R103, R105, R106). TC7 has no quota. -/
def State.rank3 (s : State) (d : Side) (c : Nat) : Bool :=
  if c = 7 then true
  else
    let q := s.rdn d.n MAC.INS_QUOTA_QUOTA c
    (q = 0xFFFF || decide (Tbl.get 0 (s.txOf d).used c < q * 64)) &&
    !(decide (4 ≤ c) && decide (s.rd TRANSIT.TBUF_CFG_HIGH * 64 < (s.txOf d).level))

/-- The classes of rank 3 at an output. -/
def State.classes3 (s : State) (d : Side) : List Nat := (List.range 8).filter (s.rank3 d)

/-- The classes of rank 5. -/
def State.classes5 (s : State) (d : Side) : List Nat := (List.range 8).filter (fun c => !s.rank3 d c)

/-- Insertion is paused in a direction for a shed (R78). -/
def State.paused (s : State) (d : Side) : Bool := s.rdn d.n MAC.LANE_STAT_PHASE = 3

/-- A local frame of rank 3 may start at the output. -/
def State.localReady (s : State) (d : Side) : Bool :=
  !s.paused d && (match (s.out d.code).grant with
    | some v => (s.classes3 d).contains (clsOf v)
    | none => s.requesters d.code (s.classes3 d) ≠ [])

/-- The frame an output is sending, if it is a local or a buffered one. -/
def State.sendingFrame (s : State) (d : Side) : Option (Frame × Bool) :=
  match (s.txOf d).cur with
  | .queue v => match (s.voq v).q with | c :: _ => some (c.frame, c.launchAt.isSome) | [] => none
  | .fromBuf => match (s.txOf d).tbuf with | e :: _ => some (e.1, false) | [] => none
  | _ => none

/-- The largest frame that is never abandoned (R104). -/
def State.neverAbandoned (s : State) (d : Side) : Nat := if s.laneMode (.ring d) = 2 then 576 else 288

/-- An express frame start meets a local or buffered frame on its output: the frame is ended with a count-31
block, counted, and stays at the head of its queue (R104, R142). -/
def State.meetExpress (s : State) (d : Side) : State :=
  match s.sendingFrame d with
  | none => s
  | some (f, launch) =>
    if f.statedLen ≤ s.neverAbandoned d && !launch then s
    else
      let s1 := ((s.emit (.abandon d.code)).satn d.n MAC.ABANDONED_COUNT).updTx d (fun t => { t with cur := .idle })
      match (s.txOf d).cur with
      | .queue _ => s1.abandonGrant d.code
      | _ => s1

/-- The residence time of a TC1 frame, in 2^-16 ns modulo 2^64: the fabric time of its transmit slot less its receive stamp,
rounded to the nearest unit (R102, R195). -/
def State.residence (s : State) (d : Side) (stamp : Nat) : Nat :=
  ((s.slot16 d.opp : Int) - (s.rxStamp d stamp : Nat)).emod (2 ^ 64) |>.toNat

/-- The header of a frame in transit: HOPS decremented, for TC1 the residence time added, HCHK anew (R95 row
8, R102). -/
def transitHead (f : Frame) (residence : Nat) : Frame :=
  let g := { f with hops := f.hops - 1, launch := if f.tc = 1 then (f.launch + residence) % 2 ^ 64 else f.launch }
  { g with hchk := g.headCheck }

/-- Row 8 of R95: a frame goes on through the opposite port: express at once, ordinary at once or into the
transit buffer (R99, R106), in a slot that is not the last block of a codeword group (R91). An express frame whose output
is down or silent is dropped, and no counter counts it (log 64). -/
def State.transit (s : State) (d : Side) (f : Frame) (stamp : Nat) : State :=
  let o := d.opp
  let g := transitHead f (s.residence d stamp)
  let lost : RxKind := if isBroadcast f then .timed else .skip
  if !s.forwards o then s.updRx d (fun r => { r with kind := lost })
  else if express f.tc then
    if s.outUp o then
      let s1 := (((s.meetExpress o).fillSlot o).satn o.n MAC.TRANSIT_EXP_COUNT).emit (.frame o.code g)
      (s1.updTx o (fun t => { t with cur := .transit })).updRx d (fun r => { r with kind := .express })
    else s.updRx d (fun r => { r with kind := lost })
  else if !s.outUp o then (s.satn o.n MAC.TBUF_DROP_COUNT).updRx d (fun r => { r with kind := .skip })
  else if (s.txOf o).cur = .idle && (s.txOf o).tbuf = [] && (s.txOf o).maint = [] && !s.localReady o then
    let s1 := ((s.fillSlot o).satn o.n MAC.TRANSIT_ORD_COUNT).emit (.frame o.code g)
    (s1.updTx o (fun t => { t with cur := .transit })).updRx d (fun r => { r with kind := .ordinary })
  else if (s.txOf o).level + g.statedLen ≤ 65536 then
    (s.updTx o (fun t => { t with tbuf := t.tbuf ++ [(g, 0)] })).updRx d (fun r => { r with kind := .buffered })
  else (s.satn o.n MAC.TBUF_DROP_COUNT).updRx d (fun r => { r with kind := .skip })

/-- A frame enters the switch core on a ring port while it arrives: admission is decided at the header
(R132); a refused copy is counted on the SWITCH page only (R110). -/
def State.enterSwitch (s : State) (d : Side) (f : Frame) (p : Nat) : State :=
  let v := voqIdx d.code p f.tc
  let adm := State.admitAll [v] (cellsOf f) s
  if adm.1 = [] then adm.2.updRx d (fun r => { r with kind := .skip })
  else (adm.2.storeCopies adm.1 f false none 0).updRx d (fun r => { r with kind := .local_ v })


/-- Rows 4 to 8 of R95, for a frame whose header is sound. -/
def State.sortFrame (s : State) (d : Side) (f : Frame) (stamp : Nat) : State :=
  if f.entry = s.station then (s.satn d.n MAC.REMOVED_RETURN_COUNT).updRx d (fun r => { r with kind := .skip })
  else if nodeOf f.dest = s.nodeId then
    (if f.tc = 1 && localOf f.dest = 0 then s.updRx d (fun r => { r with kind := .timed })
     else if (f.resp || f.refuse) && localOf f.dest ≠ 0 then s.updRx d (fun r => { r with kind := .answer })
     else match s.destPort f with
       | some p => s.enterSwitch d f p
       | none => s.updRx d (fun r => { r with kind := .absent }))
  else if nodeOf f.dest / 128 ≠ s.ring && s.role = 2 && bitOf (s.rd TRANSIT.JUNC_MAP_RINGS) (nodeOf f.dest / 128) then
    s.enterSwitch d f 2
  else if f.hops = 0 then (s.satn d.n MAC.REMOVED_HOPS_COUNT).updRx d (fun r => { r with kind := .skip })
  else s.transit d f stamp

/-- What a ring port does with a frame start (R95). TC7 goes to the ring maintenance unit, whose commands
are the beacons and ballots. -/
def State.arrive (s : State) (d : Side) (f : Frame) (bad : Bool) (stamp : Nat) : State :=
  let s1 := s.updRx d (fun _ => { cur := f, kind := .skip, errored := false, stamp := stamp })
  if bad || f.hchk ≠ f.headCheck then s1.satn d.n MAC.RX_HCHK_COUNT
  else if f.badHeader then s1.satn d.n MAC.RX_MALFORMED_COUNT
  else if f.tc = 7 then s1.updRx d (fun r => { r with kind := .ring })
  else s1.sortFrame d f stamp

/-- A junction hub with JUNC_TIME relays the first copy of a time broadcast that passes the checks of R110, the tag check and
the duplicate discard among them (R97, R199); a copy whose tag fails has been counted for the time unit already. -/
def State.relayBroadcast (s : State) (d : Side) (f : Frame) (stamp : Nat) : State :=
  if !(s.role = 2 && s.flag TIME.CFG_JUNC_TIME) then s
  else if f.sec && s.seqSeen (nodeOf f.src) f.tc f.seq then s.satn d.n MAC.RX_DUP_COUNT
  else match s.openFrame f false with
    | .fail _ => s
    | _ => s.openAndJudge d.code (.relay (s.rxStamp d stamp)) f

/-- A time broadcast in transit: a copy goes to the time unit, one that a junction hub relays over P2 too. An ending that the
transit path has counted (`counted`) is not counted again (R199, R200). -/
def State.broadcastCopy (s : State) (d : Side) (f : Frame) (stamp : Nat) (errored count31 : Bool) (wireLen : Nat)
    (counted : Bool) : State :=
  if !isBroadcast f then s
  else if errored || count31 || wireLen ≠ f.statedLen then
    (if counted then s else s.timeCopy d.code f errored count31 wireLen)
  else if f.crc ≠ f.trailer then s.timeCopy d.code f errored count31 wireLen
  else (s.timeCopy d.code f errored count31 wireLen).relayBroadcast d f stamp

/-- The end of a frame cut through or buffered in transit: a length other than R88 gives counts
RX_MALFORMED, an errored end RX_ERRORED; too long or errored, it goes on as an abandoned frame (R94, R101). -/
def State.transitEnd (s : State) (d : Side) (f : Frame) (buffered errored count31 : Bool) (wireLen : Nat) : State :=
  let o := d.opp
  let s1 := if errored || count31 then s.satn d.n MAC.RX_ERRORED_COUNT
    else if wireLen ≠ f.statedLen then s.satn d.n MAC.RX_MALFORMED_COUNT else s
  let cut := errored || count31 || decide (f.statedLen < wireLen)
  if buffered then
    (if cut then s1.updTx o (fun t => t.cutLast (if errored || decide (f.statedLen < wireLen) then 2 else 1)) else s1)
  else
    let s2 := if !cut then s1
      else if count31 && !errored then s1.emit (.abandon o.code)
      else (s1.emit (.abandon o.code)).satn o.n MAC.ABANDONED_COUNT
    if (s2.txOf o).cur = .transit then s2.updTx o (fun t => { t with cur := .idle }) else s2

/-- The end of a TC7 frame: errored blocks and a length other than R88 gives are counted (R94, R124). -/
def State.ringEnd (s : State) (d : Side) (f : Frame) (errored count31 : Bool) (wireLen : Nat) : State :=
  if errored || count31 then s.satn d.n MAC.RX_ERRORED_COUNT
  else if wireLen ≠ f.statedLen then s.satn d.n MAC.RX_MALFORMED_COUNT
  else s

/-- What a ring port does at the end of a frame (R94, R101, R110, R200). -/
def State.trailer (s : State) (d : Side) (errored count31 : Bool) (wireLen : Nat) : State :=
  let r := s.rxOf d
  let e := errored || r.errored
  let s1 := s.updRx d (fun _ => {})
  match r.kind with
  | .idle => s
  | .skip => s1
  | .express => (s1.transitEnd d r.cur false e count31 wireLen).broadcastCopy d r.cur r.stamp e count31 wireLen true
  | .ordinary => s1.transitEnd d r.cur false e count31 wireLen
  | .buffered => s1.transitEnd d r.cur true e count31 wireLen
  | .local_ v => s1.acceptFrame d.code (.queue v) r.cur e count31 wireLen
  | .absent => s1.acceptFrame d.code .absent r.cur e count31 wireLen
  | .answer => s1.acceptFrame d.code .answer r.cur e count31 wireLen
  | .timed =>
    if isBroadcast r.cur then s1.broadcastCopy d r.cur r.stamp e count31 wireLen false
    else s1.timeCopy d.code r.cur e count31 wireLen
  | .ring => s1.ringEnd d r.cur e count31 wireLen

/-! ### Insertion -/

/-- The gate may start a frame of `n` bytes: no express start lies before its end in the visible input, and
a frame that must not be abandoned ends within it (R104). -/
def State.gateOpen (s : State) (d : Side) (n : Nat) (launch : Bool) (expressAt : Option Nat) (visible : Nat) : Bool :=
  (match expressAt with | some e => decide (n ≤ e) | none => true) &&
  (decide (s.neverAbandoned d < n) || launch || decide (n ≤ visible))

/-- A launch copy of queue `v` can no longer start by its time `l` plus the TOL of its output (R145, R212). -/
def State.launchLate (s : State) (v l : Nat) : Bool :=
  decide (l + fns (s.rdn (if outOf v = 0 then 0 else 2) MAC.LAUNCH_CFG_TOL * 10) < s.fab)

/-- A late launch copy is discarded: on a port that is up it counts on the MAC page alone (R212), on a port that is
down it is discarded with cause 5 (R145). -/
def State.launchMiss (s : State) (v k : Nat) (c : Copy) (l : Nat) : State :=
  let d : Side := if outOf v = 0 then .east else .west
  if s.fenced 0x10 then s
  else if (s.out (outOf v)).down then s.discardAt v k 5
  else
    let late := (s.fab - l) / 2 ^ 48
    let s1 := ((s.removeAt v k c).lostCopy c).touch v
    let s2 := ((s1.satn d.n MAC.LAUNCH_MISS_COUNT).wrn d.n MAC.LAUNCH_LAST_VALID 1).wrn d.n MAC.LAUNCH_LAST_CLASS (clsOf v)
    (s2.wrn d.n MAC.LAUNCH_LAST_LATE (min (2 ^ 28 - 1) late)).raise (9 + d.n) 6

/-- The granted frame of an output starts if the gate allows it, a launch frame not before its time nor later than its
tolerance, when it is discarded (R104, R211, R212). -/
def State.startGranted (s : State) (d : Side) (expressAt : Option Nat) (visible : Nat) : State :=
  match (s.out d.code).grant with
  | none => s
  | some v =>
    match (s.voq v).q with
    | [] => s
    | c :: _ =>
      if (match c.launchAt with | some l => s.launchLate v l | none => false) then s.launchMiss v 0 c (c.launchAt.getD 0)
      else if s.gateOpen d c.frame.statedLen c.launchAt.isSome expressAt visible &&
          (match c.launchAt with | some l => decide (l ≤ s.fab) | none => true) then
        let s1 := (s.fillSlot d).updTx d (fun t => { t with cur := .queue v, slotAt := s.slotFab d })
        match c.launchAt with
        | some l => (s1.satn d.n MAC.LAUNCH_SENT_COUNT).offer 18 (some d.code) ((s.fab - l) * 1000 / 2 ^ 48 : Nat)
        | none => s1
      else s

/-- An insertion period of a port starts once fabric time has passed a whole multiple of INS_PERIOD since the last
start, or since the write that gave the period (R105). -/
def State.insStart (s : State) (d : Side) : State :=
  let n := s.rdn d.n MAC.INS_PERIOD_PERIOD
  if s.fab / fns (n * 100) ≠ (s.txOf d).started / fns (n * 100) then
    s.updTx d (fun t => { t with used := [], period := n, started := s.fab })
  else s

/-- The arbitration a ring output offers: among rank 3, or with rank 3 and the transit buffer empty, among
rank 5 (R103, R140). -/
def State.ringArbitrate (s : State) (d : Side) : State :=
  if (s.out d.code).grant.isSome || s.paused d || !s.outOpen d.code then s
  else if s.requesters d.code (s.classes3 d) ≠ [] then s.arbitrate d.code (s.classes3 d)
  else if (s.txOf d).tbuf = [] then s.arbitrate d.code (s.classes5 d)
  else s

/-- A grant that the gate has not started gives way when its class has lost rank 3 and a frame of rank 3 or of the transit
buffer waits: an attempt that was not completed (R103, R142, log 64). -/
def State.yieldGrant (s : State) (d : Side) : State :=
  match (s.out d.code).grant with
  | none => s
  | some v =>
    if !(s.classes3 d).contains (clsOf v) && ((s.txOf d).tbuf ≠ [] || s.requesters d.code (s.classes3 d) ≠ [])
    then s.abandonGrant d.code else s

/-- The insertion gate at an idle output: it sends a TC7 frame that waits, or starts the granted local frame, or a frame of
the transit buffer (R103, R104). -/
def State.insert (s : State) (d : Side) (expressAt : Option Nat) (visible : Nat) : State :=
  if !s.outUp d || (s.txOf d).cur ≠ .idle then s
  else match (s.txOf d).maint with
  | m :: rest => (s.emitMaint d m).updTx d (fun t => { t with maint := rest })
  | [] =>
    let s1 := (s.yieldGrant d).ringArbitrate d
    if (s1.out d.code).grant.isSome then (if s1.paused d then s1 else s1.startGranted d expressAt visible)
    else match (s1.txOf d).tbuf with
      | [] => s1
      | e :: _ =>
        if s1.gateOpen d e.1.statedLen false expressAt visible then (s1.fillSlot d).updTx d (fun t => { t with cur := .fromBuf })
        else s1

/-- A time message that waits for its slot: CORR gains the slot's time less the reference time (R198, R199). Units of
2^-16 ns. -/
def State.slotCorr (s : State) (d : Side) (f : Frame) : Frame :=
  match corrRef f with
  | some t => { f with launch := (((f.launch % 2 ^ 64 + ((s.txOf d).slotAt + 2 ^ 31) / 2 ^ 32 : Nat) : Int) - t).emod (2 ^ 64) |>.toNat }
  | none => f

/-- The frame a ring output is sending has gone out in full (R103, R105, R142); a frame of the transit buffer that is still
arriving has not (R101). Its bytes count against the quota of the period in which it ends; those of an abandoned one count
against none (log 64). -/
def State.ringSent (s : State) (d : Side) : State :=
  match (s.txOf d).cur with
  | .queue _ =>
    let r := s.popGranted d.code
    match r.1 with
    | none => r.2.updTx d (fun t => { t with cur := .idle })
    | some (v, c) =>
      (((r.2.emit (.frame d.code (r.2.placed d.code (s.slotCorr d c.frame)))).satn d.n MAC.INSERTED_COUNT).updTx d (fun t =>
        { t with cur := .idle, used := Tbl.upd 0 t.used (clsOf v) (· + c.frame.statedLen) }))
  | .fromBuf =>
    match (s.txOf d).tbuf with
    | [] => s.updTx d (fun t => { t with cur := .idle })
    | e :: rest =>
      if rest = [] && (s.rxOf d.opp).kind = .buffered then s
      else
        let s1 := (s.emit (.frame d.code e.1)).satn d.n MAC.TRANSIT_ORD_COUNT
        let s2 := if e.2 = 0 then s1 else s1.emit (.abandon d.code)
        (if e.2 = 2 then s2.satn d.n MAC.ABANDONED_COUNT else s2).updTx d (fun t => { t with cur := .idle, tbuf := rest })
  | _ => s

/-! ### Bypass -/

/-- Both ring outputs stop driving and BYPASS_N goes low (R117, R118). -/
def State.enterBypass (s : State) (cause : Nat) : State :=
  let s1 := { s with byp := { s.byp with high := false, waiting := false, ports := false, startup := false } }
  let s2 := ((s1.updTx .east (fun t => { t with silent := true })).updTx .west (fun t => { t with silent := true })).stop tRelay
  (((s2.wr TRANSIT.BYP_STAT_BYPASSED 1).wr TRANSIT.BYP_STAT_CAUSE cause).wr TRANSIT.BYP_CTRL_REJOIN 0).raise 0x0E 1

/-- The transit checks fail at an output (`kind` 0 block comparison, 1 HCHK, 2 payload CRC): the first failure is captured,
TRANSIT_FAULT is raised, both outputs go silent and BYPASS_N goes low (R116, R117, R121). -/
def State.transitFail (s : State) (out kind : Nat) : State :=
  let s1 := if s.flag TRANSIT.CMP_STAT_VALID then s
    else ((s.wr TRANSIT.CMP_STAT_VALID 1).wr TRANSIT.CMP_STAT_OUTPUT out).wr TRANSIT.CMP_STAT_KIND kind
  let s2 := (s1.wr TRANSIT.BYP_STAT_FAULT_HELD 1).raise 0x0E 0
  if s2.byp.high then s2.enterBypass 2 else s2.wr TRANSIT.BYP_STAT_CAUSE 2

/-- BYPASS_N goes high and the relay wait starts (R118). -/
def State.leaveBypass (s : State) : State :=
  let s1 := { s with byp := { s.byp with high := true, waiting := true } }
  ((s1.wr TRANSIT.BYP_STAT_BYPASSED 0).wr TRANSIT.BYP_STAT_CAUSE 0).start tRelay (s1.rd TRANSIT.BYP_CTRL_RELAY_WAIT * ms 1)

/-- REJOIN, or FORCE returned to 0: ignored while a transit fault is uncleared, with FORCE at 1, or before
LISTEN (R118); a leaving in progress goes on. -/
def State.rejoin (s : State) : State :=
  if bitOf (s.rdn 0x0E HDR.FLT_STAT_CHECKERS) 0 || s.flag TRANSIT.BYP_CTRL_FORCE || !s.byp.entered || s.byp.waiting then s
  else s.leaveBypass.wr TRANSIT.BYP_CTRL_REJOIN 1

/-- A write of FORCE (R118): before LISTEN it is only stored. A bypass that a transit fault holds keeps CAUSE 2 (log 64). -/
def State.force (s : State) (on : Bool) : State :=
  let was := s.flag TRANSIT.BYP_CTRL_FORCE
  let s1 := s.wr TRANSIT.BYP_CTRL_FORCE (bit on)
  if !s1.byp.entered || was = on then s1
  else if on then (if s1.byp.high then s1.enterBypass 3 else s1)
  else s1.rejoin

/-- A ring port that waited in hold-off to be enabled returns to step 1 (R75). -/
def State.portRestart (s : State) (d : Side) : State :=
  if s.linkState (.ring d) = 9 && !s.running (tPhy (.ring d)) && s.linkAllowed (.ring d) &&
      (s.autoTrain (.ring d) || s.flagn d.n PHY.PHY_CTRL_RETRAIN) then s.linkRestart (.ring d) else s

/-- The relay wait ends: the ring ports are enabled, a twin driving the output of its index (R159); leaving a bypass other
than the start-up one raises BYPASS_LEAVE (R118, R122). A hub that is not acting master listens for beacons from now on
(R56, R63, log 63). -/
def State.portsEnabled (s : State) : State :=
  let s0 := if s.isTwin then s.wr TWIN.STAT_DRIVES (2 ^ s.otp.index) else s
  let s1 := { s0 with byp := { s0.byp with waiting := false, ports := true, startup := false } }
  let s2 := (s1.updTx .east (fun t => { t with silent := !s1.forwards .east })).updTx .west
    (fun t => { t with silent := !s1.forwards .west })
  let s3 := ((s2.wr TRANSIT.BYP_CTRL_REJOIN 0).portRestart .east).portRestart .west
  let s4 := if s3.acting || s3.running tBeaconTmo then s3
    else s3.start tBeaconTmo (s3.rd CLOCKS.REF_CFG_BEACON_TMO * ms 1)
  if s.byp.startup then s4 else s4.raise 0x0E 2

end Sys2Proof.Machine
end

