-- ==== Sys2Proof/Machine/TimeOps.lean ====
section
/-! DEFINITION. Fabric time: time messages, best master selection, path delay, offset, servo, steps, timed outputs,
launch copies (R191-R222). Times of this file are in 2^-16 ns unless said otherwise. -/

namespace Sys2Proof.Machine

/-! ### The counter (R191, R192) -/

/-- Fabric time in units of 2^-16 ns. -/
def State.fab16 (s : State) : Nat := s.fab / 2 ^ 32

/-- The range of the counter: 2^48 seconds (R191). -/
def fabSpan : Nat := 2 ^ 48 * 1000000000 * 2 ^ 48

/-- The counter a STEP target names: seconds high and low, ns, fraction (R206, R220). -/
def State.stepTarget (s : State) : Nat :=
  ((s.rd TIME.STEP0_SEC_HI * 2 ^ 32 + s.rd TIME.STEP2_SEC_LO) * 1000000000 + s.rd TIME.STEP1_NS) * 2 ^ 48 +
    s.rd TIME.STEP0_FRAC * 2 ^ 32

/-! ### Messages of IEEE 1588-2019 (R197; layout PRESUMED from the standard, log 28) -/

/-- messageType. -/
def ptpSync : Nat := 0
def ptpDelayReq : Nat := 1
def ptpPdelayReq : Nat := 2
def ptpPdelayResp : Nat := 3
def ptpDelayResp : Nat := 9
def ptpAnnounce : Nat := 11

/-- clockIdentity: bytes 0 to 5 from OTP, bytes 6 and 7 the node id. -/
def State.clockId (s : State) : List Nat :=
  beBytes 4 (s.shadow 20) ++ beBytes 2 (s.shadow 21 / 2 ^ 16) ++ beBytes 2 s.nodeId

/-- portNumber of a ring port: 1 east, 2 west (R197). -/
def portNo (d : Side) : Nat := 1 + d.code

/-- sourcePortIdentity: portNumber 1 east, 2 west; a dual-sent message names port 1 (log 28). -/
def State.portId (s : State) (port : Nat := 1) : List Nat := s.clockId ++ [0, port]

/-- A timestamp: 48-bit seconds and 32-bit ns. -/
def ptpStamp (t : Nat) : List Nat := beBytes 6 (t / 2 ^ 16 / 1000000000) ++ beBytes 4 (t / 2 ^ 16 % 1000000000)

/-- Reads a timestamp. -/
def ptpStampOf (bs : List Nat) : Nat := (ofBe (bs.take 6) * 1000000000 + ofBe ((bs.drop 6).take 4)) * 2 ^ 16

/-- A message: header of 34 bytes and body. -/
def State.ptp (s : State) (kind seq flags corr spec0 ctl log : Nat) (body : List Nat) (port : Nat := 1) : List Nat :=
  [kind, 0x12] ++ beBytes 2 (34 + body.length) ++ [s.rd TIME.CFG_DOMAIN, 0, 0, flags] ++ beBytes 8 corr ++
    [spec0, 0, 0, 0] ++ s.portId port ++ beBytes 2 seq ++ [ctl, log] ++ body

/-- What a received message says. -/
structure Ptp where
  kind : Nat
  domain : Nat
  flags : Nat
  corr : Int
  spec0 : Nat
  sender : Nat
  seq : Nat
  body : List Nat
  deriving DecidableEq, Repr

/-- Reads a message; none where it is too short or of another version. -/
def parsePtp (bs : List Nat) : Option Ptp :=
  if bs.length < 44 || bs.getD 1 0 % 16 ≠ 2 then none
  else some { kind := bs.getD 0 0 % 16, domain := bs.getD 4 0, flags := bs.getD 7 0
              corr := toSigned 64 (ofBe ((bs.drop 8).take 8)), spec0 := bs.getD 16 0
              sender := ofBe ((bs.drop 20).take 10), seq := ofBe ((bs.drop 30).take 2), body := bs.drop 34 }

/-! ### Sending -/

/-- This hub answers endpoint 0: always, or in a twin pair the twin R161 names. -/
def State.answersEp0 (s : State) : Bool :=
  !s.isTwin ||
  (match s.twinRole with
   | 1 => true
   | 3 => true
   | 2 => false
   | _ => if s.flag TWIN.STAT_PEER_SEEN && (s.rd TWIN.STAT_PEER_ROLE = 1 || s.rd TWIN.STAT_PEER_ROLE = 3) then false
     else s.otp.index = 0)

/-- A frame of the time unit to endpoint 0 of a node; `origin` is the originTimestamp of a message whose CORR is written in
its slot (R198). -/
def State.timeFrame (s : State) (node : Nat) (origin : Option Nat) (bs : List Nat) : Frame :=
  { tc := 1, dest := node * 8192, src := s.nodeId * 8192, launch := (origin.map (corrLater 0)).getD 0, len := bs.length,
    payload := natb bs }

/-- A time broadcast is placed on the ring although it names this node (R199). -/
def State.broadcast (s : State) (origin : Option Nat) (bs : List Nat) : State :=
  let f := freshFrame (s.timeFrame s.nodeId origin bs)
  match s.sealPlan f with
  | .refuse => s.sat GCM.REFUSED_COUNT
  | .wait _ => { (s.inc KEYS.MISS_CNT_COUNT) with gcm := { s.gcm with waiting := s.gcm.waiting ++ [.seal f 7 0 s.ringOuts] } }
  | plan => (s.storeRing 7 f 0 plan).2

/-- The time unit runs: outside SENTINEL and BYPASS (R206). -/
def State.timeOn (s : State) : Bool := s.live

/-- The hub is acting grandmaster. -/
def State.isGm (s : State) : Bool := s.flag TIME.STAT_GM

/-- The hub is a candidate (R201). -/
def State.candidate (s : State) : Bool := s.flag TIME.CFG_GM_CAND && s.answersEp0

/-- The grandmaster's Sync (R197, R201). -/
def State.sendSync (s : State) : State :=
  let bs := s.ptp ptpSync s.time.syncId 0x08 0 0 0 ((256 - s.rd TIME.CFG_LOG_SYNC) % 256) (ptpStamp s.fab16)
  let s1 := { s with time := { s.time with syncId := (s.time.syncId + 1) % 65536 } }
  s1.broadcast (some (s.fabNs * 2 ^ 16)) bs

/-- The data set of this hub in the standard's order of comparison: priority1, class, accuracy, variance,
priority2, identity. -/
def State.ownSet (s : State) : List Nat :=
  [s.rd TIME.CFG_PRIORITY1, s.rd TIME.GM_CLASS_CLASS, s.rd TIME.GM_CLASS_ACCURACY, 0xFFFF, s.rd TIME.CFG_PRIORITY2,
   ofBe s.clockId]

/-- Data set `a` is better: the first difference decides, the lower value wins. -/
def betterSet : List Nat → List Nat → Bool
  | [], _ => false
  | _, [] => false
  | a :: as, b :: bs => decide (a < b) || (a = b && betterSet as bs)

/-- The grandmaster's Announce. -/
def State.sendAnnounce (s : State) : State :=
  let body := ptpStamp s.fab16 ++ beBytes 2 0 ++ [0, s.rd TIME.CFG_PRIORITY1, s.rd TIME.GM_CLASS_CLASS,
    s.rd TIME.GM_CLASS_ACCURACY, 0xFF, 0xFF, s.rd TIME.CFG_PRIORITY2] ++ s.clockId ++ [0, 0, 0xA0]
  let bs := s.ptp ptpAnnounce s.time.annId 0x08 0 0 5 0 body
  ({ s with time := { s.time with annId := (s.time.annId + 1) % 65536 } }).broadcast none bs

/-- A Delay_Req to the grandmaster, remembered with t3 (R202, R204). -/
def State.sendDelayReq (s : State) : State :=
  let t3 := s.fabNs * 2 ^ 16
  let id := s.time.dreqId
  let bs := s.ptp ptpDelayReq id 0 0 0 1 0x7F (ptpStamp t3)
  let s1 := { s with time := { s.time with dreqId := (id + 1) % 65536, dreq := some (id, t3) } }
  (s1.originate 7 (s1.timeFrame (s.rd TIME.STAT_GM_NODE) (some t3) bs)).2

/-- A Delay_Resp to the sender of a Delay_Req (R201): its receive stamp, CORR and direction. -/
def State.sendDelayResp (s : State) (f : Frame) (m : Ptp) (stamp : Nat) : State :=
  let bs := s.ptp ptpDelayResp m.seq 0 (f.launch % 2 ^ 64) f.dir 3 0x7F (ptpStamp stamp ++ beBytes 10 m.sender)
  (s.originate 7 (s.timeFrame (nodeOf f.src) none bs)).2

/-- A hub that is no longer a candidate gives up acting as grandmaster (R201, log 29). -/
def State.resignGm (s : State) : State :=
  if s.isGm && !s.candidate then
    (({ s with time := { s.time with known := false, best := [], near := 0, far := 0 } }).wr TIME.STAT_GM 0).wr TIME.STAT_STATE
      (if s.flag TIME.CTRL_STEP_ARM then 1 else 2)
  else s

/-! ### Judging (R195, R200) -/

/-- The index of a path: 0 west, 1 east. -/
def pathOf (d : Side) : Nat := 1 - d.code

/-- The path of a copy by the port it arrived on; a copy relayed over the twin link belongs to the path its DIR names
(R204, log 67). -/
def pathFrom (l : Link) (f : Frame) : Nat :=
  match l with
  | .ring d => pathOf d
  | .twin => f.dir % 2

/-- The receive stamp of a time message at its port; the twin link has no ASYM (R195). -/
def State.linkStamp (s : State) (l : Link) (ball : Nat) : Nat :=
  match l with
  | .ring d => s.rxStamp d ball
  | .twin => ball

/-- A path. -/
def State.path (s : State) (p : Nat) : TimePath := if p = 0 then s.time.west else s.time.east

/-- Changes a path. -/
def State.updPath (s : State) (p : Nat) (f : TimePath → TimePath) : State :=
  if p = 0 then { s with time := { s.time with west := f s.time.west } }
  else { s with time := { s.time with east := f s.time.east } }

/-- A sequenceId is newer than another. -/
def newerId (a b : Nat) : Bool := let d := (a + 65536 - b) % 65536; decide (1 ≤ d) && decide (d ≤ 32767)

/-- Judges the sequenceId of a copy by message type, sender and arrival port; an accepted one is remembered, a
rejected copy counts (R200). -/
def State.judgeId (s : State) (l : Link) (m : Ptp) : Bool × State :=
  let same (e : Nat × Nat × Nat × Nat) : Bool := e.1 = m.kind && e.2.1 = m.sender && e.2.2.1 = l.code
  let ok := match s.time.ids.find? same with
    | some e => newerId m.seq e.2.2.2
    | none => true
  if ok then (true, { s with time := { s.time with ids := (m.kind, m.sender, l.code, m.seq) :: s.time.ids.filter (fun e => !same e) } })
  else (false, s.sat TIME.SYNC_REJ_COUNT)

/-- A copy of a message of the wanted kind in this hub's domain that passes; it leaves the inbox. -/
def State.timeTake (s : State) (l : Link) (f : Frame) (kind : Nat) (k : Ptp → State → State) : State :=
  let s1 := s.takeInbox 8 f
  if !s.timeOn then s1
  else match parsePtp (bnat f.payload) with
    | none => s1
    | some m =>
      if m.kind ≠ kind || m.domain ≠ s.rd TIME.CFG_DOMAIN then s1
      else
        let r := s1.judgeId l m
        if r.1 then k m r.2 else r.2

/-! ### State of the servo (R206, R207) -/

/-- STATE while this hub is not grandmaster and no step is armed. -/
def State.setTimeState (s : State) (v : Nat) : State := s.wr TIME.STAT_STATE v

/-- A sync interval in monotonic time. -/
def State.syncInterval (s : State) : Nat := ms 1000 / 2 ^ s.rd TIME.CFG_LOG_SYNC

/-- The first active edge of a schedule at or after `t` ns (R215). -/
def ToutSched.first (c : ToutSched) (t : Nat) : Option Nat :=
  if c.mode = 1 then (if t ≤ c.start then some c.start else none)
  else if c.mode ≠ 2 then none
  else if !c.align then
    some (if t ≤ c.start then c.start else c.start + (t - c.start + c.period - 1) / c.period * c.period)
  else
    let n0 := c.start / 1000000000
    let off := c.start % 1000000000
    let cand (n : Nat) : Option Nat :=
      let b := n * 1000000000 + off
      let j := if t ≤ b then 0 else (t - b + c.period - 1) / c.period
      if n0 ≤ n && decide (j * c.period < 1000000000) then some (b + j * c.period) else none
    let m := max n0 (t / 1000000000)
    ([m - 1, m, m + 1].filterMap cand).foldl (fun a e => match a with | some x => some (min x e) | none => some e) none

/-- A timed output channel. -/
def State.toutCh (s : State) (k : Nat) : ToutCh := Tbl.get {} s.tout k

/-- Changes a timed output channel. -/
def State.updTout (s : State) (k : Nat) (f : ToutCh → ToutCh) : State := { s with tout := Tbl.upd {} s.tout k f }

/-- A one-shot that waits for a time a forward step has skipped. -/
def ToutSched.skipped (c : ToutSched) (now : Nat) : Bool :=
  c.mode = 1 && (match c.next with | some e => decide (e < now) | none => false)

/-- A schedule after a step from `was` to `now` ns: a periodic one continues on its grid, and one that runs out keeps what was
left of its 200 ns; a one-shot waits for its time (R208, R216). -/
def ToutSched.stepped (c : ToutSched) (was now : Nat) : ToutSched :=
  let stop := c.stop.map (fun t => now + (t - was))
  if c.mode = 1 then { c with stop := stop }
  else
    let e := if c.stop.isSome && c.next = none then none else c.first (now + 1)
    { c with stop := stop, next := match stop, e with
      | some t, some x => if x ≤ t then some x else none
      | _, _ => e }

/-- A step moves the schedules of a channel: a one-shot skipped by a forward step raises MISSED, and disarms if it is the one
in force; one already fired is not driven again, a periodic one continues on its grid (R208). -/
def State.toutStep (s : State) (was k : Nat) : State :=
  let now := s.fabNs
  let h := s.toutCh k
  let missed := (h.old.filter (fun (c : ToutSched) => c.skipped now)).length
  let s1 := s.updTout k (fun h => { h with
    old := (h.old.filter (fun (c : ToutSched) => !c.skipped now)).map (fun (c : ToutSched) => c.stepped was now)
    cur := (h.cur.filter (fun (c : ToutSched) => !c.skipped now)).map (fun (c : ToutSched) => c.stepped was now) })
  let s2 := if missed = 0 then s1 else s1.raise 0x05 (3 * k + 1)
  if h.cur.isSome && (s1.toutCh k).cur = none then (s2.wr TOUT.STAT_ARMED 0 k).raise 0x05 (3 * k + 1) else s2

/-- Launch copies of a queue become eligible 300 ns before their time; after a step they are judged anew (R208, R211). -/
def State.launchJudge (s : State) (v : Nat) : State :=
  let ripe (c : Copy) : Copy :=
    { c with eligible := match c.launchAt with | some l => decide (l ≤ s.fab + fns 300) | none => c.eligible }
  if (s.voq v).q.any (fun c => c.launchAt.isSome) then (s.updVoq v (fun q => { q with q := q.q.map ripe })).touch v else s

/-- The counter is stepped (R206, R208): STEP_ARM clears, STEP_DONE is raised, STATE becomes locking except on the
grandmaster, and what waits for a fabric time is judged anew. -/
def State.stepTo (s : State) (fab : Nat) : State :=
  let s1 := { s with fab := fab % fabSpan, time := { s.time with near := 0, far := 0, phase := 0, phaseEnd := 0 } }
  let s2 := (((s1.wr TIME.CTRL_STEP_ARM 0).wr TIME.CTRL_STEP_GO 0).setTimeState (if s.isGm then 5 else 2)).raise 0x04 0
  let s3 := (List.range 4).foldl (fun t k => t.toutStep s.fabNs k) s2
  (([0, 1].flatMap queuesOf).foldl State.launchJudge s3).pollRebase

/-- The hub becomes acting grandmaster (R201). -/
def State.becomeGm (s : State) : State :=
  if s.isGm then s
  else ((((({ s with time := { s.time with known := true, best := s.ownSet, heard := s.mono } }).wr TIME.STAT_GM 1).wr
    TIME.STAT_GM_NODE s.nodeId).setTimeState 5)).raise 0x04 5

/-- The hub follows a grandmaster with a data set. -/
def State.followGm (s : State) (node : Nat) (set : List Nat) : State :=
  let changed := s.isGm || !s.time.known || s.rd TIME.STAT_GM_NODE ≠ node
  let s1 := { s with time := { s.time with known := true, best := set, heard := s.mono } }
  let s2 := (s1.wr TIME.STAT_GM 0).wr TIME.STAT_GM_NODE node
  let s3 := if s.isGm then s2.setTimeState (if s.flag TIME.CTRL_STEP_ARM then 1 else 2) else s2
  if changed then s3.raise 0x04 5 else s3

/-- The grandmaster's data set counts in the selection: its Announce came within three intervals (R201). -/
def State.gmFresh (s : State) : Bool := s.time.known && decide (s.mono < s.time.heard + ms 3000)

/-- Best master selection on an Announce (R197, R201, log 29). -/
def State.select (s : State) (node : Nat) (set : List Nat) : State :=
  if s.candidate && betterSet s.ownSet set && (s.isGm || !s.gmFresh || s.rd TIME.STAT_GM_NODE = node ||
      betterSet s.ownSet s.time.best) then s.becomeGm
  else if s.isGm && s.candidate then (if betterSet set s.ownSet then s.followGm node set else s)
  else if s.isGm || !s.gmFresh || s.rd TIME.STAT_GM_NODE = node || betterSet set s.time.best then s.followGm node set
  else s

/-! ### Path delay and offset (R204, R205) -/

/-- The mean path delay, if any sample is accepted. -/
def TimePath.mpd (p : TimePath) : Option Int :=
  if p.samples = [] then none else some (p.samples.foldl (· + ·) 0 / (p.samples.length : Int))

/-- MPD registers in 2^-8 ns. -/
def State.showMpd (s : State) (p : Nat) : State :=
  match (s.path p).mpd with
  | some v => s.wr TIME.MPD_DELAY (ofSigned 32 (v / 256)) p
  | none => s

/-- The other path is followed if its mean is smaller by more than 10 ns (R205). A path without a mean does not
compare. -/
def State.choosePath (s : State) : State :=
  let cur := s.rd TIME.STAT_PATH
  match (s.path cur).mpd, (s.path (1 - cur)).mpd with
  | some a, some b => if b + 10 * 2 ^ 16 < a then s.wr TIME.STAT_PATH (1 - cur) else s
  | _, _ => s

/-- A path delay sample: accepted into the mean of 16, rejected when more than 100 ns off, restarting the mean
after four rejections in a row (R204). -/
def State.takeSample (s : State) (p : Nat) (v : Int) : State :=
  let h := s.path p
  let off := match h.mpd with
    | some m => decide (100 * 2 ^ 16 < (v - m).natAbs)
    | none => false
  let s1 := s.offer (4 + p) none (v * 1000 / 65536)
  if off && decide (h.rejected < 4) then (s1.updPath p (fun h => { h with rejected := h.rejected + 1 })).sat TIME.SYNC_REJ_COUNT
  else
    let keep := if off then [v] else (v :: h.samples).take 16
    ((s1.updPath p (fun h => { h with samples := keep, rejected := 0 })).showMpd p).choosePath

/-- RATE after an offset, limited to ±250 ppm (R207): units of 2^-40. -/
def State.newRate (s : State) (off : Int) : Int :=
  let i : Int := (s.syncInterval / 64 : Nat)
  let d := (off * 2 ^ 24).tdiv (2 ^ s.rd TIME.SERVO_CFG_KI * i)
  max (-274877907) (min 274877907 (toSigned 32 (s.rd TIME.RATE) - d))

/-- The phase term after an offset: what removes offset × 2^-KP over one Sync interval, limited to SLEW_MAX ppm. -/
def State.newPhase (s : State) (off : Int) : Int :=
  let i : Int := (s.syncInterval / 64 : Nat)
  let lim : Int := (s.rd TIME.SERVO_CFG_SLEW_MAX * 2 ^ 40 / 1000000 : Nat)
  max (-lim) (min lim (-((off * 2 ^ 24).tdiv (2 ^ s.rd TIME.SERVO_CFG_KP * i))))

/-- STATE after an offset (R207): locked after 16 in a row within 10 ns, locking again after three in a row beyond
ALARM, no longer in holdover. -/
def State.judgeOffset (s : State) (off : Int) : State :=
  let near := if off.natAbs ≤ 10 * 2 ^ 16 then s.time.near + 1 else 0
  let far := if s.rd TIME.SERVO_CFG_ALARM * 2 ^ 16 < off.natAbs then s.time.far + 1 else 0
  let was := s.rd TIME.STAT_STATE
  let s1 := { s with time := { s.time with near := min near 16, far := far } }
  if 3 ≤ far then
    (({ s1 with time := { s1.time with near := 0, far := 0 } }).setTimeState 2).raise 0x04 3
  else if 16 ≤ near then (if was = 3 then s1 else (s1.setTimeState 3).raise 0x04 2)
  else if was = 4 then s1.setTimeState 2
  else s1

/-- The servo acts on an offset of the path it follows (R207); a fenced servo keeps holdover and RATE (R476). -/
def State.servo (s : State) (off : Int) : State :=
  if bitOf (s.rdn 0x04 HDR.FLT_STAT_CHECKERS) 1 then s else
  let s1 := if s.flag TIME.CTRL_HOLD then s else s.wr TIME.RATE (ofSigned 32 (s.newRate off))
  ({ s1 with time := { s1.time with phase := s.newPhase off, phaseEnd := s.mono + s.syncInterval } }).judgeOffset off

/-- An offset of path `p`: shown; with a step armed it steps the counter in LISTEN and nothing else; otherwise the
servo takes it if the path is the followed one (R204-R207). -/
def State.takeOffset (s : State) (p : Nat) (off : Int) : State :=
  let s1 := (s.wr TIME.OFFSET (ofSigned 32 (off / 256))).offer 3 none (off * 1000 / 65536)
  if s1.flag TIME.CTRL_STEP_ARM then
    (if s1.mode = 2 then s1.stepTo (((s1.fab : Int) - off * 2 ^ 32) % (fabSpan : Int)).toNat else s1)
  else if s1.rd TIME.STAT_PATH = p then s1.servo off
  else s1

/-- An accepted Sync copy from the grandmaster on a path (R204). -/
def State.takeSync (s : State) (p : Nat) (t1 t2 : Nat) (corr : Int) : State :=
  let s1 := (s.inc TIME.SYNC_RX_COUNT).updPath p (fun h => { h with sync := some (t1, t2, corr), heard := s.mono })
  match (s1.path p).mpd with
  | none => s1
  | some m => s1.takeOffset p ((t2 : Int) - (t1 : Int) - corr - m)

/-- A Delay_Resp for the outstanding Delay_Req: a sample of the path its request took (R204). -/
def State.takeDelayResp (s : State) (m : Ptp) : State :=
  let t4 := ptpStampOf m.body
  let p := if m.spec0 = 1 then 0 else 1
  match s.time.dreq, (s.path p).sync with
  | some (id, t3), some (t1, t2, c) =>
    if id = m.seq && ofBe ((m.body.drop 10).take 10) = ofBe s.portId then
      s.takeSample p ((((t2 : Int) - t1 - c) + ((t4 : Int) - t3 - m.corr)) / 2)
    else s
  | _, _ => s

end Sys2Proof.Machine
end

