-- ==== Sys2Proof/Machine/UsbOps.lean ====
section
/-! DEFINITION. The USB hub and its embedded function: ports, resume windows, the function's transfers, channels
and stream (R356-R380). -/

namespace Sys2Proof.Machine

/-- The timers of a downstream port reset and of the authentication lockout. -/
def tPort (k : Nat) : Nat := 110 + k
def tAuth : Nat := 116

/-- Changes the USB unit. -/
def State.updUsb (s : State) (f : UsbUnit → UsbUnit) : State := { s with usb := f s.usb }

/-- The device is attached to an upstream host (R357). -/
def State.usbOn (s : State) : Bool := s.pageOn 0x48 && s.usb.attached

/-- A STALL on an endpoint of the hub (0) or the function (1). -/
def State.stall (s : State) (dev ep : Nat) : State := s.emit (.item "USB_STALL" [dev, ep])

/-- Data returned to the host. -/
def State.usbData (s : State) (bs : List Nat) : State := s.emit (.bytes "USB_DATA" (natb bs))

/-! ### Downstream ports: index `k` 0 to 3 for ports 1 to 4, 4 for the function's port -/

/-- A change bit of port `k` (0 connect, 1 enable, 2 suspend, 3 over-current, 4 reset, 5 L1) is set, which raises
PORT_CHANGE (R376, R377; DEDUCED, log 35). -/
def State.portChange (s : State) (k b : Nat) : State :=
  (s.wr USBHUB.PORT_STAT_CHANGE (setBit (s.rd USBHUB.PORT_STAT_CHANGE k) b) k).raise 0x48 6

/-- Port `k` has no power: its other status bits fall. -/
def State.portDark (s : State) (k : Nat) : State :=
  [USBHUB.PORT_STAT_CONNECT, USBHUB.PORT_STAT_ENABLE, USBHUB.PORT_STAT_SUSPEND, USBHUB.PORT_STAT_L1,
    USBHUB.PORT_STAT_RESET, USBHUB.PORT_STAT_POWER].foldl (fun t f => t.wr f 0 k) (s.stop (tPort k))

/-- PORT_POWER as reported: the feature, unless LOCK_OFF holds the port off; the function's port is always powered
(R356, R360). PPWRk_N is low where it is 1. -/
def State.showPower (s : State) (k : Nat) : State :=
  if k = 4 then s.wr USBHUB.PORT_STAT_POWER 1 4
  else if s.usb.power.contains k && s.rd USBHUB.PORT_CTRL_LOCK_OFF k = 0 then s.wr USBHUB.PORT_STAT_POWER 1 k
  else s.portDark k

/-- Port `k` loses its PORT_POWER feature. -/
def State.portOff (s : State) (k : Nat) : State :=
  (s.updUsb (fun u => { u with power := deleteNat u.power k })).showPower k

/-- A write of PORT_CTRL of port `k`: LOCK_OFF is kept once the page is locked (R360, R376). -/
def State.writePortCtrl (s : State) (k v : Nat) : State :=
  let filt := bits v 8 8
  let s1 := if USBHUB.PORT_CTRL_OVC_FILT.ok filt then s.wr USBHUB.PORT_CTRL_OVC_FILT filt k else s
  if s1.locked 0x48 then s1 else (s1.wr USBHUB.PORT_CTRL_LOCK_OFF (v % 2) k).showPower k

/-! ### The function -/

/-- The stream queue is emptied (R374). -/
def State.streamOff (s : State) : State :=
  (s.updUsb (fun u => { u with stream := [], sof := none })).wr USBFN.FN_STAT_STREAM_ON 0

/-- The toggles of interface 0 return to DATA0 (R372). -/
def State.togglesZero (s : State) : State := s.updUsb (fun u => { u with togOut := false, togIn := false, togInt := false })

/-- The function's configured state changes (CONFIG_CHANGE, R379). -/
def State.setFnConf (s : State) (c : Bool) : State :=
  if s.usb.fnConf = c then s else (s.updUsb (fun u => { u with fnConf := c })).raise 0x49 4

/-- The hub's configured state changes (CONFIG_CHANGE, R377). -/
def State.setHubConf (s : State) (c : Bool) : State :=
  if s.flag USBHUB.HUB_STAT_CONFIGURED = c then s else (s.wr USBHUB.HUB_STAT_CONFIGURED (bit c)).raise 0x48 0

/-- A control transfer of the function that has not had its status stage is abandoned (R366). -/
def State.setup (s : State) : State := s.updUsb (fun u => { u with staged := none })

/-- The function in the default state: address 0, unconfigured, nothing halted, the session closed, what was held
discarded (R358, R366, R368, R370). -/
def State.fnDefault (s : State) : State :=
  let s1 := ((s.setup.togglesZero.streamOff.setFnConf false).closeSession).updUsb (fun u =>
    { u with fnAddr := 0, fnWake := false, ep2Halt := false, resp := none, report := none })
  (s1.wr USBFN.FN_STAT_OUT_HALT 0).wr USBFN.FN_STAT_IN_HALT 0

/-- The hub and the function in the default state, every downstream port powered off (R358). -/
def State.hubDefault (s : State) : State :=
  let s1 := (((s.fnDefault.setHubConf false).wr USBHUB.HUB_STAT_ADDRESS 0).wr USBHUB.HUB_STAT_RWAKE_EN 0).updUsb (fun u =>
    { u with power := [], hubChange := 0, lpmWake := false, window := none, tt := [], test := [] })
  (s1.portDark 4).showPower 4 |> fun t => [0, 1, 2, 3].foldl State.portOff t

/-- The pull-up is connected or removed (R357); a hub fenced for its descriptor store stays detached (R476). -/
def State.usbAttach (s : State) (vbus : Bool) : State :=
  let want := vbus && s.pageOn 0x48 && s.enabled 0x48 && !s.pageUnit.colFence.contains 0x48 && !s.pageUnit.inReset.contains 0x48
  let s1 := s.updUsb (fun u => { u with vbus := vbus })
  if want = s1.usbOn then s1
  else
    let s2 := (s1.hubDefault).updUsb (fun u => { u with attached := want })
    (s2.wr USBHUB.HUB_STAT_SPEED (bit want)).wr USBHUB.HUB_STAT_LINK (if want then 0 else 3)

/-! ### Resume windows (R362, R363) -/

/-- A wake source is recorded as it would be alone: its port's change bit, or WAKE_PEND. -/
def State.recordWake (s : State) (k : Nat) : State :=
  if k = 5 then s.wr USBFN.FN_STAT_WAKE_PEND 1
  else if s.flag USBHUB.PORT_STAT_SUSPEND (k - 1) then (s.wr USBHUB.PORT_STAT_SUSPEND 0 (k - 1)).portChange (k - 1) 2
  else if s.flag USBHUB.PORT_STAT_L1 (k - 1) then (s.wr USBHUB.PORT_STAT_L1 0 (k - 1)).portChange (k - 1) 5
  else s

/-- Its bit of WAKE_SRC is set. -/
def State.wakeSrc (s : State) (k : Nat) : State :=
  s.wr USBHUB.WAKE_SRC_PORT (setBit (s.rd USBHUB.WAKE_SRC_PORT) (k - 1))

/-- A wake source inside the open window. -/
def State.wakeInWindow (s : State) (k : Nat) (host : Bool) (srcs : List Nat) : State :=
  let s1 := (((s.recordWake k).wakeSrc k).wr USBHUB.WAKE_SRC_HOST_FIRST (bit host)).updUsb (fun u =>
    { u with window := some (host, insertNat srcs k) })
  if host || 2 ≤ (insertNat srcs k).length then s1.raise 0x48 4 else s1

/-- A resume window opens: RESUME_CNT, RESUME. -/
def State.openWindow (s : State) (host : Bool) : State :=
  ((s.updUsb (fun u => { u with window := some (host, []) })).inc USBHUB.RESUME_CNT_COUNT).raise 0x48 3

/-- The host has enabled remote wake for the source: DEVICE_REMOTE_WAKEUP from suspend, or that or the remote-wake
bit of the LPM transaction from L1 (R362). -/
def State.wakeEnabled (s : State) (k : Nat) : Bool :=
  s.flag USBHUB.HUB_STAT_RWAKE_EN || (k = 5 && s.usb.fnWake) || (s.rd USBHUB.HUB_STAT_LINK = 1 && s.usb.lpmWake)

/-! ### Commands and responses of the function (R367-R371) -/

/-- The bytes of a command or response before its MAC (R367). -/
def usbBytes (op words tag counter arg : Nat) (data : List Nat) : List Nat :=
  [op, words % 256] ++ leBytes 2 tag ++ leBytes 4 counter ++ leBytes 4 arg ++ data

/-- The function takes a command now: configured, link in L0, EP1 OUT not halted, no response held (R370). -/
def State.usbTakes (s : State) : Bool :=
  s.usbOn && s.pageOn 0x49 && s.usb.fnConf && s.rd USBHUB.HUB_STAT_LINK = 0 && !s.flag USBFN.FN_STAT_OUT_HALT &&
  s.usb.resp.isNone

/-- Packets of a transfer of `n` bytes ended by a short or empty packet. -/
def State.usbPackets (s : State) (n : Nat) : Nat := n / (if s.rd USBHUB.HUB_STAT_SPEED = 2 then 512 else 64) + 1

/-- A command transfer of `n` bytes has come in: the toggle of EP1 OUT. -/
def State.usbReceived (s : State) (n : Nat) : State :=
  s.updUsb (fun u => { u with togOut := if s.usbPackets n % 2 = 1 then !u.togOut else u.togOut })

/-- EP1 OUT is halted. -/
def State.haltOut (s : State) : State := (s.wr USBFN.FN_STAT_OUT_HALT 1).stall 1 1

/-- A command that fails its check (R368). -/
def State.authFail (s : State) : State :=
  let s1 := (((s.haltOut).sat USBFN.AUTH_FAIL_COUNT).raise 0x49 2).updUsb (fun u => { u with fails := u.fails + 1 })
  if s1.rd USBFN.AUTH_CFG_FAIL_LIMIT ≤ s1.usb.fails then
    (s1.closeSession.updUsb (fun u => { u with fails := 0 })).start tAuth (ms 1000)
  else s1

/-- A command's check passes: COUNTER and MAC under the session key, or no session where none is required (R368). -/
def State.authOk (s : State) (counter : Nat) (body : List Nat) (mac : List Byte) : Bool :=
  if s.flag USBFN.FN_STAT_SESSION then decide (s.usb.counter < counter % 2 ^ 32) && bnat mac = (cmac s.usb.key body).take 8
  else s.rd USBFN.AUTH_CFG_REQUIRED = 0 && mac.length = 8

/-- The MAC of a response: under the session key; without a session the manual gives it no value (log 36). -/
def State.usbMac (s : State) (body : List Nat) : List Nat × State :=
  if s.flag USBFN.FN_STAT_SESSION then ((cmac s.usb.key body).take 8, s)
  else (leBytes 8 s.draw.1, s.draw.2)

/-- A command has been performed: its response is held (R367, R370). -/
def State.usbRespond (s : State) (op words tag counter status : Nat) (data : List Nat) (rcs : List (Nat × Nat)) : State :=
  let body := usbBytes (op + 128) words tag counter status data
  let m := if op = 0x10 then ([], s) else s.usbMac body
  ((m.2.updUsb (fun u => { u with resp := some (body ++ m.1, rcs) })).inc USBFN.CMD_CNT_COUNT).emit
    (.bytes "USB_IN" (natb (body ++ m.1)))

/-- Takes a command other than OPEN: `good` says its form is right, `k` performs it. CLOSE always needs a session. -/
def State.usbCommand (s : State) (op words tag counter arg : Nat) (data : List Nat) (mac : List Byte) (good : Bool)
    (k : State → State) : State :=
  let body := usbBytes op words tag counter arg data
  if !s.usbTakes then s
  else
    let s1 := s.usbReceived (body.length + mac.length)
    if !good || 1024 < body.length + mac.length then s1.haltOut
    else if !s1.authOk counter body mac || (op = 0x11 && !s1.flag USBFN.FN_STAT_SESSION) then s1.authFail
    else k (s1.updUsb (fun u => { u with
      fails := 0, counter := if s1.flag USBFN.FN_STAT_SESSION then counter % 2 ^ 32 else u.counter }))

/-! ### Channels and the stream (R371, R374, R375) -/

/-- Bytes in the channel queue. -/
def State.chanBytes (s : State) : Nat := (s.usb.queue.map (fun m => m.2.length)).sum

/-- Records are discarded from the stream. -/
def State.streamDrop (s : State) : State :=
  ((s.sat USBFN.STREAM_DROP_COUNT).raise 0x49 3).updUsb (fun u => { u with drops := min (u.drops + 1) 0xFFFF })

/-- A payload cut into 16-byte records. -/
def records (p : List Nat) : List (List Nat) := (List.range (p.length / 16)).map (fun i => (p.drop (16 * i)).take 16)

/-- One record arrives. -/
def State.streamPut (s : State) (r : List Nat) : State :=
  if 512 ≤ s.usb.stream.length then s.streamDrop
  else s.updUsb (fun u => { u with stream := u.stream ++ [r] })

/-- A message frame at an ISO channel (R374). -/
def State.streamTake (s : State) (p : List Nat) : State :=
  if !s.flag USBFN.FN_STAT_STREAM_ON then s
  else if p.length % 16 ≠ 0 then s.streamDrop
  else (records p).foldl State.streamPut s

/-- A frame at a channel endpoint (R18, R115, R371, R374). -/
def State.chanTake (s : State) (f : Frame) : State :=
  let k := localOf f.dest - 1536
  if f.resp || f.refuse then s.countAnswer f
  else if f.tc = 4 || !s.flag USBHUB.CHAN_CFG_EN k then s.refuse 6 f 2
  else if s.fenced 0x49 then s.refuse 6 f 4
  else if s.flag USBHUB.CHAN_CFG_ISO k then s.streamTake (bnat f.payload)
  else if 16384 < s.chanBytes + f.payload.length then s.refuse 6 f 4
  else s.updUsb (fun u => { u with queue := u.queue ++ [(k, f.payload)] })

/-- How far, in ns, a record's time lies before the time `t` in ns; seconds are known modulo 2^32. -/
def recordAge (t : Nat) (r : List Nat) : Int :=
  let span : Nat := 2 ^ 32 * 1000000000
  let d := (t + span - (ofLe ((r.drop 8).take 4) * 1000000000 + ofLe ((r.drop 4).take 4)) % span) % span
  if d < span / 2 then (d : Int) else (d : Int) - (span : Int)

/-- A record with its LATE flag. -/
def markLate (late : Bool) (r : List Nat) : List Nat :=
  r.set 3 (r.getD 3 0 / 2 * 2 + bit late)

/-- The packet of a service interval that opens at `t` (R375). -/
def State.serviceInterval (s : State) (t : Nat) : State :=
  let lat : Int := (s.rd USBFN.STREAM_CFG_LATENCY * 1000 : Nat)
  let cap := if s.rd USBHUB.HUB_STAT_SPEED = 2 then 63 else 62
  let s0 := s.offer 28 none (s.usb.stream.length : Nat)
  let out := (s0.usb.stream.filter (fun r => decide (lat < recordAge t r))).take cap
  let late (r : List Nat) : Bool := match s0.usb.sof with
    | some p => decide (lat < recordAge p r)
    | none => false
  let rest := out.foldl (fun q r => q.erase r) s0.usb.stream
  let s1 := s0.updUsb (fun u => { u with stream := rest, sof := some t })
  let s2 := s1.sat USBFN.STREAM_LATE_COUNT 0 (out.filter late).length
  s2.emit (.bytes "USB_ISO" (natb ([0, 0, 0, 0] ++ leBytes 4 (t % 1000000000) ++ leBytes 4 (t / 1000000000) ++
    leBytes 4 out.length ++ (out.map (fun r => markLate (late r) r)).flatten)))

/-- The interrupt report (R373). -/
def State.usbReport (s : State) : List Nat :=
  [s.rd USBFN.DB_NOTIFY_NOTIFY, s.mode,
    bit (!s.flt.recs.isEmpty) + 2 * bit (s.mode = 5) + 4 * bit (s.flag USBFN.FN_STAT_SESSION), 0] ++
  leBytes 2 ((List.range 16).foldl (fun a k => a + (if s.usb.queue.any (fun m => m.1 = k) then 2 ^ k else 0)) 0) ++
  leBytes 2 s.usb.drops

/-- The queues are emptied after an uncorrectable error (R379). -/
def State.usbQueuesLost (s : State) : State := s.updUsb (fun u => { u with queue := [], stream := [] })

/-- A translator fault of port `k`: disabled, C_PORT_ENABLE (R364). -/
def State.ttFault (s : State) (k : Nat) : State :=
  ((s.updUsb (fun u => { u with ttBad := insertNat u.ttBad k })).wr USBHUB.PORT_STAT_ENABLE 0 k).portChange k 1

/-- A port may be enabled: its translator's fault, if any, has been cleared. -/
def State.ttOk (s : State) (k : Nat) : Bool :=
  !(s.usb.ttBad.contains k && bitOf (s.rdn 0x48 HDR.FLT_STAT_CHECKERS) 0)

end Sys2Proof.Machine
end

