-- ==== Sys2Proof/Machine/FaultOps.lean ====
section
/-! DEFINITION. Detected faults: class, FLT_STAT bit, fence of the unit (R474-R476). -/

namespace Sys2Proof.Machine

/-- The class of a checker's fault (R476): 0 corrected, 1 contained, 2 fatal; none where the page has no such
checker. The FAULT page's own checkers are not classed (R482). -/
def checkerClass (pg ck : Nat) : Option Nat :=
  let upTo (n c : Nat) : Option Nat := if ck ≤ n then some c else none
  if 0x20 ≤ pg ∧ pg < 0x30 then upTo 4 1
  else if 0x30 ≤ pg ∧ pg < 0x40 then upTo 2 1
  else if 0x40 ≤ pg ∧ pg < 0x44 then upTo 1 1
  else if 0x50 ≤ pg ∧ pg < 0x58 then upTo 1 1
  else match pg with
  | 0x01 => if ck = 2 then some 2 else upTo 1 1
  | 0x04 => if ck = 0 then some 2 else upTo 1 1
  | 0x06 => upTo 0 0
  | 0x09 => upTo 0 1
  | 0x0B => upTo 0 1
  | 0x0D => if ck = 0 then some 2 else if ck = 1 then some 1 else upTo 2 0
  | 0x0E => upTo 0 2
  | 0x11 => if ck ≤ 15 then some 1 else if ck ≤ 17 then some 2 else upTo 19 0
  | 0x12 => if ck ≤ 7 then some 1 else upTo 15 0
  | 0x14 => if ck ≤ 1 then some 1 else upTo 2 0
  | 0x15 => upTo 0 1
  | 0x18 => upTo 1 1
  | 0x19 => if ck = 0 ∨ ck = 2 then some 0 else upTo 3 1
  | 0x48 => upTo 1 1
  | 0x49 => upTo 0 0
  | 0x4C => if ck = 12 then some 2 else upTo 11 1
  | 0x4D => upTo 0 1
  | 0x5A => upTo 0 2
  | _ => none

/-- The page whose block a contained fault fences as a whole, if any (R476). -/
def fencedPage (pg ck : Nat) : Option Nat :=
  if 0x20 ≤ pg ∧ pg < 0x30 then (if ck ≤ 3 then some pg else none)
  else if 0x30 ≤ pg ∧ pg < 0x40 then some (pg - 0x10)
  else if 0x40 ≤ pg ∧ pg < 0x44 then some pg
  else if 0x50 ≤ pg ∧ pg < 0x58 then some pg
  else match pg with
  | 0x09 => some pg
  | 0x0B => some pg
  | 0x14 => if ck ≤ 1 then some pg else none
  | 0x15 => some pg
  | 0x18 => some pg
  | 0x19 => if ck = 1 then some 0x18 else none
  | 0x48 => if ck = 1 then some pg else none
  | 0x4D => some 0x01
  | 0x01 => if ck ≤ 1 then some pg else none
  | _ => none

/-- The collector's fence of a page (R30). -/
def State.setColFence (s : State) (pg : Nat) : State :=
  { s with pageUnit := { s.pageUnit with colFence := insertNat s.pageUnit.colFence pg } }

/-- The fence of inlet `n` would leave no inlet on: it is not applied (R479 row 5). -/
def State.lastInlet (s : State) (n : Nat) : Bool := decide (n < 2) && s.chState (1 - n) ≠ 5

/-- The fence of the unit a contained fault names, with the block's own logic (R475, R476). -/
def State.fenceUnit (s : State) (pg ck detail : Nat) : State :=
  let s1 := match fencedPage pg ck with
    | some p => s.setColFence p
    | none => s
  if 0x20 ≤ pg ∧ pg < 0x30 then (if ck ≤ 3 then s1.fenceEngine (pg - 0x20) else s1)
  else if 0x30 ≤ pg ∧ pg < 0x40 then s1.fenceEngine (pg - 0x30)
  else if 0x40 ≤ pg ∧ pg < 0x44 then s1.canFence (pg - 0x40)
  else match pg with
  | 0x04 => s1.setTimeState 4
  | 0x09 => (s1.updTx .east (fun t => { t with silent := true })).portDown 0
  | 0x0B => (s1.updTx .west (fun t => { t with silent := true })).portDown 1
  | 0x11 => if ck ≤ 15 then s1.fenceBank ck else s1
  | 0x12 => s1.fenceOutput ck
  | 0x14 => s1.fenceOutput 3
  | 0x48 => if ck = 0 then s1.ttFault (detail - 1) else s1.usbAttach s1.usb.vbus
  | 0x4C => if s1.lastInlet ck then s1 else (s1.brkFence ck).settleAll
  | _ => s1

/-- An uncorrectable error of a store of the twin unit discards the snapshot it holds as partial: `which` 0 the receive store,
1 the snapshot store (R189). -/
def State.storesLost (s : State) (which : Nat) : State :=
  if which % 2 = 0 then s.dropPartial
  else if s.twin.out = [] then s
  else (({ s with twin := { s.twin with out := [], outNext := 0 } }).sat TWIN.SNAP_PARTIAL_COUNT).raise 0x0D 5

/-- What the hub repairs at a corrected fault that leaves a mark (R379, R476, R495). -/
def State.repair (s : State) (pg ck detail : Nat) : State :=
  match pg with
  | 0x06 => { s with cup := Tbl.del s.cup detail }
  | 0x14 => if ck = 2 then s.discardLines 4 (fun l => l.addr = detail) else s
  | 0x49 => s.usbQueuesLost
  | 0x11 => if ck ≤ 15 then s.sat BUFFER.ECC_CORR_COUNT else s
  | 0x12 => if 8 ≤ ck then { s with lfsr := s.lfsr.set (ck - 8) (0x10000001 + (ck - 8)) } else s
  | 0x0D => if ck = 2 then s.storesLost detail else s
  | _ => s

/-- SAFE with failed transit checks: PD1 and PD2 are off (R23). -/
def State.ringDark (s : State) : State := (((s.portDown 0).portDown 1).domainOff 1).domainOff 2

/-- One detected fault: corrected ones go to the collector; a repeat of a set bit only counts; otherwise the
bit is set and a contained fault's unit fenced (R475, R478); a transit check failure acts as R117. -/
def State.detect (s : State) (d : Det) : State :=
  match checkerClass d.page d.checker with
  | none => s
  | some c =>
    if c = 0 || (d.corr && !d.inj) then
      let s1 := if (c = 0 && !(d.page = 0x0D && d.corr)) || d.page = 0x11 then s.repair d.page d.checker d.detail else s
      { s1 with flt := { s1.flt with det := s1.flt.det ++ [{ d with corr := true }] } }
    else if bitOf (s.rdn d.page HDR.FLT_STAT_CHECKERS) d.checker then s.sat FAULT.REPEAT_CNT_COUNT
    else
      let s1 := s.wrn d.page HDR.FLT_STAT_CHECKERS (setBit (s.rdn d.page HDR.FLT_STAT_CHECKERS) d.checker)
      let s2 := { s1 with flt := { s1.flt with det := s1.flt.det ++ [d] } }
      if c = 1 then s2.fenceUnit d.page d.checker d.detail
      else if d.page = 0x0E then
        let s3 := if s2.byp.high then s2.enterBypass 2 else s2.wr TRANSIT.BYP_STAT_CAUSE 2
        if s.mode = 5 then s3.ringDark else s3
      else s2

/-- The reports of the command that ends now become detected faults. -/
def State.drain (s : State) : State :=
  s.flt.todo.foldl State.detect { s with flt := { s.flt with todo := [] } }

end Sys2Proof.Machine
end

