-- ==== Sys2Proof/Machine/Breaker.lean ====
section
/-! DEFINITION. Commands of the breaker channels and the line (R401-R426). -/

namespace Sys2Proof.Machine

/-- What follows a change of the channels: they settle, the budget evaluates if it must, faults are taken. -/
def State.brkDone (s : State) : State := s.settleAll.evalWoken.drain

/-- BREAKER_EN: a write of CH_CTRL.EN of channel `n`, KEEP as it stands (R413, R417). -/
def execBreakerEn (p : Port) (n : Nat) (en : Bool) (s : State) : Host.Outcome State Fault Refusal :=
  .next (if 12 ≤ n then s
    else
      let v := 2 * s.rd BRK.CH_CTRL_KEEP n + bit en
      (s.access p 0x4C (0x100 + 0x40 * n) v (fun s => s.writeChCtrl n v)).brkDone)

/-- BREAKER_QUALIFIED: the input of channel `n` reads `vin` (and the cable of a forward `cable`); once it has been
inside the on-window for DELAY the channel goes on (R405, R408). -/
def execBreakerQualified (n vin cable : Nat) (s : State) : Host.Outcome State Fault Refusal :=
  .next (if 12 ≤ n then s
    else
      let s1 := s.setVin n vin
      let s2 := (if n = 2 ∨ n = 3 then s1.setCable n cable else s1).settleAll
      let s3 := if s2.chState n = 1 && s2.due (tDelay n) && s2.inOnWindow n then
          ((s2.stop (tDelay n)).updBrk n (fun c => { c with qual := true })).chProceed n
        else s2
      s3.brkDone)

/-- BREAKER_OFF_TIME_END: OFF_MIN has elapsed (R408, R414). -/
def execBreakerOffTimeEnd (n : Nat) (s : State) : Host.Outcome State Fault Refusal :=
  .next (if decide (12 ≤ n) || !s.due (tOffMin n) then s
    else
      let s1 := s.stop (tOffMin n)
      (if s1.chState n = 2 then s1.chProceed n else s1).brkDone)

/-- BREAKER_RAMP_STEP: 20 µs of the ramp of channel `n`, with its current and the voltages at its ends; the ramp is
complete at full duty with the output within 1 V of the input (R409). -/
def execBreakerRampStep (n : Nat) (cur : Int) (vin vout : Nat) (s : State) : Host.Outcome State Fault Refusal :=
  .next (if decide (12 ≤ n) || s.chState n ≠ 4 || !s.due (tRampStep n) then s
    else
      let s1 := (((s.setCur n cur).setVin n vin).setVout n vout).start (tRampStep n) (us 20)
      let s2 := if (s1.rd BRK.CH_CFG_INRUSH n : Int) < cur then s1
        else s1.updBrk n (fun c => { c with duty := min 64 (c.duty + 1) })
      let close := decide (vin * 5 ≤ vout * 5 + 256) && decide (vout * 5 ≤ vin * 5 + 256)
      (if (s2.brkCh n).duty = 64 && close then s2.chOn n else s2).brkDone)

/-- BREAKER_RAMP_TIMEOUT: RAMP_MAX has passed (R409). -/
def execBreakerRampTimeout (n : Nat) (s : State) : Host.Outcome State Fault Refusal :=
  let ended := match (s.brkCh n).off with
    | some o => if s.chState n = 4 then s.due (tRampMax n) else (match o.rampEnd with
        | some t => decide (t ≤ s.mono)
        | none => false)
    | none => s.due (tRampMax n)
  .next (if decide (12 ≤ n) || s.stateFor n 5 ≠ 4 || !ended then s else (s.tripNow n 5).brkDone)

/-- The greatest current channel `n` can sense, in 10 mA (R420, R422). -/
def State.fullScale (s : State) (n : Nat) : Nat := (if n < 4 then 2047 else 4095) * s.rd BRK.CH_SCALE_SCALE n / 1000

/-- BREAKER_INSTANT_TRIP: the fast comparator sees a current above INST (R411). -/
def execBreakerInstantTrip (n : Nat) (cur : Int) (s : State) : Host.Outcome State Fault Refusal :=
  .next (if decide (12 ≤ n) || !(s.stateFor n 2 = 4 || s.stateFor n 2 = 5) ||
        decide (cur ≤ (min (s.rd BRK.CH_INST_INST n) (s.fullScale n) : Nat)) then s
    else (((s.setCur n cur).tripNow n (if s.stateFor n 2 = 4 then 4 else 2))).brkDone)

/-- BREAKER_CURVE_TRIP: a current sample of channel `n`, `dt` µs after the last, enters the thermal accumulator, which
may reach a trip (R412). -/
def execBreakerCurveTrip (n : Nat) (cur : Int) (dt : Nat) (s : State) : Host.Outcome State Fault Refusal :=
  .next (if 12 ≤ n then s else ((s.setCur n cur).heatSample n cur dt).brkDone)

/-- Every forward and slot opens on the window (R419). -/
def State.openLoads (s : State) : State :=
  ((List.range 10).map (· + 2)).foldl (fun t n => if t.chPowered n then t.chOff n 6 0 else t) s

/-- BREAKER_WINDOW_OPEN: the input of channel `n`, which is on, has been below UV_OFF for 1 ms or above OV_OFF for
10 µs (R410); with an inlet the other of which is not on, the forwards and slots open too (R419). -/
def execBreakerWindowOpen (n vin : Nat) (s : State) : Host.Outcome State Fault Refusal :=
  .next (if decide (12 ≤ n) || s.stateFor n 6 ≠ 5 ||
        (codeGe vin (s.rd BRK.CH_WIN_UV_OFF n) && codeLe vin (s.rd BRK.CH_WIN_OV_OFF n)) then s
    else
      let s1 := (s.setVin n vin).openNow n 6 0
      (if n < 2 && s1.chState (1 - n) ≠ 5 then s1.openLoads else s1).brkDone)

/-- BREAKER_REVERSE_OPEN: reverse current above REV through an inlet or forward (R406, R407). -/
def execBreakerReverseOpen (n : Nat) (cur : Int) (s : State) : Host.Outcome State Fault Refusal :=
  .next (if decide (4 ≤ n) || !(s.stateFor n 7 = 4 || s.stateFor n 7 = 5) ||
        decide (-(s.rd BRK.CH_INST_REV n : Int) ≤ cur) then s
    else
      let s1 := (s.setCur n cur).openNow n 7 0
      (if n < 2 then (s1.stop (tOffMin n)).updBrk n (fun c => { c with rev := s.flag BRK.CH_CTRL_EN n }) else s1).brkDone)

/-- INLET_RECLOSE: the cable has exceeded the bus by 0.2 V for 10 µs inside the window: the inlet closes at once
(R406). -/
def execInletReclose (n vcable vbus : Nat) (s : State) : Host.Outcome State Fault Refusal :=
  .next (if 2 ≤ n then s
    else
      let s1 := (s.setCable n vcable).wr LINE.V_BUS_CODE vbus
      if (s1.brkCh n).rev && s1.chState n = 0 && decide (vbus * 25 + 256 ≤ vcable * 25) && s1.inOnWindow n &&
          s1.flag BRK.CH_CTRL_EN n && s1.enabled 0x4C && !s1.partnerHolds n && !(s1.brkCh n).fenced then
        (s1.chOn n).brkDone
      else s1.brkDone)

/-- A slot's presence. -/
def State.setPresent (s : State) (k : Nat) (v : Bool) : State :=
  let m := s.rd BRK.PRES_PRESENT
  ((s.wr BRK.PRES_PRESENT (if v then setBit m k else clrBit m k)).wr BRK.CH_STAT_PRESENT (bit v) (4 + k)).raise 0x4C (20 + k)

/-- SLOT_REMOVED: the card of slot `k` is found absent (R416). -/
def execSlotRemoved (k : Nat) (s : State) : Host.Outcome State Fault Refusal :=
  .next (if decide (8 ≤ k) || !s.flag BRK.CH_STAT_PRESENT (4 + k) then s
    else
      let n := 4 + k
      let s1 := s.setPresent k false
      let s2 := if s1.chPowered n then s1.chOff n 8 0
        else if s1.chState n = 6 then s1.startOffMin n
        else ((s1.chDrop n 8).wr BRK.CH_STAT_CAUSE 8 n).startOffMin n
      s2.brkDone)

/-- SLOT_INSERTED: the card of slot `k` has been present for 5 ms; DELAY counts from now (R416). -/
def execSlotInserted (k : Nat) (s : State) : Host.Outcome State Fault Refusal :=
  .next (if decide (8 ≤ k) || s.flag BRK.CH_STAT_PRESENT (4 + k) then s else (s.setPresent k true).brkDone)

/-- CURVE_COMMIT: a write of COMMIT (R422). -/
def execCurveCommit (p : Port) (mask : Nat) (s : State) : Host.Outcome State Fault Refusal :=
  .next (s.access p 0x4C 0x4C (mask % 2 ^ 12) (fun s => s.writeCommit (mask % 2 ^ 12)))

/-- BUS_LOW: the bus has been below BUS_WARN for 1 ms (R419, R427). -/
def execBusLow (vbus : Nat) (s : State) : Host.Outcome State Fault Refusal :=
  .next (if codeGe vbus (s.rd LINE.PORT_CFG_BUS_WARN) || s.brk.low || !s.enabled 0x4D then s
    else
      let s1 := s.wr LINE.V_BUS_CODE vbus
      (({ s1 with brk := { s1.brk with low := true, okAt := none } }.raise 0x4D 0).evaluate).brkDone)

/-- BUS_OK: the bus has been above BUS_WARN for 1 ms (R419, R427). -/
def execBusOk (vbus : Nat) (s : State) : Host.Outcome State Fault Refusal :=
  .next (if codeLe vbus (s.rd LINE.PORT_CFG_BUS_WARN) || s.brk.okAt.isSome || !s.enabled 0x4D then s
    else
      let s1 := s.wr LINE.V_BUS_CODE vbus
      (({ s1 with brk := { s1.brk with low := false, okAt := some s1.mono } }.raise 0x4D 2).evaluate).brkDone)

end Sys2Proof.Machine
end

