-- ==== Sys2Proof/Machine/Bridge.lean ====
section
/-! DEFINITION. Commands of the host bridge and the poll unit (R301-R330). -/

namespace Sys2Proof.Machine


/-- BAR2_WRITE: a host write at BAR2 offset `off`; `whole` says every byte enable is set (R304, R307). -/
def execBar2Write (off : Nat) (data : List Byte) (whole : Bool) (s : State) : Host.Outcome State Fault Refusal :=
  if 2 ^ 29 ≤ off then .fault .outsideAddressSpace
  else .next (if !s.hostUp then s
    else (s.updBridge (fun b => { b with intake := b.intake ++ [.write off data whole] })).pump.drain)

/-- BAR2_READ: a host read of `len` bytes at BAR2 offset `off` under the host's transaction `host` (R304, R309, R311). -/
def execBar2Read (host off len : Nat) (whole : Bool) (s : State) : Host.Outcome State Fault Refusal :=
  if 2 ^ 29 ≤ off then .fault .outsideAddressSpace
  else .next (if !s.hostUp then s
    else (s.updBridge (fun b => { b with intake := b.intake ++ [.read host off len whole] })).pump.drain)

/-- An answer that matches nothing (R303, R309, R314). -/
def State.lateAnswer (s : State) : State := s.sat BRIDGE.LATE_ANS_COUNT

/-- The data of a read or a poll have come (R309, R311, R312, R320). -/
def State.takeData (s : State) (r : Req) (a : Access) : State :=
  if r.kind = 2 then
    ((s.dropReq r.tag).offer 26 (some r.win) ((s.mono - r.left.getD s.mono) / 64 : Nat)).pollAnswered r.win
      (ofLe (bnat a.data))
  else if r.pf then
    match s.bridge.reads.find? (fun h => h.id = r.read) with
    | none => s.dropReq r.tag
    | some h =>
      if bitOf a.flags 1 then
        s.updBridge (fun b => { b with reqs := b.reqs.map (fun q =>
          if q.tag = r.tag then { q with pf := false, addr := h.addr, count := h.len, part := h.addr, gone := false, left := none }
          else q) })
      else
        let o := h.addr % 64
        let l : Line := { win := r.win, addr := r.addr, data := a.data, at_ := s.mono }
        let s1 := ((s.dropReq r.tag).storeLine l).serveLine l o h.len
        s1.readPart r.read r.part ((a.data.drop o).take h.len)
  else (s.dropReq r.tag).readPart r.read r.part a.data

/-- An RDATA or WACK is matched by its TAG (R303). -/
def State.takeAnswer (s : State) (a : Access) : State :=
  match s.bridge.reqs.find? (fun r => r.tag = a.tag && r.gone) with
  | none => s.lateAnswer
  | some r =>
    if a.op = 0x81 && r.kind = 0 then (s.offer 25 (some r.win) ((s.mono - r.at_) / 64 : Nat)).endWrite r none
    else if a.op = 0x82 && r.kind ≠ 0 then s.takeData r a
    else s.lateAnswer

/-- A refusal is matched by the SEQ and DEST of the refused frame (R115, R303). -/
def State.takeRefusal (s : State) (f : Frame) : State :=
  let p := bnat f.payload
  let port := if nodeOf f.src = s.nodeId then 0 else if f.dir = 0 then 3 else 2
  match s.bridge.reqs.find? (fun r => r.left.isSome && r.seq = ofBe ((p.drop 2).take 2) &&
      addrEp r.addr = ofBe ((p.drop 4).take 4) % 2 ^ 25) with
  | none => s.lateAnswer
  | some r => s.failReq r (p.headD 0) port

/-- ACCESS_ANSWER_RX: an answer or refusal for endpoint 0 of this node (R303). -/
def execAccessAnswerRx (f : Frame) (s : State) : Host.Outcome State Fault Refusal :=
  .next (
    let s1 := s.takeInbox 3 f
    if !s.pageOn 0x14 then s1
    else if f.refuse then (s1.takeRefusal f).pump.drain
    else match parseAccess f with
      | none => (s1.lateAnswer).drain
      | some a => (s1.takeAnswer a).pump.drain)

/-- READ_TIMEOUT: a read or poll unanswered for RD_TMO from the moment it was queued (R309, R319, R320); RD_TMO after a
non-posted write, the posted queue goes on (R307). Copies already lost are settled first. -/
def execReadTimeout (tag : Nat) (s : State) : Host.Outcome State Fault Refusal :=
  let s := s.settleLost
  .next (match s.bridge.reqs.find? (fun r => r.tag = tag && r.kind ≠ 0) with
    | none => if s.bridge.reqs.any (fun r => r.tag = tag && !r.posted) then s.pump.drain else s.drain
    | some r =>
      match r.left with
      | none => s.drain
      | some t =>
        if s.mono < t + s.rdTmo then s.drain
        else
          let s1 := if r.kind = 1 then (s.sat BRIDGE.RD_TMO_CNT_COUNT).raise 0x14 1 else s
          (s1.failReq r 0x10 0).pump.drain)

/-- WRITE_TIMEOUT: a write unanswered at PW_TMO after its acceptance fails with 0x10, one that has not left the
bridge is withdrawn with 0x11 (R314). Copies already lost are settled first. -/
def execWriteTimeout (tag : Nat) (s : State) : Host.Outcome State Fault Refusal :=
  let s := s.settleLost
  .next (match s.bridge.reqs.find? (fun r => r.tag = tag && r.kind = 0) with
    | none => s.drain
    | some r =>
      if s.mono < r.at_ + s.pwTmo then s.drain
      else (s.endWrite r (some (if r.gone then 0x10 else 0x11, 0))).pump.drain)

/-- PREFETCH_LINE_EXPIRY: a line is discarded 50 µs after it arrived (R312). -/
def execPrefetchLineExpiry (addr : Nat) (s : State) : Host.Outcome State Fault Refusal :=
  .next (s.discardLines 1 (fun l => l.addr = addr && decide (l.at_ + us 50 ≤ s.mono)))

/-- FENCE_CTRL.GO (R316): over every posted write of the window that is outstanding; ignored while one runs. -/
def State.fenceGo (s : State) (w : Nat) : State :=
  let s1 := s.wr BRIDGE.FENCE_CTRL_WINDOW w
  if s1.rd BRIDGE.FENCE_STAT_STATUS = 1 then s1
  else
    let s2 := ((s1.wr BRIDGE.FENCE_STAT_FAILED 0).wr BRIDGE.FENCE_STAT_ABORT_LATE 0).wr BRIDGE.FENCE_STAT_STATUS 1
    let s3 := (s2.updBridge (fun b => { b with
      fence := some w
      reqs := b.reqs.map (fun r =>
        { r with fenced := r.kind = 0 && r.win = w && !s.flag BRIDGE.WIN_CFG_NONPOSTED w }) })).wr BRIDGE.FENCE_CTRL_GO 1
    s3.fenceCheck

/-- FENCE_CTRL.ABORT (R318): a running fence is aborted; a completed one shows that the abort came late. -/
def State.fenceAbort (s : State) (w : Nat) : State :=
  let s1 := s.wr BRIDGE.FENCE_CTRL_WINDOW w
  match s1.rd BRIDGE.FENCE_STAT_STATUS with
  | 1 => ((s1.updBridge (fun b => { b with
      fence := none, reqs := b.reqs.map (fun r => { r with fenced := false }) })).wr BRIDGE.FENCE_STAT_STATUS 3).wr
        BRIDGE.FENCE_CTRL_GO 0
  | 2 => (s1.wr BRIDGE.FENCE_STAT_ABORT_LATE 1).raise 0x14 4
  | _ => s1

/-- RDA_CTRL.GO (R318): every held read of the window is aborted. A read that reached its completion point in the core cycle of
the write won against the abort; ABORT_LATE is set if every one did (R317, log 69). -/
def State.readAbort (s : State) (w : Nat) : State :=
  let held := s.bridge.reads.filter (fun (h : HeldRead) => h.win = w)
  let late := (s.bridge.ended.filter (fun (e : Nat × Nat) => e.1 = w && e.2 = s.mono / 64)).length
  let won := decide (held = []) && decide (0 < late)
  let s1 := (held.foldl State.failRead s).wr BRIDGE.RDA_CTRL_WINDOW w
  let s2 := (((s1.wr BRIDGE.RDA_STAT_STATUS (if held = [] then 2 else 3)).wr BRIDGE.RDA_STAT_ABORT_LATE (bit won)).wr
    BRIDGE.RDA_STAT_ABORTED_N held.length).wr BRIDGE.RDA_STAT_LATE_N late
  if won then s2.raise 0x14 4 else s2

/-- FENCE_GO: a write of FENCE_CTRL with GO (R316). -/
def execFenceGo (p : Port) (w : Nat) (s : State) : Host.Outcome State Fault Refusal :=
  .next (s.access p 0x14 0x60 (w % 128 * 65536 + 1) (fun s => s.fenceGo w))

/-- FENCE_ABORT: a write of FENCE_CTRL with ABORT (R318). -/
def execFenceAbort (p : Port) (w : Nat) (s : State) : Host.Outcome State Fault Refusal :=
  .next (s.access p 0x14 0x60 (w % 128 * 65536 + 2) (fun s => s.fenceAbort w))

/-- READ_ABORT: a write of RDA_CTRL with GO (R318). -/
def execReadAbort (p : Port) (w : Nat) (s : State) : Host.Outcome State Fault Refusal :=
  .next (s.access p 0x14 0x68 (w % 128 * 65536 + 1) (fun s => s.readAbort (w % 128)))

/-- The posted-write error log is emptied (R315). -/
def State.pweClear (s : State) : State :=
  s.clrFields 0 [BRIDGE.PWE_STAT_TOTAL, BRIDGE.PWE_STAT_VALID, BRIDGE.PWE_W0_ADDR_LO, BRIDGE.PWE_W1_WINDOW,
    BRIDGE.PWE_W1_ADDR_HI, BRIDGE.PWE_W2_TAG, BRIDGE.PWE_W2_CODE, BRIDGE.PWE_W2_PORT, BRIDGE.PWE_W3_NS, BRIDGE.PWE_W4_SEC_LO]

/-- The prefetch discard log is emptied (R313). -/
def State.pfdClear (s : State) : State :=
  s.clrFields 0 [BRIDGE.PFD_STAT_TOTAL, BRIDGE.PFD_STAT_VALID, BRIDGE.PFD_W0_ADDR_LO, BRIDGE.PFD_W1_WINDOW,
    BRIDGE.PFD_W1_ADDR_HI, BRIDGE.PFD_W2_CAUSE, BRIDGE.PFD_W2_COUNT]

/-- PWE_CLEAR: a write of PWE_CLR (R315). -/
def execPweClear (p : Port) (s : State) : Host.Outcome State Fault Refusal :=
  .next (s.access p 0x14 0x74 1 State.pweClear)

/-- PFD_CLEAR: a write of PFD_CLR (R313). -/
def execPfdClear (p : Port) (s : State) : Host.Outcome State Fault Refusal :=
  .next (s.access p 0x14 0x7C 1 State.pfdClear)

/-- An enabled entry's next multiple of PERIOD has come (R319). -/
def State.pollIsDue (s : State) (i : Nat) : Bool :=
  s.flag POLL.PE_CFG_EN i && decide ((s.poll i).slot < s.fabNs / s.pollPeriod i)

/-- The tag of a poll: bit 15 is 1 (R305). -/
def State.nextPollTag (s : State) : Nat :=
  (((List.range 2048).map (fun k => 32768 + (s.bridge.pollTag + k) % 32768)).find? (fun t =>
    s.bridge.reqs.all (fun r => r.tag ≠ t))).getD 32768

/-- A poll is sent: a 4-byte READ without PF (R319). -/
def State.pollSend (s : State) (i : Nat) : State :=
  let t := s.nextPollTag
  let s1 := (s.updPoll i (fun e => { e with tag := some t })).wr POLL.PE_STAT_IN_FLIGHT 1 i
  (s1.updBridge (fun b => { b with
    pollTag := (t + 1) % 32768
    reqs := b.reqs ++ [{ kind := 2, tag := t, win := i, count := 4, at_ := s.mono
                         addr := s.rd POLL.PE_ADDR_HI_ADDR i * 2 ^ 32 + s.rd POLL.PE_ADDR_LO_ADDR i * 4 }] })).pump

/-- POLL_DUE: entry `i` falls due, the lowest index first; while its previous poll is unanswered it is skipped
(R319). -/
def execPollDue (i : Nat) (s : State) : Host.Outcome State Fault Refusal :=
  .next (if !s.pageOn 0x15 || s.fenced 0x15 || !(decide (i < 1024) && s.pollIsDue i) ||
        (List.range i).any s.pollIsDue then s
    else
      let s1 := s.updPoll i (fun e => { e with slot := s.fabNs / s.pollPeriod i })
      if (s.poll i).tag.isSome then s1.sat POLL.POLL_SKIP_COUNT else (s1.pollSend i).drain)

/-- CQ_POP: the head of the change queue is removed (R321). -/
def execCqPop (p : Port) (s : State) : Host.Outcome State Fault Refusal :=
  .next (s.access p 0x15 0x74 1 (fun s => s.updBridge (fun b => { b with cq := b.cq.drop 1 })))

/-! ### Host rings (R322-R324) -/


/-- HOST_RX_DELIVERY: a message for endpoint 0 goes to the ring of its class; `buf` is the buffer address in the
ring's head descriptor (R323). -/
def execHostRxDelivery (f : Frame) (buf : Nat) (s : State) : Host.Outcome State Fault Refusal :=
  .next (
    let s1 := s.takeInbox 3 f
    let r := s1.rd BRIDGE.RX_MAP_RING f.tc
    let n := 32 + f.payload.length
    let head := s1.rd BRIDGE.RXR_HEAD_INDEX r
    if !s1.hostUp then s1
    else if !s1.flag BRIDGE.RXR_CFG_EN r || head = s1.rd BRIDGE.RXR_TAIL_INDEX r || decide (s1.rd BRIDGE.RXR_CFG_BUF_LEN r < n) then
      s1.sat BRIDGE.RXR_DROP_COUNT r
    else
      let desc := s1.rd BRIDGE.RXR_BASE_HI_ADDR r * 2 ^ 32 + s1.rd BRIDGE.RXR_BASE_LO_ADDR r / 16 * 16 + 16 * head
      let s2 := s1.emit (.item "HOST_WRITE" (buf / 64 * 64 :: (f.head28 ++ beBytes 4 f.hchk ++ bnat f.payload)))
      (s2.emit (.item "HOST_WRITE" ((desc + 8) :: leBytes 4 (2 ^ 31 + n)))).wr BRIDGE.RXR_HEAD_INDEX
        (ringNext (s1.rd BRIDGE.RXR_CFG_SIZE r) head) r)

/-- A send ring has a frame to serve: none of its frames waits for its key, and it owns a descriptor. -/
def State.txReady (s : State) (n : Nat) : Bool :=
  s.flag BRIDGE.TXR_CFG_EN n && !s.bridge.txWait.any (fun (w : TxWait) => w.ring = n) &&
  s.rd BRIDGE.TXR_HEAD_INDEX n ≠ s.rd BRIDGE.TXR_TAIL_INDEX n

/-- The send ring whose turn it is (R324). -/
def State.txTurn (s : State) : Option Nat := ((List.range 8).map (fun k => (s.bridge.turn + k) % 8)).find? s.txReady

/-- The frame of a header image and payload (R324). -/
def State.imageFrame (s : State) (image : List Byte) : Frame :=
  let h := bnat image
  let lt := bitOf (h.getD 1 0) 7
  { tc := h.getD 0 0 % 8, lt := lt, dest := ofBe ((h.drop 2).take 4) % 2 ^ 25, src := s.nodeId * 8192
    launch := if lt then ofBe ((h.drop 12).take 8) else 0, len := ofBe ((h.drop 20).take 2) % 2 ^ 13
    payload := image.drop 32 }

/-- What becomes of the frame of a send ring: the descriptor's status, or none while the frame waits for its key (R324). -/
def State.txFrame (s : State) (count : Nat) (image : List Byte) : Option Nat × State :=
  let f := s.imageFrame image
  if f.badHeader || count ≠ 32 + f.len || image.length ≠ count then (some 1, s)
  else if f.tc = 1 ∨ f.tc = 4 ∨ f.tc = 7 then (some 2, s)
  else
    let o := s.send 3 f s.bridge.txTag
    match o.1 with
    | .queued _ _ => (some 0, o.2)
    | .waiting => (none, o.2)
    | _ => (some 3, o.2)

/-- SEND_RING_SERVE: the ring whose turn it is, `count` and `image` being what its head descriptor and buffer hold. Its
descriptor is done once the frame has been queued or refused, the ring waiting meanwhile (R324). -/
def execSendRingServe (n count : Nat) (image : List Byte) (s : State) : Host.Outcome State Fault Refusal :=
  .next (if !s.hostUp || s.txTurn ≠ some n then s
    else
      let r := s.txFrame count image
      let desc := s.rd BRIDGE.TXR_BASE_HI_ADDR n * 2 ^ 32 + s.rd BRIDGE.TXR_BASE_LO_ADDR n / 16 * 16 + 16 * s.rd BRIDGE.TXR_HEAD_INDEX n
      let s1 := r.2.updBridge (fun b => { b with turn := (n + 1) % 8, txTag := b.txTag + 1 })
      (match r.1 with
       | some st => s1.txDone n desc st
       | none => s1.updBridge (fun b => { b with txWait := b.txWait ++ [TxWait.mk n s.bridge.txTag desc] })).pump.drain)

end Sys2Proof.Machine
end

