-- ==== Sys2Proof/Machine/Budget.lean ====
section
/-! DEFINITION. Commands of the budget unit (R427-R444). -/

namespace Sys2Proof.Machine

/-- BUDGET_EVALUATION: the 1 ms evaluation, with its measurements (R427, R434). -/
def execBudgetEvaluation (m : Meas) (s : State) : Host.Outcome State Fault Refusal :=
  .next (((s.measure m).evaluate).settleAll.evalWoken.drain)

/-- TEMP_SAMPLE: the two sensors read `t0` and `t1` in 1/16 °C; more than 8 °C apart for 10 ms is a fault of checker 0
(R428, R491). -/
def execTempSample (t0 t1 : Int) (s : State) : Host.Outcome State Fault Refusal :=
  .next (
    let t := max t0 t1
    let s1 := ((s.wr POWER.TEMP_NOW (ofSigned 16 t)).offer 37 (some 0) t0).offer 37 (some 1) t1
    let s2 := if toSigned 16 (s1.rd POWER.TEMP_MAX) < t then s1.wr POWER.TEMP_MAX (ofSigned 16 t) else s1
    let apart := decide (128 < t0 - t1) || decide (128 < t1 - t0)
    let k := if apart then s2.bud.apart + 1 else 0
    let s3 := s2.updBud (fun b => { b with apart := if k = 10 then 0 else k })
    ((if k = 10 then s3.report 0x01 0 else s3).thermTo t).evalWoken.drain)

/-- TRAFFIC_TOLERANCE_MISS: a local frame of class `c` has waited `wait` µs at the head of its queue for output `d`,
which is narrowed (R433, R437). -/
def execTrafficToleranceMiss (d : Side) (c wait : Nat) (s : State) : Host.Outcome State Fault Refusal :=
  .next (if decide (c = 0) || decide (6 < c) || decide (wait ≤ s.tcTol c) ||
        !(s.laneMode (.ring d) = 1 || s.rdn d.n MAC.LANE_STAT_PHASE = 3) then s
    else
      let s1 := (((s.sat POWER.TOL_MISS_CNT_COUNT).wr POWER.TOL_LAST_VALID 1).wr POWER.TOL_LAST_KIND 1).wr POWER.TOL_LAST_CLASS c
      ((s1.wr POWER.TOL_LAST_WHERE d.code).raise 0x01 4).updLane d (fun l => { l with need := true }))

end Sys2Proof.Machine
end

