-- ==== Sys2Proof/Machine/Can.lean ====
section
/-! DEFINITION. Commands of the CAN FD controllers (R334-R355). -/

namespace Sys2Proof.Machine

/-- A write of register `off` of controller `n` by its own row; other controllers do not exist. -/
def State.canRow (s : State) (p : Port) (n off v : Nat) (k : State → State) : State :=
  if 4 ≤ n then s else (s.access p (canPage n) off v k).drain

/-- The CTRL word with OWN_GATE, FD_EN and a MODE, as a write of one of its other fields carries it (R353). -/
def State.canCtrl (s : State) (n mode : Nat) : Nat := s.rdn n CAN.CTRL_OWN_GATE * 2 ^ 11 + s.rdn n CAN.CTRL_FD_EN * 2 ^ 10 + mode

/-- BRS, FDF and DLC of the selected buffer, as a write of another field of MB_CTRL carries them (R353). -/
def State.canCtl (s : State) (n : Nat) : Nat :=
  let b := s.rdn n CAN.MB_SEL_BUFFER
  s.rdn n CAN.MB_CTRL_BRS b * 2 ^ 5 + s.rdn n CAN.MB_CTRL_FDF b * 2 ^ 4 + s.rdn n CAN.MB_CTRL_DLC b

/-- CAN_MODE: a write of CTRL.MODE (R338). -/
def execCanMode (p : Port) (n mode : Nat) (s : State) : Host.Outcome State Fault Refusal :=
  .next (s.canRow p n 0x40 (s.canCtrl n (mode % 4)) (fun s => s.canSetMode n (mode % 4)))

/-- The controller can receive: integrated, not in configuration, bus-off or sleep, not fenced (R30, R338, R350, R351). -/
def State.canHears (s : State) (n : Nat) : Bool :=
  s.canOn n && !s.fenced (canPage n) && s.rdn n CAN.CTRL_MODE ≠ 0 && s.rdn n CAN.CTRL_MODE ≠ 3 &&
  (s.rdn n CAN.STAT_BUS = 2 || s.rdn n CAN.STAT_BUS = 3)

/-- The error counters after a bus error in frame of its own (`sender`) or another's, by the rules of
ISO 11898-1 (PRESUMED, log 32): a sender's counter rises by 8 unless the standard exempts the error, a receiver's
by 1, or by 8 in the standard's heavy cases. -/
def State.canError (s : State) (n err : Nat) (sender heavy exempt : Bool) : State :=
  let s1 := s.wrn n CAN.ERR_LAST_ERR err
  let s2 :=
    if sender then (if exempt then s1 else s1.satn n CAN.ERR_TEC 0 8)
    else s1.satn n CAN.ERR_REC 0 (if heavy then 8 else 1)
  (s2.canTxFail n).canLevel n

/-- CAN_FRAME_RX: a frame with a good CRC, its start of frame at the given fabric time. An own frame still on the
bus has lost arbitration; with FD_EN at 0 an FD frame is a form error (R339, R346, R353). -/
def execCanFrameRx (n : Nat) (f : CanFrame) (sofNs sofSec : Nat) (s : State) : Host.Outcome State Fault Refusal :=
  .next (if !s.canHears n then s
    else
      let s1 := s.canTxFail n
      if f.fdf && !s1.flagn n CAN.CTRL_FD_EN then (s1.canError n 2 false false false).drain
      else (((s1.canRxGood n).canLevel n).canTake n f sofNs sofSec).drain)

/-- CAN_TX_REQ: a write of MB_CTRL.TX_REQ of the selected buffer (R342). -/
def execCanTxReq (p : Port) (n : Nat) (s : State) : Host.Outcome State Fault Refusal :=
  .next (s.canRow p n 0x70 (s.canCtl n + 2 ^ 19) (fun s => s.canReq n (s.rdn n CAN.MB_SEL_BUFFER)))

/-- CAN_TX_ABORT: a write of MB_CTRL.TX_ABORT of the selected buffer (R343). -/
def execCanTxAbort (p : Port) (n : Nat) (s : State) : Host.Outcome State Fault Refusal :=
  .next (s.canRow p n 0x70 (s.canCtl n + 2 ^ 20) (fun s => s.canAbort n (s.rdn n CAN.MB_SEL_BUFFER)))

/-- CAN_TX_START: buffer `b` reaches its start of frame if it is the one whose turn it is; contents are latched and
the frame is stamped, within ±20 ns (R339, R342, R346, R491). -/
def execCanTxStart (n b : Nat) (s : State) : Host.Outcome State Fault Refusal :=
  .next (if !s.canSends n || (s.canU n).tx.isSome then s
    else match s.canNext n with
      | none => s
      | some t =>
        if t.buf ≠ b then s
        else
          let r := s.draw
          let at_ := s.fabNs + r.1 % 41 - 20
          let s1 := r.2.updCan n (fun u => { u with tx := some t, exc := if t.exc then none else u.exc })
          let s2 := (s1.wrn n CAN.STAT_TX_ACTIVE 1).mbStamp n b at_ (at_ / 1000000000)
          (if t.exc then s2.offer 27 (some n) (s.fabNs - (s.canU n).began : Nat) else s2).drain)

/-- A sent frame succeeds (R339, R343, R353). -/
def State.canTxDone (s : State) (n : Nat) (t : CanTx) (loop : Nat) : State :=
  let late := s.rdn n CAN.MB_CTRL_TX_ABORT t.buf
  let s1 := ((s.updCan n (fun u => { u with tx := none })).wrn n CAN.STAT_TX_ACTIVE 0).incn n CAN.TX_OK_COUNT
  let s2 := (((s1.wrn n CAN.MB_CTRL_TX_REQ 0 t.buf).wrn n CAN.MB_CTRL_TX_ABORT 0 t.buf).wrn n CAN.MB_CTRL_TX_STAT 2
    t.buf).wrn n CAN.MB_CTRL_TX_LATE late t.buf
  let s3 := if t.frame.fdf && s2.flagn n CAN.TDC_EN then s2.wrn n CAN.TDC_VALUE loop else s2
  let s4 := if s3.flagn n CAN.MB_CFG_IRQ t.buf then s3.raise (canPage n) 1 else s3
  let s5 := (s4.wrn n CAN.ERR_TEC (s4.rdn n CAN.ERR_TEC - 1)).canLevel n
  if s5.rdn n CAN.CTRL_MODE = 3 then
    s5.canTake n t.frame (s5.rdn n CAN.MB_STAMP0_NS t.buf) (s5.rdn n CAN.MB_STAMP1_SEC_LO t.buf)
  else s5

/-- CAN_TX_END: the frame on the bus ends, sent (`ok`) or with arbitration lost; `loop` is the loop delay measured
in it, in data quanta (R337, R343, R346). A controller that may drive no level any more has not sent it (R338, R352). -/
def execCanTxEnd (n : Nat) (ok : Bool) (loop : Nat) (s : State) : Host.Outcome State Fault Refusal :=
  .next (if !s.canOn n then s
    else match (s.canU n).tx with
      | none => s
      | some t => (if ok && s.canSends n then s.canTxDone n t loop else s.canTxFail n).drain)

/-- CAN_ENDPOINT_ACCESS: a frame for a message object endpoint (R341). -/
def execCanEndpointAccess (f : Frame) (s : State) : Host.Outcome State Fault Refusal :=
  .next (if localOf f.dest < 1024 ∨ 1280 ≤ localOf f.dest then s else ((s.takeInbox 6 f).canAccess f).drain)

/-- CAN_WINDOW_START: the matrix comes to its next basic cycle and window, as far as their times have come
(R344-R349). -/
def execCanWindowStart (n : Nat) (s : State) : Host.Outcome State Fault Refusal :=
  .next (if !s.canOn n || !s.flagn n CAN.CYC_CFG_EN then s
    else (((s.canCycle n).canPass n 32).canWindow n).drain)

/-- CAN_SWITCH: a write of CYC_CTRL.SWITCH (R348). -/
def execCanSwitch (p : Port) (n : Nat) (s : State) : Host.Outcome State Fault Refusal :=
  .next (if 4 ≤ n then s
    else s.access p (canPage n) 0xCC 1 (fun s => (s.wrn n CAN.CYC_STAT_SWITCH_PEND 1).wrn n CAN.CYC_CTRL_SWITCH 1))

/-- CAN_SWITCH_CANCEL: a write of CYC_CTRL.CANCEL (R348). -/
def execCanSwitchCancel (p : Port) (n : Nat) (s : State) : Host.Outcome State Fault Refusal :=
  .next (if 4 ≤ n then s
    else s.access p (canPage n) 0xCC 2 (fun s => (s.wrn n CAN.CYC_STAT_SWITCH_PEND 0).wrn n CAN.CYC_CTRL_SWITCH 0))

/-- CAN_BUS_ERROR: error `err` (1 stuff, 2 form, 3 ACK, 4 bit 1, 5 bit 0, 6 CRC) in the frame on the bus (R350). -/
def execCanBusError (n err : Nat) (heavy exempt : Bool) (s : State) : Host.Outcome State Fault Refusal :=
  .next (if !s.canOn n || s.rdn n CAN.CTRL_MODE = 0 || !(s.rdn n CAN.STAT_BUS = 2 || s.rdn n CAN.STAT_BUS = 3) ||
        !(decide (1 ≤ err) && decide (err ≤ 6)) then s
    else (s.canError n err (s.canU n).tx.isSome heavy exempt).drain)

/-- CAN_RECOVER: a write of CTRL.RECOVER (R350). -/
def execCanRecover (p : Port) (n : Nat) (s : State) : Host.Outcome State Fault Refusal :=
  .next (s.canRow p n 0x40 (s.canCtrl n (s.rdn n CAN.CTRL_MODE) + 2 ^ 5) (fun s => s.canRecoverBit n))

/-- CAN_RECOVERED: 128 occurrences of 11 recessive bits have passed (R350). -/
def execCanRecovered (n : Nat) (s : State) : Host.Outcome State Fault Refusal :=
  .next (if !s.canOn n || s.rdn n CAN.STAT_BUS ≠ 5 then s
    else
      let s1 := (s.updCan n (fun u => { u with off := false })).wrn n CAN.CTRL_RECOVER 0
      ((((s1.wrn n CAN.ERR_TEC 0).wrn n CAN.ERR_REC 0).wrn n CAN.STAT_BUS 2).raise (canPage n) 5).drain)

/-- CAN_INTEGRATION_DONE: 11 consecutive recessive bits have passed (R338). -/
def execCanIntegrationDone (n : Nat) (s : State) : Host.Outcome State Fault Refusal :=
  .next (if s.canOn n && s.rdn n CAN.CTRL_MODE ≠ 0 && s.rdn n CAN.STAT_BUS = 1 then (s.wrn n CAN.STAT_BUS 2).canLevel n else s)

/-- CAN_SLEEP: a write of CTRL.SLEEP (R351). -/
def execCanSleep (p : Port) (n : Nat) (s : State) : Host.Outcome State Fault Refusal :=
  .next (s.canRow p n 0x40 (s.canCtrl n (s.rdn n CAN.CTRL_MODE) + 2 ^ 6) (fun s => s.canSleepBit n))

/-- CAN_SLEEP_ENTER: the frame on the bus has ended and the bus has been idle for 11 recessive bits (R351). -/
def execCanSleepEnter (n : Nat) (s : State) : Host.Outcome State Fault Refusal :=
  .next (if !s.canOn n || !s.flagn n CAN.CTRL_SLEEP || (s.canU n).tx.isSome || s.rdn n CAN.CTRL_MODE = 0 ||
        !(decide (1 ≤ s.rdn n CAN.STAT_BUS) && decide (s.rdn n CAN.STAT_BUS ≤ 3)) then s
    else (s.wrn n CAN.STAT_BUS 6).wrn n CAN.CTRL_SLEEP 0)

/-- Byte `i` of a pair of wake words, byte 0 in [31:24] of the first. -/
def State.wakeByte (s : State) (n : Nat) (f : Fld) (i : Nat) : Nat := bits (s.rdn n f (i / 4)) (24 - 8 * (i % 4)) 8

/-- A good frame wakes the controller in frame mode: IDE, ID and the first eight data bytes match under their
masks, and it carries every masked byte (R351). -/
def State.wakes (s : State) (n : Nat) (f : CanFrame) : Bool :=
  (!f.fdf || s.flagn n CAN.CTRL_FD_EN) && s.flagn n CAN.WAKE_ID_IDE = f.ide &&
  (f.id &&& s.rdn n CAN.WAKE_IDM_MASK) = (s.rdn n CAN.WAKE_ID_ID &&& s.rdn n CAN.WAKE_IDM_MASK) &&
  (List.range 8).all (fun i =>
    let m := s.wakeByte n CAN.WAKE_DM_MASK i
    m = 0 || (decide (i < f.data.length) && ((f.data.getD i 0).toNat &&& m) = (s.wakeByte n CAN.WAKE_D_DATA i &&& m)))

/-- CAN_WAKE_CONDITION: a dominant level of `width` ns, or a good frame, on the bus of a sleeping controller; the
frame is lost in edge mode and stored in frame mode (R351). -/
def execCanWakeCondition (n width : Nat) (f : Option CanFrame) (sofNs sofSec : Nat) (s : State) :
    Host.Outcome State Fault Refusal :=
  .next (if !s.canOn n || s.rdn n CAN.STAT_BUS ≠ 6 then s
    else if s.rdn n CAN.WAKE_CFG_MODE = 0 then
      if s.rdn n CAN.WAKE_CFG_FILT * 100 ≤ width then (s.canWakeUp n).drain else s
    else match f with
      | none => s
      | some g => if s.wakes n g then ((s.canWakeUp n).canTake n g sofNs sofSec).drain else s)

/-- CAN_WAKE: a write of CTRL.WAKE (R351). -/
def execCanWake (p : Port) (n : Nat) (s : State) : Host.Outcome State Fault Refusal :=
  .next (s.canRow p n 0x40 (s.canCtrl n (s.rdn n CAN.CTRL_MODE) + 2 ^ 7) (fun s => s.canWakeBit n))

end Sys2Proof.Machine
end

