-- ==== Sys2Proof/Machine/Cupping.lean ====
section
/-! DEFINITION. Commands of the Cupping monitors (R489-R496). -/

namespace Sys2Proof.Machine

/-- INDEX `i` names an instance of source `src` (R491). -/
def sourceHas (src i : Nat) : Bool :=
  match src with
  | 0 => false
  | 1 => decide (i < 2) | 2 => decide (i < 2) | 15 => decide (i < 2) | 37 => decide (i < 2)
  | 8 => decide (i < 8) | 14 => decide (i < 8) | 16 => decide (i < 8) | 18 => decide (i < 8) | 31 => decide (i < 8)
  | 9 => decide (i < 6) | 10 => decide (i < 6) | 11 => decide (i < 6) | 39 => decide (i < 6)
  | 12 => decide (i < 512)
  | 17 => decide (i < 16) | 22 => decide (i < 16) | 30 => decide (i < 16)
  | 20 => decide (i < 512) || i = 0x3FF | 21 => decide (i < 512) || i = 0x3FF
  | 24 => decide (i < 128) || i = 0x3FF | 25 => decide (i < 128) || i = 0x3FF
  | 27 => decide (i < 4)
  | 32 => decide (i < 12) | 33 => decide (i < 12) | 38 => decide (i < 12)
  | _ => decide (src ≤ 40)

/-- The port and lane of index 2 × port + lane of sources 9 to 11. -/
def laneIndex (i : Nat) : Link × Nat := (if i < 2 then .ring .east else if i < 4 then .ring .west else .twin, i % 2)

/-- The symbols a lane has corrected in the last 1 ms (R83, R491). -/
def State.corrMs (s : State) (i : Nat) : Nat :=
  let l := (laneIndex i).1
  let lane := (laneIndex i).2
  match s.cwRun l lane with
  | none => 0
  | some a =>
    let k := codewordAt (max a (s.mono - ms 1))
    corrected (2 * l.code + lane) k (codewordAt s.mono - k)

/-- The sample that a periodic source whose quantity the state holds delivers now (R491); none where the quantity is a
measurement or an event that CUP_SAMPLE brings. -/
def State.sampleNow (s : State) (src i : Nat) : Option Int :=
  match src with
  | 9 => some (s.corrMs i : Nat)
  | 11 => some ((match (laneIndex i).1 with
      | .ring d => s.rdn d.n PHY.EYE_HEIGHT (i % 2)
      | .twin => s.rd TWINLINK.EYE_HEIGHT : Nat) : Int)
  | 12 => some (((s.voq i).q.map (fun c => c.a + c.s)).foldl (· + ·) 0 : Nat)
  | 13 => some (s.rd BUFFER.POOL_STAT_SHARED_USED : Nat)
  | 14 => some (s.rd BUFFER.CLASS_USED_CELLS i : Nat)
  | 15 => some ((s.txOf (if i = 0 then .east else .west)).level / 64 : Nat)
  | 19 => some ((s.win.filter s.streamFresh).length : Nat)
  | 22 => some (((List.range 32).filter (fun c => (s.ctx i c).ready)).length : Nat)
  | _ => none

/-- CUP_SAMPLE: the source of monitor `m` delivers a sample for its INDEX: the quantity the state holds, otherwise `v` (R489,
R491). -/
def execCupSample (m : Nat) (v : Int) (s : State) : Host.Outcome State Fault Refusal :=
  .next (if decide (m < 24) && s.pageOn 6 && s.flag CUP.MON_CFG_EN m &&
      sourceHas (s.rd CUP.MON_CFG_SRC m) (s.rd CUP.MON_CFG_INDEX m) then
      s.monitorTake m ((s.sampleNow (s.rd CUP.MON_CFG_SRC m) (s.rd CUP.MON_CFG_INDEX m)).getD v)
    else s)

/-- The monitor is cleared (R489). -/
def State.monitorClear (s : State) (m : Nat) : State := { s with cup := Tbl.del s.cup m }

/-- A write of a monitor's configuration word at `off` 0x0 MON_CFG, 0x4 BIN_LO, 0x8 BIN_W: it clears the monitor
(R489); 0xC THR, 0x10 THR_CFG do not. -/
def State.writeMonitor (s : State) (m off v : Nat) : State :=
  match off with
  | 0 => (s.putAll 0 v m [CUP.MON_CFG_EN, CUP.MON_CFG_LOG2, CUP.MON_CFG_SRC, CUP.MON_CFG_INDEX, CUP.MON_CFG_SHIFT]).monitorClear m
  | 4 => (s.put 0 v m CUP.BIN_LO_LO).monitorClear m
  | 8 => (s.put 0 v m CUP.BIN_W_WIDTH).monitorClear m
  | 0xC => s.put 0 v m CUP.THR_VALUE
  | 0x10 => s.put 0 v m CUP.THR_CFG_MODE
  | _ => s

/-- MONITOR_CONFIG_WRITE: a write of MON_CFG, BIN_LO or BIN_W of monitor `m` (R489). -/
def execMonitorConfigWrite (p : Port) (m off v : Nat) (s : State) : Host.Outcome State Fault Refusal :=
  .next (if decide (m < 24) && (off = 0 || off = 4 || off = 8) then
      s.access p 6 (0x100 + 0x20 * m + off) (v % 2 ^ 32) (fun s => s.writeMonitor m off (v % 2 ^ 32))
    else s)

/-- SNAP_CTRL.GO: ignored while busy (R492). -/
def State.cupGo (s : State) : State :=
  if s.cupSnap.isSome then s
  else
    let s1 := { s with cupSnap := some (s.rd CUP.SNAP_CTRL_MONITOR, s.flag CUP.SNAP_CTRL_CLEAR) }
    ((s1.wr CUP.SNAP_CTRL_STATUS 1).wr CUP.SNAP_CTRL_GO 1).wr CUP.SNAP_CTRL_ABORT_LATE 0

/-- SNAP_CTRL.ABORT: before the completion point it ends the snapshot, later it is late (R492). -/
def State.cupAbort (s : State) : State :=
  if s.cupSnap.isSome then
    ({ s with cupSnap := none }.wr CUP.SNAP_CTRL_STATUS 3).wr CUP.SNAP_CTRL_GO 0
  else if s.rd CUP.SNAP_CTRL_STATUS = 2 then (s.wr CUP.SNAP_CTRL_ABORT_LATE 1).raise 6 24
  else s

/-- A write of SNAP_CTRL (R492). -/
def State.writeSnapCtrl (s : State) (v : Nat) : State :=
  let s1 := s.putAll 0 v 0 [CUP.SNAP_CTRL_CLEAR, CUP.SNAP_CTRL_MONITOR]
  let s2 := if bitOf v 8 then s1.cupGo else s1
  if bitOf v 9 then s2.cupAbort else s2

/-- CUP_SNAPSHOT: a write of SNAP_CTRL.GO with MONITOR `m` and CLEAR (R492). -/
def execCupSnapshot (p : Port) (m : Nat) (clear : Bool) (s : State) : Host.Outcome State Fault Refusal :=
  .next (let v := 256 + 128 * bit clear + m % 32
    s.access p 6 0x40 v (fun s => s.writeSnapCtrl v))

/-- The monitor enters the snapshot window at one completion point (R492, R494). -/
def State.snapCopy (s : State) (m : Nat) : State :=
  let c := Tbl.get {} s.cup m
  let s1 := (((s.wr CUP.SNAP_INFO_MONITOR m).wr CUP.SNAP_MIN_VALUE (ofSigned 32 c.lo)).wr CUP.SNAP_MAX_VALUE
    (ofSigned 32 c.hi)).wr CUP.SNAP_COUNT_COUNT c.count
  let s2 := ((s1.wr CUP.SNAP_SUM_SUM (ofSigned 64 c.sum)).wr CUP.SNAP_NS_NS s.nowNs).wr CUP.SNAP_SEC_SEC_LO s.nowSec
  (List.range 32).foldl (fun t i => t.wr CUP.SNAP_BIN_COUNT (Tbl.get 0 c.bins i) i) s2

/-- CUP_SNAPSHOT_DONE: the completion point of the snapshot in progress (R492). -/
def execCupSnapshotDone (s : State) : Host.Outcome State Fault Refusal :=
  .next (match s.cupSnap with
    | none => s
    | some (m, clear) =>
      let s1 := { s.snapCopy m with cupSnap := none }
      ((if clear then s1.monitorClear m else s1).wr CUP.SNAP_CTRL_STATUS 2).wr CUP.SNAP_CTRL_GO 0)

/-- CUP_SNAPSHOT_ABORT: a write of SNAP_CTRL.ABORT, CLEAR and MONITOR as they stand (R492). -/
def execCupSnapshotAbort (p : Port) (s : State) : Host.Outcome State Fault Refusal :=
  .next (let v := 512 + 128 * (s.rd CUP.SNAP_CTRL_CLEAR % 2) + s.rd CUP.SNAP_CTRL_MONITOR % 32
    s.access p 6 0x40 v (fun s => s.writeSnapCtrl v))

end Sys2Proof.Machine
end

