-- ==== Sys2Proof/Machine/Engine.lean ====
section
/-! DEFINITION. Commands of the engines and framers beside the instructions: starts and stops, injection, FIFOs,
snapshots, frames, program memory, bank swaps (R226-R282). -/

namespace Sys2Proof.Machine

/-- The offset of word `k` of the register block of context `c` (R249). -/
def ctxOff (c k : Nat) : Nat := 0x400 + 0x40 * c + 4 * k

/-- `k` for a context that exists; nothing for numbers that name none. -/
def State.forCtx (s : State) (e c : Nat) (k : State → State) : State := if e < 16 ∧ c < 32 then k s else s

/-- `k` for an engine that exists. -/
def State.forEng (s : State) (e : Nat) (k : State → State) : State := if e < 16 then k s else s

/-- BC_GRID_CHANGE: at the start of the whole second the new grid comes into force (R226). -/
def execBcGridChange (s : State) : Host.Outcome State Fault Refusal := .next s.gridChange

/-- DISPATCH_RESUME: 100 ns after the boundary (R227). -/
def execDispatchResume (e : Nat) (s : State) : Host.Outcome State Fault Refusal :=
  .next (if s.due (tPause e) then (s.updEng e (fun g => { g with paused := false })).stop (tPause e) else s)

/-- DEFERRAL_END: the deferral has lasted the tolerance of the context's class (R232, R429). -/
def execDeferralEnd (e c : Nat) (s : State) : Host.Outcome State Fault Refusal :=
  .next (if (s.ctx e c).deferred && decide ((s.ctx e c).deferAt + fns (s.ctxTol (s.ctxClass e c)) ≤ s.fab) then
      s.endDeferral e c true
    else s)

/-- The word of a CTX_CTRL write: request bit `i` with INJ_PREEMPT (R249). -/
def ctxCtrl (pre : Bool) (i : Nat) : Nat := put1 pre 5 + 2 ^ i

/-- CTX_START (R245). -/
def execCtxStart (p : Port) (e c : Nat) (pre : Bool) (s : State) : Host.Outcome State Fault Refusal :=
  .next ((s.forCtx e c (fun s => s.access p (engPage e) (ctxOff c 0) (ctxCtrl pre 0) (fun s =>
    s.writeCtxCtrl e c (ctxCtrl pre 0)))).drain)

/-- CTX_START_NOW (R245, R282). -/
def execCtxStartNow (p : Port) (e c : Nat) (pre : Bool) (s : State) : Host.Outcome State Fault Refusal :=
  .next ((s.forCtx e c (fun s => s.access p (engPage e) (ctxOff c 0) (ctxCtrl pre 1) (fun s =>
    s.writeCtxCtrl e c (ctxCtrl pre 1)))).drain)

/-- CTX_CLEAR (R245). -/
def execCtxClear (p : Port) (e c : Nat) (pre : Bool) (s : State) : Host.Outcome State Fault Refusal :=
  .next ((s.forCtx e c (fun s => s.access p (engPage e) (ctxOff c 0) (ctxCtrl pre 3) (fun s =>
    s.writeCtxCtrl e c (ctxCtrl pre 3)))).drain)

/-- CTX_STOP (R246). -/
def execCtxStop (p : Port) (e c : Nat) (pre : Bool) (s : State) : Host.Outcome State Fault Refusal :=
  .next ((s.forCtx e c (fun s => s.access p (engPage e) (ctxOff c 0) (ctxCtrl pre 2) (fun s =>
    s.writeCtxCtrl e c (ctxCtrl pre 2)))).drain)

/-- STOP_COMPLETION: the next dispatch after a STOP (R246). -/
def execStopCompletion (e c : Nat) (s : State) : Host.Outcome State Fault Refusal := .next (s.stopRun e c).drain

/-- INJ_GO (R274, R276). -/
def execInjGo (p : Port) (e c : Nat) (pre : Bool) (s : State) : Host.Outcome State Fault Refusal :=
  .next ((s.forCtx e c (fun s => s.access p (engPage e) (ctxOff c 0) (ctxCtrl pre 4) (fun s =>
    s.writeCtxCtrl e c (ctxCtrl pre 4)))).drain)

/-- INJECTION_EXECUTE (R274, R275). -/
def execInjectionExecute (e c : Nat) (s : State) : Host.Outcome State Fault Refusal := .next (s.injectRun e c).drain

/-- RESERVED_ENCODING (R255). -/
def execReservedEncoding (e c : Nat) (s : State) : Host.Outcome State Fault Refusal := .next (s.reservedRun e c).drain

/-- STALL_END: the condition of the context's stall is tested (R235, R256, R261). -/
def execStallEnd (e c : Nat) (s : State) : Host.Outcome State Fault Refusal := .next (s.testStall e c).drain

/-- PIN_UNDERRUN: the output buffer has run empty while the context is not stalled at PULL (R235). -/
def execPinUnderrun (e c : Nat) (s : State) : Host.Outcome State Fault Refusal :=
  .next (
    let x := s.ctx e c
    if x.run && x.pin.fed && x.pin.noBits && x.stall ≠ 1 && x.stall ≠ 6 then
      s.updCtx e c (fun x => { x with pin := { x.pin with fed := false, underruns := x.pin.underruns + 1 } })
    else s)

/-- The context CTX_SEL names (R248). -/
def State.selCtx (s : State) (e : Nat) : Nat := s.rdn e ENG.CTX_SEL_CONTEXT

/-- TX_FLUSH: a write of FIFO_CTRL.TX_FLUSH (R238). -/
def execTxFlush (p : Port) (e : Nat) (s : State) : Host.Outcome State Fault Refusal :=
  .next ((s.forEng e (fun s => s.access p (engPage e) 0x94 1 (fun s => s.flushTx e (s.selCtx e)))).drain)

/-- RX_FLUSH: a write of FIFO_CTRL.RX_FLUSH (R238). -/
def execRxFlush (p : Port) (e : Nat) (s : State) : Host.Outcome State Fault Refusal :=
  .next ((s.forEng e (fun s => s.access p (engPage e) 0x94 2 (fun s => s.flushRx e (s.selCtx e)))).drain)

/-- FLUSH_COMPLETE: a pending flush discards what is present and takes effect past an end mark; the framer then
reads or unpacks on (R238). -/
def execFlushComplete (e c : Nat) (rx : Bool) (s : State) : Host.Outcome State Fault Refusal :=
  .next (
    if rx then
      if (s.ctx e c).rx.flush then (s.updCtx e c (fun x => { x with rx := x.rx.flushStep })).framerRead e c else s
    else if (s.ctx e c).tx.flush then
      ((s.updCtx e c (fun x => { x with tx := x.tx.flushStep })).unpack e c 4).drain
    else s)

/-- A software push into the TX FIFO (R240, R291). -/
def State.swPush (s : State) (e c v : Nat) (last : Bool) : State :=
  if s.rdn e ENG.CTX_CFG_FIFO_SW c = 0 then s
  else if (s.ctx e c).tx.free = 0 then s.wrn e ENG.FIFO_CTRL_SW_OVF 1 c
  else s.updCtx e c (fun x =>
    { x with tx := x.tx.put { word := BitVec.ofNat 32 v, last := last, dest := s.ctxEndpoint e c, seq := 0 } })

/-- TXF_PUSH (R240). -/
def execTxfPush (p : Port) (e v : Nat) (s : State) : Host.Outcome State Fault Refusal :=
  .next (s.forEng e (fun s => s.access p (engPage e) 0x98 v (fun s => s.swPush e (s.selCtx e) v false)))

/-- TXF_PUSH_END (R240). -/
def execTxfPushEnd (p : Port) (e v : Nat) (s : State) : Host.Outcome State Fault Refusal :=
  .next (s.forEng e (fun s => s.access p (engPage e) 0x9C v (fun s => s.swPush e (s.selCtx e) v true)))

/-- A software pop of the RX FIFO (R240). -/
def State.swPop (s : State) (e c : Nat) : Nat × State :=
  let x := s.ctx e c
  if s.rdn e ENG.CTX_CFG_FIFO_SW c = 0 then (0, s)
  else if x.rx.words = 0 || x.rx.flush then (0, (s.wrn e ENG.RXF_POP_STAT_VALID 0 c).wrn e ENG.RXF_POP_STAT_END 0 c)
  else
    let t := x.rx.take
    (t.1.word.toNat, ((s.updCtx e c (fun x => { x with rx := t.2.release })).wrn e ENG.RXF_POP_STAT_VALID 1 c).wrn e
      ENG.RXF_POP_STAT_END (bit t.1.last) c)

/-- RXF_POP (R240). -/
def execRxfPop (p : Port) (e : Nat) (s : State) : Host.Outcome State Fault Refusal :=
  .next (s.forEng e (fun s => s.readAccess p (engPage e) 0xA0 (fun s => s.swPop e (s.selCtx e))))

/-- A write of SNAP_CTRL with GO for context `c` (R247). -/
def State.snapGo (s : State) (e c : Nat) : State :=
  let s1 := s.wrn e ENG.SNAP_CTRL_CONTEXT c
  if s1.rdn e ENG.SNAP_CTRL_DONE = 0 then s1
  else ((s1.wrn e ENG.SNAP_CTRL_DONE 0).updEng e (fun g => { g with snapOf := some (c % 32), captured := none })).start (tSnap e) (us 1)

/-- CONTEXT_SNAPSHOT (R247). -/
def execContextSnapshot (p : Port) (e c : Nat) (s : State) : Host.Outcome State Fault Refusal :=
  .next (s.forCtx e c (fun s => s.access p (engPage e) 0x5C (c + 32) (fun s => s.snapGo e c)))

/-- CONTEXT_SNAPSHOT_DONE: the capture of the visit's end, or one taken now after 1 µs, fills the window (R247). -/
def execContextSnapshotDone (e : Nat) (s : State) : Host.Outcome State Fault Refusal :=
  .next (
    let fill (ws : List Nat) : State :=
      ((((s.updEng e (fun g => { g with window := ws, snapOf := none, captured := none })).wrn e ENG.SNAP_CTRL_DONE 1).stop
        (tSnap e)).raise (engPage e) 11)
    match (s.eng e).snapOf, (s.eng e).captured with
    | some _, some ws => fill ws
    | some c, none => if s.due (tSnap e) then fill (s.ctxBlock e c) else s
    | none, _ => s)

/-- FRAMER_EMIT: the packet whose end-marked word the framer has read (R241). -/
def execFramerEmit (e c : Nat) (s : State) : Host.Outcome State Fault Refusal :=
  .next (
    let s1 := s.framerRead e c
    let x := s1.ctx e c
    if x.asmWhole then
      (((s1.updCtx e c (fun x => { x with asm := [], asmWhole := false })).emitWhole e c x.asm).framerRead e c).drain
    else s1)

/-- A frame leaves the framers' side of the switch core; its sub-address may have moved to the other cluster since. -/
def State.takeFramer (s : State) (p : Nat) (f : Frame) : State :=
  if s.inbox.contains (p, f) then s.takeInbox p f else s.takeInbox (9 - p) f

/-- FRAMER_RX: the framer of the frame's cluster takes it, once its receive store has room (R242). A sub-address that no
context has any more is refused as absent (R18). -/
def execFramerRx (f : Frame) (s : State) : Host.Outcome State Fault Refusal :=
  .next (match s.ctxOf (localOf f.dest) with
    | some (e, c) =>
      if 65536 < s.storeBytes (clusterOf e) + f.statedLen then s
      else (((s.takeFramer (4 + clusterOf e) f).framerTake e c f).touchOut (4 + clusterOf e)).drain
    | none => if 2048 ≤ localOf f.dest then (((s.takeFramer 4 f).refuse 7 f 2).touchOut 4).drain else s)

/-- FRAMER_UNPACK (R242). -/
def execFramerUnpack (e c : Nat) (s : State) : Host.Outcome State Fault Refusal := .next (s.unpack e c 4).drain

/-- READ_PEND_TIMEOUT (R244). -/
def execReadPendTimeout (e c : Nat) (s : State) : Host.Outcome State Fault Refusal :=
  .next (if s.due (tRead e c) then ((s.stop (tRead e c)).refuseRead e c).drain else s)

/-- Another context has a sub-address of the range (R19). -/
def State.subaClash (s : State) (e c base count : Nat) : Bool :=
  (List.range 16).any (fun n => (List.range 32).any (fun k =>
    decide (n ≠ e ∨ k ≠ c) && decide (s.rdn n ENG.SUBA_COUNT k ≠ 0) && decide (s.rdn n ENG.SUBA_BASE k < base + count) &&
    decide (base < s.rdn n ENG.SUBA_BASE k + s.rdn n ENG.SUBA_COUNT k)))

/-- A write of SUBA: ignored when it leaves 2,048 to 8,191, ignored with SUBA_REFUSED when it breaks R19 (R243,
R248). -/
def State.writeSuba (s : State) (e c base count : Nat) : State :=
  if base < 2048 ∨ 8192 < base + count ∨ 8191 < base then s
  else if count ≠ 0 && s.subaClash e c base count then s.raise (engPage e) 13
  else (s.wrn e ENG.SUBA_BASE base c).wrn e ENG.SUBA_COUNT count c

/-- SUBA_WRITE (R243). -/
def execSubaWrite (p : Port) (e base count : Nat) (s : State) : Host.Outcome State Fault Refusal :=
  .next (s.forEng e (fun s => s.access p (engPage e) 0xA8 (count % 128 * 65536 + base % 8192) (fun s =>
    s.writeSuba e (s.selCtx e) (base % 8192) (count % 128))))

/-- A word of program memory is written, or the write is ignored and counted (R254). -/
def State.writeProg (s : State) (e b w v : Nat) : State :=
  if (b = s.bank e && !s.flagn e ENG.PB_CTRL_LIVE_WR) || (b ≠ s.bank e && s.flagn e ENG.PB_STAT_SWAP_PEND) then
    s.satn e ENG.PB_WREJ_COUNT
  else { s with prog := Tbl.set 0 s.prog ((2 * e + b) * 2048 + w) (v % 2 ^ 32) }

/-- The BAR0 offset of a word of program memory (R25). -/
def progOff (e b w : Nat) : Nat := 0x100000 + 0x4000 * e + 0x2000 * b + 4 * w

/-- PROGRAM_MEMORY_WRITE (R254); an engine, bank or word that does not exist is no address of program memory. -/
def execProgramMemoryWrite (p : Port) (e bank word v : Nat) (s : State) : Host.Outcome State Fault Refusal :=
  if 2 ^ 24 ≤ progOff e bank word then .fault .outsideAddressSpace
  else .next (if e < 16 ∧ bank < 2 ∧ word < 2048 then
      s.accessWord p (progOff e bank word) v (fun s => s.writeProg e bank word v)
    else s)

/-- A write of PB_CTRL: LIVE_WR, then SWAP, then CANCEL (R277, R279). -/
def State.writePbCtrl (s : State) (e v : Nat) : State :=
  let s1 := s.wrn e ENG.PB_CTRL_LIVE_WR (bits v 2 1)
  let s2 := if bitOf v 0 then s1.wrn e ENG.PB_STAT_SWAP_PEND 1 else s1
  if bitOf v 1 then s2.wrn e ENG.PB_STAT_SWAP_PEND 0 else s2

/-- PB_SWAP (R277). -/
def execPbSwap (p : Port) (e : Nat) (live : Bool) (s : State) : Host.Outcome State Fault Refusal :=
  .next (s.forEng e (fun s => s.access p (engPage e) 0xC0 (put1 live 2 + 1) (fun s => s.writePbCtrl e (put1 live 2 + 1))))

/-- PB_CANCEL (R277). -/
def execPbCancel (p : Port) (e : Nat) (live : Bool) (s : State) : Host.Outcome State Fault Refusal :=
  .next (s.forEng e (fun s => s.access p (engPage e) 0xC0 (put1 live 2 + 2) (fun s => s.writePbCtrl e (put1 live 2 + 2))))

end Sys2Proof.Machine
end

