-- ==== Sys2Proof/Machine/TwinOps.lean ====
section
/-! DEFINITION. The twin pair: context records, snapshots, comparison, loading, roles, ownership, heartbeats
(R156-R184). -/

namespace Sys2Proof.Machine

/-! ### Context records (R170) -/

/-- The armed action as two words: the time in ns in bits 55-0, and in bits 63-56 one more than the action times
8 plus the pin (log 20); 0 when none is armed. -/
def actionWords (a : Option (Int × Nat × Nat × Bool)) : List Nat :=
  match a with
  | none => [0, 0]
  | some (t, act, pin, late) =>
    let n := (t / 2 ^ 48).toNat % 2 ^ 56
    [n % 2 ^ 32, n / 2 ^ 32 + (1 + 8 * act + pin % 8 + bit late * 128) % 256 * 2 ^ 24]

/-- The end marks of a FIFO, bit i for entry i. -/
def Fifo.marks (q : Fifo) : Nat := (List.range 16).foldl (fun v i => if (q.ent i).last then setBit v i else v) 0

/-- The sixteen words of a FIFO. -/
def Fifo.image (q : Fifo) : List Nat := (List.range 16).map (fun i => (q.ent i).word.toNat)

/-- Word 0 of a context record. -/
def State.recFlags (s : State) (e c : Nat) : Nat :=
  let x := s.ctx e c
  x.pc + x.stall * 2 ^ 11 + put1 x.run 14 + put1 x.ready 15 + put1 x.deferred 16 + put1 x.eoc 17 +
    s.ctxClass e c * 2 ^ 18 + put1 x.z 20 + put1 x.c 21 + put1 x.k 22 + put1 x.eop 23 + put1 x.miss 24 + put1 x.pev 25 +
    put1 x.tx.flush 26 + put1 x.rx.flush 27 + put1 x.late 28 + put1 x.overrun 29

/-- Word 7 of a context record: the saved pc and the check unit. -/
def Ctx.recCheck (x : Ctx) : Nat :=
  x.savedPc + put1 x.savedValid 11 + x.chk.rxseq * 2 ^ 12 + put1 x.chk.dirIn 28 + put1 x.chk.paused 29 +
    put1 x.chk.append 30 + put1 x.chk.seeded 31

/-- The 48 words of the record of a context (R170). -/
def State.ctxRecord (s : State) (e c : Nat) : List Nat :=
  let x := s.ctx e c
  [s.recFlags e c, x.x.toNat, x.y.toNat, x.osr.toNat, x.isr.toNat,
   x.osrCnt + x.isrCnt * 2 ^ 8 + s.rdn e ENG.CTX_CFG_PIN_BASE c * 2 ^ 16 + s.pinCount e c * 2 ^ 24,
   x.deadline, x.recCheck] ++ actionWords x.action ++
  [x.chk.run, x.tx.w + x.tx.r * 2 ^ 5 + x.tx.m * 2 ^ 10 + x.tx.f * 2 ^ 15 + x.rx.w * 2 ^ 20 + x.rx.r * 2 ^ 25,
   x.pin.levels % 2 ^ 8 + x.pin.dirs % 2 ^ 8 * 2 ^ 8, x.pevNs % 2 ^ 32, x.pevNs / 2 ^ 32 % 2 ^ 32,
   x.tx.marks + x.rx.marks * 2 ^ 16] ++ x.tx.image ++ x.rx.image

/-- Word `i` of a record. -/
def recWord (ws : List Nat) (i : Nat) : Nat := ws.getD i 0

/-- The armed action from its two words. -/
def actionOf (lo hi : Nat) : Option (Int × Nat × Nat × Bool) :=
  let a := hi / 2 ^ 24 % 256
  if a = 0 then none
  else some (((lo + hi % 2 ^ 24 * 2 ^ 32 : Nat) : Int) * 2 ^ 48, (a - 1) % 128 / 8, (a - 1) % 8, decide (128 < a))

/-- A FIFO from its positions, marks and words; entries keep the endpoint and number they are tagged with here. -/
def Fifo.load (q : Fifo) (w r m f : Nat) (flush : Bool) (marks : Nat) (ws : List Nat) : Fifo :=
  { q with
    ents := (List.range 16).map (fun i =>
      (i, { (q.ent i) with word := BitVec.ofNat 32 (ws.getD i 0), last := bitOf marks i }))
    w := w, r := r, m := m, f := f, flush := flush, edge := (r + 31) % 32 = f || bitOf marks ((r + 31) % 16) }

/-- A context takes the state of a record (R170, R174). `pc` replaces the program counter where a resume entry
does (R184); a stalled instruction is latched from `word`, with `left` bits of an IN or OUT still to move. -/
def Ctx.load (x : Ctx) (ws : List Nat) (pc word left : Nat) : Ctx :=
  let f := recWord ws 0
  let k := recWord ws 7
  let q := recWord ws 11
  let stall := bits f 11 3
  { x with
    pc := pc, stall := stall, run := bitOf f 14, deferred := bitOf f 16, eoc := bitOf f 17
    z := bitOf f 20, c := bitOf f 21, k := bitOf f 22, eop := bitOf f 23, miss := bitOf f 24, pev := bitOf f 25
    late := bitOf f 28, overrun := bitOf f 29, judged := bitOf f 29, osrEnd := bitOf f 23
    x := BitVec.ofNat 32 (recWord ws 1), y := BitVec.ofNat 32 (recWord ws 2)
    osr := BitVec.ofNat 32 (recWord ws 3), isr := BitVec.ofNat 32 (recWord ws 4)
    osrCnt := bits (recWord ws 5) 0 8, isrCnt := bits (recWord ws 5) 8 8
    deadline := recWord ws 6, savedPc := bits k 0 11, savedValid := bitOf k 11
    action := actionOf (recWord ws 8) (recWord ws 9)
    chk := { x.chk with run := recWord ws 10, rxseq := bits k 12 16, dirIn := bitOf k 28, paused := bitOf k 29,
                        append := bitOf k 30, seeded := bitOf k 31 }
    tx := x.tx.load (bits q 0 5) (bits q 5 5) (bits q 10 5) (bits q 15 5) (bitOf f 26) (bits (recWord ws 15) 0 16)
      ((ws.drop 16).take 16)
    rx := x.rx.load (bits q 20 5) (bits q 25 5) (bits q 25 5) (bits q 25 5) (bitOf f 27) (bits (recWord ws 15) 16 16)
      ((ws.drop 32).take 16)
    pin := { x.pin with base := bits (recWord ws 5) 16 8, cnt := bits (recWord ws 5) 24 4,
                        levels := bits (recWord ws 12) 0 8, dirs := bits (recWord ws 12) 8 8 }
    pevNs := recWord ws 13 + recWord ws 14 * 2 ^ 32
    stopReq := false, inj := none
    latch := if stall = 0 then none else some { word := word, left := left } }

/-! ### Snapshots (R169) -/

/-- The engines a snapshot includes. -/
def State.engines (s : State) : List Nat := (List.range 16).filter s.included

/-- The configuration registers of an engine and its check unit (R169). -/
def State.configValues (s : State) (e : Nat) : List Nat :=
  let per (fs : List Fld) (n : Nat) : List Nat := fs.flatMap (fun f => (List.range n).map (fun c => s.rdn e f c))
  per [ENG.ENG_CFG_URGENT, ENG.BC_LEN_NS, ENG.BC_PHASE_NS] 1 ++
  per [ENG.CTX_CFG_FIFO_SW, ENG.CTX_CFG_HDR, ENG.CTX_CFG_PIN_BASE, ENG.CTX_CFG_PIN_COUNT, ENG.CTX_CFG_CLASS,
    ENG.CTX_DEADLINE_D, ENG.CTX_BITPER_PERIOD, ENG.CTX_DEST_TC, ENG.CTX_DEST_DEST, ENG.SUBA_COUNT, ENG.SUBA_BASE] 32 ++
  per [CHK.POLY, CHK.INIT, CHK.XOR_XOROUT, CHK.RES_RESIDUE, CHK.PCFG_SEED_SRC, CHK.PCFG_WIDTH] 4 ++
  per [CHK.CTX_PROF0_PROF, CHK.CTX_PROF1_PROF] 16

/-- The configuration digest of an engine. -/
def State.engDigest (s : State) (e : Nat) : Nat := Config.digest (s.configValues e)

/-- The program generation of the bank in use. -/
def State.generation (s : State) (e : Nat) : Nat := s.rdn e ENG.PB_GEN_GEN (s.bank e)

/-- The size of a snapshot of `n` engines in bytes. -/
def snapBytes (n : Nat) : Nat := 128 + 6208 * n

/-- The snapshot of the boundary at `b` ns with number `num`: one instant for all included engines. -/
def State.capturePour (s : State) (b num : Nat) : List SnapRec :=
  let es := s.engines
  [.header num b (s.rd TWIN.POUR_CFG_ENG_MASK) ((snapBytes es.length + 4095) / 4096) (snapBytes es.length) (es.map s.generation),
   .node ((List.range 7).map (fun c => s.rd TRANSIT.SEQ_NEXT_NEXT c))] ++
  es.flatMap (fun e =>
    .engine e (s.rdn e ENG.ENG_STAT_LAST_CTX) (s.flagsNow e) (s.bank e) (s.engDigest e) ::
    (List.range 32).map (fun c => .context (32 * e + c) (s.ctxRecord e c)))

/-- Zero bytes up to `n`. -/
def padTo (n : Nat) (l : List Nat) : List Nat := l ++ List.replicate (n - l.length) 0

/-- The bytes of a record (R169). -/
def snapSize : SnapRec → Nat
  | .context _ _ => 192
  | _ => 64

/-- The bytes of a record as they are sent, the rest of 64 zero (R169, R170); the places inside a 64-byte record are the
model's (log 21). -/
def snapRecBytes : SnapRec → List Nat
  | .header num b mask frags bytes gens =>
    padTo 64 (beBytes 8 num ++ beBytes 8 b ++ beBytes 2 mask ++ beBytes 2 frags ++ beBytes 4 bytes ++ gens.flatMap (beBytes 2))
  | .node seqs => padTo 64 (seqs.flatMap (beBytes 2))
  | .engine _ pos flags bank digest => padTo 64 ([pos % 256, flags % 256, bank % 256, 0] ++ beBytes 4 digest)
  | .context _ ws => ws.flatMap (beBytes 4)

/-- The twin-link frame of fragment `j`: an 8-byte header of kind, cycle number, index and length, up to 4,096 bytes of the
snapshot, their CRC-32C (R171). -/
def pourFrame (num j : Nat) (rs : List SnapRec) : List Nat :=
  let data := ((rs.flatMap snapRecBytes).drop (4096 * j)).take 4096
  beBytes 2 1 ++ beBytes 2 num ++ beBytes 2 j ++ beBytes 2 data.length ++ data ++ beBytes 4 (crc32c data)

/-- The records that end in fragment `j`; `at_` is the offset of the first record (log 21). -/
def inFragment (j : Nat) : Nat → List SnapRec → List SnapRec
  | _, [] => []
  | at_, r :: t =>
    let n := at_ + snapSize r
    if (n - 1) / 4096 = j then r :: inFragment j n t else inFragment j n t

/-- The cycle number, boundary time and fragment count in a snapshot's header. -/
def snapHead (rs : List SnapRec) : Option (Nat × Nat × Nat) :=
  rs.findSome? (fun r => match r with | .header num b _ n _ _ => some (num, b, n) | _ => none)

/-- The program generation a snapshot carries for an engine. -/
def snapGen (rs : List SnapRec) (e : Nat) : Option Nat :=
  rs.findSome? (fun r => match r with
    | .header _ _ mask _ _ gens =>
      if bitOf mask e then gens[((List.range e).filter (bitOf mask)).length]? else none
    | _ => none)

/-- The next SEQ of TC0 to TC6 in a snapshot. -/
def snapSeqs (rs : List SnapRec) : List Nat :=
  (rs.findSome? (fun r => match r with | .node l => some l | _ => none)).getD []

/-- The configuration digest a snapshot carries for an engine. -/
def snapDigest (rs : List SnapRec) (e : Nat) : Option Nat :=
  rs.findSome? (fun r => match r with | .engine n _ _ _ d => if n = e then some d else none | _ => none)

/-- The record of a context in a snapshot. -/
def snapCtx (rs : List SnapRec) (k : Nat) : Option (List Nat) :=
  rs.findSome? (fun r => match r with | .context n ws => if n = k then some ws else none | _ => none)

/-! ### Step and loading (R173, R174, R178, R184) -/

/-- The snapshot and the own capture agree on an engine's configuration and program generation (R174). -/
def sameEngine (a b : List SnapRec) (e : Nat) : Bool := snapDigest a e = snapDigest b e && snapGen a e = snapGen b e

/-- A context is put in or out of step; one that leaves step counts DIVERGE_CNT and raises DIVERGED (R174). -/
def State.setStep (s : State) (e c : Nat) (b : Bool) : State :=
  let m := Tbl.get 0 s.twin.step e
  let t := { s with twin := { s.twin with step := Tbl.put s.twin.step e (if b then setBit m c else clrBit m c) } }
  if bitOf m c && !b then (t.sat TWIN.DIVERGE_CNT_COUNT).raise 0x0D 4 else t

/-- A context is loaded from a record. The instruction a stalled record names is latched from the word at its
program counter; the bits of an IN or OUT still to move are not in the record: a free value (log 22). -/
def State.loadCtx (s : State) (e c : Nat) (ws : List Nat) (resume : Option Nat) : State :=
  let pc0 := bits (recWord ws 0) 0 11
  let pc := resume.getD pc0
  let word := s.progWord e (s.bank e) pc0
  let d := s.draw
  let left := match Yemal.decode (s.pinCount e c) word with
    | some (.inBits n _ _ _ _) => d.1 % (n + 1)
    | some (.outBits n _ _ _ _ _ _ _) => d.1 % (n + 1)
    | _ => 0
  let s1 := if bits (recWord ws 0) 11 3 = 0 then s else d.2
  s1.updCtx e c (fun x => x.load ws pc word left)

/-- The verdict of a complete snapshot on one context: equal records put it in step, others take it out and, where
configuration and generation agree, load it (R174). -/
def State.compareCtx (s : State) (snap own : List SnapRec) (e c : Nat) : State :=
  let k := 32 * e + c
  if !sameEngine snap own e then s.setStep e c false
  else if snapCtx snap k = snapCtx own k then s.setStep e c true
  else
    let s1 := s.setStep e c false
    match snapCtx snap k with
    | some ws => s1.loadCtx e c ws none
    | none => s1

/-- How far the active twin's SEQ of a class is ahead of the own one at the snapshot's boundary (step 2 of R173). -/
def seqGap (snap own : List SnapRec) (c : Nat) : Nat := ((snapSeqs snap).getD c 0 + 65536 - (snapSeqs own).getD c 0) % 65536

/-- The SEQ counters follow the active twin's, and with them the numbers noted for muted frames of the snapshot's cycle
`num` and later ones; older numbers lie before the recovery point (step 2 of R173, R178). -/
def State.followSeqs (s : State) (snap own : List SnapRec) (num : Nat) : State :=
  let s1 := (List.range 7).foldl (fun t c =>
    t.wr TRANSIT.SEQ_NEXT_NEXT ((t.rd TRANSIT.SEQ_NEXT_NEXT c + seqGap snap own c) % 65536) c) s
  { s1 with twin := { s1.twin with numbers :=
    ((s1.twin.numbers.filter (fun (n : SeqNote) => decide (num ≤ n.cycle))).map
      (fun (n : SeqNote) => { n with seq := (n.seq + seqGap snap own n.cls) % 65536 })) } }

/-- POUR_TIME takes a pour-over time (R187). -/
def State.pourTime (s : State) (b : Nat) : State :=
  let t := min 65535 (s.fabNs - b)
  (s.wr TWIN.POUR_TIME_LAST t).wr TWIN.POUR_TIME_MAX (max t (s.rd TWIN.POUR_TIME_MAX))

/-- A complete snapshot becomes the recovery point and is compared (R173). -/
def State.completeSnap (s : State) (snap : List SnapRec) (num b : Nat) : State :=
  let own := s.twin.own
  let s1 := { s with twin := { s.twin with store := none, recPoint := snap } }
  let s2 := ((s1.wr TWIN.STAT_REC_VALID 1).wr TWIN.REC_CYCLE_CYCLE num).followSeqs snap own num
  let s3 := s2.engines.foldl (fun t e => (List.range 32).foldl (fun t c => t.compareCtx snap own e c) t) s2
  (s3.inc TWIN.SNAP_OK_COUNT).pourTime b

/-- Every included context is in step (R187). -/
def State.stepAll (s : State) : Bool := s.engines.all (fun e => Tbl.get 0 s.twin.step e = 2 ^ 32 - 1)

/-! ### Ownership and roles (R164-R168, R178-R182) -/

/-- OWN_SETTLE in ns. -/
def State.settleNs (s : State) : Nat := 10 * s.rd TWIN.ROLE_CFG_OWN_SETTLE

/-- OWN_IN has been deasserted for OWN_SETTLE (R167). -/
def State.settled (s : State) : Bool := !s.flag TWIN.STAT_OWN_IN && decide (s.twin.ownInLow + ns s.settleNs ≤ s.mono)

/-- The named boundary for a release: the next one if a heartbeat reaches the peer OWN_SETTLE + 1 µs before it,
otherwise the one after (R180, R182). When it reaches the peer is a free value (log 23). -/
def State.nameRelease (s : State) (kind : Nat) : State :=
  let d := s.draw
  let b := s.base.next s.fabNs
  let at_ := if s.fabNs + d.1 + s.settleNs + 1000 < b then b else s.base.next b
  let num := (s.base.prev at_).2
  ({ d.2 with twin := { d.2.twin with release := some (num, at_, kind) } }).wr TWIN.STAT_HANDOVER_PEND 1

/-- A planned handover is accepted or refused; `all` says whether every context that must be in step is (R182,
R507). -/
def State.handover (s : State) (all : Bool) : State :=
  if !s.isTwin then s
  else if s.twinRole = 1 && s.rd TWIN.STAT_PEER_ROLE = 2 && s.twin.peerRec && all && s.twin.release = none && !s.twin.lost then
    (s.nameRelease 0).wr TWIN.CTRL_HANDOVER 1
  else s.raise 0x0D 6

/-- The role a RUN request takes once the load is complete, by the first rule of R165 that matches; rule 4 waits. -/
def State.selectRole (s : State) : State :=
  if !s.twin.req || s.twin.nextRole ≠ 0 then s
  else
    let peer := s.rd TWIN.STAT_PEER_ROLE
    let take (r : Nat) : State := ({ s with twin := { s.twin with nextRole := r } }).stop tAlone
    let rank (v : Nat) : Nat := if v = 1 then 0 else if v = 0 then 1 else 2
    let mine := rank (s.rd TWIN.ROLE_CFG_PREFER)
    let theirs := rank s.twin.peerPref
    if s.flag TWIN.STAT_PEER_SEEN then
      (if peer = 1 ∨ peer = 3 then take 2
       else if peer = 0 ∧ s.twin.peerRun then
         (if mine < theirs ∨ (mine = theirs ∧ s.otp.index = 0) then take 1 else take 2)
       else if peer = 0 then take 1
       else s)
    else if s.running tAlone then s
    else s.start tAlone (s.rd TWIN.ROLE_CFG_ALONE_WAIT * ms 100 + (if s.otp.index = 1 then ms 10 else 0))

/-- The numbers that the frames repeated after a takeover at boundary `num` keep: those that muted frames took since the
recovery point's boundary, each due in the cycle that repeats its own (R178, log 19). -/
def State.repeatSeqs (s : State) (num : Nat) : State :=
  let r := s.rd TWIN.REC_CYCLE_CYCLE
  { s with twin := { s.twin with
    numbers := [], repeats := s.twin.numbers.map (fun (n : SeqNote) => { n with cycle := num + (n.cycle - r) }) } }

/-- Step 1 of R178: an included context that is not in step is loaded from the recovery point, at the resume
entry of the bank in use where the program generations differ (R184). -/
def State.resumeFromPoint (s : State) : State :=
  let rp := s.twin.recPoint
  s.engines.foldl (fun t e => (List.range 32).foldl (fun t c =>
    if t.inStep e c then t
    else match snapCtx rp (32 * e + c) with
      | none => t
      | some ws =>
        let w := t.progWord e (t.bank e) (0x7E0 + c)
        let resume := if snapGen rp e ≠ some (t.generation e) && bitOf w 31 then some (w % 2048) else none
        t.loadCtx e c ws resume) t) s

/-- The heartbeat this twin sends now. -/
def State.heartbeat (s : State) : Heartbeat :=
  { role := s.twinRole, index := s.otp.index, prefer := s.rd TWIN.ROLE_CFG_PREFER, run := s.twin.req
    recValid := s.flag TWIN.STAT_REC_VALID, stepAll := s.stepAll
    safe := s.mode = 5 || s.flt.fatals ≠ []
    release := s.twin.release.bind (fun r => if r.2.2 = 2 then none else some (r.1, r.2.2 = 0))
    wishE := s.ownWish .east, wishW := s.ownWish .west }

end Sys2Proof.Machine
end

