-- ==== Sys2Proof/Machine/ModeOps.lean ====
section
/-! DEFINITION. Changes of mode, entry to SAFE, and what a base-cycle boundary does to mode and role (R164-R184,
R445-R449, R484). -/

namespace Sys2Proof.Machine

/-- The mode changes, which raises MODE_CHANGE; ALIVE stops when the mode leaves RUN (R446, R485). -/
def State.setMode (s : State) (m : Nat) : State :=
  let s1 := ((s.wr DEVICE.MODE_STAT_PREV s.mode).wr DEVICE.MODE_STAT_MODE m).raise 0 0
  if s.mode = 3 then { s1 with flt := { s1.flt with aliveRun := false, aliveLevel := false, aliveOk := s.mono } }
  else { s1 with flt := { s1.flt with aliveOk := s.mono } }

/-- The twin's role (R164). -/
def State.setRole (s : State) (r : Nat) : State := if s.isTwin then s.wr TWIN.STAT_ROLE r else s

/-- Entry to SAFE (R484): contexts stop as ABORTED, held outputs take their safe values where the hub holds
ownership, an active twin with a standby peer announces its release (R180). A standby loses its role (log 24). -/
def State.enterSafe (s : State) : State :=
  if s.mode < 2 then s
  else if s.mode = 5 then s.loseReq 4
  else
    let s1 := (((s.loseReq 4).setMode 5).abortAll).stop tDomOff
    let sr := if bitOf (s1.rdn 0x0E HDR.FLT_STAT_CHECKERS) 0 then s1.ringDark else s1
    let s2 := ((sr.domainOn 4).domainOn 5).keyDark
    let s3 := if !s2.isTwin || s2.flag TWIN.STAT_OWN_OUT then s2.safePins else s2
    if s3.isTwin && s3.twinRole = 1 && s3.rd TWIN.STAT_PEER_ROLE = 2 && s3.twin.peerRec then s3.nameRelease 1
    else if s3.twinRole = 2 then s3.setRole 0
    else s3

/-- Both twins claim ownership: SAFE, the drivers released, no role (R168). -/
def State.ownConflict (s : State) : State := ((s.enterSafe).setOwnOut false).setRole 0

/-! ### Boundaries -/

/-- A twin without a recovery point (R165, R182). -/
def State.dropPoint (s : State) : State :=
  ({ s with twin := { s.twin with recPoint := [], step := [], store := none, blocked := false,
                                     numbers := [], repeats := [] } }).wr TWIN.STAT_REC_VALID 0

/-- The hub becomes a standby. -/
def State.enterStandby (s : State) : State := (s.dropPoint.setRole 2).setMode 4

/-- A takeover at the boundary with number `num`, or BLOCKED (R178, R179); an uncleared interlock inconsistency
forbids it (R181, R476). -/
def State.takeover (s : State) (num : Nat) : State :=
  if !s.isTwin || s.twinRole ≠ 2 || s.mode ≠ 4 then s
  else
    let ann := match s.twin.announced with
      | some (n, _) => decide (n ≤ num)
      | none => false
    let planned := match s.twin.announced with
      | some (_, b) => b
      | none => false
    if !s.twin.lost && !ann then s
    else if s.settled && s.flag TWIN.STAT_REC_VALID && !bitOf (s.rdn 0x0D HDR.FLT_STAT_CHECKERS) 1 then
      let s1 := ((s.repeatSeqs num).resumeFromPoint.setOwnOut true).setRole (if s.twin.lost then 3 else 1)
      let s2 := { s1 with twin := { s1.twin with announced := none, blocked := false } }
      (((s2.wr TWIN.STAT_LAST_CAUSE (if s.twin.lost then s.twin.cause else if planned then 4 else 5)).sat
        TWIN.TAKEOVERS_COUNT).raise 0x0D 0).setMode 3
    else
      let s1 := if ann then { s with twin := { s.twin with announced := none } } else s
      if s.twin.lost && !s.twin.blocked then { s1 with twin := { s1.twin with blocked := true } }.raise 0x0D 3 else s1

/-- The boundary a release was named for has come (R180, R182). -/
def State.releaseBoundary (s : State) (num : Nat) : State :=
  match s.twin.release with
  | none => s
  | some (n, _, kind) =>
    if num < n then s
    else
      let s1 := ((({ s with twin := { s.twin with release := none } }).wr TWIN.STAT_HANDOVER_PEND 0).wr
        TWIN.CTRL_HANDOVER 0)
      if s.flag TWIN.STAT_OWN_OUT then s1
      else if kind = 0 && s.mode = 3 then s1.enterStandby
      else if kind = 1 then s1.setRole 0
      else s1

/-- RUN, STANDBY or SAFE is left for LISTEN (R446), in which PD7 is on (R23). -/
def State.listenNow (s : State) : State :=
  let s1 := s.overContexts (fun t e c => t.stopCtx e c)
  let s2 := ((((s1.setOwnOut false).setRole 0).endReq).setMode 2).start tDomOff (us 1)
  { s2 with pd := insertNat s2.pd 7 }

/-- RUN or STANDBY is entered once the load is complete (R446, R449, R165, R167). -/
def State.runNow (s : State) : State :=
  if !s.isTwin then s.endReq.setMode 3
  else
    let s1 := s.selectRole
    match s1.twin.nextRole with
    | 0 => s1
    | 2 => s1.endReq.enterStandby
    | r => if s1.settled then ((s1.endReq.setOwnOut true).setRole r).setMode 3 else s1

/-- What a boundary does to the mode. -/
def State.modeBoundary (s : State) : State :=
  match s.modeU.want with
  | some 2 => if s.mode = 5 && (s.flt.fatals ≠ [] || s.flt.self) then s.loseReq 4 else s.listenNow
  | some 3 => if s.modeU.loaded then s.runNow else s
  | _ => s

/-- Step 1 of R227: the pour-over snapshot; an unfinished one is abandoned, an incomplete one at the standby
discarded (R169, R172, R173). -/
def State.pourBoundary (s : State) (b num : Nat) : State :=
  if !s.isTwin then s
  else
    let s1 := if s.twin.out = [] then s
      else ({ s with twin := { s.twin with out := [], outNext := 0 } }).sat TWIN.SNAP_LATE_COUNT
    let s2 := s1.dropPartial
    if s.twinRole = 1 && s.linkState .twin = 8 then
      { s2 with twin := { s2.twin with out := s2.capturePour b num, outNext := 0 } }
    else if s.twinRole = 2 then { s2 with twin := { s2.twin with own := s2.capturePour b num } }
    else s2

/-- The boundary of a group swap has come: its completion point (R506). -/
def State.swapDone (s : State) (num : Nat) : State :=
  if s.upd.swap.isSome && !s.swapHeld num then
    let s1 := { s with upd := { s.upd with swap := none } }
    (((s1.wr UPDATE.STAT_STATUS 2).wr UPDATE.STAT_STATE (if s.flash.ready then 3 else 0)).wr UPDATE.CTRL_SWAP_GO 0).raise 0x59 6
  else s

/-- A base-cycle boundary (R227), with the changes of mode and role that take effect at it (log 25). -/
def State.atBoundary (s : State) : State :=
  let b := s.boundary.1
  let num := s.boundary.2
  let s1 := { s with base := { s.base with done := some b } }
  let s2 := ((s1.pourBoundary b num).takeover num).releaseBoundary num
  ((s2.modeBoundary).boundarySteps b num).swapDone num

end Sys2Proof.Machine
end

