-- ==== Sys2Proof/Machine/Faults.lean ====
section
/-! DEFINITION. The fault collector: recording, escalation, clearing, ALIVE and FLT_N (R474-R488). -/

namespace Sys2Proof.Machine

/-- The 10 µs minimum of FLT_N (R486). -/
def tFltLow : Nat := 200

def State.updFlt (s : State) (f : FaultUnit → FaultUnit) : State := { s with flt := f s.flt }

/-- A working C0 context holds a pin of bank `b` (R476). -/
def State.bankC0 (s : State) (b : Nat) : Bool :=
  (List.range 16).any (fun e => s.holdsC0 e && (List.range 32).any (fun c =>
    (s.ctx e c).run && s.ctxClass e c = 0 && (s.ctx e c).pin.held &&
      decide ((s.ctx e c).pin.base < 32 * (b + 1)) && decide (32 * b < (s.ctx e c).pin.base + (s.ctx e c).pin.cnt)))

/-- TX_REQ or RX_REQ holds TC0 (R476). -/
def State.gcmProt (s : State) : Bool := bitOf (s.rd GCM.CFG_TX_REQ) 0 || bitOf (s.rd GCM.CFG_RX_REQ) 0

/-- The fault affects the protection path (R476). -/
def State.isProt (s : State) (pg ck : Nat) : Bool :=
  if 0x20 ≤ pg ∧ pg < 0x30 then ck = 4 || (s.eng (pg - 0x20)).lostC0
  else if 0x30 ≤ pg ∧ pg < 0x40 then (s.eng (pg - 0x30)).lostC0
  else if 0x50 ≤ pg ∧ pg < 0x58 then s.bankC0 (pg - 0x50)
  else match pg with
  | 0x0E => true
  | 0x09 => true
  | 0x0B => true
  | 0x0D => ck = 0
  | 0x11 => ck = 16 || ck = 17
  | 0x12 => decide (ck ≤ 1)
  | 0x04 => ck = 0
  | 0x18 => s.gcmProt
  | 0x19 => (ck = 1 || ck = 3) && s.gcmProt
  | 0x4C => ck = 12
  | 0x01 => ck = 2
  | 0x5A => true
  | _ => false

/-- The class of a detected fault: an error corrected at once is a corrected fault (R474). -/
def Det.cls (d : Det) : Nat := if d.corr then 0 else (checkerClass d.page d.checker).getD 0

/-- A cluster is removed: all its engines fenced, or a fenced one held a working C0 context (R479 row 2). -/
def State.clusterRemoved (s : State) (cl : Nat) : Bool :=
  let fenced (n : Nat) : Bool := s.pageUnit.colFence.contains (0x20 + n)
  (List.range 8).all (fun i => fenced (8 * cl + i)) ||
  (List.range 8).any (fun i => fenced (8 * cl + i) && (s.eng (8 * cl + i)).lostC0)

/-- The lowest row of the escalation table that holds for the contained faults of a batch together with those still
uncleared, `conts` (R478, R479); 0 none. -/
def State.escRow (s : State) (batch : List Det) (conts : List (Nat × Nat)) : Nat :=
  let on (pg ck : Nat) : Bool := conts.contains (pg, ck)
  let new := batch.filter (fun d => d.cls = 1)
  if new = [] then 0
  else if (on 0x09 0 || on 0x12 0) && (on 0x0B 0 || on 0x12 1) then 1
  else if s.clusterRemoved 0 && s.clusterRemoved 1 then 2
  else if s.isTwin && (s.linkState .twin ≠ 8 || !s.flag TWIN.STAT_PEER_SEEN) && new.any (fun d => s.isProt d.page d.checker)
    then 3
  else if decide (s.rd FAULT.ESC_CFG_BANK_LIMIT < s.fencedBanks) then 4
  else if new.any (fun d => d.page = 0x4C && decide (d.checker ≤ 1) && !(s.brkCh d.checker).fenced) then 5
  else if s.rd FAULT.ESC_CFG_CONT_LIMIT ≠ 0 && decide (s.rd FAULT.ESC_CFG_CONT_LIMIT < conts.length) then 6
  else 0

/-- Adds to a list of uncleared faults. -/
def addFault (l : List (Nat × Nat)) (d : Det) : List (Nat × Nat) :=
  if l.contains (d.page, d.checker) then l else l ++ [(d.page, d.checker)]

/-- FLT_N is driven low, its 10 µs counting from now and an earlier release forgotten (R486). -/
def State.fltDrive (s : State) : State :=
  (s.updFlt (fun f => { f with fltLow := true, lowAt := s.mono, relPend := false })).start tFltLow (us 10)

/-- ALIVE stops, held low (R485). -/
def State.aliveStop (s : State) : State := s.updFlt (fun f => { f with aliveRun := false, aliveLevel := false })

/-- A record enters the FIFO and takes the next number (R477, R487). -/
def State.addRecord (s : State) (d : Det) (cls : Nat) (prot : Bool) (row : Nat) : State :=
  s.updFlt (fun f => { f with
    recs := f.recs ++ [{ cls := cls, inj := d.inj, prot := prot, esc := row ≠ 0, row := row, page := d.page,
                         checker := d.checker, seq := f.seq, detail := d.detail, fab := s.fab }],
    seq := (f.seq + 1) % 256 })

/-- A corrected fault is counted, raised, and recorded if there is room for it (R477). -/
def State.recordCorrected (s : State) (d : Det) : State :=
  let s1 := (s.inc FAULT.CORR_CNT_COUNT).raise 3 0
  if 24 ≤ (s1.flt.recs.filter (fun r => r.cls = 0)).length ∨ 32 ≤ s1.flt.recs.length then s1.sat FAULT.CORR_LOST_COUNT
  else s1.addRecord d 0 false 0

/-- A contained or fatal fault is recorded, with the row it escalates by; a full FIFO makes it react as fatal (R477,
R479, R485, R486). -/
def State.recordFault (s : State) (d : Det) (row : Nat) : State :=
  let prot := s.isProt d.page d.checker
  let full := decide (32 ≤ s.flt.recs.length)
  let r := if d.cls = 1 then row else 0
  let fatal := d.cls = 2 || r ≠ 0 || full
  let s1 := if full then s.wr FAULT.COL_STAT_OVF 1 else s.addRecord d d.cls prot r
  let s2 := s1.updFlt (fun f => { f with
    conts := if d.cls = 1 then addFault f.conts d else f.conts,
    fatals := if fatal then addFault f.fatals d else f.fatals,
    prots := if prot then addFault f.prots d else f.prots })
  let s3 := (s2.raise 3 (if fatal then 2 else 1)).fltDrive
  if fatal || prot then s3.aliveStop else s3

/-- Puts a fault in its place by page, then checker. -/
def insertDet (d : Det) : List Det → List Det
  | [] => [d]
  | e :: t => if d.page * 32 + d.checker ≤ e.page * 32 + e.checker then d :: e :: t else e :: insertDet d t

/-- The faults whose checkers reported in the crystal clock period of the oldest one, by page, then checker (R478). -/
def State.batch (s : State) : List Det :=
  match s.flt.det with
  | [] => []
  | d :: _ =>
    let per (x : Det) : Nat := x.mono / ns 40
    (s.flt.det.filter (fun x => per x = per d)).foldr insertDet []

/-- The collector takes the faults of one period: records them in order, escalation judged once, and acts (R475,
R478, R479, R484). -/
def State.collect (s : State) : State :=
  let b := s.batch
  let s1 := s.updFlt (fun f => { f with det := f.det.filter (fun d => !b.contains d) })
  let conts := (b.filter (fun d => d.cls = 1)).foldl addFault s1.flt.conts
  let row := s1.escRow b conts
  let s2 := b.foldl (fun t d => if d.cls = 0 then t.recordCorrected d else t.recordFault d row) s1
  if b.any (fun d => d.cls = 2 || (d.cls = 1 && s2.flt.fatals.contains (d.page, d.checker))) then s2.enterSafe else s2

/-- A fault of the collector itself (R482). -/
def State.selfFault (s : State) (ck : Nat) : State :=
  let s1 := s.wrn 3 HDR.FLT_STAT_CHECKERS (setBit (s.rdn 3 HDR.FLT_STAT_CHECKERS) ck)
  let s2 := s1.updFlt (fun f => { f with self := true, fltLow := true, relPend := false })
  (s2.aliveStop.wr FAULT.COL_STAT_SELF 1).enterSafe

/-- What the block of a checker does by itself when it finds its condition, real or injected (R34): the transit checks
capture the failure and go silent (R117), the ownership conflict releases the drivers and enters SAFE (R168). -/
def State.checkerActs (s : State) (pg ck detail : Nat) : State :=
  if pg = 0x0E && ck = 0 then s.transitFail (detail % 2) (detail / 2 % 4)
  else if pg = 0x0D && ck = 0 && s.isTwin then s.ownConflict
  else s

/-- FAULT_DETECTED: checker `ck` of page `pg` finds its condition, with the DETAIL of a record; `corr` an error that it
has corrected (R474-R476, R483). -/
def execFaultDetected (pg ck detail : Nat) (corr : Bool) (s : State) : Host.Outcome State Fault Refusal :=
  .next (if pg = 3 then (if ck ≤ 2 then s.selfFault ck else s)
    else
      let inj := bitOf (s.rdn pg HDR.FLT_INJ_INJECT) ck
      let s1 := s.checkerActs pg ck detail
      (s1.detect { page := pg, checker := ck, detail := if pg = 0x0E then 0 else detail % 2 ^ 32, corr := corr && !inj, inj := inj,
                   mono := s.mono }).drain)

/-- FAULT_RECORDED: the collector takes the faults of the oldest crystal clock period (R475, R478). -/
def execFaultRecorded (s : State) : Host.Outcome State Fault Refusal := .next s.collect.drain

/-- SELF_FAULT: checker `ck` of the FAULT page (R482). -/
def execSelfFault (ck : Nat) (s : State) : Host.Outcome State Fault Refusal :=
  .next (if ck ≤ 2 then s.selfFault ck else s)

/-! ### Clearing -/

/-- The checker reports an event rather than a lasting condition (R480). -/
def eventChecker (pg ck : Nat) : Bool :=
  (pg = 0x0E && ck = 0) || (pg = 0x0D && decide (ck ≤ 1)) ||
  (decide (0x20 ≤ pg) && decide (pg < 0x30) && (ck = 4 || ck = 0)) || (pg = 0x19 && ck = 3) ||
  ((pg = 0x09 || pg = 0x0B) && ck = 0) || (pg = 0x11 && decide (ck ≤ 15)) || (pg = 0x14 && ck = 1) ||
  (decide (0x40 ≤ pg) && decide (pg < 0x44) && ck = 0) || (pg = 0x48 && ck = 0)

/-- The condition is gone on re-evaluation; `gone` is what a parity or comparison checker finds (R480). -/
def State.conditionGone (s : State) (pg ck : Nat) (gone : Bool) : Bool :=
  if bitOf (s.rdn pg HDR.FLT_INJ_INJECT) ck then false
  else if eventChecker pg ck then
    !s.pageUnit.swFence.contains pg && !(pg = 0x0D && ck = 0 && s.flag TWIN.STAT_OWN_IN)
  else if 0x50 ≤ pg ∧ pg < 0x58 ∧ ck = 0 then s.flagn (pg - 0x50) PINBANK.BANK_STAT_SUPPLY_OK
  else if pg = 0x01 ∧ ck = 2 then decide (s.rd POWER.PWR_STAT_THERM < 3)
  else gone

/-- A bank's fence is removed: every cell reads zero, the withdrawn cells return to the free list (R481). -/
def State.unfenceBank (s : State) (b : Nat) : State :=
  let s1 := s.wr BUFFER.BANK_STAT_FENCED (clrBit (s.rd BUFFER.BANK_STAT_FENCED) b)
  let back := s1.buf.offFree.filter (fun c => c / 1536 = b && (s1.cell c).st = 1)
  let s2 := back.foldl (fun t c =>
    { t.updCell c (fun _ => {}) with
      buf := { (t.updCell c (fun _ => {})).buf with offFree := deleteNat t.buf.offFree c } }) s1
  { s2 with bufMem := s2.bufMem.filter (fun e => e.1 / 256 / 1536 ≠ b) }

/-- The fence of ring port `d` is removed: its output drives again and its queues are served once its link is up. -/
def State.unfenceRing (s : State) (d : Side) : State :=
  if s.fenced (9 + d.n) || bitOf (s.rdn (9 + d.n) HDR.FLT_STAT_CHECKERS) 0 || bitOf (s.rdn 0x12 HDR.FLT_STAT_CHECKERS) d.code
  then s
  else
    let s1 := s.updTx d (fun t => { t with silent := !(s.byp.ports && s.forwards d) })
    if s1.linkState (.ring d) = 8 then s1.portUp d.code else s1

/-- The collector's fence of the unit of a cleared checker is removed; each unit goes on from where its fence left it
(R30, R480, R481). -/
def State.unfenceUnit (s : State) (pg ck : Nat) : State :=
  let s1 := match fencedPage pg ck with
    | none => s
    | some p =>
      if s.flt.conts.any (fun e => fencedPage e.1 e.2 = some p) ||
          s.flt.det.any (fun d => d.cls = 1 && fencedPage d.page d.checker = some p) then s
      else { s with pageUnit := { s.pageUnit with colFence := deleteNat s.pageUnit.colFence p } }
  match pg with
  | 0x09 => s1.unfenceRing .east
  | 0x0B => s1.unfenceRing .west
  | 0x11 => if ck ≤ 15 then s1.unfenceBank ck else s1
  | 0x12 => if ck = 0 then s1.unfenceRing .east else if ck = 1 then s1.unfenceRing .west
    else if ck ≤ 7 then s1.unfenceOutput ck else s1
  | 0x14 => s1.unfenceOutput 3
  | 0x48 => if ck = 0 then s1.updUsb (fun u => { u with ttBad := [] }) else s1.usbAttach s1.usb.vbus
  | 0x4C => if ck ≤ 11 then s1.brkUnfence ck else s1
  | _ => s1

/-- The outcome of a clear. -/
def State.clearDone (s : State) (st cause : Nat) : State := (s.wr FAULT.CLR_CTRL_STATUS st).wr FAULT.CLR_CTRL_CAUSE cause

/-- CLR_CTRL.GO for the checker CLR_SEL names (R478, R480, R481); ALIVE may run again 10 ms after its last stop
condition has gone (R485). -/
def State.clearGo (s : State) (gone : Bool) : State :=
  let pg := s.rd FAULT.CLR_SEL_PAGE
  let ck := s.rd FAULT.CLR_SEL_CHECKER
  if blockType pg = 0 || !bitOf (s.rdn pg HDR.FLT_STAT_CHECKERS) ck then s.clearDone 3 1
  else if s.flt.det.any (fun d => d.page = pg && d.checker = ck && !d.corr) || !s.conditionGone pg ck gone || pg = 3
    then s.clearDone 3 2
  else
    let s1 := s.wrn pg HDR.FLT_STAT_CHECKERS (clrBit (s.rdn pg HDR.FLT_STAT_CHECKERS) ck)
    let out (l : List (Nat × Nat)) : List (Nat × Nat) := l.filter (fun e => e ≠ (pg, ck))
    let s2 := s1.updFlt (fun f => { f with
      conts := out f.conts
      fatals := out f.fatals
      prots := out f.prots
      aliveOk := if f.fatals.contains (pg, ck) || f.prots.contains (pg, ck) then s1.mono else f.aliveOk })
    let s3 := s2.unfenceUnit pg ck
    (if pg = 0x0E && s3.mode = 5 then (s3.domainOn 1).domainOn 2 else s3).clearDone 2 0

/-- FAULT_CLEAR: a write of CLR_CTRL.GO; `gone` is what a checker of stored contents or of two copies finds when it
checks again (R480). -/
def execFaultClear (p : Port) (gone : Bool) (s : State) : Host.Outcome State Fault Refusal :=
  .next ((s.access p 3 0x64 1 (fun s => s.clearGo gone)).evalWoken.drain)

/-- A write of REC_POP (R477). -/
def State.recPop (s : State) : State := s.updFlt (fun f => { f with recs := f.recs.drop 1 })

/-- REC_POP: a write of REC_POP.POP (R477). -/
def execRecPop (p : Port) (s : State) : Host.Outcome State Fault Refusal := .next (s.access p 3 0x54 1 State.recPop)

/-- A write of FLT_REL.RELEASE: at once after 10 µs of low, else at their end; without effect in a self fault (R482,
R486). -/
def State.fltRelease (s : State) : State :=
  if s.flt.self || !s.flt.fltLow then s
  else if s.running tFltLow then s.updFlt (fun f => { f with relPend := true })
  else s.updFlt (fun f => { f with fltLow := false })

/-- FLT_RELEASE: a write of FLT_REL.RELEASE (R486). -/
def execFltRelease (p : Port) (s : State) : Host.Outcome State Fault Refusal :=
  .next (s.access p 3 0x6C 1 State.fltRelease)

/-- FLT_N_MIN_END: FLT_N has been low for 10 µs (R486). -/
def execFltNMinEnd (s : State) : Host.Outcome State Fault Refusal :=
  .next (if !s.due tFltLow then s
    else
      let s1 := s.stop tFltLow
      if s1.flt.relPend && !s1.flt.self then s1.updFlt (fun f => { f with fltLow := false, relPend := false }) else s1)

/-- The number of the last 500,000 ns instant of fabric time. -/
def State.aliveGrid (s : State) : Nat := s.fab / fns 500000

/-- ALIVE_TOGGLE: the next 500,000 ns instant of fabric time has come while ALIVE runs (R485). -/
def execAliveToggle (s : State) : Host.Outcome State Fault Refusal :=
  .next (if !s.flt.aliveRun || s.flt.grid = s.aliveGrid then s
    else s.updFlt (fun f => { f with aliveLevel := !f.aliveLevel, grid := s.aliveGrid }))

/-- The part of the running 500,000 ns period that has passed, in monotonic units. -/
def State.aliveInto (s : State) : Nat := s.fab % fns 500000 / 2 ^ 42

/-- ALIVE_RESTART: a 500,000 ns instant has come with no stop condition in the 10 ms before it (R485). -/
def execAliveRestart (s : State) : Host.Outcome State Fault Refusal :=
  .next (if s.mode = 3 && !s.flt.aliveRun && !s.flt.self && s.flt.fatals = [] && s.flt.prots = [] &&
      decide (s.flt.aliveOk + ms 10 + s.aliveInto ≤ s.mono) then
      s.updFlt (fun f => { f with aliveRun := true, aliveLevel := true, grid := s.aliveGrid })
    else s)

end Sys2Proof.Machine
end

