-- ==== Sys2Proof/Machine/Gcm.lean ====
section
/-! DEFINITION. Commands of secured associations and the key store (R381-R400). -/

namespace Sys2Proof.Machine

/-- The frame a derivation was made for goes on: sealed and stored, or opened and judged (R385). -/
def State.afterKey (s : State) : GcmWait → State
  | .seal f inp tag _ =>
    match s.sealPlan f with
    | .refuse => (s.sat GCM.REFUSED_COUNT).lostTag tag
    | .wait _ => s
    | plan => (s.storeRing inp f tag plan).2
  | .opening d f q => s.openAndJudge d (.ofCode q) f

/-- The key a waiting frame needs. -/
def State.waitKey (s : State) : GcmWait → Option (Nat × Nat × Nat × Nat)
  | .seal f _ _ _ => (s.txEntry f.tc f.dest).map (fun i => s.sealKey i f)
  | .opening _ f _ =>
    match s.openFrame f true with
    | .derive k => some k
    | _ => none

/-- KEY_DERIVED: the derivation for the oldest waiting frame completes; the key enters the cache and the
frame is sealed or opened (R385). -/
def execKeyDerived (s : State) : Host.Outcome State Fault Refusal :=
  .next (match s.gcm.waiting with
    | [] => s
    | w :: rest =>
      let s1 := { s with gcm := { s.gcm with waiting := rest } }
      let s2 := match (if s1.keysUsable then s1.waitKey w else none) with
        | some k => s1.cacheKey k
        | none => s1
      (s2.afterKey w).drain)

/-- Another enabled entry stands in the way of enabling entry `i` (R382). -/
def State.assocClash (s : State) (i : Nat) : Bool :=
  (List.range 256).any (fun j => j ≠ i && s.flag GCM.A_CFG_EN j && s.flag GCM.A_CFG_DIR j = s.flag GCM.A_CFG_DIR i &&
    s.rd GCM.A_CFG_NUMBER j = s.rd GCM.A_CFG_NUMBER i &&
    (!s.flag GCM.A_CFG_DIR i || s.rd GCM.A_CFG_NODE j = s.rd GCM.A_CFG_NODE i))

/-- A write of A_CFG for entry `i` (R382, R392, R396): DIR, TC, NODE and NUMBER only while EN is 0; EN = 1
against R382 is ignored and sets CONFLICT; a transmit entry takes EN = 1 only while SAVED. -/
def State.writeACfg (s : State) (i v : Nat) : State :=
  let s1 := if s.flag GCM.A_CFG_EN i then s
    else
      let s1 := (s.wr GCM.A_CFG_DIR (bits v 30 1) i).wr GCM.A_CFG_NODE (bits v 12 12) i
      let s2 := s1.wr GCM.A_CFG_NUMBER (bits v 0 12) i
      if bits v 24 3 = 7 then s2 else s2.wr GCM.A_CFG_TC (bits v 24 3) i
  if bits v 31 1 = 0 then s1.wr GCM.A_CFG_EN 0 i
  else if s1.assocClash i then s1.wr GCM.A_STAT_CONFLICT 1 i
  else if s1.flag GCM.A_CFG_DIR i || s1.flag GCM.A_STAT_SAVED i then (s1.wr GCM.A_CFG_EN 1 i).wr GCM.A_STAT_CONFLICT 0 i
  else s1

/-- ASSOC_ENABLE: a write of A_CFG for the entry A_SEL names (R382). -/
def execAssocEnable (p : Port) (v : Nat) (s : State) : Host.Outcome State Fault Refusal :=
  .next (s.access p 0x18 0x48 v (fun s => s.writeACfg (s.rd GCM.A_SEL_ENTRY) v))

/-- A write of A_CTRL.ROLL for entry `i`: accepted only while EPOCH is below CEIL; the entry stands one epoch on with packet
number 1, and the next frame clears EPOCH_REQ and HALTED (R391, and step 5 of the example of R393; log 71). -/
def State.roll (s : State) (i : Nat) : State :=
  let e := s.rd GCM.A_EPOCH_EPOCH i
  if !s.flag GCM.A_CFG_DIR i && decide (e < s.rd GCM.A_EPOCH_CEIL i) then
    let s1 := (s.wr GCM.A_EPOCH_EPOCH (e + 1) i).wr GCM.A_PN_PN 1 i
    { s1 with gcm := { s1.gcm with rolls := insertNat s1.gcm.rolls i } }
  else s

/-- ROLL (R391). -/
def execRoll (p : Port) (s : State) : Host.Outcome State Fault Refusal :=
  .next (s.access p 0x18 0x5C 1 (fun s => s.roll (s.rd GCM.A_SEL_ENTRY)))

/-- A record operation begins, unless one runs (R392, R393, R396). -/
def State.startRec (s : State) (save wrap : Bool) : State :=
  let s1 := s.wr GCM.REC_CTRL_WRAP (bit wrap)
  if s1.rd GCM.REC_CTRL_STATUS = 1 then s1
  else
    let s2 := (s1.wr GCM.REC_CTRL_STATUS 1).wr GCM.REC_CTRL_CAUSE 0
    { s2 with gcm := { s2.gcm with recOp := some { save := save, entry := s2.rd GCM.A_SEL_ENTRY, wrap := wrap } } }.start tRec
      (if wrap then us 300 else us 2)

/-- REC_SAVE: a write of REC_CTRL.SAVE (R392). -/
def execRecSave (p : Port) (wrap : Bool) (s : State) : Host.Outcome State Fault Refusal :=
  .next (s.access p 0x18 0x70 (1 + 256 * bit wrap) (fun s => s.startRec true wrap))

/-- REC_RESTORE: a write of REC_CTRL.RESTORE (R392). -/
def execRecRestore (p : Port) (wrap : Bool) (s : State) : Host.Outcome State Fault Refusal :=
  .next (s.access p 0x18 0x70 (2 + 256 * bit wrap) (fun s => s.startRec false wrap))

/-- A record operation ends in error with a cause and changes nothing (R392). -/
def State.recError (s : State) (cause : Nat) : State := (s.wr GCM.REC_CTRL_STATUS 3).wr GCM.REC_CTRL_CAUSE cause

/-- Words 0 to 6 of the record of entry `i` with ceiling `ceil` (R393). -/
def State.recWords (s : State) (i ceil : Nat) : List Nat :=
  [0x01000000 + i * 2 ^ 16 + s.twinBit * 2 ^ 12 + s.nodeId,
   s.rd GCM.A_CFG_TC i * 2 ^ 24 + s.rd GCM.A_CFG_NUMBER i,
   s.rd GCM.A_BASE_BASE i, s.rd GCM.A_MASK_MASK i, ceil, s.nowSec % 2 ^ 32, 0]

/-- Stores words in REC0 and on. -/
def State.putRec (s : State) (ws : List Nat) : State :=
  ((List.range ws.length).zip ws).foldl (fun s e => s.wr GCM.REC_WORD e.2 e.1) s

/-- The end of a SAVE (R392, R393). -/
def State.recSaved (s : State) (o : RecOp) : State :=
  let ceil := min (s.rd GCM.A_EPOCH_EPOCH o.entry + 1) 0xFFFF
  let ws := s.recWords o.entry ceil
  let rec8 := ws ++ [crc32c (wordsLe ws)]
  let out := if o.wrap then s.gcm.root.map (fun r => leWords (kwWrap (s.wrapKey r) (wordsLe rec8))) else some rec8
  match out with
  | none => s.recError 6
  | some l => (((s.putRec l).wr GCM.A_EPOCH_CEIL ceil o.entry).wr GCM.A_STAT_SAVED 1 o.entry).wr GCM.REC_CTRL_STATUS 2

/-- The eight record words in REC0-REC9, unwrapped if need be; none where the check of the wrapping fails. -/
def State.recRead (s : State) (wrap : Bool) (root : List Nat) : Option (List Nat) :=
  if wrap then (kwUnwrap (s.wrapKey root) (wordsLe ((List.range 10).map (fun k => s.rd GCM.REC_WORD k)))).map leWords
  else some ((List.range 8).map (fun k => s.rd GCM.REC_WORD k))

/-- An accepted RESTORE (R392). -/
def State.recApply (s : State) (i : Nat) (ws : List Nat) : State :=
  let e := nth ws 4 + 1
  let s1 := (s.wr GCM.A_CFG_TC (bits (nth ws 1) 24 3) i).wr GCM.A_CFG_NUMBER (bits (nth ws 1) 0 12) i
  let s2 := (s1.wr GCM.A_BASE_BASE (nth ws 2) i).wr GCM.A_MASK_MASK (nth ws 3) i
  let s3 := ((s2.wr GCM.A_EPOCH_EPOCH e i).wr GCM.A_EPOCH_CEIL e i).wr GCM.A_PN_PN 1 i
  (s3.wr GCM.A_STAT_SAVED 0 i).wr GCM.REC_CTRL_STATUS 2

/-- The end of a RESTORE (R392, R393, R396). -/
def State.recRestored (s : State) (o : RecOp) : State :=
  if s.flag GCM.A_CFG_EN o.entry then s.recError 1
  else if !o.wrap && !s.flag GCM.CFG_OPEN_LOAD then s.recError 4
  else if o.wrap && s.gcm.root.isNone then s.recError 6
  else match s.recRead o.wrap (s.gcm.root.getD []) with
    | none => s.recError 2
    | some ws =>
      if nth ws 7 ≠ crc32c (wordsLe (ws.take 7)) || nth ws 0 / 2 ^ 24 ≠ 1 then s.recError 2
      else if bits (nth ws 0) 0 12 ≠ s.nodeId || bits (nth ws 0) 12 1 ≠ s.twinBit || bits (nth ws 0) 16 8 ≠ o.entry then
        s.recError 3
      else if 0xFFFF ≤ nth ws 4 then s.recError 5
      else s.recApply o.entry ws

/-- RECORD_OP_DONE: a record operation completes, with its effect at that point (R392, R393). -/
def execRecordOpDone (s : State) : Host.Outcome State Fault Refusal :=
  .next (s.whenDue tRec (fun s =>
    match s.gcm.recOp with
    | none => s
    | some o =>
      let s1 := { s with gcm := { s.gcm with recOp := none } }
      if o.save then s1.recSaved o else s1.recRestored o))

/-- A write of A_EPOCH for entry `i` (R387, R392). -/
def State.writeEpoch (s : State) (i v : Nat) : State :=
  let e := v % 2 ^ 16
  if s.flag GCM.A_CFG_DIR i then
    let s1 := ((s.wr GCM.A_EPOCH_EPOCH e i).wr GCM.A_RXEP_EPOCH_T0 e i).wr GCM.A_RXEP_EPOCH_T1 e i
    { s1 with gcm := { s1.gcm with
      wins := s1.gcm.wins.filter (fun w => w.1 / 131072 ≠ i),
      grace := Tbl.del (Tbl.del s1.gcm.grace (2 * i)) (2 * i + 1) } }
  else if !s.flag GCM.A_CFG_EN i && s.flag GCM.CFG_OPEN_LOAD then
    (((s.wr GCM.A_EPOCH_EPOCH e i).wr GCM.A_EPOCH_CEIL e i).wr GCM.A_PN_PN 1 i).wr GCM.A_STAT_SAVED 0 i
  else s

/-- A_EPOCH_WRITE (R387, R392). -/
def execAEpochWrite (p : Port) (v : Nat) (s : State) : Host.Outcome State Fault Refusal :=
  .next (s.access p 0x18 0x54 v (fun s => s.writeEpoch (s.rd GCM.A_SEL_ENTRY) v))

/-- EPOCH_GRACE_END: 1 ms after an advance the previous epoch is no longer accepted, and its window goes
(R387). -/
def execEpochGraceEnd (entry twinBit : Nat) (s : State) : Host.Outcome State Fault Refusal :=
  .next (s.whenDue (tGrace entry twinBit) (fun s =>
    { s with gcm := { s.gcm with
      grace := Tbl.del s.gcm.grace (2 * entry + twinBit),
      wins := s.gcm.wins.filter (fun w => !(decide (winKey entry twinBit 0 ≤ w.1) &&
        decide (w.1 < winKey entry twinBit (s.rxEpoch entry twinBit)))) } }))

/-- KEY_ALARM: alarm `cause` (0 VOLT, 1 CLOCK, 2 TEMP, 3 TAMPER, 4 TAG), watched in every mode except BYPASS;
the TAG alarm only with more failures than TAG_LIMIT in the period (R394). -/
def execKeyAlarm (cause : Nat) (s : State) : Host.Outcome State Fault Refusal :=
  .next (if s.mode = 0 || decide (4 < cause) then s
    else if cause = 4 && (s.rd KEYS.ALARM_CFG_TAG_LIMIT = 0 || decide (s.gcm.tagCnt ≤ s.rd KEYS.ALARM_CFG_TAG_LIMIT)) then s
    else (s.alarm cause).drain)

/-- ZEROIZE: 0x5A45_524F written to KEYS.ZEROIZE raises the SOFTWARE alarm; other values do nothing (R394). -/
def execZeroize (p : Port) (v : Nat) (s : State) : Host.Outcome State Fault Refusal :=
  .next (s.access p 0x19 0x54 v (fun s => if v = 0x5A45524F then s.alarm 5 else s)).drain

/-- TAG_WINDOW_END: periods of TAG_WIN follow each other; the count of tag failures restarts (R394). -/
def execTagWindowEnd (s : State) : Host.Outcome State Fault Refusal :=
  .next (s.every tTagWin (s.rd KEYS.ALARM_CFG_TAG_WIN * ms 100) (fun s => { s with gcm := { s.gcm with tagCnt := 0 } }))

/-- The kill of the root key completes: every bit of both copies is programmed (R395). -/
def State.killed (s : State) : State :=
  let s1 := { s with otp := { s.otp with
    killed := true, keyWords := (List.range 16).map (fun k => (k, 0xFFFFFFFF)) } }
  ((s1.wr KEYS.ROOT_STAT_KILLED 1).wr KEYS.ROOT_STAT_KILL_RUN 0).raise 0x19 1

/-- KILL_DONE: within 40 ms of its start (R395). -/
def execKillDone (s : State) : Host.Outcome State Fault Refusal :=
  .next (s.whenDue tKill State.killed)

/-- KEY_FLUSH: KEY_CTRL.FLUSH discards the cache entries that are not pinned (R398). -/
def execKeyFlush (p : Port) (s : State) : Host.Outcome State Fault Refusal :=
  .next (s.access p 0x19 0x58 1 (fun s => { s with gcm := { s.gcm with cache := s.gcm.cache.filter s.pinned } }))

end Sys2Proof.Machine
end

