-- ==== Sys2Proof/Machine/FlashOps.lean ====
section
/-! DEFINITION. The flash map, images and their chained tags, the copy journal (R455-R458, R497, R498). -/

namespace Sys2Proof.Machine

/-- The byte at an offset of the flash; one that nothing has programmed reads as erased (log 9). -/
def State.flashByte (s : State) (a : Nat) : Nat := (Tbl.get 255 s.flash.mem a).toNat

/-- Bytes of the flash. -/
def State.flashBytes (s : State) (a n : Nat) : List Nat := bnat (memRead 255 s.flash.mem a n)

/-- Stores bytes in the flash. -/
def State.flashPut (s : State) (a : Nat) (bs : List Nat) : State :=
  { s with flash := { s.flash with mem := memWrite 255 s.flash.mem a bs } }

/-- Erases the 64 KiB sector at `a`. -/
def State.flashErase (s : State) (a : Nat) : State :=
  { s with flash := { s.flash with mem := s.flash.mem.filter (fun e => e.1 / 65536 ≠ a / 65536) } }

/-- The offset of slot A (0) or B (R455). -/
def slotBase (slot : Nat) : Nat := if slot = 0 then 0 else 0x800000

/-- Block `i` of a slot. -/
def State.slotBlock (s : State) (slot i : Nat) : List Nat := s.flashBytes (slotBase slot + 4096 * i) 4096

/-- Bytes `a` to `a + n - 1` of a block, most significant first (R497, R498). -/
def blkField (b : List Nat) (a n : Nat) : Nat := ofBe ((b.drop a).take n)

def blkIndex (b : List Nat) : Nat := blkField b 2 2
def blkId (b : List Nat) : Nat := blkField b 4 8
def blkCoord (b : List Nat) : Nat := blkField b 12 2
def blkCount (b : List Nat) : Nat := blkField b 14 2
def blkTag (b : List Nat) : List Nat := (b.drop 16).take 16
def blkData (b : List Nat) : List Nat := b.drop 32

/-- The chain tag a block must carry after the tag `prev` (R497). -/
def chainTag (key prev b : List Nat) : List Nat :=
  cmac key (prev ++ (b.drop 2).take 2 ++ (b.drop 4).take 8 ++ (b.drop 14).take 2 ++ blkData b)

/-- The block is block `i` of the image `id` of `count` blocks and its tag verifies. -/
def blkGood (key prev b : List Nat) (id count i : Nat) : Bool :=
  nth b 0 = 0xB1 && blkIndex b = i && blkId b = id && blkCount b = count && chainTag key prev b = blkTag b

/-- The refusal of a header, by failure code; 0 none (R498). -/
def State.headerCode (s : State) (b : List Nat) : Nat :=
  let h := blkData b
  let room := 4064 * (blkCount b - 1)
  if ofBe (h.take 4) ≠ 0x46444C49 || nth h 4 ≠ 1 || decide (Config.siliconRev < nth h 5) then 8
  else if blkCount b < 2 || decide (256 < blkCount b) || decide (room < blkField h 12 4 + blkField h 16 4) ||
      decide (room < blkField h 20 4 + blkField h 24 4) then 8
  else if blkField h 8 4 < s.rd UPDATE.GEN_FLOOR_GEN then 2
  else 0

/-- The chain over blocks `i` and on, from the tag before them: the last tag, if every block verifies. -/
def State.chain (s : State) (slot : Nat) (key : List Nat) (id count : Nat) : Nat → Nat → List Nat → Option (List Nat)
  | 0, _, prev => some prev
  | n + 1, i, prev =>
    let b := s.slotBlock slot i
    if blkGood key prev b id count i then s.chain slot key id count n (i + 1) (blkTag b) else none

/-- The image key (R384). -/
def State.imageKey (s : State) : Option (List Nat) := s.gcm.root.map Sys2Proof.Machine.imageKey

/-- A slot is valid: header and every block (R456, R497, R498). -/
def State.slotValid (s : State) (slot : Nat) : Bool :=
  match s.imageKey with
  | none => false
  | some key =>
    let b := s.slotBlock slot 0
    s.headerCode b = 0 && (s.chain slot key (blkId b) (blkCount b) (blkCount b) 0 (zeros 16)).isSome

/-- The tag that stands for a slot's image: the chain tag of its last block (log 38). -/
def State.imageTag (s : State) (slot : Nat) : List Nat :=
  blkTag (s.slotBlock slot (blkCount (s.slotBlock slot 0) - 1))

/-- The section bytes of a slot: the DATA of blocks 1 and on. -/
def State.sectionBytes (s : State) (slot off len : Nat) : List Nat :=
  let n := blkCount (s.slotBlock slot 0)
  (((List.range (n - 1)).flatMap (fun i => blkData (s.slotBlock slot (i + 1)))).drop off).take len

/-- The engine section of a slot: for each engine the 2,048 words of a bank image and its PB_GEN, each word most
significant byte first (R498, log 38). -/
def State.engineImage (s : State) (slot e : Nat) : List Nat :=
  let h := blkData (s.slotBlock slot 0)
  let bs := s.sectionBytes slot (blkField h 20 4) (blkField h 24 4)
  (List.range 2049).map (fun i => ofBe ((bs.drop (8196 * e + 4 * i)).take 4))

/-- Writes an engine's bank from an image with its generation (R449, R506). -/
def State.loadBank (s : State) (e bank : Nat) (ws : List Nat) : State :=
  let p := (List.range 2048).foldl (fun t i => Tbl.set 0 t ((2 * e + bank) * 2048 + i) (nth ws i)) s.prog
  { s with prog := p }.wrn e ENG.PB_GEN_GEN (nth ws 2048) bank

/-! ### The copy journal (R457) -/

/-- The tag of the newest DONE entry. -/
def doneTag : List JEnt → Option (List Nat)
  | [] => none
  | .done t :: r => (doneTag r).or (some t)
  | _ :: r => doneTag r


/-- The entries from the newest START on. -/
def lastGroup : List JEnt → List JEnt
  | [] => []
  | e :: r =>
    if r.any (fun x => match x with | .start _ _ => true | _ => false) then lastGroup r
    else match e with
      | .start _ _ => e :: r
      | _ => r

/-- A copy is pending: slot B is marked ready and its tag differs from that of the newest DONE entry; or the newest START, of a
copy made once more, has no DONE yet and is resumed (R457, R458). -/
def State.copyPending (s : State) : Bool :=
  let open_ := match (lastGroup s.flash.journal).getLast? with
    | none => false
    | some (.done _) => false
    | some _ => true
  s.flash.ready && (doneTag s.flash.journal ≠ some (s.imageTag 1) || open_)

/-- The next step of a copy by the newest entry of the newest START: 0 append START, 1 erase sector k, 2 copy sector k,
3 append DONE. -/
def State.copyNext (s : State) : Nat × Nat :=
  let g := lastGroup s.flash.journal
  match g.head?, g.getLast? with
  | some (.start t n), some e =>
    let sectors := (n * 4096 + 65535) / 65536
    if t ≠ s.imageTag 1 then (0, 0)
    else match e with
      | .start _ _ => (1, 0)
      | .erased k => (2, k)
      | .written k => if k + 1 < sectors then (1, k + 1) else (3, 0)
      | .done _ => (0, 0)
  | _, _ => (0, 0)

/-- A journal entry is appended; START erases the sector that does not hold the newest START (R457). -/
def State.journalAdd (s : State) (e : JEnt) : State :=
  let j := match e with
    | .start _ _ => lastGroup s.flash.journal ++ [e]
    | _ => s.flash.journal ++ [e]
  { s with flash := { s.flash with journal := j } }

/-- One journaled copy step completes and its entry is appended (R457); the result says whether the copy is done. -/
def State.copyStep (s : State) : Bool × State :=
  match s.copyNext with
  | (0, _) => (false, s.journalAdd (.start (s.imageTag 1) (blkCount (s.slotBlock 1 0))))
  | (1, k) => (false, (s.flashErase (65536 * k)).journalAdd (.erased k))
  | (2, k) => (false, (s.flashPut (65536 * k) (s.flashBytes (0x800000 + 65536 * k) 65536)).journalAdd (.written k))
  | _ => (true, s.journalAdd (.done (s.imageTag 1)))

end Sys2Proof.Machine
end

