-- ==== Sys2Proof/Machine/StartOps.lean ====
section
/-! DEFINITION. SENTINEL, the start sequence, mode requests, resets (R445-R458, R514). -/

namespace Sys2Proof.Machine

/-- The 1 ms steps of the domains (R453, R514). -/
def tDomain : Nat := 201

def State.updMode (s : State) (f : ModeUnit → ModeUnit) : State := { s with modeU := f s.modeU }

/-- START_STAT.STEP (R453). -/
def State.step_ (s : State) : Nat := s.rd DEVICE.START_STAT_STEP

/-- The start sequence is at a step. -/
def State.toStep (s : State) (n : Nat) : State := s.wr DEVICE.START_STAT_STEP n

/-- The exit delay as configured, 10 ms units (R450). -/
def State.exitCfg (s : State) : Nat := s.rd DEVICE.MODE_CFG_EXIT_DLY * ms 10

/-- Step 5: the hub waits for the start conditions, with an exit delay (R450, R453). -/
def State.waitStart (s : State) (delay : Nat) : State :=
  let s1 := s.updMode (fun m => { m with exitDly := delay, dom := [], copying := false, copies := 0, halted := false, lastSector := none,
                                         boot := none, autoDone := false })
  ((s1.stop tDomain).wr DEVICE.START_STAT_UNCOMMISSIONED (bit (s.role = 3))).wr DEVICE.START_STAT_NO_KEY
    (bit s.gcm.root.isNone) |>.toStep 5

/-- Every domain but PD0 switches off, with the field outputs released, OWN_OUT, BYPASS_N and PSU_EN low (R446, R514). -/
def State.domainsDark (s : State) : State :=
  let s1 := (s.setOwnOut false).updMode (fun m => { m with psu := false, loaded := false })
  [7, 6, 5, 4, 3, 2, 1].foldl State.domainOff s1

/-- SENTINEL is entered and the slots held off (R418, R446). -/
def State.enterSentinel (s : State) : State :=
  let s1 := s.domainsDark
  ((if s1.mode = 1 then s1 else s1.setMode 1).wr DEVICE.MODE_STAT_LOADING 0).slotsOff

/-- A BUS_LOSS entry: counted, the exit delay doubled within 60 s of the one before, up to 8 s (R450). -/
def State.lossEntry (s : State) : State :=
  let soon := match s.modeU.lossAt with
    | some t => decide (s.mono ≤ t + ms 60000)
    | none => false
  (s.sat DEVICE.LOSS_CNT_COUNT).updMode (fun m => { m with lossAt := some s.mono, lossMult := if soon then 2 * m.lossMult else 1 })

/-- The exit delay after a BUS_LOSS entry. -/
def State.lossDelay (s : State) : Nat := min (s.exitCfg * s.modeU.lossMult) (ms 8000)

/-- What BUS_LOSS does to the mode (R446, R447, R450): it refuses a request in progress. In SENTINEL at step 6 the sequence
returns to step 5; a SENTINEL that software asked for stays one. -/
def State.busLost (s : State) : State :=
  if 2 ≤ s.mode then
    let s1 := ((s.loseReq 1).lossEntry).enterSentinel
    (s1.updMode (fun m => { m with auto := true })).waitStart s1.lossDelay
  else if s.mode = 1 && s.step_ = 6 then
    let s1 := (s.loseReq 1).domainsDark
    s1.waitStart s1.lossDelay
  else s

/-- Step 6 begins: PSU_EN high, the first domain 1 ms later (R453, R514). -/
def State.beginSix (s : State) : State :=
  ((s.updMode (fun m => { m with psu := true, dom := [3, 1, 2, 6, 7] })).toStep 6).start tDomain (ms 1)

/-- The exit delay that holds now: 60 s after the last BUS_LOSS entry it is EXIT_DLY again (R450). -/
def State.exitDelay (s : State) : Nat :=
  match s.modeU.lossAt with
  | some t => if t + ms 60000 < s.mono then min s.modeU.exitDly s.exitCfg else s.modeU.exitDly
  | none => s.modeU.exitDly

/-- BUS_OK has stood for the exit delay and P_AVAIL has reached WAKE_P (R450). -/
def State.startReady (s : State) : Bool :=
  (match s.brk.okAt with
   | some t => decide (t + s.exitDelay ≤ s.mono)
   | none => false) && decide (s.rd DEVICE.MODE_CFG_WAKE_P ≤ s.pAvail)

/-- LISTEN is entered from SENTINEL (R193, R446, R453, R454): the relay opens unless FORCE or a transit fault holds it, which
of them BYP_STAT.CAUSE then shows being FORCE where both do (log 64). -/
def State.enterListen (s : State) : State :=
  let s1 := ((s.setMode 2).wr TIME.CTRL_STEP_ARM 1).setTimeState 1
  let s2 := if s1.role = 3 then s1.wr TRANSIT.BYP_CTRL_FORCE 1 else s1
  let s3 := { s2 with byp := { s2.byp with entered := true } }
  let s4 := if s3.flag TRANSIT.BYP_CTRL_FORCE then { s3 with byp := { s3.byp with startup := false } }.wr TRANSIT.BYP_STAT_CAUSE 3
    else if bitOf (s3.rdn 0x0E HDR.FLT_STAT_CHECKERS) 0 then
      { s3 with byp := { s3.byp with startup := false } }.wr TRANSIT.BYP_STAT_CAUSE 2
    else s3.leaveBypass
  let s5 := (s4.endReq).toStep 7
  if s5.copyPending then
    (s5.updMode (fun m => { m with copying := true })).wr UPDATE.STAT_STATE 5 |>.wr UPDATE.STAT_STATUS 1
  else s5

/-! ### Requests -/

/-- The twin index clashes with the peer's (R14). -/
def State.clash (s : State) : Bool := s.flag TWINLINK.LINK_STAT_INDEX_CLASH

/-- A fatal or escalated fault is uncleared (R481). -/
def State.fatalStands (s : State) : Bool := s.flt.fatals ≠ [] || s.flt.self

/-- Why a request is refused, by the first cause of R448 that holds; 0 none (log 39). -/
def State.reqCause (s : State) (p : Option Port) (v : Nat) : Nat :=
  let reach := match v with
    | 1 => s.mode = 2
    | 2 => decide (3 ≤ s.mode) || (s.mode = 1 && p = some .debug && (s.step_ = 5 || s.step_ = 6))
    | 3 => s.mode = 2
    | _ => false
  if !reach then 1
  else if v = 3 && (s.role ≠ 3 && !s.clash) && !s.flag DEVICE.START_STAT_IMAGE_OK then 2
  else if v = 2 && decide (2 ≤ s.mode) && s.isTwin && s.twinRole = 1 && s.rd TWIN.STAT_PEER_ROLE = 2 then 3
  else if v = 2 && s.mode = 5 && s.fatalStands then 4
  else if s.modeU.want.isSome || (s.mode = 1 && s.step_ = 6) then 5
  else if v = 3 && (s.role = 3 || s.clash) then 6
  else if v = 2 && s.mode = 1 && decide (s.pAvail < s.rd DEVICE.MODE_CFG_WAKE_P) then 7
  else 0

/-- PD4 and PD5 come on afresh for an engine load (R446, R449). -/
def State.clustersOn (s : State) : State :=
  let s1 := if s.running tDomOff then ((s.stop tDomOff).domainOff 4).domainOff 5 else s
  (s1.domainOn 4).domainOn 5

/-- A request is accepted (R446, R449, R450). -/
def State.acceptReq (s : State) (v : Nat) : State :=
  let s1 := (s.updMode (fun m => { m with want := some v, loaded := false })).wr DEVICE.MODE_STAT_PENDING 1
  match v with
  | 1 =>
    let s2 := s1.endReq.enterSentinel
    (s2.updMode (fun m => { m with auto := false })).waitStart s2.exitCfg
  | 2 =>
    if s1.mode = 1 then s1.beginSix
    else if s1.isTwin && s1.flag TWIN.STAT_OWN_OUT then s1.nameRelease 2
    else s1
  | _ => s1.clustersOn.wr DEVICE.MODE_STAT_LOADING 1

/-- A request for mode `v` from a port, or from the hub itself (R448). -/
def State.modeReq (s : State) (p : Option Port) (v : Nat) : State :=
  match s.reqCause p v with
  | 0 => s.acceptReq v
  | c => s.refuseReq c

/-! ### Resets -/

/-- A warm reset: PD1-PD7 return to reset, MODE_STAT and START_STAT too, everything else of PD0 stays; the sequence goes
on at step 5 (R452, R453). -/
def State.warmReset (s : State) (debug : Bool) : State :=
  let s1 := (s.endReq).enterSentinel
  let s2 := s1.clrFields 0 [DEVICE.MODE_STAT_REFUSE_CAUSE, DEVICE.MODE_STAT_PREV, DEVICE.MODE_STAT_LOADING,
    DEVICE.MODE_STAT_PENDING, DEVICE.START_STAT_NO_IMAGE, DEVICE.START_STAT_IMAGE_FROM_B, DEVICE.START_STAT_IMAGE_OK]
  let s3 := (s2.wr DEVICE.RESET_CAUSE_WARM 1).wr DEVICE.RESET_CAUSE_DEBUG (bit (debug || s2.flag DEVICE.RESET_CAUSE_DEBUG))
  (s3.updMode (fun m => { m with auto := true, saving := false })).waitStart (ms 1)

/-- A write of RESET_CTRL (R452). -/
def State.resetCtrl (s : State) (p : Port) (v : Nat) : State :=
  if v = 0x5741524D then s.warmReset (p = .debug) else s

/-- What outlasts the loss of VDEM: OTP, the flash, what the balls carry, and the model's own counters and log. -/
def State.unpowered (s : State) : State :=
  { pending := s.pending, sent := s.sent, free := s.free, cycle := s.cycle, mono := s.mono
    otp := { s.otp with
      sel := none, staged := [], op := none, index := 0
      spoiled := match s.otp.op with
        | some (0, g) => insertNat s.otp.spoiled g
        | _ => s.otp.spoiled }
    flash := { s.flash with cmd := none }
    pins := s.pins.map (fun e => (e.1, { ball := e.2.ball }))
    usb := { vbus := s.usb.vbus } }

/-- BYPASS: nothing is powered (R445, R446). -/
def State.powerLost (s : State) : State := { s.unpowered with pd := [] }.wr DEVICE.MODE_STAT_MODE 0

/-- Power-up reset ends: TWIN_ID is sampled, SENTINEL entered, the first blocks enabled; step 1 (R13, R452, R453). -/
def State.powerUp (s : State) (index : Nat) : State :=
  let s0 := s.unpowered
  let s1 := { s0 with otp := { s0.otp with index := index % 2 } }.wr DEVICE.MODE_STAT_MODE 0
  let s2 := s1.setMode 1
  [0, 1, 2, 3, 4, 0x5A].foldl (fun t pg => t.wrn pg HDR.BLK_CTRL_ENABLE 1) (s2.toStep 1)

/-! ### OTP and the root key -/

/-- The generation a start uses: the highest whose CRC passes and whose RETIRE is 0 (R464). -/
def Otp.select (o : Otp) : Option Nat :=
  [3, 2, 1, 0].find? (fun g => o.valid g && o.word g 47 % 2 = 0 && !o.spoiled.contains g)

/-- Step 2: OTP enters the shadow (R454, R464). -/
def State.otpLoad (s : State) : State :=
  let g := s.otp.select
  let s1 := ({ s with otp := { s.otp with sel := g } }).toStep 2
  if g = none then s1.wr OTP.OTP_STAT_NONE 1
  else
    ([0, 1, 2, 3, 4, 0x5A, 0x4C, 0x4D].foldl State.otpPage s1).wr DEVICE.START_STAT_UNCOMMISSIONED (bit (s1.role = 3))

/-- The words of a copy of the root key. -/
def Otp.key (o : Otp) (copy : Nat) : List Nat := (List.range 8).map (fun i => Tbl.get 0 o.keyWords (8 * copy + i))

/-- A key's words as bytes, most significant first (R471). -/
def keyBytes (ws : List Nat) : List Nat := ws.flatMap (beBytes 4)

/-- The CRC of a copy passes (R466). -/
def Otp.keyGood (o : Otp) (copy : Nat) : Bool := Tbl.get 0 o.keyCrc copy = crc32c (keyBytes (o.key copy))

/-- A key copy passes and no kill has been started (R395, R466). -/
def Otp.keyThere (o : Otp) : Bool := (o.keyGood 0 || o.keyGood 1) && !o.killed

/-- Step 3: a kill that was started is completed, then the root key is loaded; step 4: BRK and LINE (R395, R426, R453,
R454, R466). -/
def State.keyLoad (s : State) : State :=
  let s1 := if s.otp.killStarted && !s.otp.killed then
      { s with otp := { s.otp with killed := true, keyWords := (List.range 16).map (fun k => (k, 0xFFFFFFFF)) } }
    else s
  let s1 := s1.wr KEYS.ROOT_STAT_KILLED (bit s1.otp.killed)
  let copy := if s1.otp.keyGood 0 then 0 else 1
  let s2 := if !s1.otp.keyThere then s1
    else
      let t := ({ s1 with gcm := { s1.gcm with root := some (keyBytes (s1.otp.key copy)) } }.wr KEYS.ROOT_STAT_PRESENT 1).wr
        KEYS.ROOT_STAT_COPY copy
      if t.otp.keyGood 0 && t.otp.keyGood 1 && t.otp.key 0 ≠ t.otp.key 1 then t.report 0x19 2 else t
  let s3 := ((s2.toStep 3).brkStart).wr DEVICE.START_STAT_NO_KEY (bit s2.gcm.root.isNone)
  (s3.updMode (fun m => { m with auto := true })).waitStart (ms 1)

/-! ### Images at the start -/

/-- The boot slot is chosen: its IMAGE_ID, GEN and format versions (R456, R458, R508). -/
def State.bootFrom (s : State) (slot : Nat) : State :=
  let b := s.slotBlock slot 0
  let s1 := s.updMode (fun m => { m with boot := some slot, versions := ((blkData b).drop 28).take 64 })
  let s2 := (s1.wr UPDATE.ACT_ID_ID (blkId b)).wr UPDATE.ACT_GEN_GEN (blkField (blkData b) 8 4)
  (s2.wr DEVICE.START_STAT_IMAGE_OK 1).wr DEVICE.START_STAT_IMAGE_FROM_B slot

/-- Verification of the boot slot ends (R456, R458, R505): a slot A that fails after a copy is copied once more; then slot
B is tried. An activation is reported. -/
def State.imageVerified (s : State) : State :=
  let tried := s.modeU.copies
  if s.slotValid 0 then
    let s1 := (s.bootFrom 0).toStep 8
    if tried = 0 then s1 else s1.raise 0x59 4
  else if tried = 1 then
    ((s.updMode (fun m => { m with copying := true })).wr UPDATE.STAT_STATE 5).wr UPDATE.STAT_STATUS 1
  else
    let s1 := if s.slotValid 1 then s.bootFrom 1 else s.wr DEVICE.START_STAT_NO_IMAGE 1
    let s2 := s1.toStep 8
    if tried = 0 then s2 else s2.raise 0x59 5

/-- A journaled step of the copy completes; DONE ends it, unless an abort halted it before (R457, R505). -/
def State.copySector (s : State) : State :=
  let c := s.copyStep
  let s1 := c.2
  if c.1 then
    ((s1.updMode (fun m => { m with copying := false, copies := m.copies + 1 })).wr UPDATE.STAT_STATUS 2).wr UPDATE.STAT_STATE
      (if s1.flash.ready then 3 else 0)
  else s1

/-! ### The engine load -/

/-- Every block of the boot slot verifies again, and its engine section enters bank 0 of each engine (R449). -/
def State.loadEngines (s : State) : Option State :=
  match s.modeU.boot with
  | none => none
  | some slot =>
    if s.slotValid slot then some ((List.range 16).foldl (fun t e => t.loadBank e 0 (s.engineImage slot e)) s) else none

/-- The engine load fails: PD4 and PD5 go off, the request is refused, NO_IMAGE is set (R449). -/
def State.loadFailed (s : State) : State :=
  let s1 := ((s.domainOff 4).domainOff 5).endReq
  (((s1.wr DEVICE.MODE_STAT_LOADING 0).wr DEVICE.START_STAT_NO_IMAGE 1).wr DEVICE.START_STAT_IMAGE_OK 0).refuseReq 2

end Sys2Proof.Machine
end

