-- ==== Sys2Proof/Machine/FlashCmd.lean ====
section
/-! DEFINITION. FL_CMD and PROG_CTRL: flash commands and OTP programming (R465, R469-R472). -/

namespace Sys2Proof.Machine

/-- Draws `n` free numbers below 2^w. -/
def State.drawN (s : State) (w : Nat) : Nat → List Nat × State
  | 0 => ([], s)
  | n + 1 =>
    let d := s.draw
    let r := d.2.drawN w n
    ((d.1 % 2 ^ w) :: r.1, r.2)

/-- The region a program or erase command may not touch: slot A, the journal, the settings banks; slot B but for a local
load (R469, R503). -/
def State.flashProtected (s : State) (a : Nat) : Bool :=
  decide (a < 0x800000) || (decide (0x1000000 ≤ a) && decide (a < 0x1220000)) ||
  (decide (0x800000 ≤ a) && decide (a < 0x1000000) && !(s.flag UPDATE.CFG_LOCAL_LOAD && s.rd UPDATE.STAT_STATE = 0))

/-- A flash command ends in error (R469, R470). -/
def State.flashError (s : State) (cause : Nat) : State :=
  ((({ s with flash := { s.flash with cmd := none } }.wr XSPI.FL_CMD_STATUS 3).wr XSPI.FL_CMD_CAUSE cause).wr XSPI.FL_CMD_GO 0).sat
    XSPI.ERR_CNT_COUNT |>.raise 0x58 1

/-- FL_CMD.GO: the command starts, or ends in error at once (R469). -/
def State.flashGo (s : State) : State :=
  if s.flash.cmd.isSome || s.fenced 0x58 then s
  else
    let op := s.rd XSPI.FL_CMD_OP
    let a := s.rd XSPI.FL_ADDR_ADDR
    let n := s.rd XSPI.FL_CMD_LEN
    if op ≠ 0 && (s.flashProtected a || (op = 1 && s.flashProtected (a + 4 * n - 1))) then s.flashError 1
    else if op = 1 && decide (256 < a % 256 + 4 * n) then s.flashError 3
    else
      let ws := if op = 2 then [] else (List.range n).map (fun i => if op = 1 then s.rd XSPI.FL_DATA_DATA i else 0)
      (({ s with flash := { s.flash with cmd := some (op, a, ws) } }.wr XSPI.FL_CMD_STATUS 1).wr XSPI.FL_CMD_CAUSE 0).wr XSPI.FL_CMD_GO 1

/-- A write of FL_CMD (R469). -/
def State.writeFlCmd (s : State) (v : Nat) : State :=
  let s1 := s.putAll 0 v 0 [XSPI.FL_CMD_LEN, XSPI.FL_CMD_OP]
  if bitOf v 0 then s1.flashGo else s1

/-- The bytes a read returns; the layout of the journal and the settings banks is open, so theirs are free (log 40). -/
def State.flashFetch (s : State) (a n : Nat) : List Nat × State :=
  if 0x1000000 < a + n ∧ a < 0x1220000 then s.drawN 8 n else (s.flashBytes a n, s)

/-- Slot B is no longer the image that was marked (log 40). -/
def State.touchSlotB (s : State) (a : Nat) : State :=
  if 0x800000 ≤ a ∧ a < 0x1000000 then { s with flash := { s.flash with ready := false } } else s

/-- Bytes are programmed: an erased byte takes its value, what another becomes is open (log 40). -/
def State.flashProgram (s : State) (a : Nat) : List Nat → State
  | [] => s
  | b :: t =>
    let d := s.draw
    (if s.flashByte a = 255 then s.flashPut a [b] else d.2.flashPut a [d.1 % 256]).flashProgram (a + 1) t

/-- A flash command completes with `res`: 0 done, 2 timeout, 4 the hub itself uses the flash (R469, R470). What a program
or erase command that timed out leaves is open. -/
def State.flashDone (s : State) (res : Nat) : State :=
  match s.flash.cmd with
  | none => s
  | some (op, a, ws) =>
    let n := 4 * ws.length
    if res = 4 then s.flashError 4
    else if res ≠ 0 then
      let base := if op = 2 then a / 65536 * 65536 else a
      let d := if op = 0 then ([], s) else s.drawN 8 (if op = 2 then 65536 else n)
      (((d.2.flashPut base d.1).touchSlotB (if op = 0 then 0 else a)).flashError 2)
    else
      let s1 := match op with
        | 0 =>
          let d := s.flashFetch a n
          (List.range ws.length).foldl (fun (t : State) i => t.wr XSPI.FL_DATA_DATA (ofLe ((d.1.drop (4 * i)).take 4)) i) d.2
        | 1 => (s.flashProgram a (ws.flatMap (leBytes 4))).touchSlotB a
        | _ => (s.flashErase a).touchSlotB a
      (({ s1 with flash := { s1.flash with cmd := none } }.wr XSPI.FL_CMD_STATUS 2).wr XSPI.FL_CMD_GO 0).raise 0x58 0

/-! ### OTP programming -/

/-- The 1,536 bits of a generation are all zero (R465). -/
def Otp.blank (o : Otp) (g : Nat) : Bool := (List.range 48).all (fun w => o.word g w = 0) && !o.spoiled.contains g

/-- Why an operation is refused, by the first cause of R471 that holds; 0 none (R465). -/
def State.progCause (s : State) (op : Nat) : Nat :=
  if s.mode < 2 || s.mode = 5 || s.brk.low then 1
  else if op = 0 && ([0, 1, 2, 3].find? s.otp.blank).isNone then 2
  else if op = 2 && s.otp.keyLocked then 3
  else if op = 3 && s.gcm.root.isNone then 4
  else 0

/-- PROG_CTRL.GO (R465). -/
def State.progGo (s : State) : State :=
  if s.otp.op.isSome || s.fenced 0x5A then s
  else
    let op := s.rd OTP.PROG_CTRL_OP
    match s.progCause op with
    | 0 =>
      let g := if op = 0 then ([0, 1, 2, 3].find? s.otp.blank).getD 0 else s.rd OTP.PROG_CTRL_GEN
      (({ s with otp := { s.otp with op := some (op, g) } }.wr OTP.PROG_CTRL_STATUS 1).wr OTP.PROG_CTRL_CAUSE 0).wr OTP.PROG_CTRL_GO 1
    | c => (s.wr OTP.PROG_CTRL_STATUS 3).wr OTP.PROG_CTRL_CAUSE c

/-- A write of PROG_CTRL (R471). -/
def State.writeProgCtrl (s : State) (v : Nat) : State :=
  let s1 := s.putAll 0 v 0 [OTP.PROG_CTRL_OP, OTP.PROG_CTRL_GEN]
  if bitOf v 8 then s1.progGo else s1

/-- The words OP 0 writes: STAGE with the GRADE of the selected generation, and their CRC (R465). -/
def State.newGeneration (s : State) : List Nat :=
  let st := (List.range 46).map (fun w => s.rd OTP.STAGE_WORD w)
  let w0 := nth st 0
  let g := bits (s.shadow 0) 16 4
  let ws := (w0 - bits w0 16 4 * 2 ^ 16 + g * 2 ^ 16) :: st.drop 1
  ws ++ [genCrc (nth ws)]

/-- Stores words of OTP. -/
def putWords (t : Tbl Nat) (k : Nat) : List Nat → Tbl Nat
  | [] => t
  | w :: r => putWords (Tbl.put t k w) (k + 1) r

/-- An OTP operation completes; with a read-back that differs, what it wrote is open (R465, log 40). -/
def State.progDone (s : State) (ok : Bool) : State :=
  match s.otp.op with
  | none => s
  | some (op, g) =>
    let wrote (ws : List Nat) : List Nat × State := if ok then (ws, s) else s.drawN 32 ws.length
    let s1 := match op with
      | 0 =>
        let d := wrote s.newGeneration
        { d.2 with otp := { d.2.otp with words := putWords d.2.otp.words (48 * g) d.1 } }
      | 1 =>
        let d := wrote [s.otp.word g 47 ||| 1]
        { d.2 with otp := { d.2.otp with words := putWords d.2.otp.words (48 * g + 47) d.1 } }
      | 2 =>
        let ks := (List.range 8).map (fun i => Tbl.get 0 s.otp.staged i)
        let d := wrote (ks ++ ks)
        let c := crc32c (keyBytes ks)
        { d.2 with otp := { d.2.otp with keyWords := putWords [] 0 d.1, keyCrc := [(0, c), (1, c)], keyLocked := true, staged := [] } }
      | _ =>
        let d := wrote [1]
        let v := (d.1.headD 0) % 2
        { d.2 with otp := { d.2.otp with killEn := decide (v = 1) } }.wr KEYS.ROOT_STAT_KILL_EN v
    let s2 := ({ s1 with otp := { s1.otp with op := none } }).wr OTP.PROG_CTRL_GO 0
    if ok then (s2.wr OTP.PROG_CTRL_STATUS 2).raise 0x5A 0
    else ((s2.wr OTP.PROG_CTRL_STATUS 3).wr OTP.PROG_CTRL_CAUSE 5).raise 0x5A 1

end Sys2Proof.Machine
end

