-- ==== Sys2Proof/Machine/Modes.lean ====
section
/-! DEFINITION. Commands of modes, resets, the start sequence, flash and OTP (R445-R473), but for the settings store. -/

namespace Sys2Proof.Machine

/-- What follows a mode change: the budget evaluates if it must, faults are taken. -/
def State.modeDone (s : State) : State := s.evalWoken.drain

/-- A write of MODE_REQ (R448). -/
def State.writeModeReq (s : State) (p : Port) (v : Nat) : State := s.modeReq (some p) v

/-- MODE_REQ_SENTINEL: MODE_REQ = 1 (R446, R448). -/
def execModeReqSentinel (p : Port) (s : State) : Host.Outcome State Fault Refusal :=
  .next (s.access p 0 0x44 1 (fun s => s.writeModeReq p 1)).modeDone

/-- MODE_REQ_LISTEN: MODE_REQ = 2; from SENTINEL only DEBUG can ask (R446, R448, R450). -/
def execModeReqListen (p : Port) (s : State) : Host.Outcome State Fault Refusal :=
  .next (s.access p 0 0x44 2 (fun s => s.writeModeReq p 2)).modeDone

/-- MODE_REQ_RUN: MODE_REQ = 3, which starts the engine load (R446, R448, R449). -/
def execModeReqRun (p : Port) (s : State) : Host.Outcome State Fault Refusal :=
  .next (s.access p 0 0x44 3 (fun s => s.writeModeReq p 3)).modeDone

/-- MODE_REQ_INVALID: MODE_REQ = 0, 4, 5, 6 or 7 is refused with cause 1 (R448). -/
def execModeReqInvalid (p : Port) (v : Nat) (s : State) : Host.Outcome State Fault Refusal :=
  .next (if v % 8 = 1 ∨ v % 8 = 2 ∨ v % 8 = 3 then s
    else s.access p 0 0x44 (v % 8) (fun s => s.writeModeReq p (v % 8)))

/-- POWER_UP_RESET: VDEM has been in its range for 2 ms after being out of it; the TWIN_ID ball reads `index` (R13, R452,
R453 step 1). -/
def execPowerUpReset (index : Nat) (s : State) : Host.Outcome State Fault Refusal :=
  .next (if s.mode = 0 || (s.mode = 1 && s.step_ = 0) then s.powerUp index else s)

/-- WARM_RESET: RESET_N low for 1.04 µs (`p` none), or `key` written to DEVICE.RESET_CTRL (R452). -/
def execWarmReset (p : Option Port) (key : Nat) (s : State) : Host.Outcome State Fault Refusal :=
  .next (match p with
    | none => if s.mode = 0 || decide (s.step_ < 5) then s else (s.warmReset false).modeDone
    | some q => (s.access q 0 0x54 key (fun s => if s.step_ < 5 then s else s.resetCtrl q key)).modeDone)

/-- TRST: TRST_N low resets the debug access port; what it has captured is lost (R452). -/
def execTrst (s : State) : Host.Outcome State Fault Refusal :=
  .next { s with pageUnit := { s.pageUnit with hold := s.pageUnit.hold.filter (fun e => e.1 / 2 ^ 24 ≠ Port.code .debug) } }

/-- VDEM_LOSS: VDEM leaves its range (R446, R447). -/
def execVdemLoss (s : State) : Host.Outcome State Fault Refusal := .next s.powerLost

/-- OTP_LOAD: step 2 (R453, R464). -/
def execOtpLoad (s : State) : Host.Outcome State Fault Refusal :=
  .next (if s.mode = 1 && s.step_ = 1 then s.otpLoad else s)

/-- ROOT_KEY_LOAD: step 3, step 4, and the wait of step 5 (R426, R453, R466). -/
def execRootKeyLoad (s : State) : Host.Outcome State Fault Refusal :=
  .next (if s.mode = 1 && s.step_ = 2 && s.otp.sel.isSome then s.keyLoad.modeDone else s)

/-- SENTINEL_EXIT: the start conditions of R450 hold at step 5; step 6 begins (R450, R453). -/
def execSentinelExit (s : State) : Host.Outcome State Fault Refusal :=
  .next (if s.mode = 1 && s.step_ = 5 && s.modeU.auto && s.startReady then s.beginSix else s)

/-- DOMAIN_SWITCH_ON: the next domain of step 6, 1 ms after the last; the last one brings LISTEN (R446, R453, R514). -/
def execDomainSwitchOn (s : State) : Host.Outcome State Fault Refusal :=
  .next (if s.mode = 1 && s.step_ = 6 && s.due tDomain then
      match s.modeU.dom with
      | [] => s
      | d :: rest =>
        let s1 := (s.domainOn d).updMode (fun m => { m with dom := rest })
        let s2 := if d = 6 then s1.usbAttach s1.usb.vbus else s1
        if rest = [] then ((s2.stop tDomain).enterListen).modeDone else s2.start tDomain (ms 1)
    else s)

/-- COPY_SECTOR_DONE: a journaled step of the copy completes (R457); after an abort only those of the sector that was in
progress (R505). -/
def execCopySectorDone (s : State) : Host.Outcome State Fault Refusal :=
  .next (
    let n := s.copyNext
    let goes := !s.modeU.halted || ((n.1 = 1 || n.1 = 2) && s.modeU.lastSector = some n.2)
    if s.step_ = 7 && s.modeU.copying && goes then s.copySector else s)

/-- IMAGE_VERIFY_DONE: verification of the boot slot ends (R456, R458). -/
def execImageVerifyDone (s : State) : Host.Outcome State Fault Refusal :=
  .next (if s.step_ = 7 && !s.modeU.copying then s.imageVerified else s)

/-- AUTO_RUN: with MODE_CFG.AUTO_RUN the hub, ready, requests RUN once time is locked or it is grandmaster, or at once
with WAIT_LOCK at 0 (R453 step 9). -/
def execAutoRun (s : State) : Host.Outcome State Fault Refusal :=
  .next (if s.step_ = 9 && s.mode = 2 && s.flag DEVICE.MODE_CFG_AUTO_RUN && !s.modeU.autoDone &&
      (!s.flag DEVICE.MODE_CFG_WAIT_LOCK || s.rd TIME.STAT_STATE = 3 || s.rd TIME.STAT_STATE = 5) then
      ((s.updMode (fun m => { m with autoDone := true })).modeReq none 3).modeDone
    else s)

/-- BUS_LOSS: the bus is below BUS_LOSS (R419, R446, R450). -/
def execBusLoss (vbus : Nat) (s : State) : Host.Outcome State Fault Refusal :=
  .next (if codeGe vbus (s.rd LINE.PORT_CFG_BUS_LOSS) || !s.enabled 0x4D then s
    else
      let s1 := s.wr LINE.V_BUS_CODE vbus
      let s2 := { s1 with brk := { s1.brk with okAt := none } }.raise 0x4D 1
      (s2.busLost.settleAll).modeDone)

/-- FLASH_READ: FL_CMD with OP read, LEN and GO (R469). -/
def execFlashRead (p : Port) (len : Nat) (s : State) : Host.Outcome State Fault Refusal :=
  .next (let v := len % 64 * 256 + 1
    s.access p 0x58 0x90 v (fun s => s.writeFlCmd v))

/-- FLASH_PROGRAM: FL_CMD with OP program, LEN and GO (R469). -/
def execFlashProgram (p : Port) (len : Nat) (s : State) : Host.Outcome State Fault Refusal :=
  .next (let v := len % 64 * 256 + 16 + 1
    s.access p 0x58 0x90 v (fun s => s.writeFlCmd v))

/-- FLASH_ERASE: FL_CMD with OP erase and GO (R469). -/
def execFlashErase (p : Port) (s : State) : Host.Outcome State Fault Refusal :=
  .next (s.access p 0x58 0x90 33 (fun s => s.writeFlCmd 33))

/-- FLASH_CMD_DONE: the flash command completes: `res` 0 done, 2 timeout, 4 the hub uses the flash (R469, R470). -/
def execFlashCmdDone (res : Nat) (s : State) : Host.Outcome State Fault Refusal := .next (s.flashDone res)

/-- A write of PROG_CTRL that starts operation `op`. -/
def State.progWrite (s : State) (p : Port) (op g : Nat) : State :=
  s.access p 0x5A 0x2C0 (256 + 16 * op + g) (fun s => s.writeProgCtrl (256 + 16 * op + g))

/-- PROGRAM_GENERATION: OP 0, GEN as it stands (R465). -/
def execProgramGeneration (p : Port) (s : State) : Host.Outcome State Fault Refusal :=
  .next (s.progWrite p 0 (s.rd OTP.PROG_CTRL_GEN % 4))

/-- RETIRE: OP 1 of generation `g` (R465). -/
def execRetire (p : Port) (g : Nat) (s : State) : Host.Outcome State Fault Refusal := .next (s.progWrite p 1 (g % 4))

/-- PROGRAM_KEY: OP 2 (R465). -/
def execProgramKey (p : Port) (s : State) : Host.Outcome State Fault Refusal :=
  .next (s.progWrite p 2 (s.rd OTP.PROG_CTRL_GEN % 4))

/-- SET_KILL_EN: OP 3 (R465). -/
def execSetKillEn (p : Port) (s : State) : Host.Outcome State Fault Refusal :=
  .next (s.progWrite p 3 (s.rd OTP.PROG_CTRL_GEN % 4))

/-- OTP_PROG_DONE: the OTP operation completes; `ok` says its read-back agrees (R465, R472). -/
def execOtpProgDone (ok : Bool) (s : State) : Host.Outcome State Fault Refusal := .next (s.progDone ok)

end Sys2Proof.Machine
end

