-- ==== Sys2Proof/Machine/Phy.lean ====
section
/-! DEFINITION. Commands of bring-up and of links going up and down (R66-R75, R82-R87, R156, R157). -/

namespace Sys2Proof.Machine

/-- PHY_BRING_UP_START: a port with its domain on, ENABLE and AUTO_TRAIN set (or told to retrain) leaves
step 1 once a reference is available, which crystal holdover always is (R57, R73); so does a port that has waited in hold-off
for AUTO_TRAIN (R75). -/
def execPhyBringUpStart (l : Link) (s : State) : Host.Outcome State Fault Refusal :=
  .next (if s.linkAllowed l && (s.linkState l = 1 ||
      ((s.linkState l = 0 || (s.linkState l = 9 && !s.running (tPhy l))) && s.autoTrain l)) then
      (s.linkRestart l).setLinkState l 2
    else s)

/-- LANE_PLL_LOCKED: the lane PLLs lock and training begins, to end within 500 ms; the training frames of a ring port name
the acting master the hub follows, or itself (R64, R73). -/
def execLanePllLocked (l : Link) (s : State) : Host.Outcome State Fault Refusal :=
  .next (if s.linkState l = 2 then
      let s1 := (s.setLinkState l 3).start (tPhy l) (ms 500)
      match l with
      | .ring d => s1.emit (.maint d.code (.training s1.namedMaster.1 s1.namedMaster.2))
      | .twin => s1
    else s)

/-- The transmit equaliser set at the far receiver's request (R66, R82). -/
def State.setFfe (s : State) (l : Link) (v0 v1 : Nat) : State :=
  match l with
  | .ring d =>
    let f (s : State) (i v : Nat) : State :=
      ((s.wrn d.n PHY.TX_FFE_POST (bits v 16 8) i).wrn d.n PHY.TX_FFE_MAIN (bits v 8 8) i).wrn d.n PHY.TX_FFE_PRE (bits v 0 8) i
    f (f s 0 v0) 1 v1
  | .twin => ((s.wr TWINLINK.TX_FFE_POST (bits v0 16 8)).wr TWINLINK.TX_FFE_MAIN (bits v0 8 8)).wr TWINLINK.TX_FFE_PRE (bits v0 0 8)

/-- TRAINING_COMPLETE: training ends before its limit and the ends switch to PAM4. Precoding turned off at
one end only fails the lane (R65). Training frames may name another acting master, of which an acting master learns on its
west port (R64). -/
def execTrainingComplete (l : Link) (ffe0 ffe1 : Nat) (farNoPrecode : Bool) (named : Option (Nat × Nat)) (s : State) :
    Host.Outcome State Fault Refusal :=
  .next (
    let own := match l with
      | .ring d => s.flagn d.n PHY.PHY_CTRL_PRECODE_DIS
      | .twin => false
    let s0 := match named, l with
      | some (n, r), .ring d => if n ≠ s.nodeId && (d = .west || !s.acting) then s.learnMaster n r else s
      | _, _ => s
    if s0.linkState l = 3 && !s0.due (tPhy l) && own = farNoPrecode then
      ((s0.setFfe l ffe0 ffe1).setLinkState l 4).stop (tPhy l)
    else s0)

/-- TRAIN_FAIL: training that has not ended within 500 ms raises TRAIN_FAIL and sends the port to hold-off
with cause 8; a failing lane 1 makes the hub wish to shed its direction, for which the model takes the one the port sends
in, unless POLICY forces two lanes (R73, R80, log 63). -/
def execTrainFail (l : Link) (lane1Only : Bool) (s : State) : Host.Outcome State Fault Refusal :=
  .next (if s.linkState l = 3 && s.due (tPhy l) then
      let s1 := match l with
        | .ring d =>
          let s1 := s.raise (8 + d.n) 4
          if lane1Only && s.rdn d.n MAC.LANE_CTRL_POLICY ≠ 1 then s1.wrn d.n MAC.LANE_STAT_FAULT_WISH 1 else s1
        | .twin => s
      s1.linkDown l 8
    else match l with
      | .ring d =>
        if lane1Only && (s.lane d).prep then
          (if s.rdn d.n MAC.LANE_CTRL_POLICY ≠ 1 then (s.raise (8 + d.n) 4).wrn d.n MAC.LANE_STAT_FAULT_WISH 1
           else s.raise (8 + d.n) 4)
        else s
      | .twin => s)

/-- A tap within its range: ±0.5 of the main cursor for tap 1, ±0.15 for the others, in units of 1/4,096 (R66, R82). -/
def tapValue (k v : Nat) : Nat :=
  let lim : Int := if k = 1 then 2048 else 614
  ofSigned 16 (max (-lim) (min lim (toSigned 16 v)))

/-- The measured eye of a lane of a ring port: EYE_LOW when its height falls below EYE_MIN (R82). -/
def State.setEye (s : State) (d : Side) (lane width height : Nat) : State :=
  let old := s.rdn d.n PHY.EYE_HEIGHT lane
  let s1 := (s.wrn d.n PHY.EYE_WIDTH width lane).wrn d.n PHY.EYE_HEIGHT height lane
  let m := s.rdn d.n PHY.EYE_MIN_HEIGHT
  if m ≤ old && decide (height % 2 ^ 16 < m) then s1.raise (8 + d.n) 3 else s1

/-- The taps of a lane of a ring port, tap 1 also in RX_EQ (R66, R82). -/
def State.setTaps (s : State) (d : Side) (lane : Nat) (taps : List Nat) : State :=
  ((List.range (min 12 taps.length)).foldl (fun (t : State) k =>
    t.wrn d.n PHY.DFE_VAL_VALUE (tapValue (k + 1) (taps.getD k 0)) (16 * lane + k + 1)) s).wrn d.n PHY.RX_EQ_TAP1
    (if taps = [] then s.rdn d.n PHY.RX_EQ_TAP1 lane else tapValue 1 (taps.getD 0 0)) lane

/-- The receive equaliser of a lane of a ring port has adapted: peaking up to 12 dB, and the taps unless DFE_FREEZE holds
them (R66). -/
def State.adaptLane (s : State) (d : Side) (lane ctle eye : Nat) (taps : List Nat) : State :=
  let s1 := (s.wrn d.n PHY.RX_EQ_CTLE (min 12 ctle) lane).setEye d lane (bits eye 16 16) (bits eye 0 16)
  if s.flagn d.n PHY.PHY_CTRL_DFE_FREEZE then s1 else s1.setTaps d lane taps

/-- The receive equaliser of the twin link, likewise (R156, R185). -/
def State.adaptTwin (s : State) (ctle eye : Nat) (taps : List Nat) : State :=
  let s1 := ((s.wr TWINLINK.RX_EQ_CTLE (min 12 ctle)).wr TWINLINK.EYE_WIDTH (bits eye 16 16)).wr TWINLINK.EYE_HEIGHT (bits eye 0 16)
  if s.flag TWINLINK.LINK_CTRL_DFE_FREEZE then s1
  else match taps with
    | [] => s1
    | v :: _ => s1.wr TWINLINK.RX_EQ_TAP1 (tapValue 1 v)

/-- Lane 1 of a port's receive side has power: not on a port that is up in one-lane mode, but for a join's preparation (R78,
R79). -/
def State.lane1On (s : State) (d : Side) : Bool :=
  s.linkState (.ring d) ≠ 8 || s.laneMode (.ring d.opp) = 2 || (s.lane d.opp).prep

/-- EQ_ADAPTED: the receive equalisers have adapted; the peaking, the eyes and the taps (twelve of lane 0, then twelve of lane
1) are shown. In step 4 the codeword search begins; on a port that is up the adaptation goes on, unless DFE_FREEZE is 1
(R66, R73, R82). -/
def execEqAdapted (l : Link) (ctle0 ctle1 eye0 eye1 : Nat) (taps : List Nat) (s : State) : Host.Outcome State Fault Refusal :=
  .next (
    let frozen := match l with
      | .ring d => s.flagn d.n PHY.PHY_CTRL_DFE_FREEZE
      | .twin => s.flag TWINLINK.LINK_CTRL_DFE_FREEZE
    if s.linkState l = 4 || (s.linkState l = 8 && !frozen) then
      let s1 := match l with
        | .ring d =>
          let s1 := s.adaptLane d 0 ctle0 eye0 (taps.take 12)
          if s.lane1On d then s1.adaptLane d 1 ctle1 eye1 ((taps.drop 12).take 12) else s1
        | .twin => s.adaptTwin ctle0 eye0 taps
      if s.linkState l = 4 then s1.setLinkState l 5 else s1
    else s)

/-- CODEWORD_LOCK: the receiver locks when four consecutive codewords decode; `good` is how many have. The
twin link omits the deskew step (R69, R73, R156). -/
def execCodewordLock (l : Link) (good : Nat) (s : State) : Host.Outcome State Fault Refusal :=
  .next (if s.linkState l = 5 && decide (4 ≤ good) then
      match l with
      | .ring d => (s.wrn d.n PHY.PHY_STAT_CW_LOCK (if s.laneMode (.ring d.opp) = 2 then 3 else 1)).setLinkState l 6
      | .twin => (s.setLinkState l 7).start (tQual l) (ms 1)
    else s)

/-- DESKEW_DONE: the lane markers set the lane skew and qualification begins. An exchange of the lanes
fails deskew, and the step does not end (R55, R69, R73). -/
def execDeskewDone (d : Side) (swapped : Bool) (skewUi : Nat) (s : State) : Host.Outcome State Fault Refusal :=
  .next (if s.linkState (.ring d) = 6 && !swapped then
      ((s.updPhy (.ring d) (fun p => { p with skew := skewUi })).setLinkState (.ring d) 7).start (tQual (.ring d)) (ms 1)
    else s)

/-- The port comes up: LINK_UP is raised, the counters start, the first 1 ms window starts, held frames are
released (R73 step 8, R74, R83, R145). -/
def State.linkUp (s : State) (l : Link) : State :=
  let s1 := (((s.setLinkState l 8).setSynt l 1).updPhy l (fun p =>
    { p with farReady := true, winCnt := 0, upAt := some s.mono })).start (tUnc l) (ms 1)
  let s2 := match l with
    | .ring d =>
      let s2 := ((s1.clrFields d.n [PHY.CW_COUNT, PHY.CORR_COUNT, PHY.UNC_COUNT]).showLanes d true).updRx d (fun _ => {})
      if s2.laneMode (.ring d.opp) = 2 then (s2.cwFrom l 0).cwFrom l 1 else s2.cwFrom l 0
    | .twin => (s1.clrFields 0 [TWINLINK.CW_COUNT, TWINLINK.CORR_COUNT, TWINLINK.UNC_COUNT]).cwFrom l 0
  (s2.raise (phyPage l) 0).portUp l.code

/-- LINK_QUALIFIED: 1 ms has passed without an uncorrectable codeword; the end sends lane-ready blocks. Twin
ends that report one index set INDEX_CLASH instead, refuse a RUN request in progress with cause 6 and go down with
cause 9; the condition ends at a bring-up that reports the other index (R14, R73). -/
def execLinkQualified (l : Link) (peerIndex : Nat) (s : State) : Host.Outcome State Fault Refusal :=
  .next (if s.linkState l = 7 && s.due (tQual l) then
      if l = .twin && s.isTwin && peerIndex = s.otp.index then
        (((s.wr TWINLINK.LINK_STAT_INDEX_CLASH 1).raise 0x0C 3).loseReq 6).linkDown l 9
      else
        let s0 := if l = .twin then s.wr TWINLINK.LINK_STAT_INDEX_CLASH 0 else s
        let s1 := (((s0.updPhy l (fun p => { p with qualified := true })).setSynt l 1).stop (tQual l)).emit (.maint l.code (.laneReady 0))
        if (s1.phyOf l).farReady then s1.linkUp l else s1
    else s)

/-- LINK_UP: the far end's lane-ready blocks arrive; the port is up once this end has qualified (R73). -/
def execLinkUp (l : Link) (s : State) : Host.Outcome State Fault Refusal :=
  .next (if s.linkState l = 7 then
      (if (s.phyOf l).qualified then s.linkUp l else s.updPhy l (fun p => { p with farReady := true }))
    else s)

/-- The lanes' codeword boundaries lie outside ±2 UI of the skew measured at deskew (R69, R74). -/
def State.skewed (s : State) (l : Link) (skewUi : Nat) : Bool :=
  decide ((s.phyOf l).skew + 2 < skewUi) || decide (skewUi + 2 < (s.phyOf l).skew)

/-- LINK_DOWN: a condition of R74 takes the port down. A junction link never goes down as unsyntonised, and the twin link
never on skew (R156, R157). -/
def execLinkDown (l : Link) (cause : DownCause) (s : State) : Host.Outcome State Fault Refusal :=
  let c := cause.code
  .next (if s.linkState l = 8 && !(c = 4 && !s.skewed l cause.skewUi) && !(l = .twin && (c = 4 || (c = 5 && s.role = 2)))
    then s.linkDown l c else s)

/-- A transit frame in progress on port `d` is ended with a count-31 terminate block, at once or where the transit buffer
sends it, and the port skips to the next frame start (R101, R124). -/
def State.abandonTransit (s : State) (d : Side) : State :=
  match (s.rxOf d).kind with
  | .express | .ordinary =>
    let s1 := ((s.emit (.abandon d.opp.code)).satn d.n MAC.RX_ERRORED_COUNT).updRx d (fun r => { r with kind := .skip })
    (s1.satn d.opp.n MAC.ABANDONED_COUNT).updTx d.opp (fun t => { t with cur := .idle })
  | .buffered =>
    ((s.satn d.n MAC.RX_ERRORED_COUNT).updRx d (fun r => { r with kind := .skip })).updTx d.opp (fun t => t.cutLast 2)
  | .idle => s
  | _ => s.updRx d (fun r => { r with errored := true })

/-- The fixed 1 ms windows, counted from link-up, that have ended by now start anew (R74). -/
def State.rollWindow (s : State) (l : Link) : State :=
  match Tbl.find s.timers (tUnc l) with
  | none => s
  | some t =>
    if s.mono < t then s
    else (s.updPhy l (fun p => { p with winCnt := 0 })).start (tUnc l) (t + ((s.mono - t) / ms 1 + 1) * ms 1 - s.mono)

/-- UNCORRECTABLE_CODEWORD: its ten blocks are errored, the codeword is counted and raised, and three in a
row on the lane or more than UNC_LIMIT in the window take the port down. `follows` says that the lane's
previous codeword was uncorrectable too (R72, R74, R83, R101). -/
def execUncorrectableCodeword (l : Link) (lane : Nat) (follows : Bool) (s : State) : Host.Outcome State Fault Refusal :=
  .next (if s.linkState l = 7 then s.start (tQual l) (ms 1)
    else if s.linkState l = 8 then
      let s := s.rollWindow l
      let p := s.phyOf l
      let run := (if follows then (if lane = 0 then p.run0 else p.run1) else 0) + 1
      let s1 := match l with
        | .ring d => (s.satn d.n PHY.UNC_COUNT (lane % 2)).abandonTransit d
        | .twin => s.sat TWINLINK.UNC_COUNT
      let s2 := s1.updPhy l (fun p =>
        { p with winCnt := p.winCnt + 1, run0 := if lane = 0 then run else p.run0, run1 := if lane = 0 then p.run1 else run })
      let s3 := s2.raise (phyPage l) 2
      if 3 ≤ run then s3.linkDown l 2
      else if s3.uncLimit l < p.winCnt + 1 then s3.linkDown l 3
      else s3
    else s)

/-- UNC_WINDOW_END: the fixed 1 ms window ends and the next starts (R74). -/
def execUncWindowEnd (l : Link) (s : State) : Host.Outcome State Fault Refusal :=
  .next (s.rollWindow l)

/-- EYE_LOW: a lane's eye height is measured on a link whose equalisers have adapted; falling below EYE_MIN it raises EYE_LOW
(R82). The twin link shows the height and has no such event (R186). -/
def execEyeLow (l : Link) (lane height : Nat) (s : State) : Host.Outcome State Fault Refusal :=
  .next (if s.linkState l < 5 || s.linkState l = 9 then s
    else match l with
      | .ring d =>
        if lane % 2 = 1 && !s.lane1On d then s
        else s.setEye d (lane % 2) (s.rdn d.n PHY.EYE_WIDTH (lane % 2)) height
      | .twin => s.wr TWINLINK.EYE_HEIGHT height)

/-- RETRAIN takes the port down with cause 7 and restarts it at step 1; a port whose hold-off is over
restarts at once (R74, R75, R82). -/
def State.retrain (s : State) (l : Link) : State :=
  if !s.linkAllowed l then s
  else if s.linkState l = 0 || (s.linkState l = 9 && !s.running (tPhy l)) then s.linkRestart l
  else if s.linkState l = 9 then s.setRetrain l 1
  else (s.setRetrain l 1).linkDown l 7

/-- RETRAIN: a write of PHY_CTRL.RETRAIN or LINK_CTRL.RETRAIN (R74, R82, R185). -/
def execRetrain (p : Port) (l : Link) (s : State) : Host.Outcome State Fault Refusal :=
  let v := match l with
    | .twin => 4 + 2 * s.rd TWINLINK.LINK_CTRL_DFE_FREEZE + s.rd TWINLINK.LINK_CTRL_AUTO_TRAIN
    | .ring d => 8 + 4 * s.rdn d.n PHY.PHY_CTRL_DFE_FREEZE + 2 * s.rdn d.n PHY.PHY_CTRL_PRECODE_DIS + s.rdn d.n PHY.PHY_CTRL_AUTO_TRAIN
  .next (s.access p (phyPage l) 0x40 v (fun s => s.retrain l))

/-- HOLDOFF_EXPIRY: after HOLDOFF the port returns to step 1 if AUTO_TRAIN is 1, otherwise it waits for
RETRAIN; a ring port that is not enabled in bypass waits until it is (R75, R118). -/
def execHoldoffExpiry (l : Link) (s : State) : Host.Outcome State Fault Refusal :=
  .next (if s.linkState l = 9 && s.due (tPhy l) then
      (if s.linkAllowed l && (s.autoTrain l || (match l with
          | .ring d => s.flagn d.n PHY.PHY_CTRL_RETRAIN
          | .twin => s.flag TWINLINK.LINK_CTRL_RETRAIN))
        then s.linkRestart l else s.stop (tPhy l))
    else s)

end Sys2Proof.Machine
end

