-- ==== Sys2Proof/Machine/Pins.lean ====
section
/-! DEFINITION. Commands of the field pins: bit slots, armed actions, input edges, bank supplies (R234, R262-R264,
R269, R270, R281, R285-R288). -/

namespace Sys2Proof.Machine

/-- The samples of a bit slot go into the input buffers of the pins. The spec does not say which sample a full buffer loses:
the newest or, where the pin's bit of `oldest` is set, the oldest, by a free value (log 17). -/
def PinUnit.addSample (u : PinUnit) (sample oldest : Nat) : PinUnit :=
  { u with inbuf := (List.range (min 8 u.cnt)).foldl (fun t r => Tbl.upd [] t r (fun (l : List Bool) =>
      if l.length < 32 then l ++ [bitOf sample r]
      else if bitOf oldest r then l.drop 1 ++ [bitOf sample r] else l)) u.inbuf }

/-- Some pin's input buffer is full. -/
def PinUnit.inFull (u : PinUnit) : Bool :=
  (List.range (min 8 u.cnt)).any (fun r => decide (32 ≤ (Tbl.get [] u.inbuf r).length))

/-- The levels of the context's held pins, one bit a pin. -/
def State.samplePins (s : State) (u : PinUnit) : Nat :=
  (List.range (min 8 u.cnt)).foldl (fun v r => if s.readPin (u.base + r) then v + 2 ^ r else v) 0

/-- The pin unit samples its inputs (R262). -/
def State.sampleSlot (s : State) (e c : Nat) : State :=
  let v := s.samplePins (s.ctx e c).pin
  let s1 := if (s.ctx e c).pin.inFull then s.draw.2 else s
  s1.updCtx e c (fun x => { x with pin := x.pin.addSample v s.draw.1 })

/-- SETs with SYNC act at the start of their slot (R264). -/
def State.syncSets (s : State) (e c t : Nat) (l : List (Bool × Nat × Nat)) : State :=
  l.foldl (fun s x => if x.1 then s.setDirs e c x.2.1 x.2.2 else s.setLevels e c x.2.1 x.2.2 t 0) s

/-- Clock pins take a level, CPOL or its opposite (R263). -/
def State.setClocks (s : State) (e c t : Nat) (rest : Bool) (l : List (Nat × Bool)) : State :=
  l.foldl (fun s k => s.setLevel e c k.1 (k.2 == rest) t 0) s

/-- A slot begins: its SETs act, its bits are driven, with the clocks at CPOL for a clocked slot; without a clock the input is
sampled now (R262-R264). -/
def State.driveSlot (s : State) (e c t : Nat) : State :=
  match (s.ctx e c).pin.outq with
  | q :: rest =>
    let s1 := s.updCtx e c (fun x => { x with pin := { x.pin with outq := rest } })
    let s2 := ((s1.syncSets e c t q.sets).setLevels e c q.mask q.value t 0).setClocks e c t true q.clk
    if q.clk = [] then s2.sampleSlot e c
    else s2.updCtx e c (fun x => { x with pin := { x.pin with half := q.clk } })
  | [] => s.sampleSlot e c

/-- The clocks of the last slot return to CPOL (R263). -/
def State.restClock (s : State) (e c t : Nat) : State :=
  let l := (s.ctx e c).pin.rest
  if l = [] then s
  else (s.setClocks e c t true l).updCtx e c (fun x => { x with pin := { x.pin with rest := [] } })

/-- The mid edge of a clocked slot: the clocks take the opposite level and the input is sampled, unless the pins
have frozen meanwhile (R235, R262, R263). -/
def State.midEdge (s : State) (e c t : Nat) : State :=
  let l := (s.ctx e c).pin.half
  let s1 := (s.setClocks e c t false l).updCtx e c (fun x => { x with pin := { x.pin with half := [], rest := l } })
  if (s1.ctx e c).pin.frozen then s1 else (s1.sampleSlot e c).feed e c

/-- The next event of a context's bit grid, if its time has come: the middle of a clocked slot, or the start of the
next slot (R234, R287). -/
def State.bitSlot (s : State) (e c : Nat) : State :=
  let x := s.ctx e c
  let u := x.pin
  let per := s.bitPeriod e c
  if !x.run then s
  else if u.half ≠ [] then
    (if u.midTime per (u.slot - 1) ≤ s.fab then s.midEdge e c (roundNs (u.midTime per (u.slot - 1))) else s)
  else if s.fab < u.slotTime per u.slot then s
  else
    let t := roundNs (u.slotTime per u.slot)
    let s1 := s.restClock e c t
    if u.frozen then s1
    else
      let s2 := s1.updCtx e c (fun x => { x with pin := { x.pin with slot := x.pin.slot + 1 } })
      (s2.driveSlot e c t).feed e c

/-- BIT_SLOT (R234, R262, R263). -/
def execBitSlot (e c : Nat) (s : State) : Host.Outcome State Fault Refusal := .next (s.bitSlot e c).drain

/-- What an armed action does at its time (R269). -/
def State.perform (s : State) (e c : Nat) (at_ : Int) (act pin t : Nat) : State :=
  match act with
  | 0 => (s.setDirs e c (2 ^ pin) (2 ^ pin)).setLevel e c pin false t 1
  | 1 => (s.setDirs e c (2 ^ pin) (2 ^ pin)).setLevel e c pin true t 1
  | 2 => (s.setDirs e c (2 ^ pin) (2 ^ pin)).pinEvent e c pin none t 1
  | 3 => s.setDirs e c (2 ^ pin) 0
  | 4 => s.updCtx e c (fun x => { x with pin := { x.pin with origin := at_.toNat, slot := 0, inbuf := [] } })
  | _ => s

/-- TTRIG_ACTION_FIRE: at T, or at once when late, the action is performed and disarms; frozen or stopped pins
discard it and set MISS (R269, R270). -/
def execTtrigActionFire (e c : Nat) (s : State) : Host.Outcome State Fault Refusal :=
  .next (match (s.ctx e c).action with
    | some (at_, act, pin, late) =>
      if late || decide (at_ ≤ (s.fab : Int)) then
        let x := s.ctx e c
        let s1 := s.updCtx e c (fun x => { x with action := none })
        if x.run && !x.pin.frozen then s1.perform e c at_ act pin (roundNs (if late then s.fab else at_.toNat))
        else s1.updCtx e c (fun x => { x with miss := true })
      else s
    | none => s)

/-- The periods a level must last to be accepted (R285). -/
def State.filterLen (s : State) (p : Nat) : Nat :=
  let w := s.rdn (p / 32) PINBANK.PIN_CFG_FLT_WIDTH (p % 32)
  if s.rdn (p / 32) PINBANK.PIN_CFG_FLT_UNIT (p % 32) = 1 then 800 * w else w

/-- The first sample of the pin clock at or after a monotonic time: its period is 1.25 ns (R285). -/
def firstSample (t : Nat) : Nat := (t + 79) / 80 * 80


/-- The pin's STAMP selects an edge to `level` (R286, R295). -/
def State.stampSel (s : State) (p : Nat) (level : Bool) : Bool :=
  let k := s.rdn (p / 32) PINBANK.PIN_CFG_STAMP (p % 32)
  if level then k = 1 || k = 3 else k = 2 || k = 3

/-- A stamp goes to the holding context's pending event, which keeps an earlier one (R268, R286). -/
def State.stamp (s : State) (p t : Nat) : State :=
  match s.holder p with
  | none => s
  | some k =>
    (s.updCtx (k / 32) (k % 32) (fun x => if x.pev then x else { x with pev := true, pevNs := t })).incn (p / 32)
      PINBANK.STAMP_CNT_COUNT

/-- The level at a ball becomes the filtered level, and a selected edge is stamped with the fabric time `f` at which it
crossed at the ball, in a bank whose supply is good (R281, R285, R286). -/
def State.acceptEdge (s : State) (pin f : Nat) : State :=
  let i := s.pinIn pin
  let s1 := s.updPinIn pin (fun i => { i with filt := i.ball, since := none })
  if s.stampSel pin i.ball && s.bankOk pin then s1.stamp pin (roundNs f) else s1

/-- PIN_INPUT_CHANGE: the level at a ball changes. A new level starts a run. Of one that returns, a run that was sampled for
the filter time has been accepted, and the return starts a run of its own; a shorter one that was sampled was a glitch
(R285). While the bank's page is unpowered only the ball changes. -/
def execPinInputChange (pin : Nat) (level : Bool) (s : State) : Host.Outcome State Fault Refusal :=
  let i := s.pinIn pin
  let run : State → State := fun (t : State) => t.updPinIn pin (fun i => { i with ball := level, since := some (s.mono, s.fab) })
  let back : State := s.updPinIn pin (fun i => { i with ball := level, since := none })
  .next (
    if 256 ≤ pin || i.ball = level then s
    else if !s.pageOn (0x50 + pin / 32) then back
    else if level ≠ i.filt then run s
    else
      match i.since with
      | some (m, f) =>
        if s.mono ≤ firstSample m then back
        else if firstSample m + 80 * s.filterLen pin ≤ s.mono then run (s.acceptEdge pin f)
        else back.satn (pin / 32) PINBANK.GLITCH_CNT_COUNT
      | none => back)

/-- PIN_EDGE_ACCEPTED: a run that has lasted the filter time is accepted (R285). -/
def execPinEdgeAccepted (pin : Nat) (s : State) : Host.Outcome State Fault Refusal :=
  .next (
    match (s.pinIn pin).since with
    | some (m, f) =>
      if s.pageOn (0x50 + pin / 32) ∧ firstSample m + 80 * s.filterLen pin ≤ s.mono then s.acceptEdge pin f else s
    | none => s)

/-- BANK_SUPPLY_FAIL: the bank's supply has been outside its window for 1 µs (R281). -/
def execBankSupplyFail (b : Nat) (s : State) : Host.Outcome State Fault Refusal :=
  .next (if b < 8 ∧ s.pageOn (0x50 + b) = true then
      ((s.wrn b PINBANK.BANK_STAT_SUPPLY_OK 0).report (0x50 + b) 0).drain
    else s)

/-- BANK_SUPPLY_RETURN: the supply is back in its window; the outputs stay released until the fault is cleared
(R281). -/
def execBankSupplyReturn (b : Nat) (s : State) : Host.Outcome State Fault Refusal :=
  .next (if b < 8 ∧ s.pageOn (0x50 + b) = true then s.wrn b PINBANK.BANK_STAT_SUPPLY_OK 1 else s)

end Sys2Proof.Machine
end

