-- ==== Sys2Proof/Machine/Ring.lean ====
section
/-! DEFINITION. Commands of ring frames, transit, insertion and the bypass relay (R88-R126). -/

namespace Sys2Proof.Machine

/-- FRAME_ARRIVAL: a frame start on ring port `d`, sorted by the rows of R95; `bad` says that its header lies
in an uncorrectable codeword, `stamp` is the ball stamp of its first symbol in 2^-16 ns (R71, R102). -/
def execFrameArrival (d : Side) (f : Frame) (bad : Bool) (stamp : Nat) (s : State) : Host.Outcome State Fault Refusal :=
  .next (if s.linkState (.ring d) = 8 && s.live then s.arrive d f bad stamp else s)

/-- FRAME_TRAILER_ACCEPT: the end of the frame a ring port receives (R94, R101, R110). -/
def execFrameTrailerAccept (d : Side) (errored count31 : Bool) (wireLen : Nat) (s : State) :
    Host.Outcome State Fault Refusal :=
  .next (s.trailer d errored count31 wireLen).drain

/-- JUNCTION_RELAY_RX: a frame relayed by the junction peer: XINGS is incremented; beyond XING_MAX it is
discarded, otherwise placed on this ring in both directions with SRC, SEQ, TC, payload and tag kept (R98). A
time broadcast comes with `stamp`, its receive stamp at the peer, from which each copy's CORR is completed in its slot, and a
copy of it goes to the time unit (R199, R206). -/
def execJunctionRelayRx (f : Frame) (stamp : Nat) (s : State) : Host.Outcome State Fault Refusal :=
  .next (if s.role ≠ 2 || s.linkState .twin ≠ 8 then s
    else
      let g := { f with xings := f.xings + 1, launch := if isBroadcast f then corrLater f.launch stamp else f.launch }
      if s.rd TRANSIT.HOP_CFG_XING_MAX < g.xings then s.satn 0 MAC.REMOVED_XING_COUNT
      else
        let adm := State.admitAll [voqIdx 2 0 g.tc, voqIdx 2 1 g.tc] (cellsOf g) s
        let s1 := adm.2.storeCopies adm.1 (adm.2.placed 0 g) true none 0
        (if isBroadcast f then s1.timeRelayed f else s1).drain)

/-- STREAM_ENTRY_RETIRE: a stream without an acceptance for 10 ms loses its entry (R113). -/
def execStreamEntryRetire (node cls : Nat) (s : State) : Host.Outcome State Fault Refusal :=
  .next { s with win := s.win.filter (fun e => !(e.node = node && e.cls = cls) || s.streamFresh e) }

/-- TRANSIT_CHECK_FAIL: the transit checks fail at an output (`kind` 0 block comparison, 1 HCHK, 2 payload
CRC): the first failure is captured, both outputs go silent, BYPASS_N goes low, the fault is reported
(R116, R117, R121). -/
def execTransitCheckFail (out : Side) (kind : Nat) (s : State) : Host.Outcome State Fault Refusal :=
  .next (
    ((s.transitFail out.code kind).report 0x0E 0).drain)

/-- BYPASS_REJOIN: a write of 1 to BYP_CTRL.REJOIN (R118). -/
def execBypassRejoin (p : Port) (s : State) : Host.Outcome State Fault Refusal :=
  .next (s.access p 0x0E 0x48 (2 + s.rd TRANSIT.BYP_CTRL_FORCE) State.rejoin)

/-- REJOIN_RELAY_WAIT_END: RELAY_WAIT after BYPASS_N went high the ring ports are enabled (R118). -/
def execRejoinRelayWaitEnd (s : State) : Host.Outcome State Fault Refusal :=
  .next (if s.byp.waiting then s.whenDue tRelay State.portsEnabled else s)

/-- BYPASS_FORCE: a write of BYP_CTRL.FORCE (R118). -/
def execBypassForce (p : Port) (on : Bool) (s : State) : Host.Outcome State Fault Refusal :=
  .next (s.access p 0x0E 0x48 (bit on) (fun s => s.force on))

/-- INS_PERIOD_START: once fabric time has passed a whole multiple of the period, every quota of the port
restarts; a new INS_PERIOD takes effect at the first multiple of the new period after its write (R105). -/
def execInsPeriodStart (d : Side) (s : State) : Host.Outcome State Fault Refusal :=
  .next (s.insStart d)

/-- INSERTION: a slot of an idle ring output: the gate starts a local frame or a frame of the transit buffer
by precedence; `expressAt` is how many bytes ahead the visible input shows an express frame start,
`visible` how many bytes it shows (R103, R104, R211). -/
def execInsertion (d : Side) (expressAt : Option Nat) (visible : Nat) (s : State) : Host.Outcome State Fault Refusal :=
  .next (s.insert d expressAt visible)

end Sys2Proof.Machine
end

