-- ==== Sys2Proof/Machine/Switch.lean ====
section
/-! DEFINITION. Commands of the switch core, the buffer and the arbiters (R127-R155). -/

namespace Sys2Proof.Machine

/-- COPY_ADMISSION: a unit behind switch input P3 to P7 offers a frame; each of its copies is admitted or
discarded, and an admitted frame takes its number and is stored once (R108, R109, R132, R134, R135). -/
def execCopyAdmission (inp : Nat) (f : Frame) (s : State) : Host.Outcome State Fault Refusal :=
  .next (if 3 ≤ inp ∧ inp ≤ 7 ∧ s.live then (s.send inp f).2.drain else s)

/-- ARBITRATION_GRANT: output `p` arbitrates if it holds no grant and can take a frame; at P0 and P1 among the
rank the insertion gate offers (R140, R142). -/
def execArbitrationGrant (p : Nat) (s : State) : Host.Outcome State Fault Refusal :=
  .next (match p with
    | 0 => if s.outUp .east && (s.txOf .east).cur = .idle then s.ringArbitrate .east else s
    | 1 => if s.outUp .west && (s.txOf .west).cur = .idle then s.ringArbitrate .west else s
    | _ => if p ≤ 7 && (s.out p).grant.isNone && s.outOpen p then s.arbitrate p (List.range 8) else s)

/-- A frame of output P2 to P7 has been passed to its unit (R20, R142): over P2 it goes to the junction peer, a time broadcast with its receive stamp (R199),
otherwise it waits in its unit's inbox. -/
def State.unitSent (s : State) (p : Nat) : State :=
  let r := s.popGranted p
  match r.1 with
  | none => r.2
  | some (_, c) =>
    if p = 2 then
      (match corrRef c.frame with
       | some t => (r.2.emit (.frame 2 { c.frame with launch := c.frame.launch % 2 ^ 64 })).emit (.item "RX_STAMP" [t])
       | none => r.2.emit (.frame 2 c.frame))
    else
      let s1 := { (r.2.emit (.deliver p c.frame)) with inbox := r.2.inbox ++ [(p, c.frame)] }
      if p = 4 ∨ p = 5 then s1.touchOut p else s1

/-- FRAME_SENT: the granted frame of output `p`, or the frame of the transit buffer a ring output sends, has
been passed on in full; its cells are released (R130, R142). -/
def execFrameSent (p : Nat) (s : State) : Host.Outcome State Fault Refusal :=
  .next (match p with
    | 0 => s.ringSent .east
    | 1 => s.ringSent .west
    | _ => if p ≤ 7 then s.unitSent p else s)

/-- LFSR_SEED: a write of LFSR_SEED loads the shift register of the output LFSR_SEL names; zero is ignored
(R141, R154). -/
def execLfsrSeed (p : Port) (seed : Nat) (s : State) : Host.Outcome State Fault Refusal :=
  .next (s.access p 0x12 0x5C seed (fun s =>
    if seed % 2 ^ 32 = 0 then s else { s with lfsr := s.lfsr.set (s.rd ARB.LFSR_SEL_OUTPUT) (seed % 2 ^ 32) }))

/-- A write of VOQ_MIN for queue `v`: ignored where input equals output and where MIN_SUM would exceed 8,192
(R127, R133). -/
def State.voqMin (s : State) (v m : Nat) : State :=
  let old := s.rd BUFFER.VOQ_MIN_MIN v
  let sum := s.rd BUFFER.MIN_SUM_SUM - old + m % 256
  if v / 64 = outOf v || decide (8192 < sum) then s
  else (s.wr BUFFER.VOQ_MIN_MIN m v).wr BUFFER.MIN_SUM_SUM sum

/-- VOQ_MIN_WRITE: a write of VOQ_MIN for the queue VOQ_SEL names (R133, R152). -/
def execVoqMinWrite (p : Port) (v : Nat) (s : State) : Host.Outcome State Fault Refusal :=
  .next (s.access p 0x11 0x44 v (fun s => s.voqMin (s.rd BUFFER.VOQ_SEL_INDEX) v))

/-- BANK_FENCE: an uncorrectable ECC error in bank `b`: a contained fault that fences the bank (R136). -/
def execBankFence (b : Nat) (s : State) : Host.Outcome State Fault Refusal :=
  .next (if b < 16 then (s.report 0x11 b b).drain else s)

/-- What the auditor finds of a cell: 0 in order, 1 cross-link, 2 suspect (R137). -/
def State.auditCell (s : State) (c : Nat) : Nat :=
  let e := s.cell c
  let free := !s.buf.offFree.contains c
  if free then (if e.st = 0 then 0 else 1)
  else if e.st = 2 then
    (if (s.voq e.owner).q ≠ [] && (s.voq e.owner).gen % 16 = e.gen then 0 else 2)
  else if e.st = 3 then
    let p := e.owner % 8
    let reading := match (s.out p).grant with
      | some v => (match (s.voq v).q with | k :: _ => k.cells.contains c | [] => false)
      | none => false
    let writing := (List.range 64).any (fun k => (s.voq (64 * p + k)).q.any (fun k => !k.accepted && k.cells.contains c))
    if (reading || writing) && (s.out p).gen % 16 = e.gen then 0 else 2
  else if e.st = 1 then (if s.bankFenced (c / 1536) then 0 else 2)
  else 2

/-- A leak or cross-link of cell `c` is recorded (R138, R139). -/
def State.leakLast (s : State) (c : Nat) (bitNo : Nat) : State :=
  let e := s.cell c
  (((((s.sat BUFFER.LEAK_CNT_COUNT).wr BUFFER.LEAK_LAST_VALID 1).wr BUFFER.LEAK_LAST_STATE e.st).wr
    BUFFER.LEAK_LAST_OWNER e.owner).wr BUFFER.LEAK_LAST_CELL c).raise 0x11 bitNo

/-- The auditor's decision about one cell (R138, R139): a cell suspect in two passes with one STATE, OWNER
and GEN is a leak and returns to its free list; a cross-linked cell leaves its free list. -/
def State.auditOne (old : Tbl CellEnt) (s : State) (c : Nat) : State :=
  match s.auditCell c with
  | 0 => s
  | 1 => { ((s.leakLast c 1).report 0x11 19 c true) with buf := { s.buf with offFree := insertNat s.buf.offFree c } }
  | _ =>
    let e := s.cell c
    match Tbl.find old c with
    | some o =>
      if o.st = e.st ∧ o.owner = e.owner ∧ o.gen = e.gen then
        let s1 := ((s.leakLast c 0).report 0x11 18 c true).updCell c (fun _ => {})
        { s1 with buf := { s1.buf with offFree := deleteNat s1.buf.offFree c } }
      else { s with buf := { s.buf with suspects := Tbl.put s.buf.suspects c e } }
    | none => { s with buf := { s.buf with suspects := Tbl.put s.buf.suspects c e } }

/-- A pass of the auditor (R137). Only cells whose entry is not FREE or that are off their free list can be
anything but in order. -/
def State.auditPass (s : State) : State :=
  let old := s.buf.suspects
  let cs := (s.buf.cells.map (·.1)).foldl insertNat s.buf.offFree
  (cs.foldl (State.auditOne old) { s with buf := { s.buf with suspects := [] } }).inc BUFFER.AUDIT_PASSES_COUNT

def tAudit : Nat := 50

/-- AUDIT_PASS: the auditor starts a pass every AUDIT_CFG.PERIOD while EN is 1, the first at once (R137, R152, log 65). -/
def execAuditPass (s : State) : Host.Outcome State Fault Refusal :=
  .next (if s.flag BUFFER.AUDIT_CFG_EN && s.pdOn 3 then
      s.every tAudit (s.rd BUFFER.AUDIT_CFG_PERIOD * us 100) (fun s => s.auditPass.drain)
    else s)

/-- HOLD_WINDOW_EXPIRY: the hold window of class `c` at output `p` ends with the port still down: held frames
of the class are discarded with cause 4 (R145). -/
def execHoldWindowExpiry (p c : Nat) (s : State) : Host.Outcome State Fault Refusal :=
  .next (match Tbl.find (s.out p).hold c with
    | some d =>
      if s.holdOver d ∧ (s.out p).down then
        let s2 := (s.updOut p (fun o => { o with hold := Tbl.del o.hold c })).settleOut p
        if (s2.out p).hold = [] then s2.wr SWITCH.PORT_STAT_STATE 1 p else s2
      else s
    | none => s)

end Sys2Proof.Machine
end

