-- ==== Sys2Proof/Machine/Time.lean ====
section
/-! DEFINITION. Commands of fabric time, timed launch and the timed outputs (R191-R222). -/

namespace Sys2Proof.Machine

def tSync : Nat := 100
def tAnnounce : Nat := 101
def tDreq : Nat := 102
def tPdelay (d : Side) : Nat := 103 + d.code

/-- SYNC_SEND: the grandmaster's Sync broadcast every 2^-LOG_SYNC s (R201). -/
def execSyncSend (s : State) : Host.Outcome State Fault Refusal :=
  .next (if !(s.timeOn && s.isGm) then s
    else if !s.candidate then s.resignGm
    else (s.every tSync s.syncInterval State.sendSync).drain)

/-- ANNOUNCE_SEND: the grandmaster's Announce broadcast every second (R201). -/
def execAnnounceSend (s : State) : Host.Outcome State Fault Refusal :=
  .next (if !(s.timeOn && s.isGm) then s
    else if !s.candidate then s.resignGm
    else (s.every tAnnounce (ms 1000) State.sendAnnounce).drain)

/-- DELAY_REQ_SEND: a Delay_Req to the known grandmaster every 2^(LOG_DREQ - 4) s (R202). -/
def execDelayReqSend (s : State) : Host.Outcome State Fault Refusal :=
  .next (if s.timeOn && !s.isGm && s.time.known then
      (s.every tDreq (ms 1000 * 2 ^ s.rd TIME.CFG_LOG_DREQ / 16) State.sendDelayReq).drain
    else s)

/-- PDELAY_REQ_SEND: a link-local Pdelay_Req on a ring port once per second (R203). -/
def execPdelayReqSend (d : Side) (s : State) : Host.Outcome State Fault Refusal :=
  .next (if s.timeOn && s.linkState (.ring d) = 8 then
      s.every (tPdelay d) (ms 1000) (fun s =>
        let msg := s.ptp ptpPdelayReq s.time.pdId 0 0 0 5 0x7F (ptpStamp s.fab16 ++ List.replicate 10 0) (portNo d)
        ({ s with time := { s.time with pdId := (s.time.pdId + 1) % 65536 } }).sendMaint d (.pdelayReq msg))
    else s)

/-- A link-local time message of the wanted kind in this hub's domain (R197, R203). -/
def State.pdelayMsg (s : State) (d : Side) (kind : Nat) (msg : List Byte) : Option Ptp :=
  if s.timeOn && s.linkState (.ring d) = 8 then
    (parsePtp (bnat msg)).filter (fun m => m.kind = kind && m.domain = s.rd TIME.CFG_DOMAIN)
  else none

/-- PDELAY_REQ_RX: answered with a one-step Pdelay_Resp whose correctionField carries the turnaround time from the receive
stamp `t2` to the answer's slot (R203, log 28). -/
def execPdelayReqRx (d : Side) (msg : List Byte) (t2 : Nat) (s : State) : Host.Outcome State Fault Refusal :=
  .next (match s.pdelayMsg d ptpPdelayReq msg with
    | none => s
    | some m =>
      s.sendMaint d (.pdelayResp (s.ptp ptpPdelayResp m.seq 0 ((m.corr - t2).emod (2 ^ 64)).toNat 0 5 0x7F
        (List.replicate 10 0 ++ beBytes 10 m.sender) (portNo d))))

/-- PDELAY_RESP_RX: the answer to the port's outstanding request, received at `t4`, as its common header, receipt timestamp and
requesting port: the segment delay, half of the round trip less the neighbour's turnaround, and the node id of the neighbour
(R203, log 28). -/
def execPdelayRespRx (d : Side) (header receipt : List Byte) (t4 : Nat) (requester : List Byte) (s : State) :
    Host.Outcome State Fault Refusal :=
  .next (match s.pdelayMsg d ptpPdelayResp (header ++ receipt ++ requester), Tbl.find s.time.pdelay d.code with
    | some m, some (i, t1) =>
      if i ≠ m.seq || ofBe ((m.body.drop 10).take 10) ≠ ofBe (s.portId (portNo d)) then s
      else
        let v := (((t4 : Int) - t1 - m.corr) / 2 / 256).emod (2 ^ 32) |>.toNat
        let node := m.sender / 2 ^ 16
        let old := s.rd TIME.SEG_DELAY_DELAY (pathOf d)
        let s1 := (s.wr TIME.SEG_DELAY_DELAY v (pathOf d)).offer (6 + pathOf d) none (v * 1000 / 256 : Nat)
        let s2 := { s1 with time := { s1.time with
          pdelay := Tbl.del s1.time.pdelay d.code, nbr := Tbl.put s1.time.nbr d.code (node % 4096 + 1) } }
        if old + 512 < v ∨ v + 512 < old then s2.raise 0x04 6 else s2
    | _, _ => s)

/-- SYNC_RX: a Sync copy with its ball stamp, on a ring port or in junction mode over the twin link (R195, R199, R200,
R204-R207). -/
def execSyncRx (l : Link) (f : Frame) (stamp : Nat) (s : State) : Host.Outcome State Fault Refusal :=
  .next (s.timeTake l f ptpSync (fun m s =>
    if s.isGm || !s.time.known || s.rd TIME.STAT_GM_NODE ≠ nodeOf f.src then s
    else s.takeSync (pathFrom l f) (ptpStampOf m.body) (s.linkStamp l stamp) (toSigned 64 f.launch))).drain

/-- DELAY_REQ_RX: the grandmaster answers with a Delay_Resp (R201). -/
def execDelayReqRx (d : Side) (f : Frame) (stamp : Nat) (s : State) : Host.Outcome State Fault Refusal :=
  .next (s.timeTake (.ring d) f ptpDelayReq (fun m s =>
    if s.isGm then (s.inc TIME.DREQ_RX_COUNT).sendDelayResp f m (s.rxStamp d stamp) else s)).drain

/-- DELAY_RESP_RX: a path delay sample (R204). -/
def execDelayRespRx (d : Side) (f : Frame) (s : State) : Host.Outcome State Fault Refusal :=
  .next (s.timeTake (.ring d) f ptpDelayResp (fun m s =>
    if s.isGm || !s.time.known || s.rd TIME.STAT_GM_NODE ≠ nodeOf f.src then s else s.takeDelayResp m)).drain

/-- ANNOUNCE_RX: feeds best master selection; the grandmaster's UTC offset is shown (R201, R220). -/
def execAnnounceRx (l : Link) (f : Frame) (s : State) : Host.Outcome State Fault Refusal :=
  .next (s.timeTake l f ptpAnnounce (fun m s =>
    let b := m.body
    let set := [b.getD 13 0, b.getD 14 0, b.getD 15 0, ofBe ((b.drop 16).take 2), b.getD 18 0, ofBe ((b.drop 19).take 8)]
    let s1 := s.select (nodeOf f.src) set
    if !s1.isGm && s1.rd TIME.STAT_GM_NODE = nodeOf f.src then
      (s1.wr TIME.UTC_VALID (bits m.flags 2 1)).wr TIME.UTC_OFFSET (ofBe ((b.drop 10).take 2))
    else s1)).drain

/-- ANNOUNCE_TIMEOUT: a candidate that has heard no Announce for three intervals runs the selection again and,
with no other candidate heard, is elected (R201). -/
def execAnnounceTimeout (s : State) : Host.Outcome State Fault Refusal :=
  .next (if s.timeOn && s.candidate && !s.isGm && decide (s.time.heard + ms 3000 ≤ s.mono) then s.becomeGm else s)

/-- SYNC_TIMEOUT: no accepted Sync for eight intervals: holdover, RATE frozen (R207); while a step is armed STATE
stays awaiting step (R206). -/
def execSyncTimeout (s : State) : Host.Outcome State Fault Refusal :=
  .next (
    let last := max (s.path 0).heard (s.path 1).heard
    if s.timeOn && !s.isGm && !s.flag TIME.CTRL_STEP_ARM && s.rd TIME.STAT_STATE ≠ 4 &&
        decide (last + 8 * s.syncInterval ≤ s.mono) then
      (({ s with time := { s.time with near := 0, far := 0, phase := 0, phaseEnd := 0 } }).setTimeState 4).raise 0x04 4
    else s)

/-- PATH_SYNC_TIMEOUT: the followed path has delivered no accepted Sync for three intervals while the other has: the
servo changes path (R205). -/
def execPathSyncTimeout (s : State) : Host.Outcome State Fault Refusal :=
  .next (
    let cur := s.rd TIME.STAT_PATH
    let w := 3 * s.syncInterval
    if s.timeOn && decide ((s.path cur).heard + w ≤ s.mono) && (s.path (1 - cur)).sync.isSome &&
        decide (s.mono < (s.path (1 - cur)).heard + w) then s.wr TIME.STAT_PATH (1 - cur)
    else s)

/-- STEP_GO steps the counter in LISTEN or SENTINEL, and is refused elsewhere (R206). -/
def State.stepGo (s : State) : State :=
  if s.mode = 2 ∨ s.mode = 1 then s.stepTo s.stepTarget else s.raise 0x04 1

/-- STEP_ARM arms a step: STATE is 1 at once on a hub that is not grandmaster (R206). -/
def State.stepArm (s : State) : State :=
  let s1 := s.wr TIME.CTRL_STEP_ARM 1
  if s.isGm then s1
  else ({ s1 with time := { s1.time with near := 0, far := 0, phase := 0, phaseEnd := 0 } }).setTimeState 1

/-- STEP_GO: a write of CTRL with STEP_GO and HOLD as given (R206, R220). -/
def execStepGo (p : Port) (hold : Bool) (s : State) : Host.Outcome State Fault Refusal :=
  .next (s.access p 0x04 0x58 (2 + 4 * bit hold) (fun s => (s.wr TIME.CTRL_HOLD (bit hold)).stepGo))

/-- STEP_ARM: a write of CTRL with STEP_ARM and HOLD as given (R206, R220). -/
def execStepArm (p : Port) (hold : Bool) (s : State) : Host.Outcome State Fault Refusal :=
  .next (s.access p 0x04 0x58 (1 + 4 * bit hold) (fun s => (s.wr TIME.CTRL_HOLD (bit hold)).stepArm))

/-! ### Timed launch -/

/-- LAUNCH_ELIGIBLE: the launch copies of queue `v` whose time is at most 300 ns ahead become eligible (R211). -/
def execLaunchEligible (v : Nat) (s : State) : Host.Outcome State Fault Refusal :=
  .next (if v < 512 ∧ outOf v < 2 then s.launchJudge v else s)

/-- A copy being sent is past its start. -/
def State.sending (s : State) (v k : Nat) : Bool :=
  k = 0 && (s.txOf (if outOf v = 0 then .east else .west)).cur = .queue v

/-- LAUNCH_DEADLINE: the first launch copy of queue `v` that has not started by L + TOL is discarded (R212). -/
def execLaunchDeadline (v : Nat) (s : State) : Host.Outcome State Fault Refusal :=
  .next (if !(decide (v < 512) && decide (outOf v < 2)) then s
    else
      let q := (s.voq v).q
      let late (k : Nat) : Option (Nat × Copy × Nat) :=
        match q[k]? with
        | none => none
        | some c =>
          match c.launchAt with
          | none => none
          | some l => if s.launchLate v l && c.accepted && !s.sending v k then some (k, c, l) else none
      match (List.range q.length).findSome? late with
      | some (k, c, l) => s.launchMiss v k c l
      | none => s)

/-! ### Timed outputs (R215-R217) -/

/-- The latched configuration of channel `k`; WIDTH is clipped to 10 up to PERIOD - 10 (R216, R218). -/
def State.toutLatch (s : State) (k : Nat) : ToutSched :=
  let per := s.rd TOUT.PERIOD_NS k
  { mode := s.rd TOUT.CFG_MODE k, align := s.flag TOUT.CFG_ALIGN_SEC k, pol := s.flag TOUT.CFG_POL k
    gate := s.flag TOUT.CFG_OWN_GATE k, irq := s.flag TOUT.CFG_EDGE_IRQ k
    start := (s.rd TOUT.START0_SEC_HI k * 2 ^ 32 + s.rd TOUT.START2_SEC_LO k) * 1000000000 + s.rd TOUT.START1_NS k
    period := per, width := max 10 (min (per - 10) (s.rd TOUT.WIDTH_NS k)) }

/-- The channel gives up the schedule in force: its edges up to 200 ns from now stay, as do those of schedules given up
before, and the pulses being driven are finished (R216). -/
def State.runOut (s : State) (h : ToutCh) : ToutCh :=
  let kept : List ToutSched := match h.cur with
    | some x => (match x.next with
      | some e => if e ≤ s.fabNs + 200 then [{ x with stop := some (s.fabNs + 200) }] else []
      | none => [])
    | none => []
  { h with cur := none, old := h.old ++ kept, falls := h.falls.map (fun (f : ToutFall) => { f with own := false }) }

/-- ARM (R216): the configuration is latched; a one-shot less than 200 ns ahead is missed; a periodic channel begins
at its first edge at least 200 ns ahead. -/
def State.toutArm (s : State) (k : Nat) : State :=
  let c := s.toutLatch k
  let s1 := s.updTout k s.runOut
  match c.first (s.fabNs + 200) with
  | some e => (s1.updTout k (fun h => { h with cur := some { c with next := some e } })).wr TOUT.STAT_ARMED 1 k
  | none =>
    if c.mode = 1 then (s1.wr TOUT.STAT_ARMED 0 k).raise 0x05 (3 * k + 1)
    else (s1.updTout k (fun h => { h with cur := some c })).wr TOUT.STAT_ARMED 1 k

/-- DISARM (R216). -/
def State.toutDisarm (s : State) (k : Nat) : State :=
  (s.updTout k s.runOut).wr TOUT.STAT_ARMED 0 k

/-- TOUT_ARM: a write of CTRLk.ARM (R216). -/
def execToutArm (p : Port) (k : Nat) (s : State) : Host.Outcome State Fault Refusal :=
  .next (if k < 4 then s.access p 0x05 (0x58 + 0x20 * k) 1 (fun s => s.toutArm k) else s)

/-- TOUT_DISARM: a write of CTRLk.DISARM (R216). -/
def execToutDisarm (p : Port) (k : Nat) (s : State) : Host.Outcome State Fault Refusal :=
  .next (if k < 4 then s.access p 0x05 (0x58 + 0x20 * k) 2 (fun s => s.toutDisarm k) else s)

/-- The ball is driven: its domain is on and, with OWN_GATE in a twin pair, the ownership condition holds (R217). -/
def State.toutDrives (s : State) (c : ToutSched) : Bool :=
  s.pdOn 6 && (!c.gate || (s.role ≠ 3 && !s.isTwin) || (s.isTwin && s.flag TWIN.STAT_OWN_OUT && !s.flag TWIN.STAT_OWN_IN))

/-- An active edge of a schedule at `e` ns; `own` says that the schedule is the one in force. -/
def State.toutRise (s : State) (k : Nat) (c : ToutSched) (own : Bool) (e : Nat) : State :=
  let s1 := (s.updTout k (fun h => { h with
    falls := h.falls ++ [{ at_ := e + c.width, sched := c, own := own }] })).wr TOUT.STAT_LEVEL 1 k
  if s.toutDrives c then
    let s2 := (s1.inc TOUT.STAT_EDGES k).emit (.item "TOUT" [k, bit (!c.pol), e])
    if c.irq then s2.raise 0x05 (3 * k + 2) else s2
  else s1

/-- An inactive edge; it ends a one-shot with DONE, and the channel disarms unless it has been armed anew. The ball stays
active while another pulse of the channel lasts (R215, R216). -/
def State.toutFall (s : State) (k : Nat) (f : ToutFall) : State :=
  let rest := (s.toutCh k).falls.erase f
  let s1 := s.updTout k (fun h => { h with falls := rest })
  let s2 := if rest ≠ [] then s1
    else
      let t := s1.wr TOUT.STAT_LEVEL 0 k
      if s.toutDrives f.sched then t.emit (.item "TOUT" [k, bit f.sched.pol, f.at_]) else t
  if f.sched.mode ≠ 1 then s2
  else if !f.own then s2.raise 0x05 (3 * k)
  else ((s2.updTout k (fun h => { h with cur := none })).wr TOUT.STAT_ARMED 0 k).raise 0x05 (3 * k)

/-- The schedule after its active edge at `e`. -/
def ToutSched.after (c : ToutSched) (e : Nat) : ToutSched :=
  let n := if c.mode = 2 then c.first (e + 1) else none
  { c with next := match c.stop, n with
    | some t, some x => if x ≤ t then some x else none
    | _, _ => n }

/-- The earliest active edge of a channel: its time, its schedule, and the schedule's place among those that run out (none:
the one in force). -/
def ToutCh.firstRise (h : ToutCh) : Option (Nat × ToutSched × Option Nat) :=
  let edges : List (Nat × ToutSched × Option Nat) :=
    (List.range h.old.length).filterMap (fun i => (h.old[i]?).bind (fun c => c.next.map (fun e => (e, c, some i)))) ++
    (h.cur.bind (fun c => c.next.map (fun e => (e, c, none)))).toList
  edges.foldl (fun a x => match a with | some y => if x.1 < y.1 then some x else some y | none => some x) none

/-- The earliest inactive edge of a channel. -/
def ToutCh.firstFall (h : ToutCh) : Option ToutFall :=
  h.falls.foldl (fun a x => match a with | some y => if x.at_ < y.at_ then some x else some y | none => some x) none

/-- The active edge at `e` of schedule `c` of a channel is driven, and the schedule moves on; one that has run out is
dropped. -/
def State.toutRaise (s : State) (k e : Nat) (c : ToutSched) : Option Nat → State
  | some i => (s.updTout k (fun h => { h with
      old := (h.old.set i (c.after e)).filter (fun (x : ToutSched) => x.next.isSome) })).toutRise k c false e
  | none => (s.updTout k (fun h => { h with cur := some (c.after e) })).toutRise k c true e

/-- TOUT_EDGE: the earliest edge of channel `k` whose time has come is driven, an inactive one first where two fall together
(R215). -/
def execToutEdge (k : Nat) (s : State) : Host.Outcome State Fault Refusal :=
  .next (if !(decide (k < 4) && s.pdOn 6) then s
    else
      let h := s.toutCh k
      let now := s.fabNs
      match h.firstFall, h.firstRise with
      | some f, some r =>
        if f.at_ ≤ r.1 then (if f.at_ ≤ now then s.toutFall k f else s)
        else if r.1 ≤ now then s.toutRaise k r.1 r.2.1 r.2.2 else s
      | some f, none => if f.at_ ≤ now then s.toutFall k f else s
      | none, some r => if r.1 ≤ now then s.toutRaise k r.1 r.2.1 r.2.2 else s
      | none, none => s)

end Sys2Proof.Machine
end

