-- ==== Sys2Proof/Machine/Twin.lean ====
section
/-! DEFINITION. Commands of the twin pair (R156-R190), and the base-cycle boundary (R227). -/

namespace Sys2Proof.Machine

/-- The twin link carries frames. -/
def State.twinUp (s : State) : Bool := s.isTwin && s.linkState .twin = 8

/-- A frame goes out on the twin link: the next heartbeat is due 1 µs later (R171). -/
def State.twinSend (s : State) (e : Emit) : State := (s.emit e).start tHeartbeat (us 1)

/-- A relayed access waits until the last frame of the snapshot has gone out, which has precedence (R171). -/
def State.sendAccess (s : State) : State :=
  if s.twin.access = [] || s.twin.out ≠ [] || !s.twinUp then s
  else ({ s with twin := { s.twin with access := [] } }).twinSend (.item "PEER_ACCESS" s.twin.access)

/-- A heartbeat as the log shows it. -/
def heartbeatNats (h : Heartbeat) : List Nat :=
  [h.role, h.index, h.prefer, bit h.run, bit h.recValid, bit h.stepAll, bit h.safe] ++
  (match h.release with
   | none => [0, 0, 0]
   | some (n, p) => [1, n, bit p]) ++ [bit h.wishE, bit h.wishW]


/-- HEARTBEAT_SEND: due when no frame has been sent for 1 µs, and after every frame of a snapshot that waits (R171). -/
def execHeartbeatSend (s : State) : Host.Outcome State Fault Refusal :=
  .next (if s.twinUp && s.twin.out = [] then s.every tHeartbeat (us 1) (fun s => s.emit (.item "HEARTBEAT" (heartbeatNats s.heartbeat))) else s)

/-- What the peer's heartbeat tells is kept. -/
def State.noteHeartbeat (s : State) (h : Heartbeat) : State :=
  let ann := match h.release with
    | some r => some r
    | none => s.twin.announced.filter (fun a => decide (s.boundary.2 < a.1))
  let s1 := { s with twin := { s.twin with
    peerRun := h.run, peerPref := h.prefer, peerRec := h.recValid, peerStep := h.stepAll, announced := ann
    wishE := h.wishE, wishW := h.wishW } }
  (s1.wr TWIN.STAT_PEER_ROLE h.role).wr TWIN.STAT_PEER_SEEN 1

/-- HEARTBEAT_RX: the peer's role and announcements; SAFE or a fatal fault without a release makes the peer
lost, anything else shows it present (R165, R177). An ALONE twin whose peer has become STANDBY is ACTIVE
(log 27). -/
def execHeartbeatRx (h : Heartbeat) (s : State) : Host.Outcome State Fault Refusal :=
  .next (if !s.twinUp then s
    else
      let s1 := s.peerFrame.noteHeartbeat h
      if h.safe && h.release = none then (s1.peerLost 3).selectRole
      else
        let s2 := { s1 with twin := { s1.twin with lost := false, blocked := s1.twin.blocked && s1.twin.lost } }
        let s3 := if s2.twinRole = 3 && h.role = 2 then s2.setRole 1 else s2
        s3.selectRole)

/-- HEARTBEAT_TIMEOUT: no frame from the peer for HB_TMO (R177). -/
def execHeartbeatTimeout (s : State) : Host.Outcome State Fault Refusal :=
  .next (s.whenDue tHbTmo (fun s => (s.peerLost 2).wr TWIN.STAT_PEER_SEEN 0))

/-- ALONE_WAIT_EXPIRY: the twin becomes ALONE at its next boundary, or stays in LISTEN and raises BLOCKED (R165). -/
def execAloneWaitExpiry (s : State) : Host.Outcome State Fault Refusal :=
  .next (s.whenDue tAlone (fun s =>
    if !s.twin.req || s.twin.nextRole ≠ 0 then s
    else if s.flag TWIN.STAT_OWN_IN then (s.endReq.raise 0x0D 3).start tDomOff (us 1)
    else { s with twin := { s.twin with nextRole := 3 } }))

/-- OWN_IN_CHANGE: the drivers release or may drive again (R166); the times of R167, R168 and R181 begin. -/
def execOwnInChange (level : Bool) (s : State) : Host.Outcome State Fault Refusal :=
  .next (if !s.isTwin || s.flag TWIN.STAT_OWN_IN = level then s
    else
      let s1 := (s.wr TWIN.STAT_OWN_IN (bit level)).showDrivers
      if level then { s1 with twin := { s1.twin with bothAt := if s1.flag TWIN.STAT_OWN_OUT then some s1.mono else none } }
      else { s1 with twin := { s1.twin with bothAt := none, ownInLow := s1.mono } })

/-- OWNERSHIP_CONFLICT: OWN_OUT and OWN_IN both asserted for 100 ns (R168). -/
def execOwnershipConflict (s : State) : Host.Outcome State Fault Refusal :=
  .next (match s.twin.bothAt with
    | none => s
    | some t =>
      if t + ns 100 ≤ s.mono then ((s.report 0x0D 0).ownConflict).drain else s)

/-- INTERLOCK_INCONSISTENCY: OWN_IN deasserted for 1 µs although the peer says it holds ownership (R181). -/
def execInterlockInconsistency (s : State) : Host.Outcome State Fault Refusal :=
  .next (
    let peer := s.rd TWIN.STAT_PEER_ROLE
    if s.twinUp && !s.flag TWIN.STAT_OWN_IN && decide (s.twin.ownInLow + us 1 ≤ s.mono) && (peer = 1 || peer = 3) &&
        s.twin.announced = none then (s.report 0x0D 1).drain
    else s)

/-- OWN_RELEASE_POINT: OWN_SETTLE + 100 ns before the named boundary OWN_OUT is deasserted (R167, R180, R182);
a twin that is no longer ACTIVE drops a planned handover (log 26). -/
def execOwnReleasePoint (s : State) : Host.Outcome State Fault Refusal :=
  .next (match s.twin.release with
    | none => s
    | some (_, at_, kind) =>
      if s.fabNs + s.settleNs + 100 < at_ then s
      else if kind = 0 && s.twinRole ≠ 1 then
        (({ s with twin := { s.twin with release := none } }).wr TWIN.STAT_HANDOVER_PEND 0).wr TWIN.CTRL_HANDOVER 0
      else if !s.flag TWIN.STAT_OWN_OUT then s
      else
        let s1 := s.setOwnOut false
        if kind = 1 then s1.raise 0x0D 1 else s1)

/-- POUR_OVER_SEND: the next frame of the snapshot, at most 4,096 bytes of it; the last one completes it, and an access that
waited follows (R171). -/
def execPourOverSend (s : State) : Host.Outcome State Fault Refusal :=
  .next (if !s.twinUp then s
    else match snapHead s.twin.out with
      | none => s
      | some (num, b, frags) =>
        let j := s.twin.outNext
        let s1 := s.twinSend (.item "POUR" (pourFrame num j s.twin.out))
        if j + 1 < frags then { s1 with twin := { s1.twin with outNext := j + 1 } }
        else ((({ s1 with twin := { s1.twin with out := [], outNext := 0 } }).inc TWIN.SNAP_SENT_COUNT).pourTime b).sendAccess)

/-- The receive store after one more fragment; complete, it becomes the recovery point if it is of the own
capture's boundary (R173). -/
def State.keepFragment (s : State) (num next : Nat) (recs : List SnapRec) : State :=
  let s1 := { s with twin := { s.twin with store := some (num, next, recs), bad := none } }
  match snapHead recs with
  | none => s1.dropPartial
  | some (n, b, frags) =>
    if next < frags then s1
    else if (snapHead s.twin.own).map (·.1) = some n then s1.completeSnap recs n b
    else s1.dropPartial

/-- A fragment that cannot belong to a complete snapshot: the snapshot of its cycle number is partial, counted once (R173). -/
def State.lostFragment (s : State) (num : Nat) : State :=
  if s.twin.bad = some num then s
  else ({ s with twin := { s.twin with store := some (num, 0, []) } }).dropPartial

/-- SNAPSHOT_FRAGMENT_RX: a fragment with the low bits of its cycle number and its index, its CRC good or not,
and the records that end in it (R173, log 21). -/
def execSnapshotFragmentRx (num idx : Nat) (good : Bool) (recs : List SnapRec) (s : State) :
    Host.Outcome State Fault Refusal :=
  .next (if !s.twinUp then s
    else
      let s1 := s.peerFrame
      if s.twinRole ≠ 2 then s1
      else match s1.twin.store with
        | some (n, next, rs) =>
          if n = num then
            (if good && next = idx then s1.keepFragment num (next + 1) (rs ++ recs) else s1.dropPartial)
          else if good && idx = 0 then s1.dropPartial.keepFragment num 1 recs
          else s1.dropPartial.lostFragment num
        | none =>
          if good && idx = 0 && s1.twin.bad ≠ some num then s1.keepFragment num 1 recs else s1.lostFragment num)

/-- RING_OUTPUT_TAKEOVER: remote fault blocks arrive on the port whose output the lost peer drove (R162). -/
def execRingOutputTakeover (d : Side) (s : State) : Host.Outcome State Fault Refusal :=
  .next (if s.isTwin && s.twin.lost && s.byp.ports && !bitOf (s.rd TWIN.STAT_DRIVES) d.code then
      ((s.wr TWIN.STAT_DRIVES (setBit (s.rd TWIN.STAT_DRIVES) d.code)).updTx d (fun t =>
        { t with silent := false })).linkRestart (.ring d)
    else s)

/-- RING_OUTPUT_RETURN: the peer is STANDBY with REC_VALID, so the twin's transmitter on the peer's output goes to
electrical idle (R162). -/
def execRingOutputReturn (d : Side) (s : State) : Host.Outcome State Fault Refusal :=
  .next (if s.isTwin && !s.twin.lost && s.rd TWIN.STAT_PEER_ROLE = 2 && s.twin.peerRec && d.code ≠ s.otp.index &&
        bitOf (s.rd TWIN.STAT_DRIVES) d.code then
      ((s.wr TWIN.STAT_DRIVES (clrBit (s.rd TWIN.STAT_DRIVES) d.code)).updTx d (fun t =>
        { t with silent := true })).portDown d.code
    else s)

/-- HANDOVER: a write of 1 to TWIN.CTRL.HANDOVER (R182). -/
def execHandover (p : Port) (s : State) : Host.Outcome State Fault Refusal :=
  .next (s.access p 0x0D 0x44 1 (fun s => s.handover s.twin.peerStep))

/-- A relayed access ends (R187-R189). -/
def State.relayDone (s : State) (status cause : Nat) : State :=
  (((({ s with twin := { s.twin with access := [] } }.wr TWIN.PEER_CMD_STATUS status).wr TWIN.PEER_CMD_CAUSE cause).wr TWIN.PEER_CMD_GO 0).stop tPeerRelay).raise 0x0D 7

/-- PEER_CMD.GO: one register access is relayed to the peer; ignored while one is busy (R187, R188, R190). -/
def State.peerGo (s : State) : State :=
  if !s.isTwin || s.rd TWIN.PEER_CMD_STATUS = 1 then s
  else if s.linkState .twin ≠ 8 then s.relayDone 3 4
  else
    let s1 := ((s.wr TWIN.PEER_CMD_STATUS 1).wr TWIN.PEER_CMD_CAUSE 0).wr TWIN.PEER_CMD_GO 1
    (({ s1 with twin := { s1.twin with access :=
      [s.rd TWIN.PEER_ADDR_WRITE, s.rd TWIN.PEER_ADDR_WORD, s.rd TWIN.PEER_WDATA_DATA] } }).sendAccess).start tPeerRelay (us 10)

/-- PEER_RELAY_ACCESS: a write of PEER_CMD.GO (R188). -/
def execPeerRelayAccess (p : Port) (s : State) : Host.Outcome State Fault Refusal :=
  .next (s.access p 0x0D 0x8C 1 State.peerGo)

/-- PEER_RELAY_DONE: the peer's answer, with its cause on error and the data of a read (R187, R188). -/
def execPeerRelayDone (ok : Bool) (cause data : Nat) (s : State) : Host.Outcome State Fault Refusal :=
  .next (if s.rd TWIN.PEER_CMD_STATUS = 1 && s.twinUp then
      let s1 := s.peerFrame
      let s2 := if ok && !s1.flag TWIN.PEER_ADDR_WRITE then s1.wr TWIN.PEER_RDATA_DATA data else s1
      if ok then s2.relayDone 2 0 else s2.relayDone 3 cause
    else s)

/-- PEER_RELAY_TIMEOUT: unanswered for 10 µs (R188). -/
def execPeerRelayTimeout (s : State) : Host.Outcome State Fault Refusal :=
  .next (s.whenDue tPeerRelay (fun s => if s.rd TWIN.PEER_CMD_STATUS = 1 then s.relayDone 3 4 else s))

/-- BASE_CYCLE_BOUNDARY: acts once at each boundary of the grid (R227). -/
def execBaseCycleBoundary (s : State) : Host.Outcome State Fault Refusal :=
  .next (if s.base.done = some s.boundary.1 then s else s.atBoundary.drain)

end Sys2Proof.Machine
end

