-- ==== Sys2Proof/Machine/UpdOps.lean ====
section
/-! DEFINITION. The update unit: image relay, local verification, group swap, abort (R497-R509). -/

namespace Sys2Proof.Machine

def State.updUpd (s : State) (f : UpdUnit → UpdUnit) : State := { s with upd := f s.upd }

/-- A receiver has got no block for 10 s (R501). -/
def tSilent : Nat := 210

/-- Block `i` is unacknowledged for RELAY_TMO (R501). -/
def tResend (i : Nat) : Nat := 220 + i

/-- STATUS is busy (R508). -/
def State.updBusy (s : State) : Bool := s.rd UPDATE.STAT_STATUS = 1

/-- STATE while nothing is in progress: 3 with slot B marked, else 0 (R502, R508). -/
def State.restState (s : State) : Nat := if s.flash.ready then 3 else 0

/-- An operation begins: busy, in a state, without the result of the one before. -/
def State.updBegin (s : State) (state : Nat) : State :=
  (((s.wr UPDATE.STAT_STATUS 1).wr UPDATE.STAT_STATE state).wr UPDATE.STAT_FAIL 0).wr UPDATE.STAT_ABORT_LATE 0

/-- The control bits that read 1 while their operation runs return to 0. -/
def State.ctrlDone (s : State) : State := s.clrFields 0 [UPDATE.CTRL_SWAP_GO, UPDATE.CTRL_RELAY_GO, UPDATE.CTRL_VERIFY]

/-- An operation completes (R502, R503, R506). -/
def State.updComplete (s : State) : State :=
  ((s.wr UPDATE.STAT_STATUS 2).wr UPDATE.STAT_STATE s.restState).ctrlDone

/-- An operation ends ABORTED with a code of R501 (R502, R504). -/
def State.updFail (s : State) (code : Nat) : State :=
  (((s.wr UPDATE.STAT_STATUS 3).wr UPDATE.STAT_STATE s.restState).wr UPDATE.STAT_FAIL code).ctrlDone

/-! ### Frames (R499) -/

/-- A relay frame to endpoint 0 of a node. -/
def State.relayFrame (s : State) (node : Nat) (bs : List Nat) : Frame :=
  { tc := 5, dest := node * 8192, src := s.nodeId * 8192, len := bs.length, payload := natb bs }

/-- The update unit sends a relay frame (R108). -/
def State.relaySend (s : State) (node : Nat) (bs : List Nat) : State := (s.send 7 (s.relayFrame node bs)).2

/-- A block as it lies in flash: byte 1 and COORD are zero (R497). -/
def storedForm (b : List Nat) : List Nat := b.take 1 ++ [0] ++ (b.drop 2).take 10 ++ [0, 0] ++ b.drop 14

/-- A block as it travels (R497, R499). -/
def relayedForm (coord : Nat) (b : List Nat) : List Nat := b.take 1 ++ [0] ++ (b.drop 2).take 10 ++ beBytes 2 coord ++ b.drop 14

/-- The twin index of an ACK's sender, 2 for a single node (R499). -/
def ackIndex (b : Nat) : Nat := if bitOf b 1 then 2 else b % 2

/-- Acknowledges block `i` of an image to its sender (R499, R500). -/
def State.sendAck (s : State) (node id i : Nat) : State :=
  s.relaySend node ([0xB2, if s.isTwin then s.otp.index else 2] ++ beBytes 2 i ++ beBytes 8 id ++ zeros 20)

/-- The one REPORT of this hub to the coordinator (R499, R501). -/
def State.sendReport (s : State) (coord id code : Nat) : State :=
  s.relaySend coord ([0xB3, code] ++ beBytes 2 (s.rd UPDATE.STAT_BLOCKS) ++ beBytes 8 id ++ beBytes 4 s.nodeId ++ zeros 16)

/-! ### The neighbour (R500) -/

/-- The ring direction of CFG.DIR. -/
def State.relaySide (s : State) : Side := if s.flag UPDATE.CFG_DIR then .west else .east

/-- The neighbour in CFG.DIR, as its last Pdelay_Resp named it, while the port is up. -/
def State.relayNext (s : State) : Option Nat :=
  if s.linkState (.ring s.relaySide) = 8 then (Tbl.find s.time.nbr s.relaySide.code).map (· - 1) else none

/-- Nothing lies beyond this hub: the port is down or the neighbour is the coordinator (R500). -/
def State.relayEnd (s : State) (coord : Nat) : Bool :=
  match s.relayNext with
  | none => true
  | some n => n = coord

/-- This hub drives the output in CFG.DIR (R159, R500). -/
def State.relayDrives (s : State) : Bool := s.ringOuts.contains s.relaySide.code

/-! ### Sending (R501) -/

/-- Sends waiting blocks while fewer than four are unacknowledged. -/
def State.relayPump : Nat → State → State
  | 0, s => s
  | n + 1, s =>
    match s.upd.tx with
    | none => s
    | some t =>
      match t.wait with
      | [] => s
      | (i, b) :: rest =>
        if 4 ≤ t.out.length then s
        else
          let s1 := s.updUpd (fun u => { u with tx := some { t with wait := rest, out := t.out ++ [{ index := i, block := b }] } })
          ((s1.relaySend t.dest b).start (tResend i) (s.rd UPDATE.CFG_RELAY_TMO * ms 100)).relayPump n

/-- The timers of the blocks sent stop. -/
def State.stopResends (s : State) : State :=
  match s.upd.tx with
  | none => s
  | some t => t.out.foldl (fun s o => s.stop (tResend o.index)) s

/-- Sending and receiving end. -/
def State.relayDrop (s : State) : State :=
  (s.stopResends.stop tSilent).updUpd (fun u => { u with rx := none, tx := none })

/-- A relay stops with a code: a receiver reports it to the coordinator; RELAY_FAIL is raised unless it was aborted (R501,
R502, R504). A receiver that has completed only stops sending. -/
def State.relayStop (s : State) (code : Nat) : State :=
  if !s.updBusy then s.stopResends.updUpd (fun u => { u with tx := none })
  else
    let s1 := match s.upd.rx with
      | some r => if s.upd.told then s else (s.updFail code).sendReport r.coord r.id code
      | none => s
    let s2 := s1.relayDrop.updFail code
    if code = 7 then s2 else s2.raise 0x59 1

/-- An ACK of block `i` by a twin index: a block that every acknowledging index has acknowledged is free, and the next
one goes out (R501). -/
def State.relayAck (s : State) (i who : Nat) : State :=
  match s.upd.tx with
  | none => s
  | some t =>
    let ackers := insertNat t.ackers who
    let out := t.out.map (fun o => if o.index = i then { o with acked := insertNat o.acked who } else o)
    let done (o : RelayOut) : Bool := ackers.all o.acked.contains
    let s1 := (out.filter done).foldl (fun (s : State) o => s.stop (tResend o.index)) s
    let left := out.filter (fun o => !done o)
    let s2 := (s1.updUpd (fun u => { u with tx := some { t with ackers := ackers, out := left } })).relayPump 4
    let last := out.any (fun o => done o && o.index + 1 = t.count)
    if last && left = [] && t.wait = [] then
      let s3 := s2.updUpd (fun u => { u with tx := none })
      if t.coord then s3.updComplete else s3
    else s2

/-- A block unacknowledged for RELAY_TMO is sent again; after three resends the sender stops (R501). -/
def State.relayResend (s : State) (i : Nat) : State :=
  match s.upd.tx with
  | none => s
  | some t =>
    match t.out.find? (fun o => o.index = i) with
    | none => s
    | some o =>
      if 3 ≤ o.tries then s.relayStop 4
      else
        let s1 := (s.sat UPDATE.RESENT_COUNT).updUpd (fun u => { u with tx := some { t with
          out := t.out.map (fun o => if o.index = i then { o with tries := o.tries + 1 } else o) } })
        (s1.relaySend t.dest o.block).start (tResend i) (s.rd UPDATE.CFG_RELAY_TMO * ms 100)

/-- Step 5 of R500: the block goes on to the neighbour in CFG.DIR, unless nothing lies beyond or the other twin drives the
output. -/
def State.relayForward (s : State) (r : RelayRx) (b : List Nat) : State :=
  if s.relayEnd r.coord || !s.relayDrives then s
  else
    let t := s.upd.tx.getD { id := r.id, dest := s.relayNext.getD 0, count := r.count }
    (s.updUpd (fun u => { u with tx := some { t with wait := t.wait ++ [(blkIndex b, relayedForm r.coord b)] } })).relayPump 1

/-! ### Receiving (R500, R502) -/

/-- The last block has been written or checked: the completion point (R502). -/
def State.relayFinish (s : State) (r : RelayRx) : State :=
  let s1 := if r.skip then s else { s with flash := { s.flash with ready := true } }
  let code := (if r.skip then 128 else 0) + (if s1.relayEnd r.coord then 64 else 0)
  let holds := s1.flash.ready && blkId (s1.slotBlock 1 0) = r.id
  let s2 := (s1.stop tSilent).updComplete.wr UPDATE.STAT_STATE (if holds then 3 else s1.restState)
  ((s2.updUpd (fun u => { u with told := true })).sendReport r.coord r.id code).raise 0x59 0

/-- A block has been checked and, unless omitted, written: it is acknowledged and forwarded; the last one completes the
relay (R500, R502). -/
def State.relayTaken (s : State) (r : RelayRx) (b : List Nat) (from_ : Nat) : State :=
  let r1 := { r with block := none, next := r.next + 1, tag := blkTag b }
  let s1 := s.updUpd (fun u => { u with rx := some r1 })
  let s2 := (s1.sendAck from_ r.id (blkIndex b)).relayForward r1 b
  if r1.next = r.count then s2.relayFinish r1 else s2

/-- A block begins to be written: the first block of a sector erases it, and slot B is unmarked (R500, R502). -/
def State.relayWrite (s : State) (r : RelayRx) (b : List Nat) (from_ : Nat) : State :=
  let a := slotBase 1 + 4096 * r.next
  let s1 := if r.next % 16 = 0 then s.flashErase a else s
  ({ s1 with flash := { s1.flash with ready := false } }).updUpd (fun u => { u with rx := some { r with block := some (b, from_) } })

/-- The next block of the relay is checked: its tag, and for block 0 the header (R500). -/
def State.relayCheck (s : State) (r : RelayRx) (b : List Nat) (from_ : Nat) : State :=
  let s1 := s.start tSilent (ms 10000)
  match s1.imageKey with
  | none => (s1.sat UPDATE.TAG_FAIL_COUNT).relayStop 1
  | some key =>
    if !blkGood key r.tag b r.id r.count r.next then (s1.sat UPDATE.TAG_FAIL_COUNT).relayStop 1
    else
      let code := if r.next = 0 then s1.headerCode b else 0
      if code ≠ 0 then s1.relayStop code
      else if r.skip then s1.relayTaken r b from_
      else s1.relayWrite r b from_

/-- This hub already has the image: it runs, or lies marked in slot B (R500). -/
def State.relayHas (s : State) (id : Nat) : Bool :=
  (s.modeU.boot.isSome && s.rd UPDATE.ACT_ID_ID = id) || (s.flash.ready && blkId (s.slotBlock 1 0) = id)

/-- Block 0 begins a relay, or is refused with code 3 by a hub that is busy with another image (R500). -/
def State.relayOpen (s : State) (b : List Nat) (from_ : Nat) : State :=
  if s.updBusy then
    (if s.upd.refused = some (blkId b) then s
     else (s.updUpd (fun u => { u with refused := some (blkId b) })).sendReport (blkCoord b) (blkId b) 3)
  else if s.fenced 0x59 || !s.enabled 0x59 then s
  else
    let r : RelayRx := { id := blkId b, coord := blkCoord b, count := blkCount b, tag := zeros 16, skip := s.relayHas (blkId b) }
    let s1 := s.relayDrop.updUpd (fun u => { u with rx := some r, told := false, refused := none })
    ((s1.updBegin 2).wr UPDATE.STAT_BLOCKS 0).relayCheck r b from_

/-- A BLOCK frame's block (R500): the next one of the relay is checked, one already taken is acknowledged again, one that
comes too early is left to be sent again (log 41). -/
def State.relayBlock (s : State) (b : List Nat) (from_ : Nat) : State :=
  let opens : State := if blkIndex b = 0 then s.relayOpen b from_ else s
  match s.upd.rx with
  | none => opens
  | some r =>
    if blkId b ≠ r.id then opens
    else if blkIndex b < r.next && (decide (0 < blkIndex b) || s.updBusy) then
      (if s.updBusy then s.start tSilent (ms 10000) else s).sendAck from_ r.id (blkIndex b)
    else if blkIndex b = r.next && s.updBusy then s.relayCheck r b from_
    else if blkIndex b = 0 then opens
    else if s.updBusy then s.start tSilent (ms 10000)
    else s

/-- The block is in slot B and its read-back agrees, or not (R500, R501). -/
def State.relayWritten (s : State) (ok : Bool) : State :=
  match s.upd.rx with
  | none => s
  | some r =>
    match r.block with
    | none => s
    | some (b, from_) =>
      let a := slotBase 1 + 4096 * r.next
      if ok then ((s.flashPut a (storedForm b)).sat UPDATE.STAT_BLOCKS).relayTaken r b from_
      else
        let d := (List.range 4096).foldl (fun (e : List Nat × State) _ => (e.1 ++ [e.2.draw.1 % 256], e.2.draw.2)) ([], s)
        (d.2.flashPut a d.1).relayStop 6

/-- A REPORT enters the report queue, or is lost (R503). -/
def State.takeReport (s : State) (bs : List Nat) : State :=
  if 128 ≤ s.upd.reps.length then s.sat UPDATE.REP_LOST_COUNT
  else (s.updUpd (fun u => { u with reps := u.reps ++
    [(nth bs 1, blkField bs 12 4 % 4096, blkField bs 2 2 % 512)] })).raise 0x59 2

/-! ### Control (R503-R508) -/

/-- Why slot B is no valid image, by the codes of R501; 0 it is one (R497, R498). -/
def State.slotCode (s : State) : Nat :=
  let b := s.slotBlock 1 0
  match s.imageKey with
  | none => 1
  | some key =>
    if !blkGood key (zeros 16) b (blkId b) (blkCount b) 0 then 1
    else if s.headerCode b ≠ 0 then s.headerCode b
    else if (s.chain 1 key (blkId b) (blkCount b) (blkCount b) 0 (zeros 16)).isNone then 1
    else 0

/-- Counts a tag failure. -/
def State.countTag (s : State) (code : Nat) : State := if code = 1 then s.sat UPDATE.TAG_FAIL_COUNT else s

/-- CTRL.VERIFY: verification of slot B begins (R503). -/
def State.verifyGo (s : State) : State :=
  (((s.relayDrop).updBegin 1).wr UPDATE.CTRL_VERIFY 1).updUpd (fun u => { u with verifying := true })

/-- Local verification ends (R502, R503). -/
def State.verifyEnd (s : State) : State :=
  let code := s.slotCode
  let s1 := (s.updUpd (fun u => { u with verifying := false })).countTag code
  let s2 := { s1 with flash := { s1.flash with ready := code = 0 } }
  if code = 0 then s2.updComplete.raise 0x59 0 else (s2.updFail code).raise 0x59 1

/-- CTRL.RELAY_GO: the coordinator sends every block of slot B in CFG.DIR (R503); without a marked slot B nothing begins,
and without a neighbour the sender stops (log 41). -/
def State.relayGo (s : State) : State :=
  if !s.flash.ready || s.fenced 0x59 || !s.enabled 0x59 then s
  else
    let s1 := ((s.relayDrop).updBegin 2).wr UPDATE.CTRL_RELAY_GO 1
    match s1.relayNext with
    | none => s1.relayStop 4
    | some n =>
      let b0 := s1.slotBlock 1 0
      let all := (List.range (blkCount b0)).map (fun i => (i, relayedForm s1.nodeId (s1.slotBlock 1 i)))
      (s1.updUpd (fun u => { u with told := false, tx := some { id := blkId b0, dest := n, coord := true, count := blkCount b0, wait := all } })).relayPump 4

/-- CTRL.SWAP_GO: the banks not in use begin to be written (R506); the engines must be powered and slot B marked. -/
def State.swapGo (s : State) : State :=
  if !s.flash.ready || !s.pdOn 4 || !s.pdOn 5 then s
  else ((s.relayDrop.updBegin 4).wr UPDATE.CTRL_SWAP_GO 1).updUpd (fun u => { u with staging := true })

/-- The banks have been written and swaps are requested (R506); an image that no longer checks changes nothing. -/
def State.swapStaged (s : State) : State :=
  let code := s.slotCode
  let s1 := (s.updUpd (fun u => { u with staging := false })).countTag code
  if code ≠ 0 then s1.updFail code
  else
    let at_ := s.rd UPDATE.SWAP_AT_CYCLE
    let num := if at_ ≠ 0 then at_ else (s.base.prev (s.base.next (s.fabNs + s.base.len - 1))).2
    let s2 := (List.range 16).foldl (fun t e =>
      (t.loadBank e (1 - t.bank e) (s.engineImage 1 e)).wrn e ENG.PB_STAT_SWAP_PEND 1) s1
    s2.updUpd (fun u => { u with swap := some num })

/-- CTRL.RESTART: a warm reset, refused for an ACTIVE twin whose peer is STANDBY (R505). -/
def State.restart (s : State) : State :=
  if s.isTwin && s.twinRole = 1 && s.rd TWIN.STAT_PEER_ROLE = 2 then s else s.warmReset false

/-- CTRL.ABORT (R504-R506): a copy halts after its sector, a swap is cancelled, a relay or verification stops; after a
completion it is late. -/
def State.updAbort (s : State) : State :=
  if s.rd UPDATE.STAT_STATUS = 2 then (s.wr UPDATE.STAT_ABORT_LATE 1).raise 0x59 12
  else if !s.updBusy then s
  else if s.step_ = 7 && s.modeU.copying then
    let k := if s.copyNext.1 = 1 || s.copyNext.1 = 2 then some s.copyNext.2 else none
    (s.updMode (fun m => { m with halted := true, lastSector := k })).updFail 0
  else if s.upd.staging || s.upd.swap.isSome then
    let s1 := if s.upd.swap.isNone then s
      else (List.range 16).foldl (fun t e => t.wrn e ENG.PB_STAT_SWAP_PEND 0) s
    (s1.updUpd (fun u => { u with staging := false, swap := none })).updFail 0
  else if s.upd.verifying then
    let s1 := s.updUpd (fun u => { u with verifying := false })
    ({ s1 with flash := { s1.flash with ready := false } }).updFail 7
  else s.relayStop 7

/-- The requests of a CTRL word in ascending order, ABORT first; all but ABORT are ignored while STATUS is busy (R509).
`equal` says whether every context of the engines of equal generation is in step (R507). -/
def State.writeUpdCtrl (s : State) (v : Nat) (equal : Bool) : State :=
  let s1 := if bitOf v 2 then s.updAbort else s
  let req (i : Nat) (k : State → State) (t : State) : State := if bitOf v i && !t.updBusy then k t else t
  req 4 State.restart (req 5 (fun t => t.handover (t.twin.peerStep || equal))
    (req 3 State.swapGo (req 1 State.relayGo (req 0 State.verifyGo s1))))

/-- The head of the report queue leaves (R508). -/
def State.repPop (s : State) : State := s.updUpd (fun u => { u with reps := u.reps.drop 1 })

end Sys2Proof.Machine
end

