-- ==== Sys2Proof/Machine/Update.lean ====
section
/-! DEFINITION. Commands of image relay and in-service update (R497-R509). -/

namespace Sys2Proof.Machine

/-- A relay frame the update unit takes; `k` acts on its payload. It leaves the inbox. -/
def State.relayTake (s : State) (f : Frame) (kind len : Nat) (k : List Nat → State → State) : State :=
  if !s.pageOn 0x59 then s
  else
    let s1 := s.takeInbox 7 f
    let bs := bnat f.payload
    if f.tc = 5 && bs.length = len && nth bs 0 = kind then k bs s1 else s1

/-- RELAY_BLOCK_RX: a BLOCK frame from a neighbour (R500); while a block is being written it waits in the inbox. -/
def execRelayBlockRx (f : Frame) (s : State) : Host.Outcome State Fault Refusal :=
  .next (
    let writing := match s.upd.rx with
      | some r => r.block.isSome
      | none => false
    if writing then s
    else (s.relayTake f 0xB1 4096 (fun bs s => if s.flag UPDATE.CFG_ACCEPT then s.relayBlock bs (nodeOf f.src) else s)).modeDone)

/-- RELAY_BLOCK_WRITTEN: the block has been written; `ok` says whether its read-back agrees (R500-R502). -/
def execRelayBlockWritten (ok : Bool) (s : State) : Host.Outcome State Fault Refusal := .next (s.relayWritten ok).modeDone

/-- RELAY_ACK_RX: an ACK (R501, R502). -/
def execRelayAckRx (f : Frame) (s : State) : Host.Outcome State Fault Refusal :=
  .next (s.relayTake f 0xB2 32 (fun bs s =>
    match s.upd.tx with
    | some t => if t.id = blkId bs && t.dest = nodeOf f.src then s.relayAck (blkIndex bs) (ackIndex (nth bs 1)) else s
    | none => s)).modeDone

/-- RELAY_REPORT_RX: a REPORT (R503). -/
def execRelayReportRx (f : Frame) (s : State) : Host.Outcome State Fault Refusal :=
  .next (s.relayTake f 0xB3 32 (fun bs s => s.takeReport bs)).modeDone

/-- RELAY_RESEND_TIMEOUT: block `i` is unacknowledged for RELAY_TMO (R501). -/
def execRelayResendTimeout (i : Nat) (s : State) : Host.Outcome State Fault Refusal :=
  .next (if i < 256 then (s.whenDue (tResend i) (fun s => (s.relayResend i).modeDone)) else s)

/-- RELAY_SENDER_SILENT: no block for 10 s (R501). -/
def execRelaySenderSilent (s : State) : Host.Outcome State Fault Refusal :=
  .next (s.whenDue tSilent (fun s => if s.upd.rx.isSome then (s.relayStop 5).modeDone else s))

/-- A write of UPDATE.CTRL. -/
def State.updWrite (s : State) (p : Port) (v : Nat) (equal : Bool) : State :=
  (s.access p 0x59 0x48 v (fun s => s.writeUpdCtrl v equal)).modeDone

/-- VERIFY: CTRL.VERIFY (R503). -/
def execVerify (p : Port) (s : State) : Host.Outcome State Fault Refusal := .next (s.updWrite p 1 false)

/-- LOCAL_VERIFY_DONE: every block of slot B has been checked (R503). -/
def execLocalVerifyDone (s : State) : Host.Outcome State Fault Refusal :=
  .next (if s.upd.verifying then s.verifyEnd.modeDone else s)

/-- RELAY_GO: CTRL.RELAY_GO (R503). -/
def execRelayGo (p : Port) (s : State) : Host.Outcome State Fault Refusal := .next (s.updWrite p 2 false)

/-- UPDATE_ABORT: CTRL.ABORT (R504-R506). -/
def execUpdateAbort (p : Port) (s : State) : Host.Outcome State Fault Refusal := .next (s.updWrite p 4 false)

/-- RESTART: CTRL.RESTART (R505). -/
def execRestart (p : Port) (s : State) : Host.Outcome State Fault Refusal := .next (s.updWrite p 16 false)

/-- SWAP_GO: CTRL.SWAP_GO (R506). -/
def execSwapGo (p : Port) (s : State) : Host.Outcome State Fault Refusal := .next (s.updWrite p 8 false)

/-- SWAP_STAGE_DONE: the banks have been written (R506). -/
def execSwapStageDone (s : State) : Host.Outcome State Fault Refusal :=
  .next (if s.upd.staging then s.swapStaged.modeDone else s)

/-- TWIN_HANDOVER: CTRL.TWIN_HANDOVER; `equal` says whether every context of the engines whose program generation is equal
on both twins is in step (R507). -/
def execTwinHandover (p : Port) (equal : Bool) (s : State) : Host.Outcome State Fault Refusal := .next (s.updWrite p 32 equal)

/-- REP_POP (R508). -/
def execRepPop (p : Port) (s : State) : Host.Outcome State Fault Refusal :=
  .next (s.access p 0x59 0x78 1 State.repPop)

end Sys2Proof.Machine
end

