-- ==== Sys2Proof/Machine/Usb.lean ====
section
/-! DEFINITION. Commands of the USB hub and its function that need no register access (R356-R380). Feature selectors,
status bits and the hub descriptor are those of USB 2.0 and its LPM addendum (PRESUMED, log 34). -/

namespace Sys2Proof.Machine

/-- USB_ATTACH: USB_VBUS above 4.0 V or not, with the other conditions as they stand; while PD6 is off the ball alone
changes (R357). -/
def execUsbAttach (vbus : Bool) (s : State) : Host.Outcome State Fault Refusal := .next (s.usbAttach vbus)

/-- USB_BUS_RESET: the upstream host has driven reset and sent `pairs` K-J pairs in time (R358). -/
def execUsbBusReset (pairs : Nat) (s : State) : Host.Outcome State Fault Refusal :=
  .next (if !s.usbOn then s
    else
      let hs := s.flag USBHUB.HUB_CFG_HS_EN && decide (3 ≤ pairs)
      let s1 := ((s.hubDefault.wr USBHUB.HUB_STAT_SPEED (if hs then 2 else 1)).wr USBHUB.HUB_STAT_LINK 0).wr
        USBHUB.PORT_STAT_SPEED (if hs then 2 else 1) 4
      ((s1.wr USBHUB.PORT_STAT_CONNECT 1 4).portChange 4 0).raise 0x48 1)

/-- GET_HUB_STATUS (R356). -/
def execGetHubStatus (s : State) : Host.Outcome State Fault Refusal :=
  .next (if s.usbOn then s.usbData [0, 0, s.usb.hubChange, 0] else s)

/-- wPortStatus of port `k`. -/
def State.portStatus (s : State) (k : Nat) : Nat :=
  let b (f : Fld) (i : Nat) : Nat := s.rd f k * 2 ^ i
  let sp := s.rd USBHUB.PORT_STAT_SPEED k
  b USBHUB.PORT_STAT_CONNECT 0 + b USBHUB.PORT_STAT_ENABLE 1 + b USBHUB.PORT_STAT_SUSPEND 2 +
  b USBHUB.PORT_STAT_OVER_CURRENT 3 + b USBHUB.PORT_STAT_RESET 4 + b USBHUB.PORT_STAT_L1 5 + b USBHUB.PORT_STAT_POWER 8 +
  (if s.flag USBHUB.PORT_STAT_CONNECT k then (if sp = 0 then 2 ^ 9 else if sp = 2 then 2 ^ 10 else 0) else 0) +
  (if s.usb.test.contains k then 2 ^ 11 else 0)

/-- GET_PORT_STATUS of port `k`, 1 to 5 (R356). -/
def execGetPortStatus (k : Nat) (s : State) : Host.Outcome State Fault Refusal :=
  .next (if !s.usbOn then s
    else if k = 0 ∨ 5 < k then s.stall 0 0
    else s.usbData (leBytes 2 (s.portStatus (k - 1)) ++ leBytes 2 (s.rd USBHUB.PORT_STAT_CHANGE (k - 1))))

/-- SET_HUB_FEATURE: C_HUB_LOCAL_POWER or C_HUB_OVER_CURRENT (R356). -/
def execSetHubFeature (feature : Nat) (s : State) : Host.Outcome State Fault Refusal :=
  .next (if !s.usbOn then s
    else if 2 ≤ feature then s.stall 0 0
    else s.updUsb (fun u => { u with hubChange := setBit u.hubChange feature }))

/-- CLEAR_HUB_FEATURE (R356). -/
def execClearHubFeature (feature : Nat) (s : State) : Host.Outcome State Fault Refusal :=
  .next (if !s.usbOn then s
    else if 2 ≤ feature then s.stall 0 0
    else s.updUsb (fun u => { u with hubChange := clrBit u.hubChange feature }))

/-- A SetPortFeature request to port index `k`; `ok` says that the device accepts L1 (R356, R359, R360). -/
def State.setPortFeature (s : State) (k feature : Nat) (ok : Bool) : State :=
  match feature with
  | 2 => if s.flag USBHUB.PORT_STAT_ENABLE k then s.wr USBHUB.PORT_STAT_SUSPEND 1 k else s
  | 4 =>
    if s.flag USBHUB.PORT_STAT_POWER k then
      ((((s.wr USBHUB.PORT_STAT_RESET 1 k).wr USBHUB.PORT_STAT_ENABLE 0 k).wr USBHUB.PORT_STAT_SUSPEND 0 k).wr
        USBHUB.PORT_STAT_L1 0 k).start (tPort k) (ms 10)
    else s
  | 5 => if s.flag USBHUB.PORT_STAT_ENABLE k && ok then s.wr USBHUB.PORT_STAT_L1 1 k else s
  | 8 => if k = 4 then s else (s.updUsb (fun u => { u with power := insertNat u.power k })).showPower k
  | 21 => s.updUsb (fun u => { u with test := insertNat u.test k })
  | _ => s.stall 0 0

/-- SET_PORT_FEATURE of port `k`, 1 to 5 (R359). -/
def execSetPortFeature (k feature : Nat) (ok : Bool) (s : State) : Host.Outcome State Fault Refusal :=
  .next (if !s.usbOn then s
    else if k = 0 ∨ 5 < k then s.stall 0 0
    else s.setPortFeature (k - 1) feature ok)

/-- A ClearPortFeature request to port index `k`. -/
def State.clearPortFeature (s : State) (k feature : Nat) : State :=
  let clear (b : Nat) : State := s.wr USBHUB.PORT_STAT_CHANGE (clrBit (s.rd USBHUB.PORT_STAT_CHANGE k) b) k
  match feature with
  | 1 => s.wr USBHUB.PORT_STAT_ENABLE 0 k
  | 2 => if s.flag USBHUB.PORT_STAT_SUSPEND k then (s.wr USBHUB.PORT_STAT_SUSPEND 0 k).portChange k 2 else s
  | 5 => if s.flag USBHUB.PORT_STAT_L1 k then (s.wr USBHUB.PORT_STAT_L1 0 k).portChange k 5 else s
  | 8 => if k = 4 then s else s.portOff k
  | 16 => clear 0
  | 17 => clear 1
  | 18 => clear 2
  | 19 => clear 3
  | 20 => clear 4
  | 23 => clear 5
  | _ => s.stall 0 0

/-- CLEAR_PORT_FEATURE of port `k`, 1 to 5 (R356). -/
def execClearPortFeature (k feature : Nat) (s : State) : Host.Outcome State Fault Refusal :=
  .next (if !s.usbOn then s
    else if k = 0 ∨ 5 < k then s.stall 0 0
    else s.clearPortFeature (k - 1) feature)

/-- PORT_RESET_COMPLETE: reset of port `k` has been driven for 10 ms or more; `chirp` is the device's chirp K in
microseconds, `low` whether the idle state shows a low-speed device (R359). -/
def execPortResetComplete (k chirp : Nat) (low : Bool) (s : State) : Host.Outcome State Fault Refusal :=
  .next (if !s.usbOn || k = 0 || 5 < k || !s.due (tPort (k - 1)) then s
    else
      let i := k - 1
      let s1 := (s.stop (tPort i)).wr USBHUB.PORT_STAT_RESET 0 i
      let s2 := if i = 4 then s1.fnDefault else s1
      let speed := if i = 4 then s2.rd USBHUB.HUB_STAT_SPEED else if 1000 ≤ chirp then 2 else if low then 0 else 1
      let s3 := if s2.flag USBHUB.PORT_STAT_CONNECT i && s2.ttOk i then
          (s2.wr USBHUB.PORT_STAT_ENABLE 1 i).wr USBHUB.PORT_STAT_SPEED speed i
        else s2
      s3.portChange i 4)

/-- CLEAR_TT_BUFFER of port `k`: the transaction buffered for endpoint `ep` (R364). -/
def execClearTtBuffer (k ep : Nat) (s : State) : Host.Outcome State Fault Refusal :=
  .next (if !s.usbOn then s
    else if k = 0 ∨ 4 < k then s.stall 0 0
    else (s.updUsb (fun u => { u with tt := Tbl.set [] u.tt (k - 1) ((Tbl.get [] u.tt (k - 1)).filter (· ≠ ep)) })).sat
      USBHUB.TT_DROP_COUNT)

/-- RESET_TT of port `k` (R364). -/
def execResetTt (k : Nat) (s : State) : Host.Outcome State Fault Refusal :=
  .next (if !s.usbOn then s
    else if k = 0 ∨ 4 < k then s.stall 0 0
    else (s.updUsb (fun u => { u with tt := Tbl.del u.tt (k - 1) })).sat USBHUB.TT_DROP_COUNT)

/-- GET_HUB_DESCRIPTOR: five ports, individual power switching and over-current sensing, a compound device, port 5
not removable, bPwrOn2PwrGood 50 (R356). -/
def execGetHubDescriptor (s : State) : Host.Outcome State Fault Refusal :=
  .next (if !s.usbOn then s
    else s.usbData [9, 0x29, 5, 1 + 4 + 8 + 32 * (Config.hubThink % 4), 0, 50, Config.hubCurrent % 256, 0x20, 0xFF])

/-- GET_TT_STATE is answered with STALL (R356). -/
def execGetTtState (_ : Nat) (s : State) : Host.Outcome State Fault Refusal :=
  .next (if s.usbOn then s.stall 0 0 else s)

/-- STOP_TT is answered with STALL (R356). -/
def execStopTt (_ : Nat) (s : State) : Host.Outcome State Fault Refusal :=
  .next (if s.usbOn then s.stall 0 0 else s)

/-- SET_CONFIGURATION of the hub, or of the function (`fn`): value 0 or 1 (R365, R370, R372). -/
def execSetConfiguration (fn : Bool) (v : Nat) (s : State) : Host.Outcome State Fault Refusal :=
  .next (if !s.usbOn then s
    else if 2 ≤ v then s.stall (bit fn) 0
    else if fn then
      let s1 := ((s.setup.setFnConf (v = 1)).togglesZero.streamOff).updUsb (fun u => { u with resp := none, ep2Halt := false })
      (s1.wr USBFN.FN_STAT_OUT_HALT 0).wr USBFN.FN_STAT_IN_HALT 0
    else
      let s1 := s.setHubConf (v = 1)
      if v = 0 then [0, 1, 2, 3].foldl State.portOff s1 else s1)

/-- SET_INTERFACE of the function (R365, R372, R374). -/
def execSetInterface (i alt : Nat) (s : State) : Host.Outcome State Fault Refusal :=
  .next (if !s.usbOn || !s.usb.fnConf then s
    else match i, alt with
      | 0, 0 => s.setup.togglesZero
      | 1, 0 => s.setup.streamOff
      | 1, 1 => s.setup.wr USBFN.FN_STAT_STREAM_ON 1
      | _, _ => s.setup.stall 1 0)

/-- CLEAR_FEATURE(ENDPOINT_HALT) at an endpoint address of the function (R370, R372). -/
def State.clearHalt (s : State) (ep : Nat) : State :=
  match ep with
  | 0x01 => (s.updUsb (fun u => { u with togOut := false })).wr USBFN.FN_STAT_OUT_HALT 0
  | 0x81 => (s.updUsb (fun u => { u with togIn := false, resp := none })).wr USBFN.FN_STAT_IN_HALT 0
  | 0x82 => s.updUsb (fun u => { u with togInt := false, ep2Halt := false })
  | _ => s.stall 1 0

/-- CLEAR_ENDPOINT_HALT (R372). -/
def execClearEndpointHalt (ep : Nat) (s : State) : Host.Outcome State Fault Refusal :=
  .next (if s.usbOn then s.setup.clearHalt ep else s)

/-- USB_OVERCURRENT: OVCk_N has been low, or high again, for `width` µs; filtered by OVC_FILT (R360). -/
def execUsbOvercurrent (k : Nat) (low : Bool) (width : Nat) (s : State) : Host.Outcome State Fault Refusal :=
  .next (if !s.pageOn 0x48 || k = 0 || 4 < k then s
    else
      let i := k - 1
      if width < s.rd USBHUB.PORT_CTRL_OVC_FILT i * 250 || s.flag USBHUB.PORT_STAT_OVER_CURRENT i = low then s
      else if low then
        ((((s.portOff i).wr USBHUB.PORT_STAT_OVER_CURRENT 1 i).portChange i 3).sat USBHUB.OVC_CNT_COUNT).raise 0x48 5
      else (s.wr USBHUB.PORT_STAT_OVER_CURRENT 0 i).portChange i 3)

/-- USB_SUSPEND: 3 ms of bus inactivity (R361). -/
def execUsbSuspend (s : State) : Host.Outcome State Fault Refusal :=
  .next (if s.usbOn && s.rd USBHUB.HUB_STAT_LINK = 0 then (s.wr USBHUB.HUB_STAT_LINK 2).raise 0x48 2 else s)

/-- A downstream port does not keep the hub from L1 (R361). -/
def State.portQuiet (s : State) (k : Nat) : Bool :=
  s.flag USBHUB.PORT_STAT_L1 k || s.flag USBHUB.PORT_STAT_SUSPEND k || !s.flag USBHUB.PORT_STAT_ENABLE k

/-- USB_LPM_L1: an LPM transaction addressed to the hub, with its remote-wake bit; L1 or NYET (R361). -/
def execUsbLpmL1 (rwake : Bool) (s : State) : Host.Outcome State Fault Refusal :=
  .next (if !s.usbOn || s.rd USBHUB.HUB_STAT_LINK ≠ 0 then s
    else if s.flag USBHUB.HUB_CFG_LPM_EN && [0, 1, 2, 3].all s.portQuiet then
      ((s.wr USBHUB.HUB_STAT_LINK 1).updUsb (fun u => { u with lpmWake := rwake })).emit (.item "USB_LPM" [1])
    else s.emit (.item "USB_LPM" [0]))

/-- USB_WAKE_SOURCE: source `k` (1-4 a downstream port, 5 the function) becomes active (R362, R363). -/
def execUsbWakeSource (k : Nat) (s : State) : Host.Outcome State Fault Refusal :=
  .next (if !s.usbOn || k = 0 || 5 < k then s
    else match s.usb.window with
      | some (host, srcs) => s.wakeInWindow k host srcs
      | none =>
        let link := s.rd USBHUB.HUB_STAT_LINK
        if link = 1 ∨ link = 2 then
          if s.wakeEnabled k then
            ((s.openWindow false).emit (.item "USB_RESUME_K" [if link = 2 then 2000 else 60])).wakeInWindow k false []
          else (s.recordWake k).wakeSrc k
        else s.recordWake k)

/-- USB_HOST_RESUME: the host drives resume K (R363). -/
def execUsbHostResume (s : State) : Host.Outcome State Fault Refusal :=
  .next (if s.usbOn && (s.rd USBHUB.HUB_STAT_LINK = 1 || s.rd USBHUB.HUB_STAT_LINK = 2) && s.usb.window.isNone then
    s.openWindow true else s)

/-- USB_RESUME_WINDOW_CLOSE: the host's resume signalling ends (R363). -/
def execUsbResumeWindowClose (s : State) : Host.Outcome State Fault Refusal :=
  .next (if s.usbOn && s.usb.window.isSome then
    (s.updUsb (fun u => { u with window := none, lpmWake := false })).wr USBHUB.HUB_STAT_LINK 0 else s)

/-! ### Commands of the function -/

/-- OPEN: the session key is derived from the host's nonce and one of the hub, whose value is free; an OPEN carries
no MAC, so it fails the check while a session is open; refused during the lockout and without usable keys (R368). -/
def execUsbOpen (tag : Nat) (nonce : List Byte) (s : State) : Host.Outcome State Fault Refusal :=
  .next (if !s.usbTakes then s
    else
      let s1 := s.usbReceived (12 + nonce.length)
      if nonce.length ≠ 16 then s1.haltOut
      else if s1.flag USBFN.FN_STAT_SESSION then s1.authFail
      else match (if s1.running tAuth then none else s1.gcm.root) with
        | none => s1.haltOut
        | some root =>
          let hub := leBytes 16 s1.draw.1
          let key := cmac (s1.usbKey root) (bnat nonce ++ hub)
          let s2 := (s1.draw.2.updUsb (fun u => { u with key := key, counter := 0, fails := 0 })).wr USBFN.FN_STAT_SESSION 1
          (s2.raise 0x49 0).usbRespond 0x10 0 tag 0 0 hub [])

/-- CLOSE: the session is closed after its response has been computed (R368). -/
def execUsbClose (tag counter : Nat) (mac : List Byte) (s : State) : Host.Outcome State Fault Refusal :=
  .next (s.usbCommand 0x11 0 tag counter 0 [] mac true (fun t => (t.usbRespond 0x11 0 tag counter 0 [] []).closeSession))

/-- SEND: a message frame from channel `ch` (R371). -/
def execUsbSend (tag counter ch : Nat) (data mac : List Byte) (s : State) : Host.Outcome State Fault Refusal :=
  .next ((s.usbCommand 0x20 0 tag counter ch (bnat data) mac (decide (ch < 16)) (fun t =>
    let tc := t.rd USBHUB.CHAN_CFG_TC ch
    if !t.flag USBHUB.CHAN_CFG_EN ch || maxLen tc < data.length then t.usbRespond 0x20 0 tag counter 2 [] []
    else
      let o := t.send 6 { tc := tc, dest := t.rd USBHUB.CHAN_CFG_DEST ch, src := t.nodeId * 8192 + 1536 + ch
                          len := data.length, payload := data }
      match o.1 with
      | .queued _ _ => o.2.usbRespond 0x20 0 tag counter 0 [] []
      | .waiting => o.2.usbRespond 0x20 0 tag counter 0 [] []
      | _ => o.2.usbRespond 0x20 0 tag counter 2 [] [])).drain)

/-- RECV: the oldest queued message of any channel (R371). -/
def execUsbRecv (tag counter : Nat) (mac : List Byte) (s : State) : Host.Outcome State Fault Refusal :=
  .next (s.usbCommand 0x21 0 tag counter 0 [] mac true (fun t =>
    match t.usb.queue with
    | [] => t.usbRespond 0x21 0 tag counter 1 [] []
    | (k, m) :: rest => (t.updUsb (fun u => { u with queue := rest })).usbRespond 0x21 0 tag counter 0 (k :: bnat m) []))

/-- AUTH_LOCKOUT_END: 1 s after the failure limit (R368). -/
def execAuthLockoutEnd (s : State) : Host.Outcome State Fault Refusal :=
  .next (if s.due tAuth then s.stop tAuth else s)

/-- USB_CHANNEL_RX: a frame at a channel endpoint (R371, R374). -/
def execUsbChannelRx (f : Frame) (s : State) : Host.Outcome State Fault Refusal :=
  .next (if localOf f.dest < 1536 ∨ 1552 ≤ localOf f.dest then s
    else if s.pageOn 0x49 then ((s.takeInbox 6 f).chanTake f).drain else s.takeInbox 6 f)

/-- USB_REPORT_SEND: the interrupt endpoint is polled (R373). -/
def execUsbReportSend (s : State) : Host.Outcome State Fault Refusal :=
  .next (if !s.usbOn || !s.usb.fnConf then s
    else if s.usb.ep2Halt then s.stall 1 0x82
    else
      let r := s.usbReport
      if s.usb.acked = some r then s.emit (.item "USB_NAK" [1, 0x82])
      else (s.updUsb (fun u => { u with report := some r })).emit (.bytes "USB_REPORT" (natb r)))

/-- USB_REPORT_ACK: the host acknowledges the report: the NOTIFY bits it carried, the discard count and WAKE_PEND are
cleared (R373, R378). -/
def execUsbReportAck (s : State) : Host.Outcome State Fault Refusal :=
  .next (match s.usb.report with
    | none => s
    | some r =>
      let n := s.rd USBFN.DB_NOTIFY_NOTIFY
      ((s.updUsb (fun u => { u with
          acked := some r, report := none, drops := u.drops - ofLe (r.drop 6), togInt := !u.togInt })).wr
        USBFN.DB_NOTIFY_NOTIFY (n - (n &&& r.getD 0 0))).wr USBFN.FN_STAT_WAKE_PEND 0)

/-- USB_SOF: a start-of-frame is stamped; microframe 0 opens a service interval (R375). -/
def execUsbSof (frame micro : Nat) (s : State) : Host.Outcome State Fault Refusal :=
  .next (if !s.usbOn || s.rd USBHUB.HUB_STAT_LINK ≠ 0 then s
    else
      let t := s.fab / 2 ^ 48
      let s1 := ((s.wr USBFN.SOF_NS_NS (t % 1000000000)).wr USBFN.SOF_FRAME_FRAME frame).wr USBFN.SOF_FRAME_MICRO micro
      if micro % 8 = 0 && s1.flag USBFN.FN_STAT_STREAM_ON then s1.serviceInterval t else s1)

/-- PORT_CONNECT_CHANGE: a device connects to or disconnects from powered port `k`; `low` is its idle state (R377). -/
def execPortConnectChange (k : Nat) (conn low : Bool) (s : State) : Host.Outcome State Fault Refusal :=
  .next (if !s.pageOn 0x48 || k = 0 || 4 < k || !s.flag USBHUB.PORT_STAT_POWER (k - 1) ||
        s.flag USBHUB.PORT_STAT_CONNECT (k - 1) = conn then s
    else
      let i := k - 1
      let s1 := s.wr USBHUB.PORT_STAT_CONNECT (bit conn) i
      let s2 := if conn then s1.wr USBHUB.PORT_STAT_SPEED (bit (!low)) i
        else ((s1.wr USBHUB.PORT_STAT_ENABLE 0 i).wr USBHUB.PORT_STAT_SUSPEND 0 i).wr USBHUB.PORT_STAT_L1 0 i
      s2.portChange i 0)

/-- SET_ADDRESS of the hub, or of the function (R376). -/
def execSetAddress (fn : Bool) (a : Nat) (s : State) : Host.Outcome State Fault Refusal :=
  .next (if !s.usbOn then s
    else if fn then s.setup.updUsb (fun u => { u with fnAddr := a % 128 })
    else s.wr USBHUB.HUB_STAT_ADDRESS a)

/-- SET_FEATURE: SET_FEATURE, or CLEAR_FEATURE (`set` false), of the hub or the function: DEVICE_REMOTE_WAKEUP (1) or
ENDPOINT_HALT (0) (R362, R372, R376, R378). -/
def execSetFeature (fn set : Bool) (feature ep : Nat) (s : State) : Host.Outcome State Fault Refusal :=
  .next (if !s.usbOn then s
    else
      let s1 := if fn then s.setup else s
      match feature with
      | 1 => if fn then s1.updUsb (fun u => { u with fnWake := set }) else s1.wr USBHUB.HUB_STAT_RWAKE_EN (bit set)
      | 0 =>
        if !fn then s1
        else if !set then s1.clearHalt ep
        else (match ep with
          | 0x01 => s1.wr USBFN.FN_STAT_OUT_HALT 1
          | 0x81 => s1.wr USBFN.FN_STAT_IN_HALT 1
          | 0x82 => s1.updUsb (fun u => { u with ep2Halt := true })
          | _ => s1.stall 1 0)
      | _ => s1.stall (bit fn) 0)

end Sys2Proof.Machine
end

