-- ==== Sys2Proof/Machine/Regs.lean ====
section
/-! DEFINITION. What a read of a BAR0 word returns: the fields of the word, what shows the state of a unit, the
captures of R52 (R25, R27-R35, R50, R52). -/

namespace Sys2Proof.Machine

/-! ### The fields of a word -/

/-- The block registers of a page (R26). -/
def pageFields (pg : Nat) : List Fld :=
  match blockType pg with
  | 0x01 => DEVICE.fields | 0x02 => POWER.fields | 0x03 => CLOCKS.fields | 0x04 => FAULT.fields
  | 0x05 => TIME.fields | 0x06 => TOUT.fields | 0x07 => CUP.fields | 0x08 => PHY.fields | 0x09 => MAC.fields
  | 0x0A => TWINLINK.fields | 0x0B => TWIN.fields | 0x0C => TRANSIT.fields | 0x10 => SWITCH.fields
  | 0x11 => BUFFER.fields | 0x12 => ARB.fields | 0x14 => BRIDGE.fields | 0x15 => POLL.fields | 0x16 => MGMT.fields
  | 0x18 => GCM.fields | 0x19 => KEYS.fields | 0x20 => ENG.fields | 0x21 => CHK.fields | 0x22 => CAN.fields
  | 0x24 => USBHUB.fields | 0x25 => USBFN.fields | 0x26 => BRK.fields | 0x27 => LINE.fields | 0x28 => PINBANK.fields
  | 0x29 => XSPI.fields | 0x2A => UPDATE.fields | 0x2B => OTP.fields
  | _ => []

/-- A part of a register word: copy `i` of a field, its place in the word, and whether it is the upper half of a 64-bit
value. -/
structure Slot where
  fld : Fld
  i : Nat
  lo : Nat
  high : Bool := false

/-- The bits of the word a part fills. -/
def Slot.w (x : Slot) : Nat := min x.fld.w 32

/-- The copy that the selector register of the page names for a selected field (R42, R152, R154, R248, R299, R327, R353,
R397, R471). DFE_SEL.TAP 0 and 13 to 15 name no tap: they are stored and DFE_VAL then reads 0 (R82, log 63). -/
def State.selected (s : State) (pg : Nat) (f : Fld) (off : Nat) : Nat :=
  let n := pg - f.page
  match blockType pg with
  | 0x08 => 16 * s.rdn n PHY.DFE_SEL_LANE + s.rdn n PHY.DFE_SEL_TAP
  | 0x0B => s.rd TWIN.STEP_SEL_ENGINE
  | 0x11 => s.rd BUFFER.VOQ_SEL_INDEX
  | 0x12 => if f.sel = 1 then s.rd ARB.REQ_SEL_INDEX else s.rd ARB.LFSR_SEL_OUTPUT
  | 0x14 => s.rd BRIDGE.WIN_SEL_WINDOW
  | 0x15 => s.rd POLL.POLL_SEL_INDEX
  | 0x18 => s.rd GCM.A_SEL_ENTRY
  | 0x20 => s.rdn n ENG.CTX_SEL_CONTEXT
  | 0x21 => s.rdn n CHK.CTX_SEL_CONTEXT
  | 0x22 => s.canSel n off
  | 0x28 => s.rdn n PINBANK.HOLDER_SEL_PIN
  | 0x2B => s.rd OTP.GEN_VIEW_GEN
  | _ => 0

/-- The copies of a field that lie in the word at `off` of page `pg`. -/
def State.fieldSlots (s : State) (pg off : Nat) (f : Fld) : List Slot :=
  if off < f.off then []
  else
    let d := off - f.off
    if f.page = 0x4C && f.off = 0x11C then
      (if d / 64 < 12 && d % 64 < 32 && d % 4 = 0 then [{ fld := f, i := 8 * (d / 64) + d % 64 / 4, lo := f.lo }] else [])
    else if f.bstr ≠ 0 then
      (if d = 0 then (List.range f.cnt).map (fun k => { fld := f, i := k, lo := f.lo + f.bstr * k }) else [])
    else
      let st := if f.stride = 0 then (if f.w = 64 then 8 else 4) else f.stride
      let base := if f.sel = 0 then 0 else s.selected pg f off * f.cnt
      if f.w = 64 then
        (if d / st < f.cnt && (d % st = 0 || d % st = 4) then [{ fld := f, i := base + d / st, lo := 0, high := d % st = 4 }]
         else [])
      else if d % st = 0 && d / st < f.cnt then [{ fld := f, i := base + d / st, lo := f.lo }]
      else []

/-- The parts of the register word at `off` of a page. -/
def State.slots (s : State) (pg off : Nat) : List Slot := (pageFields pg).flatMap (s.fieldSlots pg off)

/-- The bits of a part as a read shows them; a WO field reads 0 (R8). -/
def State.slotValue (s : State) (pg : Nat) (x : Slot) : Nat :=
  if x.fld.acc = .wo then 0
  else (s.rdn (pg - x.fld.page) x.fld x.i / (if x.high then 2 ^ 32 else 1)) % 2 ^ x.w

/-- The word as the stored fields give it. -/
def State.fieldWord (s : State) (pg off : Nat) : Nat :=
  (s.slots pg off).foldl (fun v x => v + s.slotValue pg x * 2 ^ x.lo) 0

/-! ### Fields that show the state of a unit -/

/-- The bits of the numbers below `n` that satisfy a condition. -/
def mapBits (n : Nat) (p : Nat → Bool) : Nat := (List.range n).foldl (fun v i => if p i then v + 2 ^ i else v) 0

/-- An operation started from the page runs (R31). -/
def State.opRuns (s : State) (pg : Nat) : Bool :=
  match blockType pg with
  | 0x01 => s.rd DEVICE.SET_STAT_STATUS = 1
  | 0x04 => s.rd FAULT.CLR_CTRL_STATUS = 1
  | 0x07 => s.cupSnap.isSome
  | 0x08 => s.rdn (pg - 8) PHY.PHY_CTRL_RETRAIN = 1
  | 0x0A => s.rd TWINLINK.LINK_CTRL_RETRAIN = 1
  | 0x0B => s.rd TWIN.PEER_CMD_STATUS = 1 || s.rd TWIN.STAT_HANDOVER_PEND = 1
  | 0x0C => s.byp.waiting && !s.byp.startup
  | 0x14 => s.rd BRIDGE.FENCE_STAT_STATUS = 1 || s.rd BRIDGE.RDA_STAT_STATUS = 1
  | 0x18 => s.rd GCM.REC_CTRL_STATUS = 1
  | 0x20 =>
    (s.eng (pg - 0x20)).snapOf.isSome || s.rdn (pg - 0x20) ENG.PB_STAT_SWAP_PEND = 1 ||
    (List.range 32).any (fun c =>
      let x := s.ctx (pg - 0x20) c
      x.inj.isSome || x.startPend || x.stopReq || x.tx.flush || x.rx.flush)
  | 0x29 => s.rd XSPI.FL_CMD_STATUS = 1
  | 0x2A => s.updBusy
  | 0x2B => s.rd OTP.PROG_CTRL_STATUS = 1
  | _ => false

/-- BLK_STAT (R31); zero in a page whose domain is off (R41). -/
def State.blkStat (s : State) (pg : Nat) : Nat :=
  if !s.pageOn pg then 0
  else
    put1 (s.locked pg) 8 + put1 (s.pageUnit.colFence.contains pg) 5 + put1 (s.pageUnit.swFence.contains pg) 4 +
    put1 (s.rdn pg HDR.FLT_STAT_CHECKERS ≠ 0) 3 + put1 (s.pageUnit.inReset.contains pg || s.opRuns pg) 2 +
    put1 (s.pageUnit.swFence.contains pg || s.pageUnit.colFence.contains pg) 1 + put1 (!s.pageUnit.inReset.contains pg && s.enabled pg) 0

/-- The words of the page header (R27-R35). -/
def State.headerWord (s : State) (pg off : Nat) : Nat :=
  match off with
  | 0x00 => blockType pg * 2 ^ 24 + blockInstance pg * 2 ^ 16 + s.rdn pg HDR.BLK_ID_MAJOR * 2 ^ 8 + s.rdn pg HDR.BLK_ID_MINOR
  | 0x04 => s.rdn pg HDR.BLK_CTRL_FENCE_REQ * 4 + put1 (s.pageUnit.inReset.contains pg) 1 + s.rdn pg HDR.BLK_CTRL_ENABLE
  | 0x08 => s.blkStat pg
  | 0x0C => s.rdn pg HDR.BLK_ACCESS_WR_MASK pg * 2 ^ 8 + s.rdn pg HDR.BLK_ACCESS_RD_MASK pg
  | 0x10 => s.rdn pg HDR.INT_STAT_EVENTS
  | 0x14 => s.rdn pg HDR.INT_EN_ENABLES
  | 0x1C => s.rdn pg HDR.FLT_STAT_CHECKERS
  | 0x20 => s.rdn pg HDR.FLT_INJ_INJECT
  | 0x24 => s.rdn pg HDR.LOCK_LOCKED
  | _ => 0

/-- The head record of the fault FIFO, as REC_HEAD0 to REC_HEAD3 show it (R487). -/
def State.recHead (s : State) (k : Nat) : Nat :=
  match s.flt.recs with
  | [] => 0
  | r :: _ =>
    match k with
    | 0 => (r.cls + 1) * 2 ^ 30 + put1 r.inj 29 + put1 r.prot 28 + put1 r.esc 27 + r.row % 8 * 2 ^ 24 + r.page % 256 * 2 ^ 16 +
        r.checker % 32 * 2 ^ 8 + r.seq % 256
    | 1 => r.detail % 2 ^ 32
    | 2 => r.fab / 2 ^ 48 % 1000000000
    | _ => r.fab / 2 ^ 48 / 1000000000 % 2 ^ 32

/-- The head of the change queue, as CQ_HEAD0 to CQ_HEAD3 show it (R329). -/
def State.cqHead (s : State) (k : Nat) : Nat :=
  match s.bridge.cq with
  | [] => 0
  | c :: _ =>
    match k with
    | 0 => c.kind % 8 * 2 ^ 29 + c.code % 256 * 2 ^ 16 + c.index % 1024
    | 1 => c.value % 2 ^ 32
    | 2 => c.ns % 1000000000
    | _ => c.ns / 1000000000 % 2 ^ 32

/-- The head report, as REP_HEAD shows it (R507). -/
def State.repHead (s : State) : Nat :=
  match s.upd.reps with
  | [] => 0
  | (c, n, b) :: _ => c % 256 * 2 ^ 24 + n % 4096 * 2 ^ 12 + b % 512

/-- A context of an engine page: word `k` of its register block, or of the snapshot window (R247, R249). -/
def State.engBlock (s : State) (e off : Nat) : Option Nat :=
  if 0x400 ≤ off ∧ off < 0xC00 then some (s.ctxWord e ((off - 0x400) / 64) ((off - 0x400) % 64 / 4))
  else if 0xC00 ≤ off ∧ off < 0xC40 then some ((s.eng e).window.getD ((off - 0xC00) / 4) 0)
  else none

/-- Fields of a word whose value is the state of a unit: lowest bit, width, value. Levels in units of 64 bytes are rounded
down (R121, log 64). -/
def State.shown (s : State) (pg off : Nat) : List (Nat × Nat × Nat) :=
  let n := pg % 16
  match blockType pg, off with
  | 0x01, 0x120 => [(0, 32, mapBits 32 s.asserted)]
  | 0x01, 0x124 => [(0, 32, mapBits 32 (fun i => s.asserted (32 + i)))]
  | 0x03, 0x44 => [(4, 1, bit (s.pdOn 4)), (12, 1, bit (s.pdOn 5))]
  | 0x03, 0x88 => [(5, 1, bit s.ref.edges.isSome)]
  | 0x03, 0x8C => [(0, 32, s.refOffset)]
  | 0x04, 0x40 => [(31, 1, bit s.flt.self), (16, 8, min s.flt.fatals.length 255), (8, 8, min s.flt.conts.length 255),
      (0, 6, s.flt.recs.length)]
  | 0x04, 0x44 => [(0, 32, s.recHead 0)]
  | 0x04, 0x48 => [(0, 32, s.recHead 1)]
  | 0x04, 0x4C => [(0, 32, s.recHead 2)]
  | 0x04, 0x50 => [(0, 32, s.recHead 3)]
  | 0x04, 0x70 => [(0, 3, put1 s.flt.fltLow 2 + put1 s.flt.aliveRun 1 + put1 (!s.flt.prots.isEmpty) 0)]
  | 0x04, 0x80 => [(0, 32, mapBits 32 (fun i => s.rdn i HDR.FLT_STAT_CHECKERS ≠ 0))]
  | 0x04, 0x84 => [(0, 32, mapBits 32 (fun i => s.rdn (32 + i) HDR.FLT_STAT_CHECKERS ≠ 0))]
  | 0x04, 0x88 => [(0, 32, mapBits 32 (fun i => s.rdn (64 + i) HDR.FLT_STAT_CHECKERS ≠ 0))]
  | 0x05, 0x40 => [(16, 16, s.fab / 2 ^ 32 % 2 ^ 16), (0, 16, s.nowSec / 2 ^ 32 % 2 ^ 16)]
  | 0x05, 0x44 => [(0, 30, s.nowNs)]
  | 0x05, 0x48 => [(0, 32, s.nowSec % 2 ^ 32)]
  | 0x09, 0x44 => [(3, 1, bit s.acting)]
  | 0x08, 0x80 => [(0, 32, s.cwShown (.ring (if pg = 8 then .east else .west)) 0)]
  | 0x08, 0x84 => [(0, 32, s.cwShown (.ring (if pg = 8 then .east else .west)) 0 / 2 ^ 32)]
  | 0x08, 0x88 => [(0, 32, s.corrShown (.ring (if pg = 8 then .east else .west)) 0)]
  | 0x08, 0x8C => [(0, 32, s.corrShown (.ring (if pg = 8 then .east else .west)) 0 / 2 ^ 32)]
  | 0x08, 0x98 => [(0, 32, s.cwShown (.ring (if pg = 8 then .east else .west)) 1)]
  | 0x08, 0x9C => [(0, 32, s.cwShown (.ring (if pg = 8 then .east else .west)) 1 / 2 ^ 32)]
  | 0x08, 0xA0 => [(0, 32, s.corrShown (.ring (if pg = 8 then .east else .west)) 1)]
  | 0x08, 0xA4 => [(0, 32, s.corrShown (.ring (if pg = 8 then .east else .west)) 1 / 2 ^ 32)]
  | 0x0A, 0x80 => [(0, 32, s.cwShown .twin 0)]
  | 0x0A, 0x84 => [(0, 32, s.cwShown .twin 0 / 2 ^ 32)]
  | 0x0A, 0x88 => [(0, 32, s.corrShown .twin 0)]
  | 0x0A, 0x8C => [(0, 32, s.corrShown .twin 0 / 2 ^ 32)]
  | 0x0A, 0x98 => [(0, 32, s.slipShown)]
  | 0x0A, 0x9C => [(0, 32, s.slipShown / 2 ^ 32)]
  | 0x0A, 0x44 => [(4, 2, if s.role = 1 then 1 else if s.role = 2 then 2 else 0)]
  | 0x0B, 0x4C => [(10, 1, bit (s.isTwin && s.stepAll)), (8, 1, s.otp.index)]
  | 0x0B, 0x7C => [(0, 32, Tbl.get 0 s.twin.step (s.rd TWIN.STEP_SEL_ENGINE))]
  | 0x0C, 0x4C => [(3, 1, bit (bitOf (s.rdn 0x0E HDR.FLT_STAT_CHECKERS) 0))]
  | 0x0C, 0x54 => [(16, 11, min 2047 ((s.txOf .west).level / 64)), (0, 11, min 2047 ((s.txOf .east).level / 64))]
  | 0x0C, 0x5C => [(0, 13, (s.win.filter s.streamFresh).length)]
  | 0x10, 0x60 => (List.range 8).map (fun p => (2 * p, 2,
      let v := s.rd SWITCH.PORT_STAT_STATE p
      if v ≠ 2 && s.outFenced p then 1 else if v = 0 && s.pageUnit.swFence.contains 0x10 then 3 else v))
  | 0x11, 0x48 =>
    let q := s.voq (s.rd BUFFER.VOQ_SEL_INDEX)
    [(31, 1, bit q.held), (16, 15, (q.q.map (fun c => c.a + c.s)).sum), (0, 12, q.q.length)]
  | 0x11, 0x50 => [(0, 15, 24576 - s.buf.offFree.length)]
  | 0x12, 0x48 =>
    let q := s.voq (s.rd ARB.REQ_SEL_INDEX)
    [(16, 16, min 0xFFFF ((s.cycle - q.since.getD s.cycle) / 64)), (8, 8, q.wait), (0, 1, bit q.since.isSome)]
  | 0x12, 0x58 => [(0, 32, s.lfsrOf (s.rd ARB.LFSR_SEL_OUTPUT))]
  | 0x14, 0x50 =>
    let w := s.rd BRIDGE.WIN_SEL_WINDOW
    [(16, 7, (s.bridge.reads.filter (fun h => h.win = w)).length),
     (0, 11, (s.bridge.reqs.filter (fun r => r.kind = 0 && r.win = w)).length)]
  | 0x15, 0x60 => [(0, 9, s.bridge.cq.length)]
  | 0x15, 0x64 => [(0, 32, s.cqHead 0)]
  | 0x15, 0x68 => [(0, 32, s.cqHead 1)]
  | 0x15, 0x6C => [(0, 32, s.cqHead 2)]
  | 0x15, 0x70 => [(0, 32, s.cqHead 3)]
  | 0x16, 0x400 => [(0, 1, 1)]
  | 0x19, 0x5C => [(16, 9, (s.gcm.cache.filter s.pinned).length), (0, 9, s.gcm.cache.length)]
  | 0x20, 0x44 => [(23, 1, s.bank n), (0, 6, ((List.range 32).filter (fun c => (s.ctx n c).ready)).length)]
  | 0x20, 0x48 => [(0, 8, s.flagsNow n)]
  | 0x20, 0x50 => [(0, 32, mapBits 32 (fun c => (s.ctx n c).run))]
  | 0x20, 0x54 => [(0, 32, mapBits 32 (fun c => (s.ctx n c).stall ≠ 0))]
  | 0x20, 0x58 => [(0, 32, mapBits 32 (fun c => (s.ctx n c).deferred))]
  | 0x20, 0x5C => [(5, 1, bit ((s.eng n).snapOf.isSome))]
  | 0x20, 0x88 => [(0, 32, s.boundary.2 % 2 ^ 32)]
  | 0x20, 0x8C => [(0, 32, s.boundary.2 / 2 ^ 32 % 2 ^ 32)]
  | 0x20, 0x94 =>
    let x := s.ctx n (s.selCtx n)
    [(0, 2, put1 x.rx.flush 1 + put1 x.tx.flush 0)]
  | 0x20, 0xA0 =>
    let x := s.ctx n (s.selCtx n)
    [(0, 32, if s.rdn n ENG.CTX_CFG_FIFO_SW (s.selCtx n) = 0 || x.rx.words = 0 || x.rx.flush then 0 else (x.rx.take).1.word.toNat)]
  | 0x20, 0xC0 => [(0, 1, s.rdn n ENG.PB_STAT_SWAP_PEND)]
  | 0x21, 0xCC => [(0, 32, (s.ctx n (s.rdn n CHK.CTX_SEL_CONTEXT)).chk.run)]
  | 0x21, 0xD0 => [(0, 16, (s.ctx n (s.rdn n CHK.CTX_SEL_CONTEXT)).chk.rxseq)]
  | 0x21, 0xD4 =>
    let k := (s.ctx n (s.rdn n CHK.CTX_SEL_CONTEXT)).chk
    [(0, 4, put1 k.append 3 + put1 k.paused 2 + put1 k.dirIn 1 + put1 k.seeded 0)]
  | 0x22, 0x44 => [(5, 1, bit (s.canGated (pg - 0x40)))]
  | 0x25, 0x54 => [(0, 10, s.usb.stream.length)]
  | 0x28, 0xC8 => [(0, 32, mapBits 32 (fun k => s.readPin (32 * (pg - 0x50) + k)))]
  | 0x28, 0xCC => [(0, 32, mapBits 32 (fun k => (s.driven (32 * (pg - 0x50) + k)).isSome))]
  | 0x28, 0xD4 =>
    (match s.holder (32 * (pg - 0x50) + s.rdn (pg - 0x50) PINBANK.HOLDER_SEL_PIN) with
     | some k => [(31, 1, 1), (0, 9, k)]
     | none => [(31, 1, 0), (0, 9, 0)])
  | 0x2A, 0x50 => [(0, 32, if s.flash.ready then blkId (s.slotBlock 1 0) % 2 ^ 32 else 0)]
  | 0x2A, 0x54 => [(0, 32, if s.flash.ready then blkId (s.slotBlock 1 0) / 2 ^ 32 else 0)]
  | 0x2A, 0x60 => [(0, 32, if s.flash.ready then blkField (blkData (s.slotBlock 1 0)) 8 4 else 0)]
  | 0x2A, 0x70 => [(0, 8, s.upd.reps.length)]
  | 0x2A, 0x74 => [(0, 32, s.repHead)]
  | 0x2B, 0x40 =>
    [(19, 1, bit s.otp.killEn), (18, 1, bit s.otp.killStarted), (17, 1, bit (!s.otp.keyGood 0 && !s.otp.keyGood 1)),
     (16, 1, bit s.otp.keyLocked), (10, 1, bit s.otp.sel.isNone), (8, 2, s.otp.sel.getD 0),
     (4, 4, mapBits 4 (fun g => s.otp.word g 47 % 2 = 1)), (0, 4, mapBits 4 s.otp.valid)]
  | _, _ => []

/-- Replaces some bits of a word. -/
def putBits (v : Nat) (p : Nat × Nat × Nat) : Nat := v - bits v p.1 p.2.1 * 2 ^ p.1 + p.2.2 % 2 ^ p.2.1 * 2 ^ p.1

/-- Registers that the hub has only in part of its pages or roles: the base cycle on ENG0 alone (R248), TWIN with its
reset values on a hub that is no twin (R190). -/
def State.absentWord (s : State) (pg off : Nat) : Option Nat :=
  if 0x21 ≤ pg ∧ pg < 0x30 ∧ 0x80 ≤ off ∧ off < 0x90 then some 0
  else if pg = 0x0D && !s.isTwin then
    some (TWIN.fields.foldl (fun v f =>
      if f.acc ≠ .wo ∧ f.off = off then v + f.dflt 0 % 2 ^ 32 * 2 ^ f.lo else v) (if off = 0x4C then s.otp.index * 256 else 0))
  else none

/-- The block register at `off` of a page. -/
def State.blockWord (s : State) (pg off : Nat) : Nat :=
  match s.absentWord pg off with
  | some v => v
  | none =>
    match (if 0x20 ≤ pg ∧ pg < 0x30 then s.engBlock (pg - 0x20) off else none) with
    | some v => v
    | none =>
      if pg = 0x5A && 0x100 ≤ off && off < 0x1C0 then s.otp.word (s.rd OTP.GEN_VIEW_GEN) ((off - 0x100) / 4)
      else if pg = 0x06 && 0x100 ≤ off && off < 0x400 && off % 32 = 20 then (Tbl.get {} s.cup ((off - 0x100) / 32)).count
      else (s.shown pg off).foldl putBits (s.fieldWord pg off)

/-- A word of a register page, without what reading it does. -/
def State.peekPage (s : State) (pg off : Nat) : Nat :=
  if off < 0x40 then s.headerWord pg off else s.blockWord pg off

/-- A word of the ownership table, as the diagnostic window shows it (R131). -/
def CellEnt.word (c : CellEnt) : Nat :=
  c.st % 4 * 2 ^ 30 + c.owner % 512 * 2 ^ 21 + c.gen % 16 * 2 ^ 17 + c.refs % 4 * 2 ^ 15 + c.next % 2 ^ 15

/-- A word of BAR0 that the hub judges as permitted, without what reading it does (R25). -/
def State.peek (s : State) (a : Nat) : Nat :=
  if a < 0x100000 then s.peekPage (a / 4096) (a % 4096)
  else if a < 0x140000 then
    s.progWord ((a - 0x100000) / 0x4000) ((a - 0x100000) % 0x4000 / 0x2000) ((a - 0x100000) % 0x2000 / 4)
  else if a < 0xA00000 then ofLe (bnat (memRead 0 s.bufMem (a - 0x400000) 4))
  else if a < 0xA18000 then (s.cell ((a - 0xA00000) / 4)).word
  else if a < 0xFF0400 then s.msix.word ((a - 0xFF0000) / 4)
  else mapBits 32 (fun i => s.msix.pba.contains (32 * ((a - 0xFF8000) / 4) + i))

/-! ### Captures -/

/-- How many words a read of this one captures with it (R52): one for a 64-bit value, more where the page says so. -/
def State.captures (s : State) (pg off : Nat) : Nat :=
  if off < 0x40 then 0
  else match pg, off with
  | 0x04, 0x40 => 2
  | 0x16, 0x5C => 1
  | 0x19, 0x4C => 1
  | 0x03, 0x44 => 3
  | 0x15, 0x64 => 3
  | 0x49, 0x68 => 1
  | _, _ => if (s.slots pg off).any (fun x => x.fld.w = 64 && !x.high) then 1 else 0

/-- The key of a holding register: each port has its own (R52). -/
def holdKey (p : Port) (a : Nat) : Nat := p.code * 2 ^ 24 + a

/-- A read of the word at `a` by port `p`: a word captured earlier is returned once; the lowest word of a group captures
the words after it (R52). Clearing an RC word is not part of it. -/
def State.readWord (s : State) (p : Port) (a : Nat) : Nat × State :=
  match (if a < 0x100000 then Tbl.find s.pageUnit.hold (holdKey p a) else none) with
  | some v => (v, { s with pageUnit := { s.pageUnit with hold := Tbl.del s.pageUnit.hold (holdKey p a) } })
  | none =>
    let n := if a < 0x100000 then s.captures (a / 4096) (a % 4096) else 0
    let hold := (List.range n).foldl (fun t k =>
      Tbl.put t (holdKey p (a + 4 * (k + 1))) (s.peek (a + 4 * (k + 1)))) s.pageUnit.hold
    (s.peek a, { s with pageUnit := { s.pageUnit with hold := hold } })

/-- The engine and context whose RX FIFO a read of `a` pops: RXF_POP, the only RC register (R240, R248). -/
def State.rcOf (s : State) (a : Nat) : Option (Nat × Nat) :=
  if 0x20000 ≤ a ∧ a < 0x30000 ∧ a % 4096 = 0xA0 then some ((a - 0x20000) / 4096, s.selCtx ((a - 0x20000) / 4096)) else none

/-- A whole read access to the word at `a`, with the clearing of an RC word (R8). -/
def State.readBar (s : State) (p : Port) (a : Nat) : Nat × State :=
  match s.rcOf a with
  | some (e, c) => s.swPop e c
  | none => s.readWord p a

end Sys2Proof.Machine
end

