-- ==== Sys2Proof/Machine/Poke.lean ====
section
/-! DEFINITION. What a permitted write of a block register does: field by field (R6, R8), and where a register starts
something, the same operation its own command uses. -/

namespace Sys2Proof.Machine

/-! ### Field by field -/

/-- Writes one part of a word by its field's access code (R6, R8). RO, WO and RC fields take nothing here; what a W1S
bit starts stands with its register. -/
def State.writeSlot (pg v : Nat) (s : State) (x : Slot) : State :=
  let n := pg - x.fld.page
  let new := bits v x.lo x.w
  match x.fld.acc with
  | .w1c => s.wrn n x.fld (s.rdn n x.fld x.i - (s.rdn n x.fld x.i &&& new)) x.i
  | .rw | .rwl =>
    let old := s.rdn n x.fld x.i
    let val := if x.fld.w = 64 then (if x.high then old % 2 ^ 32 + new * 2 ^ 32 else old / 2 ^ 32 * 2 ^ 32 + new) else new
    if x.fld.ok val && !(x.fld.acc = .rwl && s.locked pg) then s.wrn n x.fld val x.i else s
  | _ => s

/-- A write of a word of plain registers. -/
def State.writeFields (s : State) (pg off v : Nat) : State := (s.slots pg off).foldl (State.writeSlot pg v) s

/-! ### Counters -/

/-- The counters that CNT_CLR of a page clears, with its offset. -/
def clrOf (pg : Nat) : Nat × List Fld :=
  match blockType pg with
  | 0x02 => (0xAC, [POWER.TOL_MISS_CNT_COUNT, POWER.SHORT_CNT_COUNT, POWER.SLOT_SHED_CNT_COUNT, POWER.TEMP_MAX])
  | 0x04 => (0x8C, [FAULT.CORR_CNT_COUNT, FAULT.CORR_LOST_COUNT, FAULT.REPEAT_CNT_COUNT])
  | 0x05 => (0x9C, [TIME.SYNC_RX_COUNT, TIME.SYNC_REJ_COUNT, TIME.DREQ_RX_COUNT])
  | 0x08 => (0xB0, [PHY.CW_COUNT, PHY.CORR_COUNT, PHY.UNC_COUNT])
  | 0x09 => (0x148, [MAC.LANE_CHG_CNT_COUNT, MAC.LINK_DOWN_CNT_COUNT, MAC.TRANSIT_EXP_COUNT, MAC.TRANSIT_ORD_COUNT,
      MAC.TBUF_DROP_COUNT, MAC.INSERTED_COUNT, MAC.ABANDONED_COUNT, MAC.RX_ACCEPT_COUNT, MAC.RX_DUP_COUNT,
      MAC.RX_STALE_COUNT, MAC.RX_HCHK_COUNT, MAC.RX_CRC_COUNT, MAC.RX_TAG_COUNT, MAC.RX_MALFORMED_COUNT,
      MAC.RX_ERRORED_COUNT, MAC.REMOVED_HOPS_COUNT, MAC.REMOVED_RETURN_COUNT, MAC.REMOVED_XING_COUNT,
      MAC.RX_WIN_FULL_COUNT, MAC.LAUNCH_SENT_COUNT, MAC.LAUNCH_MISS_COUNT])
  | 0x0A => (0xA0, [TWINLINK.CW_COUNT, TWINLINK.CORR_COUNT, TWINLINK.UNC_COUNT, TWINLINK.SLIP_COUNT])
  | 0x0B => (0x90, [TWIN.POUR_TIME_MAX, TWIN.POUR_TIME_LAST, TWIN.SNAP_SENT_COUNT, TWIN.SNAP_OK_COUNT,
      TWIN.SNAP_PARTIAL_COUNT, TWIN.SNAP_LATE_COUNT, TWIN.TAKEOVERS_COUNT, TWIN.EP0_DROP_COUNT, TWIN.DIVERGE_CNT_COUNT])
  | 0x10 => (0x104, [SWITCH.VOQ_DISC_COUNT, SWITCH.PDOWN_DISC_COUNT])
  | 0x11 => (0xB8, [BUFFER.LEAK_CNT_COUNT, BUFFER.ECC_CORR_COUNT])
  | 0x14 => (0x90, [BRIDGE.RD_TMO_CNT_COUNT, BRIDGE.LATE_ANS_COUNT, BRIDGE.BAD_ACC_COUNT, BRIDGE.RXR_DROP_COUNT,
      BRIDGE.TXR_REFUSED_COUNT])
  | 0x15 => (0x84, [POLL.CQ_OVF_COUNT, POLL.POLL_SKIP_COUNT])
  | 0x16 => (0x54, [MGMT.ABSENT_CNT_COUNT, MGMT.REMOTE_WR_COUNT, MGMT.REMOTE_RD_COUNT, MGMT.REFUSED_RX_COUNT])
  | 0x18 => (0xC4, [GCM.SEALED_COUNT, GCM.OPENED_COUNT, GCM.TAG_FAIL_COUNT, GCM.REPLAY_COUNT, GCM.UNSECURED_COUNT,
      GCM.NOASSOC_COUNT, GCM.REFUSED_COUNT])
  | 0x19 => (0x68, [KEYS.DERIVE_CNT_COUNT, KEYS.MISS_CNT_COUNT])
  | 0x20 => (0x78, [ENG.DISP_COUNT, ENG.DEFER_CNT_COUNT, ENG.LATE_CNT_COUNT, ENG.OVERRUN_CNT_COUNT, ENG.FRM_DROP_CNT_COUNT,
      ENG.PB_WREJ_COUNT])
  | 0x21 => (0xEC, [CHK.PASS_CNT_COUNT, CHK.BAD_CNT_COUNT, CHK.APPEND_CNT_COUNT])
  | 0x24 => (0xCC, [USBHUB.TT_DROP_COUNT, USBHUB.OVC_CNT_COUNT, USBHUB.RESUME_CNT_COUNT])
  | 0x25 => (0x70, [USBFN.STREAM_DROP_COUNT, USBFN.STREAM_LATE_COUNT, USBFN.AUTH_FAIL_COUNT, USBFN.CMD_CNT_COUNT])
  | 0x27 => (0x80, [LINE.I_NOW_MAX, LINE.OFF_CNT_COUNT, BRK.CH_TRIPS_COUNT])
  | 0x28 => (0xE4, [PINBANK.GLITCH_CNT_COUNT, PINBANK.STAMP_CNT_COUNT])
  | 0x2A => (0x90, [UPDATE.TAG_FAIL_COUNT, UPDATE.RESENT_COUNT, UPDATE.REP_LOST_COUNT])
  | _ => (0, [])

/-- A write of CNT_CLR: all counters of the page together. -/
def State.clearCounters (s : State) (pg : Nat) : State :=
  let s1 := (clrOf pg).2.foldl (fun t f => t.clrFields (if f.page = 0x4C then 0 else pg - f.page) [f]) s
  match blockType pg with
  | 0x08 => s1.cwAgain (.ring (if pg = 8 then .east else .west))
  | 0x0A => s1.cwAgain .twin
  | _ => s1

/-! ### Registers that start something, page by page -/

/-- A doorbell's bits as events of the page, from bit `base` on (R331, R378). -/
def State.ring_ (s : State) (pg base v : Nat) : State :=
  ((List.range 8).filter (bitOf v)).foldl (fun t k => t.raise pg (base + k)) s

/-- SET_CTRL.SAVE: ignored while a save is busy and by a fenced DEVICE (R30); it ends in error where the flash is not
powered (R461, log 43). -/
def State.settingsSave (s : State) : State :=
  if s.modeU.saving || s.fenced 0 then s
  else if !s.pdOn 6 then s.wr DEVICE.SET_STAT_STATUS 3
  else ((s.updMode (fun m => { m with saving := true })).wr DEVICE.SET_CTRL_SAVE 1).wr DEVICE.SET_STAT_STATUS 1

/-- DENY_CLR: bit p clears DENY_CNTp (R42). -/
def State.denyClr (s : State) (v : Nat) : State :=
  ((List.range 6).filter (bitOf v)).foldl (fun t p => t.wr DEVICE.DENY_CNT_COUNT 0 p) s

/-- DEVICE (R42, R467). -/
def State.pokeDevice (s : State) (p : Port) (off v : Nat) : Option State :=
  match off with
  | 0x44 => some (s.writeModeReq p (v % 8))
  | 0x54 => some (if s.step_ < 5 then s else s.resetCtrl p v)
  | 0x58 => some (if bitOf v 0 then s.settingsSave else s)
  | 0x118 => some (s.denyClr v)
  | _ => none

/-- POWER: thresholds of one register hold together, or it stays unchanged (R442, R444). -/
def State.pokePower (s : State) (off v : Nat) : Option State :=
  match off with
  | 0x68 =>
    let shed := bits v 0 8
    let join := bits v 8 8
    some (if 1 ≤ shed ∧ shed < join ∧ join ≤ 100 then s.writeFields 1 off v else s)
  | 0x90 =>
    let w := bits v 0 8
    let h := bits v 8 8
    let c := bits v 16 8
    some (if 50 ≤ w ∧ w < h ∧ h < c ∧ c ≤ 135 then s.writeFields 1 off v else s)
  | _ => none

/-- CLOCKS.REF_CTRL (R63, R81): TAKE, then YIELD; REF_CFG: the east lanes are a source only while LANE_FALLBACK is 1
(R57). -/
def State.pokeClocks (s : State) (off v : Nat) : Option State :=
  match off with
  | 0x84 =>
    let s1 := if bitOf v 0 && s.rd CLOCKS.REF_CFG_ROLE ≠ 0 then s.becomeActing else s
    some (if bitOf v 1 then s1.stopActing else s1)
  | 0x80 =>
    let s1 := s.writeFields 2 off v
    some (if s1.rd CLOCKS.REF_STAT_SOURCE = 1 && !s1.flag CLOCKS.REF_CFG_LANE_FALLBACK then s1.loseSource else s1)
  | _ => none

/-- FAULT (R480, R486, R487). What a checker finds when it checks again is open here: a free value. -/
def State.pokeFault (s : State) (off v : Nat) : Option State :=
  match off with
  | 0x54 => some (if bitOf v 0 then s.recPop else s)
  | 0x64 => some (if bitOf v 0 then s.draw.2.clearGo (s.draw.1 % 2 = 1) else s)
  | 0x6C => some (if bitOf v 0 then s.fltRelease else s)
  | _ => none

/-- TIME (R206, R220): HOLD, then STEP_GO, then STEP_ARM; RATE only with HOLD or on the grandmaster. -/
def State.pokeTime (s : State) (off v : Nat) : Option State :=
  match off with
  | 0x58 =>
    let s1 := s.wr TIME.CTRL_HOLD (bits v 2 1)
    let s2 := if bitOf v 1 then s1.stepGo else s1
    some (if bitOf v 0 then s2.stepArm else s2)
  | 0x68 => some (if s.flag TIME.CTRL_HOLD || s.isGm then s.writeFields 4 off v else s)
  | _ => none

/-- TOUT: a write of CTRLk: ARM, then DISARM (R216, R218). -/
def State.pokeTout (s : State) (off v : Nat) : Option State :=
  if 0x58 ≤ off ∧ off < 0xD8 ∧ off % 32 = 24 then
    let k := (off - 0x58) / 32
    let s1 := if bitOf v 0 then s.toutArm k else s
    some (if bitOf v 1 then s1.toutDisarm k else s1)
  else none

/-- CUP (R489, R492). -/
def State.pokeCup (s : State) (off v : Nat) : Option State :=
  if off = 0x40 then some (s.writeSnapCtrl v)
  else if 0x100 ≤ off ∧ off < 0x400 then some (s.writeMonitor ((off - 0x100) / 32) ((off - 0x100) % 32) v)
  else none

/-- A PHY page (R74, R82, R87): RETRAIN; TX_FFE is read only while AUTO_TRAIN is 1. -/
def State.pokePhy (s : State) (d : Side) (off v : Nat) : Option State :=
  match off with
  | 0x40 =>
    let s1 := s.writeFields (8 + d.n) off v
    some (if bitOf v 3 then s1.retrain (.ring d) else s1)
  | 0x4C => if s.autoTrain (.ring d) then some s else none
  | 0x50 => if s.autoTrain (.ring d) then some s else none
  | _ => none

/-- TWINLINK (R185). -/
def State.pokeTwinLink (s : State) (off v : Nat) : Option State :=
  match off with
  | 0x40 =>
    let s1 := s.writeFields 0x0C off v
    some (if bitOf v 2 then s1.retrain .twin else s1)
  | 0x48 => if s.autoTrain .twin then some s else none
  | _ => none

/-- TWIN (R182, R187, R188); a hub that is no twin ignores every write (R190). -/
def State.pokeTwin (s : State) (off v : Nat) : Option State :=
  if !s.isTwin then some s
  else match off with
  | 0x44 => some (if bitOf v 0 then s.handover s.twin.peerStep else s)
  | 0x8C => some (if bitOf v 0 then s.peerGo else s)
  | _ => none

/-- TRANSIT.BYP_CTRL (R118, R122): RELAY_WAIT, FORCE, REJOIN. -/
def State.pokeTransit (s : State) (off v : Nat) : Option State :=
  match off with
  | 0x48 =>
    let s1 := (s.put 0 v 0 TRANSIT.BYP_CTRL_RELAY_WAIT).force (bitOf v 0)
    some (if bitOf v 1 then s1.rejoin else s1)
  | _ => none

/-- A MAC page: multiples of a new INS_PERIOD count from its write; one of the old period that has passed comes first
(R105). -/
def State.pokeMac (s : State) (d : Side) (off v : Nat) : Option State :=
  match off with
  | 0x80 => some (((s.insStart d).writeFields (9 + d.n) off v).updTx d (fun t => { t with started := s.fab }))
  | _ => none

/-- BUFFER.VOQ_MIN and ARB.LFSR_SEED (R133, R154). -/
def State.pokeArb (s : State) (off v : Nat) : Option State :=
  match off with
  | 0x5C => some (if v % 2 ^ 32 = 0 then s else { s with lfsr := s.lfsr.set (s.rd ARB.LFSR_SEL_OUTPUT) (v % 2 ^ 32) })
  | _ => none

/-- BRIDGE (R313-R318, R327). -/
def State.pokeBridge (s : State) (off v : Nat) : Option State :=
  if 0x44 ≤ off ∧ off ≤ 0x4C then some ((s.windowChanged (s.rd BRIDGE.WIN_SEL_WINDOW)).writeFields 0x14 off v)
  else if off = 0x60 then
    let w := bits v 16 7
    let s1 := if bitOf v 0 then s.fenceGo w else s
    let s2 := if bitOf v 1 then s1.fenceAbort w else s1
    some (if v % 4 = 0 then s2.wr BRIDGE.FENCE_CTRL_WINDOW w else s2)
  else if off = 0x68 then
    some (if bitOf v 0 then s.readAbort (bits v 16 7) else s.wr BRIDGE.RDA_CTRL_WINDOW (bits v 16 7))
  else if off = 0x74 then some (if bitOf v 0 then s.pweClear else s)
  else if off = 0x7C then some (if bitOf v 0 then s.pfdClear else s)
  else if 0x600 ≤ off ∧ off < 0x800 ∧ off % 32 = 16 then
    let n := (off - 0x600) / 32
    let size := if n < 8 then s.rd BRIDGE.RXR_CFG_SIZE n else s.rd BRIDGE.TXR_CFG_SIZE (n - 8)
    some (if bits v 0 12 < 2 ^ size then s.writeFields 0x14 off v else s)
  else none

/-- POLL (R319, R321, R329). -/
def State.pokePoll (s : State) (off v : Nat) : Option State :=
  let i := s.rd POLL.POLL_SEL_INDEX
  match off with
  | 0x44 => some ((s.writeFields 0x15 off v).pollRestart i)
  | 0x48 => some ((s.writeFields 0x15 off v).pollRestart i)
  | 0x4C =>
    let was := s.flag POLL.PE_CFG_EN i
    let s1 := s.writeFields 0x15 off v
    some (if s1.flag POLL.PE_CFG_EN i && (!was || s1.pollPeriod i ≠ s.pollPeriod i) then s1.pollEnable i else s1.pollRestart i)
  | 0x50 => some ((s.writeFields 0x15 off v).pollRestart i)
  | 0x74 => some (if bitOf v 0 then s.updBridge (fun b => { b with cq := b.cq.drop 1 }) else s)
  | _ => none

/-- MGMT.DOORBELL (R303, R331): the bits are raised, the writer recorded; and EPD, whose bit of endpoint 0 is fixed (R332). -/
def State.pokeMgmt (s : State) (p : Port) (node off v : Nat) : Option State :=
  match off with
  | 0x4C => some (((s.wr MGMT.DB_LAST_PORT p.code).wr MGMT.DB_LAST_NODE node).ring_ 0x16 0 v)
  | 0x400 => some (s.wr MGMT.EPD_SIDE_EFFECT (v ||| 1))
  | _ => none

/-- GCM (R382, R387, R391, R392). -/
def State.pokeGcm (s : State) (off v : Nat) : Option State :=
  let i := s.rd GCM.A_SEL_ENTRY
  match off with
  | 0x48 => some (s.writeACfg i v)
  | 0x54 => some (s.writeEpoch i v)
  | 0x5C => some (if bitOf v 0 then s.roll i else s)
  | 0x70 => some (if bitOf v 0 then s.startRec true (bitOf v 8) else if bitOf v 1 then s.startRec false (bitOf v 8)
      else s.wr GCM.REC_CTRL_WRAP (bits v 8 1))
  | _ => none

/-- KEYS (R394, R398). -/
def State.pokeKeys (s : State) (off v : Nat) : Option State :=
  match off with
  | 0x54 => some (if v = 0x5A45524F then s.alarm 5 else s)
  | 0x58 => some (if bitOf v 0 then { s with gcm := { s.gcm with cache := s.gcm.cache.filter s.pinned } } else s)
  | _ => none

/-- Word `k` of a context's register block (R249); OSR_CNT or ISR_CNT above 32 has no stated effect: free (log 15). -/
def State.pokeCtx (s : State) (e c k v : Nat) : State :=
  let x := s.ctx e c
  let stopped (f : State) : State := if x.run then s else f
  let w : Word := BitVec.ofNat 32 v
  match k with
  | 0 => s.writeCtxCtrl e c v
  | 1 => stopped (s.putAll e v c [ENG.CTX_CFG_FIFO_SW, ENG.CTX_CFG_HDR, ENG.CTX_CFG_PIN_BASE, ENG.CTX_CFG_PIN_COUNT,
      ENG.CTX_CFG_CLASS])
  | 2 => s.put e v c ENG.CTX_DEADLINE_D
  | 3 => stopped (s.updCtx e c (fun x => { x with pc := bits v 0 11 }))
  | 4 => if bitOf v 31 then s.updCtx e c (fun x => { x with savedValid := false }) else s
  | 5 => stopped (s.updCtx e c (fun x => { x with x := w }))
  | 6 => stopped (s.updCtx e c (fun x => { x with y := w }))
  | 7 => stopped (s.updCtx e c (fun x => { x with osr := w, osrEnd := false }))
  | 8 => stopped (s.updCtx e c (fun x => { x with isr := w }))
  | 9 =>
    let a := if bits v 0 6 ≤ 32 then bits v 0 6 else s.draw.1 % 33
    let b := if bits v 8 6 ≤ 32 then bits v 8 6 else s.draw.2.draw.1 % 33
    stopped (s.draw.2.draw.2.updCtx e c (fun x => { x with osrCnt := a, isrCnt := b }))
  | 11 => s.put e v c ENG.CTX_INJ_INSTR
  | 12 => stopped (s.put e v c ENG.CTX_BITPER_PERIOD)
  | 13 => stopped (s.putAll e v c [ENG.CTX_DEST_TC, ENG.CTX_DEST_DEST])
  | _ => s

/-- An engine page (R226, R238, R240, R247-R249, R277, R279). -/
def State.pokeEng (s : State) (e off v : Nat) : Option State :=
  let c := s.selCtx e
  if 0x400 ≤ off ∧ off < 0xC00 then some (s.pokeCtx e ((off - 0x400) / 64) ((off - 0x400) % 64 / 4) v)
  else if 0x80 ≤ off ∧ off < 0x90 then
    some (if e = 0 && off = 0x80 then s.writeBcLen v else if e = 0 && off = 0x84 then s.writeBcPhase v else s)
  else match off with
  | 0x48 => some ((s.settleFlags e (s.issueCycle e)).wrn e ENG.FLAGS_FLAG (v % 256))
  | 0x5C => some (if bitOf v 5 then s.snapGo e (v % 32) else s.wrn e ENG.SNAP_CTRL_CONTEXT (v % 32))
  | 0x94 =>
    let s1 := if bitOf v 2 then s.wrn e ENG.FIFO_CTRL_SW_OVF 0 c else s
    let s2 := if bitOf v 1 then s1.flushRx e c else s1
    some (if bitOf v 0 then s2.flushTx e c else s2)
  | 0x98 => some (s.swPush e c v false)
  | 0x9C => some (s.swPush e c v true)
  | 0xA8 => some (s.writeSuba e c (v % 8192) (bits v 16 7))
  | 0xC0 => some (s.writePbCtrl e v)
  | 0xC8 => some (if s.bank e = 0 then s else s.wrn e ENG.PB_GEN_GEN v 0)
  | 0xCC => some (if s.bank e = 1 then s else s.wrn e ENG.PB_GEN_GEN v 1)
  | _ => none

/-- A check unit's page: RUNVAL and RXSEQ of a stopped context (R297, R299). -/
def State.pokeChk (s : State) (e off v : Nat) : Option State :=
  let c := s.rdn e CHK.CTX_SEL_CONTEXT
  match off with
  | 0xCC => some (if (s.ctx e c).run then s else s.updCtx e c (fun x => { x with chk := { x.chk with run := v % 2 ^ 32 } }))
  | 0xD0 => some (if (s.ctx e c).run then s else s.updCtx e c (fun x => { x with chk := { x.chk with rxseq := v % 2 ^ 16 } }))
  | _ => none

/-- USBFN (R373, R378). -/
def State.pokeUsbFn (s : State) (off v : Nat) : Option State :=
  match off with
  | 0x48 => some (s.ring_ 0x49 8 v)
  | 0x4C => some (s.wr USBFN.DB_NOTIFY_NOTIFY (s.rd USBFN.DB_NOTIFY_NOTIFY ||| v % 256))
  | _ => none

/-- BRK (R413, R422). -/
def State.pokeBrk (s : State) (off v : Nat) : Option State :=
  if off = 0x4C then some ((s.writeCommit (v % 2 ^ 12)).settleAll)
  else if 0x100 ≤ off ∧ off < 0x400 then
    (match s.brkChWrite ((off - 0x100) / 64) ((off - 0x100) % 64) v with
     | some t => some t.settleAll
     | none => some (s.writeFields 0x4C off v).settleAll)
  else none

/-- LINE.PORT_CFG: BUS_LOSS below BUS_WARN, or the register stays unchanged (R423). -/
def State.pokeLine (s : State) (off v : Nat) : Option State :=
  match off with
  | 0x44 => some (if bits v 0 8 < bits v 8 8 then (s.writeFields 0x4D off v).settleAll else s)
  | _ => none

/-- OTP (R465, R471): PROG_CTRL, and the key words, which cannot be read. -/
def State.pokeOtp (s : State) (off v : Nat) : Option State :=
  if off = 0x2C0 then some (s.writeProgCtrl v)
  else if 0x300 ≤ off ∧ off < 0x320 then
    some { s with otp := { s.otp with staged := Tbl.set 0 s.otp.staged ((off - 0x300) / 4) (v % 2 ^ 32) } }
  else none

/-- UPDATE (R502-R508). What an active twin knows of its peer is open here: a free value. -/
def State.pokeUpdate (s : State) (off v : Nat) : Option State :=
  match off with
  | 0x48 => some (s.draw.2.writeUpdCtrl v (s.draw.1 % 2 = 1))
  | 0x78 => some (if bitOf v 0 then s.repPop else s)
  | _ => none

/-- The effect of a write that is more than its fields. -/
def State.pokeStart (s : State) (p : Port) (node pg off v : Nat) : Option State :=
  match blockType pg with
  | 0x01 => s.pokeDevice p off v
  | 0x02 => s.pokePower off v
  | 0x03 => s.pokeClocks off v
  | 0x04 => s.pokeFault off v
  | 0x05 => s.pokeTime off v
  | 0x06 => s.pokeTout off v
  | 0x07 => s.pokeCup off v
  | 0x08 => s.pokePhy (if pg = 8 then .east else .west) off v
  | 0x09 => s.pokeMac (if pg = 9 then .east else .west) off v
  | 0x0A => s.pokeTwinLink off v
  | 0x0B => s.pokeTwin off v
  | 0x0C => s.pokeTransit off v
  | 0x11 => if off = 0x44 then some (s.voqMin (s.rd BUFFER.VOQ_SEL_INDEX) v) else none
  | 0x12 => s.pokeArb off v
  | 0x14 => s.pokeBridge off v
  | 0x15 => s.pokePoll off v
  | 0x16 => s.pokeMgmt p node off v
  | 0x18 => s.pokeGcm off v
  | 0x19 => s.pokeKeys off v
  | 0x20 => s.pokeEng (pg - 0x20) off v
  | 0x21 => s.pokeChk (pg - 0x30) off v
  | 0x22 => s.canWrite (pg - 0x40) off v
  | 0x24 => if 0x60 ≤ off ∧ off < 0x70 then some (s.writePortCtrl ((off - 0x60) / 4) v) else none
  | 0x25 => s.pokeUsbFn off v
  | 0x26 => s.pokeBrk off v
  | 0x27 => s.pokeLine off v
  | 0x29 => if off = 0x90 then some (s.writeFlCmd v) else none
  | 0x2A => s.pokeUpdate off v
  | 0x2B => s.pokeOtp off v
  | _ => none

/-- A permitted write of the block register at `off` of a page by port `p`; `node` is the node a remote request comes
from, 0 for a local port. -/
def State.poke (s : State) (p : Port) (node pg off v : Nat) : State :=
  if (clrOf pg).1 = off && (clrOf pg).2 ≠ [] && (pg ≠ 0x0D || s.isTwin) then (if bitOf v 0 then s.clearCounters pg else s)
  else match s.pokeStart p node pg off v with
  | some t => t
  | none => s.writeFields pg off v

end Sys2Proof.Machine
end

