-- ==== Sys2Proof/Machine/Settings.lean ====
section
/-! DEFINITION. The settings store and the engine load (R449, R451, R459-R461). -/

namespace Sys2Proof.Machine

/-! ### Records -/

/-- The lowest bit of a stored field copy. -/
def keyLo (k : Nat) : Nat := k / 8192 % 64

/-- The copy number of a stored field copy. -/
def keyIx (k : Nat) : Nat := k % 8192

/-- The access code of the block register field a key belongs to. -/
def keyAcc (k : Nat) : Option Acc :=
  ((pageFields (keyPage k)).find? (fun f => f.off = keyOff k && f.lo = keyLo k)).map (fun f => f.acc)

/-- The key belongs to a field that a record holds: RW or RWL, at offset 0x040 and above (R459). -/
def keyStored (k : Nat) : Bool := decide (0x40 ≤ keyOff k) && (keyAcc k = some .rw || keyAcc k = some .rwl)

/-- Field copies of a record by the key they are restored to: the bank a CAN controller has active comes back as bank 0
(R348, log 43). -/
def State.recordKey (s : State) (pg k : Nat) : Nat :=
  if 0x40 ≤ pg ∧ pg < 0x44 ∧ s.canBank (pg - 0x40) = 1 then
    (if keyOff k = 0xD8 then (if keyIx k < 32 then k + 32 else k - 32)
     else if keyOff k = 0xE0 then (if keyIx k < 2048 then k + 2048 else k - 2048)
     else k)
  else k

/-- What the contexts of an ENG or CHK page hold in RW fields beside the field table. -/
def State.recordUnits (s : State) (pg : Nat) : List (Nat × List Nat) :=
  if 0x20 ≤ pg ∧ pg < 0x30 then
    (List.range 32).map (fun c =>
      let x := s.ctx (pg - 0x20) c
      (c, [x.pc, x.x.toNat, x.y.toNat, x.osr.toNat, x.isr.toNat, x.osrCnt, x.isrCnt]))
  else if 0x30 ≤ pg ∧ pg < 0x40 then
    (List.range 32).map (fun c => (c, [(s.ctx (pg - 0x30) c).chk.run, (s.ctx (pg - 0x30) c).chk.rxseq]))
  else []

/-- The format version the boot image expects for a page's block type (R460, R498). -/
def State.formatVersion (s : State) (pg : Nat) : Nat := s.modeU.versions.getD (blockType pg) 0

/-- The record of a page as it stands (R459). -/
def State.record (s : State) (pg : Nat) : SetRec :=
  { page := pg
    version := s.formatVersion pg
    words := (s.regs.filter (fun e => keyPage e.1 = pg && keyStored e.1)).foldl (fun (t : Tbl Nat) (e : Nat × Nat) =>
      Tbl.put t (s.recordKey pg e.1) e.2) []
    units := s.recordUnits pg
    locked := s.locked pg
    starts := if 0x20 ≤ pg ∧ pg < 0x30 then (List.range 32).filter (fun c => (s.ctx (pg - 0x20) c).run) else [] }

/-! ### Banks -/

/-- The sequence number of a bank; 0 for one without a valid header. -/
def State.bankSeq (s : State) (b : Nat) : Nat := ((s.flash.banks.getD b none).map (fun x => x.1)).getD 0

/-- The bank in force: the one with the higher sequence number (R460). -/
def State.bankInForce (s : State) : Nat := if s.bankSeq 1 ≤ s.bankSeq 0 then 0 else 1

/-- The records in force. -/
def State.records (s : State) : List SetRec := ((s.flash.banks.getD s.bankInForce none).map (fun x => x.2)).getD []

/-- The record in force of a page. -/
def State.recordOf (s : State) (pg : Nat) : Option SetRec := s.records.find? (fun r => r.page = pg)

/-- A save completes: every record into the other bank, those of pages whose domain is off as they were, the sequence
number raised by one (R461). -/
def State.saveDone (s : State) : State :=
  let recs := allPages.flatMap (fun pg => if s.pageOn pg then [s.record pg] else (s.recordOf pg).toList)
  let other := if s.bankSeq 0 = 0 && s.bankSeq 1 = 0 then 0 else 1 - s.bankInForce
  let bank := some (max (s.bankSeq 0) (s.bankSeq 1) + 1, recs)
  let s1 := { s with flash := { s.flash with banks := s.flash.banks.set other bank } }
  ((s1.updMode (fun m => { m with saving := false })).wr DEVICE.SET_CTRL_SAVE 0).wr DEVICE.SET_STAT_STATUS 2

/-! ### Restoring a page -/

/-- Field copies that the restore applies through the rule of their own register rather than as plain values (log 43):
conditions on which a value is taken, and what a change of it does, hold for a restored value too. -/
def State.ruled (s : State) (k : Nat) : Bool :=
  let off := keyOff k
  let lo := keyLo k
  match blockType (keyPage k) with
  | 0x08 => s.autoTrain (if keyPage k = 8 then .ring .east else .ring .west) && (off = 0x4C)
  | 0x0A => s.autoTrain .twin && off = 0x48
  | 0x0C => off = 0x48 && lo = 0
  | 0x11 => off = 0x44
  | 0x18 => (off = 0x48 && lo = 31) || off = 0x54
  | 0x20 => off = 0xC8
  | 0x22 => (off = 0x40 && lo = 0) || (off = 0xC0 && lo = 31)
  | 0x26 => off = 0x100 || (off = 0x104 && lo = 0)
  | _ => false

/-- The value a record gives to a field copy. -/
def SetRec.val (r : SetRec) (f : Fld) (i : Nat := 0) : Nat :=
  (Tbl.find r.words (f.key (r.page - f.page) i)).getD (f.dflt i)

/-- Word `j` of a context's values. -/
def SetRec.unit (r : SetRec) (c j : Nat) : Nat :=
  match r.units.find? (fun u => u.1 = c) with
  | some u => u.2.getD j 0
  | none => 0

/-- What follows the values of a page: registers with a rule of their own, and the state that depends on the values. -/
def State.restoreUnits (s : State) (r : SetRec) (rwl : Bool) : State :=
  let n := r.page % 16
  match blockType r.page with
  | 0x03 => if s.rd CLOCKS.REF_STAT_SOURCE = 1 && !s.flag CLOCKS.REF_CFG_LANE_FALLBACK then s.loseSource else s
  | 0x07 => { s with cup := [] }
  | 0x09 => s.updTx (if r.page = 9 then .east else .west) (fun t => { t with started := s.fab })
  | 0x0C => s.force (r.val TRANSIT.BYP_CTRL_FORCE = 1)
  | 0x11 => (List.range 512).foldl (fun t v => t.voqMin v (r.val BUFFER.VOQ_MIN_MIN v)) s
  | 0x14 => s.updBridge (fun b => { b with lines := [] })
  | 0x15 => (List.range 1024).foldl (fun t i => if t.flag POLL.PE_CFG_EN i then t.pollEnable i else t) s
  | 0x18 =>
    (List.range 256).foldl (fun t i =>
      let e := r.val GCM.A_EPOCH_EPOCH i
      let t1 := if e = 0 && !t.flag GCM.A_CFG_DIR i then t else t.writeEpoch i e
      t1.writeACfg i (r.val GCM.A_CFG_EN i * 2 ^ 31 + t1.rd GCM.A_CFG_DIR i * 2 ^ 30 + t1.rd GCM.A_CFG_TC i * 2 ^ 24 +
        t1.rd GCM.A_CFG_NODE i * 2 ^ 12 + t1.rd GCM.A_CFG_NUMBER i)) s
  | 0x20 =>
    let s1 := (List.range 32).foldl (fun t c =>
      t.updCtx n c (fun x => { x with
        pc := r.unit c 0, x := BitVec.ofNat 32 (r.unit c 1), y := BitVec.ofNat 32 (r.unit c 2)
        osr := BitVec.ofNat 32 (r.unit c 3), isr := BitVec.ofNat 32 (r.unit c 4)
        osrCnt := r.unit c 5, isrCnt := r.unit c 6 })) s
    let s2 := s1.wrn n ENG.PB_GEN_GEN (r.val ENG.PB_GEN_GEN (1 - s1.bank n)) (1 - s1.bank n)
    let s3 := if n = 0 then s2.regrid else s2
    r.starts.foldl (fun t c => t.startAtBoundary n c) s3
  | 0x21 =>
    (List.range 32).foldl (fun t c =>
      t.updCtx n c (fun x => { x with chk := { x.chk with run := r.unit c 0, rxseq := r.unit c 1 } })) s
  | 0x22 =>
    let k := r.page - 0x40
    let s1 := s.writeCanCtrl k (s.rdn k CAN.CTRL_OWN_GATE * 2 ^ 11 + s.rdn k CAN.CTRL_FD_EN * 2 ^ 10 + r.val CAN.CTRL_MODE)
    s1.writeCycCfg k (r.val CAN.CYC_CFG_EN * 2 ^ 31 + s1.rdn k CAN.CYC_CFG_DIRECT * 2 ^ 30 +
      s1.rdn k CAN.CYC_CFG_CYCLES * 2 ^ 8 + s1.rdn k CAN.CYC_CFG_WINDOWS)
  | 0x24 => [0, 1, 2, 3].foldl State.showPower s
  | 0x26 =>
    let s1 := if rwl then (List.range 12).foldl (fun t i =>
        if t.rd BRK.CH_CFG_FITTED i = r.val BRK.CH_CFG_FITTED i then t else t.setFitted i (r.val BRK.CH_CFG_FITTED i)) s
      else s
    let s2 := (List.range 12).foldl (fun t i =>
      t.wr BRK.CH_STAT_STAGED (if t.staged i = t.curve i then t.rd BRK.CH_STAT_STAGED i else 1) i) s1
    (List.range 12).foldl (fun t i =>
      if t.rd BRK.CH_CTRL_EN i = r.val BRK.CH_CTRL_EN i then t.wr BRK.CH_CTRL_KEEP (r.val BRK.CH_CTRL_KEEP i) i
      else t.writeChCtrl i (r.val BRK.CH_CTRL_KEEP i * 2 + r.val BRK.CH_CTRL_EN i)) s2.settleAll
  | 0x27 => s.settleAll
  | _ => s

/-- The values of a record are applied to its page, its LOCKED bit after them (R460). RWL fields of a locked page take
them only if the page's domain has come on since its last restore (R451); nothing is written to TWIN on a hub that is no twin (R190). -/
def State.applyRecord (s : State) (r : SetRec) : State :=
  let rwl := !s.locked r.page || s.pageUnit.fresh.contains r.page
  let takes (k : Nat) : Bool := keyPage k = r.page && keyStored k && !s.ruled k && (keyAcc k = some .rw || rwl)
  let kept : Tbl Nat := s.regs.filter (fun (e : Nat × Nat) => !takes e.1)
  let s1 := { s with regs := (r.words.filter (fun (e : Nat × Nat) => takes e.1)).foldl (fun (t : Tbl Nat) (e : Nat × Nat) => Tbl.put t e.1 e.2) kept }
  let s2 := s1.restoreUnits r rwl
  if r.page = 0x0D && !s.isTwin then s
  else if r.locked then s2.wrn r.page HDR.LOCK_LOCKED 1 else s2

/-- A page left at its reset values: counted, the settings-reset flag set (R460). -/
def State.defaulted (s : State) (version : Bool) : State :=
  (s.sat (if version then DEVICE.SET_STAT_DEFAULTED else DEVICE.SET_STAT_BAD_CRC)).raise 0x59 8

/-- The restore of one page (R451, R460). A format version counts only where a boot image expects one (log 43). -/
def State.restorePage (s : State) (pg : Nat) : State :=
  let s1 := match s.recordOf pg with
    | none => s.defaulted false
    | some r =>
      if s.modeU.versions ≠ [] && r.version ≠ s.formatVersion pg then s.defaulted true
      else s.applyRecord r
  { s1 with pageUnit := { s1.pageUnit with fresh := deleteNat s1.pageUnit.fresh pg } }

/-- The restore of the pages of some domains, in ascending page number (R453, R460). -/
def State.restoreDomains (s : State) (ds : List Nat) : State :=
  (allPages.filter (fun pg => ds.contains (pageDomain pg) && s.pageOn pg)).foldl State.restorePage s

/-! ### Commands -/

/-- SETTINGS_SAVE: SET_CTRL.SAVE (R461). -/
def execSettingsSave (p : Port) (s : State) : Host.Outcome State Fault Refusal :=
  .next (s.access p 0 0x58 1 State.settingsSave)

/-- SETTINGS_SAVE_DONE: the bank header is written, the save's single completion point (R461). -/
def execSettingsSaveDone (s : State) : Host.Outcome State Fault Refusal :=
  .next (if s.modeU.saving then s.saveDone else s)

/-- SETTINGS_RESTORE: step 8: the pages of PD0 to PD3, PD6 and PD7; the sequence is ready (R453, R460). -/
def execSettingsRestore (s : State) : Host.Outcome State Fault Refusal :=
  .next (if s.step_ = 8 then ((s.restoreDomains [0, 1, 2, 3, 6, 7]).toStep 9).modeDone else s)

/-- ENGINE_LOAD_DONE: the engine load completes, PD4 and PD5 restored, or fails (R449). -/
def execEngineLoadDone (s : State) : Host.Outcome State Fault Refusal :=
  .next (if s.modeU.want = some 3 && !s.modeU.loaded && s.flag DEVICE.MODE_STAT_LOADING then
      (match s.loadEngines with
       | none => s.loadFailed
       | some t =>
         let t1 := (t.restoreDomains [4, 5]).wr DEVICE.MODE_STAT_LOADING 0
         let t2 := t1.updMode (fun m => { m with loaded := true })
         if t2.isTwin then { t2 with twin := { t2.twin with req := true } } else t2).modeDone
    else s)

end Sys2Proof.Machine
end

