-- ==== Sys2Proof/Machine/Reset.lean ====
section
/-! DEFINITION. Soft resets and software fences of the blocks (R28-R30, and what each block's chapter keeps). -/

namespace Sys2Proof.Machine

/-! ### What a soft reset keeps (R29) -/

/-- Block register fields that a soft reset of the page keeps: those its chapter names (R148, TRANSIT and FAULT in their
chapters, R279, LOSS_CNT of R467), and those that show what the reset leaves as it is - the mode, the start sequence, link
and line measurements, latched trips (R413), the balls, the image in use, the keys' alarms, a fenced buffer bank (log 44). -/
def chapterKeeps (k : Nat) : Bool :=
  let off := keyOff k
  let lo := keyLo k
  match blockType (keyPage k) with
  | 0x01 => off = 0x40 || off = 0x4C || off = 0x60 || off = 0x64
  | 0x04 => off = 0x40 && lo = 31
  | 0x09 => off = 0x44 && lo ≠ 6
  | 0x0B => off = 0x4C && lo = 5
  | 0x0C => !(off = 0x40 || off = 0x44 || (off = 0x48 && lo = 8) || off = 0x50 || off = 0x58)
  | 0x10 => !(decide (off ≤ 0x58) || (decide (0x80 ≤ off) && decide (off ≤ 0x100)))
  | 0x11 => off = 0xB0
  | 0x19 => off = 0x40 || off = 0x48 || off = 0x4C || off = 0x50
  | 0x20 => (off = 0xC4 && lo = 0) || off = 0xC8
  | 0x26 => off = 0x44 || off = 0x48 || (off = 0x13C && (lo = 8 || lo = 10))
  | 0x27 => off = 0x40 || (decide (0x48 ≤ off) && decide (off < 0x80)) || (off = 0x100 && lo = 0) || off = 0x104
  | 0x28 => off = 0xC4
  | 0x2A => off = 0x58 || off = 0x64
  | _ => false

/-- A stored field copy of page `pg` returns to its reset value (R29). -/
def State.softDrops (s : State) (pg k : Nat) : Bool :=
  let off := keyOff k
  keyPage k = pg &&
  (if off < 0x40 then pg ≠ 0x10 && (off = 0x10 || off = 0x14 || (off = 0x20 && !s.locked pg))
   else !(s.locked pg && keyAcc k = some .rwl) && !chapterKeeps k)

/-- The fields of a page after a soft reset: a field whose reset value OTP gives takes it from the selected generation. -/
def State.softFields (s : State) (pg : Nat) : State :=
  let t := { s with regs := s.regs.filter (fun e => !s.softDrops pg e.1) }.otpPage pg
  let fresh : Tbl Nat := t.regs.filter (fun e => keyPage e.1 ≠ pg || s.softDrops pg e.1)
  let kept : Tbl Nat := s.regs.filter (fun e => keyPage e.1 = pg && !s.softDrops pg e.1)
  { s with regs := kept.foldl (fun (u : Tbl Nat) (e : Nat × Nat) => Tbl.put u e.1 e.2) fresh }

/-! ### The blocks' internal state -/

/-- Timers that satisfy a condition stop. -/
def State.stopAll (s : State) (p : Nat → Bool) : State := { s with timers := s.timers.filter (fun e => !p e.1) }

/-- A PHY or the twin link: the link goes down as by RETRAIN, then the unit is as at reset (R74). -/
def State.resetLink (s : State) (l : Link) : State :=
  let s1 := s.linkDown l 7
  { s1 with phy := Tbl.del s1.phy l.code }.stopAll (fun t => t = tPhy l || t = tUnc l || t = tQual l)

/-- A ring input whose frame was entering a queue skips the rest of it. -/
def rxLoses (r : RxPort) : RxPort :=
  match r.kind with
  | .local_ _ => { r with kind := .skip }
  | _ => r

/-- A ring output that was sending from a queue stops. -/
def txLoses (t : TxPort) : TxPort :=
  match t.cur with
  | .queue _ => { t with cur := .idle }
  | _ => t

/-- The buffer: every stored frame goes, uncounted; every queue and port takes a new generation (R148). Fenced banks stay
fenced. -/
def State.resetBuffer (s : State) : State :=
  let copies := (List.range 512).flatMap (fun v => (s.voq v).q)
  let s1 := copies.foldl State.lostCopy s
  let s2 := { s1 with
    voqs := (List.range 512).map (fun v => (v, { gen := ((s.voq v).gen + 1) % 16, held := (s.voq v).held }))
    outs := (List.range 8).map (fun p => (p, { s.out p with grant := none, gen := ((s.out p).gen + 1) % 16 }))
    rx := s1.rx.map (fun (e : Nat × RxPort) => (e.1, rxLoses e.2))
    tx := s1.tx.map (fun (e : Nat × TxPort) => (e.1, txLoses e.2))
    buf := { lost := s1.buf.lost }
    bufMem := [] }
  let banks := (List.range 16).filter (fun b => bitOf (s.rd BUFFER.BANK_STAT_FENCED) b)
  (banks.foldl State.fenceBank (s2.wr BUFFER.BANK_STAT_FENCED 0)).stop tAudit

/-- An engine: its pending reads are refused, its contexts return to reset; program memory and the bank in use stay
(R244, R245, R279). -/
def State.resetEngine (s : State) (e : Nat) : State :=
  let s1 := (List.range 32).foldl (fun t c => t.refuseRead e c) s
  { s1 with
    ctxs := s1.ctxs.filter (fun x => x.1 / 32 ≠ e)
    engs := Tbl.put s1.engs e { profs := (s1.eng e).profs } }.stopAll
    (fun t => t = tPause e || t = tSnap e || (decide (2000 + 32 * e ≤ t) && decide (t < 2032 + 32 * e)))

/-- What the block does as its soft reset begins, before its fields return to reset (log 44). -/
def State.resetUnit (s : State) (pg : Nat) : State :=
  match blockType pg with
  | 0x01 => s.updMode (fun m => { m with saving := false })
  | 0x02 => { s with bud := {} }
  | 0x03 =>
    let s1 := { s.stopActing with ref := { edges := s.ref.edges } }
    let s2 := [0, 1].foldl (fun (t : State) cl => if t.clusClk cl = 0 then t else t.setClk cl 0) s1
    s2.stopAll (fun t => t = tBeacon || t = tBeaconTmo || t = tBallot)
  | 0x04 => s.updFlt (fun f => { f with recs := [], seq := 0 })
  | 0x05 => { s with time := {} }.stopAll (fun t => decide (100 ≤ t) && decide (t ≤ 104))
  | 0x06 => { s with tout := [] }
  | 0x07 => { s with cup := [], cupSnap := none }
  | 0x08 => s.resetLink (.ring (if pg = 8 then .east else .west))
  | 0x09 =>
    let d : Side := if pg = 9 then .east else .west
    { s.updTx d (fun t => { t with used := [], period := 100, started := 0 }) with lanes := Tbl.del s.lanes d.code }.stop (tJoin d)
  | 0x0A => s.resetLink .twin
  | 0x0B =>
    if !s.isTwin then s
    else { s.setOwnOut false with twin := { ownInLow := s.mono } }.stopAll
      (fun t => t = tHeartbeat || t = tHbTmo || t = tAlone || t = tPeerRelay)
  | 0x11 => s.resetBuffer
  | 0x12 => { s with
      lfsr := State.reset.lfsr
      outs := s.outs.map (fun e => (e.1, { e.2 with since := 0, prev := 0 }))
      voqs := s.voqs.map (fun e => (e.1, { e.2 with wait := 0 })) }
  | 0x14 => s.updBridge (fun b => { b with
      reqs := b.reqs.filter (fun r => r.kind = 2), reads := [], lines := [], intake := [], fence := none, turn := 0, txWait := [] })
  | 0x15 => s.updBridge (fun b => { b with reqs := b.reqs.filter (fun r => r.kind ≠ 2), polls := [], cq := [] })
  | 0x18 => { s with gcm := { root := s.gcm.root, cache := s.gcm.cache } }.stopAll
      (fun t => t = tTagWin || t = tRec || (decide (1000 ≤ t) && decide (t < 2000)))
  | 0x19 => { s with gcm := { s.gcm with cache := s.gcm.cache.filter s.pinned } }
  | 0x20 => s.resetEngine (pg - 0x20)
  | 0x22 => { s with can := Tbl.del s.can (pg - 0x40) }
  | 0x24 => s.usbAttach s.usb.vbus
  | 0x25 => (s.closeSession.fnDefault).updUsb (fun u =>
      { u with fails := 0, queue := [], stream := [], drops := 0, acked := none, report := none, sof := none }) |>.stop tAuth
  | 0x26 => { s with brk := { s.brk with chs := s.brk.chs.map (fun (e : Nat × BrkCh) => (e.1, { fenced := e.2.fenced, heat := e.2.heat })) } }.stopAll
      (fun t => decide (120 ≤ t) && decide (t < 199))
  | 0x29 => { s with flash := { s.flash with cmd := none } }
  | 0x2A => { s with upd := {} }.stopAll (fun t => decide (tSilent ≤ t) && decide (t < 500))
  | 0x2B => { s with otp := { s.otp with staged := [] } }
  | _ => s

/-- What follows from the fields being back at reset. -/
def State.resetAfter (s : State) (pg : Nat) : State :=
  match blockType pg with
  | 0x20 => if pg = 0x20 then s.regrid else s
  | 0x24 => [0, 1, 2, 3].foldl State.showPower s
  | 0x26 =>
    let w := s.shadow 24
    let s1 := if s.locked pg then s else (List.range 12).foldl (fun t n => t.wr BRK.CH_CFG_FITTED (bits w (16 + n) 1) n) s
    let s2 := (List.range 4).foldl (fun t n => t.wr BRK.CH_CTRL_EN (bits w n 1) n) s1
    ((List.range 12).foldl (fun t n =>
      t.setCh n (if !t.flag BRK.CH_CFG_FITTED n then 8 else if t.flag BRK.CH_STAT_LATCHED n then 6
        else if (t.brkCh n).fenced then 7 else 0)) s2).settleAll
  | 0x27 => s.settleAll
  | _ => s

/-- A soft reset begins (R29); one that runs already goes on. -/
def State.softReset (s : State) (pg : Nat) : State :=
  if s.pageUnit.inReset.contains pg then s
  else
    let s1 := { s with pageUnit := { s.pageUnit with
      inReset := insertNat s.pageUnit.inReset pg
      hold := s.pageUnit.hold.filter (fun e => e.1 % 2 ^ 24 / 4096 ≠ pg) } }
    let s2 := (s1.resetUnit pg).softFields pg
    (s2.settle s1 pg false).resetAfter pg

/-- The soft reset completes: links and the USB hub come up again by their own rules (R29). -/
def State.softResetDone (s : State) (pg : Nat) : State :=
  let s1 := { s with pageUnit := { s.pageUnit with inReset := deleteNat s.pageUnit.inReset pg } }
  let restart (l : Link) : State := if s1.linkAllowed l && s1.autoTrain l then s1.linkRestart l else s1
  match pg with
  | 0x08 => restart (.ring .east)
  | 0x0A => restart (.ring .west)
  | 0x0C => restart .twin
  | 0x48 => s1.usbAttach s1.usb.vbus
  | _ => s1

/-! ### BLK_CTRL -/

/-- A channel of BRK is on (R426). -/
def State.anyChannelOn (s : State) : Bool := (List.range 12).any s.chPowered

/-- A write of BLK_CTRL.SOFT_RESET (R29, R426). -/
def State.softResetReq (s : State) (pg : Nat) : State :=
  if pg = 0x4C && s.anyChannelOn then s else s.softReset pg

/-- A link whose ENABLE is cleared goes down at once and is off (R73, R74, R82). -/
def State.linkOff (s : State) (l : Link) : State :=
  if s.linkState l = 0 then s else ((s.linkDown l 7).setLinkState l 0).stop (tPhy l)

/-- A write of BLK_CTRL.ENABLE (R28, R74, R357, R426). -/
def State.setEnable (s : State) (pg : Nat) (on : Bool) : State :=
  if pg = 0x4C && !on && s.anyChannelOn then s
  else
    let s1 := s.wrn pg HDR.BLK_CTRL_ENABLE (bit on)
    match pg with
    | 0x08 => if on then s1 else s1.linkOff (.ring .east)
    | 0x0A => if on then s1 else s1.linkOff (.ring .west)
    | 0x0C => if on then s1 else s1.linkOff .twin
    | 0x48 => s1.usbAttach s1.usb.vbus
    | 0x4C | 0x4D => s1.settleAll
    | _ => s1

/-- A block is no longer fenced by software (R30). -/
def State.swUnfence (s : State) (pg : Nat) : State :=
  match pg with
  | 0x09 => s.unfenceRing .east
  | 0x0B => s.unfenceRing .west
  | 0x0C => s.unfenceOutput 2
  | 0x10 => (List.range 8).foldl (fun (t : State) p => (t.settleOut p).touchOut p) s
  | 0x14 => s.unfenceOutput 3
  | 0x16 => s.unfenceOutput 7
  | _ => s

/-- A write of BLK_CTRL.FENCE_REQ: the block accepts no new work while it is 1 (R30); BRK ignores it (R426). -/
def State.setFenceReq (s : State) (pg : Nat) (on : Bool) : State :=
  if pg = 0x4C then s
  else
    let s1 := s.wrn pg HDR.BLK_CTRL_FENCE_REQ (bit on)
    if on then s1
    else
      let s2 := { s1 with pageUnit := { s1.pageUnit with swFence := deleteNat s1.pageUnit.swFence pg } }
      if s.fenceReq pg then s2.swUnfence pg else s2

/-- The work in flight of a block that software fences is complete or abandoned, by what its chapter says of a fence; the
block reports FENCED (R30, R146, R148, R244, R284, R335; log 45). -/
def State.swFenced (s : State) (pg : Nat) : State :=
  let s1 := { s with pageUnit := { s.pageUnit with swFence := insertNat s.pageUnit.swFence pg } }
  if 0x20 ≤ pg ∧ pg < 0x30 then s1.fenceEngine (pg - 0x20)
  else if 0x40 ≤ pg ∧ pg < 0x44 then s1.canFence (pg - 0x40)
  else match pg with
  | 0x09 => (s1.updTx .east (fun t => { t with silent := true })).portDown 0
  | 0x0B => (s1.updTx .west (fun t => { t with silent := true })).portDown 1
  | 0x0C => s1.fenceOutput 2
  | 0x10 => (List.range 8).foldl State.touchOut s1
  | 0x14 => s1.fenceOutput 3
  | 0x16 => s1.fenceOutput 7
  | _ => s1

/-- A write of BLK_CTRL: ENABLE and FENCE_REQ, then SOFT_RESET (R28). -/
def State.writeBlkCtrl (s : State) (pg v : Nat) : State :=
  let s1 := (s.setEnable pg (bitOf v 0)).setFenceReq pg (bitOf v 2)
  if bitOf v 1 then s1.softResetReq pg else s1

/-- SOFT_RESET: a write of BLK_CTRL that keeps ENABLE and FENCE_REQ and writes 1 to SOFT_RESET (R28, R29). -/
def execSoftReset (p : Port) (pg : Nat) (s : State) : Host.Outcome State Fault Refusal :=
  .next (
    let v := s.rdn pg HDR.BLK_CTRL_ENABLE + 2 + 4 * s.rdn pg HDR.BLK_CTRL_FENCE_REQ
    (s.access p pg 4 v (fun s => s.writeBlkCtrl pg v)).modeDone)

/-- SOFT_RESET_DONE: the soft reset of a page completes (R29). -/
def execSoftResetDone (pg : Nat) (s : State) : Host.Outcome State Fault Refusal :=
  .next (if s.pageUnit.inReset.contains pg then s.softResetDone pg else s)

/-- FENCE_REQ: a write of BLK_CTRL that keeps ENABLE and asks for a fence or withdraws it (R30). -/
def execFenceReq (p : Port) (pg : Nat) (on : Bool) (s : State) : Host.Outcome State Fault Refusal :=
  .next (
    let v := s.rdn pg HDR.BLK_CTRL_ENABLE + 4 * bit on
    (s.access p pg 4 v (fun s => s.writeBlkCtrl pg v)).modeDone)

/-- BLOCK_FENCED: the block of a page whose FENCE_REQ is 1 reports FENCED (R30). -/
def execBlockFenced (pg : Nat) (s : State) : Host.Outcome State Fault Refusal :=
  .next (if blockType pg ≠ 0 && s.pageOn pg && s.fenceReq pg && !s.pageUnit.swFence.contains pg then (s.swFenced pg).modeDone
    else s)

end Sys2Proof.Machine
end

