-- ==== Sys2Proof/Machine/Bus.lean ====
section
/-! DEFINITION. Accesses to BAR0 by any port: page headers, any word, remote requests to endpoint 0; the PCI Express
function (R25-R54, R301-R303, R325). -/

namespace Sys2Proof.Machine

/-! ### Header registers (R31-R35) -/

/-- The bits of the numbers below `n` that satisfy a condition: those of a write of INT_STAT whose event falls in the same
cycle of the page's clock, which wins (R49). -/
def State.intWins (s : State) (pg : Nat) : Nat := mapBits 32 (s.justNow pg)

/-- A write of INT_STAT clears the bits written as 1, but for those whose event falls in the same cycle (R8, R48, R49). -/
def State.intClear (s : State) (pg v : Nat) : State :=
  let old := s.rdn pg HDR.INT_STAT_EVENTS
  (s.wrn pg HDR.INT_STAT_EVENTS (old - (old &&& (v - (v &&& s.intWins pg))))).settle s pg true

/-- A write of INT_EN; bits that name no event are reserved (R33, R48). -/
def State.intEnable (s : State) (pg v : Nat) : State := (s.wrn pg HDR.INT_EN_ENABLES (v &&& irqMask pg)).settle s pg true

/-- A write of INT_SET sets bits as their events would (R33). -/
def State.intSet (s : State) (pg v : Nat) : State :=
  ((List.range 32).filter (bitOf (v &&& irqMask pg))).foldl (fun t b => t.raise pg b) s

/-- The checkers of a page (R33, R476, R482). -/
def checkerMask (pg : Nat) : Nat := mapBits 32 (fun ck => (checkerClass pg ck).isSome || (pg = 3 && decide (ck ≤ 2)))

/-- A write of FLT_INJ (R33, R483). -/
def State.fltInj (s : State) (pg v : Nat) : State :=
  if s.locked pg then s else s.wrn pg HDR.FLT_INJ_INJECT (v &&& checkerMask pg)

/-- A write of BLK_ACCESS by the owner port (R32, R37). -/
def State.writeMasks (s : State) (pg v : Nat) : State :=
  if s.locked pg then s
  else (s.wrn pg HDR.BLK_ACCESS_RD_MASK (bits v 0 6) pg).wrn pg HDR.BLK_ACCESS_WR_MASK (bits v 8 6) pg

/-- A write of the lock key to LOCK (R35). -/
def State.lockPage (s : State) (pg v : Nat) : State :=
  if v = 0x4C4F434B then s.wrn pg HDR.LOCK_LOCKED 1 else s

/-- A permitted write of a header word. -/
def State.writeHeader (s : State) (pg off v : Nat) : State :=
  match off with
  | 0x04 => s.writeBlkCtrl pg v
  | 0x0C => s.writeMasks pg v
  | 0x10 => s.intClear pg v
  | 0x14 => s.intEnable pg v
  | 0x18 => s.intSet pg v
  | 0x20 => s.fltInj pg v
  | 0x24 => s.lockPage pg v
  | _ => s

/-! ### Any word of BAR0 -/

/-- A write of word `i` of the MSI-X table; a vector whose mask falls may send (R48). -/
def State.msixWrite (s : State) (i v : Nat) : State :=
  { s with msix := { s.msix with words := Tbl.set (if i % 4 = 3 then 1 else 0) s.msix.words i (if i % 4 = 3 then v % 2 else v) } }.msixFlush

/-- A permitted write of the word at `a` (R8, R25); `node` is the source node of a remote request, 0 for a local port. -/
def State.writeWord (s : State) (p : Port) (node a v : Nat) : State :=
  if a < 0x100000 then
    (if a % 4096 < 0x40 then s.writeHeader (a / 4096) (a % 4096) v else s.poke p node (a / 4096) (a % 4096) v)
  else if a < 0x140000 then
    s.writeProg ((a - 0x100000) / 0x4000) ((a - 0x100000) % 0x4000 / 0x2000) ((a - 0x100000) % 0x2000 / 4) v
  else if 0xFF0000 ≤ a ∧ a < 0xFF0400 then s.msixWrite ((a - 0xFF0000) / 4) v
  else s

/-- The access is one whole 32-bit word: 1 DW with byte enables 0xF (R4, R41). -/
def oneWord (dw be : Nat) : Bool := dw = 1 && be = 15

/-- The access is an aligned 64-bit one of the host to the MSI-X table or pending bit array, which PCI Express requires
of them (R46). -/
def msixPair (p : Port) (a dw be : Nat) : Bool :=
  p = .host && dw = 2 && be = 255 && a % 8 = 0 &&
  ((decide (0xFF0000 ≤ a) && decide (a < 0xFF0400)) || (decide (0xFF8000 ≤ a) && decide (a < 0xFF8008)))

/-- A write access of any port, `dw` words with byte enables `be`, for which a host has credit (R41, R46, R53). -/
def State.busWriteNow (s : State) (p : Port) (a v dw be : Nat) : State :=
  if !s.arrives p then s
  else if msixPair p a dw be then
    (((s.writeWord p 0 a (v % 2 ^ 32)).writeWord p 0 (a + 4) (v / 2 ^ 32 % 2 ^ 32)).emit (.answer p.code true 0 0)).modeDone
  else match s.judge p true a (v % 2 ^ 32) (oneWord dw be) with
    | some 5 => ((s.heard p).misuse p true a 5).emit (.answer p.code true 0 0)
    | some c => (((s.heard p).misuse p true a c).aerLog p).emit (.answer p.code false c 0)
    | none => (((s.heard p).writeWord p 0 a (v % 2 ^ 32)).emit (.answer p.code true 0 0)).modeDone

/-- A read access of any port, for which a host has credit (R41, R46, R52). -/
def State.busReadNow (s : State) (p : Port) (a dw be : Nat) : State :=
  if !s.arrives p then s
  else if msixPair p a dw be then s.emit (.answer p.code true 0 (s.peek a + s.peek (a + 4) * 2 ^ 32))
  else match s.judge p false a 0 (oneWord dw be) with
    | some c => ((s.heard p).misuse p false a c).emit (.answer p.code false c 0)
    | none => ((s.heard p).readBar p a).2.emit (.answer p.code true 0 ((s.heard p).readBar p a).1)

/-- A write access of any port; one of the host waits for its credit (R307). -/
def State.busWrite (s : State) (p : Port) (a v dw be : Nat) : State :=
  if s.arrives p && s.hostWaits p true then s.holdAccess true a v dw be else s.busWriteNow p a v dw be

/-- A read access of any port; one of the host waits for its credit (R309). -/
def State.busRead (s : State) (p : Port) (a dw be : Nat) : State :=
  if s.arrives p && s.hostWaits p false then s.holdAccess false a 0 dw be else s.busReadNow p a dw be

/-- The host's BAR0 accesses whose credit has come are carried out, and the bridge moves on, `n` times at most (R307,
R309). -/
def State.hostTurn : Nat → State → State
  | 0, s => s
  | n + 1, s =>
    let s1 := s.pump
    match s1.admitIntake with
    | some (.reg wr a v dw be, rest) =>
      let s2 := s1.updBridge (fun b => { b with intake := rest })
      State.hostTurn n (if wr then s2.busWriteNow .host a v dw be else s2.busReadNow .host a dw be)
    | _ => s1

/-- What the bridge has to do by itself: copies lost, requests of the host waiting (R307, R314). -/
def State.bridgeTurn (s : State) : State :=
  if s.buf.lost = [] && s.bridge.intake = [] then s else (State.hostTurn (s.bridge.intake.length + 1) s).drain

/-- REGISTER_WRITE: a write in BAR0; only one whole aligned word is a proper one (R4, R8, R41). -/
def execRegisterWrite (p : Port) (a : Span) (v : Nat) (s : State) : Host.Outcome State Fault Refusal :=
  if 2 ^ 24 ≤ a.at_ then .fault .outsideAddressSpace else .next (s.busWrite p a.at_ v a.dw a.be)

/-- LO_READ_CAPTURE: a read in BAR0: the first word of a longer value captures the others for the port (R4, R41, R52). -/
def execLoReadCapture (p : Port) (a : Span) (s : State) : Host.Outcome State Fault Refusal :=
  if 2 ^ 24 ≤ a.at_ then .fault .outsideAddressSpace else .next (s.busRead p a.at_ a.dw a.be)

/-! ### Rows for header registers -/

/-- BLK_ACCESS_WRITE (R32, R37). -/
def execBlkAccessWrite (p : Port) (pg v : Nat) (s : State) : Host.Outcome State Fault Refusal :=
  .next (s.access p pg 0x0C v (fun s => s.writeMasks pg v))

/-- LOCK (R35). -/
def execLock (p : Port) (pg v : Nat) (s : State) : Host.Outcome State Fault Refusal :=
  .next (s.access p pg 0x24 v (fun s => s.lockPage pg v))

/-- INT_SET (R33). -/
def execIntSet (p : Port) (pg v : Nat) (s : State) : Host.Outcome State Fault Refusal :=
  .next (s.access p pg 0x18 v (fun s => s.intSet pg v))

/-- INT_STAT_CLEAR: a write of INT_STAT (R48). -/
def execIntStatClear (p : Port) (pg v : Nat) (s : State) : Host.Outcome State Fault Refusal :=
  .next (s.access p pg 0x10 v (fun s => s.intClear pg v))

/-- INT_EN_WRITE (R48). -/
def execIntEnWrite (p : Port) (pg v : Nat) (s : State) : Host.Outcome State Fault Refusal :=
  .next (s.access p pg 0x14 v (fun s => s.intEnable pg v))

/-- FLT_INJ_WRITE (R33, R483). -/
def execFltInjWrite (p : Port) (pg v : Nat) (s : State) : Host.Outcome State Fault Refusal :=
  .next (s.access p pg 0x20 v (fun s => s.fltInj pg v))

/-- DENY_CLR (R42). -/
def execDenyClr (p : Port) (v : Nat) (s : State) : Host.Outcome State Fault Refusal :=
  .next (s.access p 0 0x118 v (fun s => s.denyClr v))

/-- USBFN_DOORBELL: a write of USBFN.DOORBELL (R378). -/
def execUsbfnDoorbell (p : Port) (v : Nat) (s : State) : Host.Outcome State Fault Refusal :=
  .next (s.access p 0x49 0x48 v (fun s => s.ring_ 0x49 8 v))

/-- MGMT_DOORBELL: a write of MGMT.DOORBELL by a local port, or by the node `node` over the ring (R331). -/
def execMgmtDoorbell (p : Port) (node v : Nat) (s : State) : Host.Outcome State Fault Refusal :=
  .next (s.access p 0x16 0x4C v (fun s => s.poke p (if p = .ringE ∨ p = .ringW then node % 4096 else 0) 0x16 0x4C v))

/-! ### Remote requests to endpoint 0 (R161, R301-R303) -/

/-- The refusal code a cause of R41 is answered with over the ring. -/
def refusalCode (cause : Nat) : Nat := if cause = 0 then 1 else if cause = 1 then 2 else if cause = 4 then 4 else 3

/-- MGMT performs a request and answers it, or refuses it (R41, R301-R303, R312). A word travels least significant byte
first, as registers hold it (R4). A read with the prefetch flag is
declined: endpoint 0 has side effects (R332). -/
def State.mgmtPerform (s : State) (f : Frame) (a : Access) : State :=
  let p := s.arrivalPort f
  let wr := a.op = 1
  let v := ofLe (bnat a.data)
  let one := if a.op = 1 then a.data.length = 4 else a.count = 4
  if !wr && bitOf a.flags 0 && s.sideEffect 0 then s.answer 7 f a 0x82 2 []
  else match s.judge p wr a.offset v one with
    | some 5 => (s.misuse p wr a.offset 5).answer 7 f a 0x81 0 []
    | some c => (s.misuse p wr a.offset c).refuse 7 f (refusalCode c)
    | none =>
      if wr then ((s.writeWord p (if p = .host then 0 else nodeOf f.src) a.offset v).inc MGMT.REMOTE_WR_COUNT).answer 7 f a 0x81 0 []
      else
        let r := s.readBar p a.offset
        (r.2.inc MGMT.REMOTE_RD_COUNT).answer 7 f a 0x82 0 (natb (leBytes 4 r.1))

/-- MGMT_REQUEST: a TC4 request to endpoint 0 reaches MGMT (R303); a twin that does not answer endpoint 0 discards it
(R161). -/
def execMgmtRequest (f : Frame) (s : State) : Host.Outcome State Fault Refusal :=
  .next (if !s.pageOn 0x16 || f.tc ≠ 4 || localOf f.dest ≠ 0 || f.resp || f.refuse then s
    else
      let s1 := s.takeInbox 7 f
      if !s1.answersEp0 then s1.sat TWIN.EP0_DROP_COUNT
      else (match parseAccess f with
        | none => (s1.misuse (s1.arrivalPort f) false 0 0).refuse 7 f 1
        | some a =>
          if a.good f then s1.mgmtPerform f a
          else (s1.misuse (s1.arrivalPort f) (a.op = 1) a.offset 0).refuse 7 f 1).modeDone)

/-! ### The PCI Express function (R45, R46, R325, R452, R468) -/

/-- A stored field copy that a Function Level Reset keeps: every page's but BRIDGE's and POLL's, and of those LOCKED,
which only a power-up reset clears, and FLT_STAT, which is cleared only through the FAULT page (R33, R35, R45). -/
def flrKeeps (k : Nat) : Bool := (keyPage k ≠ 0x14 && keyPage k ≠ 0x15) || keyOff k = 0x1C || keyOff k = 0x24

/-- The masks of a page take their reset values from OTP (R38, R45). -/
def State.otpMasks (s : State) (pg : Nat) : State :=
  if s.otp.sel = none then s
  else (s.wrn pg HDR.BLK_ACCESS_RD_MASK (s.maskBits (12 * blockType pg)) pg).wrn pg HDR.BLK_ACCESS_WR_MASK
    (s.maskBits (12 * blockType pg + 6)) pg

/-- A Function Level Reset: configuration space, MSI-X table, BRIDGE and POLL return to reset; held reads are abandoned,
accepted writes still carried (R45, R326). -/
def State.flr (s : State) : State :=
  let s1 := s.bridgeDown
  let s2 := { s1 with
    regs := s1.regs.filter (fun e => flrKeeps e.1)
    msix := { events := s1.msix.events }
    pcie := { up := s1.pcie.up, perst := s1.pcie.perst }
    pageUnit := { s1.pageUnit with
      swFence := s1.pageUnit.swFence.filter (fun pg => pg ≠ 0x14 && pg ≠ 0x15)
      inReset := s1.pageUnit.inReset.filter (fun pg => pg ≠ 0x14 && pg ≠ 0x15) }
    bridge := { s1.bridge with
      reqs := (s1.bridge.reqs.filter (fun (r : Req) => r.kind = 0)).map (fun (r : Req) => { r with fenced := false })
      fence := none, turn := 0, txWait := [], polls := [], cq := [], lines := [] } }
  ((s2.otpMasks 0x14).otpMasks 0x15).unfenceOutput 3

/-- Configuration space (R43): the word at byte offset `off` of the type 0 header. Vendor and Subsystem IDs are OTP's,
Revision ID the silicon's; BARs are 64-bit, non-prefetchable, of 16 MiB and 512 MiB; Interrupt Pin reads 0. The layout
is the base specification's (PRESUMED, log 62). -/
def State.configWord (s : State) (off : Nat) : Nat :=
  match off with
  | 0x00 => bits (s.shadow 21) 0 16 + 0x2416 * 2 ^ 16
  | 0x04 => s.pcie.command % 2 ^ 16 + 0x10 * 2 ^ 16
  | 0x08 => Config.siliconRev % 256 + 0x088000 * 2 ^ 8
  | 0x10 => s.pcie.bar0 % 2 ^ 32 / 2 ^ 24 * 2 ^ 24 + 4
  | 0x14 => s.pcie.bar0 / 2 ^ 32 % 2 ^ 32
  | 0x18 => s.pcie.bar2 % 2 ^ 32 / 2 ^ 29 * 2 ^ 29 + 4
  | 0x1C => s.pcie.bar2 / 2 ^ 32 % 2 ^ 32
  | 0x2C => bits (s.shadow 22) 16 16 + bits (s.shadow 22) 0 16 * 2 ^ 16
  | _ => 0

/-- FUNCTION_LEVEL_RESET (R45). -/
def execFunctionLevelReset (s : State) : Host.Outcome State Fault Refusal :=
  .next (if s.pdOn 6 then s.flr else s)

/-- The host is out of reach: P3 is treated as a fenced output (R325). -/
def State.hostGone (s : State) : State := (s.bridgeDown).fenceOutput 3

/-- D3HOT_ENTRY (R46, R325). -/
def execD3hotEntry (s : State) : Host.Outcome State Fault Refusal :=
  .next (if s.pdOn 6 && s.pcie.up && !s.pcie.d3hot then { s with pcie := { s.pcie with d3hot := true } }.hostGone else s)

/-- D3HOT_EXIT: bus mastering resumes, and messages held back are sent (R46, R48). -/
def execD3hotExit (s : State) : Host.Outcome State Fault Refusal :=
  .next (if s.pcie.d3hot then ({ s with pcie := { s.pcie with d3hot := false } }.unfenceOutput 3).msixFlush else s)

/-- The data link goes down (R325, R468). -/
def State.linkLost (s : State) : State :=
  if !s.pcie.up then s
  else
    let s1 := { s with pcie := { s.pcie with up := false } }
    ((((s1.wr DEVICE.PCIE_STAT_DL_UP 0).wr DEVICE.PCIE_STAT_WIDTH 0).wr DEVICE.PCIE_STAT_SPEED 0).hostGone).raise 0 9

/-- PERST: PERST_N falls, which acts as a Function Level Reset and retrains the link, or rises (R452). -/
def execPerst (low : Bool) (s : State) : Host.Outcome State Fault Refusal :=
  .next (
    let s1 := { s with pcie := { s.pcie with perst := low } }
    if !s.pdOn 6 || !low || s.pcie.perst then s1 else (s1.flr.linkLost).raise 0 10)

/-- PCIE_LINK_UP: the data link comes up with `width` lanes (1, 2, 4) at speed code 1 to 4 (R43, R467, R468). -/
def execPcieLinkUp (width speed : Nat) (s : State) : Host.Outcome State Fault Refusal :=
  .next (if !s.pdOn 6 || s.pcie.perst || s.pcie.up then s
    else
      let s1 := { s with pcie := { s.pcie with up := true } }
      ((((s1.wr DEVICE.PCIE_STAT_DL_UP 1).wr DEVICE.PCIE_STAT_WIDTH width).wr DEVICE.PCIE_STAT_SPEED speed).raise 0 8).unfenceOutput 3)

/-- PCIE_LINK_DOWN (R325, R468). -/
def execPcieLinkDown (s : State) : Host.Outcome State Fault Refusal := .next s.linkLost

/-- MSIX_UNMASK: MSI-X Enable and Function Mask are written by a configuration request (`vec` none), or the mask bit of a
vector is cleared in the table, a BAR0 access that D3hot does not answer (R46, R48). -/
def execMsixUnmask (vec : Option Nat) (enable fmask : Bool) (s : State) : Host.Outcome State Fault Refusal :=
  .next (if !s.pdOn 6 then s
    else match vec with
      | none => { s with msix := { s.msix with enable := enable, fmask := fmask } }.msixFlush
      | some v =>
        if v < 64 && s.arrives .host then
          (if s.hostWaits .host true then s.holdAccess true (0xFF000C + 16 * v) 0 1 15 else s.msixWrite (4 * v + 3) 0)
        else s)

end Sys2Proof.Machine
end

