-- ==== Sys2Proof/Machine/Lanes.lean ====
section
/-! DEFINITION. Commands of lane shedding and joining (R76-R80, R85, R86). -/

namespace Sys2Proof.Machine

/-- The hub's shed wish for a direction; a twin ANDs in its peer's (R77, R80, R85, R159). -/
def State.shedWish (s : State) (d : Side) : Bool :=
  s.ownWish d && (!s.isTwin || (match d with | .east => s.twin.wishE | .west => s.twin.wishW))

/-- A ballot of direction `d` that leaves or comes back with a join need: the join preparation starts at the next one, which
is the one that JOIN_START stands for (R79). -/
def State.ballotNeed (s : State) (d : Side) (join : Bool) : State :=
  if join then s.updLane d (fun l => { l with asked := true }) else s

/-- The number of the first transmit codeword whose boundary lies ahead, counted from link-up (R70, R78). -/
def State.nextCodeword (s : State) (d : Side) : Nat := s.sinceUp d / 40960 + 1

/-- A control block that changes the lanes goes out on an output this hub drives (R78, R79, R159). -/
def State.sendBlock (s : State) (d : Side) (m : Maint) : State := if s.forwards d then s.emit (.maint d.code m) else s

/-- All the hub's ring ports are up in both directions (R77). -/
def State.portsUp (s : State) : Bool := s.linkState (.ring .east) = 8 && s.linkState (.ring .west) = 8

/-- LANE_BALLOT_SEND: the coordinator sends a ballot around each direction every 1 ms, with its own wish,
need, and flags (R77). -/
def execLaneBallotSend (s : State) : Host.Outcome State Fault Refusal :=
  .next (if s.acting then
    s.every tBallot (ms 1) (fun s =>
      let f (s : State) (d : Side) : State :=
        ((s.ballotNeed d (s.lane d).need).wrn d.n MAC.LANE_STAT_WISH (bit (s.shedWish d))).sendMaint d
          (.ballot d.code (s.shedWish d) (s.lane d).need s.portsUp (s.lane d).ready)
      f (f s .east) .west)
   else s)

/-- LANE_BALLOT_RX: a passing ballot of direction `dir` leaves with this hub's wish and flags ANDed in and
its join need ORed in; an announcement that comes with it is scheduled (R77-R79). -/
def execLaneBallotRx (dir : Side) (shed join allUp ready : Bool) (ann : Option (Bool × Nat)) (s : State) :
    Host.Outcome State Fault Refusal :=
  .next (
    let s1 := ((s.ballotNeed dir (join || (s.lane dir).need)).wrn dir.n MAC.LANE_STAT_WISH (bit (s.shedWish dir))).sendMaint dir
      (.ballot dir.code (shed && s.shedWish dir) (join || (s.lane dir).need) (allUp && s.portsUp) (ready && (s.lane dir).ready))
    match ann with
    | none => s1
    | some a =>
      ((s1.updLane dir (fun l => { l with sched := some a, sentBlock := false, gotBlock := false })).wrn dir.n
        MAC.LANE_STAT_PHASE 2).sendMaint dir (.announce dir.code a.1 a.2))

/-- LANE_BALLOT_RETURN: the ballot comes back to the coordinator. With every wish set and every port up it
announces a shed at now + 200 µs; with a join need, every segment ready and every port up, a join (R76,
R78, R79). -/
def execLaneBallotReturn (dir : Side) (shed join allUp ready : Bool) (s : State) : Host.Outcome State Fault Refusal :=
  .next (
    let s := if s.acting then s.ballotNeed dir join else s
    let go (isJoin : Bool) : State :=
      let t := s.fab + fns 200000
      ((s.updLane dir (fun l => { l with sched := some (isJoin, t), sentBlock := false, gotBlock := false })).wrn dir.n
        MAC.LANE_STAT_PHASE 2).sendMaint dir (.announce dir.code isJoin t)
    if !s.acting || !allUp || (s.lane dir).sched.isSome then s
    else if s.laneMode (.ring dir) = 2 && shed && !join then go false
    else if s.laneMode (.ring dir) = 1 && join && ready then go true
    else s)

/-- SHED_PAUSE_START: from T − 20 µs the hub inserts no frames in the shedding direction (R78 step 1). -/
def execShedPauseStart (dir : Side) (s : State) : Host.Outcome State Fault Refusal :=
  .next (match (s.lane dir).sched with
    | some (false, t) => if t ≤ s.fab + fns 20000 then s.wrn dir.n MAC.LANE_STAT_PHASE 3 else s
    | _ => s)

/-- A change of lane mode that has been sent and received is complete: the mode, the count, the event, and
insertion resumes (R78, R79, R85, R86). -/
def State.laneChanged (s : State) (dir : Side) (isJoin : Bool) : State :=
  if (s.lane dir).sentBlock && (s.lane dir).gotBlock then
    let s1 := s.updLane dir (fun _ => {})
    let s2 := ((s1.wrn dir.n MAC.LANE_STAT_MODE (if isJoin then 2 else 1)).wrn dir.n MAC.LANE_STAT_PHASE 0).incn dir.n
      MAC.LANE_CHG_CNT_COUNT
    (s2.stop (tJoin dir)).raise (9 + dir.n) (bit isJoin)
  else s

/-- SHED_BLOCK_SEND: at the first codeword boundary after T the hub sends a shed block on both lanes, with
the codeword of the change, and moves to lane 0 (R78 step 2). -/
def execShedBlockSend (dir : Side) (s : State) : Host.Outcome State Fault Refusal :=
  .next (match (s.lane dir).sched with
    | some (false, t) =>
      if t ≤ s.fab && !(s.lane dir).sentBlock then
        (((s.wrn dir.n PHY.PHY_STAT_TX_LANES 1).sendBlock dir (.shedBlock dir.code (s.nextCodeword dir))).updLane dir
          (fun l => { l with sentBlock := true })).laneChanged dir false
      else s
    | _ => s)

/-- SHED_BLOCK_RX: the receiver of the direction switches to one lane and lane 1 is powered down; once its
own block is out too, insertion resumes and LANE_SHED is raised (R78 steps 3 and 4). -/
def execShedBlockRx (dir : Side) (s : State) : Host.Outcome State Fault Refusal :=
  .next (match (s.lane dir).sched with
    | some (false, _) =>
      ((((s.cwStop (.ring dir.opp) 1).wrn dir.opp.n PHY.PHY_STAT_RX_LANES 1).wrn dir.opp.n PHY.PHY_STAT_CW_LOCK 1).updLane dir
        (fun l => { l with gotBlock := true })).laneChanged dir false
    | _ => s)

/-- JOIN_START: the next ballot that carries a join need makes the segment power lane 1, restore its
equaliser settings, which its registers have kept, re-adapt, lock and deskew, within 3 ms (R79, R80). -/
def execJoinStart (dir : Side) (s : State) : Host.Outcome State Fault Refusal :=
  .next (if s.laneMode (.ring dir) = 1 && !(s.lane dir).prep && (s.lane dir).asked then
      ((s.updLane dir (fun l => { l with prep := true, ready := false, asked := false })).wrn dir.n MAC.LANE_STAT_PHASE 1).start (tJoin dir) (ms 3)
    else s)

/-- JOIN_LANE_READY: within its 3 ms the segment's lane 1 is ready to report in the next ballot; the model takes this for the
end of a shed wish that its fault forced (R79, R80, log 63). -/
def execJoinLaneReady (dir : Side) (s : State) : Host.Outcome State Fault Refusal :=
  .next (if (s.lane dir).prep && !s.due (tJoin dir) then
      (((s.updLane dir (fun l => { l with ready := true })).wrn dir.opp.n PHY.PHY_STAT_CW_LOCK 3).wrn dir.n
        MAC.LANE_STAT_FAULT_WISH 0).stop (tJoin dir)
    else s)

/-- JOIN_BLOCK_SEND: at the first codeword boundary after the announced time the transmitter sends a join
block and resumes alternating blocks (R79). -/
def execJoinBlockSend (dir : Side) (s : State) : Host.Outcome State Fault Refusal :=
  .next (match (s.lane dir).sched with
    | some (true, t) =>
      if t ≤ s.fab && !(s.lane dir).sentBlock then
        (((s.wrn dir.n PHY.PHY_STAT_TX_LANES 2).sendBlock dir (.joinBlock dir.code (s.nextCodeword dir))).updLane dir
          (fun l => { l with sentBlock := true })).laneChanged dir true
      else s
    | _ => s)

/-- JOIN_BLOCK_RX: the receiver resumes two-lane reception; once its own block is out too, LANE_JOIN is
raised (R79). -/
def execJoinBlockRx (dir : Side) (s : State) : Host.Outcome State Fault Refusal :=
  .next (match (s.lane dir).sched with
    | some (true, _) =>
      (((s.cwFrom (.ring dir.opp) 1).wrn dir.opp.n PHY.PHY_STAT_RX_LANES 2).updLane dir (fun l => { l with gotBlock := true })).laneChanged dir true
    | _ => s)

/-- JOIN_FAIL: a lane 1 not ready within 3 ms raises JOIN_FAIL; the direction stays in one-lane mode and the
next ballot tries again (R80). -/
def execJoinFail (dir : Side) (s : State) : Host.Outcome State Fault Refusal :=
  .next (if (s.lane dir).prep && !(s.lane dir).ready && s.due (tJoin dir) then
      (((s.updLane dir (fun l => { l with prep := false, asked := false, sched := none })).wrn dir.n MAC.LANE_STAT_PHASE 0).stop (tJoin dir)).raise
        (9 + dir.n) 2
    else s)

end Sys2Proof.Machine
end

