-- ==== Sys2Proof/Machine/Program.lean ====
section
/-! DEFINITION. The Yemal instructions as commands: engine `e` dispatches context `c` (R256-R276). -/

namespace Sys2Proof.Machine

/-- The instruction is a JMP. -/
def isJmp : Yemal → Bool
  | .jmp _ _ _ _ => true
  | _ => false

/-- JMP: dispatched if it is due (R260). -/
def execJmp (e c : Nat) (s : State) : Host.Outcome State Fault Refusal :=
  .next (s.dispatch e c isJmp).drain

/-- The instruction is a WAIT. -/
def isWait : Yemal → Bool
  | .wait _ _ _ _ _ => true
  | _ => false

/-- WAIT: dispatched if it is due (R261). -/
def execWait (e c : Nat) (s : State) : Host.Outcome State Fault Refusal :=
  .next (s.dispatch e c isWait).drain

/-- The instruction is a IN. -/
def isInBits : Yemal → Bool
  | .inBits _ _ _ _ _ => true
  | _ => false

/-- IN: dispatched if it is due (R262). -/
def execInBits (e c : Nat) (s : State) : Host.Outcome State Fault Refusal :=
  .next (s.dispatch e c isInBits).drain

/-- The instruction is a OUT. -/
def isOutBits : Yemal → Bool
  | .outBits _ _ _ _ _ _ _ _ => true
  | _ => false

/-- OUT: dispatched if it is due (R263). -/
def execOutBits (e c : Nat) (s : State) : Host.Outcome State Fault Refusal :=
  .next (s.dispatch e c isOutBits).drain

/-- The instruction is a PUSH. -/
def isPush : Yemal → Bool
  | .push _ _ _ _ => true
  | _ => false

/-- PUSH: dispatched if it is due (R265). -/
def execPush (e c : Nat) (s : State) : Host.Outcome State Fault Refusal :=
  .next (s.dispatch e c isPush).drain

/-- The instruction is a PULL. -/
def isPull : Yemal → Bool
  | .pull _ _ _ => true
  | _ => false

/-- PULL: dispatched if it is due (R265, R272). -/
def execPull (e c : Nat) (s : State) : Host.Outcome State Fault Refusal :=
  .next (s.dispatch e c isPull).drain

/-- The instruction is a MOV. -/
def isMov : Yemal → Bool
  | .mov _ _ _ => true
  | _ => false

/-- MOV: dispatched if it is due (R266). -/
def execMov (e c : Nat) (s : State) : Host.Outcome State Fault Refusal :=
  .next (s.dispatch e c isMov).drain

/-- The instruction is a SET. -/
def isSetPins : Yemal → Bool
  | .setPins _ _ _ _ => true
  | _ => false

/-- SET: dispatched if it is due (R264). -/
def execSetPins (e c : Nat) (s : State) : Host.Outcome State Fault Refusal :=
  .next (s.dispatch e c isSetPins).drain

/-- The instruction is a ALU ADD. -/
def isAluAdd : Yemal → Bool
  | .alu .add _ _ _ => true
  | _ => false

/-- ALU ADD: dispatched if it is due (R267). -/
def execAluAdd (e c : Nat) (s : State) : Host.Outcome State Fault Refusal :=
  .next (s.dispatch e c isAluAdd).drain

/-- The instruction is a ALU SUB. -/
def isAluSub : Yemal → Bool
  | .alu .sub _ _ _ => true
  | _ => false

/-- ALU SUB: dispatched if it is due (R267). -/
def execAluSub (e c : Nat) (s : State) : Host.Outcome State Fault Refusal :=
  .next (s.dispatch e c isAluSub).drain

/-- The instruction is a ALU AND. -/
def isAluAnd : Yemal → Bool
  | .alu .and _ _ _ => true
  | _ => false

/-- ALU AND: dispatched if it is due (R267). -/
def execAluAnd (e c : Nat) (s : State) : Host.Outcome State Fault Refusal :=
  .next (s.dispatch e c isAluAnd).drain

/-- The instruction is a ALU OR. -/
def isAluOr : Yemal → Bool
  | .alu .or _ _ _ => true
  | _ => false

/-- ALU OR: dispatched if it is due (R267). -/
def execAluOr (e c : Nat) (s : State) : Host.Outcome State Fault Refusal :=
  .next (s.dispatch e c isAluOr).drain

/-- The instruction is a ALU XOR. -/
def isAluXor : Yemal → Bool
  | .alu .xor _ _ _ => true
  | _ => false

/-- ALU XOR: dispatched if it is due (R267). -/
def execAluXor (e c : Nat) (s : State) : Host.Outcome State Fault Refusal :=
  .next (s.dispatch e c isAluXor).drain

/-- The instruction is a ALU SHL. -/
def isAluShl : Yemal → Bool
  | .alu .shl _ _ _ => true
  | _ => false

/-- ALU SHL: dispatched if it is due (R267). -/
def execAluShl (e c : Nat) (s : State) : Host.Outcome State Fault Refusal :=
  .next (s.dispatch e c isAluShl).drain

/-- The instruction is a ALU SHR. -/
def isAluShr : Yemal → Bool
  | .alu .shr _ _ _ => true
  | _ => false

/-- ALU SHR: dispatched if it is due (R267). -/
def execAluShr (e c : Nat) (s : State) : Host.Outcome State Fault Refusal :=
  .next (s.dispatch e c isAluShr).drain

/-- The instruction is a ALU CMP. -/
def isAluCmp : Yemal → Bool
  | .alu .cmp _ _ _ => true
  | _ => false

/-- ALU CMP: dispatched if it is due (R267). -/
def execAluCmp (e c : Nat) (s : State) : Host.Outcome State Fault Refusal :=
  .next (s.dispatch e c isAluCmp).drain

/-- The instruction is a STAMP. -/
def isStamp : Yemal → Bool
  | .stamp _ _ _ => true
  | _ => false

/-- STAMP: dispatched if it is due (R268). -/
def execStamp (e c : Nat) (s : State) : Host.Outcome State Fault Refusal :=
  .next (s.dispatch e c isStamp).drain

/-- The instruction is a TTRIG. -/
def isTtrig : Yemal → Bool
  | .ttrig _ act _ _ _ => decide (act ≠ .cancel)
  | _ => false

/-- TTRIG: dispatched if it is due (R269). -/
def execTtrig (e c : Nat) (s : State) : Host.Outcome State Fault Refusal :=
  .next (s.dispatch e c isTtrig).drain

/-- The instruction is a TTRIG CANCEL. -/
def isTtrigCancel : Yemal → Bool
  | .ttrig _ .cancel _ _ _ => true
  | _ => false

/-- TTRIG CANCEL: dispatched if it is due (R269). -/
def execTtrigCancel (e c : Nat) (s : State) : Host.Outcome State Fault Refusal :=
  .next (s.dispatch e c isTtrigCancel).drain

/-- The instruction is a CHK SEED. -/
def isChkSeed : Yemal → Bool
  | .chk .seed _ _ => true
  | _ => false

/-- CHK SEED: dispatched if it is due (R271, R290-R293). -/
def execChkSeed (e c : Nat) (s : State) : Host.Outcome State Fault Refusal :=
  .next (s.dispatch e c isChkSeed).drain

/-- The instruction is a CHK SEEDX. -/
def isChkSeedx : Yemal → Bool
  | .chk .seedx _ _ => true
  | _ => false

/-- CHK SEEDX: dispatched if it is due (R271, R290-R293). -/
def execChkSeedx (e c : Nat) (s : State) : Host.Outcome State Fault Refusal :=
  .next (s.dispatch e c isChkSeedx).drain

/-- The instruction is a CHK FOLD. -/
def isChkFold : Yemal → Bool
  | .chk .fold _ _ => true
  | _ => false

/-- CHK FOLD: dispatched if it is due (R271, R290-R293). -/
def execChkFold (e c : Nat) (s : State) : Host.Outcome State Fault Refusal :=
  .next (s.dispatch e c isChkFold).drain

/-- The instruction is a CHK APPEND. -/
def isChkAppend : Yemal → Bool
  | .chk .append _ _ => true
  | _ => false

/-- CHK APPEND: dispatched if it is due (R271, R290-R293). -/
def execChkAppend (e c : Nat) (s : State) : Host.Outcome State Fault Refusal :=
  .next (s.dispatch e c isChkAppend).drain

/-- The instruction is a CHK VERIFY. -/
def isChkVerify : Yemal → Bool
  | .chk .verify _ _ => true
  | _ => false

/-- CHK VERIFY: dispatched if it is due (R271, R290-R293). -/
def execChkVerify (e c : Nat) (s : State) : Host.Outcome State Fault Refusal :=
  .next (s.dispatch e c isChkVerify).drain

/-- The instruction is a CHK SAVE. -/
def isChkSave : Yemal → Bool
  | .chk .save _ _ => true
  | _ => false

/-- CHK SAVE: dispatched if it is due (R271, R290-R293). -/
def execChkSave (e c : Nat) (s : State) : Host.Outcome State Fault Refusal :=
  .next (s.dispatch e c isChkSave).drain

/-- The instruction is a CHK PAUSE. -/
def isChkPause : Yemal → Bool
  | .chk .pause _ _ => true
  | _ => false

/-- CHK PAUSE: dispatched if it is due (R271, R290-R293). -/
def execChkPause (e c : Nat) (s : State) : Host.Outcome State Fault Refusal :=
  .next (s.dispatch e c isChkPause).drain

/-- The instruction is a FIFO MARK. -/
def isFifoMark : Yemal → Bool
  | .fifo _ .mark => true
  | _ => false

/-- FIFO MARK: dispatched if it is due (R237, R238, R272). -/
def execFifoMark (e c : Nat) (s : State) : Host.Outcome State Fault Refusal :=
  .next (s.dispatch e c isFifoMark).drain

/-- The instruction is a FIFO REWIND. -/
def isFifoRewind : Yemal → Bool
  | .fifo _ .rewind => true
  | _ => false

/-- FIFO REWIND: dispatched if it is due (R237, R238, R272). -/
def execFifoRewind (e c : Nat) (s : State) : Host.Outcome State Fault Refusal :=
  .next (s.dispatch e c isFifoRewind).drain

/-- The instruction is a FIFO RELEASE. -/
def isFifoRelease : Yemal → Bool
  | .fifo _ .release => true
  | _ => false

/-- FIFO RELEASE: dispatched if it is due (R237, R238, R272). -/
def execFifoRelease (e c : Nat) (s : State) : Host.Outcome State Fault Refusal :=
  .next (s.dispatch e c isFifoRelease).drain

/-- The instruction is a FIFO FLUSH. -/
def isFifoFlush : Yemal → Bool
  | .fifo _ .flush => true
  | _ => false

/-- FIFO FLUSH: dispatched if it is due (R237, R238, R272). -/
def execFifoFlush (e c : Nat) (s : State) : Host.Outcome State Fault Refusal :=
  .next (s.dispatch e c isFifoFlush).drain

/-- The instruction is a EVENT. -/
def isEvent : Yemal → Bool
  | .event _ _ _ _ => true
  | _ => false

/-- EVENT: dispatched if it is due (R257, R273). -/
def execEvent (e c : Nat) (s : State) : Host.Outcome State Fault Refusal :=
  .next (s.dispatch e c isEvent).drain

/-- The instruction is a LDI. -/
def isLdi : Yemal → Bool
  | .ldi _ _ _ => true
  | _ => false

/-- LDI: dispatched if it is due (R267). -/
def execLdi (e c : Nat) (s : State) : Host.Outcome State Fault Refusal :=
  .next (s.dispatch e c isLdi).drain

/-- The instruction is a YIELD. -/
def isYield : Yemal → Bool
  | .yield false => true
  | _ => false

/-- YIELD: dispatched if it is due (R228, R273). -/
def execYield (e c : Nat) (s : State) : Host.Outcome State Fault Refusal :=
  .next (s.dispatch e c isYield).drain

/-- The instruction is a YIELD with end-of-cycle. -/
def isYieldEoc : Yemal → Bool
  | .yield true => true
  | _ => false

/-- YIELD with end-of-cycle: dispatched if it is due (R228, R230). -/
def execYieldEoc (e c : Nat) (s : State) : Host.Outcome State Fault Refusal :=
  .next (s.dispatch e c isYieldEoc).drain

end Sys2Proof.Machine
end

