-- ==== Sys2Proof/Machine/Ref.lean ====
section
/-! DEFINITION. Commands of the shared reference (R56-R64, R81). -/

namespace Sys2Proof.Machine

/-- REF_BEACON_SEND: an acting master sends a beacon in both directions every 1 ms (R56). -/
def execRefBeaconSend (s : State) : Host.Outcome State Fault Refusal :=
  .next (if s.acting then
    s.every tBeacon (ms 1) (fun s =>
      (s.sendMaint .east (.beacon s.nodeId (s.rd CLOCKS.REF_CFG_ROLE))).sendMaint .west
        (.beacon s.nodeId (s.rd CLOCKS.REF_CFG_ROLE)))
   else s)

/-- REF_BEACON_RX: a beacon received on port `d`. The hub's own beacon has gone round: it ends here, and one that came
eastward, to the west port, shows CLOSED while REFW has edges (log 63). Another's is passed on, restarts the beacon
timeout, is compared in rank and becomes the master followed (R56, R63, R64, R81). -/
def execRefBeaconRx (d : Side) (node role : Nat) (s : State) : Host.Outcome State Fault Refusal :=
  .next (if node = s.nodeId then
      (if s.acting && d = .west then s.wr CLOCKS.REF_STAT_CLOSED (bit s.ref.edges.isSome) else s)
    else
      let s1 := (s.learnMaster node role).sendMaint d.opp (.beacon node role)
      let s2 := { (s1.wr CLOCKS.REF_STAT_MASTER_ID node) with ref := { s1.ref with
        masterRole := role, heard := s1.mono, stay := s1.ref.stay || s1.rd CLOCKS.REF_CFG_ROLE = 1 } }
      if s2.acting then s2 else s2.start tBeaconTmo (s2.rd CLOCKS.REF_CFG_BEACON_TMO * ms 1))

/-- BEACON_TIMEOUT: a backup master that has heard no beacon for BEACON_TMO becomes acting master; so does
a master that has heard none since power-up, for which the model takes the same time, from when the ring ports are
enabled (R56, R63, log 63). -/
def execBeaconTimeout (s : State) : Host.Outcome State Fault Refusal :=
  .next (if s.due tBeaconTmo && !s.acting &&
      (s.rd CLOCKS.REF_CFG_ROLE = 2 || (s.rd CLOCKS.REF_CFG_ROLE = 1 && !s.ref.stay))
    then s.becomeActing else s)

/-- CONTEST_NOTICE: passed on while the next segment is up; an acting master it reaches acts on it (R64). -/
def execContestNotice (d : Side) (node role : Nat) (s : State) : Host.Outcome State Fault Refusal :=
  .next (if s.acting then
      (if outranks node role s.nodeId (s.rd CLOCKS.REF_CFG_ROLE) then s.stopActing else s)
    else s.sendMaint d.opp (.contest node role))

/-- REF_TAKE: REF_CTRL.TAKE makes a master or backup master the acting master; ignored for a follower
(R63, R81). -/
def execRefTake (p : Port) (s : State) : Host.Outcome State Fault Refusal :=
  .next (s.access p 2 0x84 1 (fun s => if s.rd CLOCKS.REF_CFG_ROLE = 0 then s else s.becomeActing))

/-- REF_YIELD: REF_CTRL.YIELD makes an acting master stop acting; ignored otherwise (R63, R81). -/
def execRefYield (p : Port) (s : State) : Host.Outcome State Fault Refusal :=
  .next (s.access p 2 0x84 2 State.stopActing)

/-- REFW_LOSS: REFW without an edge for 64 ns is absent; a hub locked to it enters holdover, and REFE goes
static (R57, R58, R61). -/
def execRefwLoss (s : State) : Host.Outcome State Fault Refusal :=
  .next (
    let s1 := { s with ref := { s.ref with edges := none } }.wr CLOCKS.REF_STAT_CLOSED 0
    if !s.acting && s.rd CLOCKS.REF_STAT_SOURCE = 0 then
      s1.loseSource
    else s1)

/-- A source has been present for 1 ms: edges on REFW; or the east port up and its lanes syntonised, with LANE_FALLBACK
(R57). -/
def State.sourceReady (s : State) (src : Nat) : Bool :=
  match src with
  | 0 => (match s.ref.edges with | some t => decide (t + ms 1 ≤ s.mono) | none => false)
  | 1 => s.flag CLOCKS.REF_CFG_LANE_FALLBACK && s.linkState (.ring .east) = 8 && s.flagn 0 PHY.PHY_STAT_SYNTONISED &&
      (match (s.phyOf (.ring .east)).upAt with | some t => decide (t + ms 1 ≤ s.mono) | none => false)
  | _ => false

/-- REF_SOURCE_QUALIFIED: edges have appeared on REFW, from which its 1 ms counts (log 63); or a source has been qualified for
1 ms: it becomes the source if its priority is higher than the present one's, with the spread it carries (R57, R60-R62). An
acting master ignores it. -/
def execRefSourceQualified (src : RefNote) (s : State) : Host.Outcome State Fault Refusal :=
  .next (match src with
    | .edges => if s.ref.edges = none && s.pdOn 2 then { s with ref := { s.ref with edges := some s.mono } } else s
    | .qualified n ssc =>
      if !s.acting && decide (n < s.rd CLOCKS.REF_STAT_SOURCE) && s.sourceReady n then
        let s1 := { s with ref := { s.ref with
          carried := ssc.map (fun (x : Nat × Nat × Nat) => (x.1, x.2.1))
          origin := match ssc with | some x => s.mono - x.2.2 % spreadPeriod x.2.1 | none => s.ref.origin } }
        ((s1.wr CLOCKS.REF_STAT_SOURCE n).wr CLOCKS.REF_STAT_LOCKED 1).raiseRef 6
      else s)

end Sys2Proof.Machine
end

