-- ==== Sys2Proof/Machine/UsbAccess.lean ====
section
/-! DEFINITION. Register accesses of the USB function: vendor requests on EP0, READ and WRITE on the bulk pair, the
acknowledgement of a response (R366, R367, R369, R370). -/

namespace Sys2Proof.Machine

/-- EP0 of the function can carry a request. -/
def State.fnEp0 (s : State) : Bool := s.usbOn && s.pageOn 0x49

/-- VENDOR_READ: 4 bytes of the USBFN page at `off`, judged as port USBF (R366). -/
def execVendorRead (off : Nat) (s : State) : Host.Outcome State Fault Refusal :=
  .next (if !s.fnEp0 then s
    else
      let s1 := s.setup
      let a := 0x49000 + off % 4096
      match (if 4096 ≤ off then some 1 else s1.judge .usbf false a 0 true) with
      | some c => (s1.misuse .usbf false a c).stall 1 0
      | none => (s1.readWord .usbf a).2.usbData (leBytes 4 (s1.readWord .usbf a).1))

/-- VENDOR_WRITE: a write of the USBFN page is staged (R366). -/
def execVendorWrite (off v : Nat) (s : State) : Host.Outcome State Fault Refusal :=
  .next (if !s.fnEp0 then s
    else
      let s1 := s.setup
      let a := 0x49000 + off % 4096
      match (if 4096 ≤ off then some 1 else s1.judge .usbf true a (v % 2 ^ 32) true) with
      | some 5 => s1.misuse .usbf true a 5
      | some c => (s1.misuse .usbf true a c).stall 1 0
      | none => s1.updUsb (fun u => { u with staged := some (off, v % 2 ^ 32) }))

/-- STATUS_STAGE_ACK: the status stage of a vendor request is acknowledged, which commits a staged write (R366). -/
def execStatusStageAck (s : State) : Host.Outcome State Fault Refusal :=
  .next (match s.usb.staged with
    | none => s
    | some (off, v) => ((s.setup).writeWord .usbf 0 (0x49000 + off) v).modeDone)

/-- The offsets of the words a READ or WRITE names. -/
def usbOffsets (arg words : Nat) : List Nat := (List.range words).map (fun i => arg + 4 * i)

/-- The first word of a READ or WRITE that fails R41, with its cause (R369). A wrong lock key does not stop a transfer
(R41). -/
def State.usbBad (s : State) (wr : Bool) (ws : List (Nat × Nat)) : Option (Nat × Nat) :=
  ws.findSome? (fun w =>
    match s.judge .usbf wr w.1 w.2 true with
    | some c => if c = 5 then none else some (w.1, c)
    | none => none)

/-- USB_READ: READ of `words` words from `arg`: every word judged first, then read in address order; an RC word clears
only at the acknowledgement (R369, R370). -/
def execUsbRead (words tag counter arg : Nat) (mac : List Byte) (s : State) : Host.Outcome State Fault Refusal :=
  .next (s.usbCommand 1 words tag counter arg [] mac (decide (1 ≤ words) && decide (words ≤ 64)) (fun t =>
    let offs := usbOffsets (arg % 2 ^ 32) words
    match t.usbBad false (offs.map (fun a => (a, 0))) with
    | some (a, c) => (t.misuse .usbf false a c).haltOut
    | none =>
      let r := offs.foldl (fun (x : List Nat × State) a => (x.1 ++ leBytes 4 (x.2.readWord .usbf a).1, (x.2.readWord .usbf a).2))
        ([], t)
      r.2.usbRespond 1 words tag counter 0 r.1 (offs.filterMap t.rcOf)))

/-- USB_WRITE: WRITE of the words `data` from `arg` (R369). -/
def execUsbWrite (tag counter arg : Nat) (data : List Nat) (mac : List Byte) (s : State) : Host.Outcome State Fault Refusal :=
  .next (s.usbCommand 2 data.length tag counter arg (data.flatMap (leBytes 4)) mac
    (decide (1 ≤ data.length) && decide (data.length ≤ 64)) (fun t =>
    let ws := (usbOffsets (arg % 2 ^ 32) data.length).zip (data.map (fun v => v % 2 ^ 32))
    match t.usbBad true ws with
    | some (a, c) => (t.misuse .usbf true a c).haltOut
    | none =>
      let t1 := ws.foldl (fun (u : State) w =>
        match u.judge .usbf true w.1 w.2 true with
        | some c => u.misuse .usbf true w.1 c
        | none => u.writeWord .usbf 0 w.1 w.2) t
      t1.modeDone.usbRespond 2 data.length tag counter 0 [] []))

/-- RESPONSE_ACK: the host acknowledges the last packet of a response: the RC words it returned are cleared; the toggle
of EP1 IN (R370, R372). -/
def execResponseAck (s : State) : Host.Outcome State Fault Refusal :=
  .next (match s.usb.resp with
    | none => s
    | some (bs, rcs) =>
      let s1 := rcs.foldl (fun (t : State) x => (t.swPop x.1 x.2).2) s
      s1.updUsb (fun u => { u with resp := none, togIn := if s.usbPackets bs.length % 2 = 1 then !u.togIn else u.togIn }))

end Sys2Proof.Machine
end

