-- ==== Sys2Proof/Machine/Dispatch.lean ====
section
/-! DEFINITION. exec: one arm for each command, one direct call of its meaning. -/

namespace Sys2Proof.Machine

def exec (i : Instr) (s : State) : Host.Outcome State Fault Refusal :=
  match i with
  | .registerWrite p a v => Sys2Proof.Machine.execRegisterWrite p a v s
  | .loReadCapture p a => Sys2Proof.Machine.execLoReadCapture p a s
  | .softReset p pg => Sys2Proof.Machine.execSoftReset p pg s
  | .softResetDone pg => Sys2Proof.Machine.execSoftResetDone pg s
  | .fenceReq p pg on => Sys2Proof.Machine.execFenceReq p pg on s
  | .blockFenced pg => Sys2Proof.Machine.execBlockFenced pg s
  | .blkAccessWrite p pg v => Sys2Proof.Machine.execBlkAccessWrite p pg v s
  | .lock p pg v => Sys2Proof.Machine.execLock p pg v s
  | .intSet p pg v => Sys2Proof.Machine.execIntSet p pg v s
  | .intStatClear p pg v => Sys2Proof.Machine.execIntStatClear p pg v s
  | .intEnWrite p pg v => Sys2Proof.Machine.execIntEnWrite p pg v s
  | .msixUnmask vec enable fmask => Sys2Proof.Machine.execMsixUnmask vec enable fmask s
  | .fltInjWrite p pg v => Sys2Proof.Machine.execFltInjWrite p pg v s
  | .denyClr p v => Sys2Proof.Machine.execDenyClr p v s
  | .functionLevelReset => Sys2Proof.Machine.execFunctionLevelReset s
  | .d3hotEntry => Sys2Proof.Machine.execD3hotEntry s
  | .perst low => Sys2Proof.Machine.execPerst low s
  | .pcieLinkUp width speed => Sys2Proof.Machine.execPcieLinkUp width speed s
  | .pcieLinkDown => Sys2Proof.Machine.execPcieLinkDown s
  | .refBeaconSend => Sys2Proof.Machine.execRefBeaconSend s
  | .refBeaconRx d node role => Sys2Proof.Machine.execRefBeaconRx d node role s
  | .beaconTimeout => Sys2Proof.Machine.execBeaconTimeout s
  | .contestNotice d node role => Sys2Proof.Machine.execContestNotice d node role s
  | .refTake p => Sys2Proof.Machine.execRefTake p s
  | .refYield p => Sys2Proof.Machine.execRefYield p s
  | .refwLoss => Sys2Proof.Machine.execRefwLoss s
  | .refSourceQualified src => Sys2Proof.Machine.execRefSourceQualified src s
  | .phyBringUpStart l => Sys2Proof.Machine.execPhyBringUpStart l s
  | .lanePllLocked l => Sys2Proof.Machine.execLanePllLocked l s
  | .trainingComplete l ffe0 ffe1 farNoPrecode named => Sys2Proof.Machine.execTrainingComplete l ffe0 ffe1 farNoPrecode named s
  | .trainFail l lane1Only => Sys2Proof.Machine.execTrainFail l lane1Only s
  | .eqAdapted l ctle0 ctle1 eye0 eye1 taps => Sys2Proof.Machine.execEqAdapted l ctle0 ctle1 eye0 eye1 taps s
  | .codewordLock l good => Sys2Proof.Machine.execCodewordLock l good s
  | .deskewDone d swapped skewUi => Sys2Proof.Machine.execDeskewDone d swapped skewUi s
  | .linkQualified l peerIndex => Sys2Proof.Machine.execLinkQualified l peerIndex s
  | .linkUp l => Sys2Proof.Machine.execLinkUp l s
  | .linkDown l cause => Sys2Proof.Machine.execLinkDown l cause s
  | .uncorrectableCodeword l lane follows => Sys2Proof.Machine.execUncorrectableCodeword l lane follows s
  | .uncWindowEnd l => Sys2Proof.Machine.execUncWindowEnd l s
  | .eyeLow l lane height => Sys2Proof.Machine.execEyeLow l lane height s
  | .retrain p l => Sys2Proof.Machine.execRetrain p l s
  | .holdoffExpiry l => Sys2Proof.Machine.execHoldoffExpiry l s
  | .laneBallotSend => Sys2Proof.Machine.execLaneBallotSend s
  | .laneBallotRx dir shed join allUp ready ann => Sys2Proof.Machine.execLaneBallotRx dir shed join allUp ready ann s
  | .laneBallotReturn dir shed join allUp ready => Sys2Proof.Machine.execLaneBallotReturn dir shed join allUp ready s
  | .shedPauseStart dir => Sys2Proof.Machine.execShedPauseStart dir s
  | .shedBlockSend dir => Sys2Proof.Machine.execShedBlockSend dir s
  | .shedBlockRx dir => Sys2Proof.Machine.execShedBlockRx dir s
  | .joinStart dir => Sys2Proof.Machine.execJoinStart dir s
  | .joinBlockSend dir => Sys2Proof.Machine.execJoinBlockSend dir s
  | .joinFail dir => Sys2Proof.Machine.execJoinFail dir s
  | .frameArrival d f bad stamp => Sys2Proof.Machine.execFrameArrival d f bad stamp s
  | .frameTrailerAccept d errored count31 wireLen => Sys2Proof.Machine.execFrameTrailerAccept d errored count31 wireLen s
  | .junctionRelayRx f stamp => Sys2Proof.Machine.execJunctionRelayRx f stamp s
  | .streamEntryRetire node cls => Sys2Proof.Machine.execStreamEntryRetire node cls s
  | .transitCheckFail out kind => Sys2Proof.Machine.execTransitCheckFail out kind s
  | .bypassRejoin p => Sys2Proof.Machine.execBypassRejoin p s
  | .rejoinRelayWaitEnd => Sys2Proof.Machine.execRejoinRelayWaitEnd s
  | .bypassForce p on => Sys2Proof.Machine.execBypassForce p on s
  | .insPeriodStart d => Sys2Proof.Machine.execInsPeriodStart d s
  | .insertion d expressAt visible => Sys2Proof.Machine.execInsertion d expressAt visible s
  | .copyAdmission inp f => Sys2Proof.Machine.execCopyAdmission inp f s
  | .arbitrationGrant p => Sys2Proof.Machine.execArbitrationGrant p s
  | .frameSent p => Sys2Proof.Machine.execFrameSent p s
  | .lfsrSeed p seed => Sys2Proof.Machine.execLfsrSeed p seed s
  | .voqMinWrite p v => Sys2Proof.Machine.execVoqMinWrite p v s
  | .bankFence b => Sys2Proof.Machine.execBankFence b s
  | .auditPass => Sys2Proof.Machine.execAuditPass s
  | .holdWindowExpiry p c => Sys2Proof.Machine.execHoldWindowExpiry p c s
  | .heartbeatSend => Sys2Proof.Machine.execHeartbeatSend s
  | .heartbeatRx h => Sys2Proof.Machine.execHeartbeatRx h s
  | .heartbeatTimeout => Sys2Proof.Machine.execHeartbeatTimeout s
  | .aloneWaitExpiry => Sys2Proof.Machine.execAloneWaitExpiry s
  | .ownInChange level => Sys2Proof.Machine.execOwnInChange level s
  | .ownershipConflict => Sys2Proof.Machine.execOwnershipConflict s
  | .interlockInconsistency => Sys2Proof.Machine.execInterlockInconsistency s
  | .ownReleasePoint => Sys2Proof.Machine.execOwnReleasePoint s
  | .pourOverSend => Sys2Proof.Machine.execPourOverSend s
  | .snapshotFragmentRx num idx good recs => Sys2Proof.Machine.execSnapshotFragmentRx num idx good recs s
  | .ringOutputTakeover d => Sys2Proof.Machine.execRingOutputTakeover d s
  | .ringOutputReturn d => Sys2Proof.Machine.execRingOutputReturn d s
  | .handover p => Sys2Proof.Machine.execHandover p s
  | .peerRelayAccess p => Sys2Proof.Machine.execPeerRelayAccess p s
  | .peerRelayDone ok cause data => Sys2Proof.Machine.execPeerRelayDone ok cause data s
  | .peerRelayTimeout => Sys2Proof.Machine.execPeerRelayTimeout s
  | .syncSend => Sys2Proof.Machine.execSyncSend s
  | .announceSend => Sys2Proof.Machine.execAnnounceSend s
  | .delayReqSend => Sys2Proof.Machine.execDelayReqSend s
  | .pdelayReqSend d => Sys2Proof.Machine.execPdelayReqSend d s
  | .pdelayReqRx d msg t2 => Sys2Proof.Machine.execPdelayReqRx d msg t2 s
  | .pdelayRespRx d header receipt t4 requester => Sys2Proof.Machine.execPdelayRespRx d header receipt t4 requester s
  | .syncRx l f stamp => Sys2Proof.Machine.execSyncRx l f stamp s
  | .delayReqRx d f stamp => Sys2Proof.Machine.execDelayReqRx d f stamp s
  | .delayRespRx d f => Sys2Proof.Machine.execDelayRespRx d f s
  | .announceRx l f => Sys2Proof.Machine.execAnnounceRx l f s
  | .announceTimeout => Sys2Proof.Machine.execAnnounceTimeout s
  | .syncTimeout => Sys2Proof.Machine.execSyncTimeout s
  | .pathSyncTimeout => Sys2Proof.Machine.execPathSyncTimeout s
  | .stepGo p hold => Sys2Proof.Machine.execStepGo p hold s
  | .stepArm p hold => Sys2Proof.Machine.execStepArm p hold s
  | .launchEligible v => Sys2Proof.Machine.execLaunchEligible v s
  | .launchDeadline v => Sys2Proof.Machine.execLaunchDeadline v s
  | .toutArm p k => Sys2Proof.Machine.execToutArm p k s
  | .toutDisarm p k => Sys2Proof.Machine.execToutDisarm p k s
  | .toutEdge k => Sys2Proof.Machine.execToutEdge k s
  | .baseCycleBoundary => Sys2Proof.Machine.execBaseCycleBoundary s
  | .bcGridChange => Sys2Proof.Machine.execBcGridChange s
  | .dispatchResume e => Sys2Proof.Machine.execDispatchResume e s
  | .deferralEnd e c => Sys2Proof.Machine.execDeferralEnd e c s
  | .ctxStart p e c pre => Sys2Proof.Machine.execCtxStart p e c pre s
  | .ctxStartNow p e c pre => Sys2Proof.Machine.execCtxStartNow p e c pre s
  | .ctxClear p e c pre => Sys2Proof.Machine.execCtxClear p e c pre s
  | .ctxStop p e c pre => Sys2Proof.Machine.execCtxStop p e c pre s
  | .stopCompletion e c => Sys2Proof.Machine.execStopCompletion e c s
  | .injGo p e c pre => Sys2Proof.Machine.execInjGo p e c pre s
  | .injectionExecute e c => Sys2Proof.Machine.execInjectionExecute e c s
  | .reservedEncoding e c => Sys2Proof.Machine.execReservedEncoding e c s
  | .jmp e c => Sys2Proof.Machine.execJmp e c s
  | .wait e c => Sys2Proof.Machine.execWait e c s
  | .inBits e c => Sys2Proof.Machine.execInBits e c s
  | .outBits e c => Sys2Proof.Machine.execOutBits e c s
  | .push e c => Sys2Proof.Machine.execPush e c s
  | .pull e c => Sys2Proof.Machine.execPull e c s
  | .mov e c => Sys2Proof.Machine.execMov e c s
  | .setPins e c => Sys2Proof.Machine.execSetPins e c s
  | .aluAdd e c => Sys2Proof.Machine.execAluAdd e c s
  | .aluSub e c => Sys2Proof.Machine.execAluSub e c s
  | .aluAnd e c => Sys2Proof.Machine.execAluAnd e c s
  | .aluOr e c => Sys2Proof.Machine.execAluOr e c s
  | .aluXor e c => Sys2Proof.Machine.execAluXor e c s
  | .aluShl e c => Sys2Proof.Machine.execAluShl e c s
  | .aluShr e c => Sys2Proof.Machine.execAluShr e c s
  | .aluCmp e c => Sys2Proof.Machine.execAluCmp e c s
  | .stamp e c => Sys2Proof.Machine.execStamp e c s
  | .ttrig e c => Sys2Proof.Machine.execTtrig e c s
  | .ttrigCancel e c => Sys2Proof.Machine.execTtrigCancel e c s
  | .ttrigActionFire e c => Sys2Proof.Machine.execTtrigActionFire e c s
  | .chkSeed e c => Sys2Proof.Machine.execChkSeed e c s
  | .chkSeedx e c => Sys2Proof.Machine.execChkSeedx e c s
  | .chkFold e c => Sys2Proof.Machine.execChkFold e c s
  | .chkAppend e c => Sys2Proof.Machine.execChkAppend e c s
  | .chkVerify e c => Sys2Proof.Machine.execChkVerify e c s
  | .chkSave e c => Sys2Proof.Machine.execChkSave e c s
  | .chkPause e c => Sys2Proof.Machine.execChkPause e c s
  | .fifoMark e c => Sys2Proof.Machine.execFifoMark e c s
  | .fifoRewind e c => Sys2Proof.Machine.execFifoRewind e c s
  | .fifoRelease e c => Sys2Proof.Machine.execFifoRelease e c s
  | .fifoFlush e c => Sys2Proof.Machine.execFifoFlush e c s
  | .event e c => Sys2Proof.Machine.execEvent e c s
  | .ldi e c => Sys2Proof.Machine.execLdi e c s
  | .yield e c => Sys2Proof.Machine.execYield e c s
  | .yieldEoc e c => Sys2Proof.Machine.execYieldEoc e c s
  | .stallEnd e c => Sys2Proof.Machine.execStallEnd e c s
  | .pinUnderrun e c => Sys2Proof.Machine.execPinUnderrun e c s
  | .txFlush p e => Sys2Proof.Machine.execTxFlush p e s
  | .rxFlush p e => Sys2Proof.Machine.execRxFlush p e s
  | .flushComplete e c rx => Sys2Proof.Machine.execFlushComplete e c rx s
  | .txfPush p e v => Sys2Proof.Machine.execTxfPush p e v s
  | .txfPushEnd p e v => Sys2Proof.Machine.execTxfPushEnd p e v s
  | .rxfPop p e => Sys2Proof.Machine.execRxfPop p e s
  | .contextSnapshot p e c => Sys2Proof.Machine.execContextSnapshot p e c s
  | .contextSnapshotDone e => Sys2Proof.Machine.execContextSnapshotDone e s
  | .framerEmit e c => Sys2Proof.Machine.execFramerEmit e c s
  | .framerRx f => Sys2Proof.Machine.execFramerRx f s
  | .framerUnpack e c => Sys2Proof.Machine.execFramerUnpack e c s
  | .readPendTimeout e c => Sys2Proof.Machine.execReadPendTimeout e c s
  | .subaWrite p e base count => Sys2Proof.Machine.execSubaWrite p e base count s
  | .programMemoryWrite p e bank word v => Sys2Proof.Machine.execProgramMemoryWrite p e bank word v s
  | .pbSwap p e live => Sys2Proof.Machine.execPbSwap p e live s
  | .pbCancel p e live => Sys2Proof.Machine.execPbCancel p e live s
  | .bankSupplyFail b => Sys2Proof.Machine.execBankSupplyFail b s
  | .pinInputChange pin level => Sys2Proof.Machine.execPinInputChange pin level s
  | .pinEdgeAccepted pin => Sys2Proof.Machine.execPinEdgeAccepted pin s
  | .bar2Write off data whole => Sys2Proof.Machine.execBar2Write off data whole s
  | .bar2Read host off len whole => Sys2Proof.Machine.execBar2Read host off len whole s
  | .accessAnswerRx f => Sys2Proof.Machine.execAccessAnswerRx f s
  | .readTimeout tag => Sys2Proof.Machine.execReadTimeout tag s
  | .writeTimeout tag => Sys2Proof.Machine.execWriteTimeout tag s
  | .prefetchLineExpiry addr => Sys2Proof.Machine.execPrefetchLineExpiry addr s
  | .fenceGo p w => Sys2Proof.Machine.execFenceGo p w s
  | .fenceAbort p w => Sys2Proof.Machine.execFenceAbort p w s
  | .readAbort p w => Sys2Proof.Machine.execReadAbort p w s
  | .pweClear p => Sys2Proof.Machine.execPweClear p s
  | .pfdClear p => Sys2Proof.Machine.execPfdClear p s
  | .pollDue e => Sys2Proof.Machine.execPollDue e s
  | .cqPop p => Sys2Proof.Machine.execCqPop p s
  | .hostRxDelivery f buf => Sys2Proof.Machine.execHostRxDelivery f buf s
  | .sendRingServe n count image => Sys2Proof.Machine.execSendRingServe n count image s
  | .mgmtRequest f => Sys2Proof.Machine.execMgmtRequest f s
  | .mgmtDoorbell p node v => Sys2Proof.Machine.execMgmtDoorbell p node v s
  | .canMode p n mode => Sys2Proof.Machine.execCanMode p n mode s
  | .canFrameRx n f sofNs sofSec => Sys2Proof.Machine.execCanFrameRx n f sofNs sofSec s
  | .canTxReq p n => Sys2Proof.Machine.execCanTxReq p n s
  | .canTxAbort p n => Sys2Proof.Machine.execCanTxAbort p n s
  | .canTxStart n b => Sys2Proof.Machine.execCanTxStart n b s
  | .canTxEnd n ok loop => Sys2Proof.Machine.execCanTxEnd n ok loop s
  | .canEndpointAccess f => Sys2Proof.Machine.execCanEndpointAccess f s
  | .canWindowStart n => Sys2Proof.Machine.execCanWindowStart n s
  | .canSwitch p n => Sys2Proof.Machine.execCanSwitch p n s
  | .canSwitchCancel p n => Sys2Proof.Machine.execCanSwitchCancel p n s
  | .canBusError n err heavy exempt => Sys2Proof.Machine.execCanBusError n err heavy exempt s
  | .canRecover p n => Sys2Proof.Machine.execCanRecover p n s
  | .canRecovered n => Sys2Proof.Machine.execCanRecovered n s
  | .canSleep p n => Sys2Proof.Machine.execCanSleep p n s
  | .canSleepEnter n => Sys2Proof.Machine.execCanSleepEnter n s
  | .canWakeCondition n width f sofNs sofSec => Sys2Proof.Machine.execCanWakeCondition n width f sofNs sofSec s
  | .canWake p n => Sys2Proof.Machine.execCanWake p n s
  | .usbAttach vbus => Sys2Proof.Machine.execUsbAttach vbus s
  | .usbBusReset pairs => Sys2Proof.Machine.execUsbBusReset pairs s
  | .getHubStatus => Sys2Proof.Machine.execGetHubStatus s
  | .getPortStatus k => Sys2Proof.Machine.execGetPortStatus k s
  | .setHubFeature feature => Sys2Proof.Machine.execSetHubFeature feature s
  | .clearHubFeature feature => Sys2Proof.Machine.execClearHubFeature feature s
  | .setPortFeature k feature ok => Sys2Proof.Machine.execSetPortFeature k feature ok s
  | .clearPortFeature k feature => Sys2Proof.Machine.execClearPortFeature k feature s
  | .portResetComplete k chirp low => Sys2Proof.Machine.execPortResetComplete k chirp low s
  | .clearTtBuffer k ep => Sys2Proof.Machine.execClearTtBuffer k ep s
  | .resetTt k => Sys2Proof.Machine.execResetTt k s
  | .getHubDescriptor => Sys2Proof.Machine.execGetHubDescriptor s
  | .getTtState k => Sys2Proof.Machine.execGetTtState k s
  | .stopTt k => Sys2Proof.Machine.execStopTt k s
  | .setConfiguration fn v => Sys2Proof.Machine.execSetConfiguration fn v s
  | .setInterface n alt => Sys2Proof.Machine.execSetInterface n alt s
  | .clearEndpointHalt ep => Sys2Proof.Machine.execClearEndpointHalt ep s
  | .usbOvercurrent k low width => Sys2Proof.Machine.execUsbOvercurrent k low width s
  | .usbSuspend => Sys2Proof.Machine.execUsbSuspend s
  | .usbLpmL1 rwake => Sys2Proof.Machine.execUsbLpmL1 rwake s
  | .usbWakeSource k => Sys2Proof.Machine.execUsbWakeSource k s
  | .usbHostResume => Sys2Proof.Machine.execUsbHostResume s
  | .usbResumeWindowClose => Sys2Proof.Machine.execUsbResumeWindowClose s
  | .vendorRead off => Sys2Proof.Machine.execVendorRead off s
  | .vendorWrite off v => Sys2Proof.Machine.execVendorWrite off v s
  | .statusStageAck => Sys2Proof.Machine.execStatusStageAck s
  | .usbOpen tag nonce => Sys2Proof.Machine.execUsbOpen tag nonce s
  | .usbClose tag counter mac => Sys2Proof.Machine.execUsbClose tag counter mac s
  | .usbRead words tag counter arg mac => Sys2Proof.Machine.execUsbRead words tag counter arg mac s
  | .usbWrite tag counter arg data mac => Sys2Proof.Machine.execUsbWrite tag counter arg data mac s
  | .usbSend tag counter ch data mac => Sys2Proof.Machine.execUsbSend tag counter ch data mac s
  | .usbRecv tag counter mac => Sys2Proof.Machine.execUsbRecv tag counter mac s
  | .authLockoutEnd => Sys2Proof.Machine.execAuthLockoutEnd s
  | .responseAck => Sys2Proof.Machine.execResponseAck s
  | .usbChannelRx f => Sys2Proof.Machine.execUsbChannelRx f s
  | .usbReportSend => Sys2Proof.Machine.execUsbReportSend s
  | .usbReportAck => Sys2Proof.Machine.execUsbReportAck s
  | .usbSof frame micro => Sys2Proof.Machine.execUsbSof frame micro s
  | .usbfnDoorbell p v => Sys2Proof.Machine.execUsbfnDoorbell p v s
  | .keyDerived => Sys2Proof.Machine.execKeyDerived s
  | .assocEnable p v => Sys2Proof.Machine.execAssocEnable p v s
  | .roll p => Sys2Proof.Machine.execRoll p s
  | .recSave p wrap => Sys2Proof.Machine.execRecSave p wrap s
  | .recRestore p wrap => Sys2Proof.Machine.execRecRestore p wrap s
  | .recordOpDone => Sys2Proof.Machine.execRecordOpDone s
  | .aEpochWrite p v => Sys2Proof.Machine.execAEpochWrite p v s
  | .epochGraceEnd entry twinBit => Sys2Proof.Machine.execEpochGraceEnd entry twinBit s
  | .keyAlarm cause => Sys2Proof.Machine.execKeyAlarm cause s
  | .zeroize p v => Sys2Proof.Machine.execZeroize p v s
  | .tagWindowEnd => Sys2Proof.Machine.execTagWindowEnd s
  | .killDone => Sys2Proof.Machine.execKillDone s
  | .keyFlush p => Sys2Proof.Machine.execKeyFlush p s
  | .breakerEn p n en => Sys2Proof.Machine.execBreakerEn p n en s
  | .breakerQualified n vin cable => Sys2Proof.Machine.execBreakerQualified n vin cable s
  | .breakerOffTimeEnd n => Sys2Proof.Machine.execBreakerOffTimeEnd n s
  | .breakerRampStep n cur vin vout => Sys2Proof.Machine.execBreakerRampStep n cur vin vout s
  | .breakerRampTimeout n => Sys2Proof.Machine.execBreakerRampTimeout n s
  | .breakerInstantTrip n cur => Sys2Proof.Machine.execBreakerInstantTrip n cur s
  | .breakerCurveTrip n cur dt => Sys2Proof.Machine.execBreakerCurveTrip n cur dt s
  | .breakerWindowOpen n vin => Sys2Proof.Machine.execBreakerWindowOpen n vin s
  | .breakerReverseOpen n cur => Sys2Proof.Machine.execBreakerReverseOpen n cur s
  | .inletReclose n vcable vbus => Sys2Proof.Machine.execInletReclose n vcable vbus s
  | .slotRemoved k => Sys2Proof.Machine.execSlotRemoved k s
  | .slotInserted k => Sys2Proof.Machine.execSlotInserted k s
  | .curveCommit p mask => Sys2Proof.Machine.execCurveCommit p mask s
  | .busLow vbus => Sys2Proof.Machine.execBusLow vbus s
  | .busLoss vbus => Sys2Proof.Machine.execBusLoss vbus s
  | .busOk vbus => Sys2Proof.Machine.execBusOk vbus s
  | .budgetEvaluation m => Sys2Proof.Machine.execBudgetEvaluation m s
  | .tempSample t0 t1 => Sys2Proof.Machine.execTempSample t0 t1 s
  | .trafficToleranceMiss d c wait => Sys2Proof.Machine.execTrafficToleranceMiss d c wait s
  | .modeReqSentinel p => Sys2Proof.Machine.execModeReqSentinel p s
  | .modeReqListen p => Sys2Proof.Machine.execModeReqListen p s
  | .modeReqRun p => Sys2Proof.Machine.execModeReqRun p s
  | .modeReqInvalid p v => Sys2Proof.Machine.execModeReqInvalid p v s
  | .engineLoadDone => Sys2Proof.Machine.execEngineLoadDone s
  | .powerUpReset index => Sys2Proof.Machine.execPowerUpReset index s
  | .warmReset p key => Sys2Proof.Machine.execWarmReset p key s
  | .trst => Sys2Proof.Machine.execTrst s
  | .vdemLoss => Sys2Proof.Machine.execVdemLoss s
  | .otpLoad => Sys2Proof.Machine.execOtpLoad s
  | .rootKeyLoad => Sys2Proof.Machine.execRootKeyLoad s
  | .sentinelExit => Sys2Proof.Machine.execSentinelExit s
  | .domainSwitchOn => Sys2Proof.Machine.execDomainSwitchOn s
  | .copySectorDone => Sys2Proof.Machine.execCopySectorDone s
  | .imageVerifyDone => Sys2Proof.Machine.execImageVerifyDone s
  | .settingsRestore => Sys2Proof.Machine.execSettingsRestore s
  | .autoRun => Sys2Proof.Machine.execAutoRun s
  | .settingsSave p => Sys2Proof.Machine.execSettingsSave p s
  | .settingsSaveDone => Sys2Proof.Machine.execSettingsSaveDone s
  | .flashRead p len => Sys2Proof.Machine.execFlashRead p len s
  | .flashProgram p len => Sys2Proof.Machine.execFlashProgram p len s
  | .flashErase p => Sys2Proof.Machine.execFlashErase p s
  | .flashCmdDone res => Sys2Proof.Machine.execFlashCmdDone res s
  | .programGeneration p => Sys2Proof.Machine.execProgramGeneration p s
  | .retire p g => Sys2Proof.Machine.execRetire p g s
  | .programKey p => Sys2Proof.Machine.execProgramKey p s
  | .setKillEn p => Sys2Proof.Machine.execSetKillEn p s
  | .otpProgDone ok => Sys2Proof.Machine.execOtpProgDone ok s
  | .faultDetected pg ck detail corr => Sys2Proof.Machine.execFaultDetected pg ck detail corr s
  | .faultRecorded => Sys2Proof.Machine.execFaultRecorded s
  | .selfFault ck => Sys2Proof.Machine.execSelfFault ck s
  | .faultClear p gone => Sys2Proof.Machine.execFaultClear p gone s
  | .recPop p => Sys2Proof.Machine.execRecPop p s
  | .fltRelease p => Sys2Proof.Machine.execFltRelease p s
  | .fltNMinEnd => Sys2Proof.Machine.execFltNMinEnd s
  | .aliveToggle => Sys2Proof.Machine.execAliveToggle s
  | .aliveRestart => Sys2Proof.Machine.execAliveRestart s
  | .cupSample m v => Sys2Proof.Machine.execCupSample m v s
  | .monitorConfigWrite p m off v => Sys2Proof.Machine.execMonitorConfigWrite p m off v s
  | .cupSnapshot p m clear => Sys2Proof.Machine.execCupSnapshot p m clear s
  | .cupSnapshotDone => Sys2Proof.Machine.execCupSnapshotDone s
  | .cupSnapshotAbort p => Sys2Proof.Machine.execCupSnapshotAbort p s
  | .relayBlockRx f => Sys2Proof.Machine.execRelayBlockRx f s
  | .relayBlockWritten ok => Sys2Proof.Machine.execRelayBlockWritten ok s
  | .relayAckRx f => Sys2Proof.Machine.execRelayAckRx f s
  | .relayReportRx f => Sys2Proof.Machine.execRelayReportRx f s
  | .relayResendTimeout index => Sys2Proof.Machine.execRelayResendTimeout index s
  | .relaySenderSilent => Sys2Proof.Machine.execRelaySenderSilent s
  | .verify p => Sys2Proof.Machine.execVerify p s
  | .localVerifyDone => Sys2Proof.Machine.execLocalVerifyDone s
  | .relayGo p => Sys2Proof.Machine.execRelayGo p s
  | .updateAbort p => Sys2Proof.Machine.execUpdateAbort p s
  | .restart p => Sys2Proof.Machine.execRestart p s
  | .swapGo p => Sys2Proof.Machine.execSwapGo p s
  | .swapStageDone => Sys2Proof.Machine.execSwapStageDone s
  | .twinHandover p equal => Sys2Proof.Machine.execTwinHandover p equal s
  | .repPop p => Sys2Proof.Machine.execRepPop p s
  | .bitSlot e c => Sys2Proof.Machine.execBitSlot e c s
  | .joinBlockRx dir => Sys2Proof.Machine.execJoinBlockRx dir s
  | .joinLaneReady dir => Sys2Proof.Machine.execJoinLaneReady dir s
  | .d3hotExit => Sys2Proof.Machine.execD3hotExit s
  | .portConnectChange k conn low => Sys2Proof.Machine.execPortConnectChange k conn low s
  | .setAddress fn a => Sys2Proof.Machine.execSetAddress fn a s
  | .setFeature fn set feature ep => Sys2Proof.Machine.execSetFeature fn set feature ep s
  | .canIntegrationDone n => Sys2Proof.Machine.execCanIntegrationDone n s
  | .bankSupplyReturn b => Sys2Proof.Machine.execBankSupplyReturn b s

end Sys2Proof.Machine
end

