-- ==== Sys2Proof/Machine/Tick.lean ====
section
/-! DEFINITION. What time does by itself between commands: one core cycle, or one period of the 32.768 kHz clock in
SENTINEL (R141, R192, R193, R446; log 3). -/

namespace Sys2Proof.Machine

/-- The reference edges, one each 6.4 ns, up to a monotonic time in 1/64 ns. -/
def refEdges (t : Nat) : Nat := t * 5 / 2048

/-- What one reference edge adds to the counter in 2^-48 ns: 6.4 ns times 1 + RATE and the servo's phase term, both in
2^-40 (R192, R207). -/
def State.edgeStep (s : State) : Nat :=
  let phase : Int := if s.mono < s.time.phaseEnd then s.time.phase else 0
  ((2 ^ 40 + toSigned 32 (s.rd TIME.RATE) + phase) * (32 * 2 ^ 8) / 5).toNat

/-- A core cycle of 1 ns outside SENTINEL: the counter at the reference edges, the arbiters' shift registers, PD4 and PD5 off
1 µs after the boundary that left RUN, STANDBY or SAFE, and what the bridge has to do by itself (R141, R192, R307, R314,
R446). -/
def State.coreCycle (s : State) : State :=
  let n := refEdges (s.mono + 64) - refEdges s.mono
  let s1 := { s with
    mono := s.mono + 64
    cycle := s.cycle + 1
    fab := (s.fab + n * s.edgeStep) % fabSpan
    lfsr := if s.pdOn 3 then s.lfsr.map lfsrNext else s.lfsr }
  (if s1.due tDomOff then ((s1.stop tDomOff).domainOff 4).domainOff 5 else s1).bridgeTurn

/-- A period of the 32.768 kHz clock in SENTINEL: the counter advances by 30,517.578125 ns (R193). -/
def State.slowCycle (s : State) : State :=
  { s with mono := s.mono + 1953125, cycle := s.cycle + 1, fab := (s.fab + 1953125 * 2 ^ 42) % fabSpan }

/-- What an idle step does: time passes. In BYPASS nothing but the model's own clocks moves. -/
def State.tick (s : State) : State :=
  match s.mode with
  | 0 => { s with mono := s.mono + 64, cycle := s.cycle + 1 }
  | 1 => s.slowCycle
  | _ => s.coreCycle

end Sys2Proof.Machine
end

