-- ==== Sys2Proof/Safety.lean ====
section
/-! DEFINITION. The terms the statements are written in: permitted accesses, what a command leaves unchanged, the
canonical form of the memories. -/

namespace Sys2Proof.Safety

open Sys2Proof.Machine

/-- A write of `v` to the word at `off` of a page by port `p` reaches the hub, which has credit for it, and is no case of
R41. -/
def Permitted (s : State) (p : Port) (pg off v : Nat) : Prop :=
  s.arrives p = true ∧ s.hostWaits p true = false ∧ s.judgePage p true pg off v = none

/-- A read of the word at `off` of a page by port `p` reaches the hub, which has credit for it, and is no case of R41. -/
def Readable (s : State) (p : Port) (pg off : Nat) : Prop :=
  s.arrives p = true ∧ s.hostWaits p false = false ∧ s.judgePage p false pg off 0 = none

/-- The answer of a write that R41 permits. -/
def done (p : Port) : Emit := .answer p.code true 0 0

/-- Every register field copy but those of the listed keys is as before. -/
def RegsBut (s t : State) (ks : List Nat) : Prop := ∀ k, k ∉ ks → Tbl.find t.regs k = Tbl.find s.regs k

/-- Every timer but the listed ones runs as before. -/
def TimersBut (s t : State) (ts : List Nat) : Prop := ∀ k, k ∉ ts → Tbl.find t.timers k = Tbl.find s.timers k

/-- The key of a field of a block with one page. -/
def key (f : Fld) (i : Nat := 0) : Nat := f.key 0 i

/-- The key of INT_STAT of a page. -/
def intStat (pg : Nat) : Nat := HDR.INT_STAT_EVENTS.key pg 0

/-- Bit `b` of INT_STAT of a page is 1. -/
def event (s : State) (pg b : Nat) : Bool := bitOf (s.rdn pg HDR.INT_STAT_EVENTS) b

/-- A saturating counter has counted one more (R8). -/
def Counted (s t : State) (n : Nat) (f : Fld) (i : Nat := 0) : Prop :=
  t.rdn n f i = min (s.rdn n f i + 1) (2 ^ f.w - 1)

/-- A TC7 frame has left, or waits in rank 2, on an output that is up and that this hub drives (R103, R159). -/
def Passed (s t : State) (d : Side) (m : Maint) : Prop :=
  s.forwards d = true → s.linkState (.ring d) = 8 → Emit.maint d.code m ∈ t.sent ∨ m ∈ (t.txOf d).maint

/-- Nothing is left over from the command before: no report of a checker and no evaluation that has been asked for. -/
def Settled (s : State) : Prop := s.flt.todo = [] ∧ s.bud.wake = false

/-- No event of the present sample has turned channel `n` off (R417). -/
def FirstOff (s : State) (n : Nat) : Prop := ∀ o, (s.brkCh n).off = some o → o.sample ≠ s.sampleNo

/-- Frames of the class to the destination go out unsecured: no association takes them and TX_REQ does not ask for one
(R381, R390). -/
def Plain (s : State) (tc dest : Nat) : Prop := s.txEntry tc dest = none ∧ bitOf (s.rd GCM.CFG_TX_REQ) tc = false

/-- A frame of one cell that input `inp` offers queue `inp`, `p`, `c` is admitted: within the queue's minimum, or from
the pool, which with the class has room for a copy in each direction (R132, R135). -/
def RoomAt (s : State) (inp p c : Nat) : Prop :=
  s.refusedEarly (voqIdx inp p c) = none ∧
  ((s.voq (voqIdx inp p c)).minUsed < s.rd BUFFER.VOQ_MIN_MIN (voqIdx inp p c) ∨
    (s.rd BUFFER.CLASS_USED_CELLS c + 2 ≤ s.rd BUFFER.CEIL_CELLS c ∧ s.rd BUFFER.POOL_STAT_SHARED_USED + 2 ≤ s.pool))

/-- The same at every ring output this node sends on (R108, R160). -/
def Room (s : State) (inp c : Nat) : Prop := ∀ p ∈ s.ringOuts, RoomAt s inp p c

/-- An accepted copy of a frame with property `P` has joined the end of the queue. -/
def QueuedAt (s t : State) (inp p c : Nat) (P : Frame → Prop) : Prop :=
  ∃ x, (t.voq (voqIdx inp p c)).q = (s.voq (voqIdx inp p c)).q ++ [x] ∧ x.accepted = true ∧ P x.frame

/-- A copy has joined its queue of every ring output this node sends on. -/
def Queued (s t : State) (inp c : Nat) (P : Frame → Prop) : Prop := ∀ p ∈ s.ringOuts, QueuedAt s t inp p c P

/-- What a frame carries as a time message (R197). -/
def Carries (f : Frame) (P : Ptp → Prop) : Prop := ∃ m, parsePtp (bnat f.payload) = some m ∧ P m

/-! ### Visits of a context -/

/-- Engine `e` dispatches context `c` next, and the word at its program counter, `y`, is due: nothing is latched, no
stop asked for and no injection pending (R231, R256). -/
def Fetches (s : State) (e c : Nat) (y : Yemal) : Prop :=
  s.pick e = some c ∧ (s.ctx e c).latch = none ∧ (s.ctx e c).stopReq = false ∧ (s.ctx e c).inj = none ∧
  Yemal.decode (s.pinCount e c) (s.progWord e (s.bank e) (s.ctx e c).pc) = some y ∧ s.flt.todo = []

/-- Engine `e` dispatches context `c` next, and its latched instruction `y` is due. -/
def Revisits (s : State) (e c : Nat) (l : Latch) (y : Yemal) : Prop :=
  s.pick e = some c ∧ (s.ctx e c).latch = some l ∧ (s.ctx e c).stopReq = false ∧
  Yemal.decode (s.pinCount e c) l.word = some y ∧ s.flt.todo = []

/-- The word after the program counter. -/
def next (x : Ctx) : Nat := (x.pc + 1) % 2048

/-- The dispatch has taken its issue cycle (R224): the context is not dispatched again before four cycles later, the
engine's other contexts and all other engines are as before. -/
def Slot (s t : State) (e c : Nat) : Prop :=
  (t.ctx e c).nextIssue = s.dispatchCycle e + 4 ∧ (t.eng e).lastIssue = s.dispatchCycle e ∧
  (∀ k, k ≠ 32 * e + c → Tbl.find t.ctxs k = Tbl.find s.ctxs k) ∧ (∀ n, n ≠ e → Tbl.find t.engs n = Tbl.find s.engs n)

/-- The registers any first visit changes: the engine's flags, the context it dispatched last, its count. -/
def slotKeys (e : Nat) : List Nat :=
  [ENG.FLAGS_FLAG.key e 0, ENG.ENG_STAT_LAST_CTX.key e 0, ENG.DISP_COUNT.key e 0]

/-- A first visit has left the context as `x`, its next issue cycle apart, and has changed nothing else than a dispatch
itself does. -/
def Issued (s t : State) (e c : Nat) (x : Ctx) : Prop :=
  Slot s t e c ∧ t.ctx e c = { x with nextIssue := s.dispatchCycle e + 4 } ∧
  t.rdn e ENG.DISP_COUNT = (s.rdn e ENG.DISP_COUNT + 1) % 2 ^ ENG.DISP_COUNT.w ∧ RegsBut s t (slotKeys e) ∧
  t = { s with regs := t.regs, engs := t.engs, ctxs := t.ctxs }

/-- The destination register of an ALU instruction as a number. -/
def aluDst (x : Ctx) (y : Bool) : Nat := (if y then x.y else x.x).toNat

/-- Its source: VALUE, or the other register (R259). -/
def aluSrc (x : Ctx) (y imm : Bool) (value : Nat) : Nat := if imm then value else (if y then x.x else x.y).toNat

/-- The context after an ALU instruction with result `r` and carry `cy` that writes its destination if `wr` (R267). -/
def aluCtx (x : Ctx) (y wr : Bool) (r : Nat) (cy : Bool) : Ctx :=
  { (if wr then x.setXY y (BitVec.ofNat 32 r) else x) with z := decide (r = 0), c := cy, pc := next x }

/-- Nothing stands in the way of a boundary's plain steps: no twin, no change of mode or image waiting, no report left,
and no context of class C0 about to overrun. -/
def Quiet (s : State) : Prop :=
  s.isTwin = false ∧ s.twin.release = none ∧ s.modeU.want = none ∧ s.upd.swap = none ∧ s.flt.todo = [] ∧
  ∀ e c, (s.ctx e c).run = true → (s.ctx e c).eoc = false → (s.ctx e c).deadline ≠ 0 → s.ctxClass e c ≠ 0

/-- Every context but one is as before. -/
def CtxsBut (s t : State) (e c : Nat) : Prop := ∀ k, k ≠ 32 * e + c → Tbl.find t.ctxs k = Tbl.find s.ctxs k

/-- The bridge has nothing in hand: no request, no held read, no stored line, nothing waiting, no loss to settle. -/
def BridgeIdle (s : State) : Prop :=
  s.bridge.reqs = [] ∧ s.bridge.reads = [] ∧ s.bridge.lines = [] ∧ s.bridge.intake = [] ∧ s.buf.lost = []

/-- A frame carries this access (R301). -/
def Asks (f : Frame) (P : Access → Prop) : Prop := ∃ a, parseAccess f = some a ∧ P a

/-- A fault as its checker reports it now. -/
def detOf (s : State) (pg ck detail : Nat) (corr : Bool) : Det :=
  { page := pg, checker := ck, detail := detail % 2 ^ 32, corr := corr, inj := bitOf (s.rdn pg HDR.FLT_INJ_INJECT) ck, mono := s.mono }

/-- The record that a fault which does not escalate gets now, with its number (R477, R487). -/
def recOf (s : State) (d : Det) (prot : Bool) : FaultRec :=
  { cls := d.cls, inj := d.inj, prot := prot, esc := false, row := 0, page := d.page, checker := d.checker,
    seq := s.flt.seq, detail := d.detail, fab := s.fab }

/-- The memories are in their canonical form: rising addresses, no entry equal to what an unlisted address reads as. -/
def memWf (s : State) : Bool :=
  Tbl.wf 0 s.prog && Tbl.wf (0xFF : Byte) s.flash.mem && Tbl.wf (0 : Byte) s.bufMem

/-- A port code of an access to a page: the misuse counter, and nothing but it and DENY_LAST, changes (R42). -/
def denyKeys (p : Port) : List Nat :=
  [key DEVICE.DENY_CNT_COUNT p.code, key DEVICE.DENY_LAST_VALID, key DEVICE.DENY_LAST_CAUSE, key DEVICE.DENY_LAST_WRITE,
   key DEVICE.DENY_LAST_PORT, key DEVICE.DENY_LAST_WORD]

end Sys2Proof.Safety
end

