-- ==== Sys2Proof/Certificates/Slice0/Obligations.lean ====
section
/-! DEFINITION. The statements about the WH2416 hub, for the provers. A statement of a command says that it answers a
next state for every state and operands that meet its hypotheses, what that state holds, and what it leaves as it was:
`t = the record of s with some parts of t` says that every other part of the state is unchanged, `RegsBut` and
`TimersBut` that every register field copy and every timer but the listed ones is. -/

section

open Sys2Proof Sys2Proof.Machine Sys2Proof.Safety

/-- A step takes the command at the front of the queue and executes it with the rest of the queue (log 1). -/
def Obligations.StepExecutesTheFrontCommand : Prop :=
  ∀ (c : Instr) (rest : List Instr) (s : State),
    step { s with pending := c :: rest } = exec c { s with pending := rest }

/-- On an empty queue a step lets one period of the clock of the mode pass; the choice of the period is log 3. -/
def Obligations.IdleStepLetsTimePass : Prop :=
  (∀ s : State, s.pending = [] → s.mode = 0 → step s = .next { s with mono := s.mono + 64, cycle := s.cycle + 1 }) ∧
  (∀ s : State, s.pending = [] → s.mode = 1 →
    step s = .next { s with mono := s.mono + 1953125, cycle := s.cycle + 1, fab := (s.fab + 1953125 * 2 ^ 42) % fabSpan }) ∧
  (∀ s : State, s.pending = [] → 2 ≤ s.mode → s.running tDomOff = false → s.buf.lost = [] → s.bridge.intake = [] →
    step s = .next { s with
      mono := s.mono + 64
      cycle := s.cycle + 1
      fab := (s.fab + (refEdges (s.mono + 64) - refEdges s.mono) * s.edgeStep) % fabSpan
      lfsr := if s.pdOn 3 then s.lfsr.map lfsrNext else s.lfsr })

/-- The state after reset, where the spec gives its values. -/
def Obligations.ResetLeavesSentinelWithShippedMasks : Prop :=
  State.reset.mode = 1 ∧ State.reset.rd DEVICE.START_STAT_STEP = 0 ∧ State.reset.pd = [0] ∧ State.reset.pending = [] ∧
  (∀ pg, State.reset.locked pg = false ∧ State.reset.fenced pg = false ∧ State.reset.pageUnit.inReset.contains pg = false) ∧
  (∀ pg p, pg = 0x19 ∨ pg = 0x5A →
    State.reset.mayRead p pg = (p = .host || p = .debug) ∧ State.reset.mayWrite p pg = (p = .host : Bool)) ∧
  (∀ p, State.reset.mayRead p 0x49 = true ∧
    State.reset.mayWrite p 0x49 = (p = .host || p = .usbf || p = .debug)) ∧
  (∀ pg p, pg ≠ 0x19 → pg ≠ 0x5A → pg ≠ 0x49 →
    State.reset.mayRead p pg = true ∧
    State.reset.mayWrite p pg = (p = .host || p = .ringE || p = .ringW || p = .debug)) ∧
  (∀ src, State.reset.asserted src = false) ∧ memWf State.reset = true

/-- The order of R41: an access is judged under the first case that applies, and a denied access changes only DENY_CNT of its port and DENY_LAST. -/
def Obligations.MisuseIsJudgedInTheOrderOfTheTable : Prop :=
  (∀ (s : State) (p : Port) (a v : Nat), a < 2 ^ 24 → s.arrives p = true →
    s.judge p true a v false = some 0 ∧ (a % 4 ≠ 0 → s.judge p true a v true = some 0) ∧
    (a % 4 = 0 → a < 0x100000 →
      (blockType (a / 4096) = 0 → s.judge p true a v true = some 1) ∧
      (blockType (a / 4096) ≠ 0 → s.pageOn (a / 4096) = false → s.judge p true a v true = some 4) ∧
      (blockType (a / 4096) ≠ 0 → s.pageOn (a / 4096) = true →
        (a % 4096 = 0xC → s.isOwner p = false → s.judge p true a v true = some 3) ∧
        (a % 4096 ≠ 0xC → s.mayWrite p (a / 4096) = false → s.judge p true a v true = some 3) ∧
        (a % 4096 ≠ 0xC → s.mayWrite p (a / 4096) = true → 0x40 ≤ a % 4096 →
          s.pageUnit.inReset.contains (a / 4096) = true → s.judge p true a v true = some 4) ∧
        (a % 4096 = 0x24 → s.mayWrite p (a / 4096) = true → v ≠ 0x4C4F434B → s.judge p true a v true = some 5)))) ∧
  (∀ (s : State) (p : Port) (a v dw be c : Nat), a < 2 ^ 24 → s.arrives p = true → s.hostWaits p true = false →
    msixPair p a dw be = false → s.judge p true a (v % 2 ^ 32) (oneWord dw be) = some c →
    ∃ t, exec (.registerWrite p ⟨a, dw, be⟩ v) s = .next t ∧
      t.rd DEVICE.DENY_CNT_COUNT p.code = min (s.rd DEVICE.DENY_CNT_COUNT p.code + 1) 0xFFFFFFFF ∧
      t.rd DEVICE.DENY_LAST_VALID = 1 ∧ t.rd DEVICE.DENY_LAST_CAUSE = c ∧ t.rd DEVICE.DENY_LAST_WRITE = 1 ∧
      t.rd DEVICE.DENY_LAST_PORT = p.code ∧ t.rd DEVICE.DENY_LAST_WORD = a / 4 ∧
      t.sent = s.sent ++ [.answer p.code (c = 5) (if c = 5 then 0 else c) 0] ∧
      t.pcie = (if p = .host ∧ c ≠ 5 then { s.pcie with aer := setBit s.pcie.aer 15 } else s.pcie) ∧
      RegsBut s t (denyKeys p) ∧ t = { s.heard p with regs := t.regs, sent := t.sent, pcie := t.pcie })

/-- Permitted writes of LOCK, INT_SET, INT_STAT, INT_EN, FLT_INJ, BLK_ACCESS and DENY_CLR have their effect and no other -/
def Obligations.PageHeaderWritesComplete : Prop :=
  (∀ (s : State) (p : Port) (pg : Nat), Permitted s p pg 0x24 0x4C4F434B →
    ∃ t, exec (.lock p pg 0x4C4F434B) s = .next t ∧ t.locked pg = true ∧ RegsBut s t [HDR.LOCK_LOCKED.key pg 0] ∧
      t = { s.heard p with regs := t.regs, sent := s.sent ++ [done p] }) ∧
  (∀ (s : State) (p : Port) (pg v : Nat), Permitted s p pg 0x18 v →
    ∃ t, exec (.intSet p pg v) s = .next t ∧
      (∀ b, b < 32 → event t pg b = (event s pg b || bitOf (v &&& irqMask pg) b)) ∧ RegsBut s t [intStat pg] ∧
      t = { s.heard p with regs := t.regs, msix := t.msix, sent := t.sent }) ∧
  (∀ (s : State) (p : Port) (pg v : Nat), Permitted s p pg 0x10 v →
    ∃ t, exec (.intStatClear p pg v) s = .next t ∧
      (∀ b, b < 32 → event t pg b = (event s pg b && !(bitOf v b && !s.justNow pg b))) ∧ RegsBut s t [intStat pg] ∧
      t = { s.heard p with regs := t.regs, msix := t.msix, sent := t.sent }) ∧
  (∀ (s : State) (p : Port) (pg v : Nat), Permitted s p pg 0x14 v →
    ∃ t, exec (.intEnWrite p pg v) s = .next t ∧
      t.rdn pg HDR.INT_EN_ENABLES = (v &&& irqMask pg) % 2 ^ 32 ∧ RegsBut s t [HDR.INT_EN_ENABLES.key pg 0] ∧
      t = { s.heard p with regs := t.regs, msix := t.msix, sent := t.sent }) ∧
  (∀ (s : State) (p : Port) (pg v : Nat), Permitted s p pg 0x20 v → s.locked pg = false →
    ∃ t, exec (.fltInjWrite p pg v) s = .next t ∧
      t.rdn pg HDR.FLT_INJ_INJECT = (v &&& checkerMask pg) % 2 ^ 32 ∧ RegsBut s t [HDR.FLT_INJ_INJECT.key pg 0] ∧
      t = { s.heard p with regs := t.regs, sent := s.sent ++ [done p] }) ∧
  (∀ (s : State) (p : Port) (pg v : Nat), Permitted s p pg 0x0C v → s.locked pg = false →
    ∃ t, exec (.blkAccessWrite p pg v) s = .next t ∧
      t.rdn pg HDR.BLK_ACCESS_RD_MASK pg = bits v 0 6 ∧ t.rdn pg HDR.BLK_ACCESS_WR_MASK pg = bits v 8 6 ∧
      RegsBut s t [HDR.BLK_ACCESS_RD_MASK.key pg pg, HDR.BLK_ACCESS_WR_MASK.key pg pg] ∧
      t = { s.heard p with regs := t.regs, sent := s.sent ++ [done p] }) ∧
  (∀ (s : State) (p : Port) (v : Nat), Permitted s p 0 0x118 v →
    ∃ t, exec (.denyClr p v) s = .next t ∧
      (∀ q, q < 6 → t.rd DEVICE.DENY_CNT_COUNT q = if bitOf v q then 0 else s.rd DEVICE.DENY_CNT_COUNT q) ∧
      RegsBut s t ((List.range 6).map (fun q => key DEVICE.DENY_CNT_COUNT q)) ∧
      t = { s.heard p with regs := t.regs, sent := s.sent ++ [done p] })

/-- On a locked page FLT_INJ and BLK_ACCESS keep their values, and the page stays locked -/
def Obligations.LockedPageKeepsItsLockableRegisters : Prop :=
  (∀ (s : State) (p : Port) (pg v : Nat), s.locked pg = true → Permitted s p pg 0x20 v →
    exec (.fltInjWrite p pg v) s = .next ((s.heard p).emit (done p))) ∧
  (∀ (s : State) (p : Port) (pg v : Nat), s.locked pg = true → Permitted s p pg 0x0C v →
    exec (.blkAccessWrite p pg v) s = .next ((s.heard p).emit (done p))) ∧
  (∀ (s : State) (p : Port) (pg : Nat), s.locked pg = true → Permitted s p pg 0x24 0x4C4F434B →
    ∃ t, exec (.lock p pg 0x4C4F434B) s = .next t ∧ t.locked pg = true ∧ ∀ n f i, t.rdn n f i = s.rdn n f i)

/-- A write of INT_STAT or INT_EN that leaves a source asserted sends its message again or leaves it pending -/
def Obligations.AssertedSourceLeftByAWriteSendsItsMessage : Prop :=
  (∀ (s : State) (p : Port) (pg v src : Nat), Permitted s p pg 0x10 v → src ∈ sourcesOf pg →
    ∃ t l, exec (.intStatClear p pg v) s = .next t ∧ t.sent = s.sent ++ l ++ [done p] ∧
      (t.asserted src = true → s.msixOpen src = true →
        .msix src (s.msix.word (4 * src) + s.msix.word (4 * src + 1) * 2 ^ 32) (s.msix.word (4 * src + 2)) ∈ l ∧
        src ∉ t.msix.pba) ∧
      (t.asserted src = true → s.msixOpen src = false → src ∈ t.msix.pba) ∧
      (t.asserted src = false → src ∉ t.msix.pba)) ∧
  (∀ (s : State) (p : Port) (pg v src : Nat), Permitted s p pg 0x14 v → src ∈ sourcesOf pg →
    ∃ t l, exec (.intEnWrite p pg v) s = .next t ∧ t.sent = s.sent ++ l ++ [done p] ∧
      (t.asserted src = true → s.msixOpen src = true →
        .msix src (s.msix.word (4 * src) + s.msix.word (4 * src + 1) * 2 ^ 32) (s.msix.word (4 * src + 2)) ∈ l ∧
        src ∉ t.msix.pba) ∧
      (t.asserted src = true → s.msixOpen src = false → src ∈ t.msix.pba) ∧
      (t.asserted src = false → src ∉ t.msix.pba))

/-- A write of a plain word stores it; a read of a first word captures the words after it for its port -/
def Obligations.PlainWordWritesAndCapturedReadsComplete : Prop :=
  (∀ (s : State) (p : Port) (v : Nat), Permitted s p 0 0x128 (v % 2 ^ 32) → Settled s →
    ∃ t, exec (.registerWrite p ⟨0x128, 1, 15⟩ v) s = .next t ∧ t.rd DEVICE.INTN_EN_LO_ENABLE = v % 2 ^ 32 ∧
      RegsBut s t [key DEVICE.INTN_EN_LO_ENABLE] ∧ t = { s.heard p with regs := t.regs, sent := s.sent ++ [done p] }) ∧
  (∀ (s : State) (p : Port), Readable s p 4 0x40 → Tbl.find s.pageUnit.hold (holdKey p 0x4040) = none →
    ∃ t, exec (.loReadCapture p ⟨0x4040, 1, 15⟩) s = .next t ∧
      t.sent = s.sent ++ [.answer p.code true 0 (s.peek 0x4040)] ∧
      Tbl.find t.pageUnit.hold (holdKey p 0x4044) = some (s.peek 0x4044) ∧
      Tbl.find t.pageUnit.hold (holdKey p 0x4048) = some (s.peek 0x4048) ∧
      (∀ k, k ≠ holdKey p 0x4044 → k ≠ holdKey p 0x4048 → Tbl.find t.pageUnit.hold k = Tbl.find s.pageUnit.hold k) ∧
      t = { s.heard p with pageUnit := { s.pageUnit with hold := t.pageUnit.hold }, sent := t.sent }) ∧
  (∀ (s : State) (p : Port) (a v : Nat), a < 0x100000 → s.arrives p = true → s.hostWaits p false = false → s.judge p false a 0 true = none →
    s.rcOf a = none → Tbl.find s.pageUnit.hold (holdKey p a) = some v →
    ∃ t, exec (.loReadCapture p ⟨a, 1, 15⟩) s = .next t ∧ t.sent = s.sent ++ [.answer p.code true 0 v] ∧
      Tbl.find t.pageUnit.hold (holdKey p a) = none ∧
      (∀ k, k ≠ holdKey p a → Tbl.find t.pageUnit.hold k = Tbl.find s.pageUnit.hold k) ∧
      t = { s.heard p with pageUnit := { s.pageUnit with hold := t.pageUnit.hold }, sent := t.sent }) ∧
  (∀ (s : State) (p : Port) (a v dw be : Nat), 2 ^ 24 ≤ a →
    exec (.registerWrite p ⟨a, dw, be⟩ v) s = .fault .outsideAddressSpace ∧
    exec (.loReadCapture p ⟨a, dw, be⟩) s = .fault .outsideAddressSpace)

/-- A soft reset returns a page's registers but keeps what R29 names; FENCE_REQ and BLOCK_FENCED fence a block -/
def Obligations.SoftResetAndFenceOfABlockComplete : Prop :=
  (∀ (s : State) (p : Port) (pg : Nat), pg = 0x05 ∨ pg = 0x06 ∨ pg = 0x10 ∨ pg = 0x16 → Settled s → Tbl.rising s.regs = true →
    s.pageUnit.inReset.contains pg = false → s.rdn pg HDR.BLK_CTRL_ENABLE ≤ 1 → s.rdn pg HDR.BLK_CTRL_FENCE_REQ ≤ 1 →
    Permitted s p pg 4 (s.rdn pg HDR.BLK_CTRL_ENABLE + 2 + 4 * s.rdn pg HDR.BLK_CTRL_FENCE_REQ) →
    ∃ t, exec (.softReset p pg) s = .next t ∧ t.pageUnit.inReset.contains pg = true ∧
      (pg ≠ 0x10 → t.rdn pg HDR.INT_STAT_EVENTS = 0 ∧ t.rdn pg HDR.INT_EN_ENABLES = 0) ∧
      (∀ k, s.softDrops pg k = true → Tbl.find t.regs k = none) ∧
      (∀ k, s.softDrops pg k = false → k ≠ HDR.BLK_CTRL_ENABLE.key pg 0 → k ≠ HDR.BLK_CTRL_FENCE_REQ.key pg 0 →
        Tbl.find t.regs k = Tbl.find s.regs k)) ∧
  (∀ (s : State) (p : Port) (pg : Nat), ∃ t, exec (.softReset p pg) s = .next t) ∧
  (∀ (s : State) (pg : Nat), s.pageUnit.inReset.contains pg = true → pg ≠ 0x08 → pg ≠ 0x0A → pg ≠ 0x0C → pg ≠ 0x48 →
    ∃ t, exec (.softResetDone pg) s = .next t ∧ t.pageUnit.inReset.contains pg = false ∧
      t = { s with pageUnit := { s.pageUnit with inReset := t.pageUnit.inReset } }) ∧
  (∀ (s : State) (p : Port) (pg : Nat), pg ≠ 0x48 → pg ≠ 0x4C → pg ≠ 0x4D → Settled s →
    (s.enabled pg = true ∨ (pg ≠ 0x08 ∧ pg ≠ 0x0A ∧ pg ≠ 0x0C)) → s.rdn pg HDR.BLK_CTRL_ENABLE ≤ 1 →
    Permitted s p pg 4 (s.rdn pg HDR.BLK_CTRL_ENABLE + 4) →
    ∃ t, exec (.fenceReq p pg true) s = .next t ∧ t.fenceReq pg = true ∧
      RegsBut s t [HDR.BLK_CTRL_ENABLE.key pg 0, HDR.BLK_CTRL_FENCE_REQ.key pg 0] ∧ t.enabled pg = s.enabled pg ∧
      t = { s.heard p with regs := t.regs, sent := s.sent ++ [done p] }) ∧
  (∀ (s : State) (p : Port) (pg : Nat) (on : Bool), ∃ t, exec (.fenceReq p pg on) s = .next t) ∧
  (∀ (s : State) (on : Bool), s.setFenceReq 0x4C on = s) ∧
  (∀ (s : State) (pg : Nat), blockType pg ≠ 0 → s.pageOn pg = true → s.fenceReq pg = true → s.pageUnit.swFence.contains pg = false →
    Settled s → pg = 0x05 ∨ pg = 0x06 ∨ pg = 0x15 ∨ pg = 0x18 ∨ pg = 0x19 →
    ∃ t, exec (.blockFenced pg) s = .next t ∧ bitOf (t.blkStat pg) 1 = true ∧ bitOf (t.blkStat pg) 4 = true ∧
      t = { s with pageUnit := { s.pageUnit with swFence := t.pageUnit.swFence } }) ∧
  (∀ (s : State) (pg : Nat), ∃ t, exec (.blockFenced pg) s = .next t)

/-- The PCI Express link comes up, goes down, enters and leaves D3hot and resets as R45, R46, R48, R325 and R468 say -/
def Obligations.PcieFunctionCommandsComplete : Prop :=
  (∀ (s : State) (width speed : Nat), s.pdOn 6 = true → s.pcie.perst = false → s.pcie.up = false →
    ∃ t, exec (.pcieLinkUp width speed) s = .next t ∧ t.pcie = { s.pcie with up := true } ∧
      t.rd DEVICE.PCIE_STAT_DL_UP = 1 ∧ t.rd DEVICE.PCIE_STAT_WIDTH = width % 2 ^ DEVICE.PCIE_STAT_WIDTH.w ∧
      t.rd DEVICE.PCIE_STAT_SPEED = speed % 2 ^ DEVICE.PCIE_STAT_SPEED.w ∧ event t 0 8 = true) ∧
  (∀ s : State, s.pcie.up = true → ∃ t, exec .pcieLinkDown s = .next t ∧ t.pcie = { s.pcie with up := false } ∧
      t.rd SWITCH.PORT_STAT_STATE 3 = 1 ∧
      t.bridge.reads = [] ∧ t.bridge.lines = [] ∧ event t 0 9 = true ∧ t.phy = s.phy ∧ t.ctxs = s.ctxs ∧ t.pins = s.pins) ∧
  (∀ s : State, s.pdOn 6 = true → s.pcie.up = true → s.pcie.d3hot = false →
    ∃ t, exec .d3hotEntry s = .next t ∧ t.pcie = { s.pcie with d3hot := true } ∧ t.arrives .host = false ∧
      t.rd SWITCH.PORT_STAT_STATE 3 = 1 ∧ (∀ v, outOf v = 3 → clsOf v ≠ 4 → t.queueFenced v = true) ∧ t.phy = s.phy ∧ t.ctxs = s.ctxs ∧ t.pins = s.pins) ∧
  (∀ s : State, s.pcie.d3hot = true →
    ∃ t, exec .d3hotExit s = .next t ∧ t.pcie = { s.pcie with d3hot := false } ∧ t.phy = s.phy ∧ t.ctxs = s.ctxs ∧ t.pins = s.pins) ∧
  (∀ (s : State) (enable fmask : Bool), s.pdOn 6 = true → s.msix.pba = [] →
    exec (.msixUnmask none enable fmask) s = .next { s with msix := { s.msix with enable := enable, fmask := fmask } }) ∧
  (∀ (s : State) (v : Nat) (e m : Bool), s.pdOn 6 = true → v < 64 → s.msix.pba = [] →
    s.arrives .host = true → s.hostWaits .host true = false → ∃ t, exec (.msixUnmask (some v) e m) s = .next t ∧ t.msix.word (4 * v + 3) = 0 ∧
      t = { s with msix := { s.msix with words := t.msix.words } }) ∧
  (∀ s : State, s.pdOn 6 = true → ∃ t, exec .functionLevelReset s = .next t ∧ t.msix = { events := t.msix.events } ∧ t.bridge.reads = [] ∧
      t.bridge.lines = [] ∧ t.bridge.fence = none ∧ t.bridge.cq = [] ∧ t.pcie = { up := s.pcie.up, perst := s.pcie.perst } ∧
      t.phy = s.phy ∧ t.ctxs = s.ctxs ∧ t.pins = s.pins ∧ t.mode = s.mode) ∧
  (∀ s : State, s.pdOn 6 = true → s.pcie.perst = false →
    ∃ t, exec (.perst true) s = .next t ∧ t.pcie.perst = true ∧ t.pcie.up = false ∧ t.bridge.reads = [] ∧ event t 0 10 = true) ∧
  (∀ s : State, exec (.perst false) s = .next { s with pcie := { s.pcie with perst := false } })

/-- The table of register fields stays in rising order of its keys, and a field read back is what was stored -/
def Obligations.RegisterTableStaysInOrder : Prop :=
  Tbl.rising State.reset.regs = true ∧
  (∀ (s : State) (n : Nat) (f : Fld) (v i : Nat), Tbl.rising s.regs = true →
    Tbl.rising (s.wrn n f v i).regs = true ∧ (s.wrn n f v i).rdn n f i = v % 2 ^ f.w ∧
    (∀ m g j, Fld.key g m j ≠ f.key n i → (s.wrn n f v i).rdn m g j = s.rdn m g j) ∧
    s.wrn n f v i = { s with regs := (s.wrn n f v i).regs })

/-- Beacons, contests, TAKE, YIELD and changes of the reference source do what R56 to R64 say -/
def Obligations.SharedReferenceCommandsComplete : Prop :=
  (∀ s : State, s.acting = true → s.running tBeacon = false →
    ∃ t, exec .refBeaconSend s = .next t ∧
      Passed s t .east (.beacon s.nodeId (s.rd CLOCKS.REF_CFG_ROLE)) ∧ Passed s t .west (.beacon s.nodeId (s.rd CLOCKS.REF_CFG_ROLE)) ∧
      Tbl.find t.timers tBeacon = some (s.mono + ms 1) ∧ TimersBut s t [tBeacon] ∧
      t = { s with timers := t.timers, tx := t.tx, sent := t.sent }) ∧
  (∀ (s : State) (d : Side) (node role : Nat), node ≠ s.nodeId → s.acting = false →
    ∃ t, exec (.refBeaconRx d node role) s = .next t ∧ t.rd CLOCKS.REF_STAT_MASTER_ID = node % 2 ^ 12 ∧
      Passed s t d.opp (.beacon node role) ∧
      Tbl.find t.timers tBeaconTmo = some (s.mono + s.rd CLOCKS.REF_CFG_BEACON_TMO * ms 1) ∧
      RegsBut s t [key CLOCKS.REF_STAT_MASTER_ID] ∧ TimersBut s t [tBeaconTmo] ∧
      t = { s with regs := t.regs, timers := t.timers, ref := t.ref, tx := t.tx, sent := t.sent }) ∧
  (∀ (s : State) (role : Nat), s.acting = true →
    ∃ t, exec (.refBeaconRx .west s.nodeId role) s = .next t ∧ t.rd CLOCKS.REF_STAT_CLOSED = bit s.ref.edges.isSome ∧
      RegsBut s t [key CLOCKS.REF_STAT_CLOSED] ∧ t = { s with regs := t.regs }) ∧
  (∀ s : State, s.due tBeaconTmo = true → s.acting = false →
    s.rd CLOCKS.REF_CFG_ROLE = 2 ∨ (s.rd CLOCKS.REF_CFG_ROLE = 1 ∧ s.ref.stay = false) →
    ∃ t, exec .beaconTimeout s = .next t ∧ t.acting = true ∧ t.rd CLOCKS.REF_STAT_SOURCE = 3 ∧ t.rd CLOCKS.REF_STAT_LOCKED = 1 ∧
      (s.pageOn 0x0A = true → event t 0x0A 7 = true) ∧ t.running tBeaconTmo = false ∧
      t = { s with regs := t.regs, ref := t.ref, timers := t.timers, msix := t.msix, sent := t.sent }) ∧
  (∀ (s : State) (d : Side) (node role : Nat), s.acting = false →
    ∃ t, exec (.contestNotice d node role) s = .next t ∧ Passed s t d.opp (.contest node role) ∧
      t = { s with tx := t.tx, sent := t.sent }) ∧
  (∀ (s : State) (p : Port), Permitted s p 2 0x84 1 → s.rd CLOCKS.REF_CFG_ROLE ≠ 0 →
    ∃ t, exec (.refTake p) s = .next t ∧ t.acting = true ∧ done p ∈ t.sent ∧ (s.acting = false → t.rd CLOCKS.REF_STAT_SOURCE = 3) ∧
      t = { s.heard p with regs := t.regs, ref := t.ref, timers := t.timers, msix := t.msix, sent := t.sent }) ∧
  (∀ (s : State) (p : Port), Permitted s p 2 0x84 1 → s.rd CLOCKS.REF_CFG_ROLE = 0 → exec (.refTake p) s = .next ((s.heard p).emit (done p))) ∧
  (∀ (s : State) (p : Port), Permitted s p 2 0x84 2 → s.acting = true →
    ∃ t, exec (.refYield p) s = .next t ∧ t.acting = false ∧ t.rd CLOCKS.REF_STAT_SOURCE = 2 ∧ t.rd CLOCKS.REF_STAT_CLOSED = 0 ∧
      (s.pageOn 0x0A = true → event t 0x0A 5 = true ∧ event t 0x0A 7 = true) ∧ done p ∈ t.sent ∧
      t = { s.heard p with regs := t.regs, ref := t.ref, timers := t.timers, msix := t.msix, sent := t.sent }) ∧
  (∀ s : State, s.acting = false → s.rd CLOCKS.REF_STAT_SOURCE = 0 →
    ∃ t, exec .refwLoss s = .next t ∧ t.ref.edges = none ∧ t.rd CLOCKS.REF_STAT_CLOSED = 0 ∧ t.rd CLOCKS.REF_STAT_SOURCE = 2 ∧
      t.rd CLOCKS.REF_STAT_LOCKED = 0 ∧ t.refeDriven = false ∧
      (s.pageOn 0x0A = true → event t 0x0A 5 = true ∧ event t 0x0A 6 = true) ∧
      t = { s with regs := t.regs, ref := t.ref, msix := t.msix, sent := t.sent }) ∧
  (∀ (s : State), s.ref.edges = none → s.pdOn 2 = true →
    exec (.refSourceQualified .edges) s = .next { s with ref := { s.ref with edges := some s.mono } }) ∧
  (∀ (s : State) (src : Nat) (ssc : Option (Nat × Nat × Nat)), s.acting = false → src < s.rd CLOCKS.REF_STAT_SOURCE →
    s.sourceReady src = true →
    ∃ t, exec (.refSourceQualified (.qualified src ssc)) s = .next t ∧ t.rd CLOCKS.REF_STAT_SOURCE = src ∧
      t.rd CLOCKS.REF_STAT_LOCKED = 1 ∧ t.ref.carried = ssc.map (fun (x : Nat × Nat × Nat) => (x.1, x.2.1)) ∧
      (s.pageOn 0x0A = true → event t 0x0A 6 = true) ∧
      t = { s with regs := t.regs, ref := t.ref, msix := t.msix, sent := t.sent })

/-- A port goes through the eight steps of bring-up, each command taking the step that R73 gives it -/
def Obligations.LinkBringUpTakesTheStepsInOrder : Prop :=
  (∀ (s : State) (l : Link), s.linkAllowed l = true →
    ((s.linkState l = 0 ∨ (s.linkState l = 9 ∧ s.running (tPhy l) = false)) ∧ s.autoTrain l = true) ∨ s.linkState l = 1 →
    ∃ t, exec (.phyBringUpStart l) s = .next t ∧ t.linkState l = 2 ∧ t = { s with regs := t.regs, timers := t.timers }) ∧
  (∀ (s : State) (l : Link), s.linkState l = 2 →
    ∃ t, exec (.lanePllLocked l) s = .next t ∧ t.linkState l = 3 ∧ Tbl.find t.timers (tPhy l) = some (s.mono + ms 500) ∧
      TimersBut s t [tPhy l] ∧
      t.sent = (match l with
        | .ring d => s.sent ++ [.maint d.code (.training s.namedMaster.1 s.namedMaster.2)]
        | .twin => s.sent) ∧
      t = { s with regs := t.regs, timers := t.timers, sent := t.sent }) ∧
  (∀ (s : State) (d : Side) (ffe0 ffe1 : Nat), s.linkState (.ring d) = 3 → s.due (tPhy (.ring d)) = false →
    ∃ t, exec (.trainingComplete (.ring d) ffe0 ffe1 (s.flagn d.n PHY.PHY_CTRL_PRECODE_DIS) none) s = .next t ∧
      t.linkState (.ring d) = 4 ∧ t.running (tPhy (.ring d)) = false ∧
      t.rdn d.n PHY.TX_FFE_MAIN 0 = bits ffe0 8 8 ∧ t.rdn d.n PHY.TX_FFE_PRE 1 = bits ffe1 0 8 ∧
      t = { s with regs := t.regs, timers := t.timers }) ∧
  (∀ (s : State) (ffe0 ffe1 : Nat), s.linkState .twin = 3 → s.due (tPhy .twin) = false →
    ∃ t, exec (.trainingComplete .twin ffe0 ffe1 false none) s = .next t ∧ t.linkState .twin = 4 ∧
      t.running (tPhy .twin) = false ∧ t.rd TWINLINK.TX_FFE_MAIN = bits ffe0 8 8 ∧ t = { s with regs := t.regs, timers := t.timers }) ∧
  (∀ (s : State) (d : Side) (one : Bool), s.linkState (.ring d) = 3 → s.due (tPhy (.ring d)) = true →
    ∃ t, exec (.trainFail (.ring d) one) s = .next t ∧ t.linkState (.ring d) = 9 ∧
      t.rdn d.n PHY.PHY_STAT_DOWN_CAUSE = 8 ∧ event t (8 + d.n) 4 = true ∧
      Tbl.find t.timers (tPhy (.ring d)) = some (s.mono + s.holdoff (.ring d)) ∧
      t = { s with regs := t.regs, phy := t.phy, timers := t.timers, msix := t.msix, sent := t.sent }) ∧
  (∀ (s : State) (l : Link) (ctle0 ctle1 eye0 eye1 : Nat) (taps : List Nat), s.linkState l = 4 →
    ∃ t, exec (.eqAdapted l ctle0 ctle1 eye0 eye1 taps) s = .next t ∧ t.linkState l = 5 ∧
      (match l with
       | .ring d => t.rdn d.n PHY.EYE_HEIGHT 0 = bits eye0 0 16 ∧ t.rdn d.n PHY.EYE_HEIGHT 1 = bits eye1 0 16
       | .twin => t.rd TWINLINK.EYE_HEIGHT = bits eye0 0 16) ∧
      t = { s with regs := t.regs, msix := t.msix, sent := t.sent }) ∧
  (∀ (s : State) (l : Link) (good : Nat), s.linkState l = 5 → 4 ≤ good →
    ∃ t, exec (.codewordLock l good) s = .next t ∧ t.linkState l = (if l = .twin then 7 else 6) ∧
      t = { s with regs := t.regs, timers := t.timers }) ∧
  (∀ (s : State) (d : Side) (skew : Nat), s.linkState (.ring d) = 6 →
    ∃ t, exec (.deskewDone d false skew) s = .next t ∧ t.linkState (.ring d) = 7 ∧ (t.phyOf (.ring d)).skew = skew ∧
      Tbl.find t.timers (tQual (.ring d)) = some (s.mono + ms 1) ∧ exec (.deskewDone d true skew) s = .next s ∧
      t = { s with regs := t.regs, phy := t.phy, timers := t.timers }) ∧
  (∀ (s : State) (d : Side) (peer : Nat), s.linkState (.ring d) = 7 → s.due (tQual (.ring d)) = true → (s.phyOf (.ring d)).farReady = false →
    ∃ t, exec (.linkQualified (.ring d) peer) s = .next t ∧ (t.phyOf (.ring d)).qualified = true ∧
      t.sent = s.sent ++ [.maint d.code (.laneReady 0)] ∧ t.linkState (.ring d) = 7 ∧
      t = { s with regs := t.regs, phy := t.phy, timers := t.timers, sent := t.sent }) ∧
  (∀ s : State, s.linkState .twin = 7 → s.due (tQual .twin) = true → s.isTwin = true →
    ∃ t, exec (.linkQualified .twin s.otp.index) s = .next t ∧ t.linkState .twin = 9 ∧ t.rd TWINLINK.LINK_STAT_INDEX_CLASH = 1 ∧
      t.rd TWINLINK.LINK_STAT_DOWN_CAUSE = 9 ∧ event t 0x0C 3 = true) ∧
  (∀ (s : State) (l : Link), s.linkState l = 7 → (s.phyOf l).qualified = true → s.portFenced l.code = false →
    ∃ t, exec (.linkUp l) s = .next t ∧ t.linkState l = 8 ∧ event t (phyPage l) 0 = true ∧ (t.out l.code).down = false ∧
      Tbl.find t.timers (tUnc l) = some (s.mono + ms 1))

/-- A link goes down, counts its codewords, retrains and leaves hold-off as R72, R74, R75 and R82 say -/
def Obligations.LinkDownAndRetrainComplete : Prop :=
  (∀ (s : State) (d : Side) (cause skew : Nat), s.linkState (.ring d) = 8 → (s.out d.code).down = false →
    (cause = 4 → s.skewed (.ring d) skew = true) →
    ∃ t, exec (.linkDown (.ring d) ⟨cause, skew⟩) s = .next t ∧ t.linkState (.ring d) = 9 ∧
      t.rdn d.n PHY.PHY_STAT_DOWN_CAUSE = cause % 2 ^ PHY.PHY_STAT_DOWN_CAUSE.w ∧ event t (8 + d.n) 1 = true ∧
      Emit.maint d.code (.remoteFault cause) ∈ t.sent ∧ (t.out d.code).down = true ∧ t.outOpen d.code = false ∧
      Tbl.find t.timers (tPhy (.ring d)) = some (s.mono + s.holdoff (.ring d))) ∧
  (∀ (s : State) (cause skew : Nat), s.linkState .twin = 8 → cause ≠ 4 → ¬(cause = 5 ∧ s.role = 2) →
    ∃ t, exec (.linkDown .twin ⟨cause, skew⟩) s = .next t ∧ t.linkState .twin = 9 ∧
      t.rd TWINLINK.LINK_STAT_DOWN_CAUSE = cause % 2 ^ TWINLINK.LINK_STAT_DOWN_CAUSE.w ∧ event t 0x0C 1 = true) ∧
  (∀ (s : State) (skew : Nat), exec (.linkDown .twin ⟨4, skew⟩) s = .next s) ∧
  (∀ (s : State) (d : Side) (lane : Nat), s.linkState (.ring d) = 8 → lane < 2 →
    ((s.rollWindow (.ring d)).phyOf (.ring d)).winCnt < s.uncLimit (.ring d) →
    ∃ t, exec (.uncorrectableCodeword (.ring d) lane false) s = .next t ∧ t.linkState (.ring d) = 8 ∧
      t.rdn d.n PHY.UNC_COUNT lane = min (s.rdn d.n PHY.UNC_COUNT lane + 1) (2 ^ PHY.UNC_COUNT.w - 1) ∧
      event t (8 + d.n) 2 = true ∧ (t.phyOf (.ring d)).winCnt = ((s.rollWindow (.ring d)).phyOf (.ring d)).winCnt + 1 ∧
      t = { s with regs := t.regs, phy := t.phy, rx := t.rx, tx := t.tx, timers := t.timers, msix := t.msix, sent := t.sent }) ∧
  (∀ (s : State) (l : Link) (lane : Nat) (follows : Bool), s.linkState l = 7 →
    exec (.uncorrectableCodeword l lane follows) s = .next (s.start (tQual l) (ms 1))) ∧
  (∀ (s : State) (l : Link) (a : Nat), Tbl.find s.timers (tUnc l) = some a → a ≤ s.mono →
    ∃ t b, exec (.uncWindowEnd l) s = .next t ∧ (t.phyOf l).winCnt = 0 ∧ Tbl.find t.timers (tUnc l) = some b ∧
      s.mono < b ∧ b ≤ s.mono + ms 1 ∧ (b - a) % ms 1 = 0 ∧
      TimersBut s t [tUnc l] ∧ t = { s with phy := t.phy, timers := t.timers }) ∧
  (∀ (s : State) (d : Side) (lane height : Nat), lane < 2 → height < 2 ^ 16 → 5 ≤ s.linkState (.ring d) → s.linkState (.ring d) ≠ 9 →
    (lane = 1 → s.lane1On d = true) → s.rdn d.n PHY.EYE_MIN_HEIGHT ≤ s.rdn d.n PHY.EYE_HEIGHT lane →
    height < s.rdn d.n PHY.EYE_MIN_HEIGHT →
    ∃ t, exec (.eyeLow (.ring d) lane height) s = .next t ∧ t.rdn d.n PHY.EYE_HEIGHT lane = height ∧ event t (8 + d.n) 3 = true ∧
      RegsBut s t [PHY.EYE_WIDTH.key d.n lane, PHY.EYE_HEIGHT.key d.n lane, intStat (8 + d.n)] ∧
      t = { s with regs := t.regs, msix := t.msix, sent := t.sent }) ∧
  (∀ (s : State) (lane height : Nat), 5 ≤ s.linkState .twin → s.linkState .twin ≠ 9 →
    ∃ t, exec (.eyeLow .twin lane height) s = .next t ∧ t.rd TWINLINK.EYE_HEIGHT = height % 2 ^ 16 ∧
      t = { s with regs := t.regs }) ∧
  (∀ (s : State) (p : Port) (l : Link) (v : Nat), Permitted s p (phyPage l) 0x40 v → s.linkAllowed l = true →
      s.linkState l = 8 →
    ∃ t, exec (.retrain p l) s = .next t ∧ t.linkState l = 9 ∧ done p ∈ t.sent ∧
      (match l with
       | .ring d => t.rdn d.n PHY.PHY_STAT_DOWN_CAUSE = 7
       | .twin => t.rd TWINLINK.LINK_STAT_DOWN_CAUSE = 7)) ∧
  (∀ (s : State) (l : Link), s.linkState l = 9 → s.due (tPhy l) = true → s.linkAllowed l = true → s.autoTrain l = true →
    ∃ t, exec (.holdoffExpiry l) s = .next t ∧ t.linkState l = 1 ∧ t.running (tPhy l) = false ∧
      t = { s with regs := t.regs, timers := t.timers })

/-- Ballots, sheds and joins change the lanes of a direction as R76 to R80 say -/
def Obligations.LaneShedAndJoinComplete : Prop :=
  (∀ s : State, s.acting = true → s.running tBallot = false →
    ∃ t, exec .laneBallotSend s = .next t ∧
      Passed s t .east (.ballot 0 (s.shedWish .east) (s.lane .east).need s.portsUp (s.lane .east).ready) ∧
      Passed s t .west (.ballot 1 (s.shedWish .west) (s.lane .west).need s.portsUp (s.lane .west).ready) ∧
      Tbl.find t.timers tBallot = some (s.mono + ms 1) ∧ RegsBut s t [MAC.LANE_STAT_WISH.key 0 0, MAC.LANE_STAT_WISH.key 2 0] ∧
      t = { s with regs := t.regs, lanes := t.lanes, tx := t.tx, timers := t.timers, sent := t.sent }) ∧
  (∀ (s : State) (d : Side) (shed join allUp ready : Bool),
    ∃ t, exec (.laneBallotRx d shed join allUp ready none) s = .next t ∧
      Passed s t d (.ballot d.code (shed && s.shedWish d) (join || (s.lane d).need) (allUp && s.portsUp)
        (ready && (s.lane d).ready)) ∧
      (t.lane d).asked = ((s.lane d).asked || join || (s.lane d).need) ∧
      RegsBut s t [MAC.LANE_STAT_WISH.key d.n 0] ∧
      t = { s with regs := t.regs, lanes := t.lanes, tx := t.tx, sent := t.sent }) ∧
  (∀ (s : State) (d : Side) (ready : Bool), s.acting = true → (s.lane d).sched = none → s.laneMode (.ring d) = 2 →
    ∃ t, exec (.laneBallotReturn d true false true ready) s = .next t ∧ (t.lane d).sched = some (false, s.fab + fns 200000) ∧
      Passed s t d (.announce d.code false (s.fab + fns 200000)) ∧
      t.rdn d.n MAC.LANE_STAT_PHASE = 2 ∧ RegsBut s t [MAC.LANE_STAT_PHASE.key d.n 0] ∧
      t = { s with regs := t.regs, lanes := t.lanes, tx := t.tx, sent := t.sent }) ∧
  (∀ (s : State) (d : Side) (shed : Bool), s.acting = true → (s.lane d).sched = none → s.laneMode (.ring d) = 1 →
    ∃ t, exec (.laneBallotReturn d shed true true true) s = .next t ∧ (t.lane d).sched = some (true, s.fab + fns 200000)) ∧
  (∀ (s : State) (d : Side) (at_ : Nat), (s.lane d).sched = some (false, at_) → at_ ≤ s.fab + fns 20000 →
    ∃ t, exec (.shedPauseStart d) s = .next t ∧ t.paused d = true ∧ RegsBut s t [MAC.LANE_STAT_PHASE.key d.n 0] ∧
      t = { s with regs := t.regs }) ∧
  (∀ (s : State) (d : Side) (at_ : Nat), (s.lane d).sched = some (false, at_) → at_ ≤ s.fab → (s.lane d).sentBlock = false →
    ∃ t, exec (.shedBlockSend d) s = .next t ∧ t.rdn d.n PHY.PHY_STAT_TX_LANES = 1 ∧ 
      (s.forwards d = true → Emit.maint d.code (.shedBlock d.code (s.nextCodeword d)) ∈ t.sent) ∧
      ((s.lane d).gotBlock = false → t.laneMode (.ring d) = s.laneMode (.ring d) ∧ (t.lane d).sentBlock = true) ∧
      ((s.lane d).gotBlock = true → t.laneMode (.ring d) = 1 ∧ t.paused d = false ∧ event t (9 + d.n) 0 = true)) ∧
  (∀ (s : State) (d : Side) (at_ : Nat), (s.lane d).sched = some (false, at_) →
    ∃ t, exec (.shedBlockRx d) s = .next t ∧ t.rdn d.opp.n PHY.PHY_STAT_RX_LANES = 1 ∧
      ((s.lane d).sentBlock = false → t.laneMode (.ring d) = s.laneMode (.ring d) ∧ (t.lane d).gotBlock = true) ∧
      ((s.lane d).sentBlock = true → t.laneMode (.ring d) = 1 ∧ t.paused d = false ∧ event t (9 + d.n) 0 = true)) ∧
  (∀ (s : State) (d : Side), s.laneMode (.ring d) = 1 → (s.lane d).prep = false → (s.lane d).asked = true →
    ∃ t, exec (.joinStart d) s = .next t ∧ (t.lane d).prep = true ∧ (t.lane d).ready = false ∧
      Tbl.find t.timers (tJoin d) = some (s.mono + ms 3) ∧ t.rdn d.n MAC.LANE_STAT_PHASE = 1 ∧
      RegsBut s t [MAC.LANE_STAT_PHASE.key d.n 0] ∧ t = { s with regs := t.regs, lanes := t.lanes, timers := t.timers }) ∧
  (∀ (s : State) (d : Side), (s.lane d).prep = true → s.due (tJoin d) = false →
    ∃ t, exec (.joinLaneReady d) s = .next t ∧ (t.lane d).ready = true ∧ t.rdn d.n MAC.LANE_STAT_FAULT_WISH = 0 ∧ t.running (tJoin d) = false ∧
      t = { s with regs := t.regs, lanes := t.lanes, timers := t.timers }) ∧
  (∀ (s : State) (d : Side) (at_ : Nat), (s.lane d).sched = some (true, at_) → at_ ≤ s.fab → (s.lane d).sentBlock = false →
    ∃ t, exec (.joinBlockSend d) s = .next t ∧ t.rdn d.n PHY.PHY_STAT_TX_LANES = 2 ∧ 
      (s.forwards d = true → Emit.maint d.code (.joinBlock d.code (s.nextCodeword d)) ∈ t.sent) ∧
      ((s.lane d).gotBlock = true → t.laneMode (.ring d) = 2 ∧ event t (9 + d.n) 1 = true)) ∧
  (∀ (s : State) (d : Side) (at_ : Nat), (s.lane d).sched = some (true, at_) →
    ∃ t, exec (.joinBlockRx d) s = .next t ∧ t.rdn d.opp.n PHY.PHY_STAT_RX_LANES = 2 ∧
      ((s.lane d).sentBlock = true → t.laneMode (.ring d) = 2 ∧ event t (9 + d.n) 1 = true)) ∧
  (∀ (s : State) (d : Side), (s.lane d).prep = true → (s.lane d).ready = false → s.due (tJoin d) = true →
    ∃ t, exec (.joinFail d) s = .next t ∧ (t.lane d).prep = false ∧ event t (9 + d.n) 2 = true ∧
      t.laneMode (.ring d) = s.laneMode (.ring d) ∧
      t = { s with regs := t.regs, lanes := t.lanes, timers := t.timers, msix := t.msix, sent := t.sent })

/-- A number is accepted, a duplicate or stale by its distance from the highest accepted one, and counted so -/
def Obligations.StreamWindowJudgesAsTheTableSays : Prop :=
  (∀ (s : State) (node cls q : Nat) (e : StreamEnt), q < 65536 → e.high < 65536 → e.map < 2 ^ 64 →
    s.stream node cls = some e → s.streamFresh e = true →
    let d := (q + 65536 - e.high) % 65536
    let i := (e.high + 65536 - q) % 65536
    (1 ≤ d ∧ d ≤ 32767 → s.judgeSeq node cls q = .accept ∧
      (s.markSeq node cls q).stream node cls = some { e with high := q, map := (e.map * 2 ^ d + 1) % 2 ^ 64, last := s.fab }) ∧
    (¬(1 ≤ d ∧ d ≤ 32767) → i ≤ 63 → e.map.testBit i = true → s.judgeSeq node cls q = .duplicate) ∧
    (¬(1 ≤ d ∧ d ≤ 32767) → i ≤ 63 → e.map.testBit i = false → s.judgeSeq node cls q = .accept ∧
      (s.markSeq node cls q).stream node cls = some { e with map := e.map + 2 ^ i, last := s.fab }) ∧
    (¬(1 ≤ d ∧ d ≤ 32767) → 63 < i → s.judgeSeq node cls q = .stale)) ∧
  (∀ (s : State) (d : Side) (f g : Frame) (b : RxBound) (m : Option (Nat × Nat × Nat × Nat)),
    (s.judgeSeq (nodeOf f.src) f.tc f.seq = .duplicate →
      s.judgeAndDeliver d.code b f g m = (s.satn (2 * d.code) MAC.RX_DUP_COUNT).dropBound b f) ∧
    (s.judgeSeq (nodeOf f.src) f.tc f.seq = .stale →
      s.judgeAndDeliver d.code b f g m = ((s.satn (2 * d.code) MAC.RX_STALE_COUNT).raise (9 + 2 * d.code) 4).dropBound b f))

/-- Once a number of a stream is accepted, a second copy of it is a duplicate -/
def Obligations.AcceptedNumberIsADuplicateAfterwards : Prop :=
  ∀ (s : State) (node cls q : Nat), q < 65536 →
    (∀ e, s.stream node cls = some e → e.high < 65536) →
    (s.judgeSeq node cls q = .accept → (s.markSeq node cls q).judgeSeq node cls q = .duplicate) ∧
    (s.stream node cls = none → 4096 ≤ (s.win.filter s.streamFresh).length → s.judgeSeq node cls q = .full)

/-- A frame start on an up ring port meets the first row of R95 that matches it -/
def Obligations.FrameArrivalIsSortedByTheFirstMatchingRow : Prop :=
  (∀ (s : State) (d : Side) (f : Frame) (bad : Bool) (stamp : Nat), s.linkState (.ring d) = 8 → s.live = true →
    (bad = true ∨ f.hchk ≠ f.headCheck →
      ∃ t, exec (.frameArrival d f bad stamp) s = .next t ∧ (t.rxOf d).kind = .skip ∧ Counted s t d.n MAC.RX_HCHK_COUNT ∧
        RegsBut s t [MAC.RX_HCHK_COUNT.key d.n 0] ∧ t = { s with regs := t.regs, rx := t.rx }) ∧
    (bad = false → f.hchk = f.headCheck → f.badHeader = true →
      ∃ t, exec (.frameArrival d f bad stamp) s = .next t ∧ (t.rxOf d).kind = .skip ∧ Counted s t d.n MAC.RX_MALFORMED_COUNT ∧
        RegsBut s t [MAC.RX_MALFORMED_COUNT.key d.n 0] ∧ t = { s with regs := t.regs, rx := t.rx }) ∧
    (bad = false → f.hchk = f.headCheck → f.badHeader = false →
      (f.tc = 7 → ∃ t, exec (.frameArrival d f bad stamp) s = .next t ∧ (t.rxOf d).kind = .ring ∧ t = { s with rx := t.rx }) ∧
      (f.tc ≠ 7 → f.entry = s.station →
        ∃ t, exec (.frameArrival d f bad stamp) s = .next t ∧ (t.rxOf d).kind = .skip ∧ Counted s t d.n MAC.REMOVED_RETURN_COUNT ∧
          RegsBut s t [MAC.REMOVED_RETURN_COUNT.key d.n 0] ∧ t = { s with regs := t.regs, rx := t.rx }) ∧
      (f.tc ≠ 7 → f.entry ≠ s.station → nodeOf f.dest = s.nodeId → f.resp = false → f.refuse = false →
          localOf f.dest ≠ 0 → s.destPort f = none →
        ∃ t, exec (.frameArrival d f bad stamp) s = .next t ∧ (t.rxOf d).kind = .absent ∧ (t.rxOf d).cur = f ∧
          t = { s with rx := t.rx }) ∧
      (f.tc ≠ 7 → f.entry ≠ s.station → nodeOf f.dest ≠ s.nodeId → s.role ≠ 2 →
        (f.hops = 0 →
          ∃ t, exec (.frameArrival d f bad stamp) s = .next t ∧ (t.rxOf d).kind = .skip ∧ Counted s t d.n MAC.REMOVED_HOPS_COUNT ∧
            RegsBut s t [MAC.REMOVED_HOPS_COUNT.key d.n 0] ∧ t = { s with regs := t.regs, rx := t.rx }) ∧
        (f.hops ≠ 0 → f.tc ≤ 3 → s.forwards d.opp = true → s.outUp d.opp = true → (s.txOf d.opp).cur = .idle →
          ∃ t g, exec (.frameArrival d f bad stamp) s = .next t ∧
            t.sent = s.sent ++ (if s.lastOfGroup d.opp then [.maint d.opp.code .idle] else []) ++ [.frame d.opp.code g] ∧
            g.hops = f.hops - 1 ∧ g.hchk = g.headCheck ∧ g.payload = f.payload ∧ g.crc = f.crc ∧
            g.launch = (if f.tc = 1 then (f.launch + s.residence d stamp) % 2 ^ 64 else f.launch) ∧
            (t.rxOf d).kind = .express ∧ (t.txOf d.opp).cur = .transit ∧ Counted s t d.opp.n MAC.TRANSIT_EXP_COUNT ∧
            RegsBut s t [MAC.TRANSIT_EXP_COUNT.key d.opp.n 0] ∧ t = { s with regs := t.regs, rx := t.rx, tx := t.tx, sent := t.sent }))))

/-- Frame ends, relays, stream retirement, insertion periods and the insertion gate do what R94 to R113 say -/
def Obligations.FrameEndRelayAndInsertionComplete : Prop :=
  (∀ (s : State) (d : Side) (e c : Bool) (n : Nat), s.flt.todo = [] → (s.rxOf d).kind = .skip →
    ∃ t, exec (.frameTrailerAccept d e c n) s = .next t ∧ (t.rxOf d).kind = .idle ∧ t = { s with rx := t.rx }) ∧
  (∀ (s : State) (d : Side) (c : Bool) (n : Nat), s.flt.todo = [] → (s.rxOf d).kind = .absent →
    ∃ t, exec (.frameTrailerAccept d true c n) s = .next t ∧ (t.rxOf d).kind = .idle ∧ Counted s t d.n MAC.RX_ERRORED_COUNT ∧
      RegsBut s t [MAC.RX_ERRORED_COUNT.key d.n 0] ∧ t = { s with regs := t.regs, rx := t.rx }) ∧
  (∀ (s : State) (d : Side) (f : Frame), s.flt.todo = [] →
    (s.rxOf d).cur = f → (s.rxOf d).kind = .answer → (s.rxOf d).errored = false →
    f.sec = false → f.crc = f.trailer → bitOf (s.rd GCM.CFG_RX_REQ) f.tc = false →
    s.judgeSeq (nodeOf f.src) f.tc f.seq = .accept →
    ∃ t, exec (.frameTrailerAccept d false false f.statedLen) s = .next t ∧ (t.rxOf d).kind = .idle ∧
      Counted s t d.n MAC.RX_ACCEPT_COUNT ∧ Counted s t 0 MGMT.REFUSED_RX_COUNT ∧
      t.win = (s.markSeq (nodeOf f.src) f.tc f.seq).win ∧ t = { s with regs := t.regs, rx := t.rx, win := t.win }) ∧
  (∀ (s : State) (f : Frame) (stamp : Nat), s.role = 2 → s.linkState .twin = 8 → s.flt.todo = [] →
    (s.rd TRANSIT.HOP_CFG_XING_MAX < f.xings + 1 →
      ∃ t, exec (.junctionRelayRx f stamp) s = .next t ∧ Counted s t 0 MAC.REMOVED_XING_COUNT ∧
        RegsBut s t [MAC.REMOVED_XING_COUNT.key 0 0] ∧ t = { s with regs := t.regs }) ∧
    (f.xings + 1 ≤ s.rd TRANSIT.HOP_CFG_XING_MAX → (∃ as, s.admitCopy (voqIdx 2 0 f.tc) (cellsOf f) = .ok as) →
      ∃ t c, exec (.junctionRelayRx f stamp) s = .next t ∧
        (t.voq (voqIdx 2 0 f.tc)).q = (s.voq (voqIdx 2 0 f.tc)).q ++ [c] ∧ c.accepted = true ∧ c.frame.xings = f.xings + 1 ∧
        c.frame.src = f.src ∧ c.frame.seq = f.seq ∧ c.frame.payload = f.payload ∧ c.frame.entry = s.station)) ∧
  (∀ (s : State) (node cls : Nat),
    ∃ t, exec (.streamEntryRetire node cls) s = .next t ∧ (∀ e ∈ t.win, e.node = node → e.cls = cls → s.streamFresh e = true) ∧
      (∀ e ∈ s.win, e ∈ t.win ∨ (e.node = node ∧ e.cls = cls ∧ s.streamFresh e = false)) ∧ t = { s with win := t.win }) ∧
  (∀ (s : State) (d : Side), s.fab / fns (s.rdn d.n MAC.INS_PERIOD_PERIOD * 100) ≠
      (s.txOf d).started / fns (s.rdn d.n MAC.INS_PERIOD_PERIOD * 100) →
    ∃ t, exec (.insPeriodStart d) s = .next t ∧ (t.txOf d).used = [] ∧ (t.txOf d).period = s.rdn d.n MAC.INS_PERIOD_PERIOD ∧
      (t.txOf d).started = s.fab ∧ t.txOf d.opp = s.txOf d.opp ∧ t = { s with tx := t.tx }) ∧
  (∀ (s : State) (d : Side) (m : Maint) (rest : List Maint) (ea : Option Nat) (vis : Nat), s.outUp d = true →
    (s.txOf d).cur = .idle → (s.txOf d).maint = m :: rest →
    ∃ t, exec (.insertion d ea vis) s = .next t ∧ (t.txOf d).maint = rest ∧ (t.txOf d).cur = .idle ∧ t.txOf d.opp = s.txOf d.opp ∧
      (m = .laneReady 0 → s.lastOfGroup d = false → t.sent = s.sent ++ [.maint d.code m]) ∧
      t = { s with tx := t.tx, sent := t.sent, time := t.time }) ∧
  (∀ (s : State) (d : Side) (f : Frame) (how : Nat) (rest : List (Frame × Nat)) (ea : Option Nat) (vis : Nat), s.outUp d = true →
    (s.txOf d).cur = .idle → (s.txOf d).maint = [] → (s.out d.code).grant = none → s.requesters d.code (s.classes3 d) = [] →
    s.outOpen d.code = true → s.paused d = false → (s.txOf d).tbuf = (f, how) :: rest →
    s.gateOpen d f.statedLen false ea vis = true →
    ∃ t, exec (.insertion d ea vis) s = .next t ∧ (t.txOf d).cur = .fromBuf ∧ (t.txOf d).tbuf = (s.txOf d).tbuf ∧
      t.sent = s.sent ++ (if s.lastOfGroup d then [.maint d.code .idle] else []) ∧
      t.txOf d.opp = s.txOf d.opp ∧ t = { s with tx := t.tx, sent := t.sent }) ∧
  (∀ (s : State) (d : Side) (v : Nat) (c : Copy) (rest : List Copy) (ea : Option Nat) (vis : Nat), s.outUp d = true →
    (s.txOf d).cur = .idle → (s.txOf d).maint = [] → (s.out d.code).grant = some v → s.paused d = false → (s.voq v).q = c :: rest →
    ((s.classes3 d).contains (clsOf v) = true ∨ ((s.txOf d).tbuf = [] ∧ s.requesters d.code (s.classes3 d) = [])) →
    c.launchAt = none → s.gateOpen d c.frame.statedLen false ea vis = true →
    ∃ t, exec (.insertion d ea vis) s = .next t ∧ (t.txOf d).cur = .queue v ∧
      t.sent = s.sent ++ (if s.lastOfGroup d then [.maint d.code .idle] else []) ∧ t = { s with tx := t.tx, sent := t.sent })

/-- A transit check failure, FORCE, REJOIN and the relay wait drive the bypass relay as R117 and R118 say -/
def Obligations.BypassCommandsComplete : Prop :=
  (∀ (s : State) (o : Side) (kind : Nat), s.flt.todo = [] → s.byp.high = true → s.mode ≠ 5 → kind < 4 → s.flag TRANSIT.CMP_STAT_VALID = false →
    ∃ t, exec (.transitCheckFail o kind) s = .next t ∧ t.byp.high = false ∧ t.byp.ports = false ∧
      (t.txOf .east).silent = true ∧ (t.txOf .west).silent = true ∧ t.rd TRANSIT.BYP_STAT_CAUSE = 2 ∧
      t.rd TRANSIT.CMP_STAT_OUTPUT = o.code ∧ t.rd TRANSIT.CMP_STAT_KIND = kind ∧ event t 0x0E 0 = true ∧ event t 0x0E 1 = true ∧
      bitOf (t.rdn 0x0E HDR.FLT_STAT_CHECKERS) 0 = true ∧
      t = { s with regs := t.regs, byp := t.byp, tx := t.tx, timers := t.timers, flt := t.flt, msix := t.msix, sent := t.sent }) ∧
  (∀ (s : State) (p : Port), Permitted s p 0x0E 0x48 1 → s.byp.entered = true → s.byp.high = true → s.flag TRANSIT.BYP_CTRL_FORCE = false →
    ∃ t, exec (.bypassForce p true) s = .next t ∧ t.byp.high = false ∧ (t.txOf .east).silent = true ∧ (t.txOf .west).silent = true ∧
      t.flag TRANSIT.BYP_CTRL_FORCE = true ∧ t.rd TRANSIT.BYP_STAT_CAUSE = 3 ∧ event t 0x0E 1 = true ∧ done p ∈ t.sent ∧
      t = { s.heard p with regs := t.regs, byp := t.byp, tx := t.tx, timers := t.timers, msix := t.msix, sent := t.sent }) ∧
  (∀ (s : State) (p : Port), Permitted s p 0x0E 0x48 2 → bitOf (s.rdn 0x0E HDR.FLT_STAT_CHECKERS) 0 = false →
    s.flag TRANSIT.BYP_CTRL_FORCE = false → s.byp.entered = true → s.byp.waiting = false →
    ∃ t, exec (.bypassRejoin p) s = .next t ∧ t.byp.high = true ∧ t.byp.waiting = true ∧ t.rd TRANSIT.BYP_CTRL_REJOIN = 1 ∧
      Tbl.find t.timers tRelay = some (s.mono + s.rd TRANSIT.BYP_CTRL_RELAY_WAIT * ms 1) ∧ TimersBut (s.heard p) t [tRelay] ∧
      t = { s.heard p with regs := t.regs, byp := t.byp, timers := t.timers, sent := s.sent ++ [done p] }) ∧
  (∀ (s : State) (p : Port), Permitted s p 0x0E 0x48 2 →
    bitOf (s.rdn 0x0E HDR.FLT_STAT_CHECKERS) 0 = true ∨ s.flag TRANSIT.BYP_CTRL_FORCE = true ∨ s.byp.entered = false →
    exec (.bypassRejoin p) s = .next ((s.heard p).emit (done p))) ∧
  (∀ s : State, s.byp.waiting = true → s.due tRelay = true → s.isTwin = false → s.byp.startup = false →
    ∃ t, exec .rejoinRelayWaitEnd s = .next t ∧ t.byp.ports = true ∧ t.byp.waiting = false ∧ (t.txOf .east).silent = false ∧
      (t.txOf .west).silent = false ∧ t.rd TRANSIT.BYP_CTRL_REJOIN = 0 ∧ event t 0x0E 2 = true ∧
      t = { s with regs := t.regs, byp := t.byp, tx := t.tx, timers := t.timers, msix := t.msix, sent := t.sent })

/-- Copies are admitted, granted and sent, shift registers seeded, hold windows end and audits count as R130 to R145 say -/
def Obligations.SwitchCoreCommandsComplete : Prop :=
  (∀ (s : State) (inp p : Nat) (f : Frame), 3 ≤ inp → inp ≤ 7 → s.live = true → s.flt.todo = [] →
    nodeOf f.dest = s.nodeId → localOf f.dest = 0 → s.destPort (freshFrame f) = some p → p ≠ inp →
    (∃ as, s.admitCopy (voqIdx inp p f.tc) (cellsOf (freshFrame f)) = .ok as) →
    ∃ t c, exec (.copyAdmission inp f) s = .next t ∧ (t.voq (voqIdx inp p f.tc)).q = (s.voq (voqIdx inp p f.tc)).q ++ [c] ∧
      c.frame.payload = f.payload ∧ c.frame.src = f.src ∧ c.frame.dest = f.dest ∧ c.accepted = true ∧ c.eligible = true ∧
      (∀ v, v ≠ voqIdx inp p f.tc → t.voq v = s.voq v)) ∧
  (∀ (s : State) (inp : Nat) (f : Frame), 3 ≤ inp → inp ≤ 7 → s.live = true → s.flt.todo = [] →
    nodeOf f.dest = s.nodeId → localOf f.dest = 0 → s.destPort (freshFrame f) = some inp → s.refusedEarly (voqIdx inp inp f.tc) = none →
    ∃ t g, exec (.copyAdmission inp f) s = .next t ∧ t.inbox = s.inbox ++ [(inp, g)] ∧ g.payload = f.payload ∧ g.src = f.src ∧
      g.dest = f.dest ∧ t = { s with inbox := t.inbox, sent := s.sent ++ [.deliver inp g] }) ∧
  (∀ (s : State) (p v rule : Nat), 2 ≤ p → p ≤ 7 → (s.out p).grant = none → s.outOpen p = true →
    s.winner p (s.requesters p (List.range 8)) = some (v, rule) →
    ∃ t, exec (.arbitrationGrant p) s = .next t ∧ (t.out p).grant = some v ∧ (t.out p).since = (if rule = 1 then 0 else (s.out p).since + 1) ∧
      t.rd ARB.GRANT_CNT_COUNT p = (s.rd ARB.GRANT_CNT_COUNT p + 1) % 2 ^ ARB.GRANT_CNT_COUNT.w ∧
      (t.voq v).q = (s.voq v).q ∧ (t.voq v).since = none ∧ RegsBut s t [key ARB.GRANT_CNT_COUNT p, key ARB.FORCED_CNT_COUNT p, key ARB.RESERVED_CNT_COUNT p] ∧
      t = { s with regs := t.regs, voqs := t.voqs, outs := t.outs, buf := t.buf }) ∧
  (∀ (s : State) (p v : Nat) (c : Copy) (rest : List Copy), 3 ≤ p → p ≤ 7 → (s.out p).grant = some v → (s.voq v).q = c :: rest →
    ∃ t, exec (.frameSent p) s = .next t ∧ (t.voq v).q = rest ∧ (t.out p).grant = none ∧
      t.inbox = s.inbox ++ [(p, c.frame)] ∧ t.sent = s.sent ++ [.deliver p c.frame] ∧
      t.rd BUFFER.POOL_STAT_SHARED_USED = (s.rd BUFFER.POOL_STAT_SHARED_USED - c.s) % 2 ^ BUFFER.POOL_STAT_SHARED_USED.w ∧
      t = { s with regs := t.regs, voqs := t.voqs, outs := t.outs, buf := t.buf, inbox := t.inbox, sent := t.sent }) ∧
  (∀ (s : State) (d : Side) (f : Frame) (rest : List (Frame × Nat)), (s.txOf d).cur = .fromBuf → (s.txOf d).tbuf = (f, 0) :: rest →
    ¬(rest = [] ∧ (s.rxOf d.opp).kind = .buffered) →
    ∃ t, exec (.frameSent d.code) s = .next t ∧ t.sent = s.sent ++ [.frame d.code f] ∧ (t.txOf d).tbuf = rest ∧
      (t.txOf d).cur = .idle ∧ Counted s t d.n MAC.TRANSIT_ORD_COUNT ∧ RegsBut s t [MAC.TRANSIT_ORD_COUNT.key d.n 0] ∧
      t = { s with regs := t.regs, tx := t.tx, sent := t.sent }) ∧
  (∀ (s : State) (p : Port) (seed : Nat), Permitted s p 0x12 0x5C seed →
    (seed % 2 ^ 32 ≠ 0 → exec (.lfsrSeed p seed) s =
      .next { s.heard p with lfsr := s.lfsr.set (s.rd ARB.LFSR_SEL_OUTPUT) (seed % 2 ^ 32), sent := s.sent ++ [done p] }) ∧
    (seed % 2 ^ 32 = 0 → exec (.lfsrSeed p seed) s = .next ((s.heard p).emit (done p)))) ∧
  (∀ (s : State) (p c d : Nat), Tbl.find (s.out p).hold c = some d → d + 64 ≤ s.mono → (s.out p).down = true →
    s.holds p = true → s.fenced 0x10 = false → p ≤ 1 ∨ s.outFenced p = false →
    ∃ t, exec (.holdWindowExpiry p c) s = .next t ∧ Tbl.find (t.out p).hold c = none ∧
      (∀ v ∈ queuesOf p, clsOf v = c → (t.voq v).q = [] ∧ (t.voq v).held = false)) ∧
  (∀ s : State, s.flag BUFFER.AUDIT_CFG_EN = true → s.pdOn 3 = true → s.running tAudit = false → s.flt.todo = [] →
    ∃ t, exec .auditPass s = .next t ∧
      t.rd BUFFER.AUDIT_PASSES_COUNT = (s.rd BUFFER.AUDIT_PASSES_COUNT + 1) % 2 ^ BUFFER.AUDIT_PASSES_COUNT.w ∧
      Tbl.find t.timers tAudit = some (s.mono + s.rd BUFFER.AUDIT_CFG_PERIOD * us 100)) ∧
  (∀ (s : State) (b : Nat), b < 16 → s.flt.todo = [] → bitOf (s.rdn 0x11 HDR.FLT_STAT_CHECKERS) b = false → s.bankFenced b = false →
    ∃ t, exec (.bankFence b) s = .next t ∧ t.bankFenced b = true ∧ bitOf (t.rdn 0x11 HDR.FLT_STAT_CHECKERS) b = true)

/-- A write of VOQ_MIN is taken unless the sum of the minimums would exceed 8,192 cells, and admission uses it -/
def Obligations.QueueMinimumsNeverExceedTheirSum : Prop :=
  (∀ (s : State) (p : Port) (v : Nat), Permitted s p 0x11 0x44 v →
    let q := s.rd BUFFER.VOQ_SEL_INDEX
    let sum := s.rd BUFFER.MIN_SUM_SUM - s.rd BUFFER.VOQ_MIN_MIN q + v % 256
    (sum ≤ 8192 → q / 64 ≠ outOf q →
      ∃ t, exec (.voqMinWrite p v) s = .next t ∧ t.rd BUFFER.VOQ_MIN_MIN q = v % 256 ∧ t.rd BUFFER.MIN_SUM_SUM = sum ∧
        RegsBut s t [key BUFFER.VOQ_MIN_MIN q, key BUFFER.MIN_SUM_SUM] ∧ t = { s.heard p with regs := t.regs, sent := s.sent ++ [done p] }) ∧
    (8192 < sum ∨ q / 64 = outOf q → exec (.voqMinWrite p v) s = .next ((s.heard p).emit (done p)))) ∧
  (∀ (s : State) (v n : Nat), s.refusedEarly v = none →
    let a := min n (s.rd BUFFER.VOQ_MIN_MIN v - (s.voq v).minUsed)
    (n = a → s.admitCopy v n = .ok (a, 0)) ∧
    (a < n → s.rd BUFFER.CEIL_CELLS (clsOf v) < s.rd BUFFER.CLASS_USED_CELLS (clsOf v) + (n - a) → s.admitCopy v n = .error 2) ∧
    (a < n → s.rd BUFFER.CLASS_USED_CELLS (clsOf v) + (n - a) ≤ s.rd BUFFER.CEIL_CELLS (clsOf v) →
      24576 - 1536 * s.fencedBanks - s.rd BUFFER.MIN_SUM_SUM < s.rd BUFFER.POOL_STAT_SHARED_USED + (n - a) → s.admitCopy v n = .error 1) ∧
    (a < n → s.rd BUFFER.CLASS_USED_CELLS (clsOf v) + (n - a) ≤ s.rd BUFFER.CEIL_CELLS (clsOf v) →
      s.rd BUFFER.POOL_STAT_SHARED_USED + (n - a) ≤ 24576 - 1536 * s.fencedBanks - s.rd BUFFER.MIN_SUM_SUM →
      s.admitCopy v n = .ok (a, n - a)))

/-- Heartbeats, their loss, the ALONE wait and the ownership lines act as R165 to R168, R177 and R180 to R182 say -/
def Obligations.TwinHeartbeatsAndOwnershipComplete : Prop :=
  (∀ s : State, s.twinUp = true → s.twin.out = [] → s.running tHeartbeat = false →
    ∃ t, exec .heartbeatSend s = .next t ∧ t.sent = s.sent ++ [.item "HEARTBEAT" (heartbeatNats s.heartbeat)] ∧
      Tbl.find t.timers tHeartbeat = some (s.mono + us 1) ∧ TimersBut s t [tHeartbeat] ∧
      t = { s with timers := t.timers, sent := t.sent }) ∧
  (∀ (s : State) (h : Heartbeat), s.twinUp = true → h.safe = false ∨ h.release.isSome = true → s.twin.req = false → s.twinRole ≠ 3 →
    ∃ t, exec (.heartbeatRx h) s = .next t ∧ t.rd TWIN.STAT_PEER_ROLE = h.role % 2 ^ TWIN.STAT_PEER_ROLE.w ∧
      t.rd TWIN.STAT_PEER_SEEN = 1 ∧ t.twin.lost = false ∧ t.twin.peerRec = h.recValid ∧ t.twin.peerStep = h.stepAll ∧
      (∀ r, h.release = some r → t.twin.announced = some r) ∧
      Tbl.find t.timers tHbTmo = some (s.mono + s.rd TWIN.ROLE_CFG_HB_TMO * us 1) ∧ TimersBut s t [tHbTmo] ∧
      RegsBut s t [key TWIN.STAT_PEER_ROLE, key TWIN.STAT_PEER_SEEN] ∧ t = { s with regs := t.regs, timers := t.timers, twin := t.twin }) ∧
  (∀ (s : State) (h : Heartbeat), s.twinUp = true → h.safe = true → h.release = none → s.twin.lost = false →
    ∃ t, exec (.heartbeatRx h) s = .next t ∧ t.twin.lost = true ∧ t.twin.cause = 3 ∧ t.rd TWIN.STAT_PEER_SEEN = 1 ∧
      event t 0x0D 2 = true) ∧
  (∀ s : State, s.due tHbTmo = true → s.isTwin = true → s.twin.lost = false → s.twin.store = none →
    ∃ t, exec .heartbeatTimeout s = .next t ∧ t.twin.lost = true ∧ t.twin.cause = 2 ∧ t.rd TWIN.STAT_PEER_SEEN = 0 ∧
      event t 0x0D 2 = true ∧ t.twinRole = (if s.twinRole = 1 then 3 else s.twinRole) ∧
      RegsBut s t [key TWIN.STAT_PEER_SEEN, key TWIN.STAT_ROLE, intStat 0x0D] ∧
      t = { s with regs := t.regs, timers := t.timers, twin := t.twin, msix := t.msix, sent := t.sent }) ∧
  (∀ s : State, s.due tAlone = true → s.twin.req = true → s.twin.nextRole = 0 →
    (s.flag TWIN.STAT_OWN_IN = false →
      ∃ t, exec .aloneWaitExpiry s = .next t ∧ t.twin = { s.twin with nextRole := 3 } ∧ t = { s with twin := t.twin, timers := t.timers }) ∧
    (s.flag TWIN.STAT_OWN_IN = true →
      ∃ t, exec .aloneWaitExpiry s = .next t ∧ t.twin.req = false ∧ t.rd DEVICE.MODE_STAT_PENDING = 0 ∧ event t 0x0D 3 = true ∧
        t = { s with regs := t.regs, twin := t.twin, modeU := t.modeU, timers := t.timers, msix := t.msix, sent := t.sent })) ∧
  (∀ s : State, s.isTwin = true →
    (s.flag TWIN.STAT_OWN_IN = false →
      ∃ t, exec (.ownInChange true) s = .next t ∧ t.flag TWIN.STAT_OWN_IN = true ∧ t.flag TWIN.STAT_DRIVERS = false ∧
        (s.flag TWIN.STAT_OWN_OUT = true → t.twin.bothAt = some s.mono) ∧
        RegsBut s t [key TWIN.STAT_OWN_IN, key TWIN.STAT_DRIVERS] ∧ t = { s with regs := t.regs, twin := t.twin }) ∧
    (s.flag TWIN.STAT_OWN_IN = true →
      ∃ t, exec (.ownInChange false) s = .next t ∧ t.flag TWIN.STAT_OWN_IN = false ∧ t.twin.ownInLow = s.mono ∧
        t.flag TWIN.STAT_DRIVERS = s.flag TWIN.STAT_OWN_OUT ∧
        RegsBut s t [key TWIN.STAT_OWN_IN, key TWIN.STAT_DRIVERS] ∧ t = { s with regs := t.regs, twin := t.twin })) ∧
  (∀ (s : State) (m : Nat), s.twin.bothAt = some m → m + ns 100 ≤ s.mono → s.mode = 5 → s.modeU.want = none → s.isTwin = true →
    s.flt.todo = [] →
    ∃ t, exec .ownershipConflict s = .next t ∧ t.flag TWIN.STAT_OWN_OUT = false ∧ t.twinRole = 0 ∧
      bitOf (t.rdn 0x0D HDR.FLT_STAT_CHECKERS) 0 = true ∧ t.mode = 5) ∧
  (∀ s : State, s.twinUp = true → s.flag TWIN.STAT_OWN_IN = false → s.twin.ownInLow + us 1 ≤ s.mono →
    s.rd TWIN.STAT_PEER_ROLE = 1 ∨ s.rd TWIN.STAT_PEER_ROLE = 3 → s.twin.announced = none → s.flt.todo = [] →
    bitOf (s.rdn 0x0D HDR.FLT_STAT_CHECKERS) 1 = false →
    ∃ t, exec .interlockInconsistency s = .next t ∧ bitOf (t.rdn 0x0D HDR.FLT_STAT_CHECKERS) 1 = true ∧
      RegsBut s t [HDR.FLT_STAT_CHECKERS.key 0x0D 0] ∧ t.flt.det.length = s.flt.det.length + 1 ∧
      t = { s with regs := t.regs, flt := t.flt }) ∧
  (∀ (s : State) (n at_ kind : Nat), s.twin.release = some (n, at_, kind) → at_ ≤ s.fabNs + s.settleNs + 100 →
    kind ≠ 0 ∨ s.twinRole = 1 → s.flag TWIN.STAT_OWN_OUT = true →
    ∃ t, exec .ownReleasePoint s = .next t ∧ t.flag TWIN.STAT_OWN_OUT = false ∧ t.flag TWIN.STAT_DRIVERS = false ∧
      (kind = 1 → event t 0x0D 1 = true) ∧
      t = { s with regs := t.regs, twin := t.twin, msix := t.msix, sent := t.sent })

/-- The snapshot goes out and comes in, ring outputs change hands, handovers and relayed accesses act as R162 to R188 say -/
def Obligations.PourOverHandoverAndPeerRelayComplete : Prop :=
  (∀ (s : State) (num b frags : Nat), s.twinUp = true → snapHead s.twin.out = some (num, b, frags) →
    (s.twin.outNext + 1 < frags →
      ∃ t, exec .pourOverSend s = .next t ∧ t.twin = { s.twin with outNext := s.twin.outNext + 1 } ∧
        t.sent = s.sent ++ [.item "POUR" (pourFrame num s.twin.outNext s.twin.out)] ∧ Tbl.find t.timers tHeartbeat = some (s.mono + us 1) ∧
        t = { s with twin := t.twin, timers := t.timers, sent := t.sent }) ∧
    (frags ≤ s.twin.outNext + 1 →
      ∃ t, exec .pourOverSend s = .next t ∧ t.twin.out = [] ∧ t.twin.access = [] ∧
        Emit.item "POUR" (pourFrame num s.twin.outNext s.twin.out) ∈ t.sent ∧
        (s.twin.access ≠ [] → Emit.item "PEER_ACCESS" s.twin.access ∈ t.sent) ∧
        t.rd TWIN.SNAP_SENT_COUNT = (s.rd TWIN.SNAP_SENT_COUNT + 1) % 2 ^ TWIN.SNAP_SENT_COUNT.w ∧
        RegsBut s t [key TWIN.SNAP_SENT_COUNT, key TWIN.POUR_TIME_LAST, key TWIN.POUR_TIME_MAX] ∧
        t = { s with regs := t.regs, twin := t.twin, timers := t.timers, sent := t.sent })) ∧
  (∀ (s : State) (num next n b frags : Nat) (rs recs : List SnapRec), s.twinUp = true → s.twinRole = 2 →
    s.twin.store = some (num, next, rs) →
    (snapHead (rs ++ recs) = some (n, b, frags) → next + 1 < frags →
      ∃ t, exec (.snapshotFragmentRx num next true recs) s = .next t ∧ t.twin.store = some (num, next + 1, rs ++ recs) ∧
        Tbl.find t.timers tHbTmo = some (s.mono + s.rd TWIN.ROLE_CFG_HB_TMO * us 1) ∧
        t = { s with twin := t.twin, timers := t.timers }) ∧
    (∃ t, exec (.snapshotFragmentRx num next false recs) s = .next t ∧ t.twin.store = none ∧
        Counted s t 0 TWIN.SNAP_PARTIAL_COUNT ∧ event t 0x0D 5 = true ∧
        t = { s with regs := t.regs, twin := t.twin, timers := t.timers, msix := t.msix, sent := t.sent })) ∧
  (∀ (s : State) (num idx : Nat) (recs : List SnapRec), s.twinUp = true → s.twinRole = 2 → s.twin.store = none →
    (s.twin.bad ≠ some num →
      ∃ t, exec (.snapshotFragmentRx num idx false recs) s = .next t ∧ t.twin.bad = some num ∧ t.twin.store = none ∧
        Counted s t 0 TWIN.SNAP_PARTIAL_COUNT ∧ event t 0x0D 5 = true) ∧
    (s.twin.bad = some num →
      ∃ t, exec (.snapshotFragmentRx num idx false recs) s = .next t ∧ t = { s with timers := t.timers })) ∧
  (∀ (s : State) (d : Side), s.isTwin = true → s.twin.lost = true → s.byp.ports = true → bitOf (s.rd TWIN.STAT_DRIVES) d.code = false →
    ∃ t, exec (.ringOutputTakeover d) s = .next t ∧ bitOf (t.rd TWIN.STAT_DRIVES) d.code = true ∧ (t.txOf d).silent = false ∧
      t.linkState (.ring d) = 1 ∧ t = { s with regs := t.regs, tx := t.tx, timers := t.timers }) ∧
  (∀ (s : State) (d : Side), s.isTwin = true → s.twin.lost = false → s.rd TWIN.STAT_PEER_ROLE = 2 → s.twin.peerRec = true →
    d.code ≠ s.otp.index → bitOf (s.rd TWIN.STAT_DRIVES) d.code = true →
    ∃ t, exec (.ringOutputReturn d) s = .next t ∧ bitOf (t.rd TWIN.STAT_DRIVES) d.code = false ∧ (t.txOf d).silent = true ∧
      (t.out d.code).down = true) ∧
  (∀ (s : State) (p : Port), Permitted s p 0x0D 0x44 1 → s.isTwin = true →
    (s.twinRole = 1 → s.rd TWIN.STAT_PEER_ROLE = 2 → s.twin.peerRec = true → s.twin.peerStep = true → s.twin.release = none →
      s.twin.lost = false →
      ∃ t r, exec (.handover p) s = .next t ∧ t.twin.release = some r ∧ r.2.2 = 0 ∧ t.rd TWIN.STAT_HANDOVER_PEND = 1 ∧
        t.rd TWIN.CTRL_HANDOVER = 1 ∧ RegsBut s t [key TWIN.STAT_HANDOVER_PEND, key TWIN.CTRL_HANDOVER] ∧
        t = { s.heard p with regs := t.regs, twin := t.twin, free := t.free, sent := s.sent ++ [done p] }) ∧
    (s.twinRole ≠ 1 →
      ∃ t, exec (.handover p) s = .next t ∧ event t 0x0D 6 = true ∧ RegsBut s t [intStat 0x0D] ∧
        t = { s.heard p with regs := t.regs, msix := t.msix, sent := t.sent })) ∧
  (∀ (s : State) (p : Port), Permitted s p 0x0D 0x8C 1 → s.isTwin = true → s.rd TWIN.PEER_CMD_STATUS ≠ 1 →
    (s.linkState .twin = 8 →
      ∃ t, exec (.peerRelayAccess p) s = .next t ∧ t.rd TWIN.PEER_CMD_STATUS = 1 ∧
        (s.twin.out = [] → t.twin.access = [] ∧
          Emit.item "PEER_ACCESS" [s.rd TWIN.PEER_ADDR_WRITE, s.rd TWIN.PEER_ADDR_WORD, s.rd TWIN.PEER_WDATA_DATA] ∈ t.sent) ∧
        (s.twin.out ≠ [] →
          t.twin.access = [s.rd TWIN.PEER_ADDR_WRITE, s.rd TWIN.PEER_ADDR_WORD, s.rd TWIN.PEER_WDATA_DATA]) ∧
        Tbl.find t.timers tPeerRelay = some (s.mono + us 10) ∧
        RegsBut s t [key TWIN.PEER_CMD_STATUS, key TWIN.PEER_CMD_CAUSE, key TWIN.PEER_CMD_GO] ∧
        t = { s.heard p with regs := t.regs, twin := t.twin, timers := t.timers, sent := t.sent }) ∧
    (s.linkState .twin ≠ 8 →
      ∃ t, exec (.peerRelayAccess p) s = .next t ∧ t.rd TWIN.PEER_CMD_STATUS = 3 ∧ t.rd TWIN.PEER_CMD_CAUSE = 4 ∧
        event t 0x0D 7 = true)) ∧
  (∀ (s : State) (cause data : Nat), s.twinUp = true → s.rd TWIN.PEER_CMD_STATUS = 1 →
    (s.flag TWIN.PEER_ADDR_WRITE = false →
      ∃ t, exec (.peerRelayDone true cause data) s = .next t ∧ t.rd TWIN.PEER_CMD_STATUS = 2 ∧
        t.rd TWIN.PEER_RDATA_DATA = data % 2 ^ 32 ∧ event t 0x0D 7 = true ∧ t.running tPeerRelay = false) ∧
    (∃ t, exec (.peerRelayDone false cause data) s = .next t ∧ t.rd TWIN.PEER_CMD_STATUS = 3 ∧
        t.rd TWIN.PEER_CMD_CAUSE = cause % 2 ^ TWIN.PEER_CMD_CAUSE.w ∧ t.rd TWIN.PEER_RDATA_DATA = s.rd TWIN.PEER_RDATA_DATA)) ∧
  (∀ s : State, s.due tPeerRelay = true → s.rd TWIN.PEER_CMD_STATUS = 1 →
    ∃ t, exec .peerRelayTimeout s = .next t ∧ t.rd TWIN.PEER_CMD_STATUS = 3 ∧ t.rd TWIN.PEER_CMD_CAUSE = 4 ∧ event t 0x0D 7 = true ∧
      t.running tPeerRelay = false ∧ t = { s with regs := t.regs, twin := t.twin, timers := t.timers, msix := t.msix, sent := t.sent })

/-- Sync, Announce, Delay_Req, Pdelay_Req and Pdelay_Resp go out with their numbers at their intervals -/
def Obligations.TimeMessagesAreSentAsTheTimeUnitSays : Prop :=
  (∀ s : State, s.timeOn = true → s.isGm = true → s.candidate = true → s.running tSync = false → s.flt.todo = [] → Plain s 1 (s.nodeId * 8192) →
    Room s 7 1 →
    ∃ t, exec .syncSend s = .next t ∧ t.time = { s.time with syncId := (s.time.syncId + 1) % 65536 } ∧
      Tbl.find t.timers tSync = some (s.mono + s.syncInterval) ∧ TimersBut s t [tSync] ∧
      Queued s t 7 1 (fun f => f.tc = 1 ∧ f.dest = s.nodeId * 8192 ∧
        Carries f (fun m => m.kind = ptpSync ∧ m.seq = s.time.syncId % 65536))) ∧
  (∀ s : State, s.timeOn = true → s.isGm = true → s.candidate = true → s.running tAnnounce = false → s.flt.todo = [] →
    Plain s 1 (s.nodeId * 8192) → Room s 7 1 →
    ∃ t, exec .announceSend s = .next t ∧ t.time = { s.time with annId := (s.time.annId + 1) % 65536 } ∧
      Tbl.find t.timers tAnnounce = some (s.mono + ms 1000) ∧ TimersBut s t [tAnnounce] ∧
      Queued s t 7 1 (fun f => f.tc = 1 ∧ f.dest = s.nodeId * 8192 ∧
        Carries f (fun m => m.kind = ptpAnnounce ∧ m.seq = s.time.annId % 65536))) ∧
  (∀ s : State, s.timeOn = true → s.isGm = true → s.candidate = false →
    ∃ t, exec .syncSend s = .next t ∧ exec .announceSend s = .next t ∧ t.isGm = false ∧ t.time.known = false ∧
      t.rd TIME.STAT_STATE = (if s.flag TIME.CTRL_STEP_ARM then 1 else 2) ∧
      RegsBut s t [key TIME.STAT_GM, key TIME.STAT_STATE] ∧ t = { s with regs := t.regs, time := t.time }) ∧
  (∀ (s : State) (g : Nat), s.timeOn = true → s.isGm = false → s.time.known = true → s.running tDreq = false → s.flt.todo = [] →
    s.rd TIME.STAT_GM_NODE = g → g < 4096 → g ≠ s.nodeId → Plain s 1 (g * 8192) → Room s 7 1 →
    ∃ t, exec .delayReqSend s = .next t ∧
      t.time = { s.time with dreqId := (s.time.dreqId + 1) % 65536, dreq := some (s.time.dreqId, s.fabNs * 2 ^ 16) } ∧
      Tbl.find t.timers tDreq = some (s.mono + ms 1000 * 2 ^ s.rd TIME.CFG_LOG_DREQ / 16) ∧ TimersBut s t [tDreq] ∧
      Queued s t 7 1 (fun f => f.tc = 1 ∧ f.dest = g * 8192 ∧
        Carries f (fun m => m.kind = ptpDelayReq ∧ m.seq = s.time.dreqId % 65536))) ∧
  (∀ (s : State) (d : Side), s.timeOn = true → s.linkState (.ring d) = 8 → s.forwards d = true → s.running (tPdelay d) = false →
    ∃ t msg m, exec (.pdelayReqSend d) s = .next t ∧ parsePtp msg = some m ∧ m.kind = ptpPdelayReq ∧
      m.seq = s.time.pdId % 65536 ∧ m.domain = s.rd TIME.CFG_DOMAIN ∧ m.sender % 65536 = portNo d ∧
      t.time.pdId = (s.time.pdId + 1) % 65536 ∧
      ((s.txOf d).cur = .idle → (s.txOf d).maint = [] →
        Tbl.find t.time.pdelay d.code = some (m.seq, s.slot16 d) ∧ Emit.maint d.code (.pdelayReq msg) ∈ t.sent) ∧
      ((s.txOf d).cur ≠ .idle → (t.txOf d).maint = (s.txOf d).maint ++ [.pdelayReq msg] ∧ t.time.pdelay = s.time.pdelay) ∧
      Tbl.find t.timers (tPdelay d) = some (s.mono + ms 1000) ∧ TimersBut s t [tPdelay d] ∧
      t = { s with time := t.time, tx := t.tx, timers := t.timers, sent := t.sent }) ∧
  (∀ (s : State) (d : Side) (msg : List Byte) (t2 : Nat) (m : Ptp), s.timeOn = true → s.linkState (.ring d) = 8 →
    s.forwards d = true → parsePtp (bnat msg) = some m → m.kind = ptpPdelayReq → m.domain = s.rd TIME.CFG_DOMAIN →
    (s.txOf d).cur = .idle → (s.txOf d).maint = [] →
    ∃ t r a, exec (.pdelayReqRx d msg t2) s = .next t ∧ Emit.maint d.code (.pdelayResp r) ∈ t.sent ∧ parsePtp r = some a ∧
      a.kind = ptpPdelayResp ∧ a.seq = m.seq ∧ ofBe ((a.body.drop 10).take 10) = m.sender ∧
      (a.corr - (m.corr + s.slot16 d - t2)) % 2 ^ 64 = 0 ∧ t = { s with sent := t.sent }) ∧
  (∀ (s : State) (d : Side) (header receipt requester : List Byte) (t1 t4 : Nat) (m : Ptp), s.timeOn = true → s.linkState (.ring d) = 8 →
    parsePtp (bnat (header ++ receipt ++ requester)) = some m → m.kind = ptpPdelayResp → m.domain = s.rd TIME.CFG_DOMAIN →
    Tbl.find s.time.pdelay d.code = some (m.seq, t1) → ofBe ((m.body.drop 10).take 10) = ofBe (s.portId (portNo d)) →
    let v := ((((t4 : Int) - t1 - m.corr) / 2 / 256) % 2 ^ 32).toNat
    ∃ t, exec (.pdelayRespRx d header receipt t4 requester) s = .next t ∧
      t.rd TIME.SEG_DELAY_DELAY (pathOf d) = v ∧ Tbl.find t.time.pdelay d.code = none ∧
      Tbl.find t.time.nbr d.code = some (m.sender / 2 ^ 16 % 4096 + 1) ∧
      (s.rd TIME.SEG_DELAY_DELAY (pathOf d) + 512 < v ∨ v + 512 < s.rd TIME.SEG_DELAY_DELAY (pathOf d) →
        event t 0x04 6 = true) ∧
      RegsBut s t [key TIME.SEG_DELAY_DELAY (pathOf d), intStat 0x04, intStat 0x06] ∧
      t = { s with regs := t.regs, time := t.time, cup := t.cup, msix := t.msix, sent := t.sent })

/-- Received time messages give samples, offsets and the grandmaster; silence ends in election, holdover and path change -/
def Obligations.TimeMessagesReceivedMoveTheServo : Prop :=
  (∀ (s : State) (l : Link) (f : Frame) (m : Ptp) (stamp : Nat), s.timeOn = true → s.isGm = false → s.time.known = true →
    s.flt.todo = [] → s.rd TIME.STAT_GM_NODE = nodeOf f.src → parsePtp (bnat f.payload) = some m → m.kind = ptpSync →
    m.domain = s.rd TIME.CFG_DOMAIN → (∀ e ∈ s.time.ids, e.1 = ptpSync → e.2.1 = m.sender → e.2.2.1 = l.code → newerId m.seq e.2.2.2 = true) →
    (s.path (pathFrom l f)).samples = [] →
    ∃ t, exec (.syncRx l f stamp) s = .next t ∧ (t.path (pathFrom l f)).sync = some (ptpStampOf m.body, s.linkStamp l stamp, toSigned 64 f.launch) ∧
      (t.path (pathFrom l f)).heard = s.mono ∧ (ptpSync, m.sender, l.code, m.seq) ∈ t.time.ids ∧
      t.rd TIME.SYNC_RX_COUNT = (s.rd TIME.SYNC_RX_COUNT + 1) % 2 ^ 32 ∧ RegsBut s t [key TIME.SYNC_RX_COUNT] ∧
      t = { s with regs := t.regs, time := t.time, inbox := t.inbox }) ∧
  (∀ (s : State) (l : Link) (f : Frame) (m : Ptp) (stamp : Nat) (mpd : Int), s.timeOn = true → s.isGm = false → s.time.known = true →
    s.flt.todo = [] → s.rd TIME.STAT_GM_NODE = nodeOf f.src → parsePtp (bnat f.payload) = some m → m.kind = ptpSync →
    m.domain = s.rd TIME.CFG_DOMAIN → (∀ e ∈ s.time.ids, e.1 = ptpSync → e.2.1 = m.sender → e.2.2.1 = l.code → newerId m.seq e.2.2.2 = true) →
    (s.path (pathFrom l f)).mpd = some mpd → s.flag TIME.CTRL_STEP_ARM = false →
    let off := (s.linkStamp l stamp : Int) - (ptpStampOf m.body : Int) - toSigned 64 f.launch - mpd
    ∃ t, exec (.syncRx l f stamp) s = .next t ∧ t.rd TIME.OFFSET = ofSigned 32 (off / 256) ∧
      (s.rd TIME.STAT_PATH = pathFrom l f → s.flag TIME.CTRL_HOLD = false → bitOf (s.rdn 0x04 HDR.FLT_STAT_CHECKERS) 1 = false →
        t.rd TIME.RATE = ofSigned 32 (s.newRate off)) ∧
      (s.rd TIME.STAT_PATH ≠ pathFrom l f → t.rd TIME.RATE = s.rd TIME.RATE ∧ t.rd TIME.STAT_STATE = s.rd TIME.STAT_STATE) ∧
      RegsBut s t [key TIME.SYNC_RX_COUNT, key TIME.OFFSET, key TIME.RATE, key TIME.STAT_STATE, intStat 0x04, intStat 0x06] ∧
      t = { s with regs := t.regs, time := t.time, inbox := t.inbox, cup := t.cup, msix := t.msix, sent := t.sent }) ∧
  (∀ (s : State) (d : Side) (f : Frame) (m : Ptp) (stamp : Nat), s.timeOn = true → s.isGm = true → s.flt.todo = [] →
    parsePtp (bnat f.payload) = some m → m.kind = ptpDelayReq → m.domain = s.rd TIME.CFG_DOMAIN →
    (∀ e ∈ s.time.ids, e.1 = ptpDelayReq → e.2.1 = m.sender → e.2.2.1 = d.code → newerId m.seq e.2.2.2 = true) →
    nodeOf f.src ≠ s.nodeId → Plain s 1 (nodeOf f.src * 8192) → Room s 7 1 →
    ∃ t, exec (.delayReqRx d f stamp) s = .next t ∧ t.rd TIME.DREQ_RX_COUNT = (s.rd TIME.DREQ_RX_COUNT + 1) % 2 ^ TIME.DREQ_RX_COUNT.w ∧
      Queued s t 7 1 (fun g => g.tc = 1 ∧ g.dest = nodeOf f.src * 8192 ∧
        Carries g (fun a => a.kind = ptpDelayResp ∧ a.seq = m.seq % 65536 ∧ a.spec0 = f.dir % 256))) ∧
  (∀ (s : State) (d : Side) (f : Frame) (m : Ptp) (t1 t2 t3 : Nat) (c : Int) (p : Nat), s.timeOn = true → s.isGm = false →
    s.time.known = true → s.flt.todo = [] → s.rd TIME.STAT_GM_NODE = nodeOf f.src → parsePtp (bnat f.payload) = some m →
    m.kind = ptpDelayResp → m.domain = s.rd TIME.CFG_DOMAIN →
    (∀ e ∈ s.time.ids, e.1 = ptpDelayResp → e.2.1 = m.sender → e.2.2.1 = d.code → newerId m.seq e.2.2.2 = true) →
    p = (if m.spec0 = 1 then 0 else 1) → s.time.dreq = some (m.seq, t3) → (s.path p).sync = some (t1, t2, c) →
    (s.path p).samples = [] → ofBe ((m.body.drop 10).take 10) = ofBe s.portId →
    let v := (((t2 : Int) - t1 - c) + ((ptpStampOf m.body : Int) - t3 - m.corr)) / 2
    ∃ t, exec (.delayRespRx d f) s = .next t ∧ (t.path p).samples = [v] ∧ t.rd TIME.MPD_DELAY p = ofSigned 32 (v / 256) ∧
      RegsBut s t [key TIME.MPD_DELAY p, key TIME.STAT_PATH, intStat 0x06] ∧
      t = { s with regs := t.regs, time := t.time, inbox := t.inbox, cup := t.cup, msix := t.msix, sent := t.sent }) ∧
  (∀ (s : State) (l : Link) (f : Frame) (m : Ptp), s.timeOn = true → s.isGm = false → s.time.known = false → s.flt.todo = [] →
    s.flag TIME.CFG_GM_CAND = false → parsePtp (bnat f.payload) = some m → m.kind = ptpAnnounce → m.domain = s.rd TIME.CFG_DOMAIN →
    (∀ e ∈ s.time.ids, e.1 = ptpAnnounce → e.2.1 = m.sender → e.2.2.1 = l.code → newerId m.seq e.2.2.2 = true) →
    ∃ t, exec (.announceRx l f) s = .next t ∧ t.time.known = true ∧ t.rd TIME.STAT_GM_NODE = nodeOf f.src ∧ t.isGm = false ∧
      t.rd TIME.UTC_OFFSET = ofBe ((m.body.drop 10).take 2) % 2 ^ 16 ∧ t.time.heard = s.mono ∧ event t 0x04 5 = true ∧
      RegsBut s t [key TIME.STAT_GM, key TIME.STAT_GM_NODE, key TIME.UTC_VALID, key TIME.UTC_OFFSET, intStat 0x04] ∧
      t = { s with regs := t.regs, time := t.time, inbox := t.inbox, msix := t.msix, sent := t.sent }) ∧
  (∀ s : State, s.timeOn = true → s.candidate = true → s.isGm = false → s.time.heard + ms 3000 ≤ s.mono →
    ∃ t, exec .announceTimeout s = .next t ∧ t.isGm = true ∧ t.rd TIME.STAT_GM_NODE = s.nodeId ∧ t.rd TIME.STAT_STATE = 5 ∧
      event t 0x04 5 = true ∧ RegsBut s t [key TIME.STAT_GM, key TIME.STAT_GM_NODE, key TIME.STAT_STATE, intStat 0x04] ∧
      t = { s with regs := t.regs, time := t.time, msix := t.msix, sent := t.sent }) ∧
  (∀ s : State, s.timeOn = true → s.isGm = false → s.flag TIME.CTRL_STEP_ARM = false → s.rd TIME.STAT_STATE ≠ 4 →
    s.time.west.heard + 8 * s.syncInterval ≤ s.mono → s.time.east.heard + 8 * s.syncInterval ≤ s.mono →
    ∃ t, exec .syncTimeout s = .next t ∧ t.rd TIME.STAT_STATE = 4 ∧ t.rd TIME.RATE = s.rd TIME.RATE ∧ event t 0x04 4 = true ∧
      RegsBut s t [key TIME.STAT_STATE, intStat 0x04] ∧
      t = { s with regs := t.regs, time := t.time, msix := t.msix, sent := t.sent }) ∧
  (∀ (s : State) (cur : Nat), s.timeOn = true → cur ≤ 1 → s.rd TIME.STAT_PATH = cur →
    (s.path cur).heard + 3 * s.syncInterval ≤ s.mono → (s.path (1 - cur)).sync.isSome = true →
    s.mono < (s.path (1 - cur)).heard + 3 * s.syncInterval →
    ∃ t, exec .pathSyncTimeout s = .next t ∧ t.rd TIME.STAT_PATH = 1 - cur ∧ RegsBut s t [key TIME.STAT_PATH] ∧
      t = { s with regs := t.regs })

/-- Steps of fabric time, launch copies and timed outputs act as R206, R208, R211, R212 and R215 to R217 say -/
def Obligations.StepsLaunchesAndTimedOutputsComplete : Prop :=
  (∀ (s : State) (p : Port) (hold : Bool), Permitted s p 0x04 0x58 (2 + 4 * bit hold) →
    (s.mode = 1 ∨ s.mode = 2 →
      ∃ t, exec (.stepGo p hold) s = .next t ∧ t.fab = s.stepTarget % fabSpan ∧ t.rd TIME.STAT_STATE = (if s.isGm then 5 else 2) ∧
        t.flag TIME.CTRL_STEP_ARM = false ∧ t.flag TIME.CTRL_HOLD = hold ∧ event t 0x04 0 = true) ∧
    (s.mode ≠ 1 → s.mode ≠ 2 →
      ∃ t, exec (.stepGo p hold) s = .next t ∧ t.flag TIME.CTRL_HOLD = hold ∧ event t 0x04 1 = true ∧
        RegsBut s t [key TIME.CTRL_HOLD, intStat 0x04] ∧ t = { s.heard p with regs := t.regs, msix := t.msix, sent := t.sent })) ∧
  (∀ (s : State) (p : Port) (hold : Bool), Permitted s p 0x04 0x58 (1 + 4 * bit hold) →
    ∃ t, exec (.stepArm p hold) s = .next t ∧ t.flag TIME.CTRL_STEP_ARM = true ∧ t.flag TIME.CTRL_HOLD = hold ∧
      t.rd TIME.STAT_STATE = (if s.isGm then s.rd TIME.STAT_STATE else 1) ∧
      RegsBut s t [key TIME.CTRL_STEP_ARM, key TIME.CTRL_HOLD, key TIME.STAT_STATE] ∧
      t = { s.heard p with regs := t.regs, time := t.time, sent := s.sent ++ [done p] }) ∧
  (∀ (s : State) (v : Nat), v < 512 → outOf v < 2 → (∃ c ∈ (s.voq v).q, c.launchAt.isSome = true) →
    ∃ t, exec (.launchEligible v) s = .next t ∧ (t.voq v).q.length = (s.voq v).q.length ∧
      (∀ (k : Nat) (c : Copy), (s.voq v).q[k]? = some c →
        ∃ b, (t.voq v).q[k]? = some { c with eligible := b } ∧
          (∀ l, c.launchAt = some l → (b = true ↔ l ≤ s.fab + fns 300)) ∧
          (c.launchAt = none → b = c.eligible)) ∧
      (∀ w, w ≠ v → t.voq w = s.voq w) ∧ t = { s with voqs := t.voqs }) ∧
  (∀ (s : State) (d : Side) (v l : Nat) (c : Copy) (rest : List Copy), v < 512 → outOf v = d.code → (s.voq v).q = c :: rest →
    c.launchAt = some l → c.accepted = true → l + fns (s.rdn d.n MAC.LAUNCH_CFG_TOL * 10) < s.fab → (s.txOf d).cur ≠ .queue v →
    (s.out d.code).down = false → s.fenced 0x10 = false →
    ∃ t, exec (.launchDeadline v) s = .next t ∧ (t.voq v).q = rest ∧ Counted s t d.n MAC.LAUNCH_MISS_COUNT ∧
      t.rdn d.n MAC.LAUNCH_LAST_VALID = 1 ∧ t.rdn d.n MAC.LAUNCH_LAST_CLASS = clsOf v ∧
      t.rdn d.n MAC.LAUNCH_LAST_LATE = min (2 ^ 28 - 1) ((s.fab - l) / 2 ^ 48) ∧ event t (9 + d.n) 6 = true ∧
      (∀ w, w ≠ v → (t.voq w).q = (s.voq w).q)) ∧
  (∀ (s : State) (p : Port) (k : Nat), k < 4 → Permitted s p 0x05 (0x58 + 0x20 * k) 1 →
    (∀ e, (s.toutLatch k).first (s.fabNs + 200) = some e →
      ∃ t, exec (.toutArm p k) s = .next t ∧ (t.toutCh k).cur = some { s.toutLatch k with next := some e } ∧
        t.rd TOUT.STAT_ARMED k = 1 ∧ RegsBut s t [key TOUT.STAT_ARMED k] ∧ (∀ j, j ≠ k → t.toutCh j = s.toutCh j) ∧
        t = { s.heard p with regs := t.regs, tout := t.tout, sent := s.sent ++ [done p] }) ∧
    ((s.toutLatch k).first (s.fabNs + 200) = none → (s.toutLatch k).mode = 1 →
      ∃ t, exec (.toutArm p k) s = .next t ∧ (t.toutCh k).cur = none ∧ t.rd TOUT.STAT_ARMED k = 0 ∧ event t 0x05 (3 * k + 1) = true ∧
        RegsBut s t [key TOUT.STAT_ARMED k, intStat 0x05])) ∧
  (∀ (s : State) (p : Port) (k : Nat), k < 4 → Permitted s p 0x05 (0x58 + 0x20 * k) 2 →
    ∃ t, exec (.toutDisarm p k) s = .next t ∧ (t.toutCh k).cur = none ∧ t.rd TOUT.STAT_ARMED k = 0 ∧
      RegsBut s t [key TOUT.STAT_ARMED k] ∧ (∀ j, j ≠ k → t.toutCh j = s.toutCh j) ∧
      t = { s.heard p with regs := t.regs, tout := t.tout, sent := s.sent ++ [done p] }) ∧
  (∀ (s : State) (k : Nat), k < 4 → s.pdOn 6 = true →
    (∀ (e : Nat) (c : ToutSched) (w : Option Nat), (s.toutCh k).firstRise = some (e, c, w) →
      (∀ f, (s.toutCh k).firstFall = some f → e < f.at_) → e ≤ s.fabNs →
      ∃ t, exec (.toutEdge k) s = .next t ∧ t.rd TOUT.STAT_LEVEL k = 1 ∧
        (t.toutCh k).falls = (s.toutCh k).falls ++ [{ at_ := e + c.width, sched := c, own := w.isNone }] ∧
        (s.toutDrives c = true → t.rd TOUT.STAT_EDGES k = (s.rd TOUT.STAT_EDGES k + 1) % 2 ^ 16 ∧
          Emit.item "TOUT" [k, bit (!c.pol), e] ∈ t.sent) ∧
        (s.toutDrives c = false → t.sent = s.sent ∧ t.rd TOUT.STAT_EDGES k = s.rd TOUT.STAT_EDGES k) ∧
        RegsBut s t [key TOUT.STAT_LEVEL k, key TOUT.STAT_EDGES k, intStat 0x05] ∧
        t = { s with regs := t.regs, tout := t.tout, msix := t.msix, sent := t.sent }) ∧
    (∀ f : ToutFall, (s.toutCh k).falls = [f] → (∀ r, (s.toutCh k).firstRise = some r → f.at_ ≤ r.1) → f.at_ ≤ s.fabNs →
      f.sched.mode = 1 → f.own = true →
      ∃ t, exec (.toutEdge k) s = .next t ∧ t.rd TOUT.STAT_LEVEL k = 0 ∧ t.rd TOUT.STAT_ARMED k = 0 ∧
        (t.toutCh k).falls = [] ∧ (t.toutCh k).cur = none ∧ event t 0x05 (3 * k) = true ∧
        RegsBut s t [key TOUT.STAT_LEVEL k, key TOUT.STAT_ARMED k, intStat 0x05]))

/-- Every well-formed Yemal instruction decodes from its own word, and no word decodes to anything else -/
def Obligations.YemalDecodesWhatItEncodes : Prop :=
  (∀ (pc : Nat) (y : Yemal), y.wf pc = true → y.encode < 2 ^ 32 ∧ Yemal.decode pc y.encode = some y) ∧
  (∀ (pc w : Nat) (y : Yemal), Yemal.decode pc w = some y → y.wf pc = true ∧ y.encode = w)

/-- Words written out from the encoding tables decode to the instructions they stand for -/
def Obligations.YemalWordsOfTheSpecDecode : Prop :=
  (∀ pc : Nat, Yemal.decode pc 0xF0000000 = some (.yield false) ∧ Yemal.decode pc 0xF8000000 = some (.yield true) ∧
    Yemal.decode pc 0x81800001 = some (.alu .add true true 1) ∧ Yemal.decode pc 0x00800005 = some (.jmp false .lx 0 5) ∧
    Yemal.decode pc 0x50000000 = some (.pull .osr false 0) ∧ Yemal.decode pc 0x48000000 = some (.push true .isr 0 false) ∧
    Yemal.decode pc 0x67700000 = some (.mov .cnts .zero .copy) ∧ Yemal.decode pc 0xE0001234 = some (.ldi false .zero 0x1234) ∧
    Yemal.decode pc 0x05400000 = none ∧ Yemal.decode pc 0x08000000 = none)

/-- ALU writes DST op source, CMP writes nothing, Z and C are as R267 gives them; LDI writes its immediate -/
def Obligations.AluAndLdiComputeAsTheRuleStates : Prop :=
  (∀ (s : State) (e c : Nat) (y imm : Bool) (value : Nat), Fetches s e c (.alu .add y imm value) →
    let d := aluDst (s.ctx e c) y
    let v := aluSrc (s.ctx e c) y imm value
    ∃ t, exec (.aluAdd e c) s = .next t ∧ Issued s t e c (aluCtx (s.ctx e c) y true ((d + v) % 2 ^ 32) (decide (2 ^ 32 ≤ d + v)))) ∧
  (∀ (s : State) (e c : Nat) (y imm : Bool) (value : Nat), Fetches s e c (.alu .sub y imm value) →
    let d := aluDst (s.ctx e c) y
    let v := aluSrc (s.ctx e c) y imm value
    ∃ t, exec (.aluSub e c) s = .next t ∧ Issued s t e c (aluCtx (s.ctx e c) y true ((d + 2 ^ 32 - v) % 2 ^ 32) (decide (d < v)))) ∧
  (∀ (s : State) (e c : Nat) (y imm : Bool) (value : Nat), Fetches s e c (.alu .cmp y imm value) →
    let d := aluDst (s.ctx e c) y
    let v := aluSrc (s.ctx e c) y imm value
    ∃ t, exec (.aluCmp e c) s = .next t ∧ Issued s t e c (aluCtx (s.ctx e c) y false ((d + 2 ^ 32 - v) % 2 ^ 32) (decide (d < v)))) ∧
  (∀ (s : State) (e c : Nat) (y imm : Bool) (value : Nat), Fetches s e c (.alu .and y imm value) →
    ∃ t, exec (.aluAnd e c) s = .next t ∧
      Issued s t e c (aluCtx (s.ctx e c) y true (aluDst (s.ctx e c) y &&& aluSrc (s.ctx e c) y imm value) false)) ∧
  (∀ (s : State) (e c : Nat) (y imm : Bool) (value : Nat), Fetches s e c (.alu .or y imm value) →
    ∃ t, exec (.aluOr e c) s = .next t ∧
      Issued s t e c (aluCtx (s.ctx e c) y true (aluDst (s.ctx e c) y ||| aluSrc (s.ctx e c) y imm value) false)) ∧
  (∀ (s : State) (e c : Nat) (y imm : Bool) (value : Nat), Fetches s e c (.alu .xor y imm value) →
    ∃ t, exec (.aluXor e c) s = .next t ∧
      Issued s t e c (aluCtx (s.ctx e c) y true (aluDst (s.ctx e c) y ^^^ aluSrc (s.ctx e c) y imm value) false)) ∧
  (∀ (s : State) (e c : Nat) (y imm : Bool) (value : Nat), Fetches s e c (.alu .shl y imm value) →
    let d := aluDst (s.ctx e c) y
    let k := aluSrc (s.ctx e c) y imm value % 32
    ∃ t cy, exec (.aluShl e c) s = .next t ∧ (k ≠ 0 → cy = d.testBit (32 - k)) ∧
      Issued { s with free := t.free } t e c (aluCtx (s.ctx e c) y true (d * 2 ^ k % 2 ^ 32) cy)) ∧
  (∀ (s : State) (e c : Nat) (y imm : Bool) (value : Nat), Fetches s e c (.alu .shr y imm value) →
    let d := aluDst (s.ctx e c) y
    let k := aluSrc (s.ctx e c) y imm value % 32
    ∃ t cy, exec (.aluShr e c) s = .next t ∧ (k ≠ 0 → cy = d.testBit (k - 1)) ∧
      Issued { s with free := t.free } t e c (aluCtx (s.ctx e c) y true (d / 2 ^ k) cy)) ∧
  (∀ (s : State) (e c : Nat) (y : Bool) (mode : LdiMode) (imm : Nat), Fetches s e c (.ldi y mode imm) →
    ∃ t, exec (.ldi e c) s = .next t ∧ Issued s t e c { ((s.ctx e c).setXY y (BitVec.ofNat 32 (match mode with
      | .zero => imm
      | .sign => if imm < 0x8000 then imm else imm + 0xFFFF0000
      | .high => imm * 65536 + aluDst (s.ctx e c) y % 65536))) with pc := next (s.ctx e c) })

/-- PULL reads and advances R, PUSH writes and advances W, MARK, REWIND and RELEASE move M, R and F, as R237 states -/
def Obligations.FifoActionsFollowTheTableOfR237 : Prop :=
  (∀ (s : State) (e c : Nat) (low : Nat) (dst : PullDst) (gate : Bool), Fetches s e c (.pull dst gate low) →
    let x := s.ctx e c
    (gate = true → low < x.osrCnt → ∃ t, exec (.pull e c) s = .next t ∧ Issued s t e c { x with pc := next x }) ∧
    (gate = false ∨ x.osrCnt ≤ low → x.tx.flush = false → x.tx.words ≠ 0 →
      ∃ t, exec (.pull e c) s = .next t ∧ (t.ctx e c).tx.free = x.tx.free ∧
        Issued s t e c { (match dst with
          | .osr => { x with osr := (x.tx.ent x.tx.r).word, osrCnt := 32, osrEnd := (x.tx.ent x.tx.r).last }
          | .x => { x with x := (x.tx.ent x.tx.r).word }
          | .y => { x with y := (x.tx.ent x.tx.r).word }) with
          tx := { x.tx with r := (x.tx.r + 1) % 32, edge := (x.tx.ent x.tx.r).last }
          eop := (x.tx.ent x.tx.r).last
          pc := next x }) ∧
    (gate = false ∨ x.osrCnt ≤ low → x.tx.flush = false → x.tx.words = 0 →
      ∃ t, exec (.pull e c) s = .next t ∧ (t.ctx e c).stall = 1 ∧ (t.ctx e c).pc = x.pc ∧ (t.ctx e c).tx = x.tx ∧
        (t.ctx e c).latch.isSome = true ∧ (t.ctx e c).pin.frozen = true)) ∧
  (∀ (s : State) (e c : Nat), Fetches s e c (.fifo false .mark) →
    ∃ t, exec (.fifoMark e c) s = .next t ∧ (t.ctx e c).tx.free = (s.ctx e c).tx.free ∧
      Issued s t e c { s.ctx e c with tx := { (s.ctx e c).tx with m := (s.ctx e c).tx.r }, pc := next (s.ctx e c) }) ∧
  (∀ (s : State) (e c : Nat), Fetches s e c (.fifo false .rewind) →
    ∃ t, exec (.fifoRewind e c) s = .next t ∧ (t.ctx e c).tx.free = (s.ctx e c).tx.free ∧
      Issued s t e c { s.ctx e c with tx := { (s.ctx e c).tx with r := (s.ctx e c).tx.m }, pc := next (s.ctx e c) }) ∧
  (∀ (s : State) (e c : Nat), Fetches s e c (.fifo false .release) → (s.ctx e c).store = [] →
    ∃ t, exec (.fifoRelease e c) s = .next t ∧
      Issued s t e c { s.ctx e c with
        tx := { (s.ctx e c).tx with f := (s.ctx e c).tx.r, m := (s.ctx e c).tx.r }, pc := next (s.ctx e c) }) ∧
  (∀ (s : State) (e c min : Nat) (last keep : Bool) (src : PushSrc), Fetches s e c (.push last src min keep) →
    last = false ∨ (s.ctx e c).chk.dirIn = false →
    let x := s.ctx e c
    let ent : FifoEnt := { word := x.pushWord src, last := last }
    let x1 := if src = .isr ∧ keep = false then { x with isr := 0, isrCnt := 0 } else x
    (src = .isr → x.isrCnt < min → ∃ t, exec (.push e c) s = .next t ∧ Issued s t e c { x with pc := next x }) ∧
    (src ≠ .isr ∨ min ≤ x.isrCnt → x.rx.free ≠ 0 → s.rdn e ENG.CTX_CFG_FIFO_SW c = 1 →
      ∃ t, exec (.push e c) s = .next t ∧ Issued s t e c { x1 with
        rx := { x.rx with ents := Tbl.put x.rx.ents (x.rx.w % 16) ent, w := (x.rx.w + 1) % 32 }, pc := next x }) ∧
    (src ≠ .isr ∨ min ≤ x.isrCnt → x.rx.free = 16 → s.rdn e ENG.CTX_CFG_FIFO_SW c = 0 → x.rx.w < 32 → x.rx.r = x.rx.w →
        x.rx.flush = false → x.asmWhole = false → s.asmWords (clusterOf e) < 16384 →
      ∃ t, exec (.push e c) s = .next t ∧ (t.ctx e c).asm = x.asm ++ [ent.word] ∧ (t.ctx e c).asmWhole = last ∧
        (t.ctx e c).rx.words = 0 ∧ (t.ctx e c).rx.free = 16 ∧ (t.ctx e c).pc = next x ∧ Slot s t e c) ∧
    (src ≠ .isr ∨ min ≤ x.isrCnt → x.rx.free = 0 →
      ∃ t, exec (.push e c) s = .next t ∧ (t.ctx e c).stall = 2 ∧ (t.ctx e c).pc = x.pc ∧ (t.ctx e c).rx = x.rx ∧
        (t.ctx e c).pin.frozen = true))

/-- JMP, WAIT, MOV, STAMP and YIELD do what R260, R261, R266, R268 and R273 give, and nothing else -/
def Obligations.JumpsWaitsMovesAndYieldsComplete : Prop :=
  (∀ (s : State) (e c : Nat) (neg : Bool) (cond : JmpCond) (idx addr : Nat), Fetches s e c (.jmp neg cond idx addr) →
    let x := s.ctx e c
    let taken := (s.takeCycle e c).jmpCond e c idx x cond != neg
    let goes := if taken then addr else next x
    (∃ t, exec (.jmp e c) s = .next t ∧ Issued s t e c (match cond with
      | .lx => { x with x := x.x - 1, pc := goes }
      | .ly => { x with y := x.y - 1, pc := goes }
      | .miss => { x with miss := false, pc := goes }
      | _ => { x with pc := goes })) ∧
    (cond = .always → taken = true) ∧ (cond = .lx → (taken = true ↔ ((x.x.toNat + 2 ^ 32 - 1) % 2 ^ 32 ≠ 0 ↔ neg = false))) ∧
    (cond = .xlty → (taken = true ↔ (x.x.toNat < x.y.toNat ↔ neg = false))) ∧ (cond = .miss → (taken = true ↔ x.miss ≠ neg))) ∧
  (∀ (s : State) (e c idx count : Nat) (pol clr : Bool) (src : WaitSrc), Fetches s e c (.wait pol src idx count clr) →
    let x := s.ctx e c
    let met := (s.takeCycle e c).waitSrc e c idx count x src = pol
    (met → clr = false → ∃ t, exec (.wait e c) s = .next t ∧ Issued s t e c { x with pc := next x }) ∧
    (met → clr = true → ∃ t, exec (.wait e c) s = .next t ∧ (t.ctx e c).pc = next x ∧ (t.ctx e c).latch = none ∧
      bitOf (t.rdn e ENG.FLAGS_FLAG) idx = false) ∧
    (¬ met → ∃ t, exec (.wait e c) s = .next t ∧ (t.ctx e c).stall = 5 ∧ (t.ctx e c).pc = x.pc ∧
      (t.ctx e c).latch.isSome = true ∧ Slot s t e c)) ∧
  (∀ (s : State) (e c : Nat) (dst : MovDst) (src : MovSrc) (op : MovOp), Fetches s e c (.mov dst src op) →
    let x := s.ctx e c
    let v := movOp (s.movSrc e c x src) op
    (dst ≠ .pins → dst ≠ .dirs → ∃ t, exec (.mov e c) s = .next t ∧ Issued s t e c (match dst with
      | .x => { x with x := v, pc := next x }
      | .y => { x with y := v, pc := next x }
      | .osr => { x with osr := v, osrEnd := false, pc := next x }
      | .isr => { x with isr := v, pc := next x }
      | .pc => { x with pc := v.toNat % 2048 }
      | .cnts => { x with isrCnt := min 32 (v.toNat / 256 % 64), osrCnt := min 32 (v.toNat % 64), pc := next x }
      | _ => x)) ∧
    (dst = .dirs →
      ∃ t, exec (.mov e c) s = .next t ∧ Issued s t e c { x with
          pin := { x.pin with dirs := (t.ctx e c).pin.dirs, frozen := false, slot := (t.ctx e c).pin.slot }, pc := next x } ∧
        (∀ r, r < 8 → bitOf (t.ctx e c).pin.dirs r =
          (if r < x.pin.cnt ∧ r < s.pinCount e c then v.toNat.testBit r else bitOf x.pin.dirs r))) ∧
    (dst = .pins →
      ∃ t, exec (.mov e c) s = .next t ∧ (t.ctx e c).pin.dirs = x.pin.dirs ∧ (t.ctx e c).pc = next x ∧
        (∀ r, r < 8 → bitOf (t.ctx e c).pin.levels r =
          (if r < x.pin.cnt ∧ r < s.pinCount e c then v.toNat.testBit r else bitOf x.pin.levels r)))) ∧
  (∀ (s : State) (e c : Nat) (what : StampWhat) (toy keep : Bool), Fetches s e c (.stamp what toy keep) →
    let x := s.ctx e c
    ∃ t, exec (.stamp e c) s = .next t ∧ Issued s t e c (match what with
      | .eventRel => { (x.setXY toy (s.relative x.pevNs)) with pev := x.pev && keep, pc := next x }
      | .nowRel => { (x.setXY toy (s.relative s.fabNs)) with pc := next x }
      | .eventAbs => { x with x := BitVec.ofNat 32 (x.pevNs % 1000000000), y := BitVec.ofNat 32 (x.pevNs / 1000000000),
                              pev := x.pev && keep, pc := next x }
      | .nowAbs => { x with x := BitVec.ofNat 32 (s.fabNs % 1000000000), y := BitVec.ofNat 32 (s.fabNs / 1000000000),
                            pc := next x })) ∧
  (∀ (s : State) (e c : Nat), Fetches s e c (.yield false) →
    ∃ t, exec (.yield e c) s = .next t ∧ Issued s t e c { s.ctx e c with pc := next (s.ctx e c) }) ∧
  (∀ (s : State) (e c : Nat), Fetches s e c (.yield true) →
    let x := s.ctx e c
    let x1 := { x with eoc := true, eocCycle := some (s.dispatchCycle e), deferred := false, spent := false, pc := next x }
    (∃ t, exec (.yieldEoc e c) s = .next t ∧ t.ctx e c = { x1 with late := (t.ctx e c).late, nextIssue := s.dispatchCycle e + 4 }) ∧
    (x.deadline = 0 → x.deferred = false → ∃ t, exec (.yieldEoc e c) s = .next t ∧ Issued s t e c x1) ∧
    (x.deadline ≠ 0 → (x.began + x.deadline) * 2 ^ 48 < s.fab →
      ∃ t, exec (.yieldEoc e c) s = .next t ∧ t.ctx e c = { x1 with late := true, nextIssue := s.dispatchCycle e + 4 } ∧
        Counted s t e ENG.LATE_CNT_COUNT ∧ event t (engPage e) 8 = true))

/-- IN takes buffered samples, OUT and SET with SYNC join the pin units' queues, SET without SYNC acts at once -/
def Obligations.ShiftInstructionsAndPinSetsComplete : Prop :=
  (∀ (s : State) (e c count pin lanes : Nat) (lsb : Bool) (dst : InDst), Fetches s e c (.inBits count pin lanes lsb dst) →
    let x := s.ctx e c
    let w := 2 ^ lanes
    let bs := (x.pin.samples pin w (count / w)).flatMap (sampleBits pin w lsb)
    (count / w ≤ x.pin.sampled pin w → dst ≠ .isr →
      ∃ t, exec (.inBits e c) s = .next t ∧ Issued s t e c { x with
        x := if dst = .x then alignedBits lsb bs else x.x
        y := if dst = .y then alignedBits lsb bs else x.y
        pin := { x.pin.dropSamples pin w (count / w) with frozen := false, slot := (t.ctx e c).pin.slot }
        chk := { x.chk with run := (t.ctx e c).chk.run }
        pc := next x }) ∧
    (count / w ≤ x.pin.sampled pin w → dst = .isr →
      ∃ t, exec (.inBits e c) s = .next t ∧ Issued s t e c { x with
        isr := bs.foldl (fun r b => if lsb then (r >>> 1) ||| (if b then 0x80000000#32 else 0) else (r <<< 1) ||| (if b then 1#32 else 0)) x.isr
        isrCnt := (t.ctx e c).isrCnt
        pin := { x.pin.dropSamples pin w (count / w) with frozen := false, slot := (t.ctx e c).pin.slot }
        chk := { x.chk with run := (t.ctx e c).chk.run }
        pc := next x } ∧ (x.isrCnt ≤ 32 → (t.ctx e c).isrCnt = min 32 (x.isrCnt + count))) ∧
    (x.pin.sampled pin w < count / w → ∃ t, exec (.inBits e c) s = .next t ∧ (t.ctx e c).stall = 3 ∧ (t.ctx e c).pc = x.pc ∧
      (t.ctx e c).latch.isSome = true)) ∧
  (∀ (s : State) (e c count pin lanes cp : Nat) (lsb clk pol : Bool) (src : OutSrc),
    Fetches s e c (.outBits count pin lanes lsb src clk cp pol) →
    let x := s.ctx e c
    let w := 2 ^ lanes
    let q := if clk then some (cp, pol) else none
    let l := makeSlots pin w lsb q 32 (x.outBitsOf count lsb src)
    (src ≠ .osr → count / w ≤ x.pin.room (laneMask pin w) →
      ∃ t, exec (.outBits e c) s = .next t ∧
        (t.ctx e c).pin.outq = l.foldl queueBits x.pin.outq ∧ l.length = count / w ∧ (t.ctx e c).pc = next x ∧
        (t.ctx e c).osr = x.osr ∧ (t.ctx e c).osrCnt = x.osrCnt ∧ Slot s t e c) ∧
    (src = .osr → lanes = 0 → count ≤ x.osrCnt → x.osrCnt ≤ 32 → x.chk.append = false → count ≤ x.pin.room (laneMask pin 1) →
      ∃ t, exec (.outBits e c) s = .next t ∧
        (t.ctx e c).pin.outq = ((List.range count).map (fun i =>
          makeSlot pin 1 lsb q [if lsb then x.osr.getLsbD i else x.osr.getLsbD (31 - i)])).foldl queueBits x.pin.outq ∧
        (t.ctx e c).osr = (if lsb then x.osr >>> count else x.osr <<< count) ∧ (t.ctx e c).osrCnt = x.osrCnt - count ∧
        (t.ctx e c).pc = next x ∧ Slot s t e c) ∧
    (src ≠ .osr → x.pin.room (laneMask pin w) < count / w →
      ∃ t, exec (.outBits e c) s = .next t ∧ (t.ctx e c).stall = 4 ∧ (t.ctx e c).pc = x.pc ∧ (t.ctx e c).pin.outq = x.pin.outq)) ∧
  (∀ (s : State) (e c mask value : Nat) (dirs sync : Bool), Fetches s e c (.setPins dirs sync mask value) →
    let x := s.ctx e c
    (sync = true → x.pin.room mask ≠ 0 →
      ∃ t, exec (.setPins e c) s = .next t ∧ (t.ctx e c).pin.outq = queueSet x.pin.outq dirs mask value ∧
        (t.ctx e c).pin.levels = x.pin.levels ∧ (t.ctx e c).pin.dirs = x.pin.dirs ∧ (t.ctx e c).pc = next x ∧ Slot s t e c) ∧
    (sync = true → x.pin.room mask = 0 →
      ∃ t, exec (.setPins e c) s = .next t ∧ (t.ctx e c).stall = 4 ∧ (t.ctx e c).pc = x.pc ∧ (t.ctx e c).pin.outq = x.pin.outq) ∧
    (sync = false → dirs = true →
      ∃ t, exec (.setPins e c) s = .next t ∧ Issued s t e c { x with
          pin := { x.pin with dirs := (t.ctx e c).pin.dirs, frozen := false, slot := (t.ctx e c).pin.slot }, pc := next x } ∧
        (∀ r, r < 8 → bitOf (t.ctx e c).pin.dirs r =
          (if r < x.pin.cnt ∧ mask.testBit r = true then value.testBit r else bitOf x.pin.dirs r))) ∧
    (sync = false → dirs = false →
      ∃ t, exec (.setPins e c) s = .next t ∧ (t.ctx e c).pin.dirs = x.pin.dirs ∧ (t.ctx e c).pc = next x ∧
        (∀ r, r < 8 → bitOf (t.ctx e c).pin.levels r =
          (if r < x.pin.cnt ∧ mask.testBit r = true then value.testBit r else bitOf x.pin.levels r))))

/-- TTRIG arms in two visits, CHK works the check unit, EVENT raises and sets flags, FLUSH flushes -/
def Obligations.TriggersChecksEventsAndFlushesComplete : Prop :=
  (∀ (s : State) (e c pin offset : Nat) (base : TrigBase) (act : TrigAct) (xoff : Bool), act ≠ .cancel →
    (Fetches s e c (.ttrig base act pin xoff offset) →
      ∃ t l, exec (.ttrig e c) s = .next t ∧ l.at_ = some (s.trigTime (s.ctx e c) base xoff offset) ∧
        Issued s t e c { s.ctx e c with latch := some l }) ∧
    (∀ (l : Latch) (at_ : Int), Revisits s e c l (.ttrig base act pin xoff offset) → l.at_ = some at_ → l.hit = false →
      l.inj = false → l.resume = none → act = .origin → (s.ctx e c).pin.frozen = false →
      ∃ t, exec (.ttrig e c) s = .next t ∧ Slot s t e c ∧
        t.ctx e c = { s.ctx e c with
          action := some (at_, 4, pin, decide (at_ < (s.fab : Int) + 20 * 2 ^ 48))
          miss := (s.ctx e c).miss || decide (at_ < (s.fab : Int) + 20 * 2 ^ 48)
          latch := none, pc := next (s.ctx e c), nextIssue := s.dispatchCycle e + 4 }) ∧
    (∀ (l : Latch) (at_ : Int), Revisits s e c l (.ttrig base act pin xoff offset) → l.at_ = some at_ → l.hit = false →
      l.inj = false → l.resume = none → act ≠ .origin →
      ∃ t k, exec (.ttrig e c) s = .next t ∧ Slot s t e c ∧ TrigAct.all[k]? = some act ∧
        t.ctx e c = { s.ctx e c with
          action := some (at_, k, pin, decide (at_ < (s.fab : Int) + 20 * 2 ^ 48))
          miss := (s.ctx e c).miss || decide (at_ < (s.fab : Int) + 20 * 2 ^ 48)
          latch := none, pc := next (s.ctx e c), nextIssue := s.dispatchCycle e + 4 })) ∧
  (∀ (s : State) (e c : Nat) (l : Latch) (at_ : Int), Revisits s e c l (.ttrig .boundary .cancel 0 false 0) → l.at_ = some at_ →
    l.hit = false → l.inj = false → l.resume = none →
    ∃ t, exec (.ttrigCancel e c) s = .next t ∧ Slot s t e c ∧
      t.ctx e c = { s.ctx e c with action := none, latch := none, pc := next (s.ctx e c), nextIssue := s.dispatchCycle e + 4 }) ∧
  (∀ (s : State) (e c : Nat) (arg : Bool), Fetches s e c (.chk .seed arg 0) → (s.profile e (s.ctxProf e c)).src = 0 →
    let x := s.ctx e c
    ∃ t, exec (.chkSeed e c) s = .next t ∧ Issued s t e c { x with
      chk := { x.chk with run := (s.profile e (s.ctxProf e c)).init % 2 ^ (s.profile e (s.ctxProf e c)).w, dirIn := arg,
                          seeded := true, prof := some (s.ctxProf e c) }
      pc := next x }) ∧
  (∀ (s : State) (e c : Nat) (arg : Bool), Fetches s e c (.chk .seed arg 0) →
    arg = true ∨ (s.ctx e c).tx.words ≠ 0 →
    let x := s.ctx e c
    let p := s.profile e (s.ctxProf e c)
    let ent := x.tx.ent x.tx.r
    let packet := if arg then (s.ctxEndpoint e c, x.chk.rxseq) else (ent.dest, ent.seq)
    p.src = 1 ∨ p.src = 2 →
    ∃ t, exec (.chkSeed e c) s = .next t ∧ Issued s t e c { x with
      chk := { x.chk with
        run := (msbBits 25 packet.1 ++ (if p.src = 2 then msbBits 16 packet.2 else [])).foldl p.step (p.init % 2 ^ p.w)
        dirIn := arg, seeded := true, prof := some (s.ctxProf e c) }
      pc := next x }) ∧
  (∀ (s : State) (e c min : Nat) (keep : Bool) (src : PushSrc), Fetches s e c (.push true src min keep) →
    (s.ctx e c).chk.dirIn = true → src ≠ .isr ∨ min ≤ (s.ctx e c).isrCnt → 2 ≤ (s.ctx e c).rx.free →
    s.rdn e ENG.CTX_CFG_FIFO_SW c = 1 →
    let x := s.ctx e c
    ∃ t, exec (.push e c) s = .next t ∧ (t.ctx e c).rx.w = ((x.rx.w + 1) % 32 + 1) % 32 ∧ (t.ctx e c).pc = next x ∧ Slot s t e c ∧
      (t.ctx e c).chk.rxseq = (x.chk.rxseq + 1) % 65536 ∧
      (x.chk.run % 2 ^ (s.prof e c).w = (s.prof e c).residue % 2 ^ (s.prof e c).w →
        t.rdn e CHK.PASS_CNT_COUNT = (s.rdn e CHK.PASS_CNT_COUNT + 1) % 2 ^ CHK.PASS_CNT_COUNT.w) ∧
      (x.chk.run % 2 ^ (s.prof e c).w ≠ (s.prof e c).residue % 2 ^ (s.prof e c).w →
        Counted s t e CHK.BAD_CNT_COUNT ∧ event t (0x30 + e) 0 = true)) ∧
  (∀ (s : State) (e c : Nat) (arg : Bool), Fetches s e c (.chk .seedx arg 0) →
    let x := s.ctx e c
    ∃ t, exec (.chkSeedx e c) s = .next t ∧ Issued s t e c { x with
      chk := { x.chk with run := x.x.toNat % 2 ^ (s.profile e (s.ctxProf e c)).w, dirIn := arg, seeded := true,
                          prof := some (s.ctxProf e c) }
      pc := next x }) ∧
  (∀ (s : State) (e c width : Nat) (arg : Bool), Fetches s e c (.chk .fold arg width) →
    let x := s.ctx e c
    ∃ t, exec (.chkFold e c) s = .next t ∧ Issued s t e c { x with
      chk := { x.chk with run := (msbBits width x.x.toNat).foldl (s.prof e c).step (x.chk.run % 2 ^ (s.prof e c).w) }
      pc := next x }) ∧
  (∀ (s : State) (e c : Nat) (arg : Bool), Fetches s e c (.chk .append arg 0) →
    let x := s.ctx e c
    (arg = false → ∃ t, exec (.chkAppend e c) s = .next t ∧ Issued s t e c { x with chk := { x.chk with append := true }, pc := next x }) ∧
    (arg = true → ∃ t l, exec (.chkAppend e c) s = .next t ∧ (t.ctx e c).pin.outq = l.foldl queueBits x.pin.outq ∧ l ≠ [] ∧
      (t.ctx e c).chk = x.chk ∧ t.rdn e CHK.APPEND_CNT_COUNT = (s.rdn e CHK.APPEND_CNT_COUNT + 1) % 2 ^ CHK.APPEND_CNT_COUNT.w ∧
      (t.ctx e c).pc = next x ∧ Slot s t e c)) ∧
  (∀ (s : State) (e c : Nat) (arg : Bool), Fetches s e c (.chk .verify arg 0) →
    ∃ t, exec (.chkVerify e c) s = .next t ∧ Issued s t e c { s.ctx e c with
      k := decide ((s.ctx e c).chk.run % 2 ^ (s.prof e c).w = (s.prof e c).residue % 2 ^ (s.prof e c).w), pc := next (s.ctx e c) }) ∧
  (∀ (s : State) (e c : Nat) (arg : Bool), Fetches s e c (.chk .save arg 0) →
    ∃ t, exec (.chkSave e c) s = .next t ∧ Issued s t e c { s.ctx e c with
      x := BitVec.ofNat 32 (s.ctx e c).chk.run, pc := next (s.ctx e c) }) ∧
  (∀ (s : State) (e c : Nat) (arg : Bool), Fetches s e c (.chk .pause arg 0) →
    ∃ t, exec (.chkPause e c) s = .next t ∧ Issued s t e c { s.ctx e c with
      chk := { (s.ctx e c).chk with paused := arg }, pc := next (s.ctx e c) }) ∧
  (∀ (s : State) (e c num flag : Nat) (irq : Bool) (fop : FlagOp), Fetches s e c (.event num irq fop flag) →
    ∃ t, exec (.event e c) s = .next t ∧ Slot s t e c ∧ (t.ctx e c).pc = next (s.ctx e c) ∧
      (irq = true → event t (engPage e) num = true ∧ (t.ctx e c).lastEv = num ∧ bitOf (t.rdn e ENG.EV_CTX_RAISED) c = true) ∧
      (irq = false → event t (engPage e) num = event s (engPage e) num ∧ (t.ctx e c).lastEv = (s.ctx e c).lastEv ∧ t.sent = s.sent) ∧
      (fop ≠ .none → (s.dispatchCycle e + 4, decide (fop = .set), flag) ∈ (t.eng e).flagq)) ∧
  (∀ (s : State) (e c : Nat) (rx : Bool), Fetches s e c (.fifo rx .flush) → (s.ctx e c).store = [] → (s.ctx e c).asm = [] →
    let q := if rx then (s.ctx e c).rx else (s.ctx e c).tx
    let q1 := if q.edge then { q with f := q.r, m := q.r, flush := false, edge := true } else { q with flush := true }
    ∃ t, exec (.fifoFlush e c) s = .next t ∧
      Issued s t e c { s.ctx e c with tx := if rx then (s.ctx e c).tx else q1, rx := if rx then q1 else (s.ctx e c).rx, pc := next (s.ctx e c) })

/-- A base-cycle boundary acts once, swaps banks, renews contexts that have ended and begins pending starts -/
def Obligations.BoundariesSwapStartAndRenewContexts : Prop :=
  (∀ s : State, s.base.done = some s.boundary.1 → exec .baseCycleBoundary s = .next s) ∧
  (∀ (s : State) (e c : Nat), Quiet s → s.base.done ≠ some s.boundary.1 → s.engOn e = true → c < 32 →
    ∃ t, exec .baseCycleBoundary s = .next t ∧ t.base = { s.base with done := some s.boundary.1 } ∧ t.mode = s.mode ∧ t.fab = s.fab ∧
      ((s.ctx e c).run = true → (s.ctx e c).eoc = true →
        (t.ctx e c).run = true ∧ (t.ctx e c).eoc = false ∧ (t.ctx e c).late = false ∧ (t.ctx e c).began = s.boundary.1 ∧
        (t.ctx e c).deadline = min (10 * s.rdn e ENG.CTX_DEADLINE_D c) s.base.len ∧ (t.ctx e c).x = (s.ctx e c).x ∧
        (t.ctx e c).y = (s.ctx e c).y) ∧
      ((s.ctx e c).run = false → (s.ctx e c).startPend = true → s.engFenced e = false → s.mode ≠ 2 → s.pinCount e c = 0 →
          s.rdn e ENG.CTX_CFG_PIN_BASE c ≤ 256 →
        (t.ctx e c).run = true ∧ (t.ctx e c).eoc = false ∧ (t.ctx e c).began = s.boundary.1 ∧ (t.ctx e c).startPend = false) ∧
      (s.flagn e ENG.PB_STAT_SWAP_PEND = true → s.engFenced e = false → s.bank e ≤ 1 →
        t.bank e = 1 - s.bank e ∧ t.rdn e ENG.PB_STAT_SWAP_PEND = 0 ∧ (t.eng e).paused = true ∧
        (∀ p, s.resumeEntry e (1 - s.bank e) c = some p → (s.ctx e c).latch = none → (t.ctx e c).pc = p))) ∧
  (∀ (s : State) (len phase at_ : Nat), s.base.pend = some (len, phase, at_) → at_ ≤ s.fabNs →
    ∃ t, exec .bcGridChange s = .next t ∧ t.base.len = len ∧ t.base.phase = phase ∧ t.base.since = at_ ∧ t.base.pend = none ∧
      t.base.done = s.base.done ∧ t = { s with base := t.base }) ∧
  (∀ (s : State) (e : Nat), s.due (tPause e) = true →
    ∃ t, exec (.dispatchResume e) s = .next t ∧ t.eng e = { s.eng e with paused := false } ∧ t.running (tPause e) = false ∧
      (∀ n, n ≠ e → t.eng n = s.eng n) ∧ TimersBut s t [tPause e] ∧ t = { s with engs := t.engs, timers := t.timers }) ∧
  (∀ (s : State) (e c : Nat), (s.ctx e c).deferred = true → (s.ctx e c).deferAt + fns (s.ctxTol (s.ctxClass e c)) ≤ s.fab →
    ∃ t, exec (.deferralEnd e c) s = .next t ∧ t.ctx e c = { s.ctx e c with deferred := false, spent := true } ∧ CtxsBut s t e c ∧
      RegsBut s t [intStat 0x06] ∧ t = { s with regs := t.regs, ctxs := t.ctxs, cup := t.cup, msix := t.msix, sent := t.sent }) ∧
  (∀ (s : State) (p : Port) (e : Nat) (live : Bool), e < 16 →
    (Permitted s p (engPage e) 0xC0 (put1 live 2 + 1) →
      ∃ t, exec (.pbSwap p e live) s = .next t ∧ t.rdn e ENG.PB_STAT_SWAP_PEND = 1 ∧ t.flagn e ENG.PB_CTRL_LIVE_WR = live ∧
        RegsBut s t [ENG.PB_STAT_SWAP_PEND.key e 0, ENG.PB_CTRL_LIVE_WR.key e 0] ∧
        t = { s.heard p with regs := t.regs, sent := s.sent ++ [done p] }) ∧
    (Permitted s p (engPage e) 0xC0 (put1 live 2 + 2) →
      ∃ t, exec (.pbCancel p e live) s = .next t ∧ t.rdn e ENG.PB_STAT_SWAP_PEND = 0 ∧ t.flagn e ENG.PB_CTRL_LIVE_WR = live ∧
        RegsBut s t [ENG.PB_STAT_SWAP_PEND.key e 0, ENG.PB_CTRL_LIVE_WR.key e 0] ∧
        t = { s.heard p with regs := t.regs, sent := s.sent ++ [done p] }))

/-- START, START_NOW, CLEAR, STOP, INJ_GO and what completes them act on one context as R245, R246, R255 and R274 say -/
def Obligations.ContextsStartStopClearAndInject : Prop :=
  (∀ (s : State) (p : Port) (e c : Nat) (pre : Bool), e < 16 → c < 32 → s.flt.todo = [] →
    (Permitted s p (engPage e) (ctxOff c 0) (ctxCtrl pre 0) → (s.ctx e c).run = false →
      ∃ t, exec (.ctxStart p e c pre) s = .next t ∧ t.ctx e c = { s.ctx e c with startPend := true } ∧ CtxsBut s t e c ∧
        t.rdn e ENG.CTX_CTRL_INJ_PREEMPT c = bit pre ∧ RegsBut s t [ENG.CTX_CTRL_INJ_PREEMPT.key e c] ∧
        t = { s.heard p with regs := t.regs, ctxs := t.ctxs, sent := s.sent ++ [done p] }) ∧
    (Permitted s p (engPage e) (ctxOff c 0) (ctxCtrl pre 1) → (s.ctx e c).run = false → s.engFenced e = false → s.engOn e = true →
      (s.mode = 2 →
        ∃ t, exec (.ctxStartNow p e c pre) s = .next t ∧ t.ctx e c = { s.ctx e c with startPend := true } ∧ CtxsBut s t e c) ∧
      (s.mode ≠ 2 → s.claimClash e c = none → s.rdn e ENG.CTX_CFG_PIN_BASE c + s.pinCount e c ≤ 256 →
        ∃ t, exec (.ctxStartNow p e c pre) s = .next t ∧ (t.ctx e c).run = true ∧ (t.ctx e c).eoc = false ∧ (t.ctx e c).stall = 0 ∧
          (t.ctx e c).stopResult = 0 ∧ (t.ctx e c).pc = (s.ctx e c).pc ∧ (t.ctx e c).began = s.boundary.1 ∧
          (t.ctx e c).pin.held = decide (0 < s.pinCount e c) ∧ (t.ctx e c).pin.base = s.rdn e ENG.CTX_CFG_PIN_BASE c ∧
          (t.ctx e c).pin.cnt = s.pinCount e c ∧ CtxsBut s t e c ∧
          RegsBut s t [ENG.CTX_CTRL_INJ_PREEMPT.key e c, ENG.DEFER_CNT_COUNT.key e 0] ∧
          t = { s.heard p with regs := t.regs, ctxs := t.ctxs, sent := s.sent ++ [done p] }) ∧
      (∀ q k, s.mode ≠ 2 → s.claimClash e c = some (q, k) →
        ∃ t, exec (.ctxStartNow p e c pre) s = .next t ∧ t.ctxs = s.ctxs ∧ t.rdn (q / 32) PINBANK.CLAIM_LAST_VALID = 1 ∧
          t.rdn (q / 32) PINBANK.CLAIM_LAST_REQ_ENG = e ∧ t.rdn (q / 32) PINBANK.CLAIM_LAST_REQ_CTX = c ∧
          t.rdn (q / 32) PINBANK.CLAIM_LAST_PIN = q % 32)) ∧
    (Permitted s p (engPage e) (ctxOff c 0) (ctxCtrl pre 3) → (s.ctx e c).run = false → (s.ctx e c).read = none → (s.ctx e c).store = [] →
      ∃ t, exec (.ctxClear p e c pre) s = .next t ∧
        t.ctx e c = { asm := (s.ctx e c).asm, asmWhole := (s.ctx e c).asmWhole, nextIssue := (s.ctx e c).nextIssue } ∧ CtxsBut s t e c ∧
        (∀ f ∈ clearFields, t.rdn e f c = f.dflt c) ∧ RegsBut s t (clearFields.map (fun f => f.key e c)) ∧
        t = { s.heard p with regs := t.regs, ctxs := t.ctxs, sent := s.sent ++ [done p] }) ∧
    (Permitted s p (engPage e) (ctxOff c 0) (ctxCtrl pre 2) → (s.ctx e c).run = true →
      ((s.ctx e c).eoc = true → (s.ctx e c).eocCycle ≠ some (s.issueCycle e) →
        ∃ t, exec (.ctxStop p e c pre) s = .next t ∧ (t.ctx e c).run = false ∧ (t.ctx e c).stopResult = 2 ∧
          (t.ctx e c).abortLate = false ∧ event t (engPage e) 10 = true ∧ CtxsBut s t e c) ∧
      ((s.ctx e c).eoc = false → (s.ctx e c).stall ≠ 0 →
        ∃ t, exec (.ctxStop p e c pre) s = .next t ∧ (t.ctx e c).run = false ∧ (t.ctx e c).stopResult = 1 ∧
          (t.ctx e c).latch = none ∧ event t (engPage e) 10 = true ∧ CtxsBut s t e c) ∧
      ((s.ctx e c).eoc = false → (s.ctx e c).stall = 0 →
        ∃ t, exec (.ctxStop p e c pre) s = .next t ∧ t.ctx e c = { s.ctx e c with stopReq := true } ∧ CtxsBut s t e c ∧
          RegsBut s t [ENG.CTX_CTRL_INJ_PREEMPT.key e c] ∧ t = { s.heard p with regs := t.regs, ctxs := t.ctxs, sent := s.sent ++ [done p] })) ∧
    (Permitted s p (engPage e) (ctxOff c 0) (ctxCtrl pre 4) → (s.ctx e c).inj = none →
      (pre = false ∨ (s.ctx e c).run = false ∨ (s.ctx e c).stall = 0 →
        ∃ t, exec (.injGo p e c pre) s = .next t ∧ t.ctx e c = { s.ctx e c with inj := some (s.rdn e ENG.CTX_INJ_INSTR c) } ∧
          CtxsBut s t e c ∧ t = { s.heard p with regs := t.regs, ctxs := t.ctxs, sent := s.sent ++ [done p] }) ∧
      (pre = true → (s.ctx e c).run = true → (s.ctx e c).stall ≠ 0 →
        ∃ t, exec (.injGo p e c pre) s = .next t ∧ (t.ctx e c).inj = some (s.rdn e ENG.CTX_INJ_INSTR c) ∧ (t.ctx e c).stall = 0 ∧
          (t.ctx e c).latch = none ∧ (t.ctx e c).savedPc = (s.ctx e c).pc ∧ (t.ctx e c).savedValid = true ∧
          (t.ctx e c).pin.frozen = true ∧ CtxsBut s t e c))) ∧
  (∀ (s : State) (e c : Nat), s.pick e = some c → s.flt.todo = [] → (s.ctx e c).stopReq = true → (s.ctx e c).latch = none →
    (s.progWord e (s.bank e) (s.ctx e c).pc = 0xF8000000 →
      ∃ t, exec (.stopCompletion e c) s = .next t ∧ (t.ctx e c).run = false ∧ (t.ctx e c).stopResult = 2 ∧ (t.ctx e c).abortLate = true ∧
        event t (engPage e) 10 = true ∧ event t (engPage e) 15 = true ∧ CtxsBut s t e c) ∧
    (s.progWord e (s.bank e) (s.ctx e c).pc ≠ 0xF8000000 →
      ∃ t, exec (.stopCompletion e c) s = .next t ∧ (t.ctx e c).run = false ∧ (t.ctx e c).stopResult = 1 ∧ (t.ctx e c).abortLate = false ∧
        (t.ctx e c).pc = (s.ctx e c).pc ∧ t.rdn e ENG.DISP_COUNT = s.rdn e ENG.DISP_COUNT ∧ event t (engPage e) 10 = true ∧
        CtxsBut s t e c)) ∧
  (∀ (s : State) (e c w : Nat), s.pick e = some c → s.flt.todo = [] → (s.ctx e c).stopReq = false → (s.ctx e c).latch = none →
    (s.ctx e c).inj = some w →
    (∀ y mode imm, Yemal.decode (s.pinCount e c) w = some (.ldi y mode imm) →
      ∃ t, exec (.injectionExecute e c) s = .next t ∧ Issued s t e c { ((s.ctx e c).setXY y
        (ldiValue (if y then (s.ctx e c).y else (s.ctx e c).x) imm mode)) with inj := none }) ∧
    (Yemal.decode (s.pinCount e c) w = some (.yield false) →
      ∃ t, exec (.injectionExecute e c) s = .next t ∧ Issued s t e c { s.ctx e c with inj := none }) ∧
    (Yemal.decode (s.pinCount e c) w = none →
      ∃ t, exec (.injectionExecute e c) s = .next t ∧ (t.ctx e c).run = false ∧ (t.ctx e c).stopResult = 1 ∧
        t.rdn e ENG.PB_ILL_INJECTED = 1 ∧ t.rdn e ENG.PB_ILL_WORD_INSTR = w % 2 ^ 32)) ∧
  (∀ (s : State) (e c : Nat), s.pick e = some c → s.flt.todo = [] → (s.ctx e c).stopReq = false → (s.ctx e c).latch = none →
    (s.ctx e c).inj = none → Yemal.decode (s.pinCount e c) (s.progWord e (s.bank e) (s.ctx e c).pc) = none →
    ∃ t, exec (.reservedEncoding e c) s = .next t ∧ (t.ctx e c).run = false ∧ (t.ctx e c).stopResult = 1 ∧
      t.rdn e ENG.PB_ILL_VALID = 1 ∧ t.rdn e ENG.PB_ILL_INJECTED = 0 ∧ t.rdn e ENG.PB_ILL_PC = (s.ctx e c).pc % 2 ^ 11 ∧
      t.rdn e ENG.PB_ILL_WORD_INSTR = s.progWord e (s.bank e) (s.ctx e c).pc % 2 ^ 32 ∧ event t (engPage e) 10 = true ∧
      (t.ctx e c).x = (s.ctx e c).x ∧ CtxsBut s t e c)

/-- Stalls end, FIFOs are flushed, pushed and popped by software, and context records are captured as the rules say -/
def Obligations.StallsFifosAndSnapshotsComplete : Prop :=
  (∀ (s : State) (e c : Nat) (l : Latch), (s.ctx e c).run = true → (s.ctx e c).stall ≠ 0 → (s.ctx e c).latch = some l → s.flt.todo = [] →
    (∀ pol src idx count, Yemal.decode (s.pinCount e c) l.word = some (.wait pol src idx count false) →
      (s.waitSrc e c idx count (s.ctx e c) src = pol → ∃ t, exec (.stallEnd e c) s = .next t ∧ (t.ctx e c).stall = 0 ∧
        (t.ctx e c).latch = some { l with hit := true } ∧ (t.ctx e c).pc = (s.ctx e c).pc ∧ CtxsBut s t e c) ∧
      (s.waitSrc e c idx count (s.ctx e c) src ≠ pol → (s.ctx e c).stall ≠ 6 → exec (.stallEnd e c) s = .next s)) ∧
    (∀ dst gate low, Yemal.decode (s.pinCount e c) l.word = some (.pull dst gate low) → (s.ctx e c).tx.flush = false →
      (s.ctx e c).tx.words ≠ 0 → ∃ t, exec (.stallEnd e c) s = .next t ∧ (t.ctx e c).stall = 0 ∧
        (t.ctx e c).latch = some { l with hit := true } ∧ (t.ctx e c).tx = (s.ctx e c).tx ∧
        (t.ctx e c).pin.frozen = ((s.ctx e c).pin.frozen && !l.froze) ∧ CtxsBut s t e c)) ∧
  (∀ (s : State) (e c : Nat), (s.ctx e c).run = true → (s.ctx e c).pin.fed = true → (s.ctx e c).pin.noBits = true →
    (s.ctx e c).stall ≠ 1 → (s.ctx e c).stall ≠ 6 →
    ∃ t, exec (.pinUnderrun e c) s = .next t ∧
      t.ctx e c = { s.ctx e c with pin := { (s.ctx e c).pin with fed := false, underruns := (s.ctx e c).pin.underruns + 1 } } ∧
      CtxsBut s t e c ∧ t = { s with ctxs := t.ctxs }) ∧
  (∀ (s : State) (p : Port) (e : Nat), e < 16 → s.flt.todo = [] →
    let c := s.selCtx e
    let q1 (q : Fifo) : Fifo :=
      if q.edge then { q with f := q.r, m := q.r, flush := false, edge := true } else { q with flush := true }
    (Permitted s p (engPage e) 0x94 1 → (s.ctx e c).store = [] →
      ∃ t, exec (.txFlush p e) s = .next t ∧ t.ctx e c = { s.ctx e c with tx := q1 (s.ctx e c).tx } ∧ CtxsBut s t e c ∧
        t = { s.heard p with ctxs := t.ctxs, sent := s.sent ++ [done p] }) ∧
    (Permitted s p (engPage e) 0x94 2 → (s.ctx e c).asm = [] ∨ (s.ctx e c).asmWhole = true →
      ∃ t, exec (.rxFlush p e) s = .next t ∧ t.ctx e c = { s.ctx e c with rx := q1 (s.ctx e c).rx } ∧ CtxsBut s t e c ∧
        t = { s.heard p with ctxs := t.ctxs, sent := s.sent ++ [done p] }) ∧
    (Permitted s p (engPage e) 0x94 2 → (s.ctx e c).asm ≠ [] → (s.ctx e c).asmWhole = false →
      ∃ t, exec (.rxFlush p e) s = .next t ∧ (t.ctx e c).asm = [] ∧ (t.ctx e c).asmWhole = false ∧
        Counted s t e ENG.FRM_DROP_CNT_COUNT ∧ CtxsBut s t e c)) ∧
  (∀ (s : State) (e c n : Nat), s.flt.todo = [] →
    ((s.ctx e c).tx.flush = true → (s.ctx e c).tx.toEnd = some n → (s.ctx e c).store = [] →
      ∃ t, exec (.flushComplete e c false) s = .next t ∧ CtxsBut s t e c ∧
        t.ctx e c = { s.ctx e c with tx := { (s.ctx e c).tx with
          r := ((s.ctx e c).tx.r + n) % 32, m := ((s.ctx e c).tx.r + n) % 32, f := ((s.ctx e c).tx.r + n) % 32
          flush := false, edge := true } } ∧ t = { s with ctxs := t.ctxs }) ∧
    ((s.ctx e c).rx.flush = true → (s.ctx e c).rx.toEnd = none → s.rdn e ENG.CTX_CFG_FIFO_SW c = 1 →
      ∃ t, exec (.flushComplete e c true) s = .next t ∧ CtxsBut s t e c ∧
        t.ctx e c = { s.ctx e c with rx := { (s.ctx e c).rx with r := (s.ctx e c).rx.w } } ∧ t = { s with ctxs := t.ctxs })) ∧
  (∀ (s : State) (p : Port) (e v : Nat), e < 16 → s.rdn e ENG.CTX_CFG_FIFO_SW (s.selCtx e) = 1 →
    let c := s.selCtx e
    let x := s.ctx e c
    (Permitted s p (engPage e) 0x98 v → x.tx.free ≠ 0 →
      ∃ t, exec (.txfPush p e v) s = .next t ∧ (t.ctx e c).tx.w = (x.tx.w + 1) % 32 ∧ ((t.ctx e c).tx.ent x.tx.w).word = BitVec.ofNat 32 v ∧
        ((t.ctx e c).tx.ent x.tx.w).last = false ∧ CtxsBut s t e c ∧ t = { s.heard p with ctxs := t.ctxs, sent := s.sent ++ [done p] }) ∧
    (Permitted s p (engPage e) 0x9C v → x.tx.free ≠ 0 →
      ∃ t, exec (.txfPushEnd p e v) s = .next t ∧ (t.ctx e c).tx.w = (x.tx.w + 1) % 32 ∧
        ((t.ctx e c).tx.ent x.tx.w).word = BitVec.ofNat 32 v ∧ ((t.ctx e c).tx.ent x.tx.w).last = true ∧ CtxsBut s t e c ∧
        t = { s.heard p with ctxs := t.ctxs, sent := s.sent ++ [done p] }) ∧
    (Permitted s p (engPage e) 0x98 v → x.tx.free = 0 →
      ∃ t, exec (.txfPush p e v) s = .next t ∧ t.rdn e ENG.FIFO_CTRL_SW_OVF c = 1 ∧ RegsBut s t [ENG.FIFO_CTRL_SW_OVF.key e c] ∧
        t = { s.heard p with regs := t.regs, sent := s.sent ++ [done p] }) ∧
    (Readable s p (engPage e) 0xA0 → x.rx.words ≠ 0 → x.rx.flush = false →
      ∃ t, exec (.rxfPop p e) s = .next t ∧ t.sent = s.sent ++ [.answer p.code true 0 (x.rx.ent x.rx.r).word.toNat] ∧
        (t.ctx e c).rx.r = (x.rx.r + 1) % 32 ∧ (t.ctx e c).rx.f = (x.rx.r + 1) % 32 ∧ (t.ctx e c).rx.w = x.rx.w ∧
        t.rdn e ENG.RXF_POP_STAT_VALID c = 1 ∧ t.rdn e ENG.RXF_POP_STAT_END c = bit (x.rx.ent x.rx.r).last ∧ CtxsBut s t e c) ∧
    (Readable s p (engPage e) 0xA0 → x.rx.words = 0 →
      ∃ t, exec (.rxfPop p e) s = .next t ∧ t.sent = s.sent ++ [.answer p.code true 0 0] ∧ t.rdn e ENG.RXF_POP_STAT_VALID c = 0 ∧
        t.ctxs = s.ctxs)) ∧
  (∀ (s : State) (p : Port) (e c : Nat), e < 16 → c < 32 → Permitted s p (engPage e) 0x5C (c + 32) →
    s.rdn e ENG.SNAP_CTRL_DONE = 1 →
    ∃ t, exec (.contextSnapshot p e c) s = .next t ∧ (t.eng e).snapOf = some c ∧ (t.eng e).captured = none ∧
      t.rdn e ENG.SNAP_CTRL_DONE = 0 ∧ t.rdn e ENG.SNAP_CTRL_CONTEXT = c ∧
      Tbl.find t.timers (tSnap e) = some (s.mono + us 1) ∧ TimersBut (s.heard p) t [tSnap e] ∧
      RegsBut s t [ENG.SNAP_CTRL_DONE.key e 0, ENG.SNAP_CTRL_CONTEXT.key e 0] ∧
      t = { s.heard p with regs := t.regs, engs := t.engs, timers := t.timers, sent := s.sent ++ [done p] }) ∧
  (∀ (s : State) (e c : Nat), (s.eng e).snapOf = some c →
    (∀ ws, (s.eng e).captured = some ws →
      ∃ t, exec (.contextSnapshotDone e) s = .next t ∧ (t.eng e).window = ws ∧ (t.eng e).snapOf = none ∧
        t.rdn e ENG.SNAP_CTRL_DONE = 1 ∧ event t (engPage e) 11 = true ∧ t.ctxs = s.ctxs) ∧
    ((s.eng e).captured = none → s.due (tSnap e) = true →
      ∃ t, exec (.contextSnapshotDone e) s = .next t ∧ (t.eng e).window = s.ctxBlock e c ∧ t.rdn e ENG.SNAP_CTRL_DONE = 1 ∧
        event t (engPage e) 11 = true ∧ t.ctxs = s.ctxs))

/-- Packets become frames, frames become words, pending reads end, sub-addresses and program memory are written -/
def Obligations.FramersAndProgramMemoryComplete : Prop :=
  (∀ (s : State) (e c tc dest : Nat) (ws : List Word), e < 16 → c < 32 → s.flt.todo = [] → s.isTwin = false → (s.ctx e c).asmWhole = true →
    (s.ctx e c).asm = ws → ws.length ≤ 32 → (s.ctx e c).rx.words = 0 → s.rdn e ENG.CTX_CFG_HDR c = 0 →
    s.rdn e ENG.CTX_DEST_TC c = tc → tc < 8 → s.rdn e ENG.CTX_DEST_DEST c = dest → nodeOf dest ≠ s.nodeId → Plain s tc dest →
    s.repeatOf e c tc = none → Room s (4 + clusterOf e) tc →
    ∃ t, exec (.framerEmit e c) s = .next t ∧ (t.ctx e c).asm = [] ∧ (t.ctx e c).asmWhole = false ∧ CtxsBut s t e c ∧
      Queued s t (4 + clusterOf e) tc (fun f => f.tc = tc ∧ f.dest = dest ∧ f.src = s.ctxEndpoint e c ∧ f.payload = wordBytes ws)) ∧
  (∀ (s : State) (f : Frame) (e c : Nat), s.ctxOf (localOf f.dest) = some (e, c) → localOf f.dest < 2048 → s.flt.todo = [] →
    s.storeBytes (clusterOf e) + f.statedLen ≤ 65536 → f.resp = false → f.refuse = false → f.tc ≠ 4 → f.len ≠ 0 → f.len % 4 = 0 →
    s.packetUnavail e c = false → s.rdn e ENG.CTX_CFG_HDR c = 0 →
    (s.rdn e ENG.CTX_CFG_FIFO_SW c = 1 →
      ∃ t, exec (.framerRx f) s = .next t ∧ CtxsBut s t e c ∧ t.ctx e c = { s.ctx e c with
        store := (s.ctx e c).store ++ [{ words := bytesWords f.payload, size := f.statedLen, req := f, wack := false }] } ∧
        t = { s with inbox := t.inbox, ctxs := t.ctxs, voqs := t.voqs }) ∧
    (∀ w, s.rdn e ENG.CTX_CFG_FIFO_SW c = 0 → (s.ctx e c).store = [] → bytesWords f.payload = [w] → (s.ctx e c).tx.free ≠ 0 →
      ∃ t, exec (.framerRx f) s = .next t ∧ CtxsBut s t e c ∧ (t.ctx e c).store = [] ∧
        t.ctx e c = { s.ctx e c with tx := (s.ctx e c).tx.put { word := w, last := true, dest := f.dest, seq := f.seq } })) ∧
  (∀ (s : State) (f : Frame), s.ctxOf (localOf f.dest) = none → 2048 ≤ localOf f.dest → s.flt.todo = [] → f.resp = false →
    f.refuse = false → nodeOf f.src ≠ s.nodeId → Plain s 4 f.src → Room s 7 4 →
    ∃ t, exec (.framerRx f) s = .next t ∧ Counted s t 0 MGMT.ABSENT_CNT_COUNT ∧ t.ctxs = s.ctxs ∧
      Queued s t 7 4 (fun g => g.dest = f.src ∧ g.refuse = true ∧ g.payload.head? = some 2)) ∧
  (∀ (s : State) (e c : Nat) (q : StoredPkt) (w : Word), s.flt.todo = [] → s.rdn e ENG.CTX_CFG_FIFO_SW c = 0 →
    (s.ctx e c).store = [q] → q.words = [w] → q.done = 0 → q.wack = false → (s.ctx e c).tx.free ≠ 0 →
    ∃ t, exec (.framerUnpack e c) s = .next t ∧ CtxsBut s t e c ∧
      t.ctx e c = { s.ctx e c with
        store := [], tx := (s.ctx e c).tx.put { word := w, last := true, dest := q.req.dest, seq := q.req.seq } }) ∧
  (∀ (s : State) (e c : Nat) (r : ReadPend), e < 16 → s.due (tRead e c) = true → s.flt.todo = [] → (s.ctx e c).read = some r →
    r.req.resp = false → r.req.refuse = false → nodeOf r.req.src ≠ s.nodeId → Plain s 4 r.req.src → Room s (4 + clusterOf e) 4 →
    ∃ t, exec (.readPendTimeout e c) s = .next t ∧ t.ctx e c = { s.ctx e c with read := none } ∧ CtxsBut s t e c ∧
      t.running (tRead e c) = false ∧
      Queued s t (4 + clusterOf e) 4 (fun f => f.dest = r.req.src ∧ f.refuse = true ∧ f.payload.head? = some 4)) ∧
  (∀ (s : State) (p : Port) (e base count : Nat), e < 16 → 2048 ≤ base → base < 8192 → count < 128 → base + count ≤ 8192 →
    Permitted s p (engPage e) 0xA8 (count * 65536 + base) →
    (count = 0 ∨ s.subaClash e (s.selCtx e) base count = false →
      ∃ t, exec (.subaWrite p e base count) s = .next t ∧ t.rdn e ENG.SUBA_BASE (s.selCtx e) = base ∧
        t.rdn e ENG.SUBA_COUNT (s.selCtx e) = count ∧
        RegsBut s t [ENG.SUBA_BASE.key e (s.selCtx e), ENG.SUBA_COUNT.key e (s.selCtx e)] ∧
        t = { s.heard p with regs := t.regs, sent := s.sent ++ [done p] }) ∧
    (count ≠ 0 → s.subaClash e (s.selCtx e) base count = true →
      ∃ t, exec (.subaWrite p e base count) s = .next t ∧ event t (engPage e) 13 = true ∧ RegsBut s t [intStat (engPage e)])) ∧
  (∀ (s : State) (p : Port) (e b w v : Nat), e < 16 → b < 2 → w < 2048 → s.arrives p = true → s.hostWaits p true = false →
    s.judge p true (progOff e b w) v true = none →
    ((b = s.bank e → s.flagn e ENG.PB_CTRL_LIVE_WR = true) → (b ≠ s.bank e → s.flagn e ENG.PB_STAT_SWAP_PEND = false) →
      ∃ t, exec (.programMemoryWrite p e b w v) s = .next t ∧ t.progWord e b w = v % 2 ^ 32 ∧
        (∀ a, a ≠ (2 * e + b) * 2048 + w → Tbl.get 0 t.prog a = Tbl.get 0 s.prog a) ∧
        t = { s.heard p with prog := t.prog, sent := s.sent ++ [done p] }) ∧
    ((b = s.bank e ∧ s.flagn e ENG.PB_CTRL_LIVE_WR = false) ∨ (b ≠ s.bank e ∧ s.flagn e ENG.PB_STAT_SWAP_PEND = true) →
      ∃ t, exec (.programMemoryWrite p e b w v) s = .next t ∧ Counted s t e ENG.PB_WREJ_COUNT ∧ t.prog = s.prog ∧
        RegsBut s t [ENG.PB_WREJ_COUNT.key e 0] ∧ t = { s.heard p with regs := t.regs, sent := s.sent ++ [done p] })) ∧
  (∀ (s : State) (p : Port) (e b w v : Nat), 2 ^ 24 ≤ progOff e b w → exec (.programMemoryWrite p e b w v) s = .fault .outsideAddressSpace)

/-- Bit slots, armed actions, input edges and bank supplies act as R234, R262, R263, R269, R281, R285 and R286 say -/
def Obligations.PinsSlotsAndActionsComplete : Prop :=
  (∀ (s : State) (e c : Nat), s.flt.todo = [] → (s.ctx e c).run = true → (s.ctx e c).latch = none → (s.ctx e c).pin.frozen = false →
    (s.ctx e c).pin.half = [] → (s.ctx e c).pin.rest = [] →
    (s.ctx e c).pin.slotTime (s.bitPeriod e c) (s.ctx e c).pin.slot ≤ s.fab →
    ((s.ctx e c).pin.outq = [] →
      ∃ t, exec (.bitSlot e c) s = .next t ∧ CtxsBut s t e c ∧ t = { s with ctxs := t.ctxs, free := t.free } ∧
        t.ctx e c = { s.ctx e c with pin := { (s.ctx e c).pin with
          slot := (s.ctx e c).pin.slot + 1, inbuf := (t.ctx e c).pin.inbuf } } ∧
        (∀ r, r < 8 → r < (s.ctx e c).pin.cnt → (Tbl.get [] (s.ctx e c).pin.inbuf r).length < 32 →
          Tbl.get [] (t.ctx e c).pin.inbuf r =
            Tbl.get [] (s.ctx e c).pin.inbuf r ++ [s.readPin ((s.ctx e c).pin.base + r)])) ∧
    (∀ mask value rest, (s.ctx e c).pin.outq = { mask := mask, value := value } :: rest → (∀ p v, (s.pinIn p).ev = some v →
        v.at_ ≠ roundNs ((s.ctx e c).pin.slotTime (s.bitPeriod e c) (s.ctx e c).pin.slot)) →
      ∃ t, exec (.bitSlot e c) s = .next t ∧ CtxsBut s t e c ∧ (t.ctx e c).pin.outq = rest ∧
        (t.ctx e c).pin.slot = (s.ctx e c).pin.slot + 1 ∧
        (∀ r, r < 8 → r < (s.ctx e c).pin.cnt →
          bitOf (t.ctx e c).pin.levels r = (if bitOf mask r then bitOf value r else bitOf (s.ctx e c).pin.levels r) ∧
          ((Tbl.get [] (s.ctx e c).pin.inbuf r).length < 32 →
            Tbl.get [] (t.ctx e c).pin.inbuf r =
              Tbl.get [] (s.ctx e c).pin.inbuf r ++ [s.readPin ((s.ctx e c).pin.base + r)])))) ∧
  (∀ (s : State) (e c act pin : Nat) (at_ : Int) (late : Bool), (s.ctx e c).action = some (at_, act, pin, late) →
    late = true ∨ at_ ≤ (s.fab : Int) →
    ((s.ctx e c).run = false ∨ (s.ctx e c).pin.frozen = true →
      ∃ t, exec (.ttrigActionFire e c) s = .next t ∧ t.ctx e c = { s.ctx e c with action := none, miss := true } ∧ CtxsBut s t e c ∧
        t = { s with ctxs := t.ctxs }) ∧
    ((s.ctx e c).run = true → (s.ctx e c).pin.frozen = false → act = 4 →
      ∃ t, exec (.ttrigActionFire e c) s = .next t ∧ CtxsBut s t e c ∧ t = { s with ctxs := t.ctxs } ∧
        t.ctx e c = { s.ctx e c with action := none
                                     pin := { (s.ctx e c).pin with origin := at_.toNat, slot := 0, inbuf := [] } }) ∧
    ((s.ctx e c).run = true → (s.ctx e c).pin.frozen = false → pin < 8 → pin < (s.ctx e c).pin.cnt →
      (act = 3 → ∃ t, exec (.ttrigActionFire e c) s = .next t ∧ (t.ctx e c).action = none ∧ bitOf (t.ctx e c).pin.dirs pin = false ∧
        (t.ctx e c).pin.levels = (s.ctx e c).pin.levels ∧ CtxsBut s t e c ∧ t = { s with ctxs := t.ctxs }) ∧
      (act = 0 ∨ act = 1 → (∀ v, (s.pinIn ((s.ctx e c).pin.base + pin)).ev = some v → v.set = none) →
        ∃ t, exec (.ttrigActionFire e c) s = .next t ∧ (t.ctx e c).action = none ∧ bitOf (t.ctx e c).pin.dirs pin = true ∧
          bitOf (t.ctx e c).pin.levels pin = decide (act = 1) ∧ CtxsBut s t e c))) ∧
  (∀ (s : State) (pin : Nat) (level : Bool), pin < 256 → (s.pinIn pin).ball ≠ level →
    s.pageOn (0x50 + pin / 32) = true →
    (level ≠ (s.pinIn pin).filt →
      ∃ t, exec (.pinInputChange pin level) s = .next t ∧
        t.pinIn pin = { s.pinIn pin with ball := level, since := some (s.mono, s.fab) } ∧ (∀ q, q ≠ pin → t.pinIn q = s.pinIn q) ∧
        t = { s with pins := t.pins }) ∧
    (∀ m f, level = (s.pinIn pin).filt → (s.pinIn pin).since = some (m, f) → firstSample m < s.mono →
      s.mono < firstSample m + 80 * s.filterLen pin →
      ∃ t, exec (.pinInputChange pin level) s = .next t ∧ t.pinIn pin = { s.pinIn pin with ball := level, since := none } ∧
        Counted s t (pin / 32) PINBANK.GLITCH_CNT_COUNT ∧ t = { s with pins := t.pins, regs := t.regs }) ∧
    (∀ m f, level = (s.pinIn pin).filt → (s.pinIn pin).since = some (m, f) → firstSample m < s.mono →
      firstSample m + 80 * s.filterLen pin ≤ s.mono →
      ∃ t, exec (.pinInputChange pin level) s = .next t ∧
        t.pinIn pin = { s.pinIn pin with ball := level, filt := (s.pinIn pin).ball, since := some (s.mono, s.fab) } ∧
        t = { s with pins := t.pins, ctxs := t.ctxs, regs := t.regs })) ∧
  (∀ (s : State) (pin m f : Nat), (s.pinIn pin).since = some (m, f) → firstSample m + 80 * s.filterLen pin ≤ s.mono →
    s.pageOn (0x50 + pin / 32) = true →
    (s.stampSel pin (s.pinIn pin).ball = false →
      ∃ t, exec (.pinEdgeAccepted pin) s = .next t ∧ t.pinIn pin = { s.pinIn pin with filt := (s.pinIn pin).ball, since := none } ∧
        t = { s with pins := t.pins }) ∧
    (∀ e c, s.stampSel pin (s.pinIn pin).ball = true → s.bankOk pin = true → c < 32 → s.holder pin = some (32 * e + c) →
      (s.ctx e c).pev = false →
      ∃ t, exec (.pinEdgeAccepted pin) s = .next t ∧ (t.pinIn pin).filt = (s.pinIn pin).ball ∧
        t.ctx e c = { s.ctx e c with pev := true, pevNs := roundNs f } ∧ CtxsBut s t e c ∧
        t.rdn (pin / 32) PINBANK.STAMP_CNT_COUNT = (s.rdn (pin / 32) PINBANK.STAMP_CNT_COUNT + 1) % 2 ^ PINBANK.STAMP_CNT_COUNT.w ∧
        t = { s with pins := t.pins, ctxs := t.ctxs, regs := t.regs })) ∧
  (∀ (s : State) (b : Nat), b < 8 → s.pageOn (0x50 + b) = true →
    (s.flt.todo = [] → bitOf (s.rdn (0x50 + b) HDR.FLT_STAT_CHECKERS) 0 = false →
      ∃ t, exec (.bankSupplyFail b) s = .next t ∧ t.rdn b PINBANK.BANK_STAT_SUPPLY_OK = 0 ∧
        bitOf (t.rdn (0x50 + b) HDR.FLT_STAT_CHECKERS) 0 = true ∧ t.fenced (0x50 + b) = true ∧
        (∀ p, p / 32 = b → t.driven p = none) ∧ t.flt.det.length = s.flt.det.length + 1 ∧
        RegsBut s t [PINBANK.BANK_STAT_SUPPLY_OK.key b 0, HDR.FLT_STAT_CHECKERS.key (0x50 + b) 0] ∧
        t = { s with regs := t.regs, flt := t.flt, pageUnit := t.pageUnit }) ∧
    (∃ t, exec (.bankSupplyReturn b) s = .next t ∧ t.rdn b PINBANK.BANK_STAT_SUPPLY_OK = 1 ∧
      RegsBut s t [PINBANK.BANK_STAT_SUPPLY_OK.key b 0] ∧ t = { s with regs := t.regs }))

/-- A BAR2 write or read leaves as its fabric request, and ends by its answer, its refusal or its timeout -/
def Obligations.HostAccessesCrossTheBridgeAndEnd : Prop :=
  (∀ (s : State) (off : Nat) (data : List Byte), off < 2 ^ 29 → s.hostUp = true → s.flt.todo = [] → BridgeIdle s → s.isTwin = false →
    (s.carries off data.length true = true → data.length ≤ 128 → nodeOf (addrEp (s.fabricAddr off)) ≠ s.nodeId →
      Plain s 4 (addrEp (s.fabricAddr off)) → Room s 3 4 →
      ∃ t r, exec (.bar2Write off data true) s = .next t ∧ t.bridge.reqs = [r] ∧ r.kind = 0 ∧ r.win = off / 2 ^ 22 ∧
        r.addr = s.fabricAddr off ∧ r.data = data ∧ r.gone = true ∧ r.at_ = s.mono ∧ r.left = some s.mono ∧ t.bridge.intake = [] ∧
        Queued s t 3 4 (fun f => f.dest = addrEp (s.fabricAddr off) ∧
          Asks f (fun a => a.op = 1 ∧ a.tag = r.tag ∧ a.offset = s.fabricAddr off % 2 ^ 24 ∧ a.data = data))) ∧
    (∀ whole, s.carries off data.length whole = false ∨ 256 < data.length →
      ∃ t, exec (.bar2Write off data whole) s = .next t ∧ Counted s t 0 BRIDGE.BAD_ACC_COUNT ∧
        RegsBut s t [key BRIDGE.BAD_ACC_COUNT] ∧ bitOf t.pcie.aer 15 = true ∧
        t = { s with regs := t.regs, pcie := t.pcie, sent := s.sent ++ [.item "AER" [off]] })) ∧
  (∀ (s : State) (off : Nat) (data : List Byte) (whole : Bool) (host len : Nat), 2 ^ 29 ≤ off →
    exec (.bar2Write off data whole) s = .fault .outsideAddressSpace ∧ exec (.bar2Read host off len whole) s = .fault .outsideAddressSpace) ∧
  (∀ (s : State) (off host len : Nat), off < 2 ^ 29 → s.hostUp = true → s.flt.todo = [] → BridgeIdle s → s.isTwin = false →
    s.carries off len true = true → len ≤ 256 → s.flag BRIDGE.WIN_CFG_PREFETCH (off / 2 ^ 22) = false →
    nodeOf (addrEp (s.fabricAddr off)) ≠ s.nodeId → Plain s 4 (addrEp (s.fabricAddr off)) → Room s 3 4 →
    ∃ t r h, exec (.bar2Read host off len true) s = .next t ∧ t.bridge.reqs = [r] ∧ t.bridge.reads = [h] ∧ r.kind = 1 ∧ r.read = h.id ∧
      r.addr = s.fabricAddr off ∧ r.count = len ∧ r.left = some s.mono ∧ h.host = host ∧ h.len = len ∧ h.missing = 1 ∧
      h.ones = s.flag BRIDGE.WIN_CFG_RD_ERR (off / 2 ^ 22) ∧
      Queued s t 3 4 (fun f => f.dest = addrEp (s.fabricAddr off) ∧
        Asks f (fun a => a.op = 2 ∧ a.tag = r.tag ∧ a.offset = s.fabricAddr off % 2 ^ 24 ∧ a.count = len))) ∧
  (∀ (s : State) (f : Frame) (a : Access) (r : Req), s.pageOn 0x14 = true → s.flt.todo = [] → s.buf.lost = [] → s.bridge.intake = [] →
    f.refuse = false → parseAccess f = some a → s.bridge.reqs = [r] → r.tag = a.tag → r.gone = true → r.fenced = false →
    (a.op = 0x81 → r.kind = 0 →
      ∃ t, exec (.accessAnswerRx f) s = .next t ∧ t.bridge = { s.bridge with reqs := [] } ∧ RegsBut s t [intStat 0x06] ∧
        t = { s with regs := t.regs, bridge := t.bridge, inbox := t.inbox, cup := t.cup, msix := t.msix, sent := t.sent }) ∧
    (∀ h, a.op = 0x82 → r.kind = 1 → r.pf = false → s.bridge.reads = [h] → r.read = h.id → h.missing = 1 → h.parts = [] →
      ∃ t, exec (.accessAnswerRx f) s = .next t ∧ t.bridge = { s.bridge with reqs := [], reads := [], ended := t.bridge.ended } ∧
        (h.win, s.mono / 64) ∈ t.bridge.ended ∧
        (∀ bs ∈ completions 32 h.addr (bnat a.data), Emit.item "CPLD" (h.host :: bs) ∈ t.sent) ∧ RegsBut s t [intStat 0x06] ∧
        t = { s with regs := t.regs, bridge := t.bridge, inbox := t.inbox, cup := t.cup, msix := t.msix, sent := t.sent })) ∧
  (∀ (s : State) (f : Frame) (a : Access), s.pageOn 0x14 = true → s.flt.todo = [] → s.buf.lost = [] → s.bridge.intake = [] →
    s.bridge.reqs = [] → f.refuse = false → parseAccess f = some a →
    ∃ t, exec (.accessAnswerRx f) s = .next t ∧ Counted s t 0 BRIDGE.LATE_ANS_COUNT ∧ RegsBut s t [key BRIDGE.LATE_ANS_COUNT] ∧
      t = { s with regs := t.regs, inbox := t.inbox }) ∧
  (∀ (s : State) (f : Frame) (r : Req), s.pageOn 0x14 = true → s.flt.todo = [] → s.buf.lost = [] → s.bridge.intake = [] →
    f.refuse = true → s.bridge.reqs = [r] → r.kind = 0 → r.left.isSome = true → r.fenced = false →
    r.seq = ofBe (((bnat f.payload).drop 2).take 2) → addrEp r.addr = ofBe (((bnat f.payload).drop 4).take 4) % 2 ^ 25 →
    s.rd BRIDGE.PWE_STAT_VALID = 0 →
    ∃ t, exec (.accessAnswerRx f) s = .next t ∧ t.bridge.reqs = [] ∧ t.rd BRIDGE.PWE_STAT_VALID = 1 ∧
      t.rd BRIDGE.PWE_W0_ADDR_LO 0 = r.addr % 2 ^ 32 ∧ t.rd BRIDGE.PWE_W2_CODE 0 = (bnat f.payload).headD 0 ∧
      t.rd BRIDGE.PWE_W2_TAG 0 = r.tag % 2 ^ 16 ∧ event t 0x14 0 = true) ∧
  (∀ (s : State) (tag at_ : Nat) (r : Req) (h : HeldRead), s.flt.todo = [] → s.buf.lost = [] → s.bridge.intake = [] →
    s.bridge.reqs = [r] → s.bridge.reads = [h] → r.tag = tag → r.kind = 1 → r.read = h.id → r.left = some at_ → at_ + s.rdTmo ≤ s.mono →
    ∃ t, exec (.readTimeout tag) s = .next t ∧ t.bridge = { s.bridge with reqs := [], reads := [], ended := t.bridge.ended } ∧
      Counted s t 0 BRIDGE.RD_TMO_CNT_COUNT ∧ event t 0x14 1 = true ∧
      (h.ones = true → ∀ bs ∈ completions 32 h.addr (bnat (List.replicate h.len 0xFF)), Emit.item "CPLD" (h.host :: bs) ∈ t.sent) ∧
      (h.ones = false → Emit.item "CPL_CA" [h.host] ∈ t.sent) ∧
      RegsBut s t [key BRIDGE.RD_TMO_CNT_COUNT, intStat 0x14] ∧
      t = { s with regs := t.regs, bridge := t.bridge, msix := t.msix, sent := t.sent }) ∧
  (∀ (s : State) (r : Req), s.flt.todo = [] → s.buf.lost = [] → s.bridge.intake = [] →
    s.bridge.reqs = [r] → r.kind = 0 → r.fenced = false → r.at_ + s.pwTmo ≤ s.mono → s.rd BRIDGE.PWE_STAT_VALID = 0 →
    ∃ t, exec (.writeTimeout r.tag) s = .next t ∧ t.bridge.reqs = [] ∧ t.rd BRIDGE.PWE_STAT_VALID = 1 ∧
      t.rd BRIDGE.PWE_W2_CODE 0 = (if r.gone then 0x10 else 0x11) ∧ event t 0x14 0 = true) ∧
  (∀ (s : State) (l : Line), s.bridge.lines = [l] → l.at_ + us 50 ≤ s.mono →
    ∃ t, exec (.prefetchLineExpiry l.addr) s = .next t ∧ t.bridge = { s.bridge with lines := [] } ∧
      (l.unread = 0 → t.regs = s.regs) ∧
      (l.unread ≠ 0 → s.rd BRIDGE.PFD_STAT_VALID = 0 →
        t.rd BRIDGE.PFD_STAT_VALID = 1 ∧ t.rd BRIDGE.PFD_W2_CAUSE 0 = 1 ∧ event t 0x14 2 = true) ∧
      t = { s with regs := t.regs, bridge := t.bridge, msix := t.msix, sent := t.sent })

/-- Write fences, read aborts, polls, host rings and endpoint 0 act as R303, R312 to R324 and R331 say -/
def Obligations.FencesPollsRingsAndManagementComplete : Prop :=
  (∀ (s : State) (p : Port) (w : Nat), w < 128 →
    (Permitted s p 0x14 0x60 (w * 65536 + 1) → s.rd BRIDGE.FENCE_STAT_STATUS ≠ 1 →
      ((∀ r ∈ s.bridge.reqs, r.kind = 0 → r.win ≠ w) →
        ∃ t, exec (.fenceGo p w) s = .next t ∧ t.rd BRIDGE.FENCE_STAT_STATUS = 2 ∧ t.rd BRIDGE.FENCE_STAT_FAILED = 0 ∧
          t.rd BRIDGE.FENCE_CTRL_GO = 0 ∧ t.bridge.fence = none ∧ event t 0x14 3 = true) ∧
      ((∃ r ∈ s.bridge.reqs, r.kind = 0 ∧ r.win = w) → s.flag BRIDGE.WIN_CFG_NONPOSTED w = false →
        ∃ t, exec (.fenceGo p w) s = .next t ∧ t.rd BRIDGE.FENCE_STAT_STATUS = 1 ∧ t.rd BRIDGE.FENCE_CTRL_GO = 1 ∧
          t.bridge.fence = some w ∧ (∀ r ∈ t.bridge.reqs, r.fenced = (r.kind = 0 && r.win = w)) ∧
          t.sent = s.sent ++ [done p])) ∧
    (Permitted s p 0x14 0x60 (w * 65536 + 2) →
      (s.rd BRIDGE.FENCE_STAT_STATUS = 1 →
        ∃ t, exec (.fenceAbort p w) s = .next t ∧ t.rd BRIDGE.FENCE_STAT_STATUS = 3 ∧ t.rd BRIDGE.FENCE_CTRL_GO = 0 ∧
          t.bridge.fence = none ∧ t = { s.heard p with regs := t.regs, bridge := t.bridge, sent := s.sent ++ [done p] }) ∧
      (s.rd BRIDGE.FENCE_STAT_STATUS = 2 →
        ∃ t, exec (.fenceAbort p w) s = .next t ∧ t.rd BRIDGE.FENCE_STAT_STATUS = 2 ∧ t.rd BRIDGE.FENCE_STAT_ABORT_LATE = 1 ∧
          event t 0x14 4 = true)) ∧
    (Permitted s p 0x14 0x68 (w * 65536 + 1) →
      ((∀ h ∈ s.bridge.reads, h.win ≠ w) → (∀ e ∈ s.bridge.ended, e.1 = w → e.2 ≠ s.mono / 64) →
        ∃ t, exec (.readAbort p w) s = .next t ∧ t.rd BRIDGE.RDA_STAT_STATUS = 2 ∧ t.rd BRIDGE.RDA_STAT_ABORTED_N = 0 ∧
          t.rd BRIDGE.RDA_STAT_ABORT_LATE = 0 ∧ t.rd BRIDGE.RDA_STAT_LATE_N = 0 ∧
          t.bridge = s.bridge ∧ t = { s.heard p with regs := t.regs, sent := s.sent ++ [done p] }) ∧
      (∀ e : Nat × Nat, e ∈ s.bridge.ended → e.1 = w → e.2 = s.mono / 64 → (∀ h ∈ s.bridge.reads, h.win ≠ w) →
        ∃ t, exec (.readAbort p w) s = .next t ∧ t.rd BRIDGE.RDA_STAT_STATUS = 2 ∧ t.rd BRIDGE.RDA_STAT_ABORTED_N = 0 ∧
          t.rd BRIDGE.RDA_STAT_ABORT_LATE = 1 ∧ event t 0x14 4 = true ∧ t.bridge = s.bridge) ∧
      (∀ h, s.bridge.reads = [h] → h.win = w →
        ∃ t, exec (.readAbort p w) s = .next t ∧ t.rd BRIDGE.RDA_STAT_STATUS = 3 ∧ t.rd BRIDGE.RDA_STAT_ABORTED_N = 1 ∧
          t.rd BRIDGE.RDA_STAT_ABORT_LATE = 0 ∧ t.bridge.reads = [] ∧ (∀ r ∈ t.bridge.reqs, r.kind = 1 → r.read ≠ h.id) ∧
          t = { s.heard p with regs := t.regs, bridge := t.bridge, sent := t.sent }))) ∧
  (∀ (s : State) (p : Port),
    (Permitted s p 0x14 0x74 1 → ∃ t, exec (.pweClear p) s = .next t ∧ t.rd BRIDGE.PWE_STAT_TOTAL = 0 ∧ t.rd BRIDGE.PWE_STAT_VALID = 0 ∧
      (∀ i, i < 16 → t.rd BRIDGE.PWE_W0_ADDR_LO i = 0 ∧ t.rd BRIDGE.PWE_W2_CODE i = 0) ∧
      t = { s.heard p with regs := t.regs, sent := s.sent ++ [done p] }) ∧
    (Permitted s p 0x14 0x7C 1 → ∃ t, exec (.pfdClear p) s = .next t ∧ t.rd BRIDGE.PFD_STAT_TOTAL = 0 ∧ t.rd BRIDGE.PFD_STAT_VALID = 0 ∧
      (∀ i, i < 32 → t.rd BRIDGE.PFD_W0_ADDR_LO i = 0 ∧ t.rd BRIDGE.PFD_W2_CAUSE i = 0) ∧
      t = { s.heard p with regs := t.regs, sent := s.sent ++ [done p] }) ∧
    (Permitted s p 0x15 0x74 1 → ∃ t, exec (.cqPop p) s = .next t ∧ t.bridge = { s.bridge with cq := s.bridge.cq.drop 1 } ∧
      t = { s.heard p with bridge := t.bridge, sent := s.sent ++ [done p] })) ∧
  (∀ (s : State) (i : Nat), s.pageOn 0x15 = true → s.fenced 0x15 = false → i < 1024 → s.pollIsDue i = true →
    (∀ j, j < i → s.pollIsDue j = false) →
    ((s.poll i).tag.isSome = true →
      ∃ t, exec (.pollDue i) s = .next t ∧ Counted s t 0 POLL.POLL_SKIP_COUNT ∧ t.pollIsDue i = false ∧
        RegsBut s t [key POLL.POLL_SKIP_COUNT] ∧ t = { s with regs := t.regs, bridge := t.bridge }) ∧
    (∀ a, (s.poll i).tag = none → s.flt.todo = [] → BridgeIdle s → s.isTwin = false →
      a = s.rd POLL.PE_ADDR_HI_ADDR i * 2 ^ 32 + s.rd POLL.PE_ADDR_LO_ADDR i * 4 → nodeOf (addrEp a) ≠ s.nodeId →
      Plain s 4 (addrEp a) → Room s 3 4 →
      ∃ t r, exec (.pollDue i) s = .next t ∧ t.bridge.reqs = [r] ∧ r.kind = 2 ∧ r.win = i ∧ r.addr = a ∧ 32768 ≤ r.tag ∧
        (t.poll i).tag = some r.tag ∧ t.rd POLL.PE_STAT_IN_FLIGHT i = 1 ∧
        Queued s t 3 4 (fun f => f.dest = addrEp a ∧ Asks f (fun x => x.op = 2 ∧ x.count = 4 ∧ x.offset = a % 2 ^ 24)))) ∧
  (∀ (s : State) (f : Frame) (buf r : Nat), s.hostUp = true → r = s.rd BRIDGE.RX_MAP_RING f.tc →
    (s.flag BRIDGE.RXR_CFG_EN r = true → s.rd BRIDGE.RXR_HEAD_INDEX r ≠ s.rd BRIDGE.RXR_TAIL_INDEX r →
      32 + f.payload.length ≤ s.rd BRIDGE.RXR_CFG_BUF_LEN r →
      ∃ t, exec (.hostRxDelivery f buf) s = .next t ∧ t.sent.length = s.sent.length + 2 ∧
        Emit.item "HOST_WRITE" (buf / 64 * 64 :: (f.head28 ++ beBytes 4 f.hchk ++ bnat f.payload)) ∈ t.sent ∧
        t.rd BRIDGE.RXR_HEAD_INDEX r = (s.rd BRIDGE.RXR_HEAD_INDEX r + 1) % 2 ^ s.rd BRIDGE.RXR_CFG_SIZE r % 2 ^ 12 ∧
        RegsBut s t [key BRIDGE.RXR_HEAD_INDEX r] ∧ t = { s with regs := t.regs, inbox := t.inbox, sent := t.sent }) ∧
    (s.flag BRIDGE.RXR_CFG_EN r = false →
      ∃ t, exec (.hostRxDelivery f buf) s = .next t ∧ Counted s t 0 BRIDGE.RXR_DROP_COUNT r ∧
        RegsBut s t [key BRIDGE.RXR_DROP_COUNT r] ∧ t = { s with regs := t.regs, inbox := t.inbox })) ∧
  (∀ (s : State) (n : Nat) (image : List Byte) (f : Frame), s.hostUp = true → s.txTurn = some n → s.flt.todo = [] → BridgeIdle s →
    s.isTwin = false → s.bridge.txWait = [] → f = s.imageFrame image →
    (f.badHeader = false → image.length = 32 + f.len → f.len ≤ 220 → f.tc ≠ 1 → f.tc ≠ 4 → f.tc ≠ 7 → nodeOf f.dest ≠ s.nodeId →
      Plain s f.tc f.dest → Room s 3 f.tc →
      ∃ t, exec (.sendRingServe n image.length image) s = .next t ∧ t.bridge.turn = (n + 1) % 8 ∧
        t.rd BRIDGE.TXR_HEAD_INDEX n = (s.rd BRIDGE.TXR_HEAD_INDEX n + 1) % 2 ^ s.rd BRIDGE.TXR_CFG_SIZE n % 2 ^ 12 ∧
        Queued s t 3 f.tc (fun g => g.dest = f.dest ∧ g.src = s.nodeId * 8192 ∧ g.payload = image.drop 32)) ∧
    (f.badHeader = true →
      ∃ t, exec (.sendRingServe n image.length image) s = .next t ∧ t.bridge = { s.bridge with turn := (n + 1) % 8, txTag := s.bridge.txTag + 1 } ∧
        Counted s t 0 BRIDGE.TXR_REFUSED_COUNT n ∧
        t.rd BRIDGE.TXR_HEAD_INDEX n = (s.rd BRIDGE.TXR_HEAD_INDEX n + 1) % 2 ^ s.rd BRIDGE.TXR_CFG_SIZE n % 2 ^ 12 ∧
        t.sent.length = s.sent.length + 1 ∧ t = { s with regs := t.regs, bridge := t.bridge, sent := t.sent })) ∧
  (∀ (s : State) (f : Frame) (a : Access), s.pageOn 0x16 = true → f.tc = 4 → localOf f.dest = 0 → f.resp = false → f.refuse = false →
    s.isTwin = false → Settled s → parseAccess f = some a → a.good f = true → a.op = 1 → a.data.length = 4 →
    nodeOf f.src ≠ s.nodeId → Plain s 4 f.src → Room s 7 4 →
    (a.offset = 0x128 → s.judge (s.arrivalPort f) true 0x128 (ofLe (bnat a.data)) true = none →
      ∃ t, exec (.mgmtRequest f) s = .next t ∧ t.rd DEVICE.INTN_EN_LO_ENABLE = ofLe (bnat a.data) ∧
        t.rd MGMT.REMOTE_WR_COUNT = (s.rd MGMT.REMOTE_WR_COUNT + 1) % 2 ^ 32 ∧
        Queued s t 7 4 (fun g => g.dest = f.src ∧ g.resp = true ∧ Asks g (fun x => x.op = 0x81 ∧ x.tag = a.tag))) ∧
    (∀ c, s.judge (s.arrivalPort f) true a.offset (ofLe (bnat a.data)) true = some c → c ≠ 5 →
      ∃ t, exec (.mgmtRequest f) s = .next t ∧
        t.rd DEVICE.DENY_CNT_COUNT (s.arrivalPort f).code = min (s.rd DEVICE.DENY_CNT_COUNT (s.arrivalPort f).code + 1) 0xFFFFFFFF ∧
        t.rd DEVICE.DENY_LAST_CAUSE = c % 8 ∧ t.rd MGMT.REMOTE_WR_COUNT = s.rd MGMT.REMOTE_WR_COUNT ∧
        Queued s t 7 4 (fun g => g.dest = f.src ∧ g.refuse = true ∧ (bnat g.payload).headD 0 = refusalCode c))) ∧
  (∀ (s : State) (p : Port) (node v : Nat), Permitted s p 0x16 0x4C v →
    ∃ t, exec (.mgmtDoorbell p node v) s = .next t ∧ (∀ b, b < 8 → event t 0x16 b = (event s 0x16 b || bitOf v b)) ∧
      t.rd MGMT.DB_LAST_PORT = p.code ∧ t.rd MGMT.DB_LAST_NODE = (if p = .ringE ∨ p = .ringW then node % 4096 else 0) ∧
      RegsBut s t [intStat 0x16, key MGMT.DB_LAST_PORT, key MGMT.DB_LAST_NODE] ∧
      t = { s.heard p with regs := t.regs, msix := t.msix, sent := t.sent })

/-- A CAN controller stores what matches, sends what is requested and answers accesses to its buffers -/
def Obligations.CanFramesAreRequestedSentAndStored : Prop :=
  (∀ (s : State) (n : Nat) (f : CanFrame) (ns sec : Nat), s.canHears n = true → (s.canU n).tx = none → s.flt.todo = [] →
    (f.fdf = true → s.flagn n CAN.CTRL_FD_EN = true) → s.rdn n CAN.ERR_TEC ≤ 127 → s.rdn n CAN.ERR_REC ≤ 127 →
    (∀ b, f.rtr = false → s.canMatch n f = some b → s.flagn n CAN.MB_DEST_FWD b = false →
      ∃ t, exec (.canFrameRx n f ns sec) s = .next t ∧ t.rdn n CAN.MB_CTRL_NEW b = 1 ∧
        (s.rdn n CAN.MB_CTRL_NEW b = 1 → t.rdn n CAN.MB_CTRL_LOST b = 1) ∧
        t.rdn n CAN.MB_ID_ID b = f.id % 2 ^ 29 ∧ t.rdn n CAN.MB_CTRL_DLC b = f.dlc % 16 ∧
        t.rdn n CAN.MB_CTRL_FDF b = bit f.fdf ∧ t.rdn n CAN.MB_CTRL_BRS b = bit f.brs ∧ t.rdn n CAN.MB_CTRL_ESI b = bit f.esi ∧
        (f.data.length = dlcBytes f.fdf f.dlc → (t.mbBytes n b).take f.data.length = bnat f.data) ∧
        t.rdn n CAN.MB_STAMP0_NS b = ns % 1000000000 ∧ t.rdn n CAN.MB_STAMP1_SEC_LO b = sec % 2 ^ 32 ∧
        t.rdn n CAN.RX_OK_COUNT = (s.rdn n CAN.RX_OK_COUNT + 1) % 2 ^ 32 ∧
        (s.flagn n CAN.MB_CFG_IRQ b = true → event t (0x40 + n) 0 = true) ∧
        t = { s with regs := t.regs, can := t.can, msix := t.msix, sent := t.sent }) ∧
    (∀ b, f.rtr = false → s.canMatch n f = some b → s.flagn n CAN.MB_DEST_FWD b = true → s.isTwin = false →
      nodeOf (s.rdn n CAN.MB_DEST_DEST b) ≠ s.nodeId → Plain s (s.rdn n CAN.MB_DEST_TC b) (s.rdn n CAN.MB_DEST_DEST b) →
      Room s 6 (s.rdn n CAN.MB_DEST_TC b) →
      ∃ t, exec (.canFrameRx n f ns sec) s = .next t ∧ Queued s t 6 (s.rdn n CAN.MB_DEST_TC b) (fun g =>
        g.dest = s.rdn n CAN.MB_DEST_DEST b ∧ g.src = s.nodeId * 8192 + 1024 + 64 * n + b ∧
        g.payload = natb (t.mbPayload n b))) ∧
    (f.rtr = true ∨ s.canMatch n f = none →
      ∃ t, exec (.canFrameRx n f ns sec) s = .next t ∧ Counted s t n CAN.NOMATCH_COUNT ∧
        RegsBut s t [CAN.NOMATCH_COUNT.key n 0, CAN.ERR_REC.key n 0, CAN.STAT_BUS.key n 0] ∧ t = { s with regs := t.regs })) ∧
  (∀ (s : State) (p : Port) (n b : Nat), n < 4 → b = s.rdn n CAN.MB_SEL_BUFFER → s.flt.todo = [] →
    (Permitted s p (0x40 + n) 0x70 (s.canCtl n + 2 ^ 19) →
      ∃ t, exec (.canTxReq p n) s = .next t ∧
        (s.canIsTx n b false = true → s.flagn n CAN.MB_CTRL_TX_REQ b = false →
          t.rdn n CAN.MB_CTRL_TX_REQ b = 1 ∧ t.rdn n CAN.MB_CTRL_TX_STAT b = 1 ∧ t.rdn n CAN.MB_CTRL_TX_LATE b = 0) ∧
        (s.canIsTx n b false = false ∨ s.flagn n CAN.MB_CTRL_TX_REQ b = true → t.regs = s.regs) ∧
        RegsBut s t [CAN.MB_CTRL_TX_REQ.key n b, CAN.MB_CTRL_TX_STAT.key n b, CAN.MB_CTRL_TX_LATE.key n b] ∧
        t = { s.heard p with regs := t.regs, sent := s.sent ++ [done p] }) ∧
    (Permitted s p (0x40 + n) 0x70 (s.canCtl n + 2 ^ 20) →
      ∃ t, exec (.canTxAbort p n) s = .next t ∧
        (s.flagn n CAN.MB_CTRL_TX_REQ b = true → (∀ x, (s.canU n).tx = some x → x.buf ≠ b) →
          t.rdn n CAN.MB_CTRL_TX_REQ b = 0 ∧ t.rdn n CAN.MB_CTRL_TX_STAT b = 3) ∧
        (∀ x, s.flagn n CAN.MB_CTRL_TX_REQ b = true → (s.canU n).tx = some x → x.buf = b →
          t.rdn n CAN.MB_CTRL_TX_ABORT b = 1 ∧ t.rdn n CAN.MB_CTRL_TX_REQ b = 1) ∧
        (s.flagn n CAN.MB_CTRL_TX_REQ b = false → t.regs = s.regs) ∧
        RegsBut s t [CAN.MB_CTRL_TX_REQ.key n b, CAN.MB_CTRL_TX_STAT.key n b, CAN.MB_CTRL_TX_ABORT.key n b] ∧
        t = { s.heard p with regs := t.regs, sent := s.sent ++ [done p] })) ∧
  (∀ (s : State) (n b : Nat), s.canSends n = true → (s.canU n).tx = none → (s.canU n).exc = none → s.flt.todo = [] →
    s.flagn n CAN.CYC_CFG_EN = false → s.canOffer n = some b →
    ∃ t a, exec (.canTxStart n b) s = .next t ∧ (t.canU n).tx = some { buf := b, exc := false, frame := s.mbFrame n b } ∧
      t.rdn n CAN.STAT_TX_ACTIVE = 1 ∧ a ≤ s.fabNs + 20 ∧ s.fabNs ≤ a + 20 ∧
      t.rdn n CAN.MB_STAMP0_NS b = a % 1000000000 ∧ t.rdn n CAN.MB_STAMP1_SEC_LO b = a / 1000000000 % 2 ^ 32 ∧
      RegsBut s t [CAN.STAT_TX_ACTIVE.key n 0, CAN.MB_STAMP0_NS.key n b, CAN.MB_STAMP1_SEC_LO.key n b] ∧
      t = { s with regs := t.regs, can := t.can, free := s.free + 1 }) ∧
  (∀ (s : State) (n loop : Nat) (x : CanTx), s.canOn n = true → (s.canU n).tx = some x → s.flt.todo = [] →
    (s.canSends n = true → s.rdn n CAN.CTRL_MODE = 1 → s.rdn n CAN.ERR_TEC ≤ 128 → s.rdn n CAN.ERR_REC ≤ 127 →
      ∃ t, exec (.canTxEnd n true loop) s = .next t ∧ (t.canU n).tx = none ∧ t.rdn n CAN.STAT_TX_ACTIVE = 0 ∧
        t.rdn n CAN.TX_OK_COUNT = (s.rdn n CAN.TX_OK_COUNT + 1) % 2 ^ 32 ∧ t.rdn n CAN.MB_CTRL_TX_REQ x.buf = 0 ∧
        t.rdn n CAN.MB_CTRL_TX_STAT x.buf = 2 ∧ t.rdn n CAN.MB_CTRL_TX_LATE x.buf = s.rdn n CAN.MB_CTRL_TX_ABORT x.buf % 2 ∧
        t.rdn n CAN.MB_CTRL_TX_ABORT x.buf = 0 ∧ t.rdn n CAN.ERR_TEC = s.rdn n CAN.ERR_TEC - 1 ∧
        (s.flagn n CAN.MB_CFG_IRQ x.buf = true → event t (0x40 + n) 1 = true) ∧
        t = { s with regs := t.regs, can := t.can, msix := t.msix, sent := t.sent }) ∧
    (∀ ok, ok = false ∨ s.canSends n = false → x.exc = false →
      ∃ t, exec (.canTxEnd n ok loop) s = .next t ∧ (t.canU n).tx = none ∧ t.rdn n CAN.STAT_TX_ACTIVE = 0 ∧
        (s.flagn n CAN.MB_CTRL_TX_ABORT x.buf = true → t.rdn n CAN.MB_CTRL_TX_REQ x.buf = 0 ∧
          t.rdn n CAN.MB_CTRL_TX_STAT x.buf = 3 ∧ t.rdn n CAN.MB_CTRL_TX_LATE x.buf = 1) ∧
        (s.flagn n CAN.MB_CTRL_TX_ABORT x.buf = false → RegsBut s t [CAN.STAT_TX_ACTIVE.key n 0]) ∧
        t = { s with regs := t.regs, can := t.can }) ∧
    (∀ ok, ok = false ∨ s.canSends n = false → x.exc = true →
      ∃ t, exec (.canTxEnd n ok loop) s = .next t ∧ (t.canU n).tx = none ∧ Counted s t n CAN.WIN_MISS_COUNT ∧
        event t (0x40 + n) 2 = true ∧
        RegsBut s t [CAN.STAT_TX_ACTIVE.key n 0, CAN.WIN_MISS_COUNT.key n 0, intStat (0x40 + n)] ∧
        t = { s with regs := t.regs, can := t.can, msix := t.msix, sent := t.sent })) ∧
  (∀ (s : State) (n b : Nat) (f : Frame) (a : Access), n < 4 → b < 64 → localOf f.dest = 1024 + 64 * n + b → f.tc = 4 →
    f.resp = false → f.refuse = false → parseAccess f = some a → a.good f = true → a.offset = 0 → s.canOn n = true →
    s.fenced (0x40 + n) = false → s.flagn n CAN.MB_CFG_EN b = true → s.flt.todo = [] → s.isTwin = false →
    nodeOf f.src ≠ s.nodeId → Plain s 4 f.src → Room s 6 4 →
    (a.op = 2 → bitOf a.flags 0 = false → a.count = (s.mbPayload n b).length →
      ∃ t, exec (.canEndpointAccess f) s = .next t ∧ t.rdn n CAN.MB_CTRL_NEW b = 0 ∧ t.rdn n CAN.MB_CTRL_LOST b = 0 ∧
        t.can = s.can ∧ Queued s t 6 4 (fun g => g.dest = f.src ∧ g.resp = true ∧
          Asks g (fun x => x.op = 0x82 ∧ x.tag = a.tag ∧ x.data = natb (s.mbPayload n b)))) ∧
    (a.op = 1 → s.canIsTx n b false = true → s.flagn n CAN.MB_CTRL_TX_REQ b = false → 8 ≤ a.data.length →
      a.data.length = 8 + up4 (dlcBytes (bitOf (ofBe (((bnat a.data).drop 4).take 4)) 4)
        (ofBe (((bnat a.data).drop 4).take 4) % 16)) →
      ∃ t, exec (.canEndpointAccess f) s = .next t ∧ t.rdn n CAN.MB_CTRL_TX_REQ b = 1 ∧ t.rdn n CAN.MB_CTRL_TX_STAT b = 1 ∧
        t.mbIdWord n b = (let v := ofBe ((bnat a.data).take 4); v / 2 ^ 31 * 2 ^ 31 + v % 2 ^ 29) ∧
        t.rdn n CAN.MB_CTRL_DLC b = ofBe (((bnat a.data).drop 4).take 4) % 16 ∧
        (t.mbBytes n b).take (a.data.length - 8) = bnat (a.data.drop 8) ∧
        Queued s t 6 4 (fun g => g.dest = f.src ∧ g.resp = true ∧ Asks g (fun x => x.op = 0x81 ∧ x.tag = a.tag))))

/-- CAN modes, errors, bus-off, sleep and the schedule matrix act as R338 and R344 to R351 say -/
def Obligations.CanModesErrorsSleepAndMatrixComplete : Prop :=
  (∀ (s : State) (p : Port) (n m : Nat), n < 4 → m < 4 → s.flt.todo = [] → Permitted s p (0x40 + n) 0x40 (s.canCtrl n m) →
    ∃ t, exec (.canMode p n m) s = .next t ∧ t.rdn n CAN.CTRL_MODE = m ∧
      (s.rdn n CAN.CTRL_MODE = 0 → m ≠ 0 → t.rdn n CAN.ERR_TEC = 0 ∧ t.rdn n CAN.ERR_REC = 0 ∧
        t.rdn n CAN.STAT_BUS = (if (s.canU n).off then 4 else 1)) ∧
      (s.rdn n CAN.CTRL_MODE ≠ 0 → m = 0 → t.rdn n CAN.STAT_BUS = 0 ∧ (t.canU n).tx = none ∧ (t.canU n).exc = none) ∧
      ((s.canU n).tx = none → (s.canU n).exc = none →
        RegsBut s t [CAN.CTRL_MODE.key n 0, CAN.ERR_TEC.key n 0, CAN.ERR_REC.key n 0, CAN.STAT_BUS.key n 0] ∧
        t = { s.heard p with regs := t.regs, sent := s.sent ++ [done p] }) ∧
      t = { s.heard p with regs := t.regs, can := t.can, msix := t.msix, sent := t.sent }) ∧
  (∀ (s : State) (n : Nat), s.canOn n = true →
    (s.rdn n CAN.CTRL_MODE ≠ 0 → s.rdn n CAN.STAT_BUS = 1 → s.rdn n CAN.ERR_TEC ≤ 127 → s.rdn n CAN.ERR_REC ≤ 127 →
      ∃ t, exec (.canIntegrationDone n) s = .next t ∧ t.rdn n CAN.STAT_BUS = 2 ∧ RegsBut s t [CAN.STAT_BUS.key n 0] ∧
        t = { s with regs := t.regs }) ∧
    (s.rdn n CAN.STAT_BUS = 5 → s.flt.todo = [] →
      ∃ t, exec (.canRecovered n) s = .next t ∧ t.rdn n CAN.STAT_BUS = 2 ∧ t.rdn n CAN.ERR_TEC = 0 ∧ t.rdn n CAN.ERR_REC = 0 ∧
        t.rdn n CAN.CTRL_RECOVER = 0 ∧ (t.canU n).off = false ∧ event t (0x40 + n) 5 = true ∧
        RegsBut s t [CAN.STAT_BUS.key n 0, CAN.ERR_TEC.key n 0, CAN.ERR_REC.key n 0, CAN.CTRL_RECOVER.key n 0, intStat (0x40 + n)] ∧
        t = { s with regs := t.regs, can := t.can, msix := t.msix, sent := t.sent }) ∧
    (s.flagn n CAN.CTRL_SLEEP = true → (s.canU n).tx = none → s.rdn n CAN.CTRL_MODE ≠ 0 →
      1 ≤ s.rdn n CAN.STAT_BUS → s.rdn n CAN.STAT_BUS ≤ 3 →
      ∃ t, exec (.canSleepEnter n) s = .next t ∧ t.rdn n CAN.STAT_BUS = 6 ∧ t.rdn n CAN.CTRL_SLEEP = 0 ∧
        RegsBut s t [CAN.STAT_BUS.key n 0, CAN.CTRL_SLEEP.key n 0] ∧ t = { s with regs := t.regs })) ∧
  (∀ (s : State) (n err : Nat) (heavy exempt : Bool), s.canOn n = true → s.rdn n CAN.CTRL_MODE ≠ 0 → s.flt.todo = [] →
    s.rdn n CAN.STAT_BUS = 2 ∨ s.rdn n CAN.STAT_BUS = 3 → 1 ≤ err → err ≤ 6 →
    ((s.canU n).tx = none → s.rdn n CAN.ERR_TEC ≤ 255 →
      ∃ t, exec (.canBusError n err heavy exempt) s = .next t ∧ t.rdn n CAN.ERR_LAST_ERR = err ∧
        t.rdn n CAN.ERR_REC = min (s.rdn n CAN.ERR_REC + (if heavy then 8 else 1)) 255 ∧
        t.rdn n CAN.STAT_BUS = (if 127 < s.rdn n CAN.ERR_TEC ∨ 127 < t.rdn n CAN.ERR_REC then 3 else 2) ∧
        (t.rdn n CAN.STAT_BUS = 3 → s.rdn n CAN.STAT_BUS = 2 → event t (0x40 + n) 3 = true) ∧
        RegsBut s t [CAN.ERR_LAST_ERR.key n 0, CAN.ERR_REC.key n 0, CAN.STAT_BUS.key n 0, intStat (0x40 + n)] ∧
        t = { s with regs := t.regs, msix := t.msix, sent := t.sent }) ∧
    (∀ x, (s.canU n).tx = some x → exempt = false → 247 < s.rdn n CAN.ERR_TEC →
      ∃ t, exec (.canBusError n err heavy exempt) s = .next t ∧ t.rdn n CAN.STAT_BUS = 4 ∧ (t.canU n).tx = none ∧
        (t.canU n).off = true ∧ Counted s t n CAN.BUSOFF_CNT_COUNT ∧ event t (0x40 + n) 4 = true ∧
        t = { s with regs := t.regs, can := t.can, msix := t.msix, sent := t.sent })) ∧
  (∀ (s : State) (p : Port) (n : Nat), n < 4 → s.flt.todo = [] →
    (Permitted s p (0x40 + n) 0x40 (s.canCtrl n (s.rdn n CAN.CTRL_MODE) + 2 ^ 5) →
      ∃ t, exec (.canRecover p n) s = .next t ∧
        (s.rdn n CAN.STAT_BUS = 4 → t.rdn n CAN.STAT_BUS = 5 ∧ t.rdn n CAN.CTRL_RECOVER = 1) ∧
        (s.rdn n CAN.STAT_BUS ≠ 4 → t.regs = s.regs) ∧
        RegsBut s t [CAN.STAT_BUS.key n 0, CAN.CTRL_RECOVER.key n 0] ∧ t = { s.heard p with regs := t.regs, sent := s.sent ++ [done p] }) ∧
    (Permitted s p (0x40 + n) 0x40 (s.canCtrl n (s.rdn n CAN.CTRL_MODE) + 2 ^ 6) → s.rdn n CAN.STAT_BUS ≠ 6 →
      ∃ t, exec (.canSleep p n) s = .next t ∧ t.rdn n CAN.CTRL_SLEEP = 1 ∧ RegsBut s t [CAN.CTRL_SLEEP.key n 0] ∧
        t = { s.heard p with regs := t.regs, sent := s.sent ++ [done p] }) ∧
    (Permitted s p (0x40 + n) 0x40 (s.canCtrl n (s.rdn n CAN.CTRL_MODE) + 2 ^ 7) → s.rdn n CAN.STAT_BUS = 6 →
      ∃ t, exec (.canWake p n) s = .next t ∧ t.rdn n CAN.STAT_BUS = 1 ∧ event t (0x40 + n) 6 = true ∧
        RegsBut s t [CAN.STAT_BUS.key n 0, intStat (0x40 + n)] ∧ t = { s.heard p with regs := t.regs, msix := t.msix, sent := t.sent }) ∧
    (Permitted s p (0x40 + n) 0xCC 1 →
      ∃ t, exec (.canSwitch p n) s = .next t ∧ t.rdn n CAN.CYC_STAT_SWITCH_PEND = 1 ∧ t.rdn n CAN.CYC_CTRL_SWITCH = 1 ∧
        RegsBut s t [CAN.CYC_STAT_SWITCH_PEND.key n 0, CAN.CYC_CTRL_SWITCH.key n 0] ∧
        t = { s.heard p with regs := t.regs, sent := s.sent ++ [done p] }) ∧
    (Permitted s p (0x40 + n) 0xCC 2 →
      ∃ t, exec (.canSwitchCancel p n) s = .next t ∧ t.rdn n CAN.CYC_STAT_SWITCH_PEND = 0 ∧ t.rdn n CAN.CYC_CTRL_SWITCH = 0 ∧
        RegsBut s t [CAN.CYC_STAT_SWITCH_PEND.key n 0, CAN.CYC_CTRL_SWITCH.key n 0] ∧
        t = { s.heard p with regs := t.regs, sent := s.sent ++ [done p] })) ∧
  (∀ (s : State) (n width : Nat) (f : CanFrame) (ns sec : Nat), s.canOn n = true → s.rdn n CAN.STAT_BUS = 6 → s.flt.todo = [] →
    (s.rdn n CAN.WAKE_CFG_MODE = 0 → s.rdn n CAN.WAKE_CFG_FILT * 100 ≤ width →
      ∃ t, exec (.canWakeCondition n width (some f) ns sec) s = .next t ∧ t.rdn n CAN.STAT_BUS = 1 ∧ event t (0x40 + n) 6 = true ∧
        RegsBut s t [CAN.STAT_BUS.key n 0, intStat (0x40 + n)] ∧ t = { s with regs := t.regs, msix := t.msix, sent := t.sent }) ∧
    (s.rdn n CAN.WAKE_CFG_MODE = 1 → s.wakes n f = true → s.canMatch n f = none →
      ∃ t, exec (.canWakeCondition n width (some f) ns sec) s = .next t ∧ t.rdn n CAN.STAT_BUS = 1 ∧ event t (0x40 + n) 6 = true ∧
        Counted s t n CAN.NOMATCH_COUNT ∧ t = { s with regs := t.regs, msix := t.msix, sent := t.sent }) ∧
    (∀ b, s.rdn n CAN.WAKE_CFG_MODE = 1 → s.wakes n f = true → f.rtr = false → s.canMatch n f = some b →
      s.flagn n CAN.MB_DEST_FWD b = false →
      ∃ t, exec (.canWakeCondition n width (some f) ns sec) s = .next t ∧ t.rdn n CAN.STAT_BUS = 1 ∧ event t (0x40 + n) 6 = true ∧
        t.rdn n CAN.MB_CTRL_NEW b = 1 ∧ t.rdn n CAN.MB_ID_ID b = f.id % 2 ^ 29 ∧
        t.rdn n CAN.RX_OK_COUNT = (s.rdn n CAN.RX_OK_COUNT + 1) % 2 ^ 32)) ∧
  (∀ (s : State) (n m w : Nat), s.canOn n = true → s.flagn n CAN.CYC_CFG_EN = true → (s.canU n).pos = some (m, w) → w < 32 →
    w < (s.canU n).starts.length → winLasts (s.rdn n CAN.CYC_LEN_NS) (s.canU n).starts w = true →
    s.cycStart n m + (s.canU n).starts.getD w 0 ≤ s.fabNs → (s.canU n).exc = none → s.flt.todo = [] →
    ((s.canCell n w).1 = 1 → s.canIsTx n (s.canCell n w).2 true = true → 1 ≤ s.rdn n CAN.STAT_BUS → s.rdn n CAN.STAT_BUS ≤ 3 →
      ∃ t, exec (.canWindowStart n) s = .next t ∧ t.rdn n CAN.CYC_STAT_WINDOW = w ∧ (t.canU n).pos = some (m, w + 1) ∧
        (t.canU n).exc = some { buf := (s.canCell n w).2, exc := true, frame := s.mbFrame n (s.canCell n w).2 } ∧
        (t.canU n).till = s.cycStart n m + winEnd (s.rdn n CAN.CYC_LEN_NS) (s.canU n).starts w ∧
        RegsBut s t [CAN.CYC_STAT_WINDOW.key n 0] ∧ t = { s with regs := t.regs, can := t.can }) ∧
    ((s.canCell n w).1 = 1 → s.canIsTx n (s.canCell n w).2 true = false →
      ∃ t, exec (.canWindowStart n) s = .next t ∧ (t.canU n).pos = some (m, w + 1) ∧ (t.canU n).exc = none ∧
        Counted s t n CAN.WIN_MISS_COUNT ∧ event t (0x40 + n) 2 = true ∧
        RegsBut s t [CAN.CYC_STAT_WINDOW.key n 0, CAN.WIN_MISS_COUNT.key n 0, intStat (0x40 + n)]) ∧
    ((s.canCell n w).1 ≠ 1 →
      ∃ t, exec (.canWindowStart n) s = .next t ∧ t.rdn n CAN.CYC_STAT_WINDOW = w ∧ (t.canU n).pos = some (m, w + 1) ∧
        (t.canU n).kind = (s.canCell n w).1 ∧ (t.canU n).exc = none ∧
        RegsBut s t [CAN.CYC_STAT_WINDOW.key n 0] ∧ t = { s with regs := t.regs, can := t.can }))

/-- Attach, bus reset, suspend, L1, resume, port events and start-of-frame act on the USB hub as R357 to R363 and R375 say -/
def Obligations.UsbHubFollowsBusAndPorts : Prop :=
  (∀ s : State, s.pageOn 0x48 = true →
    (s.usb.attached = false → s.enabled 0x48 = true → s.pageUnit.colFence.contains 0x48 = false →
      s.pageUnit.inReset.contains 0x48 = false →
      ∃ t, exec (.usbAttach true) s = .next t ∧ t.usb.attached = true ∧ t.usb.vbus = true ∧ t.rd USBHUB.HUB_STAT_LINK = 0 ∧
        t.rd USBHUB.HUB_STAT_SPEED = 1 ∧ t.rd USBHUB.HUB_STAT_ADDRESS = 0 ∧ t.usb.power = [] ∧
        t = { s with regs := t.regs, usb := t.usb, timers := t.timers, msix := t.msix, sent := t.sent }) ∧
    (s.usb.attached = true →
      ∃ t, exec (.usbAttach false) s = .next t ∧ t.usb.attached = false ∧ t.usb.vbus = false ∧ t.rd USBHUB.HUB_STAT_LINK = 3 ∧
        t.rd USBHUB.HUB_STAT_SPEED = 0 ∧ t.usb.fnConf = false ∧
        t = { s with regs := t.regs, usb := t.usb, timers := t.timers, msix := t.msix, sent := t.sent })) ∧
  (∀ (s : State) (pairs : Nat), s.usbOn = true →
    ∃ t, exec (.usbBusReset pairs) s = .next t ∧
      t.rd USBHUB.HUB_STAT_SPEED = (if s.flag USBHUB.HUB_CFG_HS_EN = true ∧ 3 ≤ pairs then 2 else 1) ∧
      t.rd USBHUB.HUB_STAT_LINK = 0 ∧ t.rd USBHUB.HUB_STAT_ADDRESS = 0 ∧ t.rd USBHUB.HUB_STAT_CONFIGURED ≠ 1 ∧
      t.usb.fnAddr = 0 ∧ t.usb.fnConf = false ∧ t.usb.resp = none ∧ t.flag USBFN.FN_STAT_SESSION = false ∧
      t.rd USBHUB.PORT_STAT_CONNECT 4 = 1 ∧ t.rd USBHUB.PORT_STAT_ENABLE 4 = 0 ∧
      (∀ k, k < 4 → t.rd USBHUB.PORT_STAT_POWER k = 0 ∧ t.rd USBHUB.PORT_STAT_ENABLE k = 0) ∧ event t 0x48 1 = true ∧
      t = { s with regs := t.regs, usb := t.usb, timers := t.timers, msix := t.msix, sent := t.sent }) ∧
  (∀ s : State, s.usbOn = true → s.rd USBHUB.HUB_STAT_LINK = 0 →
    (∃ t, exec .usbSuspend s = .next t ∧ t.rd USBHUB.HUB_STAT_LINK = 2 ∧ event t 0x48 2 = true ∧
      RegsBut s t [key USBHUB.HUB_STAT_LINK, intStat 0x48] ∧ t = { s with regs := t.regs, msix := t.msix, sent := t.sent }) ∧
    (∀ rwake, s.flag USBHUB.HUB_CFG_LPM_EN = true → (∀ k, k < 4 → s.portQuiet k = true) →
      ∃ t, exec (.usbLpmL1 rwake) s = .next t ∧ t.rd USBHUB.HUB_STAT_LINK = 1 ∧ RegsBut s t [key USBHUB.HUB_STAT_LINK] ∧
        t = { s with regs := t.regs, usb := { s.usb with lpmWake := rwake }, sent := s.sent ++ [.item "USB_LPM" [1]] }) ∧
    (∀ rwake, s.flag USBHUB.HUB_CFG_LPM_EN = false ∨ s.portQuiet 3 = false →
      exec (.usbLpmL1 rwake) s = .next { s with sent := s.sent ++ [.item "USB_LPM" [0]] })) ∧
  (∀ s : State, s.usbOn = true → s.rd USBHUB.HUB_STAT_LINK = 1 ∨ s.rd USBHUB.HUB_STAT_LINK = 2 →
    (s.usb.window = none →
      ∃ t, exec .usbHostResume s = .next t ∧ t.usb = { s.usb with window := some (true, []) } ∧
        t.rd USBHUB.RESUME_CNT_COUNT = (s.rd USBHUB.RESUME_CNT_COUNT + 1) % 2 ^ 32 ∧ event t 0x48 3 = true ∧
        RegsBut s t [key USBHUB.RESUME_CNT_COUNT, intStat 0x48] ∧
        t = { s with regs := t.regs, usb := t.usb, msix := t.msix, sent := t.sent }) ∧
    (∀ k, 1 ≤ k → k ≤ 5 → s.usb.window = none → s.wakeEnabled k = true →
      ∃ t, exec (.usbWakeSource k) s = .next t ∧ t.usb = { s.usb with window := some (false, [k]) } ∧
        t.rd USBHUB.RESUME_CNT_COUNT = (s.rd USBHUB.RESUME_CNT_COUNT + 1) % 2 ^ 32 ∧ event t 0x48 3 = true ∧
        bitOf (t.rd USBHUB.WAKE_SRC_PORT) (k - 1) = true ∧ t.rd USBHUB.WAKE_SRC_HOST_FIRST = 0 ∧
        Emit.item "USB_RESUME_K" [if s.rd USBHUB.HUB_STAT_LINK = 2 then 2000 else 60] ∈ t.sent ∧
        t = { s with regs := t.regs, usb := t.usb, msix := t.msix, sent := t.sent }) ∧
    (∀ k host srcs, 1 ≤ k → k ≤ 5 → s.usb.window = some (host, srcs) →
      ∃ t, exec (.usbWakeSource k) s = .next t ∧ t.usb = { s.usb with window := some (host, insertNat srcs k) } ∧
        bitOf (t.rd USBHUB.WAKE_SRC_PORT) (k - 1) = true ∧ t.rd USBHUB.WAKE_SRC_HOST_FIRST = bit host ∧
        (host = true ∨ 2 ≤ (insertNat srcs k).length → event t 0x48 4 = true) ∧
        RegsBut s t [key USBFN.FN_STAT_WAKE_PEND, key USBHUB.PORT_STAT_SUSPEND (k - 1), key USBHUB.PORT_STAT_L1 (k - 1),
          key USBHUB.PORT_STAT_CHANGE (k - 1), key USBHUB.WAKE_SRC_PORT, key USBHUB.WAKE_SRC_HOST_FIRST, intStat 0x48] ∧
        t = { s with regs := t.regs, usb := t.usb, msix := t.msix, sent := t.sent })) ∧
  (∀ s : State, s.usbOn = true → s.usb.window.isSome = true →
    ∃ t, exec .usbResumeWindowClose s = .next t ∧ t.rd USBHUB.HUB_STAT_LINK = 0 ∧ RegsBut s t [key USBHUB.HUB_STAT_LINK] ∧
      t = { s with regs := t.regs, usb := { s.usb with window := none, lpmWake := false } }) ∧
  (∀ (s : State) (k width : Nat), s.pageOn 0x48 = true → k < 4 → s.rd USBHUB.PORT_CTRL_OVC_FILT k * 250 ≤ width →
    (s.flag USBHUB.PORT_STAT_OVER_CURRENT k = false →
      ∃ t, exec (.usbOvercurrent (k + 1) true width) s = .next t ∧ t.rd USBHUB.PORT_STAT_OVER_CURRENT k = 1 ∧
        t.rd USBHUB.PORT_STAT_POWER k = 0 ∧ t.rd USBHUB.PORT_STAT_ENABLE k = 0 ∧ t.usb.power.contains k = false ∧
        bitOf (t.rd USBHUB.PORT_STAT_CHANGE k) 3 = true ∧ Counted s t 0 USBHUB.OVC_CNT_COUNT ∧
        event t 0x48 5 = true ∧ event t 0x48 6 = true ∧
        t = { s with regs := t.regs, usb := t.usb, timers := t.timers, msix := t.msix, sent := t.sent }) ∧
    (s.flag USBHUB.PORT_STAT_OVER_CURRENT k = true →
      ∃ t, exec (.usbOvercurrent (k + 1) false width) s = .next t ∧ t.rd USBHUB.PORT_STAT_OVER_CURRENT k = 0 ∧
        bitOf (t.rd USBHUB.PORT_STAT_CHANGE k) 3 = true ∧ event t 0x48 6 = true ∧
        RegsBut s t [key USBHUB.PORT_STAT_OVER_CURRENT k, key USBHUB.PORT_STAT_CHANGE k, intStat 0x48] ∧
        t = { s with regs := t.regs, msix := t.msix, sent := t.sent })) ∧
  (∀ (s : State) (k : Nat) (conn low : Bool), s.pageOn 0x48 = true → k < 4 → s.flag USBHUB.PORT_STAT_POWER k = true →
    s.flag USBHUB.PORT_STAT_CONNECT k ≠ conn →
    ∃ t, exec (.portConnectChange (k + 1) conn low) s = .next t ∧ t.flag USBHUB.PORT_STAT_CONNECT k = conn ∧
      (conn = false → t.rd USBHUB.PORT_STAT_ENABLE k = 0) ∧ (conn = true → t.rd USBHUB.PORT_STAT_SPEED k = bit (!low)) ∧
      bitOf (t.rd USBHUB.PORT_STAT_CHANGE k) 0 = true ∧ event t 0x48 6 = true ∧
      t = { s with regs := t.regs, msix := t.msix, sent := t.sent }) ∧
  (∀ (s : State) (k chirp : Nat) (low : Bool), s.usbOn = true → s.due (tPort k) = true →
    (k < 4 →
      ∃ t, exec (.portResetComplete (k + 1) chirp low) s = .next t ∧ t.rd USBHUB.PORT_STAT_RESET k = 0 ∧
        (s.flag USBHUB.PORT_STAT_CONNECT k = true → s.ttOk k = true → t.rd USBHUB.PORT_STAT_ENABLE k = 1 ∧
          t.rd USBHUB.PORT_STAT_SPEED k = (if 1000 ≤ chirp then 2 else if low then 0 else 1)) ∧
        bitOf (t.rd USBHUB.PORT_STAT_CHANGE k) 4 = true ∧ event t 0x48 6 = true ∧ TimersBut s t [tPort k] ∧
        t = { s with regs := t.regs, timers := t.timers, msix := t.msix, sent := t.sent }) ∧
    (k = 4 →
      ∃ t, exec (.portResetComplete 5 chirp low) s = .next t ∧ t.usb.fnConf = false ∧ t.usb.fnAddr = 0 ∧
        t.rd USBHUB.PORT_STAT_RESET 4 = 0 ∧ bitOf (t.rd USBHUB.PORT_STAT_CHANGE 4) 4 = true ∧ TimersBut s t [tPort 4])) ∧
  (∀ (s : State) (frame micro : Nat), s.usbOn = true → s.rd USBHUB.HUB_STAT_LINK = 0 → frame < 2048 → micro < 8 →
    s.flag USBFN.FN_STAT_STREAM_ON = false →
    ∃ t, exec (.usbSof frame micro) s = .next t ∧ t.rd USBFN.SOF_NS_NS = s.fab / 2 ^ 48 % 1000000000 ∧
      t.rd USBFN.SOF_FRAME_FRAME = frame ∧ t.rd USBFN.SOF_FRAME_MICRO = micro ∧
      RegsBut s t [key USBFN.SOF_NS_NS, key USBFN.SOF_FRAME_FRAME, key USBFN.SOF_FRAME_MICRO] ∧ t = { s with regs := t.regs })

/-- The requests of the upstream host to the hub and to the function have their effect or are answered with STALL -/
def Obligations.UsbRequestsOfTheHostComplete : Prop :=
  (∀ s : State, s.usbOn = true →
    exec .getHubStatus s = .next { s with sent := s.sent ++ [.bytes "USB_DATA" (natb [0, 0, s.usb.hubChange, 0])] } ∧
    (∀ k, 1 ≤ k → k ≤ 5 → exec (.getPortStatus k) s = .next { s with sent := s.sent ++
      [.bytes "USB_DATA" (natb (leBytes 2 (s.portStatus (k - 1)) ++ leBytes 2 (s.rd USBHUB.PORT_STAT_CHANGE (k - 1))))] }) ∧
    (∃ think cur, think < 4 ∧ cur < 256 ∧ exec .getHubDescriptor s = .next { s with sent := s.sent ++
      [.bytes "USB_DATA" (natb [9, 0x29, 5, 13 + 32 * think, 0, 50, cur, 0x20, 0xFF])] }) ∧
    (∀ k, exec (.getTtState k) s = .next { s with sent := s.sent ++ [.item "USB_STALL" [0, 0]] } ∧
      exec (.stopTt k) s = .next { s with sent := s.sent ++ [.item "USB_STALL" [0, 0]] }) ∧
    (∀ f, f < 2 → exec (.setHubFeature f) s = .next { s with usb := { s.usb with hubChange := setBit s.usb.hubChange f } } ∧
      exec (.clearHubFeature f) s = .next { s with usb := { s.usb with hubChange := clrBit s.usb.hubChange f } }) ∧
    (∀ f ok, exec (.setPortFeature 6 f ok) s = .next { s with sent := s.sent ++ [.item "USB_STALL" [0, 0]] }) ∧
    (∀ k, 1 ≤ k → k ≤ 4 →
      (∃ t, exec (.resetTt k) s = .next t ∧ Counted s t 0 USBHUB.TT_DROP_COUNT ∧ Tbl.find t.usb.tt (k - 1) = none ∧
        RegsBut s t [key USBHUB.TT_DROP_COUNT] ∧ t = { s with regs := t.regs, usb := { s.usb with tt := t.usb.tt } }) ∧
      (∀ ep, ∃ t, exec (.clearTtBuffer k ep) s = .next t ∧ Counted s t 0 USBHUB.TT_DROP_COUNT ∧
        (Tbl.get [] t.usb.tt (k - 1)).contains ep = false ∧
        RegsBut s t [key USBHUB.TT_DROP_COUNT] ∧ t = { s with regs := t.regs, usb := { s.usb with tt := t.usb.tt } }))) ∧
  (∀ (s : State) (k : Nat), s.usbOn = true → k < 5 →
    (s.flag USBHUB.PORT_STAT_ENABLE k = true →
      (∃ t, exec (.setPortFeature (k + 1) 2 true) s = .next t ∧ t.rd USBHUB.PORT_STAT_SUSPEND k = 1 ∧
        RegsBut s t [key USBHUB.PORT_STAT_SUSPEND k] ∧ t = { s with regs := t.regs }) ∧
      (∃ t, exec (.setPortFeature (k + 1) 5 true) s = .next t ∧ t.rd USBHUB.PORT_STAT_L1 k = 1 ∧
        RegsBut s t [key USBHUB.PORT_STAT_L1 k] ∧ t = { s with regs := t.regs })) ∧
    (s.flag USBHUB.PORT_STAT_POWER k = true →
      ∃ t, exec (.setPortFeature (k + 1) 4 true) s = .next t ∧ t.rd USBHUB.PORT_STAT_RESET k = 1 ∧
        t.rd USBHUB.PORT_STAT_ENABLE k = 0 ∧ Tbl.find t.timers (tPort k) = some (s.mono + ms 10) ∧ TimersBut s t [tPort k] ∧
        RegsBut s t [key USBHUB.PORT_STAT_RESET k, key USBHUB.PORT_STAT_ENABLE k, key USBHUB.PORT_STAT_SUSPEND k,
          key USBHUB.PORT_STAT_L1 k] ∧ t = { s with regs := t.regs, timers := t.timers }) ∧
    (k < 4 → s.rd USBHUB.PORT_CTRL_LOCK_OFF k = 0 →
      ∃ t, exec (.setPortFeature (k + 1) 8 true) s = .next t ∧ t.rd USBHUB.PORT_STAT_POWER k = 1 ∧
        t.usb = { s.usb with power := insertNat s.usb.power k } ∧ RegsBut s t [key USBHUB.PORT_STAT_POWER k] ∧
        t = { s with regs := t.regs, usb := t.usb }) ∧
    (k < 4 → s.rd USBHUB.PORT_CTRL_LOCK_OFF k = 1 →
      ∃ t, exec (.setPortFeature (k + 1) 8 true) s = .next t ∧ t.rd USBHUB.PORT_STAT_POWER k = 0) ∧
    (k < 4 → ∃ t, exec (.clearPortFeature (k + 1) 8) s = .next t ∧ t.rd USBHUB.PORT_STAT_POWER k = 0 ∧
      t.rd USBHUB.PORT_STAT_ENABLE k = 0 ∧ t.usb = { s.usb with power := deleteNat s.usb.power k } ∧ TimersBut s t [tPort k] ∧
      t = { s with regs := t.regs, usb := t.usb, timers := t.timers }) ∧
    (∃ t, exec (.clearPortFeature (k + 1) 1) s = .next t ∧ t.rd USBHUB.PORT_STAT_ENABLE k = 0 ∧
      RegsBut s t [key USBHUB.PORT_STAT_ENABLE k] ∧ t = { s with regs := t.regs }) ∧
    (s.flag USBHUB.PORT_STAT_SUSPEND k = true →
      ∃ t, exec (.clearPortFeature (k + 1) 2) s = .next t ∧ t.rd USBHUB.PORT_STAT_SUSPEND k = 0 ∧
        bitOf (t.rd USBHUB.PORT_STAT_CHANGE k) 2 = true ∧ event t 0x48 6 = true) ∧
    (∀ f b, (f, b) ∈ [(16, 0), (17, 1), (18, 2), (19, 3), (20, 4), (23, 5)] → s.rd USBHUB.PORT_STAT_CHANGE k < 64 →
      ∃ t, exec (.clearPortFeature (k + 1) f) s = .next t ∧ bitOf (t.rd USBHUB.PORT_STAT_CHANGE k) b = false ∧
        (∀ j, j ≠ b → bitOf (t.rd USBHUB.PORT_STAT_CHANGE k) j = bitOf (s.rd USBHUB.PORT_STAT_CHANGE k) j) ∧
        RegsBut s t [key USBHUB.PORT_STAT_CHANGE k] ∧ t = { s with regs := t.regs })) ∧
  (∀ s : State, s.usbOn = true →
    (∀ a, a < 128 →
      (∃ t, exec (.setAddress false a) s = .next t ∧ t.rd USBHUB.HUB_STAT_ADDRESS = a ∧
        RegsBut s t [key USBHUB.HUB_STAT_ADDRESS] ∧ t = { s with regs := t.regs }) ∧
      exec (.setAddress true a) s = .next { s with usb := { s.usb with fnAddr := a, staged := none } }) ∧
    (∀ on, exec (.setFeature true on 1 0) s = .next { s with usb := { s.usb with fnWake := on, staged := none } } ∧
      ∃ t, exec (.setFeature false on 1 0) s = .next t ∧ t.flag USBHUB.HUB_STAT_RWAKE_EN = on ∧
        RegsBut s t [key USBHUB.HUB_STAT_RWAKE_EN] ∧ t = { s with regs := t.regs }) ∧
    (∃ t, exec (.setFeature true true 0 0x81) s = .next t ∧ t.flag USBFN.FN_STAT_IN_HALT = true ∧
      RegsBut s t [key USBFN.FN_STAT_IN_HALT] ∧ t = { s with regs := t.regs, usb := { s.usb with staged := none } }) ∧
    (∀ on, ∃ t, exec (.setConfiguration true (bit on)) s = .next t ∧ t.usb.fnConf = on ∧ t.usb.resp = none ∧
      t.usb.ep2Halt = false ∧ t.usb.togOut = false ∧ t.usb.togIn = false ∧ t.usb.stream = [] ∧
      t.flag USBFN.FN_STAT_OUT_HALT = false ∧ t.flag USBFN.FN_STAT_IN_HALT = false ∧ t.flag USBFN.FN_STAT_STREAM_ON = false ∧
      (s.usb.fnConf ≠ on → event t 0x49 4 = true) ∧
      t = { s with regs := t.regs, usb := t.usb, msix := t.msix, sent := t.sent }) ∧
    (∀ on, ∃ t, exec (.setConfiguration false (bit on)) s = .next t ∧ t.flag USBHUB.HUB_STAT_CONFIGURED = on ∧
      (on = false → ∀ k, k < 4 → t.rd USBHUB.PORT_STAT_POWER k = 0) ∧
      (s.flag USBHUB.HUB_STAT_CONFIGURED ≠ on → event t 0x48 0 = true)) ∧
    (s.usb.fnConf = true →
      exec (.setInterface 0 0) s = .next { s with usb := { s.usb with staged := none, togOut := false, togIn := false, togInt := false } } ∧
      (∃ t, exec (.setInterface 1 1) s = .next t ∧ t.flag USBFN.FN_STAT_STREAM_ON = true ∧
        RegsBut s t [key USBFN.FN_STAT_STREAM_ON] ∧ t = { s with regs := t.regs, usb := { s.usb with staged := none } }) ∧
      (∃ t, exec (.setInterface 1 0) s = .next t ∧ t.flag USBFN.FN_STAT_STREAM_ON = false ∧ t.usb.stream = [] ∧
        RegsBut s t [key USBFN.FN_STAT_STREAM_ON])) ∧
    (∃ t, exec (.clearEndpointHalt 0x01) s = .next t ∧ t.flag USBFN.FN_STAT_OUT_HALT = false ∧
      RegsBut s t [key USBFN.FN_STAT_OUT_HALT] ∧ t = { s with regs := t.regs, usb := { s.usb with staged := none, togOut := false } }) ∧
    (∃ t, exec (.clearEndpointHalt 0x81) s = .next t ∧ t.flag USBFN.FN_STAT_IN_HALT = false ∧
      RegsBut s t [key USBFN.FN_STAT_IN_HALT] ∧
      t = { s with regs := t.regs, usb := { s.usb with staged := none, togIn := false, resp := none } }) ∧
    exec (.clearEndpointHalt 0x82) s = .next { s with usb := { s.usb with staged := none, togInt := false, ep2Halt := false } })

/-- The function's commands, vendor requests, channels and reports act and answer as R366 to R374 say -/
def Obligations.UsbFunctionCommandsComplete : Prop :=
  (∀ (s : State) (off : Nat), s.fnEp0 = true → off < 4096 →
    (s.judgePage .usbf false 0x49 0x64 0 = none → Tbl.find s.pageUnit.hold (holdKey .usbf 0x49064) = none →
      ∃ t, exec (.vendorRead 0x64) s = .next t ∧ t.usb = { s.usb with staged := none } ∧ t.regs = s.regs ∧
        t.sent = s.sent ++ [.bytes "USB_DATA" (natb (leBytes 4 (s.rd USBFN.CMD_CNT_COUNT % 2 ^ 32)))]) ∧
    (∀ c, s.judge .usbf false (0x49000 + off) 0 true = some c →
      ∃ t, exec (.vendorRead off) s = .next t ∧
        t.rd DEVICE.DENY_CNT_COUNT Port.usbf.code = min (s.rd DEVICE.DENY_CNT_COUNT Port.usbf.code + 1) 0xFFFFFFFF ∧
        RegsBut s t (denyKeys .usbf) ∧ t = { s with regs := t.regs, usb := { s.usb with staged := none }
                                                    sent := s.sent ++ [.item "USB_STALL" [1, 0]] }) ∧
    (∀ v, s.judge .usbf true (0x49000 + off) (v % 2 ^ 32) true = none →
      exec (.vendorWrite off v) s = .next { s with usb := { s.usb with staged := some (off, v % 2 ^ 32) } }) ∧
    (∀ v, s.usb.staged = some (0x50, v) → Settled s → 125 ≤ v → v ≤ 50000 →
      ∃ t, exec .statusStageAck s = .next t ∧ t.rd USBFN.STREAM_CFG_LATENCY = v ∧ RegsBut s t [key USBFN.STREAM_CFG_LATENCY] ∧
        t = { s with regs := t.regs, usb := { s.usb with staged := none } })) ∧
  (∀ (s : State) (tag : Nat) (nonce : List Byte), s.usbTakes = true → nonce.length = 16 →
    (∀ root, s.flag USBFN.FN_STAT_SESSION = false → s.running tAuth = false → s.gcm.root = some root →
      ∃ t hub, exec (.usbOpen tag nonce) s = .next t ∧ hub.length = 16 ∧ t.flag USBFN.FN_STAT_SESSION = true ∧
        event t 0x49 0 = true ∧ t.usb.key = cmac (s.usbKey root) (bnat nonce ++ hub) ∧ t.usb.counter = 0 ∧ t.usb.fails = 0 ∧
        t.usb.resp = some (usbBytes 0x90 0 tag 0 0 hub, []) ∧
        t.rd USBFN.CMD_CNT_COUNT = (s.rd USBFN.CMD_CNT_COUNT + 1) % 2 ^ 32 ∧
        RegsBut s t [key USBFN.FN_STAT_SESSION, key USBFN.CMD_CNT_COUNT, intStat 0x49] ∧
        t = { s with regs := t.regs, usb := t.usb, free := s.free + 1, msix := t.msix, sent := t.sent }) ∧
    (s.flag USBFN.FN_STAT_SESSION = true → s.usb.fails + 1 < s.rd USBFN.AUTH_CFG_FAIL_LIMIT →
      ∃ t, exec (.usbOpen tag nonce) s = .next t ∧ t.flag USBFN.FN_STAT_OUT_HALT = true ∧ Counted s t 0 USBFN.AUTH_FAIL_COUNT ∧
        event t 0x49 2 = true ∧ t.usb.fails = s.usb.fails + 1 ∧ t.usb.resp = none ∧
        RegsBut s t [key USBFN.FN_STAT_OUT_HALT, key USBFN.AUTH_FAIL_COUNT, intStat 0x49])) ∧
  (∀ (s : State) (tag counter : Nat) (mac : List Byte), s.usbTakes = true → mac.length = 8 →
    (s.flag USBFN.FN_STAT_SESSION = true → s.authOk counter (usbBytes 0x11 0 tag counter 0 []) mac = true →
      ∃ t m, exec (.usbClose tag counter mac) s = .next t ∧ t.flag USBFN.FN_STAT_SESSION = false ∧ t.usb.key = [] ∧
        event t 0x49 1 = true ∧ t.usb.resp = some (usbBytes 0x91 0 tag counter 0 [] ++ m, []) ∧
        t.rd USBFN.CMD_CNT_COUNT = (s.rd USBFN.CMD_CNT_COUNT + 1) % 2 ^ 32) ∧
    (s.authOk counter (usbBytes 0x21 0 tag counter 0 []) mac = true →
      (s.usb.queue = [] →
        ∃ t m, exec (.usbRecv tag counter mac) s = .next t ∧ t.usb.resp = some (usbBytes 0xA1 0 tag counter 1 [] ++ m, []) ∧
          t.usb.queue = [] ∧ RegsBut s t [key USBFN.CMD_CNT_COUNT]) ∧
      (∀ k msg rest, s.usb.queue = (k, msg) :: rest →
        ∃ t m, exec (.usbRecv tag counter mac) s = .next t ∧ t.usb.queue = rest ∧
          t.usb.resp = some (usbBytes 0xA1 0 tag counter 0 (k :: bnat msg) ++ m, []) ∧ RegsBut s t [key USBFN.CMD_CNT_COUNT])) ∧
    (∀ ch data, ch < 16 → data.length ≤ 220 → s.flt.todo = [] →
      s.authOk counter (usbBytes 0x20 0 tag counter ch (bnat data)) mac = true →
      (s.flag USBHUB.CHAN_CFG_EN ch = true → s.isTwin = false → nodeOf (s.rd USBHUB.CHAN_CFG_DEST ch) ≠ s.nodeId →
        Plain s (s.rd USBHUB.CHAN_CFG_TC ch) (s.rd USBHUB.CHAN_CFG_DEST ch) → Room s 6 (s.rd USBHUB.CHAN_CFG_TC ch) →
        ∃ t m, exec (.usbSend tag counter ch data mac) s = .next t ∧
          t.usb.resp = some (usbBytes 0xA0 0 tag counter 0 [] ++ m, []) ∧
          Queued s t 6 (s.rd USBHUB.CHAN_CFG_TC ch) (fun g => g.dest = s.rd USBHUB.CHAN_CFG_DEST ch ∧
            g.src = s.nodeId * 8192 + 1536 + ch ∧ g.payload = data)) ∧
      (s.flag USBHUB.CHAN_CFG_EN ch = false →
        ∃ t m, exec (.usbSend tag counter ch data mac) s = .next t ∧
          t.usb.resp = some (usbBytes 0xA0 0 tag counter 2 [] ++ m, []) ∧ RegsBut s t [key USBFN.CMD_CNT_COUNT])) ∧
    (s.authOk counter (usbBytes 1 1 tag counter 0x49064 []) mac = true →
      (s.judgePage .usbf false 0x49 0x64 0 = none → Tbl.find s.pageUnit.hold (holdKey .usbf 0x49064) = none →
        ∃ t m, exec (.usbRead 1 tag counter 0x49064 mac) s = .next t ∧ t.usb.resp = some (usbBytes 0x81 1 tag counter 0
          (leBytes 4 (s.rd USBFN.CMD_CNT_COUNT % 2 ^ 32)) ++ m, []) ∧ RegsBut s t [key USBFN.CMD_CNT_COUNT]) ∧
      (∀ c, s.judgePage .usbf false 0x49 0x64 0 = some c →
        ∃ t, exec (.usbRead 1 tag counter 0x49064 mac) s = .next t ∧ t.flag USBFN.FN_STAT_OUT_HALT = true ∧ t.usb.resp = none ∧
          t.rd DEVICE.DENY_CNT_COUNT Port.usbf.code = min (s.rd DEVICE.DENY_CNT_COUNT Port.usbf.code + 1) 0xFFFFFFFF)) ∧
    (∀ v, s.authOk counter (usbBytes 2 1 tag counter 0x49050 (leBytes 4 v)) mac = true → Settled s →
      s.judgePage .usbf true 0x49 0x50 v = none → 125 ≤ v → v ≤ 50000 →
      ∃ t m, exec (.usbWrite tag counter 0x49050 [v] mac) s = .next t ∧ t.rd USBFN.STREAM_CFG_LATENCY = v ∧
        t.usb.resp = some (usbBytes 0x82 1 tag counter 0 [] ++ m, []) ∧
        RegsBut s t [key USBFN.CMD_CNT_COUNT, key USBFN.STREAM_CFG_LATENCY])) ∧
  (∀ s : State,
    (s.due tAuth = true →
      exec .authLockoutEnd s = .next { s with timers := Tbl.del s.timers tAuth }) ∧
    (∀ bs, s.usb.resp = some (bs, []) →
      ∃ t, exec .responseAck s = .next t ∧ t.usb.resp = none ∧
        t.usb.togIn = (if s.usbPackets bs.length % 2 = 1 then !s.usb.togIn else s.usb.togIn) ∧
        t = { s with usb := { s.usb with resp := none, togIn := t.usb.togIn } })) ∧
  (∀ (s : State) (f : Frame) (k : Nat), k < 16 → localOf f.dest = 1536 + k → s.pageOn 0x49 = true → f.resp = false →
    f.refuse = false → f.tc ≠ 4 → s.flt.todo = [] →
    (s.flag USBHUB.CHAN_CFG_EN k = true → s.fenced 0x49 = false → s.flag USBHUB.CHAN_CFG_ISO k = false →
      s.chanBytes + f.payload.length ≤ 16384 →
      ∃ t, exec (.usbChannelRx f) s = .next t ∧ t.usb = { s.usb with queue := s.usb.queue ++ [(k, f.payload)] } ∧
        t = { s with usb := t.usb, inbox := t.inbox }) ∧
    (s.flag USBHUB.CHAN_CFG_EN k = true → s.fenced 0x49 = false → s.flag USBHUB.CHAN_CFG_ISO k = true →
      s.flag USBFN.FN_STAT_STREAM_ON = true → f.payload.length = 16 → s.usb.stream.length < 512 →
      ∃ t, exec (.usbChannelRx f) s = .next t ∧ t.usb = { s.usb with stream := s.usb.stream ++ [bnat f.payload] } ∧
        t = { s with usb := t.usb, inbox := t.inbox }) ∧
    (s.flag USBHUB.CHAN_CFG_EN k = false → s.isTwin = false → nodeOf f.src ≠ s.nodeId → Plain s 4 f.src → Room s 6 4 →
      ∃ t, exec (.usbChannelRx f) s = .next t ∧ t.usb = s.usb ∧ Counted s t 0 MGMT.ABSENT_CNT_COUNT ∧
        Queued s t 6 4 (fun g => g.dest = f.src ∧ g.refuse = true ∧ (bnat g.payload).headD 0 = 2))) ∧
  (∀ s : State,
    (s.usbOn = true → s.usb.fnConf = true → s.usb.ep2Halt = false →
      (s.usb.acked ≠ some s.usbReport →
        exec .usbReportSend s = .next { s with usb := { s.usb with report := some s.usbReport }
                                               sent := s.sent ++ [.bytes "USB_REPORT" (natb s.usbReport)] }) ∧
      (s.usb.acked = some s.usbReport →
        exec .usbReportSend s = .next { s with sent := s.sent ++ [.item "USB_NAK" [1, 0x82]] })) ∧
    (∀ r, s.usb.report = some r →
      ∃ t, exec .usbReportAck s = .next t ∧ t.usb.acked = some r ∧ t.usb.report = none ∧ t.usb.drops = s.usb.drops - ofLe (r.drop 6) ∧
        t.rd USBFN.FN_STAT_WAKE_PEND = 0 ∧
        (∀ b, b < 8 → s.rd USBFN.DB_NOTIFY_NOTIFY < 256 → bitOf (t.rd USBFN.DB_NOTIFY_NOTIFY) b =
          (bitOf (s.rd USBFN.DB_NOTIFY_NOTIFY) b && !bitOf (r.getD 0 0) b)) ∧
        RegsBut s t [key USBFN.DB_NOTIFY_NOTIFY, key USBFN.FN_STAT_WAKE_PEND] ∧ t = { s with regs := t.regs, usb := t.usb })) ∧
  (∀ (s : State) (p : Port) (v : Nat), Permitted s p 0x49 0x48 v →
    ∃ t, exec (.usbfnDoorbell p v) s = .next t ∧ (∀ b, b < 8 → event t 0x49 (8 + b) = (event s 0x49 (8 + b) || bitOf v b)) ∧
      RegsBut s t [intStat 0x49] ∧ t = { s.heard p with regs := t.regs, msix := t.msix, sent := t.sent })

/-- Association entries, their records, epochs, the key cache and the key alarms act as R382 to R398 say -/
def Obligations.AssociationsRecordsAndAlarmsComplete : Prop :=
  (∀ (s : State) (p : Port) (v i : Nat), Permitted s p 0x18 0x48 v → i = s.rd GCM.A_SEL_ENTRY → i < 256 →
    (s.flag GCM.A_CFG_EN i = false → bitOf v 31 = true → bitOf v 30 = true →
      (∀ j, j < 256 → j ≠ i → s.flag GCM.A_CFG_EN j = false) →
      ∃ t, exec (.assocEnable p v) s = .next t ∧ t.flag GCM.A_CFG_EN i = true ∧ t.flag GCM.A_CFG_DIR i = true ∧
        t.rd GCM.A_CFG_NODE i = bits v 12 12 ∧ t.rd GCM.A_CFG_NUMBER i = bits v 0 12 ∧ t.rd GCM.A_STAT_CONFLICT i = 0 ∧
        (bits v 24 3 ≠ 7 → t.rd GCM.A_CFG_TC i = bits v 24 3) ∧
        RegsBut s t [key GCM.A_CFG_EN i, key GCM.A_CFG_DIR i, key GCM.A_CFG_NODE i, key GCM.A_CFG_NUMBER i,
          key GCM.A_CFG_TC i, key GCM.A_STAT_CONFLICT i] ∧ t = { s.heard p with regs := t.regs, sent := s.sent ++ [done p] }) ∧
    (∀ j, s.flag GCM.A_CFG_EN i = false → bitOf v 31 = true → bitOf v 30 = true → j < 256 → j ≠ i →
      s.flag GCM.A_CFG_EN j = true → s.flag GCM.A_CFG_DIR j = true → s.rd GCM.A_CFG_NUMBER j = bits v 0 12 →
      s.rd GCM.A_CFG_NODE j = bits v 12 12 →
      ∃ t, exec (.assocEnable p v) s = .next t ∧ t.flag GCM.A_CFG_EN i = false ∧ t.rd GCM.A_STAT_CONFLICT i = 1) ∧
    (s.flag GCM.A_CFG_EN i = false → s.flag GCM.A_STAT_SAVED i = false → bitOf v 31 = true → bitOf v 30 = false →
      ∃ t, exec (.assocEnable p v) s = .next t ∧ t.flag GCM.A_CFG_EN i = false ∧ t.flag GCM.A_CFG_DIR i = false) ∧
    (s.flag GCM.A_CFG_EN i = true → bitOf v 31 = false →
      ∃ t, exec (.assocEnable p v) s = .next t ∧ t.flag GCM.A_CFG_EN i = false ∧ RegsBut s t [key GCM.A_CFG_EN i] ∧
        t = { s.heard p with regs := t.regs, sent := s.sent ++ [done p] })) ∧
  (∀ (s : State) (p : Port) (i : Nat), Permitted s p 0x18 0x5C 1 → i = s.rd GCM.A_SEL_ENTRY → i < 256 →
    s.flag GCM.A_CFG_DIR i = false →
    (s.rd GCM.A_EPOCH_EPOCH i < s.rd GCM.A_EPOCH_CEIL i → s.rd GCM.A_EPOCH_CEIL i < 2 ^ 16 →
      ∃ t, exec (.roll p) s = .next t ∧ t.rd GCM.A_EPOCH_EPOCH i = s.rd GCM.A_EPOCH_EPOCH i + 1 ∧ t.rd GCM.A_PN_PN i = 1 ∧
        RegsBut s t [key GCM.A_EPOCH_EPOCH i, key GCM.A_PN_PN i] ∧
        t.gcm = { s.gcm with rolls := insertNat s.gcm.rolls i } ∧
        t = { s.heard p with regs := t.regs, gcm := t.gcm, sent := s.sent ++ [done p] }) ∧
    (s.rd GCM.A_EPOCH_CEIL i ≤ s.rd GCM.A_EPOCH_EPOCH i → exec (.roll p) s = .next { s.heard p with sent := s.sent ++ [done p] })) ∧
  (∀ (s : State) (p : Port) (wrap : Bool), s.rd GCM.REC_CTRL_STATUS ≠ 1 →
    (Permitted s p 0x18 0x70 (1 + 256 * bit wrap) →
      ∃ t, exec (.recSave p wrap) s = .next t ∧ t.rd GCM.REC_CTRL_STATUS = 1 ∧ t.rd GCM.REC_CTRL_CAUSE = 0 ∧
        t.gcm = { s.gcm with recOp := some { save := true, entry := s.rd GCM.A_SEL_ENTRY, wrap := wrap } } ∧
        Tbl.find t.timers tRec = some (s.mono + (if wrap then us 300 else us 2)) ∧ TimersBut (s.heard p) t [tRec] ∧
        RegsBut s t [key GCM.REC_CTRL_STATUS, key GCM.REC_CTRL_CAUSE, key GCM.REC_CTRL_WRAP] ∧
        t = { s.heard p with regs := t.regs, gcm := t.gcm, timers := t.timers, sent := s.sent ++ [done p] }) ∧
    (Permitted s p 0x18 0x70 (2 + 256 * bit wrap) →
      ∃ t, exec (.recRestore p wrap) s = .next t ∧ t.rd GCM.REC_CTRL_STATUS = 1 ∧ t.rd GCM.REC_CTRL_CAUSE = 0 ∧
        t.gcm = { s.gcm with recOp := some { save := false, entry := s.rd GCM.A_SEL_ENTRY, wrap := wrap } } ∧
        Tbl.find t.timers tRec = some (s.mono + (if wrap then us 300 else us 2)) ∧ TimersBut (s.heard p) t [tRec] ∧
        RegsBut s t [key GCM.REC_CTRL_STATUS, key GCM.REC_CTRL_CAUSE, key GCM.REC_CTRL_WRAP] ∧
        t = { s.heard p with regs := t.regs, gcm := t.gcm, timers := t.timers, sent := s.sent ++ [done p] })) ∧
  (∀ (s : State) (i : Nat), s.due tRec = true → i < 256 →
    (s.gcm.recOp = some { save := true, entry := i, wrap := false } →
      ∃ t, exec .recordOpDone s = .next t ∧ t.rd GCM.REC_CTRL_STATUS = 2 ∧ t.flag GCM.A_STAT_SAVED i = true ∧
        t.rd GCM.A_EPOCH_CEIL i = min (s.rd GCM.A_EPOCH_EPOCH i + 1) 0xFFFF ∧
        (∀ k, k < 7 → t.rd GCM.REC_WORD k =
          nth (s.recWords i (min (s.rd GCM.A_EPOCH_EPOCH i + 1) 0xFFFF)) k % 2 ^ 32) ∧
        t.gcm = { s.gcm with recOp := none } ∧
        t = { s with regs := t.regs, gcm := t.gcm, timers := t.timers }) ∧
    (s.gcm.recOp = some { save := false, entry := i, wrap := false } →
      (s.flag GCM.A_CFG_EN i = true →
        ∃ t, exec .recordOpDone s = .next t ∧ t.rd GCM.REC_CTRL_STATUS = 3 ∧ t.rd GCM.REC_CTRL_CAUSE = 1 ∧
          RegsBut s t [key GCM.REC_CTRL_STATUS, key GCM.REC_CTRL_CAUSE]) ∧
      (∀ ws, s.flag GCM.A_CFG_EN i = false → s.flag GCM.CFG_OPEN_LOAD = true →
        ws = (List.range 8).map (fun k => s.rd GCM.REC_WORD k) → nth ws 7 = crc32c (wordsLe (ws.take 7)) → nth ws 0 / 2 ^ 24 = 1 →
        (bits (nth ws 0) 0 12 = s.nodeId → bits (nth ws 0) 12 1 = s.twinBit → bits (nth ws 0) 16 8 = i → nth ws 4 < 0xFFFF →
          ∃ t, exec .recordOpDone s = .next t ∧ t.rd GCM.REC_CTRL_STATUS = 2 ∧ t.rd GCM.A_EPOCH_EPOCH i = nth ws 4 + 1 ∧
            t.rd GCM.A_EPOCH_CEIL i = nth ws 4 + 1 ∧ t.rd GCM.A_PN_PN i = 1 ∧ t.flag GCM.A_STAT_SAVED i = false ∧
            t.rd GCM.A_CFG_NUMBER i = bits (nth ws 1) 0 12 ∧ t.rd GCM.A_BASE_BASE i = nth ws 2 % 2 ^ 25 ∧
            t.rd GCM.A_MASK_MASK i = nth ws 3 % 2 ^ 25) ∧
        (bits (nth ws 0) 0 12 ≠ s.nodeId →
          ∃ t, exec .recordOpDone s = .next t ∧ t.rd GCM.REC_CTRL_STATUS = 3 ∧ t.rd GCM.REC_CTRL_CAUSE = 3)))) ∧
  (∀ (s : State) (p : Port) (v i : Nat), Permitted s p 0x18 0x54 v → i = s.rd GCM.A_SEL_ENTRY → i < 256 →
    (s.flag GCM.A_CFG_DIR i = true →
      ∃ t, exec (.aEpochWrite p v) s = .next t ∧ t.rxEpoch i 0 = v % 2 ^ 16 ∧ t.rxEpoch i 1 = v % 2 ^ 16 ∧
        t.gcm.wins = s.gcm.wins.filter (fun w => w.1 / 131072 ≠ i) ∧ Tbl.find t.gcm.grace (2 * i) = none ∧
        RegsBut s t [key GCM.A_EPOCH_EPOCH i, key GCM.A_RXEP_EPOCH_T0 i, key GCM.A_RXEP_EPOCH_T1 i]) ∧
    (s.flag GCM.A_CFG_DIR i = false → s.flag GCM.A_CFG_EN i = true →
      exec (.aEpochWrite p v) s = .next { s.heard p with sent := s.sent ++ [done p] })) ∧
  (∀ (s : State) (i b : Nat), s.due (tGrace i b) = true →
    ∃ t, exec (.epochGraceEnd i b) s = .next t ∧ Tbl.find t.gcm.grace (2 * i + b) = none ∧ t.running (tGrace i b) = false ∧
      TimersBut s t [tGrace i b] ∧ t = { s with timers := t.timers, gcm := t.gcm }) ∧
  (∀ (s : State) (f : Frame) (inp tag i : Nat) (outs : List Nat) (rest : List GcmWait) (r : List Nat),
    s.gcm.waiting = .seal f inp tag outs :: rest → s.flt.todo = [] → s.keysUsable = true → s.gcm.root = some r →
    s.txEntry f.tc f.dest = some i → s.flag GCM.A_STAT_HALTED i = false → s.gcm.rolls.contains i = false →
    s.isTwin = false → f.len ≤ 190 → Room s inp f.tc → s.rd GCM.A_PN_PN i + 1 < 2 ^ 63 - 1 →
    ∃ t, exec .keyDerived s = .next t ∧ t.gcm.waiting = rest ∧ s.sealKey i f ∈ t.gcm.cache ∧
      t.rd KEYS.DERIVE_CNT_COUNT = (s.rd KEYS.DERIVE_CNT_COUNT + 1) % 2 ^ 32 ∧ t.rd GCM.A_PN_PN i = s.rd GCM.A_PN_PN i + 1 ∧
      Counted s t 0 GCM.SEALED_COUNT ∧
      Queued s t inp f.tc (fun g => g.sec = true ∧ g.dest = f.dest ∧ g.len = f.len + 8 ∧ g.assoc = s.rd GCM.A_CFG_NUMBER i)) ∧
  (∀ (s : State) (cause : Nat), s.mode ≠ 0 → cause ≤ 3 → s.flt.todo = [] →
    (s.rd KEYS.ALARM_STAT_CAUSE = 0 →
      ∃ t, exec (.keyAlarm cause) s = .next t ∧ t.gcm = { s.gcm with root := none, cache := [] } ∧
        t.rd KEYS.ALARM_STAT_CAUSE = 2 ^ cause ∧ t.rd KEYS.ROOT_STAT_LOCKED = 1 ∧ t.flag USBFN.FN_STAT_SESSION = false ∧
        t.rd KEYS.ALARM_NS_NS = s.nowNs ∧ t.rd KEYS.ALARM_SEC_SEC_LO = s.nowSec % 2 ^ 32 ∧ event t 0x19 0 = true ∧
        bitOf (t.rdn 0x19 HDR.FLT_STAT_CHECKERS) 3 = true ∧ t.pd = (if s.mode = 5 then deleteNat s.pd 7 else s.pd) ∧
        (s.otp.killEn = true → t.rd KEYS.ROOT_STAT_KILL_RUN = 1 ∧ t.otp.killStarted = true ∧
          Tbl.find t.timers tKill = some (s.mono + ms 40)) ∧ (s.otp.killEn = false → t.otp = s.otp ∧ t.timers = s.timers)) ∧
    (s.rd KEYS.ALARM_STAT_CAUSE ≠ 0 →
      ∃ t, exec (.keyAlarm cause) s = .next t ∧
        t.rd KEYS.ALARM_STAT_CAUSE = setBit (s.rd KEYS.ALARM_STAT_CAUSE) cause % 2 ^ 6 ∧
        RegsBut s t [key KEYS.ALARM_STAT_CAUSE] ∧ t = { s with regs := t.regs })) ∧
  (∀ (s : State) (p : Port) (v : Nat), s.flt.todo = [] → Permitted s p 0x19 0x54 v →
    (v = 0x5A45524F → s.rd KEYS.ALARM_STAT_CAUSE = 0 →
      ∃ t, exec (.zeroize p v) s = .next t ∧ t.gcm = { s.gcm with root := none, cache := [] } ∧
        t.rd KEYS.ALARM_STAT_CAUSE = 2 ^ 5 ∧ t.rd KEYS.ROOT_STAT_LOCKED = 1 ∧ event t 0x19 0 = true) ∧
    (v ≠ 0x5A45524F → exec (.zeroize p v) s = .next { s.heard p with sent := s.sent ++ [done p] })) ∧
  (∀ s : State,
    (s.due tTagWin = true →
      ∃ t, exec .tagWindowEnd s = .next t ∧ t.gcm = { s.gcm with tagCnt := 0 } ∧
        Tbl.find t.timers tTagWin = some (s.mono + s.rd KEYS.ALARM_CFG_TAG_WIN * ms 100) ∧ TimersBut s t [tTagWin] ∧
        t = { s with gcm := t.gcm, timers := t.timers }) ∧
    (s.due tKill = true →
      ∃ t, exec .killDone s = .next t ∧ t.rd KEYS.ROOT_STAT_KILLED = 1 ∧ t.rd KEYS.ROOT_STAT_KILL_RUN = 0 ∧ t.otp.killed = true ∧
        (∀ k, k < 16 → Tbl.find t.otp.keyWords k = some 0xFFFFFFFF) ∧ event t 0x19 1 = true ∧
        RegsBut s t [key KEYS.ROOT_STAT_KILLED, key KEYS.ROOT_STAT_KILL_RUN, intStat 0x19] ∧
        t = { s with regs := t.regs, otp := t.otp, timers := t.timers, msix := t.msix, sent := t.sent }) ∧
    (∀ p, Permitted s p 0x19 0x58 1 → exec (.keyFlush p) s = .next { s.heard p with
      gcm := { s.gcm with cache := s.gcm.cache.filter s.pinned }, sent := s.sent ++ [done p] }))

/-- Breaker channels qualify, ramp, turn on, trip and open as R405 to R419 say -/
def Obligations.BreakerChannelsTurnOnAndOff : Prop :=
  (∀ (s : State) (p : Port) (n : Nat), 4 ≤ n → n < 12 → Settled s → s.flag BRK.CH_CFG_FITTED n = true → (s.brkCh n).fenced = false →
    (Permitted s p 0x4C (0x100 + 0x40 * n) (2 * s.rd BRK.CH_CTRL_KEEP n + 1) →
      ∃ t, exec (.breakerEn p n true) s = .next t ∧ t.flag BRK.CH_CTRL_EN n = true ∧
        (s.chState n = 0 → s.enabled 0x4C = true → s.flag BRK.CH_STAT_PRESENT n = true → 2 ≤ s.mode →
          t.chState n = 1 ∧ Tbl.find t.timers (tDelay n) = some (s.mono + s.rd BRK.CH_DELAY_DELAY n * ms 1))) ∧
    (Permitted s p 0x4C (0x100 + 0x40 * n) (2 * s.rd BRK.CH_CTRL_KEEP n) → s.chState n ≤ 6 →
      ∃ t, exec (.breakerEn p n false) s = .next t ∧ t.flag BRK.CH_CTRL_EN n = false ∧ t.flag BRK.CH_STAT_LATCHED n = false ∧
        t.chState n = 0 ∧ (s.chPowered n = true → t.rd BRK.CH_STAT_CAUSE n = 1 ∧ Counted s t 0 LINE.OFF_CNT_COUNT n ∧
          event t 0x4C (16 + n) = true ∧
          Tbl.find t.timers (tOffMin n) = some (s.mono + s.rd BRK.CH_DELAY_OFF_MIN n * ms 1)))) ∧
  (∀ (s : State) (n vin : Nat), 4 ≤ n → n < 12 → Settled s → s.mayQualify n = true → vin < 4096 →
    (s.chState n = 1 → s.due (tDelay n) = true → codeGe vin (s.rd BRK.CH_WIN_UV_ON n) = true →
      codeLe vin (s.rd BRK.CH_WIN_OV_ON n) = true →
      ∃ t, exec (.breakerQualified n vin 0) s = .next t ∧ (t.brkCh n).qual = true ∧
        t.chState n = (if s.running (tOffMin n) then 2 else if s.rd POWER.BUD_CFG_POLICY ≠ 2 then 3 else 4)) ∧
    (s.chState n = 2 → s.due (tOffMin n) = true → (s.brkCh n).qual = true →
      ∃ t, exec (.breakerOffTimeEnd n) s = .next t ∧ t.running (tOffMin n) = false ∧
        t.chState n = (if s.rd POWER.BUD_CFG_POLICY ≠ 2 then 3 else 4))) ∧
  (∀ (s : State) (n : Nat) (cur : Int) (vin vout : Nat), 4 ≤ n → n < 12 → Settled s → s.chState n = 4 → s.due (tRampStep n) = true →
    (cur ≤ s.rd BRK.CH_CFG_INRUSH n → 63 ≤ (s.brkCh n).duty → vin * 5 ≤ vout * 5 + 256 → vout * 5 ≤ vin * 5 + 256 →
      ∃ t, exec (.breakerRampStep n cur vin vout) s = .next t ∧ t.chState n = 5 ∧ (t.brkCh n).duty = 64 ∧
        bitOf (t.rd BRK.ON_MAP_ON) n = true ∧ event t 0x4C (16 + n) = true ∧ t.running (tRampMax n) = false) ∧
    (cur ≤ s.rd BRK.CH_CFG_INRUSH n → (s.brkCh n).duty < 63 →
      ∃ t, exec (.breakerRampStep n cur vin vout) s = .next t ∧ t.chState n = 4 ∧ (t.brkCh n).duty = (s.brkCh n).duty + 1 ∧
        Tbl.find t.timers (tRampStep n) = some (s.mono + us 20)) ∧
    ((s.rd BRK.CH_CFG_INRUSH n : Int) < cur → (s.brkCh n).duty < 64 →
      ∃ t, exec (.breakerRampStep n cur vin vout) s = .next t ∧ t.chState n = 4 ∧ (t.brkCh n).duty = (s.brkCh n).duty)) ∧
  (∀ (s : State) (n cause : Nat) (c : Instr), n < 12 → Settled s → FirstOff s n →
    (c = .breakerRampTimeout n ∧ s.chState n = 4 ∧ s.due (tRampMax n) = true ∧ cause = 5) ∨
    (∃ cur : Int, c = .breakerInstantTrip n cur ∧ s.chPowered n = true ∧
      ((min (s.rd BRK.CH_INST_INST n) (s.fullScale n) : Nat) : Int) < cur ∧ cause = (if s.chState n = 4 then 4 else 2)) ∨
    (∃ (cur : Int) (dt : Nat), c = .breakerCurveTrip n cur dt ∧ s.chState n = 5 ∧ cause = 3 ∧
      2 ^ 48 ≤ heatAfter (s.curve n) (s.rd BRK.CH_SCALE_TAU n) cur.toNat dt (s.brkCh n).heat) →
    ∃ t, exec c s = .next t ∧ t.chState n = 6 ∧ t.rd BRK.CH_STAT_CAUSE n = cause ∧ t.flag BRK.CH_STAT_LATCHED n = true ∧
      bitOf (t.rd BRK.TRIP_MAP_TRIPPED) n = true ∧ Counted s t 0 BRK.CH_TRIPS_COUNT n ∧ Counted s t 0 LINE.OFF_CNT_COUNT n ∧
      event t 0x4C n = true ∧ Tbl.find t.timers (tOffMin n) = some (s.mono + s.rd BRK.CH_DELAY_OFF_MIN n * ms 1)) ∧
  (∀ (s : State) (n dt : Nat) (cur : Int), n < 12 → Settled s →
    (s.chState n = 5 → heatAfter (s.curve n) (s.rd BRK.CH_SCALE_TAU n) cur.toNat dt (s.brkCh n).heat < 2 ^ 48 →
      ∃ t, exec (.breakerCurveTrip n cur dt) s = .next t ∧ t.chState n = 5 ∧ t.rd LINE.I_NOW_NOW n = ofSigned 16 cur ∧
        (t.brkCh n).heat = heatAfter (s.curve n) (s.rd BRK.CH_SCALE_TAU n) cur.toNat dt (s.brkCh n).heat) ∧
    (s.chState n = 4 →
      ∃ t, exec (.breakerCurveTrip n cur dt) s = .next t ∧ t.chState n = 4 ∧ (t.brkCh n).heat = (s.brkCh n).heat)) ∧
  (∀ (s : State) (n vin : Nat), n < 12 → Settled s → FirstOff s n → s.chState n = 5 →
    codeGe vin (s.rd BRK.CH_WIN_UV_OFF n) = false ∨ codeLe vin (s.rd BRK.CH_WIN_OV_OFF n) = false →
    ∃ t, exec (.breakerWindowOpen n vin) s = .next t ∧ t.chState n ≠ 5 ∧ t.rd BRK.CH_STAT_CAUSE n = 6 ∧
      Counted s t 0 LINE.OFF_CNT_COUNT n ∧ event t 0x4C (16 + n) = true ∧
      (n < 2 → s.chState (1 - n) ≠ 5 → ∀ m, 2 ≤ m → m < 12 → s.chPowered m = true →
        t.rd BRK.CH_STAT_CAUSE m = 6 ∧ t.chState m ≠ 5)) ∧
  (∀ (s : State) (n : Nat) (cur : Int), n < 4 → Settled s → FirstOff s n → s.chPowered n = true → cur < -(s.rd BRK.CH_INST_REV n : Int) →
    ∃ t, exec (.breakerReverseOpen n cur) s = .next t ∧ t.chState n ≠ 5 ∧ t.rd BRK.CH_STAT_CAUSE n = 7 ∧
      Counted s t 0 LINE.OFF_CNT_COUNT n ∧ event t 0x4C (16 + n) = true ∧
      (n < 2 → t.chState n = 0 ∧ (t.brkCh n).rev = s.flag BRK.CH_CTRL_EN n)) ∧
  (∀ (s : State) (n : Nat) (cur : Int) (o : BrkOff), n < 12 → Settled s → (s.brkCh n).off = some o → o.sample = s.sampleNo →
    o.rank = 6 → o.state = 5 → s.chState n = 0 → s.flag BRK.CH_CTRL_EN n = false →
    ((min (s.rd BRK.CH_INST_INST n) (s.fullScale n) : Nat) : Int) < cur →
    ∃ t, exec (.breakerInstantTrip n cur) s = .next t ∧ t.chState n = 0 ∧ t.rd BRK.CH_STAT_CAUSE n = 2 ∧
      Counted s t 0 BRK.CH_TRIPS_COUNT n ∧ t.rd LINE.OFF_CNT_COUNT n = s.rd LINE.OFF_CNT_COUNT n ∧
      t.flag BRK.CH_STAT_LATCHED n = s.flag BRK.CH_STAT_LATCHED n ∧ event t 0x4C n = true) ∧
  (∀ (s : State) (n vcable vbus : Nat), n < 2 → Settled s → (s.brkCh n).rev = true → s.chState n = 0 → vcable < 4096 →
    vbus * 25 + 256 ≤ vcable * 25 → codeGe vcable (s.rd BRK.CH_WIN_UV_ON n) = true → codeLe vcable (s.rd BRK.CH_WIN_OV_ON n) = true →
    s.flag BRK.CH_CTRL_EN n = true → s.enabled 0x4C = true → s.partnerHolds n = false → (s.brkCh n).fenced = false →
    ∃ t, exec (.inletReclose n vcable vbus) s = .next t ∧ t.chState n = 5 ∧ (t.brkCh n).rev = false ∧
      bitOf (t.rd BRK.ON_MAP_ON) n = true ∧ event t 0x4C (16 + n) = true) ∧
  (∀ (s : State) (k : Nat), k < 8 → Settled s →
    (s.flag BRK.CH_STAT_PRESENT (4 + k) = true → s.chState (4 + k) ≤ 5 →
      ∃ t, exec (.slotRemoved k) s = .next t ∧ t.flag BRK.CH_STAT_PRESENT (4 + k) = false ∧ t.chState (4 + k) = 0 ∧
        t.rd BRK.CH_STAT_CAUSE (4 + k) = 8 ∧ bitOf (t.rd BRK.PRES_PRESENT) k = false ∧ event t 0x4C (20 + k) = true ∧
        Tbl.find t.timers (tOffMin (4 + k)) = some (s.mono + s.rd BRK.CH_DELAY_OFF_MIN (4 + k) * ms 1)) ∧
    (s.flag BRK.CH_STAT_PRESENT (4 + k) = false →
      ∃ t, exec (.slotInserted k) s = .next t ∧ t.flag BRK.CH_STAT_PRESENT (4 + k) = true ∧ bitOf (t.rd BRK.PRES_PRESENT) k = true ∧
        event t 0x4C (20 + k) = true ∧
        (s.chState (4 + k) = 0 → s.enabled 0x4C = true → s.flag BRK.CH_CTRL_EN (4 + k) = true →
          s.flag BRK.CH_CFG_FITTED (4 + k) = true → 2 ≤ s.mode → (s.brkCh (4 + k)).fenced = false →
          t.chState (4 + k) = 1 ∧
          Tbl.find t.timers (tDelay (4 + k)) = some (s.mono + s.rd BRK.CH_DELAY_DELAY (4 + k) * ms 1)))) ∧
  (∀ (s : State) (p : Port) (n : Nat), n < 12 → Permitted s p 0x4C 0x4C (2 ^ n) →
    (curveGood (s.staged n) = true → s.rd BRK.CH_CFG_INRUSH n ≤ ((s.staged n).headD (0, 0)).1 → 1 ≤ ((s.staged n).headD (0, 0)).1 →
      ∃ t, exec (.curveCommit p (2 ^ n)) s = .next t ∧ t.curve n = s.staged n ∧ t.rd BRK.CH_STAT_STAGED n = 0 ∧
        t.rd BRK.CH_STAT_CURVE_BAD n = 0 ∧ RegsBut s t [key BRK.CH_STAT_STAGED n, key BRK.CH_STAT_CURVE_BAD n] ∧
        t = { s.heard p with regs := t.regs, brk := t.brk, sent := s.sent ++ [done p] }) ∧
    (curveGood (s.staged n) = false →
      ∃ t, exec (.curveCommit p (2 ^ n)) s = .next t ∧ t.rd BRK.CH_STAT_CURVE_BAD n = 1 ∧ event t 0x4C 28 = true ∧
        RegsBut s t [key BRK.CH_STAT_CURVE_BAD n, intStat 0x4C] ∧
        t = { s.heard p with regs := t.regs, msix := t.msix, sent := t.sent }))

/-- The budget unit measures, accounts, sheds and reports as R419 and R427 to R438 say -/
def Obligations.BudgetEvaluatesAndActs : Prop :=
  (∀ (s : State) (m : Meas), Settled s →
    ∃ t, exec (.budgetEvaluation m) s = .next t ∧ t.rd LINE.V_BUS_CODE = m.vbus % 2 ^ 12 ∧ t.bud.tols = s.tolRegs ∧
      t.rd POWER.HEADROOM_P_AVAIL = power16 (s.measure m).account.avail ∧
      ((s.measure m).account.short = false → t.rd POWER.LEVERS_SHORT = 0) ∧
      (s.mode = 2 → s.fenced 0x01 = false → s.rd POWER.BUD_CFG_POLICY ≠ 2 → s.pdOn 4 = false → s.pdOn 5 = false →
        s.rdn 0 MAC.LANE_CTRL_POLICY ≠ 0 → s.rdn 2 MAC.LANE_CTRL_POLICY ≠ 0 →
        s.flag POWER.LEVERS_WISH_E = false → s.flag POWER.LEVERS_WISH_W = false → (s.measure m).account.short = true →
        t.rd POWER.PWR_STAT_SAVING = 1 ∧
        (∀ k, s.shedCandidate = some k → t.rd BRK.CH_STAT_CAUSE (4 + k) = 9 ∧ t.chState (4 + k) ≠ 5 ∧
          bitOf (t.rd POWER.LEVERS_SHED) k = true ∧ Counted s t 0 POWER.SLOT_SHED_CNT_COUNT ∧ event t 0x01 1 = true) ∧
        (s.shedCandidate = none → t.rd POWER.LEVERS_SHORT = 1 ∧ Counted s t 0 POWER.SHORT_CNT_COUNT ∧
          (s.flag POWER.LEVERS_SHORT = false → event t 0x01 0 = true)))) ∧
  (∀ (s : State) (vbus : Nat), Settled s → s.enabled 0x4D = true → vbus < 4096 →
    (codeGe vbus (s.rd LINE.PORT_CFG_BUS_WARN) = false → s.brk.low = false →
      ∃ t, exec (.busLow vbus) s = .next t ∧ t.brk.low = true ∧ t.brk.okAt = none ∧ t.rd LINE.V_BUS_CODE = vbus ∧
        event t 0x4D 0 = true) ∧
    (codeLe vbus (s.rd LINE.PORT_CFG_BUS_WARN) = false → s.brk.okAt = none →
      ∃ t, exec (.busOk vbus) s = .next t ∧ t.brk.low = false ∧ t.brk.okAt = some s.mono ∧ t.rd LINE.V_BUS_CODE = vbus ∧
        event t 0x4D 2 = true)) ∧
  (∀ (s : State) (t0 t1 : Int), Settled s → t0 - t1 ≤ 128 → t1 - t0 ≤ 128 →
    ∃ t, exec (.tempSample t0 t1) s = .next t ∧ t.rd POWER.TEMP_NOW = ofSigned 16 (max t0 t1) ∧ t.bud.apart = 0 ∧
      (toSigned 16 (s.rd POWER.TEMP_MAX) < max t0 t1 → t.rd POWER.TEMP_MAX = ofSigned 16 (max t0 t1)) ∧
      (s.rd POWER.PWR_STAT_THERM = 0 → s.thermThr 1 ≤ max t0 t1 → max t0 t1 < s.thermThr 2 → max t0 t1 < s.thermThr 3 →
        t.rd POWER.PWR_STAT_THERM = 1 ∧ event t 0x01 8 = true) ∧
      (s.rd POWER.PWR_STAT_THERM = 1 → max t0 t1 < s.thermThr 2 → max t0 t1 < s.thermThr 3 → max t0 t1 ≤ s.thermThr 1 - 80 →
        t.rd POWER.PWR_STAT_THERM = 0 ∧ event t 0x01 11 = true)) ∧
  (∀ (s : State) (d : Side) (c wait : Nat), 1 ≤ c → c ≤ 6 → s.tcTol c < wait →
    s.laneMode (.ring d) = 1 ∨ s.rdn d.n MAC.LANE_STAT_PHASE = 3 →
    ∃ t, exec (.trafficToleranceMiss d c wait) s = .next t ∧ Counted s t 0 POWER.TOL_MISS_CNT_COUNT ∧
      t.rd POWER.TOL_LAST_VALID = 1 ∧ t.rd POWER.TOL_LAST_KIND = 1 ∧ t.rd POWER.TOL_LAST_CLASS = c ∧
      t.rd POWER.TOL_LAST_WHERE = d.code ∧ event t 0x01 4 = true ∧ (Tbl.get {} t.lanes d.code).need = true ∧
      RegsBut s t [key POWER.TOL_MISS_CNT_COUNT, key POWER.TOL_LAST_VALID, key POWER.TOL_LAST_KIND, key POWER.TOL_LAST_CLASS,
        key POWER.TOL_LAST_WHERE, intStat 0x01] ∧
      t = { s with regs := t.regs, lanes := t.lanes, msix := t.msix, sent := t.sent })

/-- A mode request is refused under the first cause of R448 that holds, or begins the change it asks for -/
def Obligations.ModeRequestsAreJudgedAndTaken : Prop :=
  (∀ (s : State) (p : Port), Permitted s p 0 0x44 3 → Settled s →
    (s.mode = 2 → s.role ≠ 3 → s.clash = false → s.flag DEVICE.START_STAT_IMAGE_OK = true → s.modeU.want = none →
      ∃ t, exec (.modeReqRun p) s = .next t ∧ t.modeU.want = some 3 ∧ t.modeU.loaded = false ∧ t.rd DEVICE.MODE_STAT_PENDING = 1 ∧
        t.rd DEVICE.MODE_STAT_LOADING = 1 ∧ t.pdOn 4 = true ∧ t.pdOn 5 = true ∧ t.mode = 2) ∧
    (∀ c, (c = 1 ∧ s.mode ≠ 2) ∨
        (c = 2 ∧ s.mode = 2 ∧ s.role ≠ 3 ∧ s.clash = false ∧ s.flag DEVICE.START_STAT_IMAGE_OK = false) ∨
        (c = 5 ∧ s.mode = 2 ∧ s.flag DEVICE.START_STAT_IMAGE_OK = true ∧ s.modeU.want.isSome = true) ∨
        (c = 6 ∧ s.mode = 2 ∧ s.modeU.want = none ∧ (s.role = 3 ∨ s.clash = true)) →
      ∃ t, exec (.modeReqRun p) s = .next t ∧ t.rd DEVICE.MODE_STAT_REFUSE_CAUSE = c ∧ event t 0 1 = true ∧
        RegsBut s t [key DEVICE.MODE_STAT_REFUSE_CAUSE, intStat 0] ∧
        t = { s.heard p with regs := t.regs, msix := t.msix, sent := t.sent })) ∧
  (∀ (s : State) (p : Port), Permitted s p 0 0x44 2 → Settled s →
    (3 ≤ s.mode → s.isTwin = false → s.mode ≠ 5 ∨ s.fatalStands = false → s.modeU.want = none →
      ∃ t, exec (.modeReqListen p) s = .next t ∧ t.modeU.want = some 2 ∧ t.rd DEVICE.MODE_STAT_PENDING = 1 ∧ t.mode = s.mode ∧
        RegsBut s t [key DEVICE.MODE_STAT_PENDING] ∧ t = { s.heard p with regs := t.regs, modeU := t.modeU, sent := s.sent ++ [done p] }) ∧
    (p = .debug → s.mode = 1 → s.step_ = 5 → s.modeU.want = none → s.rd DEVICE.MODE_CFG_WAKE_P ≤ s.pAvail →
      ∃ t, exec (.modeReqListen p) s = .next t ∧ t.step_ = 6 ∧ t.modeU.psu = true ∧ t.modeU.dom = [3, 1, 2, 6, 7] ∧
        t.modeU.want = some 2 ∧ Tbl.find t.timers tDomain = some (s.mono + ms 1) ∧ TimersBut (s.heard p) t [tDomain]) ∧
    (∀ c, (c = 1 ∧ s.mode = 2) ∨
        (c = 3 ∧ 3 ≤ s.mode ∧ s.isTwin = true ∧ s.twinRole = 1 ∧ s.rd TWIN.STAT_PEER_ROLE = 2) ∨
        (c = 4 ∧ s.mode = 5 ∧ s.isTwin = false ∧ s.fatalStands = true) ∨
        (c = 5 ∧ s.mode = 3 ∧ s.isTwin = false ∧ s.modeU.want.isSome = true) ∨
        (c = 7 ∧ p = .debug ∧ s.mode = 1 ∧ s.step_ = 5 ∧ s.modeU.want = none ∧ s.pAvail < s.rd DEVICE.MODE_CFG_WAKE_P) →
      ∃ t, exec (.modeReqListen p) s = .next t ∧ t.rd DEVICE.MODE_STAT_REFUSE_CAUSE = c ∧ event t 0 1 = true ∧
        RegsBut s t [key DEVICE.MODE_STAT_REFUSE_CAUSE, intStat 0] ∧
        t = { s.heard p with regs := t.regs, msix := t.msix, sent := t.sent })) ∧
  (∀ (s : State) (p : Port), Permitted s p 0 0x44 1 → Settled s →
    (s.mode = 2 → s.modeU.want = none →
      ∃ t, exec (.modeReqSentinel p) s = .next t ∧ t.mode = 1 ∧ t.rd DEVICE.MODE_STAT_PREV = 2 ∧ t.step_ = 5 ∧
        t.modeU.want = none ∧ t.modeU.auto = false ∧ t.modeU.psu = false ∧ (∀ d, 1 ≤ d → d ≤ 7 → t.pdOn d = false)) ∧
    (s.mode ≠ 2 →
      ∃ t, exec (.modeReqSentinel p) s = .next t ∧ t.rd DEVICE.MODE_STAT_REFUSE_CAUSE = 1 ∧ event t 0 1 = true ∧
        t = { s.heard p with regs := t.regs, msix := t.msix, sent := t.sent })) ∧
  (∀ (s : State) (p : Port) (v : Nat), v = 0 ∨ (4 ≤ v ∧ v ≤ 7) → Permitted s p 0 0x44 v →
    ∃ t, exec (.modeReqInvalid p v) s = .next t ∧ t.rd DEVICE.MODE_STAT_REFUSE_CAUSE = 1 ∧ event t 0 1 = true ∧
      RegsBut s t [key DEVICE.MODE_STAT_REFUSE_CAUSE, intStat 0] ∧
      t = { s.heard p with regs := t.regs, msix := t.msix, sent := t.sent }) ∧
  (∀ s : State, Settled s → s.step_ = 9 → s.mode = 2 → s.flag DEVICE.MODE_CFG_AUTO_RUN = true → s.modeU.autoDone = false →
    s.flag DEVICE.MODE_CFG_WAIT_LOCK = false ∨ s.rd TIME.STAT_STATE = 3 ∨ s.rd TIME.STAT_STATE = 5 →
    s.role ≠ 3 → s.clash = false → s.flag DEVICE.START_STAT_IMAGE_OK = true → s.modeU.want = none →
    ∃ t, exec .autoRun s = .next t ∧ t.modeU.autoDone = true ∧ t.modeU.want = some 3 ∧ t.rd DEVICE.MODE_STAT_LOADING = 1 ∧
      t.pdOn 4 = true ∧ t.pdOn 5 = true) ∧
  (∀ s : State, Settled s → s.modeU.want = some 3 → s.modeU.loaded = false → s.flag DEVICE.MODE_STAT_LOADING = true →
    (s.modeU.boot = none →
      ∃ t, exec .engineLoadDone s = .next t ∧ t.modeU.want = none ∧ t.rd DEVICE.MODE_STAT_PENDING = 0 ∧
        t.rd DEVICE.MODE_STAT_LOADING = 0 ∧ t.rd DEVICE.START_STAT_NO_IMAGE = 1 ∧ t.flag DEVICE.START_STAT_IMAGE_OK = false ∧
        t.rd DEVICE.MODE_STAT_REFUSE_CAUSE = 2 ∧ event t 0 1 = true ∧ t.pdOn 4 = false ∧ t.pdOn 5 = false) ∧
    (∀ slot, s.modeU.boot = some slot → s.slotValid slot = true →
      ∃ t, exec .engineLoadDone s = .next t ∧ t.modeU.loaded = true ∧ t.rd DEVICE.MODE_STAT_LOADING = 0))

/-- Power-up, warm reset, loss of VDEM and the steps of the start sequence act as R13, R446 and R450 to R466 say -/
def Obligations.ResetsAndTheStartSequenceComplete : Prop :=
  (∀ (s : State) (index : Nat), s.mode = 0 ∨ (s.mode = 1 ∧ s.step_ = 0) →
    ∃ t, exec (.powerUpReset index) s = .next t ∧ t.mode = 1 ∧ t.step_ = 1 ∧ t.pd = [0] ∧ t.otp.index = index % 2 ∧
      t.otp.sel = none ∧ t.otp.words = s.otp.words ∧ t.flash.mem = s.flash.mem ∧ t.timers = [] ∧
      t.rd DEVICE.RESET_CAUSE_POWER_UP = 1 ∧ (∀ pg, pg < 5 ∨ pg = 0x5A → t.enabled pg = true) ∧ event t 0 0 = true) ∧
  (∀ s : State,
    (∃ t, exec .vdemLoss s = .next t ∧ t.mode = 0 ∧ t.pd = [] ∧ t.timers = [] ∧ t.gcm.root = none ∧
      t.otp.words = s.otp.words ∧ t.otp.keyWords = s.otp.keyWords ∧ t.flash.mem = s.flash.mem) ∧
    (∃ t, exec .trst s = .next t ∧ (∀ k, k / 2 ^ 24 = Port.code .debug → Tbl.find t.pageUnit.hold k = none) ∧
      (∀ k, k / 2 ^ 24 ≠ Port.code .debug → Tbl.find t.pageUnit.hold k = Tbl.find s.pageUnit.hold k) ∧
      t = { s with pageUnit := { s.pageUnit with hold := t.pageUnit.hold } })) ∧
  (∀ s : State, Settled s → s.mode ≠ 0 → 5 ≤ s.step_ →
    (∃ t, exec (.warmReset none 0) s = .next t ∧ t.mode = 1 ∧ t.step_ = 5 ∧ t.rd DEVICE.RESET_CAUSE_WARM = 1 ∧
      t.modeU.want = none ∧ t.modeU.auto = true ∧ t.modeU.exitDly = ms 1 ∧ t.rd DEVICE.MODE_STAT_REFUSE_CAUSE = 0 ∧
      (∀ d, 1 ≤ d → d ≤ 7 → t.pdOn d = false)) ∧
    (∀ q, Permitted s q 0 0x54 0x5741524D →
      ∃ t, exec (.warmReset (some q) 0x5741524D) s = .next t ∧ t.mode = 1 ∧ t.step_ = 5 ∧ t.rd DEVICE.RESET_CAUSE_WARM = 1 ∧
        (q = .debug → t.rd DEVICE.RESET_CAUSE_DEBUG = 1) ∧ (∀ d, 1 ≤ d → d ≤ 7 → t.pdOn d = false)) ∧
    (∀ q k, k ≠ 0x5741524D → Permitted s q 0 0x54 k →
      exec (.warmReset (some q) k) s = .next { s.heard q with sent := s.sent ++ [done q] })) ∧
  (∀ s : State, s.mode = 1 → s.step_ = 1 →
    ∃ t, exec .otpLoad s = .next t ∧ t.otp = { s.otp with sel := s.otp.select } ∧ t.step_ = 2 ∧
      (s.otp.select = none → t.rd OTP.OTP_STAT_NONE = 1) ∧
      (∀ g, s.otp.select = some g → ∀ pg, pg ∈ [0, 1, 2, 3, 4, 0x5A, 0x4C, 0x4D] → s.locked pg = false →
        t.rdn pg HDR.BLK_ACCESS_RD_MASK pg = t.maskBits (12 * blockType pg) ∧
        t.rdn pg HDR.BLK_ACCESS_WR_MASK pg = t.maskBits (12 * blockType pg + 6)) ∧
      t = { s with otp := t.otp, regs := t.regs }) ∧
  (∀ s : State, Settled s → s.mode = 1 → s.step_ = 2 → s.otp.sel.isSome = true → s.otp.killStarted = false → s.otp.killed = false →
    (s.otp.keyGood 0 = true →
      ∃ t, exec .rootKeyLoad s = .next t ∧ t.gcm.root = some (keyBytes (s.otp.key 0)) ∧ t.rd KEYS.ROOT_STAT_PRESENT = 1 ∧
        t.rd KEYS.ROOT_STAT_COPY = 0 ∧ t.rd DEVICE.START_STAT_NO_KEY = 0 ∧ t.step_ = 5 ∧ t.enabled 0x4C = true ∧ t.enabled 0x4D = true) ∧
    (s.otp.keyGood 0 = false → s.otp.keyGood 1 = false → s.gcm.root = none →
      ∃ t, exec .rootKeyLoad s = .next t ∧ t.gcm.root = none ∧ t.rd DEVICE.START_STAT_NO_KEY = 1 ∧ t.step_ = 5)) ∧
  (∀ s : State, s.mode = 1 → s.step_ = 5 → s.modeU.auto = true → s.startReady = true →
    ∃ t, exec .sentinelExit s = .next t ∧ t.step_ = 6 ∧ t.modeU = { s.modeU with psu := true, dom := [3, 1, 2, 6, 7] } ∧
      Tbl.find t.timers tDomain = some (s.mono + ms 1) ∧ TimersBut s t [tDomain] ∧
      RegsBut s t [key DEVICE.START_STAT_STEP] ∧ t = { s with regs := t.regs, modeU := t.modeU, timers := t.timers }) ∧
  (∀ (s : State) (d : Nat) (rest : List Nat), Settled s → s.mode = 1 → s.step_ = 6 → s.due tDomain = true →
    s.modeU.dom = d :: rest →
    (rest ≠ [] → ∃ t, exec .domainSwitchOn s = .next t ∧ t.pdOn d = true ∧ t.modeU.dom = rest ∧ t.mode = 1 ∧ t.step_ = 6 ∧
      Tbl.find t.timers tDomain = some (s.mono + ms 1)) ∧
    (rest = [] → d ≠ 6 → ∃ t, exec .domainSwitchOn s = .next t ∧ t.pdOn d = true ∧ t.mode = 2 ∧ t.rd DEVICE.MODE_STAT_PREV = 1 ∧
      t.step_ = 7 ∧ t.rd TIME.STAT_STATE = 1 ∧ t.rd TIME.CTRL_STEP_ARM = 1 ∧ t.modeU.want = none ∧ event t 0 0 = true ∧
      t.running tDomain = false)) ∧
  (∀ (s : State) (vbus : Nat), Settled s → s.enabled 0x4D = true → vbus < 4096 →
    codeGe vbus (s.rd LINE.PORT_CFG_BUS_LOSS) = false →
    (2 ≤ s.mode →
      ∃ t, exec (.busLoss vbus) s = .next t ∧ t.mode = 1 ∧ t.rd DEVICE.MODE_STAT_PREV = s.mode % 8 ∧ t.step_ = 5 ∧
        t.modeU.auto = true ∧ t.modeU.want = none ∧ Counted s t 0 DEVICE.LOSS_CNT_COUNT ∧ t.rd LINE.V_BUS_CODE = vbus ∧
        t.brk.okAt = none ∧ event t 0x4D 1 = true ∧ (∀ d, 1 ≤ d → d ≤ 7 → t.pdOn d = false) ∧
        (s.modeU.want.isSome = true → t.rd DEVICE.MODE_STAT_REFUSE_CAUSE = 1)) ∧
    (s.mode = 1 → s.step_ = 5 →
      ∃ t, exec (.busLoss vbus) s = .next t ∧ t.mode = 1 ∧ t.step_ = 5 ∧ t.brk.okAt = none ∧ event t 0x4D 1 = true))

/-- Flash commands, the copy journal, OTP operations and settings saves act as R456 to R472 say -/
def Obligations.FlashCommandsOtpAndCopiesComplete : Prop :=
  (∀ (s : State) (p : Port) (len a : Nat), s.flash.cmd = none → s.fenced 0x58 = false → 1 ≤ len → len ≤ 16 → a = s.rd XSPI.FL_ADDR_ADDR →
    (Permitted s p 0x58 0x90 (len * 256 + 1) →
      ∃ t, exec (.flashRead p len) s = .next t ∧ t.flash = { s.flash with cmd := some (0, a, List.replicate len 0) } ∧
        t.rd XSPI.FL_CMD_STATUS = 1 ∧ t.rd XSPI.FL_CMD_CAUSE = 0 ∧
        RegsBut s t [key XSPI.FL_CMD_STATUS, key XSPI.FL_CMD_CAUSE, key XSPI.FL_CMD_GO, key XSPI.FL_CMD_LEN, key XSPI.FL_CMD_OP] ∧
        t = { s.heard p with regs := t.regs, flash := t.flash, sent := s.sent ++ [done p] }) ∧
    (Permitted s p 0x58 0x90 (len * 256 + 17) →
      (s.flashProtected a = false → s.flashProtected (a + 4 * len - 1) = false → a % 256 + 4 * len ≤ 256 →
        ∃ t, exec (.flashProgram p len) s = .next t ∧ t.rd XSPI.FL_CMD_STATUS = 1 ∧
          t.flash = { s.flash with cmd := some (1, a, (List.range len).map (fun i => s.rd XSPI.FL_DATA_DATA i)) }) ∧
      (s.flashProtected a = false → s.flashProtected (a + 4 * len - 1) = false → 256 < a % 256 + 4 * len →
        ∃ t, exec (.flashProgram p len) s = .next t ∧ t.rd XSPI.FL_CMD_STATUS = 3 ∧ t.rd XSPI.FL_CMD_CAUSE = 3 ∧
          t.flash = s.flash ∧ Counted s t 0 XSPI.ERR_CNT_COUNT ∧ event t 0x58 1 = true)) ∧
    (Permitted s p 0x58 0x90 33 →
      (s.flashProtected a = false →
        ∃ t, exec (.flashErase p) s = .next t ∧ t.rd XSPI.FL_CMD_STATUS = 1 ∧ t.flash = { s.flash with cmd := some (2, a, []) }) ∧
      (s.flashProtected a = true →
        ∃ t, exec (.flashErase p) s = .next t ∧ t.rd XSPI.FL_CMD_STATUS = 3 ∧ t.rd XSPI.FL_CMD_CAUSE = 1 ∧ t.flash = s.flash ∧
          Counted s t 0 XSPI.ERR_CNT_COUNT ∧ event t 0x58 1 = true))) ∧
  (∀ (s : State) (a : Nat) (ws : List Nat),
    (s.flash.cmd = some (0, a, ws) → ws.length ≤ 16 → a + 4 * ws.length < 0x1000000 →
      ∃ t, exec (.flashCmdDone 0) s = .next t ∧ t.rd XSPI.FL_CMD_STATUS = 2 ∧ event t 0x58 0 = true ∧
        t.flash = { s.flash with cmd := none } ∧
        (∀ i, i < ws.length → t.rd XSPI.FL_DATA_DATA i = ofLe (s.flashBytes (a + 4 * i) 4))) ∧
    (s.flash.cmd = some (1, a, ws) → (∀ j, j < 4 * ws.length → s.flashByte (a + j) = 255) → (∀ w ∈ ws, w < 2 ^ 32) →
      ∃ t, exec (.flashCmdDone 0) s = .next t ∧ t.rd XSPI.FL_CMD_STATUS = 2 ∧ event t 0x58 0 = true ∧
        (∀ j, j < 4 * ws.length → t.flashByte (a + j) = (ws.flatMap (leBytes 4)).getD j 0) ∧
        (∀ b, b < a ∨ a + 4 * ws.length ≤ b → t.flashByte b = s.flashByte b)) ∧
    (s.flash.cmd = some (2, a, ws) →
      ∃ t, exec (.flashCmdDone 0) s = .next t ∧ t.rd XSPI.FL_CMD_STATUS = 2 ∧ event t 0x58 0 = true ∧
        (∀ b, t.flashByte b = (if b / 65536 = a / 65536 then 255 else s.flashByte b))) ∧
    (∀ op res, s.flash.cmd = some (op, a, ws) → res = 4 ∨ (res = 2 ∧ op = 0) →
      ∃ t, exec (.flashCmdDone res) s = .next t ∧ t.rd XSPI.FL_CMD_STATUS = 3 ∧ t.rd XSPI.FL_CMD_CAUSE = res ∧
        t.flash.cmd = none ∧ t.flash.mem = s.flash.mem ∧ Counted s t 0 XSPI.ERR_CNT_COUNT ∧ event t 0x58 1 = true)) ∧
  (∀ (s : State) (k : Nat), s.step_ = 7 → s.modeU.copying = true → s.modeU.halted = false → k < 128 →
    (s.copyNext = (1, k) →
      ∃ t, exec .copySectorDone s = .next t ∧ t.flash.journal = s.flash.journal ++ [.erased k] ∧
        (∀ b, t.flashByte b = (if b / 65536 = k then 255 else s.flashByte b)) ∧ t = { s with flash := t.flash }) ∧
    (s.copyNext = (2, k) →
      ∃ t, exec .copySectorDone s = .next t ∧ t.flash.journal = s.flash.journal ++ [.written k] ∧
        (∀ j, j < 65536 → t.flashByte (65536 * k + j) = s.flashByte (0x800000 + 65536 * k + j)) ∧
        (∀ b, b / 65536 ≠ k → t.flashByte b = s.flashByte b) ∧ t = { s with flash := t.flash }) ∧
    (s.copyNext = (3, 0) →
      ∃ t, exec .copySectorDone s = .next t ∧ t.flash.journal = s.flash.journal ++ [.done (s.imageTag 1)] ∧
        t.modeU = { s.modeU with copying := false, copies := s.modeU.copies + 1 } ∧ t.rd UPDATE.STAT_STATUS = 2)) ∧
  (∀ s : State, s.step_ = 7 → s.modeU.copying = false →
    (s.slotValid 0 = true →
      ∃ t, exec .imageVerifyDone s = .next t ∧ t.modeU.boot = some 0 ∧ t.flag DEVICE.START_STAT_IMAGE_OK = true ∧
        t.rd DEVICE.START_STAT_IMAGE_FROM_B = 0 ∧ t.step_ = 8 ∧ (s.modeU.copies ≠ 0 → event t 0x59 4 = true)) ∧
    (s.slotValid 0 = false → s.modeU.copies = 1 →
      ∃ t, exec .imageVerifyDone s = .next t ∧ t.rd UPDATE.STAT_STATE = 5 ∧ t.rd UPDATE.STAT_STATUS = 1 ∧
        RegsBut s t [key UPDATE.STAT_STATE, key UPDATE.STAT_STATUS] ∧
        t = { s with regs := t.regs, modeU := { s.modeU with copying := true } }) ∧
    (s.slotValid 0 = false → s.modeU.copies ≠ 1 →
      (s.slotValid 1 = true →
        ∃ t, exec .imageVerifyDone s = .next t ∧ t.modeU.boot = some 1 ∧ t.rd DEVICE.START_STAT_IMAGE_FROM_B = 1 ∧ t.step_ = 8) ∧
      (s.slotValid 1 = false →
        ∃ t, exec .imageVerifyDone s = .next t ∧ t.rd DEVICE.START_STAT_NO_IMAGE = 1 ∧ t.step_ = 8))) ∧
  (∀ (s : State) (p : Port), s.otp.op = none → s.fenced 0x5A = false →
    (∀ g, s.progCause 0 = 0 → [0, 1, 2, 3].find? s.otp.blank = some g → Permitted s p 0x5A 0x2C0 (256 + s.rd OTP.PROG_CTRL_GEN % 4) →
      ∃ t, exec (.programGeneration p) s = .next t ∧ t.otp = { s.otp with op := some (0, g) } ∧ t.rd OTP.PROG_CTRL_STATUS = 1 ∧
        t.rd OTP.PROG_CTRL_CAUSE = 0) ∧
    (∀ g, g < 4 → s.progCause 1 = 0 → Permitted s p 0x5A 0x2C0 (272 + g) →
      ∃ t, exec (.retire p g) s = .next t ∧ t.otp = { s.otp with op := some (1, g) } ∧ t.rd OTP.PROG_CTRL_STATUS = 1) ∧
    (s.progCause 2 = 0 → Permitted s p 0x5A 0x2C0 (288 + s.rd OTP.PROG_CTRL_GEN % 4) →
      ∃ t g, exec (.programKey p) s = .next t ∧ t.otp = { s.otp with op := some (2, g) } ∧ t.rd OTP.PROG_CTRL_STATUS = 1) ∧
    (s.progCause 3 = 0 → Permitted s p 0x5A 0x2C0 (304 + s.rd OTP.PROG_CTRL_GEN % 4) →
      ∃ t g, exec (.setKillEn p) s = .next t ∧ t.otp = { s.otp with op := some (3, g) } ∧ t.rd OTP.PROG_CTRL_STATUS = 1) ∧
    (∀ g, g < 4 → s.mode < 2 ∨ s.mode = 5 ∨ s.brk.low = true → Permitted s p 0x5A 0x2C0 (272 + g) →
      ∃ t, exec (.retire p g) s = .next t ∧ t.otp = s.otp ∧ t.rd OTP.PROG_CTRL_STATUS = 3 ∧ t.rd OTP.PROG_CTRL_CAUSE = 1)) ∧
  (∀ (s : State) (g : Nat),
    (s.otp.op = some (0, g) →
      ∃ t, exec (.otpProgDone true) s = .next t ∧ (∀ w, w < 47 → t.otp.word g w = nth s.newGeneration w) ∧ t.otp.op = none ∧
        t.rd OTP.PROG_CTRL_STATUS = 2 ∧ event t 0x5A 0 = true) ∧
    (s.otp.op = some (1, g) →
      ∃ t, exec (.otpProgDone true) s = .next t ∧ t.otp.word g 47 = (s.otp.word g 47 ||| 1) ∧ t.otp.op = none ∧
        t.rd OTP.PROG_CTRL_STATUS = 2) ∧
    (s.otp.op = some (2, g) →
      ∃ t, exec (.otpProgDone true) s = .next t ∧ (∀ i, i < 8 → Tbl.get 0 t.otp.keyWords i = Tbl.get 0 s.otp.staged i ∧
        Tbl.get 0 t.otp.keyWords (8 + i) = Tbl.get 0 s.otp.staged i) ∧ t.otp.keyLocked = true ∧ t.otp.keyGood 0 = true ∧
        t.rd OTP.PROG_CTRL_STATUS = 2) ∧
    (s.otp.op = some (3, g) →
      ∃ t, exec (.otpProgDone true) s = .next t ∧ t.otp = { s.otp with killEn := true, op := none } ∧
        t.rd KEYS.ROOT_STAT_KILL_EN = 1 ∧ t.rd OTP.PROG_CTRL_STATUS = 2) ∧
    (∀ op, s.otp.op = some (op, g) →
      ∃ t, exec (.otpProgDone false) s = .next t ∧ t.otp.op = none ∧ t.rd OTP.PROG_CTRL_STATUS = 3 ∧
        t.rd OTP.PROG_CTRL_CAUSE = 5 ∧ event t 0x5A 1 = true)) ∧
  (∀ (s : State) (p : Port), Permitted s p 0 0x58 1 → s.modeU.saving = false → s.fenced 0 = false →
    (s.pdOn 6 = true →
      ∃ t, exec (.settingsSave p) s = .next t ∧ t.modeU = { s.modeU with saving := true } ∧ t.rd DEVICE.SET_STAT_STATUS = 1 ∧
        RegsBut s t [key DEVICE.SET_CTRL_SAVE, key DEVICE.SET_STAT_STATUS] ∧
        t = { s.heard p with regs := t.regs, modeU := t.modeU, sent := s.sent ++ [done p] }) ∧
    (s.pdOn 6 = false →
      ∃ t, exec (.settingsSave p) s = .next t ∧ t.modeU = s.modeU ∧ t.rd DEVICE.SET_STAT_STATUS = 3)) ∧
  (∀ s : State,
    (s.modeU.saving = true → s.flash.banks.length = 2 →
      ∃ t, exec .settingsSaveDone s = .next t ∧ t.modeU = { s.modeU with saving := false } ∧ t.rd DEVICE.SET_STAT_STATUS = 2 ∧
        t.bankSeq t.bankInForce = max (s.bankSeq 0) (s.bankSeq 1) + 1 ∧
        (∀ pg, pg ∈ allPages → s.pageOn pg = true → t.recordOf pg = some (s.record pg))) ∧
    (Settled s → s.step_ = 8 → ∃ t, exec .settingsRestore s = .next t ∧ t.step_ = 9))

/-- A detected fault sets its bit once and fences its unit; the collector records it, drives FLT_N, stops ALIVE and enters SAFE by class -/
def Obligations.FaultsAreDetectedAndRecorded : Prop :=
  (∀ (s : State) (pg ck detail c : Nat) (corr : Bool), pg ≠ 3 → pg ≠ 0x0E → (pg = 0x0D → ck = 0 → s.isTwin = false) →
    checkerClass pg ck = some c → s.flt.todo = [] →
    (c ≠ 0 → corr = false ∨ bitOf (s.rdn pg HDR.FLT_INJ_INJECT) ck = true → bitOf (s.rdn pg HDR.FLT_STAT_CHECKERS) ck = true →
      ∃ t, exec (.faultDetected pg ck detail corr) s = .next t ∧ Counted s t 0 FAULT.REPEAT_CNT_COUNT ∧
        RegsBut s t [key FAULT.REPEAT_CNT_COUNT] ∧ t = { s with regs := t.regs }) ∧
    (c ≠ 0 → pg ≠ 0x11 → corr = true → bitOf (s.rdn pg HDR.FLT_INJ_INJECT) ck = false →
      ∃ t, exec (.faultDetected pg ck detail corr) s = .next t ∧ t = { s with flt := t.flt } ∧
        t.flt = { s.flt with det := s.flt.det ++
          [detOf s pg ck detail true] }) ∧
    (pg = 6 →
      ∃ t, exec (.faultDetected pg ck detail corr) s = .next t ∧ t = { s with flt := t.flt, cup := Tbl.del s.cup (detail % 2 ^ 32) } ∧
        t.flt.det = s.flt.det ++ [detOf s pg ck detail true]) ∧
    (corr = false → c = 2 ∨ c = 1 ∧ (pg = 0x01 ∨ pg = 0x15 ∨ pg = 0x18 ∨ (pg = 0x19 ∧ ck = 1) ∨ pg = 0x4D ∨
        (0x50 ≤ pg ∧ pg < 0x58)) → bitOf (s.rdn pg HDR.FLT_STAT_CHECKERS) ck = false →
      ∃ t, exec (.faultDetected pg ck detail corr) s = .next t ∧ bitOf (t.rdn pg HDR.FLT_STAT_CHECKERS) ck = true ∧
        t.flt.det = s.flt.det ++ [detOf s pg ck detail false] ∧
        (c = 1 → ∃ u, fencedPage pg ck = some u ∧ t.fenced u = true) ∧
        (c = 2 → t.pageUnit = s.pageUnit) ∧
        RegsBut s t [HDR.FLT_STAT_CHECKERS.key pg 0] ∧ t = { s with regs := t.regs, flt := t.flt, pageUnit := t.pageUnit })) ∧
  (∀ (s : State) (detail : Nat) (corr : Bool), s.flt.todo = [] → s.byp.high = true → s.mode ≠ 5 → s.flag TRANSIT.CMP_STAT_VALID = false →
    bitOf (s.rdn 0x0E HDR.FLT_STAT_CHECKERS) 0 = false → corr = false ∨ bitOf (s.rdn 0x0E HDR.FLT_INJ_INJECT) 0 = true →
    ∃ t, exec (.faultDetected 0x0E 0 detail corr) s = .next t ∧ bitOf (t.rdn 0x0E HDR.FLT_STAT_CHECKERS) 0 = true ∧
      t.byp.high = false ∧ t.rd TRANSIT.CMP_STAT_OUTPUT = detail % 2 ∧ t.rd TRANSIT.CMP_STAT_KIND = detail / 2 % 4 ∧
      t.rd TRANSIT.BYP_STAT_CAUSE = 2 ∧ event t 0x0E 0 = true ∧ event t 0x0E 1 = true ∧
      t.flt.det = s.flt.det ++ [detOf s 0x0E 0 0 false]) ∧
  (∀ (s : State) (detail : Nat), s.flt.todo = [] → s.isTwin = true → s.mode = 5 → s.modeU.want = none →
    bitOf (s.rdn 0x0D HDR.FLT_STAT_CHECKERS) 0 = false →
    ∃ t, exec (.faultDetected 0x0D 0 detail false) s = .next t ∧ bitOf (t.rdn 0x0D HDR.FLT_STAT_CHECKERS) 0 = true ∧
      t.flag TWIN.STAT_OWN_OUT = false ∧ t.twinRole = 0 ∧ t.mode = 5) ∧
  (∀ (s : State) (d : Det), s.flt.todo = [] → s.flt.det = [d] → s.flt.recs.length < 32 →
    (d.cls = 1 → s.escRow [d] (addFault s.flt.conts d) = 0 → s.flt.fatals.contains (d.page, d.checker) = false →
      ∃ t, exec .faultRecorded s = .next t ∧ t.flt.det = [] ∧
        t.flt.recs = s.flt.recs ++ [recOf s d (s.isProt d.page d.checker)] ∧
        t.flt.seq = (s.flt.seq + 1) % 256 ∧ t.flt.conts = addFault s.flt.conts d ∧ t.flt.fatals = s.flt.fatals ∧
        event t 3 1 = true ∧ t.flt.fltLow = true ∧ t.flt.relPend = false ∧ Tbl.find t.timers tFltLow = some (s.mono + us 10) ∧
        t.flt.aliveRun = (s.flt.aliveRun && !s.isProt d.page d.checker) ∧ t.mode = s.mode ∧
        RegsBut s t [intStat 3] ∧ TimersBut s t [tFltLow] ∧
        t = { s with regs := t.regs, flt := t.flt, timers := t.timers, msix := t.msix, sent := t.sent }) ∧
    (d.cls = 2 →
      ∃ t, exec .faultRecorded s = .next t ∧
        t.flt.recs = s.flt.recs ++ [recOf s d (s.isProt d.page d.checker)] ∧
        event t 3 2 = true ∧ t.flt.fltLow = true ∧ t.flt.aliveRun = false ∧ t.flt.aliveLevel = false ∧
        t.flt.fatals = addFault s.flt.fatals d ∧ t.mode = (if s.mode < 2 then s.mode else 5)) ∧
    (d.cls = 0 →
      ∃ t, exec .faultRecorded s = .next t ∧ event t 3 0 = true ∧
        t.rd FAULT.CORR_CNT_COUNT = (s.rd FAULT.CORR_CNT_COUNT + 1) % 2 ^ FAULT.CORR_CNT_COUNT.w ∧
        ((s.flt.recs.filter (fun r => r.cls = 0)).length < 24 →
          t.flt = { s.flt with det := [], seq := (s.flt.seq + 1) % 256, recs := s.flt.recs ++ [recOf s d false] } ∧
          RegsBut s t [key FAULT.CORR_CNT_COUNT, intStat 3]) ∧
        (24 ≤ (s.flt.recs.filter (fun r => r.cls = 0)).length → t.flt = { s.flt with det := [] } ∧
          Counted s t 0 FAULT.CORR_LOST_COUNT ∧ RegsBut s t [key FAULT.CORR_CNT_COUNT, key FAULT.CORR_LOST_COUNT, intStat 3]) ∧
        t = { s with regs := t.regs, flt := t.flt, msix := t.msix, sent := t.sent })) ∧
  (∀ (s : State) (d : Det), s.flt.todo = [] → s.flt.det = [d] → d.cls = 1 → 32 ≤ s.flt.recs.length →
    ∃ t, exec .faultRecorded s = .next t ∧ t.rd FAULT.COL_STAT_OVF = 1 ∧ t.flt.recs = s.flt.recs ∧ event t 3 2 = true ∧
      t.flt.fltLow = true ∧ t.flt.aliveRun = false ∧ t.mode = (if s.mode < 2 then s.mode else 5)) ∧
  (∀ (s : State) (ck detail : Nat) (corr : Bool) (c : Instr), ck ≤ 2 → c = .selfFault ck ∨ c = .faultDetected 3 ck detail corr →
    ∃ t, exec c s = .next t ∧ bitOf (t.rdn 3 HDR.FLT_STAT_CHECKERS) ck = true ∧ t.rd FAULT.COL_STAT_SELF = 1 ∧
      t.flt.self = true ∧ t.flt.fltLow = true ∧ t.flt.aliveRun = false ∧ t.flt.aliveLevel = false ∧
      t.mode = (if s.mode < 2 then s.mode else 5) ∧ (s.mode < 2 → RegsBut s t [HDR.FLT_STAT_CHECKERS.key 3 0, key FAULT.COL_STAT_SELF] ∧
        t = { s with regs := t.regs, flt := t.flt }))

/-- CLR_CTRL, REC_POP, FLT_REL and the ends of FLT_N and ALIVE act as R477 to R486 say -/
def Obligations.FaultsAreClearedAndTheirPinsReleased : Prop :=
  (∀ (s : State) (p : Port) (gone : Bool) (pg ck : Nat), Permitted s p 3 0x64 1 → Settled s →
    s.rd FAULT.CLR_SEL_PAGE = pg → s.rd FAULT.CLR_SEL_CHECKER = ck →
    (∀ cause, (cause = 1 ∧ (blockType pg = 0 ∨ bitOf (s.rdn pg HDR.FLT_STAT_CHECKERS) ck = false)) ∨
        (cause = 2 ∧ blockType pg ≠ 0 ∧ bitOf (s.rdn pg HDR.FLT_STAT_CHECKERS) ck = true ∧
          (pg = 3 ∨ (∃ d ∈ s.flt.det, d.page = pg ∧ d.checker = ck ∧ d.corr = false) ∨ s.conditionGone pg ck gone = false)) →
      ∃ t, exec (.faultClear p gone) s = .next t ∧ t.rd FAULT.CLR_CTRL_STATUS = 3 ∧ t.rd FAULT.CLR_CTRL_CAUSE = cause ∧
        RegsBut s t [key FAULT.CLR_CTRL_STATUS, key FAULT.CLR_CTRL_CAUSE] ∧ t = { s.heard p with regs := t.regs, sent := s.sent ++ [done p] }) ∧
    (pg = 0x01 ∨ pg = 0x15 ∨ pg = 0x18 ∨ pg = 0x19 ∨ pg = 0x4D ∨ pg = 0x5A ∨ (0x50 ≤ pg ∧ pg < 0x58) →
      bitOf (s.rdn pg HDR.FLT_STAT_CHECKERS) ck = true → s.flt.det = [] → s.conditionGone pg ck gone = true →
      ∃ t, exec (.faultClear p gone) s = .next t ∧ t.rd FAULT.CLR_CTRL_STATUS = 2 ∧ t.rd FAULT.CLR_CTRL_CAUSE = 0 ∧
        bitOf (t.rdn pg HDR.FLT_STAT_CHECKERS) ck = false ∧ (∀ b, b ≠ ck → b < 32 →
          bitOf (t.rdn pg HDR.FLT_STAT_CHECKERS) b = bitOf (s.rdn pg HDR.FLT_STAT_CHECKERS) b) ∧
        t.flt.conts = s.flt.conts.filter (fun e => e ≠ (pg, ck)) ∧ t.flt.fatals = s.flt.fatals.filter (fun e => e ≠ (pg, ck)) ∧
        t.flt.prots = s.flt.prots.filter (fun e => e ≠ (pg, ck)) ∧ t.flt.recs = s.flt.recs ∧
        (∀ u, fencedPage pg ck = some u → (∀ e ∈ s.flt.conts, e = (pg, ck) ∨ fencedPage e.1 e.2 ≠ some u) →
          t.fenced u = s.fenceReq u) ∧
        RegsBut s t [key FAULT.CLR_CTRL_STATUS, key FAULT.CLR_CTRL_CAUSE, HDR.FLT_STAT_CHECKERS.key pg 0] ∧
        t = { s.heard p with regs := t.regs, flt := t.flt, pageUnit := t.pageUnit, sent := s.sent ++ [done p] })) ∧
  (∀ (s : State) (p : Port), Permitted s p 3 0x54 1 →
    ∃ t, exec (.recPop p) s = .next t ∧
      t = { s.heard p with flt := { s.flt with recs := s.flt.recs.drop 1 }, sent := s.sent ++ [done p] }) ∧
  (∀ (s : State) (p : Port), Permitted s p 3 0x6C 1 →
    (s.flt.self = false → s.flt.fltLow = true →
      ∃ t, exec (.fltRelease p) s = .next t ∧
        t = { s.heard p with
          flt := { s.flt with
            fltLow := s.running tFltLow, relPend := if s.running tFltLow then true else s.flt.relPend },
          sent := s.sent ++ [done p] }) ∧
    (s.flt.self = true ∨ s.flt.fltLow = false →
      ∃ t, exec (.fltRelease p) s = .next t ∧ t = { s.heard p with sent := s.sent ++ [done p] })) ∧
  (∀ s : State, s.due tFltLow = true →
    (s.flt.relPend = true → s.flt.self = false →
      ∃ t, exec .fltNMinEnd s = .next t ∧ t.flt.fltLow = false ∧ t.flt.relPend = false ∧ t.running tFltLow = false ∧
        TimersBut s t [tFltLow] ∧ t = { s with timers := t.timers, flt := t.flt }) ∧
    (s.flt.relPend = false ∨ s.flt.self = true →
      ∃ t, exec .fltNMinEnd s = .next t ∧ t.running tFltLow = false ∧ TimersBut s t [tFltLow] ∧ t = { s with timers := t.timers })) ∧
  (∀ s : State, s.flt.aliveRun = true → s.flt.grid ≠ s.aliveGrid →
    ∃ t, exec .aliveToggle s = .next t ∧
      t = { s with flt := { s.flt with aliveLevel := !s.flt.aliveLevel, grid := s.aliveGrid } }) ∧
  (∀ s : State, s.mode = 3 → s.flt.aliveRun = false → s.flt.self = false → s.flt.fatals = [] → s.flt.prots = [] →
    s.flt.aliveOk + ms 10 + s.aliveInto ≤ s.mono →
    ∃ t, exec .aliveRestart s = .next t ∧
      t = { s with flt := { s.flt with aliveRun := true, aliveLevel := true, grid := s.aliveGrid } })

/-- A Cupping monitor accumulates its samples, is cleared by a write of its configuration, and is copied by a snapshot at one point -/
def Obligations.MonitorsAccumulateAndAreCopied : Prop :=
  (∀ (s : State) (m : Nat) (v q : Int), m < 24 → s.pageOn 6 = true →
    q = (s.sampleNow (s.rd CUP.MON_CFG_SRC m) (s.rd CUP.MON_CFG_INDEX m)).getD v →
    (s.flag CUP.MON_CFG_EN m = true → sourceHas (s.rd CUP.MON_CFG_SRC m) (s.rd CUP.MON_CFG_INDEX m) = true →
      ∃ t b, exec (.cupSample m v) s = .next t ∧ b ≤ 31 ∧
        Tbl.find t.cup m = some ((Tbl.get {} s.cup m).take (sat31 q) b) ∧
        (s.flag CUP.MON_CFG_LOG2 m = true → b = logBin (sat31 q / (2 ^ s.rd CUP.MON_CFG_SHIFT m : Nat))) ∧
        (s.flag CUP.MON_CFG_LOG2 m = false →
          b = linBin (toSigned 32 (s.rd CUP.BIN_LO_LO m)) (s.rd CUP.BIN_W_WIDTH m) (sat31 q / (2 ^ s.rd CUP.MON_CFG_SHIFT m : Nat))) ∧
        (∀ k, k ≠ m → Tbl.find t.cup k = Tbl.find s.cup k) ∧
        (if (s.rd CUP.THR_CFG_MODE m = 1 ∧ toSigned 32 (s.rd CUP.THR_VALUE m) < sat31 q) ∨
            (s.rd CUP.THR_CFG_MODE m = 2 ∧ sat31 q < toSigned 32 (s.rd CUP.THR_VALUE m)) then event t 6 m = true
          else t.regs = s.regs) ∧
        RegsBut s t [intStat 6] ∧ t = { s with regs := t.regs, cup := t.cup, msix := t.msix, sent := t.sent }) ∧
    (s.flag CUP.MON_CFG_EN m = false → ∃ t, exec (.cupSample m v) s = .next t ∧ t = s)) ∧
  (∀ (s : State) (p : Port) (m off v : Nat), m < 24 → off = 0 ∨ off = 4 ∨ off = 8 → Permitted s p 6 (0x100 + 0x20 * m + off) (v % 2 ^ 32) →
    ∃ t, exec (.monitorConfigWrite p m off v) s = .next t ∧ Tbl.find t.cup m = none ∧
      (∀ k, k ≠ m → Tbl.find t.cup k = Tbl.find s.cup k) ∧
      (off = 0 → t.rd CUP.MON_CFG_EN m = v / 2 ^ CUP.MON_CFG_EN.lo % 2) ∧ (off = 4 → t.rd CUP.BIN_LO_LO m = v % 2 ^ 32) ∧
      RegsBut s t [key CUP.MON_CFG_EN m, key CUP.MON_CFG_LOG2 m, key CUP.MON_CFG_SRC m, key CUP.MON_CFG_INDEX m,
        key CUP.MON_CFG_SHIFT m, key CUP.BIN_LO_LO m, key CUP.BIN_W_WIDTH m] ∧
      t = { s.heard p with regs := t.regs, cup := t.cup, sent := s.sent ++ [done p] }) ∧
  (∀ (s : State) (p : Port) (m : Nat) (clear : Bool), m < 24 → s.cupSnap = none →
    Permitted s p 6 0x40 (256 + 128 * bit clear + m) →
    ∃ t, exec (.cupSnapshot p m clear) s = .next t ∧ t.cupSnap = some (m, clear) ∧ t.rd CUP.SNAP_CTRL_STATUS = 1 ∧
      t.rd CUP.SNAP_CTRL_GO = 1 ∧ t.rd CUP.SNAP_CTRL_ABORT_LATE = 0 ∧
      RegsBut s t [key CUP.SNAP_CTRL_STATUS, key CUP.SNAP_CTRL_GO, key CUP.SNAP_CTRL_ABORT_LATE, key CUP.SNAP_CTRL_CLEAR,
        key CUP.SNAP_CTRL_MONITOR] ∧
      t = { s.heard p with regs := t.regs, cupSnap := t.cupSnap, sent := s.sent ++ [done p] }) ∧
  (∀ (s : State) (m : Nat) (clear : Bool), s.cupSnap = some (m, clear) → m < 24 →
    ∃ t, exec .cupSnapshotDone s = .next t ∧ t.cupSnap = none ∧ t.rd CUP.SNAP_CTRL_STATUS = 2 ∧ t.rd CUP.SNAP_CTRL_GO = 0 ∧
      t.rd CUP.SNAP_INFO_MONITOR = m ∧ t.rd CUP.SNAP_COUNT_COUNT = (Tbl.get {} s.cup m).count % 2 ^ 32 ∧
      t.rd CUP.SNAP_MIN_VALUE = ofSigned 32 (Tbl.get {} s.cup m).lo ∧ t.rd CUP.SNAP_MAX_VALUE = ofSigned 32 (Tbl.get {} s.cup m).hi ∧
      t.rd CUP.SNAP_SUM_SUM = ofSigned 64 (Tbl.get {} s.cup m).sum ∧
      (∀ i, i < 32 → t.rd CUP.SNAP_BIN_COUNT i = Tbl.get 0 (Tbl.get {} s.cup m).bins i % 2 ^ 32) ∧
      t.cup = (if clear then Tbl.del s.cup m else s.cup) ∧ t = { s with regs := t.regs, cup := t.cup, cupSnap := none }) ∧
  (∀ (s : State) (p : Port), Permitted s p 6 0x40 (512 + 128 * (s.rd CUP.SNAP_CTRL_CLEAR % 2) + s.rd CUP.SNAP_CTRL_MONITOR % 32) →
    (s.cupSnap.isSome = true →
      ∃ t, exec (.cupSnapshotAbort p) s = .next t ∧ t.cupSnap = none ∧ t.rd CUP.SNAP_CTRL_STATUS = 3 ∧ t.rd CUP.SNAP_CTRL_GO = 0 ∧
        t.rd CUP.SNAP_INFO_MONITOR = s.rd CUP.SNAP_INFO_MONITOR ∧
        t = { s.heard p with regs := t.regs, cupSnap := none, sent := s.sent ++ [done p] }) ∧
    (s.cupSnap = none → s.rd CUP.SNAP_CTRL_STATUS = 2 →
      ∃ t, exec (.cupSnapshotAbort p) s = .next t ∧ t.rd CUP.SNAP_CTRL_STATUS = 2 ∧ t.rd CUP.SNAP_CTRL_ABORT_LATE = 1 ∧
        event t 6 24 = true ∧ t = { s.heard p with regs := t.regs, msix := t.msix, sent := t.sent }))

/-- A relay receiver checks, writes, acknowledges and completes blocks as R500 to R502 say -/
def Obligations.RelayedBlocksAreTakenAndAnswered : Prop :=
  (∀ (s : State) (f : Frame) (b : List Nat), Settled s → s.pageOn 0x59 = true → f.tc = 5 → bnat f.payload = b → b.length = 4096 →
    nth b 0 = 0xB1 →
    (s.flag UPDATE.CFG_ACCEPT = false → s.upd.rx = none →
      ∃ t, exec (.relayBlockRx f) s = .next t ∧ t = { s with inbox := s.inbox.erase (7, f) }) ∧
    (∀ r, s.flag UPDATE.CFG_ACCEPT = true → s.upd.rx = some r → r.block = none → blkId b = r.id → s.updBusy = true →
      (∀ k, s.imageKey = some k → blkIndex b = r.next → blkGood k r.tag b r.id r.count r.next = true → r.skip = false →
        r.next % 16 ≠ 0 →
        ∃ t, exec (.relayBlockRx f) s = .next t ∧ t.upd = { s.upd with rx := some { r with block := some (b, nodeOf f.src) } } ∧
          t.flash = { s.flash with ready := false } ∧ Tbl.find t.timers tSilent = some (s.mono + ms 10000) ∧ TimersBut s t [tSilent] ∧
          t = { s with inbox := s.inbox.erase (7, f), upd := t.upd, flash := t.flash, timers := t.timers }) ∧
      (blkIndex b = r.next → (∀ k, s.imageKey = some k → blkGood k r.tag b r.id r.count r.next = false) →
        ∃ t, exec (.relayBlockRx f) s = .next t ∧ Counted s t 0 UPDATE.TAG_FAIL_COUNT ∧ t.rd UPDATE.STAT_STATUS = 3 ∧
          t.rd UPDATE.STAT_FAIL = 1 ∧ t.upd.rx = none ∧ t.upd.tx = none ∧ event t 0x59 1 = true ∧ t.flash = s.flash) ∧
      (blkIndex b < r.next → s.isTwin = false → nodeOf f.src ≠ s.nodeId → Plain s 5 (nodeOf f.src * 8192) → Room s 7 5 →
        ∃ t, exec (.relayBlockRx f) s = .next t ∧ t.upd = s.upd ∧ t.flash = s.flash ∧
          Tbl.find t.timers tSilent = some (s.mono + ms 10000) ∧ Queued s t 7 5 (fun g => g.tc = 5 ∧ g.dest = nodeOf f.src * 8192 ∧ g.src = s.nodeId * 8192 ∧
            bnat g.payload = [0xB2, 2] ++ beBytes 2 (blkIndex b) ++ beBytes 8 r.id ++ zeros 20))) ∧
    (∀ r, s.flag UPDATE.CFG_ACCEPT = true → s.upd.rx = some r → r.block = none → blkId b ≠ r.id → s.updBusy = true → blkIndex b = 0 →
      s.upd.refused ≠ some (blkId b) → s.isTwin = false → s.nodeId < 4096 → blkCoord b < 4096 → blkCoord b ≠ s.nodeId →
      Plain s 5 (blkCoord b * 8192) → Room s 7 5 →
      ∃ t, exec (.relayBlockRx f) s = .next t ∧ t.upd = { s.upd with refused := some (blkId b) } ∧ t.flash = s.flash ∧
        Queued s t 7 5 (fun g => g.tc = 5 ∧ g.dest = blkCoord b * 8192 ∧
          bnat g.payload = [0xB3, 3] ++ beBytes 2 (s.rd UPDATE.STAT_BLOCKS) ++ beBytes 8 (blkId b) ++ beBytes 4 s.nodeId ++ zeros 16))) ∧
  (∀ (s : State) (r : RelayRx) (b : List Nat) (n : Nat), Settled s → s.upd.rx = some r → r.block = some (b, n) → s.updBusy = true →
    (b.length = 4096 → s.isTwin = false → n ≠ s.nodeId → n < 4096 → Plain s 5 (n * 8192) → Room s 7 5 → s.relayEnd r.coord = true →
      r.next + 1 ≠ r.count →
      ∃ t, exec (.relayBlockWritten true) s = .next t ∧ Counted s t 0 UPDATE.STAT_BLOCKS ∧
        t.upd = { s.upd with rx := some { r with block := none, next := r.next + 1, tag := blkTag b } } ∧
        t.flash = (s.flashPut (slotBase 1 + 4096 * r.next) (storedForm b)).flash ∧
        Queued s t 7 5 (fun g => g.tc = 5 ∧ g.dest = n * 8192 ∧
          bnat g.payload = [0xB2, 2] ++ beBytes 2 (blkIndex b) ++ beBytes 8 r.id ++ zeros 20)) ∧
    (r.next + 1 = r.count → r.skip = false →
      ∃ t, exec (.relayBlockWritten true) s = .next t ∧ t.rd UPDATE.STAT_STATUS = 2 ∧ t.rd UPDATE.STAT_STATE = 3 ∧
        t.flash.ready = true ∧ t.flash.mem = (s.flashPut (slotBase 1 + 4096 * r.next) (storedForm b)).flash.mem ∧
        t.upd.told = true ∧ t.running tSilent = false ∧ event t 0x59 0 = true) ∧
    (∃ t, exec (.relayBlockWritten false) s = .next t ∧ t.rd UPDATE.STAT_STATUS = 3 ∧ t.rd UPDATE.STAT_FAIL = 6 ∧
      t.upd.rx = none ∧ t.upd.tx = none ∧ event t 0x59 1 = true ∧ t.flash.ready = s.flash.ready)) ∧
  (∀ s : State, Settled s → s.due tSilent = true → s.upd.rx.isSome = true → s.updBusy = true →
    ∃ t, exec .relaySenderSilent s = .next t ∧ t.rd UPDATE.STAT_STATUS = 3 ∧ t.rd UPDATE.STAT_FAIL = 5 ∧
      t.upd.rx = none ∧ t.upd.tx = none ∧ event t 0x59 1 = true ∧ t.flash = s.flash)

/-- The sender of a relay sends up to four blocks, takes acknowledgements and reports, and resends as R501 and R503 say -/
def Obligations.SentBlocksAreAcknowledgedOrResent : Prop :=
  (∀ (s : State) (p : Port), Permitted s p 0x59 0x48 2 → Settled s → s.updBusy = false → s.flash.ready = true →
    s.fenced 0x59 = false → s.enabled 0x59 = true →
    (∀ n, s.relayNext = some n →
      ∃ t x, exec (.relayGo p) s = .next t ∧ t.upd.tx = some x ∧ x.dest = n ∧ x.coord = true ∧ x.id = blkId (s.slotBlock 1 0) ∧
        x.count = blkCount (s.slotBlock 1 0) ∧ x.out.map (·.index) = List.range (min 4 x.count) ∧
        x.wait.map (·.1) = (List.range x.count).drop 4 ∧ x.ackers = [] ∧
        (∀ i, i < min 4 x.count → Tbl.find t.timers (tResend i) = some (s.mono + s.rd UPDATE.CFG_RELAY_TMO * ms 100)) ∧
        t.upd.rx = none ∧ t.rd UPDATE.STAT_STATUS = 1 ∧ t.rd UPDATE.STAT_STATE = 2 ∧ t.rd UPDATE.CTRL_RELAY_GO = 1 ∧ t.flash = s.flash) ∧
    (s.relayNext = none →
      ∃ t, exec (.relayGo p) s = .next t ∧ t.rd UPDATE.STAT_STATUS = 3 ∧ t.rd UPDATE.STAT_FAIL = 4 ∧ t.rd UPDATE.CTRL_RELAY_GO = 0 ∧
        t.upd.tx = none ∧ event t 0x59 1 = true ∧ t.flash = s.flash)) ∧
  (∀ (s : State) (f : Frame) (b : List Nat) (x : RelayTx) (o : RelayOut), Settled s → s.pageOn 0x59 = true → f.tc = 5 →
    bnat f.payload = b → b.length = 32 → nth b 0 = 0xB2 → s.upd.tx = some x → x.id = blkId b → x.dest = nodeOf f.src →
    x.out = [o] → o.index = blkIndex b → x.wait = [] →
    ((∀ w ∈ x.ackers, w ∈ o.acked ∨ w = ackIndex (nth b 1)) →
      ∃ t, exec (.relayAckRx f) s = .next t ∧ t.running (tResend o.index) = false ∧ TimersBut s t [tResend o.index] ∧
        (if o.index + 1 = x.count then t.upd.tx = none ∧
            (if x.coord then t.rd UPDATE.STAT_STATUS = 2 ∧ t.rd UPDATE.CTRL_RELAY_GO = 0 else t.regs = s.regs)
          else t.upd.tx = some { x with out := [], ackers := insertNat x.ackers (ackIndex (nth b 1)) } ∧ t.regs = s.regs)) ∧
    (∀ w ∈ x.ackers, w ∉ o.acked → w ≠ ackIndex (nth b 1) →
      ∃ t, exec (.relayAckRx f) s = .next t ∧
        t.upd.tx = some { x with out := [{ o with acked := insertNat o.acked (ackIndex (nth b 1)) }], ackers := insertNat x.ackers (ackIndex (nth b 1)) } ∧
        t = { s with inbox := s.inbox.erase (7, f), upd := t.upd })) ∧
  (∀ (s : State) (f : Frame) (b : List Nat), Settled s → s.pageOn 0x59 = true → f.tc = 5 → bnat f.payload = b → b.length = 32 →
    nth b 0 = 0xB3 →
    (s.upd.reps.length < 128 →
      ∃ t, exec (.relayReportRx f) s = .next t ∧
        t.upd = { s.upd with reps := s.upd.reps ++ [(nth b 1, blkField b 12 4 % 4096, blkField b 2 2 % 512)] } ∧
        event t 0x59 2 = true ∧ RegsBut s t [intStat 0x59] ∧
        t = { s with inbox := s.inbox.erase (7, f), upd := t.upd, regs := t.regs, msix := t.msix, sent := t.sent }) ∧
    (128 ≤ s.upd.reps.length →
      ∃ t, exec (.relayReportRx f) s = .next t ∧ Counted s t 0 UPDATE.REP_LOST_COUNT ∧ RegsBut s t [key UPDATE.REP_LOST_COUNT] ∧
        t = { s with inbox := s.inbox.erase (7, f), regs := t.regs })) ∧
  (∀ (s : State) (p : Port), Permitted s p 0x59 0x78 1 →
    ∃ t, exec (.repPop p) s = .next t ∧
      t = { s.heard p with upd := { s.upd with reps := s.upd.reps.drop 1 }, sent := s.sent ++ [done p] }) ∧
  (∀ (s : State) (i : Nat) (x : RelayTx) (o : RelayOut), Settled s → i < 256 → s.due (tResend i) = true → s.upd.tx = some x →
    x.out = [o] → o.index = i →
    (o.tries < 3 →
      ∃ t, exec (.relayResendTimeout i) s = .next t ∧ Counted s t 0 UPDATE.RESENT_COUNT ∧
        t.upd = { s.upd with tx := some { x with out := [{ o with tries := o.tries + 1 }] } } ∧
        Tbl.find t.timers (tResend i) = some (s.mono + s.rd UPDATE.CFG_RELAY_TMO * ms 100) ∧ TimersBut s t [tResend i]) ∧
    (3 ≤ o.tries → s.updBusy = true →
      ∃ t, exec (.relayResendTimeout i) s = .next t ∧ t.rd UPDATE.STAT_STATUS = 3 ∧ t.rd UPDATE.STAT_FAIL = 4 ∧
        t.upd.tx = none ∧ t.upd.rx = none ∧ event t 0x59 1 = true ∧ t.running (tResend i) = false))

/-- VERIFY, SWAP_GO, RESTART, TWIN_HANDOVER and ABORT do what R502 to R509 say -/
def Obligations.UpdateControlRequestsAct : Prop :=
  (∀ (s : State) (p : Port), Permitted s p 0x59 0x48 1 → Settled s →
    (s.updBusy = false →
      ∃ t, exec (.verify p) s = .next t ∧ t.upd.verifying = true ∧ t.upd.rx = none ∧ t.upd.tx = none ∧ t.rd UPDATE.STAT_STATUS = 1 ∧
        t.rd UPDATE.STAT_STATE = 1 ∧ t.rd UPDATE.CTRL_VERIFY = 1 ∧ t.rd UPDATE.STAT_FAIL = 0 ∧ t.rd UPDATE.STAT_ABORT_LATE = 0 ∧
        RegsBut s t [key UPDATE.STAT_STATUS, key UPDATE.STAT_STATE, key UPDATE.CTRL_VERIFY, key UPDATE.STAT_FAIL,
          key UPDATE.STAT_ABORT_LATE] ∧
        t = { s.heard p with regs := t.regs, upd := t.upd, timers := t.timers, sent := s.sent ++ [done p] }) ∧
    (s.updBusy = true → ∃ t, exec (.verify p) s = .next t ∧ t = { s.heard p with sent := s.sent ++ [done p] })) ∧
  (∀ s : State, Settled s → s.upd.verifying = true →
    (s.slotCode = 0 →
      ∃ t, exec .localVerifyDone s = .next t ∧ t.upd = { s.upd with verifying := false } ∧ t.flash = { s.flash with ready := true } ∧
        t.rd UPDATE.STAT_STATUS = 2 ∧ t.rd UPDATE.STAT_STATE = 3 ∧ t.rd UPDATE.CTRL_VERIFY = 0 ∧ event t 0x59 0 = true) ∧
    (s.slotCode ≠ 0 →
      ∃ t, exec .localVerifyDone s = .next t ∧ t.upd = { s.upd with verifying := false } ∧ t.flash = { s.flash with ready := false } ∧
        t.rd UPDATE.STAT_STATUS = 3 ∧ t.rd UPDATE.STAT_STATE = 0 ∧ t.rd UPDATE.STAT_FAIL = s.slotCode % 256 ∧ event t 0x59 1 = true ∧
        (s.slotCode = 1 → Counted s t 0 UPDATE.TAG_FAIL_COUNT))) ∧
  (∀ (s : State) (p : Port), Permitted s p 0x59 0x48 8 → Settled s → s.updBusy = false →
    (s.flash.ready = true → s.pdOn 4 = true → s.pdOn 5 = true →
      ∃ t, exec (.swapGo p) s = .next t ∧ t.upd.staging = true ∧ t.rd UPDATE.STAT_STATUS = 1 ∧ t.rd UPDATE.STAT_STATE = 4 ∧
        t.rd UPDATE.CTRL_SWAP_GO = 1 ∧ t = { s.heard p with regs := t.regs, upd := t.upd, timers := t.timers, sent := s.sent ++ [done p] }) ∧
    (s.flash.ready = false ∨ s.pdOn 4 = false ∨ s.pdOn 5 = false →
      ∃ t, exec (.swapGo p) s = .next t ∧ t = { s.heard p with sent := s.sent ++ [done p] })) ∧
  (∀ s : State, Settled s → s.upd.staging = true →
    (s.slotCode = 0 →
      ∃ t, exec .swapStageDone s = .next t ∧ t.upd.staging = false ∧ t.upd.swap.isSome = true ∧
        (s.rd UPDATE.SWAP_AT_CYCLE ≠ 0 → t.upd.swap = some (s.rd UPDATE.SWAP_AT_CYCLE)) ∧
        (∀ e, e < 16 → t.rdn e ENG.PB_STAT_SWAP_PEND = 1 ∧ t.bank e = s.bank e) ∧ t.rd UPDATE.STAT_STATUS = s.rd UPDATE.STAT_STATUS) ∧
    (s.slotCode ≠ 0 →
      ∃ t, exec .swapStageDone s = .next t ∧ t.upd = { s.upd with staging := false } ∧ t.rd UPDATE.STAT_STATUS = 3 ∧
        t.rd UPDATE.STAT_FAIL = s.slotCode % 256 ∧ t.prog = s.prog)) ∧
  (∀ (s : State) (p : Port), Permitted s p 0x59 0x48 16 → Settled s → s.updBusy = false →
    (s.isTwin = false ∨ s.twinRole ≠ 1 ∨ s.rd TWIN.STAT_PEER_ROLE ≠ 2 → 5 ≤ s.step_ →
      ∃ t, exec (.restart p) s = .next t ∧ t.mode = 1 ∧ t.step_ = 5 ∧ t.rd DEVICE.RESET_CAUSE_WARM = 1 ∧
        (∀ d, 1 ≤ d → d ≤ 7 → t.pdOn d = false)) ∧
    (s.isTwin = true → s.twinRole = 1 → s.rd TWIN.STAT_PEER_ROLE = 2 →
      ∃ t, exec (.restart p) s = .next t ∧ t = { s.heard p with sent := s.sent ++ [done p] })) ∧
  (∀ (s : State) (p : Port) (equal : Bool), Permitted s p 0x59 0x48 32 → Settled s → s.updBusy = false →
    (s.isTwin = true → s.twinRole = 1 → s.rd TWIN.STAT_PEER_ROLE = 2 → s.twin.peerRec = true → s.twin.peerStep = true ∨ equal = true →
      s.twin.release = none → s.twin.lost = false →
      ∃ t, exec (.twinHandover p equal) s = .next t ∧ t.rd TWIN.STAT_HANDOVER_PEND = 1 ∧ t.rd TWIN.CTRL_HANDOVER = 1 ∧
        (∃ n at_, t.twin.release = some (n, at_, 0))) ∧
    (s.isTwin = true → s.twinRole ≠ 1 ∨ s.rd TWIN.STAT_PEER_ROLE ≠ 2 ∨ s.twin.peerRec = false ∨
        (s.twin.peerStep = false ∧ equal = false) →
      ∃ t, exec (.twinHandover p equal) s = .next t ∧ event t 0x0D 6 = true ∧ t.twin = s.twin ∧
        t = { s.heard p with regs := t.regs, msix := t.msix, sent := t.sent }) ∧
    (s.isTwin = false → ∃ t, exec (.twinHandover p equal) s = .next t ∧ t = { s.heard p with sent := s.sent ++ [done p] })) ∧
  (∀ (s : State) (p : Port), Permitted s p 0x59 0x48 4 → Settled s →
    (s.rd UPDATE.STAT_STATUS = 2 →
      ∃ t, exec (.updateAbort p) s = .next t ∧ t.rd UPDATE.STAT_ABORT_LATE = 1 ∧ t.rd UPDATE.STAT_STATUS = 2 ∧ event t 0x59 12 = true ∧
        t = { s.heard p with regs := t.regs, msix := t.msix, sent := t.sent }) ∧
    (s.updBusy = true → s.step_ ≠ 7 ∨ s.modeU.copying = false →
      (s.upd.staging = false → s.upd.swap = none → s.upd.verifying = true →
        ∃ t, exec (.updateAbort p) s = .next t ∧ t.upd = { s.upd with verifying := false } ∧ t.flash = { s.flash with ready := false } ∧
          t.rd UPDATE.STAT_STATUS = 3 ∧ t.rd UPDATE.STAT_FAIL = 7 ∧ t.rd UPDATE.STAT_STATE = 0) ∧
      (s.upd.staging = true ∨ s.upd.swap.isSome = true →
        ∃ t, exec (.updateAbort p) s = .next t ∧ t.upd = { s.upd with staging := false, swap := none } ∧ t.flash = s.flash ∧
          t.rd UPDATE.STAT_STATUS = 3 ∧ t.rd UPDATE.STAT_FAIL = 0 ∧
          (s.upd.swap.isSome = true → ∀ e, e < 16 → t.rdn e ENG.PB_STAT_SWAP_PEND = 0)) ∧
      (s.upd.staging = false → s.upd.swap = none → s.upd.verifying = false →
        ∃ t, exec (.updateAbort p) s = .next t ∧ t.upd.rx = none ∧ t.upd.tx = none ∧ t.flash = s.flash ∧
          t.rd UPDATE.STAT_STATUS = 3 ∧ t.rd UPDATE.STAT_FAIL = 7)))

/-- The memories stay canonical (log 9) from every state in which they are, not only from reset. -/
def Obligations.EveryStepKeepsTheMemoriesCanonical : Prop :=
  ∀ s t : State, memWf s = true → step s = .next t → memWf t = true

/-- The queue of a block is its environment's: no effect of a command reaches it (log 1). -/
def Obligations.CommandsLeaveTheQueueAlone : Prop :=
  ∀ (c : Instr) (s t : State), exec c s = .next t → t.pending = s.pending

end
end

