-- ==== Sys2Proof/Machine/Coding.lean ====
section
/-! DEFINITION. Symbols, precoding and blocks of a lane: what the bits of a frame become on the wire and what a receiver makes
of them (R65, R68, R69, R72, R157). -/

namespace Sys2Proof.Machine

/-! ### Symbols (R65) -/

/-- The level index of a pair of bits, the first bit most significant: Gray mapping (R65). -/
def grayIndex (first second : Bool) : Nat :=
  match first, second with
  | false, false => 0
  | false, true => 1
  | true, true => 2
  | true, false => 3

/-- The pair of bits of a level index (R65). -/
def grayBits (x : Nat) : Bool × Bool :=
  match x % 4 with
  | 0 => (false, false)
  | 1 => (false, true)
  | 2 => (true, true)
  | _ => (true, false)

/-- The level of an index: -3, -1, +1, +3 (R65). -/
def pamLevel (x : Nat) : Int := 2 * (x % 4 : Nat) - 3

/-- The precoder: y(n) = (x(n) - y(n-1)) mod 4, `prev` being the last symbol sent (R65). -/
def precode (prev : Nat) : List Nat → List Nat
  | [] => []
  | x :: t => ((x + 4 - prev % 4) % 4) :: precode ((x + 4 - prev % 4) % 4) t

/-- The decoder of the precoding: x(n) = (y(n) + y(n-1)) mod 4 (R65). -/
def unprecode (prev : Nat) : List Nat → List Nat
  | [] => []
  | y :: t => ((y + prev) % 4) :: unprecode y t

/-! ### Blocks (R68) -/

/-- A 257-bit block: a data block of 32 frame bytes, or a control block of a type byte and 31 bytes (R68). -/
inductive Block where
  | data (bytes : List Byte)
  | ctrl (type : Nat) (bytes : List Byte)
  deriving DecidableEq, Repr

/-- The control block types (R68). -/
def blockTypes : List Nat := [0x1E, 0x33, 0x87, 0xA5, 0x4B, 0x55, 0x66, 0x78, 0x99]

/-- The bytes of a control block, filled up with zeros to 31. -/
def pad31 (bs : List Byte) : List Byte := bs ++ List.replicate (31 - bs.length) 0

/-- The idle block. -/
def idleBlock : Block := .ctrl 0x1E (pad31 [])

/-- A frame terminate block with a count and the bytes it covers. -/
def termBlock (count : Nat) (bs : List Byte) : Block := .ctrl 0x87 (pad31 (BitVec.ofNat 8 count :: bs))

/-- The block that ends an abandoned frame: count 31, no frame bytes (R68, R101). -/
def abandonBlock : Block := termBlock 31 []

/-- The blocks after a start block for the remaining frame bytes, number 32k + n: k data blocks, then a full terminate block
where n is 31, otherwise a terminate block with count n (R68). -/
def tailBlocks : Nat → List Byte → List Block
  | 0, _ => []
  | k + 1, bs =>
    if 32 ≤ bs.length then .data (bs.take 32) :: tailBlocks k (bs.drop 32)
    else if bs.length = 31 then [.ctrl 0xA5 bs]
    else [termBlock bs.length bs]

/-- The blocks of a frame's bytes: the start block with the first 31, and the rest (R68, R91). -/
def frameBlocks (bs : List Byte) : List Block := .ctrl 0x33 (bs.take 31) :: tailBlocks (bs.length + 1) (bs.drop 31)

/-- A block a receiver counts as errored: one of a codeword that could not be corrected is so by that, one with an unknown
type by its type (R68, R72). -/
def Block.unknown : Block → Bool
  | .data _ => false
  | .ctrl t _ => !blockTypes.contains t

/-- How a received frame ended, the operands of FRAME_TRAILER_ACCEPT: an errored block in it, a count-31 end, its length
(R94, R101). -/
structure RxEnd where
  bytes : List Byte := []
  errored : Bool := false
  count31 : Bool := false
  deriving DecidableEq, Repr

/-- What a receiver makes of the blocks that follow a start block, up to the frame's end (R68). A clock-compensation idle
block inside a frame, which a junction link places, is removed before the frame is assembled (R157). -/
def rxBlocks (r : RxEnd) : List Block → RxEnd
  | [] => r
  | .data bs :: t => rxBlocks { r with bytes := r.bytes ++ bs } t
  | .ctrl 0x1E _ :: t => rxBlocks r t
  | .ctrl 0xA5 bs :: _ => { r with bytes := r.bytes ++ bs }
  | .ctrl 0x87 bs :: _ =>
    let n := (bs.headD 0).toNat
    if n = 31 then { r with count31 := true } else { r with bytes := r.bytes ++ (bs.drop 1).take n }
  | .ctrl _ _ :: t => rxBlocks { r with errored := true } t

/-- What a receiver makes of a frame's blocks: none unless they begin with a start block. -/
def rxFrame : List Block → Option RxEnd
  | .ctrl 0x33 bs :: t => some (rxBlocks { bytes := bs } t)
  | _ => none

/-! ### The junction link's idle blocks (R157) -/

/-- The blocks a junction transmitter sends for blocks that are due, with `n` sent since its last idle block: an idle block at
least once in every 64, also between two data blocks of a frame (R157). -/
def withIdles : Nat → List Block → List Block
  | _, [] => []
  | n, b :: t =>
    if b = idleBlock then b :: withIdles 0 t
    else if 63 ≤ n then idleBlock :: b :: withIdles 1 t
    else b :: withIdles (n + 1) t

/-! ### Lanes and codewords (R69, R70) -/

/-- The lane that carries block `k` of a codeword group: in two-lane mode the even blocks go to lane 0 and the odd ones to lane
1, in one-lane mode all to lane 0 (R69). -/
def laneOfBlock (lanes k : Nat) : Nat := if lanes = 2 then k % 2 else 0

/-- A codeword with this many damaged symbols of ten bits is corrected: RS(272,257) has 15 parity symbols (R69). -/
def correctable (symbols : Nat) : Bool := decide (symbols ≤ (272 - 257) / 2)

/-- The bits of a codeword: ten blocks of 257 bits and 15 symbols of ten (R69). -/
def codewordBits : Nat := 10 * 257 + 15 * 10

end Sys2Proof.Machine
end

