-- ==== Sys2Proof/Laws/Coding.lean ====
section
/-! SUPPORT. The laws of a lane's coding: what the receiver makes of what the transmitter sends (R65, R68, R101, R157). -/

set_option Elab.async false

namespace Sys2Proof.Laws

open Sys2Proof.Machine

/-- The decoder undoes the precoder, from the same last symbol (R65). -/
theorem unprecode_precode (prev : Nat) (xs : List Nat) (h : ∀ x ∈ xs, x < 4) : unprecode prev (precode prev xs) = xs := by
  induction xs generalizing prev with
  | nil => rfl
  | cons x t ih =>
    have hx : x < 4 := h x (by simp)
    have ht : ∀ y ∈ t, y < 4 := fun y hy => h y (by simp [hy])
    simp only [precode, unprecode, ih _ ht, List.cons.injEq, and_true]
    omega

/-- A pair of bits comes back from its level (R65). -/
@[simp] theorem grayBits_grayIndex (a b : Bool) : grayBits (grayIndex a b) = (a, b) := by
  cases a <;> cases b <;> rfl

/-- A terminate block gives back the bytes it covers (R68). -/
theorem rxBlocks_term (r : RxEnd) (bs : List Byte) (t : List Block) (h : bs.length < 31) :
    rxBlocks r (termBlock bs.length bs :: t) = { r with bytes := r.bytes ++ bs } := by
  have e : (BitVec.ofNat 8 bs.length).toNat = bs.length := by
    rw [BitVec.toNat_ofNat]
    omega
  have n31 : bs.length ≠ 31 := by omega
  simp [termBlock, pad31, rxBlocks, e, n31]

/-- The blocks after a start block give back the bytes they were made of (R68). -/
theorem rxBlocks_tailBlocks (k : Nat) (r : RxEnd) (bs : List Byte) (t : List Block) (h : bs.length < 32 * k) :
    rxBlocks r (tailBlocks k bs ++ t) = { r with bytes := r.bytes ++ bs } := by
  induction k generalizing r bs with
  | zero => omega
  | succ k ih =>
    unfold tailBlocks
    split
    · simp only [List.cons_append, rxBlocks]
      rw [ih _ _ (by rw [List.length_drop]; omega)]
      simp
    · split
      · simp [rxBlocks]
      · exact rxBlocks_term r bs t (by omega)

/-- A receiver makes of a frame's blocks the frame's bytes (R68). -/
theorem rxFrame_frameBlocks (bs : List Byte) : rxFrame (frameBlocks bs) = some { bytes := bs } := by
  have h := rxBlocks_tailBlocks (bs.length + 1) { bytes := bs.take 31 } (bs.drop 31) []
    (by rw [List.length_drop]; omega)
  rw [List.append_nil] at h
  simp [frameBlocks, rxFrame, h]

/-- The block that abandons a frame ends it as one (R101). -/
@[simp] theorem rxBlocks_abandon (r : RxEnd) (t : List Block) :
    rxBlocks r (abandonBlock :: t) = { r with count31 := true } := rfl

/-- An idle block inside a frame changes nothing of it (R157). -/
@[simp] theorem rxBlocks_idle (r : RxEnd) (t : List Block) : rxBlocks r (idleBlock :: t) = rxBlocks r t := rfl

/-- A receiver makes the same of the blocks whether or not idle blocks have been placed among them (R157). -/
theorem rxBlocks_withIdles (n : Nat) (r : RxEnd) (l : List Block) : rxBlocks r (withIdles n l) = rxBlocks r l := by
  induction l generalizing n r with
  | nil => rfl
  | cons b t ih =>
    have step : ∀ m, rxBlocks r (b :: withIdles m t) = rxBlocks r (b :: t) := by
      intro m
      unfold rxBlocks
      split <;> simp_all
      all_goals
        rename_i h
        obtain ⟨-, rfl⟩ := h
        exact ih _ _
    unfold withIdles
    split
    · exact step 0
    · split
      · rw [rxBlocks_idle, step]
      · exact step (n + 1)

end Sys2Proof.Laws
end

