-- ==== Sys2Proof/Laws/Crypto.lean ====
section
/-! SUPPORT. The ciphers answer bytes: AES and CMAC a block of 16, the derivation of R384 as many as it is asked for. -/

set_option Elab.async false

namespace Sys2Proof

/-- A list of `n` byte values. -/
def Bytes (n : Nat) (l : List Nat) : Prop := l.length = n ∧ ∀ x ∈ l, x < 256

theorem xtime_lt : ∀ a < 256, xtime a < 256 := by decide +kernel

theorem subByte_small : ∀ a < 256, subByte a < 256 := by decide +kernel

theorem subByte_lt (a : Nat) : subByte a < 256 := by
  have h := subByte_small (a % 256) (Nat.mod_lt _ (by omega))
  simpa [subByte] using h

theorem bytes_xorB {n : Nat} {a b : List Nat} (ha : Bytes n a) (hb : Bytes n b) : Bytes n (xorB a b) := by
  refine ⟨by simp [xorB, ha.1, hb.1], fun x hx => ?_⟩
  obtain ⟨i, hi, rfl⟩ := List.mem_iff_getElem.mp hx
  simp only [xorB, List.getElem_zipWith]
  exact Nat.xor_lt_two_pow (n := 8) (ha.2 _ (List.getElem_mem _)) (hb.2 _ (List.getElem_mem _))

theorem nth_lt {l : List Nat} (h : ∀ x ∈ l, x < 256) (i : Nat) : nth l i < 256 := by
  unfold nth
  rw [List.getD_eq_getElem?_getD]
  cases hq : l[i]? with
  | none => simp
  | some x => exact h x (List.mem_of_getElem? hq)

theorem bytes_map_subByte {n : Nat} {l : List Nat} (h : l.length = n) : Bytes n (l.map subByte) :=
  ⟨by simpa using h, fun x hx => by obtain ⟨y, _, rfl⟩ := List.mem_map.mp hx; exact subByte_lt y⟩

theorem bytes_nextKeyWord {nk : Nat} {ws : List (List Nat)} (i : Nat) {rcon : Nat} (hn : 0 < nk) (hl : nk ≤ ws.length)
    (hw : ∀ w ∈ ws, Bytes 4 w) (hr : rcon < 256) : Bytes 4 (nextKeyWord nk ws i rcon) := by
  have hat : ∀ k, k < nk → Bytes 4 (ws.getD k []) := fun k hk => by
    rw [List.getD_eq_getElem _ _ (by omega)]; exact hw _ (List.getElem_mem _)
  have h0 : Bytes 4 (ws.headD []) := by
    have := hat 0 hn
    cases ws with
    | nil => simp at hl; omega
    | cons w r => simpa using this
  have hb := hat (nk - 1) (by omega)
  unfold nextKeyWord
  refine bytes_xorB hb ?_
  split
  · exact bytes_xorB ⟨rfl, by simp [subByte_lt]⟩ ⟨rfl, by simpa using hr⟩
  · split
    · exact bytes_map_subByte h0.1
    · exact h0

theorem bytes_growKey {nk : Nat} (hn : 0 < nk) : ∀ (n : Nat) (ws : List (List Nat)) (i rcon : Nat), nk ≤ ws.length →
    (∀ w ∈ ws, Bytes 4 w) → rcon < 256 →
    (growKey nk n ws i rcon).length = n + ws.length ∧ ∀ w ∈ growKey nk n ws i rcon, Bytes 4 w := by
  intro n
  induction n with
  | zero => intro ws i rcon _ hw _; exact ⟨by simp [growKey], hw⟩
  | succ n ih =>
    intro ws i rcon hl hw hr
    have hnew := bytes_nextKeyWord i hn hl hw hr
    obtain ⟨h1, h2⟩ := ih (nextKeyWord nk ws i rcon :: ws) (i + 1) (if i % nk = 0 then xtime rcon else rcon)
      (by simp; omega) (by simpa using ⟨hnew, hw⟩) (by split; exact xtime_lt _ hr; exact hr)
    exact ⟨by simp only [growKey, h1, List.length_cons]; omega, h2⟩

theorem bytes_keyWords {key : List Nat} (h : Bytes (4 * keySize key) key) :
    (keyWords key).length = 4 * keySize key + 28 ∧ ∀ w ∈ keyWords key, Bytes 4 w := by
  have hk : 0 < keySize key := by unfold keySize; split <;> omega
  obtain ⟨h1, h2⟩ := bytes_growKey hk (3 * keySize key + 28)
    ((List.range (keySize key)).map (fun k => (key.drop (4 * k)).take 4)).reverse (keySize key) 1 (by simp)
    (by
      intro w hw
      simp only [List.mem_reverse, List.mem_map, List.mem_range] at hw
      obtain ⟨k, hk, rfl⟩ := hw
      refine ⟨by simp [h.1]; omega, fun x hx => h.2 x ?_⟩
      exact List.mem_of_mem_drop (List.mem_of_mem_take hx))
    (by omega)
  refine ⟨?_, fun w hw => h2 w (by simpa [keyWords] using hw)⟩
  simp only [keyWords, List.length_reverse, h1, List.length_map, List.length_range]
  omega

theorem bytes_roundKey {ws : List (List Nat)} (hw : ∀ w ∈ ws, Bytes 4 w) {r : Nat} (hr : 4 * r + 4 ≤ ws.length) :
    Bytes 16 (roundKey ws r) := by
  unfold roundKey
  have hs : ∀ w ∈ (ws.drop (4 * r)).take 4, Bytes 4 w :=
    fun w h => hw w (List.mem_of_mem_drop (List.mem_of_mem_take h))
  refine ⟨?_, fun x hx => ?_⟩
  · have hlen : ((ws.drop (4 * r)).take 4).length = 4 := by simp; omega
    generalize (ws.drop (4 * r)).take 4 = l at hs hlen
    match l, hlen with
    | [a, b, c, d], _ =>
      have := fun w h => (hs w h).1
      simp_all
  · obtain ⟨w, hwm, hxw⟩ := List.mem_flatten.mp hx
    exact (hs w hwm).2 x hxw

/-- AES answers a block of bytes under every key of bytes of one of its two lengths. -/
theorem bytes_aes {key : List Nat} (h : Bytes (4 * keySize key) key) (b : List Nat) : Bytes 16 (aes key b) := by
  obtain ⟨hl, hw⟩ := bytes_keyWords h
  unfold aes
  refine bytes_xorB ⟨by simp [shiftRows], fun x hx => ?_⟩ (bytes_roundKey hw (by omega))
  simp only [shiftRows, List.mem_map, List.mem_range] at hx
  obtain ⟨i, _, rfl⟩ := hx
  exact nth_lt (fun y hy => (bytes_map_subByte rfl).2 y hy) _

theorem keySize_32 {key : List Nat} (h : key.length = 32) : keySize key = 8 := by simp [keySize, h]

/-- CMAC answers a block of bytes under a key of 256 bits. -/
theorem bytes_cmac {key : List Nat} (h : Bytes 32 key) (m : List Nat) : Bytes 16 (cmac key m) := by
  unfold cmac
  exact bytes_aes (by rw [keySize_32 h.1]; exact h) _

/-- The derivation of R384 answers the bytes it is asked for. -/
theorem bytes_kdf {root : List Nat} (h : Bytes 32 root) (label context : List Nat) (n : Nat) :
    Bytes n (kdf root label context n) := by
  have hm : ∀ l ∈ (List.range ((n + 15) / 16)).map (fun i =>
      cmac root (beBytes 4 (i + 1) ++ label ++ 0 :: context ++ beBytes 4 (8 * n))), Bytes 16 l := by
    intro l hl
    obtain ⟨i, _, rfl⟩ := List.mem_map.mp hl
    exact bytes_cmac h _
  unfold kdf
  refine ⟨?_, fun x hx => ?_⟩
  · rw [List.length_take, List.length_flatten]
    have : (((List.range ((n + 15) / 16)).map (fun i =>
        cmac root (beBytes 4 (i + 1) ++ label ++ 0 :: context ++ beBytes 4 (8 * n)))).map List.length) =
        List.replicate ((n + 15) / 16) 16 := by
      refine List.eq_replicate_iff.mpr ⟨by simp, fun b hb => ?_⟩
      obtain ⟨l, hl, rfl⟩ := List.mem_map.mp hb
      exact (hm l hl).1
    rw [this, List.sum_replicate]
    simp; omega
  · obtain ⟨l, hl, hx⟩ := List.mem_flatten.mp (List.mem_of_mem_take hx)
    exact (hm l hl).2 x hx

end Sys2Proof
end

