-- ==== Sys2Proof/Laws/Tbl.lean ====
section
/-! SUPPORT. The laws of sparse tables: what a lookup finds after a change, and that every change keeps the
canonical form. -/

set_option Elab.async false

namespace Sys2Proof.Laws

open Sys2Proof.Machine

variable {α : Type}

/-! ### Lookups -/

@[simp] theorem find_nil (i : Nat) : Tbl.find ([] : Tbl α) i = none := rfl

@[simp] theorem find_put_same (t : Tbl α) (i : Nat) (v : α) : Tbl.find (Tbl.put t i v) i = some v := by
  induction t with
  | nil => simp [Tbl.put, Tbl.find]
  | cons e t ih =>
    obtain ⟨k, w⟩ := e
    unfold Tbl.put
    split
    · simp [Tbl.find]
    · split
      · simp [Tbl.find]
      · rename_i h1 h2
        have : k ≠ i := fun h => h2 h.symm
        simp [Tbl.find, this, ih]

theorem find_put_other (t : Tbl α) (i j : Nat) (v : α) (h : j ≠ i) : Tbl.find (Tbl.put t i v) j = Tbl.find t j := by
  induction t with
  | nil => simp [Tbl.put, Tbl.find, Ne.symm h]
  | cons e t ih =>
    obtain ⟨k, w⟩ := e
    unfold Tbl.put
    split
    · simp [Tbl.find, Ne.symm h]
    · split
      · rename_i h1 h2
        subst h2
        simp [Tbl.find, Ne.symm h]
      · simp only [Tbl.find, ih]

@[simp] theorem find_del_same (t : Tbl α) (i : Nat) : Tbl.find (Tbl.del t i) i = none := by
  induction t with
  | nil => rfl
  | cons e t ih =>
    obtain ⟨k, w⟩ := e
    by_cases hk : k = i
    · simpa [Tbl.del, hk] using ih
    · have : Tbl.del ((k, w) :: t) i = (k, w) :: Tbl.del t i := by simp [Tbl.del, hk]
      rw [this]
      simp [Tbl.find, hk, ih]

theorem find_filter (t : Tbl α) (p : Nat → Bool) (i : Nat) :
    Tbl.find (t.filter (fun e => p e.1)) i = if p i then Tbl.find t i else none := by
  induction t with
  | nil => simp [Tbl.find]
  | cons e t ih =>
    obtain ⟨k, w⟩ := e
    by_cases hk : k = i
    · subst hk
      by_cases hp : p k <;> simp_all [Tbl.find]
    · by_cases hp : p k <;> simp_all [Tbl.find]

theorem find_del_other (t : Tbl α) (i j : Nat) (h : j ≠ i) : Tbl.find (Tbl.del t i) j = Tbl.find t j := by
  have := find_filter t (fun k => decide (k ≠ i)) j
  simpa [Tbl.del, h] using this

@[simp] theorem get_put_same (d : α) (t : Tbl α) (i : Nat) (v : α) : Tbl.get d (Tbl.put t i v) i = v := by
  simp [Tbl.get]

theorem get_put_other (d : α) (t : Tbl α) (i j : Nat) (v : α) (h : j ≠ i) :
    Tbl.get d (Tbl.put t i v) j = Tbl.get d t j := by
  simp [Tbl.get, find_put_other t i j v h]

@[simp] theorem get_upd_same (d : α) (t : Tbl α) (i : Nat) (f : α → α) :
    Tbl.get d (Tbl.upd d t i f) i = f (Tbl.get d t i) := by
  simp [Tbl.upd]

theorem get_upd_other (d : α) (t : Tbl α) (i j : Nat) (f : α → α) (h : j ≠ i) :
    Tbl.get d (Tbl.upd d t i f) j = Tbl.get d t j := by
  simp [Tbl.upd, get_put_other d t i j _ h]

@[simp] theorem get_set_same [DecidableEq α] (d : α) (t : Tbl α) (i : Nat) (v : α) :
    Tbl.get d (Tbl.set d t i v) i = v := by
  unfold Tbl.set
  split
  · simp_all [Tbl.get]
  · simp

theorem get_set_other [DecidableEq α] (d : α) (t : Tbl α) (i j : Nat) (v : α) (h : j ≠ i) :
    Tbl.get d (Tbl.set d t i v) j = Tbl.get d t j := by
  unfold Tbl.set
  split
  · simp [Tbl.get, find_del_other t i j h]
  · exact get_put_other d t i j v h

/-! ### The canonical form -/

theorem all_put (p : Nat × α → Bool) (t : Tbl α) (i : Nat) (v : α) (ht : t.all p = true) (hv : p (i, v) = true) :
    (Tbl.put t i v).all p = true := by
  induction t with
  | nil => simp [Tbl.put, hv]
  | cons e t ih =>
    obtain ⟨k, w⟩ := e
    simp only [List.all_cons, Bool.and_eq_true] at ht
    unfold Tbl.put
    split
    · simp [hv, ht.1, ht.2]
    · split
      · simp [hv, ht.2]
      · simp [ht.1, ih ht.2]

theorem all_filter (p q : Nat × α → Bool) (t : Tbl α) (ht : t.all p = true) : (t.filter q).all p = true := by
  simp only [List.all_eq_true, List.mem_filter] at *
  exact fun e he => ht e he.1

theorem rising_put (t : Tbl α) (i : Nat) (v : α) (h : Tbl.rising t = true) : Tbl.rising (Tbl.put t i v) = true := by
  induction t with
  | nil => simp [Tbl.put, Tbl.rising]
  | cons e t ih =>
    obtain ⟨k, w⟩ := e
    simp only [Tbl.rising, Bool.and_eq_true] at h
    unfold Tbl.put
    split
    · rename_i hik
      simp only [Tbl.rising, Bool.and_eq_true, List.all_cons, decide_eq_true_eq]
      refine ⟨⟨hik, ?_⟩, h.1, h.2⟩
      have h1 := h.1
      simp only [List.all_eq_true, decide_eq_true_eq] at *
      exact fun e he => Nat.lt_trans hik (h1 e he)
    · split
      · rename_i h1 h2
        subst h2
        simp [Tbl.rising, h.1, h.2]
      · rename_i h1 h2
        simp only [Tbl.rising, Bool.and_eq_true]
        exact ⟨all_put _ t i v h.1 (by simp; omega), ih h.2⟩

theorem rising_filter (t : Tbl α) (q : Nat × α → Bool) (h : Tbl.rising t = true) : Tbl.rising (t.filter q) = true := by
  induction t with
  | nil => rfl
  | cons e t ih =>
    obtain ⟨k, w⟩ := e
    simp only [Tbl.rising, Bool.and_eq_true] at h
    by_cases hq : q (k, w)
    · simp only [List.filter_cons, hq, if_true, Tbl.rising, Bool.and_eq_true]
      exact ⟨all_filter _ _ t h.1, ih h.2⟩
    · simp [hq, ih h.2]

theorem wf_filter [DecidableEq α] (d : α) (t : Tbl α) (q : Nat × α → Bool) (h : Tbl.wf d t = true) :
    Tbl.wf d (t.filter q) = true := by
  simp only [Tbl.wf, Bool.and_eq_true] at *
  exact ⟨rising_filter t q h.1, all_filter _ _ t h.2⟩

theorem wf_put [DecidableEq α] (d : α) (t : Tbl α) (i : Nat) (v : α) (hv : v ≠ d) (h : Tbl.wf d t = true) :
    Tbl.wf d (Tbl.put t i v) = true := by
  simp only [Tbl.wf, Bool.and_eq_true] at *
  exact ⟨rising_put t i v h.1, all_put _ t i v h.2 (by simpa using hv)⟩

/-- Every write of a memory keeps its canonical form. -/
theorem wf_set [DecidableEq α] (d : α) (t : Tbl α) (i : Nat) (v : α) (h : Tbl.wf d t = true) :
    Tbl.wf d (Tbl.set d t i v) = true := by
  unfold Tbl.set
  split
  · exact wf_filter d t _ h
  · exact wf_put d t i v (by assumption) h

end Sys2Proof.Laws
end

