-- ==== Sys2Proof/Laws/Memory.lean ====
section
/-! SUPPORT. The laws of the memories: a read after a write to the same bytes gives what was written, a write leaves every
other byte alone, and every operation on the buffer, the flash and program memory keeps the canonical form. -/

set_option Elab.async false

namespace Sys2Proof.Laws

open Sys2Proof.Machine

/-! ### Bytes of a memory -/

theorem wf_memWrite (d : Byte) (bs : List Nat) : ∀ (m : List Host.Cell) (a : Nat), Tbl.wf d m = true →
    Tbl.wf d (memWrite d m a bs) = true := by
  induction bs with
  | nil => intro m a h; exact h
  | cons b r ih => intro m a h; exact ih _ _ (wf_set d m a _ h)

theorem get_memWrite_out (d : Byte) (bs : List Nat) : ∀ (m : List Host.Cell) (a i : Nat), i < a ∨ a + bs.length ≤ i →
    Tbl.get d (memWrite d m a bs) i = Tbl.get d m i := by
  induction bs with
  | nil => intro m a i _; rfl
  | cons b r ih =>
    intro m a i h
    simp only [List.length_cons] at h
    rw [memWrite, ih _ _ _ (by omega), get_set_other d m a i _ (by omega)]

theorem get_memWrite_in (d : Byte) (bs : List Nat) : ∀ (m : List Host.Cell) (a j : Nat) (h : j < bs.length),
    Tbl.get d (memWrite d m a bs) (a + j) = BitVec.ofNat 8 bs[j] := by
  induction bs with
  | nil => intro m a j h; simp at h
  | cons b r ih =>
    intro m a j h
    cases j with
    | zero => rw [memWrite, get_memWrite_out d r _ _ _ (by omega)]; simp
    | succ j =>
      have := ih (Tbl.set d m a (BitVec.ofNat 8 b)) (a + 1) j (by simpa using h)
      rw [memWrite, show a + (j + 1) = a + 1 + j by omega, this]; rfl

@[simp] theorem length_memRead (d : Byte) (m : List Host.Cell) (n : Nat) : ∀ a, (memRead d m a n).length = n := by
  induction n with
  | zero => intro a; rfl
  | succ n ih => intro a; simp [memRead, ih]

theorem getElem_memRead (d : Byte) (m : List Host.Cell) (n : Nat) : ∀ (a j : Nat) (h : j < (memRead d m a n).length),
    (memRead d m a n)[j] = Tbl.get d m (a + j) := by
  induction n with
  | zero => intro a j h; simp [memRead] at h
  | succ n ih =>
    intro a j h
    cases j with
    | zero => simp [memRead]
    | succ j => simp only [memRead, List.getElem_cons_succ]; rw [ih, show a + 1 + j = a + (j + 1) by omega]

/-- A read within the bytes just written gives what was written there. -/
theorem memRead_memWrite (d : Byte) (m : List Host.Cell) (a : Nat) (bs : List Nat) (k n : Nat) (h : k + n ≤ bs.length) :
    memRead d (memWrite d m a bs) (a + k) n = natb ((bs.drop k).take n) := by
  refine List.ext_getElem (by simp [natb]; omega) (fun j h1 h2 => ?_)
  have hj : j < n := by simpa using h1
  rw [getElem_memRead, Nat.add_assoc, get_memWrite_in d bs m a (k + j) (by omega)]
  simp [natb]

theorem bnat_natb {l : List Nat} (h : ∀ x ∈ l, x < 256) : bnat (natb l) = l := by
  unfold bnat natb
  rw [List.map_map]
  conv_rhs => rw [← List.map_id l]
  exact List.map_congr_left (fun x hx => by simpa using h x hx)

/-- A read that meets none of the bytes written is as before. -/
theorem memRead_memWrite_out (d : Byte) (m : List Host.Cell) (a : Nat) (bs : List Nat) (b n : Nat)
    (h : b + n ≤ a ∨ a + bs.length ≤ b) : memRead d (memWrite d m a bs) b n = memRead d m b n := by
  refine List.ext_getElem (by simp) (fun j h1 h2 => ?_)
  rw [getElem_memRead, getElem_memRead, get_memWrite_out d bs m a _ (by simp at h1; omega)]

/-! ### The three memories -/

theorem bufMem_fillCells (cs : List Nat) : ∀ (s : State) (bs : List Nat), Tbl.wf (0 : Byte) s.bufMem = true →
    Tbl.wf (0 : Byte) (s.fillCells cs bs).bufMem = true := by
  induction cs with
  | nil => intro s bs h; exact h
  | cons c r ih => intro s bs h; exact ih _ _ (wf_memWrite _ _ _ _ h)

theorem mem_flashPut (s : State) (a : Nat) (bs : List Nat) (h : Tbl.wf (255 : Byte) s.flash.mem = true) :
    Tbl.wf (255 : Byte) (s.flashPut a bs).flash.mem = true := wf_memWrite _ _ _ _ h

theorem mem_flashErase (s : State) (a : Nat) (h : Tbl.wf (255 : Byte) s.flash.mem = true) :
    Tbl.wf (255 : Byte) (s.flashErase a).flash.mem = true := wf_filter _ _ _ h

theorem prog_writeProg (s : State) (e b w v : Nat) (h : Tbl.wf 0 s.prog = true) :
    Tbl.wf 0 (s.writeProg e b w v).prog = true := by
  unfold State.writeProg
  split_ifs <;> first | exact h | exact wf_set _ _ _ _ h

/-- Words set one by one keep the canonical form of program memory. -/
theorem wf_foldl_set {α : Type} (f : α → Nat) (g : α → Nat) (l : List α) : ∀ t : Tbl Nat, Tbl.wf 0 t = true →
    Tbl.wf 0 (l.foldl (fun (t : Tbl Nat) i => Tbl.set 0 t (f i) (g i)) t) = true := by
  induction l with
  | nil => intro t h; exact h
  | cons a r ih => intro t h; exact ih _ (wf_set _ _ _ _ h)

theorem prog_loadBank (s : State) (e bank : Nat) (ws : List Nat) (h : Tbl.wf 0 s.prog = true) :
    Tbl.wf 0 (s.loadBank e bank ws).prog = true := by
  unfold State.loadBank
  generalize List.range 2048 = l
  exact wf_foldl_set (fun i => (2 * e + bank) * 2048 + i) (fun i => nth ws i) l _ h

end Sys2Proof.Laws
end

