-- ==== Sys2Proof/Laws/Regs.lean ====
section
/-! SUPPORT. The laws of the named operations on register fields, timers, the output log and interrupts: what
each changes, and that it leaves every other part of the state as it was. -/

set_option Elab.async false

namespace Sys2Proof.Laws

open Sys2Proof.Machine

/-! ### Register fields -/

/-- A field reads back the value stored, cut to its width (R8). -/
@[simp] theorem rdn_wrn_same (s : State) (n : Nat) (f : Fld) (v i : Nat) :
    (s.wrn n f v i).rdn n f i = v % 2 ^ f.w := by
  simp only [State.rdn, State.wrn, putField]
  split
  · rename_i h
    simp [h]
  · simp

/-- Storing one field copy leaves every other key of the table. -/
theorem find_wrn_other (s : State) (n : Nat) (f : Fld) (v i k : Nat) (h : k ≠ f.key n i) :
    Tbl.find (s.wrn n f v i).regs k = Tbl.find s.regs k := by
  simp only [State.wrn, putField]
  split
  · exact find_del_other _ _ _ h
  · exact find_put_other _ _ _ _ h

/-- Storing one field copy leaves every other field copy. -/
theorem rdn_wrn_other (s : State) (n m : Nat) (f g : Fld) (v i j : Nat) (h : g.key m j ≠ f.key n i) :
    (s.wrn n f v i).rdn m g j = s.rdn m g j := by
  simp only [State.rdn, find_wrn_other s n f v i _ h]

@[simp] theorem wr_eq (s : State) (f : Fld) (v i : Nat) : s.wr f v i = s.wrn 0 f v i := rfl

@[simp] theorem rd_eq (s : State) (f : Fld) (i : Nat) : s.rd f i = s.rdn 0 f i := rfl

@[simp] theorem flag_eq (s : State) (f : Fld) (i : Nat) : s.flag f i = decide (s.rdn 0 f i = 1) := rfl

@[simp] theorem flagn_eq (s : State) (n : Nat) (f : Fld) (i : Nat) : s.flagn n f i = decide (s.rdn n f i = 1) := rfl

@[simp] theorem emit_rdn (s : State) (e : Emit) (n : Nat) (f : Fld) (i : Nat) : (s.emit e).rdn n f i = s.rdn n f i := rfl

@[simp] theorem start_rdn (s : State) (t d n : Nat) (f : Fld) (i : Nat) : (s.start t d).rdn n f i = s.rdn n f i := rfl

@[simp] theorem stop_rdn (s : State) (t n : Nat) (f : Fld) (i : Nat) : (s.stop t).rdn n f i = s.rdn n f i := rfl

/-! ### Timers and the output log -/

@[simp] theorem emit_sent (s : State) (e : Emit) : (s.emit e).sent = s.sent ++ [e] := rfl

/-- A timer just started ends after its length. -/
@[simp] theorem find_start_same (s : State) (t d : Nat) : Tbl.find (s.start t d).timers t = some (s.mono + d) := by
  simp [State.start]

/-- Starting a timer leaves the others. -/
theorem find_start_other (s : State) (t d u : Nat) (h : u ≠ t) :
    Tbl.find (s.start t d).timers u = Tbl.find s.timers u := by
  simp [State.start, find_put_other _ _ _ _ h]

/-- A stopped timer does not run. -/
@[simp] theorem find_stop_same (s : State) (t : Nat) : Tbl.find (s.stop t).timers t = none := by
  simp [State.stop]

/-- Stopping a timer leaves the others. -/
theorem find_stop_other (s : State) (t u : Nat) (h : u ≠ t) : Tbl.find (s.stop t).timers u = Tbl.find s.timers u := by
  simp [State.stop, find_del_other _ _ _ h]

/-! ### Messages and events -/

/-- Sending a message changes only the MSI-X pending bits and the output log. -/
theorem msixSend_frame (s : State) (v : Nat) :
    ∃ m l, s.msixSend v = { s with msix := m, sent := l } := by
  unfold State.msixSend
  split
  · exact ⟨_, _, rfl⟩
  · exact ⟨_, s.sent, rfl⟩

/-- Settling the interrupts of a page changes only the MSI-X pending bits and the output log. -/
theorem settle_frame (s old : State) (pg : Nat) (wr : Bool) :
    ∃ m l, s.settle old pg wr = { s with msix := m, sent := l } := by
  unfold State.settle
  have step : ∀ (t : State) (src : Nat), (∃ m l, t = { s with msix := m, sent := l }) →
      ∃ m l, (if t.asserted src then (if wr || !old.asserted src then t.msixSend src else t)
        else { t with msix := { t.msix with pba := deleteNat t.msix.pba src } }) = { s with msix := m, sent := l } := by
    rintro t src ⟨m, l, rfl⟩
    split
    · split
      · obtain ⟨m', l', h⟩ := msixSend_frame { s with msix := m, sent := l } src
        exact ⟨m', l', by rw [h]⟩
      · exact ⟨m, l, rfl⟩
    · exact ⟨_, l, rfl⟩
  have run : ∀ (l : List Nat) (t : State), (∃ m k, t = { s with msix := m, sent := k }) →
      ∃ m k, l.foldl (fun t src => if t.asserted src then (if wr || !old.asserted src then t.msixSend src else t)
        else { t with msix := { t.msix with pba := deleteNat t.msix.pba src } }) t = { s with msix := m, sent := k } := by
    intro l
    induction l with
    | nil => exact fun t h => h
    | cons a l ih => exact fun t h => ih _ (step t a h)
  exact run _ s ⟨s.msix, s.sent, rfl⟩

/-- Settling keeps the register fields. -/
@[simp] theorem settle_regs (s old : State) (pg : Nat) (wr : Bool) : (s.settle old pg wr).regs = s.regs := by
  obtain ⟨m, l, h⟩ := settle_frame s old pg wr
  rw [h]

@[simp] theorem settle_rdn (s old : State) (pg : Nat) (wr : Bool) (n : Nat) (f : Fld) (i : Nat) :
    (s.settle old pg wr).rdn n f i = s.rdn n f i := by
  simp only [State.rdn, settle_regs]

/-- An event changes the page's INT_STAT, the MSI-X pending bits and the output log, and nothing else. -/
theorem raise_frame (s : State) (pg b : Nat) :
    ∃ m l, s.raise pg b = { s.wrn pg HDR.INT_STAT_EVENTS (setBit (s.rdn pg HDR.INT_STAT_EVENTS) b) with msix := m, sent := l } :=
  settle_frame _ _ _ _

/-- An event sets its bit of INT_STAT and keeps the others (R33). -/
@[simp] theorem raise_intStat (s : State) (pg b : Nat) :
    (s.raise pg b).rdn pg HDR.INT_STAT_EVENTS = setBit (s.rdn pg HDR.INT_STAT_EVENTS) b % 2 ^ 32 := by
  obtain ⟨m, l, h⟩ := raise_frame s pg b
  rw [h]
  exact rdn_wrn_same s pg _ _ 0

/-- An event leaves every other register field. -/
theorem find_raise_other (s : State) (pg b k : Nat) (h : k ≠ HDR.INT_STAT_EVENTS.key pg 0) :
    Tbl.find (s.raise pg b).regs k = Tbl.find s.regs k := by
  obtain ⟨m, l, e⟩ := raise_frame s pg b
  rw [e]
  exact find_wrn_other s pg _ _ 0 k h

theorem rdn_raise_other (s : State) (pg b n : Nat) (f : Fld) (i : Nat) (h : f.key n i ≠ HDR.INT_STAT_EVENTS.key pg 0) :
    (s.raise pg b).rdn n f i = s.rdn n f i := by
  simp only [State.rdn, find_raise_other s pg b _ h]

/-! ### The other parts of the state, one lemma an operation and field -/

@[simp] theorem wrn_pending (s : State) (n : Nat) (g : Fld) (v i : Nat) : (s.wrn n g v i).pending = s.pending := rfl
@[simp] theorem wrn_sent (s : State) (n : Nat) (g : Fld) (v i : Nat) : (s.wrn n g v i).sent = s.sent := rfl
@[simp] theorem wrn_free (s : State) (n : Nat) (g : Fld) (v i : Nat) : (s.wrn n g v i).free = s.free := rfl
@[simp] theorem wrn_cycle (s : State) (n : Nat) (g : Fld) (v i : Nat) : (s.wrn n g v i).cycle = s.cycle := rfl
@[simp] theorem wrn_mono (s : State) (n : Nat) (g : Fld) (v i : Nat) : (s.wrn n g v i).mono = s.mono := rfl
@[simp] theorem wrn_fab (s : State) (n : Nat) (g : Fld) (v i : Nat) : (s.wrn n g v i).fab = s.fab := rfl
@[simp] theorem wrn_timers (s : State) (n : Nat) (g : Fld) (v i : Nat) : (s.wrn n g v i).timers = s.timers := rfl
@[simp] theorem wrn_otp (s : State) (n : Nat) (g : Fld) (v i : Nat) : (s.wrn n g v i).otp = s.otp := rfl
@[simp] theorem wrn_msix (s : State) (n : Nat) (g : Fld) (v i : Nat) : (s.wrn n g v i).msix = s.msix := rfl
@[simp] theorem wrn_pageUnit (s : State) (n : Nat) (g : Fld) (v i : Nat) : (s.wrn n g v i).pageUnit = s.pageUnit := rfl
@[simp] theorem wrn_pcie (s : State) (n : Nat) (g : Fld) (v i : Nat) : (s.wrn n g v i).pcie = s.pcie := rfl
@[simp] theorem wrn_pd (s : State) (n : Nat) (g : Fld) (v i : Nat) : (s.wrn n g v i).pd = s.pd := rfl
@[simp] theorem wrn_ref (s : State) (n : Nat) (g : Fld) (v i : Nat) : (s.wrn n g v i).ref = s.ref := rfl
@[simp] theorem wrn_phy (s : State) (n : Nat) (g : Fld) (v i : Nat) : (s.wrn n g v i).phy = s.phy := rfl
@[simp] theorem wrn_lanes (s : State) (n : Nat) (g : Fld) (v i : Nat) : (s.wrn n g v i).lanes = s.lanes := rfl
@[simp] theorem wrn_win (s : State) (n : Nat) (g : Fld) (v i : Nat) : (s.wrn n g v i).win = s.win := rfl
@[simp] theorem wrn_rx (s : State) (n : Nat) (g : Fld) (v i : Nat) : (s.wrn n g v i).rx = s.rx := rfl
@[simp] theorem wrn_tx (s : State) (n : Nat) (g : Fld) (v i : Nat) : (s.wrn n g v i).tx = s.tx := rfl
@[simp] theorem wrn_byp (s : State) (n : Nat) (g : Fld) (v i : Nat) : (s.wrn n g v i).byp = s.byp := rfl
@[simp] theorem wrn_voqs (s : State) (n : Nat) (g : Fld) (v i : Nat) : (s.wrn n g v i).voqs = s.voqs := rfl
@[simp] theorem wrn_outs (s : State) (n : Nat) (g : Fld) (v i : Nat) : (s.wrn n g v i).outs = s.outs := rfl
@[simp] theorem wrn_buf (s : State) (n : Nat) (g : Fld) (v i : Nat) : (s.wrn n g v i).buf = s.buf := rfl
@[simp] theorem wrn_bufMem (s : State) (n : Nat) (g : Fld) (v i : Nat) : (s.wrn n g v i).bufMem = s.bufMem := rfl
@[simp] theorem wrn_lfsr (s : State) (n : Nat) (g : Fld) (v i : Nat) : (s.wrn n g v i).lfsr = s.lfsr := rfl
@[simp] theorem wrn_flt (s : State) (n : Nat) (g : Fld) (v i : Nat) : (s.wrn n g v i).flt = s.flt := rfl
@[simp] theorem wrn_twin (s : State) (n : Nat) (g : Fld) (v i : Nat) : (s.wrn n g v i).twin = s.twin := rfl
@[simp] theorem wrn_gcm (s : State) (n : Nat) (g : Fld) (v i : Nat) : (s.wrn n g v i).gcm = s.gcm := rfl
@[simp] theorem wrn_inbox (s : State) (n : Nat) (g : Fld) (v i : Nat) : (s.wrn n g v i).inbox = s.inbox := rfl
@[simp] theorem wrn_ctxs (s : State) (n : Nat) (g : Fld) (v i : Nat) : (s.wrn n g v i).ctxs = s.ctxs := rfl
@[simp] theorem wrn_engs (s : State) (n : Nat) (g : Fld) (v i : Nat) : (s.wrn n g v i).engs = s.engs := rfl
@[simp] theorem wrn_base (s : State) (n : Nat) (g : Fld) (v i : Nat) : (s.wrn n g v i).base = s.base := rfl
@[simp] theorem wrn_prog (s : State) (n : Nat) (g : Fld) (v i : Nat) : (s.wrn n g v i).prog = s.prog := rfl
@[simp] theorem wrn_pins (s : State) (n : Nat) (g : Fld) (v i : Nat) : (s.wrn n g v i).pins = s.pins := rfl
@[simp] theorem wrn_cup (s : State) (n : Nat) (g : Fld) (v i : Nat) : (s.wrn n g v i).cup = s.cup := rfl
@[simp] theorem wrn_bud (s : State) (n : Nat) (g : Fld) (v i : Nat) : (s.wrn n g v i).bud = s.bud := rfl
@[simp] theorem wrn_modeU (s : State) (n : Nat) (g : Fld) (v i : Nat) : (s.wrn n g v i).modeU = s.modeU := rfl
@[simp] theorem wrn_time (s : State) (n : Nat) (g : Fld) (v i : Nat) : (s.wrn n g v i).time = s.time := rfl
@[simp] theorem wrn_tout (s : State) (n : Nat) (g : Fld) (v i : Nat) : (s.wrn n g v i).tout = s.tout := rfl
@[simp] theorem wrn_bridge (s : State) (n : Nat) (g : Fld) (v i : Nat) : (s.wrn n g v i).bridge = s.bridge := rfl
@[simp] theorem wrn_can (s : State) (n : Nat) (g : Fld) (v i : Nat) : (s.wrn n g v i).can = s.can := rfl
@[simp] theorem wrn_usb (s : State) (n : Nat) (g : Fld) (v i : Nat) : (s.wrn n g v i).usb = s.usb := rfl
@[simp] theorem wrn_brk (s : State) (n : Nat) (g : Fld) (v i : Nat) : (s.wrn n g v i).brk = s.brk := rfl
@[simp] theorem wrn_cupSnap (s : State) (n : Nat) (g : Fld) (v i : Nat) : (s.wrn n g v i).cupSnap = s.cupSnap := rfl
@[simp] theorem wrn_flash (s : State) (n : Nat) (g : Fld) (v i : Nat) : (s.wrn n g v i).flash = s.flash := rfl
@[simp] theorem wrn_upd (s : State) (n : Nat) (g : Fld) (v i : Nat) : (s.wrn n g v i).upd = s.upd := rfl

@[simp] theorem emit_pending (s : State) (e : Emit) : (s.emit e).pending = s.pending := rfl
@[simp] theorem emit_free (s : State) (e : Emit) : (s.emit e).free = s.free := rfl
@[simp] theorem emit_cycle (s : State) (e : Emit) : (s.emit e).cycle = s.cycle := rfl
@[simp] theorem emit_mono (s : State) (e : Emit) : (s.emit e).mono = s.mono := rfl
@[simp] theorem emit_fab (s : State) (e : Emit) : (s.emit e).fab = s.fab := rfl
@[simp] theorem emit_regs (s : State) (e : Emit) : (s.emit e).regs = s.regs := rfl
@[simp] theorem emit_timers (s : State) (e : Emit) : (s.emit e).timers = s.timers := rfl
@[simp] theorem emit_otp (s : State) (e : Emit) : (s.emit e).otp = s.otp := rfl
@[simp] theorem emit_msix (s : State) (e : Emit) : (s.emit e).msix = s.msix := rfl
@[simp] theorem emit_pageUnit (s : State) (e : Emit) : (s.emit e).pageUnit = s.pageUnit := rfl
@[simp] theorem emit_pcie (s : State) (e : Emit) : (s.emit e).pcie = s.pcie := rfl
@[simp] theorem emit_pd (s : State) (e : Emit) : (s.emit e).pd = s.pd := rfl
@[simp] theorem emit_ref (s : State) (e : Emit) : (s.emit e).ref = s.ref := rfl
@[simp] theorem emit_phy (s : State) (e : Emit) : (s.emit e).phy = s.phy := rfl
@[simp] theorem emit_lanes (s : State) (e : Emit) : (s.emit e).lanes = s.lanes := rfl
@[simp] theorem emit_win (s : State) (e : Emit) : (s.emit e).win = s.win := rfl
@[simp] theorem emit_rx (s : State) (e : Emit) : (s.emit e).rx = s.rx := rfl
@[simp] theorem emit_tx (s : State) (e : Emit) : (s.emit e).tx = s.tx := rfl
@[simp] theorem emit_byp (s : State) (e : Emit) : (s.emit e).byp = s.byp := rfl
@[simp] theorem emit_voqs (s : State) (e : Emit) : (s.emit e).voqs = s.voqs := rfl
@[simp] theorem emit_outs (s : State) (e : Emit) : (s.emit e).outs = s.outs := rfl
@[simp] theorem emit_buf (s : State) (e : Emit) : (s.emit e).buf = s.buf := rfl
@[simp] theorem emit_bufMem (s : State) (e : Emit) : (s.emit e).bufMem = s.bufMem := rfl
@[simp] theorem emit_lfsr (s : State) (e : Emit) : (s.emit e).lfsr = s.lfsr := rfl
@[simp] theorem emit_flt (s : State) (e : Emit) : (s.emit e).flt = s.flt := rfl
@[simp] theorem emit_twin (s : State) (e : Emit) : (s.emit e).twin = s.twin := rfl
@[simp] theorem emit_gcm (s : State) (e : Emit) : (s.emit e).gcm = s.gcm := rfl
@[simp] theorem emit_inbox (s : State) (e : Emit) : (s.emit e).inbox = s.inbox := rfl
@[simp] theorem emit_ctxs (s : State) (e : Emit) : (s.emit e).ctxs = s.ctxs := rfl
@[simp] theorem emit_engs (s : State) (e : Emit) : (s.emit e).engs = s.engs := rfl
@[simp] theorem emit_base (s : State) (e : Emit) : (s.emit e).base = s.base := rfl
@[simp] theorem emit_prog (s : State) (e : Emit) : (s.emit e).prog = s.prog := rfl
@[simp] theorem emit_pins (s : State) (e : Emit) : (s.emit e).pins = s.pins := rfl
@[simp] theorem emit_cup (s : State) (e : Emit) : (s.emit e).cup = s.cup := rfl
@[simp] theorem emit_bud (s : State) (e : Emit) : (s.emit e).bud = s.bud := rfl
@[simp] theorem emit_modeU (s : State) (e : Emit) : (s.emit e).modeU = s.modeU := rfl
@[simp] theorem emit_time (s : State) (e : Emit) : (s.emit e).time = s.time := rfl
@[simp] theorem emit_tout (s : State) (e : Emit) : (s.emit e).tout = s.tout := rfl
@[simp] theorem emit_bridge (s : State) (e : Emit) : (s.emit e).bridge = s.bridge := rfl
@[simp] theorem emit_can (s : State) (e : Emit) : (s.emit e).can = s.can := rfl
@[simp] theorem emit_usb (s : State) (e : Emit) : (s.emit e).usb = s.usb := rfl
@[simp] theorem emit_brk (s : State) (e : Emit) : (s.emit e).brk = s.brk := rfl
@[simp] theorem emit_cupSnap (s : State) (e : Emit) : (s.emit e).cupSnap = s.cupSnap := rfl
@[simp] theorem emit_flash (s : State) (e : Emit) : (s.emit e).flash = s.flash := rfl
@[simp] theorem emit_upd (s : State) (e : Emit) : (s.emit e).upd = s.upd := rfl

@[simp] theorem start_pending (s : State) (t d : Nat) : (s.start t d).pending = s.pending := rfl
@[simp] theorem start_sent (s : State) (t d : Nat) : (s.start t d).sent = s.sent := rfl
@[simp] theorem start_free (s : State) (t d : Nat) : (s.start t d).free = s.free := rfl
@[simp] theorem start_cycle (s : State) (t d : Nat) : (s.start t d).cycle = s.cycle := rfl
@[simp] theorem start_mono (s : State) (t d : Nat) : (s.start t d).mono = s.mono := rfl
@[simp] theorem start_fab (s : State) (t d : Nat) : (s.start t d).fab = s.fab := rfl
@[simp] theorem start_regs (s : State) (t d : Nat) : (s.start t d).regs = s.regs := rfl
@[simp] theorem start_otp (s : State) (t d : Nat) : (s.start t d).otp = s.otp := rfl
@[simp] theorem start_msix (s : State) (t d : Nat) : (s.start t d).msix = s.msix := rfl
@[simp] theorem start_pageUnit (s : State) (t d : Nat) : (s.start t d).pageUnit = s.pageUnit := rfl
@[simp] theorem start_pcie (s : State) (t d : Nat) : (s.start t d).pcie = s.pcie := rfl
@[simp] theorem start_pd (s : State) (t d : Nat) : (s.start t d).pd = s.pd := rfl
@[simp] theorem start_ref (s : State) (t d : Nat) : (s.start t d).ref = s.ref := rfl
@[simp] theorem start_phy (s : State) (t d : Nat) : (s.start t d).phy = s.phy := rfl
@[simp] theorem start_lanes (s : State) (t d : Nat) : (s.start t d).lanes = s.lanes := rfl
@[simp] theorem start_win (s : State) (t d : Nat) : (s.start t d).win = s.win := rfl
@[simp] theorem start_rx (s : State) (t d : Nat) : (s.start t d).rx = s.rx := rfl
@[simp] theorem start_tx (s : State) (t d : Nat) : (s.start t d).tx = s.tx := rfl
@[simp] theorem start_byp (s : State) (t d : Nat) : (s.start t d).byp = s.byp := rfl
@[simp] theorem start_voqs (s : State) (t d : Nat) : (s.start t d).voqs = s.voqs := rfl
@[simp] theorem start_outs (s : State) (t d : Nat) : (s.start t d).outs = s.outs := rfl
@[simp] theorem start_buf (s : State) (t d : Nat) : (s.start t d).buf = s.buf := rfl
@[simp] theorem start_bufMem (s : State) (t d : Nat) : (s.start t d).bufMem = s.bufMem := rfl
@[simp] theorem start_lfsr (s : State) (t d : Nat) : (s.start t d).lfsr = s.lfsr := rfl
@[simp] theorem start_flt (s : State) (t d : Nat) : (s.start t d).flt = s.flt := rfl
@[simp] theorem start_twin (s : State) (t d : Nat) : (s.start t d).twin = s.twin := rfl
@[simp] theorem start_gcm (s : State) (t d : Nat) : (s.start t d).gcm = s.gcm := rfl
@[simp] theorem start_inbox (s : State) (t d : Nat) : (s.start t d).inbox = s.inbox := rfl
@[simp] theorem start_ctxs (s : State) (t d : Nat) : (s.start t d).ctxs = s.ctxs := rfl
@[simp] theorem start_engs (s : State) (t d : Nat) : (s.start t d).engs = s.engs := rfl
@[simp] theorem start_base (s : State) (t d : Nat) : (s.start t d).base = s.base := rfl
@[simp] theorem start_prog (s : State) (t d : Nat) : (s.start t d).prog = s.prog := rfl
@[simp] theorem start_pins (s : State) (t d : Nat) : (s.start t d).pins = s.pins := rfl
@[simp] theorem start_cup (s : State) (t d : Nat) : (s.start t d).cup = s.cup := rfl
@[simp] theorem start_bud (s : State) (t d : Nat) : (s.start t d).bud = s.bud := rfl
@[simp] theorem start_modeU (s : State) (t d : Nat) : (s.start t d).modeU = s.modeU := rfl
@[simp] theorem start_time (s : State) (t d : Nat) : (s.start t d).time = s.time := rfl
@[simp] theorem start_tout (s : State) (t d : Nat) : (s.start t d).tout = s.tout := rfl
@[simp] theorem start_bridge (s : State) (t d : Nat) : (s.start t d).bridge = s.bridge := rfl
@[simp] theorem start_can (s : State) (t d : Nat) : (s.start t d).can = s.can := rfl
@[simp] theorem start_usb (s : State) (t d : Nat) : (s.start t d).usb = s.usb := rfl
@[simp] theorem start_brk (s : State) (t d : Nat) : (s.start t d).brk = s.brk := rfl
@[simp] theorem start_cupSnap (s : State) (t d : Nat) : (s.start t d).cupSnap = s.cupSnap := rfl
@[simp] theorem start_flash (s : State) (t d : Nat) : (s.start t d).flash = s.flash := rfl
@[simp] theorem start_upd (s : State) (t d : Nat) : (s.start t d).upd = s.upd := rfl

@[simp] theorem stop_pending (s : State) (t : Nat) : (s.stop t).pending = s.pending := rfl
@[simp] theorem stop_sent (s : State) (t : Nat) : (s.stop t).sent = s.sent := rfl
@[simp] theorem stop_free (s : State) (t : Nat) : (s.stop t).free = s.free := rfl
@[simp] theorem stop_cycle (s : State) (t : Nat) : (s.stop t).cycle = s.cycle := rfl
@[simp] theorem stop_mono (s : State) (t : Nat) : (s.stop t).mono = s.mono := rfl
@[simp] theorem stop_fab (s : State) (t : Nat) : (s.stop t).fab = s.fab := rfl
@[simp] theorem stop_regs (s : State) (t : Nat) : (s.stop t).regs = s.regs := rfl
@[simp] theorem stop_otp (s : State) (t : Nat) : (s.stop t).otp = s.otp := rfl
@[simp] theorem stop_msix (s : State) (t : Nat) : (s.stop t).msix = s.msix := rfl
@[simp] theorem stop_pageUnit (s : State) (t : Nat) : (s.stop t).pageUnit = s.pageUnit := rfl
@[simp] theorem stop_pcie (s : State) (t : Nat) : (s.stop t).pcie = s.pcie := rfl
@[simp] theorem stop_pd (s : State) (t : Nat) : (s.stop t).pd = s.pd := rfl
@[simp] theorem stop_ref (s : State) (t : Nat) : (s.stop t).ref = s.ref := rfl
@[simp] theorem stop_phy (s : State) (t : Nat) : (s.stop t).phy = s.phy := rfl
@[simp] theorem stop_lanes (s : State) (t : Nat) : (s.stop t).lanes = s.lanes := rfl
@[simp] theorem stop_win (s : State) (t : Nat) : (s.stop t).win = s.win := rfl
@[simp] theorem stop_rx (s : State) (t : Nat) : (s.stop t).rx = s.rx := rfl
@[simp] theorem stop_tx (s : State) (t : Nat) : (s.stop t).tx = s.tx := rfl
@[simp] theorem stop_byp (s : State) (t : Nat) : (s.stop t).byp = s.byp := rfl
@[simp] theorem stop_voqs (s : State) (t : Nat) : (s.stop t).voqs = s.voqs := rfl
@[simp] theorem stop_outs (s : State) (t : Nat) : (s.stop t).outs = s.outs := rfl
@[simp] theorem stop_buf (s : State) (t : Nat) : (s.stop t).buf = s.buf := rfl
@[simp] theorem stop_bufMem (s : State) (t : Nat) : (s.stop t).bufMem = s.bufMem := rfl
@[simp] theorem stop_lfsr (s : State) (t : Nat) : (s.stop t).lfsr = s.lfsr := rfl
@[simp] theorem stop_flt (s : State) (t : Nat) : (s.stop t).flt = s.flt := rfl
@[simp] theorem stop_twin (s : State) (t : Nat) : (s.stop t).twin = s.twin := rfl
@[simp] theorem stop_gcm (s : State) (t : Nat) : (s.stop t).gcm = s.gcm := rfl
@[simp] theorem stop_inbox (s : State) (t : Nat) : (s.stop t).inbox = s.inbox := rfl
@[simp] theorem stop_ctxs (s : State) (t : Nat) : (s.stop t).ctxs = s.ctxs := rfl
@[simp] theorem stop_engs (s : State) (t : Nat) : (s.stop t).engs = s.engs := rfl
@[simp] theorem stop_base (s : State) (t : Nat) : (s.stop t).base = s.base := rfl
@[simp] theorem stop_prog (s : State) (t : Nat) : (s.stop t).prog = s.prog := rfl
@[simp] theorem stop_pins (s : State) (t : Nat) : (s.stop t).pins = s.pins := rfl
@[simp] theorem stop_cup (s : State) (t : Nat) : (s.stop t).cup = s.cup := rfl
@[simp] theorem stop_bud (s : State) (t : Nat) : (s.stop t).bud = s.bud := rfl
@[simp] theorem stop_modeU (s : State) (t : Nat) : (s.stop t).modeU = s.modeU := rfl
@[simp] theorem stop_time (s : State) (t : Nat) : (s.stop t).time = s.time := rfl
@[simp] theorem stop_tout (s : State) (t : Nat) : (s.stop t).tout = s.tout := rfl
@[simp] theorem stop_bridge (s : State) (t : Nat) : (s.stop t).bridge = s.bridge := rfl
@[simp] theorem stop_can (s : State) (t : Nat) : (s.stop t).can = s.can := rfl
@[simp] theorem stop_usb (s : State) (t : Nat) : (s.stop t).usb = s.usb := rfl
@[simp] theorem stop_brk (s : State) (t : Nat) : (s.stop t).brk = s.brk := rfl
@[simp] theorem stop_cupSnap (s : State) (t : Nat) : (s.stop t).cupSnap = s.cupSnap := rfl
@[simp] theorem stop_flash (s : State) (t : Nat) : (s.stop t).flash = s.flash := rfl
@[simp] theorem stop_upd (s : State) (t : Nat) : (s.stop t).upd = s.upd := rfl

@[simp] theorem settle_pending (s : State) (old : State) (pg : Nat) (wr : Bool) : (s.settle old pg wr).pending = s.pending := by
  obtain ⟨m, l, h⟩ := settle_frame s old pg wr
  rw [h]
@[simp] theorem settle_free (s : State) (old : State) (pg : Nat) (wr : Bool) : (s.settle old pg wr).free = s.free := by
  obtain ⟨m, l, h⟩ := settle_frame s old pg wr
  rw [h]
@[simp] theorem settle_cycle (s : State) (old : State) (pg : Nat) (wr : Bool) : (s.settle old pg wr).cycle = s.cycle := by
  obtain ⟨m, l, h⟩ := settle_frame s old pg wr
  rw [h]
@[simp] theorem settle_mono (s : State) (old : State) (pg : Nat) (wr : Bool) : (s.settle old pg wr).mono = s.mono := by
  obtain ⟨m, l, h⟩ := settle_frame s old pg wr
  rw [h]
@[simp] theorem settle_fab (s : State) (old : State) (pg : Nat) (wr : Bool) : (s.settle old pg wr).fab = s.fab := by
  obtain ⟨m, l, h⟩ := settle_frame s old pg wr
  rw [h]
@[simp] theorem settle_timers (s : State) (old : State) (pg : Nat) (wr : Bool) : (s.settle old pg wr).timers = s.timers := by
  obtain ⟨m, l, h⟩ := settle_frame s old pg wr
  rw [h]
@[simp] theorem settle_otp (s : State) (old : State) (pg : Nat) (wr : Bool) : (s.settle old pg wr).otp = s.otp := by
  obtain ⟨m, l, h⟩ := settle_frame s old pg wr
  rw [h]
@[simp] theorem settle_pageUnit (s : State) (old : State) (pg : Nat) (wr : Bool) : (s.settle old pg wr).pageUnit = s.pageUnit := by
  obtain ⟨m, l, h⟩ := settle_frame s old pg wr
  rw [h]
@[simp] theorem settle_pcie (s : State) (old : State) (pg : Nat) (wr : Bool) : (s.settle old pg wr).pcie = s.pcie := by
  obtain ⟨m, l, h⟩ := settle_frame s old pg wr
  rw [h]
@[simp] theorem settle_pd (s : State) (old : State) (pg : Nat) (wr : Bool) : (s.settle old pg wr).pd = s.pd := by
  obtain ⟨m, l, h⟩ := settle_frame s old pg wr
  rw [h]
@[simp] theorem settle_ref (s : State) (old : State) (pg : Nat) (wr : Bool) : (s.settle old pg wr).ref = s.ref := by
  obtain ⟨m, l, h⟩ := settle_frame s old pg wr
  rw [h]
@[simp] theorem settle_phy (s : State) (old : State) (pg : Nat) (wr : Bool) : (s.settle old pg wr).phy = s.phy := by
  obtain ⟨m, l, h⟩ := settle_frame s old pg wr
  rw [h]
@[simp] theorem settle_lanes (s : State) (old : State) (pg : Nat) (wr : Bool) : (s.settle old pg wr).lanes = s.lanes := by
  obtain ⟨m, l, h⟩ := settle_frame s old pg wr
  rw [h]
@[simp] theorem settle_win (s : State) (old : State) (pg : Nat) (wr : Bool) : (s.settle old pg wr).win = s.win := by
  obtain ⟨m, l, h⟩ := settle_frame s old pg wr
  rw [h]
@[simp] theorem settle_rx (s : State) (old : State) (pg : Nat) (wr : Bool) : (s.settle old pg wr).rx = s.rx := by
  obtain ⟨m, l, h⟩ := settle_frame s old pg wr
  rw [h]
@[simp] theorem settle_tx (s : State) (old : State) (pg : Nat) (wr : Bool) : (s.settle old pg wr).tx = s.tx := by
  obtain ⟨m, l, h⟩ := settle_frame s old pg wr
  rw [h]
@[simp] theorem settle_byp (s : State) (old : State) (pg : Nat) (wr : Bool) : (s.settle old pg wr).byp = s.byp := by
  obtain ⟨m, l, h⟩ := settle_frame s old pg wr
  rw [h]
@[simp] theorem settle_voqs (s : State) (old : State) (pg : Nat) (wr : Bool) : (s.settle old pg wr).voqs = s.voqs := by
  obtain ⟨m, l, h⟩ := settle_frame s old pg wr
  rw [h]
@[simp] theorem settle_outs (s : State) (old : State) (pg : Nat) (wr : Bool) : (s.settle old pg wr).outs = s.outs := by
  obtain ⟨m, l, h⟩ := settle_frame s old pg wr
  rw [h]
@[simp] theorem settle_buf (s : State) (old : State) (pg : Nat) (wr : Bool) : (s.settle old pg wr).buf = s.buf := by
  obtain ⟨m, l, h⟩ := settle_frame s old pg wr
  rw [h]
@[simp] theorem settle_bufMem (s : State) (old : State) (pg : Nat) (wr : Bool) : (s.settle old pg wr).bufMem = s.bufMem := by
  obtain ⟨m, l, h⟩ := settle_frame s old pg wr
  rw [h]
@[simp] theorem settle_lfsr (s : State) (old : State) (pg : Nat) (wr : Bool) : (s.settle old pg wr).lfsr = s.lfsr := by
  obtain ⟨m, l, h⟩ := settle_frame s old pg wr
  rw [h]
@[simp] theorem settle_flt (s : State) (old : State) (pg : Nat) (wr : Bool) : (s.settle old pg wr).flt = s.flt := by
  obtain ⟨m, l, h⟩ := settle_frame s old pg wr
  rw [h]
@[simp] theorem settle_twin (s : State) (old : State) (pg : Nat) (wr : Bool) : (s.settle old pg wr).twin = s.twin := by
  obtain ⟨m, l, h⟩ := settle_frame s old pg wr
  rw [h]
@[simp] theorem settle_gcm (s : State) (old : State) (pg : Nat) (wr : Bool) : (s.settle old pg wr).gcm = s.gcm := by
  obtain ⟨m, l, h⟩ := settle_frame s old pg wr
  rw [h]
@[simp] theorem settle_inbox (s : State) (old : State) (pg : Nat) (wr : Bool) : (s.settle old pg wr).inbox = s.inbox := by
  obtain ⟨m, l, h⟩ := settle_frame s old pg wr
  rw [h]
@[simp] theorem settle_ctxs (s : State) (old : State) (pg : Nat) (wr : Bool) : (s.settle old pg wr).ctxs = s.ctxs := by
  obtain ⟨m, l, h⟩ := settle_frame s old pg wr
  rw [h]
@[simp] theorem settle_engs (s : State) (old : State) (pg : Nat) (wr : Bool) : (s.settle old pg wr).engs = s.engs := by
  obtain ⟨m, l, h⟩ := settle_frame s old pg wr
  rw [h]
@[simp] theorem settle_base (s : State) (old : State) (pg : Nat) (wr : Bool) : (s.settle old pg wr).base = s.base := by
  obtain ⟨m, l, h⟩ := settle_frame s old pg wr
  rw [h]
@[simp] theorem settle_prog (s : State) (old : State) (pg : Nat) (wr : Bool) : (s.settle old pg wr).prog = s.prog := by
  obtain ⟨m, l, h⟩ := settle_frame s old pg wr
  rw [h]
@[simp] theorem settle_pins (s : State) (old : State) (pg : Nat) (wr : Bool) : (s.settle old pg wr).pins = s.pins := by
  obtain ⟨m, l, h⟩ := settle_frame s old pg wr
  rw [h]
@[simp] theorem settle_cup (s : State) (old : State) (pg : Nat) (wr : Bool) : (s.settle old pg wr).cup = s.cup := by
  obtain ⟨m, l, h⟩ := settle_frame s old pg wr
  rw [h]
@[simp] theorem settle_bud (s : State) (old : State) (pg : Nat) (wr : Bool) : (s.settle old pg wr).bud = s.bud := by
  obtain ⟨m, l, h⟩ := settle_frame s old pg wr
  rw [h]
@[simp] theorem settle_modeU (s : State) (old : State) (pg : Nat) (wr : Bool) : (s.settle old pg wr).modeU = s.modeU := by
  obtain ⟨m, l, h⟩ := settle_frame s old pg wr
  rw [h]
@[simp] theorem settle_time (s : State) (old : State) (pg : Nat) (wr : Bool) : (s.settle old pg wr).time = s.time := by
  obtain ⟨m, l, h⟩ := settle_frame s old pg wr
  rw [h]
@[simp] theorem settle_tout (s : State) (old : State) (pg : Nat) (wr : Bool) : (s.settle old pg wr).tout = s.tout := by
  obtain ⟨m, l, h⟩ := settle_frame s old pg wr
  rw [h]
@[simp] theorem settle_bridge (s : State) (old : State) (pg : Nat) (wr : Bool) : (s.settle old pg wr).bridge = s.bridge := by
  obtain ⟨m, l, h⟩ := settle_frame s old pg wr
  rw [h]
@[simp] theorem settle_can (s : State) (old : State) (pg : Nat) (wr : Bool) : (s.settle old pg wr).can = s.can := by
  obtain ⟨m, l, h⟩ := settle_frame s old pg wr
  rw [h]
@[simp] theorem settle_usb (s : State) (old : State) (pg : Nat) (wr : Bool) : (s.settle old pg wr).usb = s.usb := by
  obtain ⟨m, l, h⟩ := settle_frame s old pg wr
  rw [h]
@[simp] theorem settle_brk (s : State) (old : State) (pg : Nat) (wr : Bool) : (s.settle old pg wr).brk = s.brk := by
  obtain ⟨m, l, h⟩ := settle_frame s old pg wr
  rw [h]
@[simp] theorem settle_cupSnap (s : State) (old : State) (pg : Nat) (wr : Bool) : (s.settle old pg wr).cupSnap = s.cupSnap := by
  obtain ⟨m, l, h⟩ := settle_frame s old pg wr
  rw [h]
@[simp] theorem settle_flash (s : State) (old : State) (pg : Nat) (wr : Bool) : (s.settle old pg wr).flash = s.flash := by
  obtain ⟨m, l, h⟩ := settle_frame s old pg wr
  rw [h]
@[simp] theorem settle_upd (s : State) (old : State) (pg : Nat) (wr : Bool) : (s.settle old pg wr).upd = s.upd := by
  obtain ⟨m, l, h⟩ := settle_frame s old pg wr
  rw [h]

@[simp] theorem raise_pending (s : State) (pg b : Nat) : (s.raise pg b).pending = s.pending := by
  obtain ⟨m, l, h⟩ := raise_frame s pg b
  rw [h]
  rfl
@[simp] theorem raise_free (s : State) (pg b : Nat) : (s.raise pg b).free = s.free := by
  obtain ⟨m, l, h⟩ := raise_frame s pg b
  rw [h]
  rfl
@[simp] theorem raise_cycle (s : State) (pg b : Nat) : (s.raise pg b).cycle = s.cycle := by
  obtain ⟨m, l, h⟩ := raise_frame s pg b
  rw [h]
  rfl
@[simp] theorem raise_mono (s : State) (pg b : Nat) : (s.raise pg b).mono = s.mono := by
  obtain ⟨m, l, h⟩ := raise_frame s pg b
  rw [h]
  rfl
@[simp] theorem raise_fab (s : State) (pg b : Nat) : (s.raise pg b).fab = s.fab := by
  obtain ⟨m, l, h⟩ := raise_frame s pg b
  rw [h]
  rfl
@[simp] theorem raise_timers (s : State) (pg b : Nat) : (s.raise pg b).timers = s.timers := by
  obtain ⟨m, l, h⟩ := raise_frame s pg b
  rw [h]
  rfl
@[simp] theorem raise_otp (s : State) (pg b : Nat) : (s.raise pg b).otp = s.otp := by
  obtain ⟨m, l, h⟩ := raise_frame s pg b
  rw [h]
  rfl
@[simp] theorem raise_pageUnit (s : State) (pg b : Nat) : (s.raise pg b).pageUnit = s.pageUnit := by
  obtain ⟨m, l, h⟩ := raise_frame s pg b
  rw [h]
  rfl
@[simp] theorem raise_pcie (s : State) (pg b : Nat) : (s.raise pg b).pcie = s.pcie := by
  obtain ⟨m, l, h⟩ := raise_frame s pg b
  rw [h]
  rfl
@[simp] theorem raise_pd (s : State) (pg b : Nat) : (s.raise pg b).pd = s.pd := by
  obtain ⟨m, l, h⟩ := raise_frame s pg b
  rw [h]
  rfl
@[simp] theorem raise_ref (s : State) (pg b : Nat) : (s.raise pg b).ref = s.ref := by
  obtain ⟨m, l, h⟩ := raise_frame s pg b
  rw [h]
  rfl
@[simp] theorem raise_phy (s : State) (pg b : Nat) : (s.raise pg b).phy = s.phy := by
  obtain ⟨m, l, h⟩ := raise_frame s pg b
  rw [h]
  rfl
@[simp] theorem raise_lanes (s : State) (pg b : Nat) : (s.raise pg b).lanes = s.lanes := by
  obtain ⟨m, l, h⟩ := raise_frame s pg b
  rw [h]
  rfl
@[simp] theorem raise_win (s : State) (pg b : Nat) : (s.raise pg b).win = s.win := by
  obtain ⟨m, l, h⟩ := raise_frame s pg b
  rw [h]
  rfl
@[simp] theorem raise_rx (s : State) (pg b : Nat) : (s.raise pg b).rx = s.rx := by
  obtain ⟨m, l, h⟩ := raise_frame s pg b
  rw [h]
  rfl
@[simp] theorem raise_tx (s : State) (pg b : Nat) : (s.raise pg b).tx = s.tx := by
  obtain ⟨m, l, h⟩ := raise_frame s pg b
  rw [h]
  rfl
@[simp] theorem raise_byp (s : State) (pg b : Nat) : (s.raise pg b).byp = s.byp := by
  obtain ⟨m, l, h⟩ := raise_frame s pg b
  rw [h]
  rfl
@[simp] theorem raise_voqs (s : State) (pg b : Nat) : (s.raise pg b).voqs = s.voqs := by
  obtain ⟨m, l, h⟩ := raise_frame s pg b
  rw [h]
  rfl
@[simp] theorem raise_outs (s : State) (pg b : Nat) : (s.raise pg b).outs = s.outs := by
  obtain ⟨m, l, h⟩ := raise_frame s pg b
  rw [h]
  rfl
@[simp] theorem raise_buf (s : State) (pg b : Nat) : (s.raise pg b).buf = s.buf := by
  obtain ⟨m, l, h⟩ := raise_frame s pg b
  rw [h]
  rfl
@[simp] theorem raise_bufMem (s : State) (pg b : Nat) : (s.raise pg b).bufMem = s.bufMem := by
  obtain ⟨m, l, h⟩ := raise_frame s pg b
  rw [h]
  rfl
@[simp] theorem raise_lfsr (s : State) (pg b : Nat) : (s.raise pg b).lfsr = s.lfsr := by
  obtain ⟨m, l, h⟩ := raise_frame s pg b
  rw [h]
  rfl
@[simp] theorem raise_flt (s : State) (pg b : Nat) : (s.raise pg b).flt = s.flt := by
  obtain ⟨m, l, h⟩ := raise_frame s pg b
  rw [h]
  rfl
@[simp] theorem raise_twin (s : State) (pg b : Nat) : (s.raise pg b).twin = s.twin := by
  obtain ⟨m, l, h⟩ := raise_frame s pg b
  rw [h]
  rfl
@[simp] theorem raise_gcm (s : State) (pg b : Nat) : (s.raise pg b).gcm = s.gcm := by
  obtain ⟨m, l, h⟩ := raise_frame s pg b
  rw [h]
  rfl
@[simp] theorem raise_inbox (s : State) (pg b : Nat) : (s.raise pg b).inbox = s.inbox := by
  obtain ⟨m, l, h⟩ := raise_frame s pg b
  rw [h]
  rfl
@[simp] theorem raise_ctxs (s : State) (pg b : Nat) : (s.raise pg b).ctxs = s.ctxs := by
  obtain ⟨m, l, h⟩ := raise_frame s pg b
  rw [h]
  rfl
@[simp] theorem raise_engs (s : State) (pg b : Nat) : (s.raise pg b).engs = s.engs := by
  obtain ⟨m, l, h⟩ := raise_frame s pg b
  rw [h]
  rfl
@[simp] theorem raise_base (s : State) (pg b : Nat) : (s.raise pg b).base = s.base := by
  obtain ⟨m, l, h⟩ := raise_frame s pg b
  rw [h]
  rfl
@[simp] theorem raise_prog (s : State) (pg b : Nat) : (s.raise pg b).prog = s.prog := by
  obtain ⟨m, l, h⟩ := raise_frame s pg b
  rw [h]
  rfl
@[simp] theorem raise_pins (s : State) (pg b : Nat) : (s.raise pg b).pins = s.pins := by
  obtain ⟨m, l, h⟩ := raise_frame s pg b
  rw [h]
  rfl
@[simp] theorem raise_cup (s : State) (pg b : Nat) : (s.raise pg b).cup = s.cup := by
  obtain ⟨m, l, h⟩ := raise_frame s pg b
  rw [h]
  rfl
@[simp] theorem raise_bud (s : State) (pg b : Nat) : (s.raise pg b).bud = s.bud := by
  obtain ⟨m, l, h⟩ := raise_frame s pg b
  rw [h]
  rfl
@[simp] theorem raise_modeU (s : State) (pg b : Nat) : (s.raise pg b).modeU = s.modeU := by
  obtain ⟨m, l, h⟩ := raise_frame s pg b
  rw [h]
  rfl
@[simp] theorem raise_time (s : State) (pg b : Nat) : (s.raise pg b).time = s.time := by
  obtain ⟨m, l, h⟩ := raise_frame s pg b
  rw [h]
  rfl
@[simp] theorem raise_tout (s : State) (pg b : Nat) : (s.raise pg b).tout = s.tout := by
  obtain ⟨m, l, h⟩ := raise_frame s pg b
  rw [h]
  rfl
@[simp] theorem raise_bridge (s : State) (pg b : Nat) : (s.raise pg b).bridge = s.bridge := by
  obtain ⟨m, l, h⟩ := raise_frame s pg b
  rw [h]
  rfl
@[simp] theorem raise_can (s : State) (pg b : Nat) : (s.raise pg b).can = s.can := by
  obtain ⟨m, l, h⟩ := raise_frame s pg b
  rw [h]
  rfl
@[simp] theorem raise_usb (s : State) (pg b : Nat) : (s.raise pg b).usb = s.usb := by
  obtain ⟨m, l, h⟩ := raise_frame s pg b
  rw [h]
  rfl
@[simp] theorem raise_brk (s : State) (pg b : Nat) : (s.raise pg b).brk = s.brk := by
  obtain ⟨m, l, h⟩ := raise_frame s pg b
  rw [h]
  rfl
@[simp] theorem raise_cupSnap (s : State) (pg b : Nat) : (s.raise pg b).cupSnap = s.cupSnap := by
  obtain ⟨m, l, h⟩ := raise_frame s pg b
  rw [h]
  rfl
@[simp] theorem raise_flash (s : State) (pg b : Nat) : (s.raise pg b).flash = s.flash := by
  obtain ⟨m, l, h⟩ := raise_frame s pg b
  rw [h]
  rfl
@[simp] theorem raise_upd (s : State) (pg b : Nat) : (s.raise pg b).upd = s.upd := by
  obtain ⟨m, l, h⟩ := raise_frame s pg b
  rw [h]
  rfl

end Sys2Proof.Laws
end

