-- ==== Sys2Proof/Laws/State.lean ====
section
/-! SUPPORT. What a change of one field of the state leaves of every field: one lemma a field and update. -/

set_option Elab.async false

namespace Sys2Proof.Laws

open Sys2Proof.Machine

variable (s : State)

@[simp] theorem set_pending_pending (v : List Instr) : (State.pending { s with pending := v }) = v := rfl
@[simp] theorem set_pending_sent (v : List Instr) : (State.sent { s with pending := v }) = s.sent := rfl
@[simp] theorem set_pending_free (v : List Instr) : (State.free { s with pending := v }) = s.free := rfl
@[simp] theorem set_pending_cycle (v : List Instr) : (State.cycle { s with pending := v }) = s.cycle := rfl
@[simp] theorem set_pending_mono (v : List Instr) : (State.mono { s with pending := v }) = s.mono := rfl
@[simp] theorem set_pending_fab (v : List Instr) : (State.fab { s with pending := v }) = s.fab := rfl
@[simp] theorem set_pending_regs (v : List Instr) : (State.regs { s with pending := v }) = s.regs := rfl
@[simp] theorem set_pending_timers (v : List Instr) : (State.timers { s with pending := v }) = s.timers := rfl
@[simp] theorem set_pending_otp (v : List Instr) : (State.otp { s with pending := v }) = s.otp := rfl
@[simp] theorem set_pending_msix (v : List Instr) : (State.msix { s with pending := v }) = s.msix := rfl
@[simp] theorem set_pending_pageUnit (v : List Instr) : (State.pageUnit { s with pending := v }) = s.pageUnit := rfl
@[simp] theorem set_pending_pcie (v : List Instr) : (State.pcie { s with pending := v }) = s.pcie := rfl
@[simp] theorem set_pending_pd (v : List Instr) : (State.pd { s with pending := v }) = s.pd := rfl
@[simp] theorem set_pending_ref (v : List Instr) : (State.ref { s with pending := v }) = s.ref := rfl
@[simp] theorem set_pending_phy (v : List Instr) : (State.phy { s with pending := v }) = s.phy := rfl
@[simp] theorem set_pending_lanes (v : List Instr) : (State.lanes { s with pending := v }) = s.lanes := rfl
@[simp] theorem set_pending_win (v : List Instr) : (State.win { s with pending := v }) = s.win := rfl
@[simp] theorem set_pending_rx (v : List Instr) : (State.rx { s with pending := v }) = s.rx := rfl
@[simp] theorem set_pending_tx (v : List Instr) : (State.tx { s with pending := v }) = s.tx := rfl
@[simp] theorem set_pending_byp (v : List Instr) : (State.byp { s with pending := v }) = s.byp := rfl
@[simp] theorem set_pending_voqs (v : List Instr) : (State.voqs { s with pending := v }) = s.voqs := rfl
@[simp] theorem set_pending_outs (v : List Instr) : (State.outs { s with pending := v }) = s.outs := rfl
@[simp] theorem set_pending_buf (v : List Instr) : (State.buf { s with pending := v }) = s.buf := rfl
@[simp] theorem set_pending_bufMem (v : List Instr) : (State.bufMem { s with pending := v }) = s.bufMem := rfl
@[simp] theorem set_pending_lfsr (v : List Instr) : (State.lfsr { s with pending := v }) = s.lfsr := rfl
@[simp] theorem set_pending_flt (v : List Instr) : (State.flt { s with pending := v }) = s.flt := rfl
@[simp] theorem set_pending_twin (v : List Instr) : (State.twin { s with pending := v }) = s.twin := rfl
@[simp] theorem set_pending_gcm (v : List Instr) : (State.gcm { s with pending := v }) = s.gcm := rfl
@[simp] theorem set_pending_inbox (v : List Instr) : (State.inbox { s with pending := v }) = s.inbox := rfl
@[simp] theorem set_pending_ctxs (v : List Instr) : (State.ctxs { s with pending := v }) = s.ctxs := rfl
@[simp] theorem set_pending_engs (v : List Instr) : (State.engs { s with pending := v }) = s.engs := rfl
@[simp] theorem set_pending_base (v : List Instr) : (State.base { s with pending := v }) = s.base := rfl
@[simp] theorem set_pending_prog (v : List Instr) : (State.prog { s with pending := v }) = s.prog := rfl
@[simp] theorem set_pending_pins (v : List Instr) : (State.pins { s with pending := v }) = s.pins := rfl
@[simp] theorem set_pending_cup (v : List Instr) : (State.cup { s with pending := v }) = s.cup := rfl
@[simp] theorem set_pending_bud (v : List Instr) : (State.bud { s with pending := v }) = s.bud := rfl
@[simp] theorem set_pending_modeU (v : List Instr) : (State.modeU { s with pending := v }) = s.modeU := rfl
@[simp] theorem set_pending_time (v : List Instr) : (State.time { s with pending := v }) = s.time := rfl
@[simp] theorem set_pending_tout (v : List Instr) : (State.tout { s with pending := v }) = s.tout := rfl
@[simp] theorem set_pending_bridge (v : List Instr) : (State.bridge { s with pending := v }) = s.bridge := rfl
@[simp] theorem set_pending_can (v : List Instr) : (State.can { s with pending := v }) = s.can := rfl
@[simp] theorem set_pending_usb (v : List Instr) : (State.usb { s with pending := v }) = s.usb := rfl
@[simp] theorem set_pending_brk (v : List Instr) : (State.brk { s with pending := v }) = s.brk := rfl
@[simp] theorem set_pending_cupSnap (v : List Instr) : (State.cupSnap { s with pending := v }) = s.cupSnap := rfl
@[simp] theorem set_pending_flash (v : List Instr) : (State.flash { s with pending := v }) = s.flash := rfl
@[simp] theorem set_pending_upd (v : List Instr) : (State.upd { s with pending := v }) = s.upd := rfl
@[simp] theorem set_sent_pending (v : List Emit) : (State.pending { s with sent := v }) = s.pending := rfl
@[simp] theorem set_sent_sent (v : List Emit) : (State.sent { s with sent := v }) = v := rfl
@[simp] theorem set_sent_free (v : List Emit) : (State.free { s with sent := v }) = s.free := rfl
@[simp] theorem set_sent_cycle (v : List Emit) : (State.cycle { s with sent := v }) = s.cycle := rfl
@[simp] theorem set_sent_mono (v : List Emit) : (State.mono { s with sent := v }) = s.mono := rfl
@[simp] theorem set_sent_fab (v : List Emit) : (State.fab { s with sent := v }) = s.fab := rfl
@[simp] theorem set_sent_regs (v : List Emit) : (State.regs { s with sent := v }) = s.regs := rfl
@[simp] theorem set_sent_timers (v : List Emit) : (State.timers { s with sent := v }) = s.timers := rfl
@[simp] theorem set_sent_otp (v : List Emit) : (State.otp { s with sent := v }) = s.otp := rfl
@[simp] theorem set_sent_msix (v : List Emit) : (State.msix { s with sent := v }) = s.msix := rfl
@[simp] theorem set_sent_pageUnit (v : List Emit) : (State.pageUnit { s with sent := v }) = s.pageUnit := rfl
@[simp] theorem set_sent_pcie (v : List Emit) : (State.pcie { s with sent := v }) = s.pcie := rfl
@[simp] theorem set_sent_pd (v : List Emit) : (State.pd { s with sent := v }) = s.pd := rfl
@[simp] theorem set_sent_ref (v : List Emit) : (State.ref { s with sent := v }) = s.ref := rfl
@[simp] theorem set_sent_phy (v : List Emit) : (State.phy { s with sent := v }) = s.phy := rfl
@[simp] theorem set_sent_lanes (v : List Emit) : (State.lanes { s with sent := v }) = s.lanes := rfl
@[simp] theorem set_sent_win (v : List Emit) : (State.win { s with sent := v }) = s.win := rfl
@[simp] theorem set_sent_rx (v : List Emit) : (State.rx { s with sent := v }) = s.rx := rfl
@[simp] theorem set_sent_tx (v : List Emit) : (State.tx { s with sent := v }) = s.tx := rfl
@[simp] theorem set_sent_byp (v : List Emit) : (State.byp { s with sent := v }) = s.byp := rfl
@[simp] theorem set_sent_voqs (v : List Emit) : (State.voqs { s with sent := v }) = s.voqs := rfl
@[simp] theorem set_sent_outs (v : List Emit) : (State.outs { s with sent := v }) = s.outs := rfl
@[simp] theorem set_sent_buf (v : List Emit) : (State.buf { s with sent := v }) = s.buf := rfl
@[simp] theorem set_sent_bufMem (v : List Emit) : (State.bufMem { s with sent := v }) = s.bufMem := rfl
@[simp] theorem set_sent_lfsr (v : List Emit) : (State.lfsr { s with sent := v }) = s.lfsr := rfl
@[simp] theorem set_sent_flt (v : List Emit) : (State.flt { s with sent := v }) = s.flt := rfl
@[simp] theorem set_sent_twin (v : List Emit) : (State.twin { s with sent := v }) = s.twin := rfl
@[simp] theorem set_sent_gcm (v : List Emit) : (State.gcm { s with sent := v }) = s.gcm := rfl
@[simp] theorem set_sent_inbox (v : List Emit) : (State.inbox { s with sent := v }) = s.inbox := rfl
@[simp] theorem set_sent_ctxs (v : List Emit) : (State.ctxs { s with sent := v }) = s.ctxs := rfl
@[simp] theorem set_sent_engs (v : List Emit) : (State.engs { s with sent := v }) = s.engs := rfl
@[simp] theorem set_sent_base (v : List Emit) : (State.base { s with sent := v }) = s.base := rfl
@[simp] theorem set_sent_prog (v : List Emit) : (State.prog { s with sent := v }) = s.prog := rfl
@[simp] theorem set_sent_pins (v : List Emit) : (State.pins { s with sent := v }) = s.pins := rfl
@[simp] theorem set_sent_cup (v : List Emit) : (State.cup { s with sent := v }) = s.cup := rfl
@[simp] theorem set_sent_bud (v : List Emit) : (State.bud { s with sent := v }) = s.bud := rfl
@[simp] theorem set_sent_modeU (v : List Emit) : (State.modeU { s with sent := v }) = s.modeU := rfl
@[simp] theorem set_sent_time (v : List Emit) : (State.time { s with sent := v }) = s.time := rfl
@[simp] theorem set_sent_tout (v : List Emit) : (State.tout { s with sent := v }) = s.tout := rfl
@[simp] theorem set_sent_bridge (v : List Emit) : (State.bridge { s with sent := v }) = s.bridge := rfl
@[simp] theorem set_sent_can (v : List Emit) : (State.can { s with sent := v }) = s.can := rfl
@[simp] theorem set_sent_usb (v : List Emit) : (State.usb { s with sent := v }) = s.usb := rfl
@[simp] theorem set_sent_brk (v : List Emit) : (State.brk { s with sent := v }) = s.brk := rfl
@[simp] theorem set_sent_cupSnap (v : List Emit) : (State.cupSnap { s with sent := v }) = s.cupSnap := rfl
@[simp] theorem set_sent_flash (v : List Emit) : (State.flash { s with sent := v }) = s.flash := rfl
@[simp] theorem set_sent_upd (v : List Emit) : (State.upd { s with sent := v }) = s.upd := rfl
@[simp] theorem set_free_pending (v : Nat) : (State.pending { s with free := v }) = s.pending := rfl
@[simp] theorem set_free_sent (v : Nat) : (State.sent { s with free := v }) = s.sent := rfl
@[simp] theorem set_free_free (v : Nat) : (State.free { s with free := v }) = v := rfl
@[simp] theorem set_free_cycle (v : Nat) : (State.cycle { s with free := v }) = s.cycle := rfl
@[simp] theorem set_free_mono (v : Nat) : (State.mono { s with free := v }) = s.mono := rfl
@[simp] theorem set_free_fab (v : Nat) : (State.fab { s with free := v }) = s.fab := rfl
@[simp] theorem set_free_regs (v : Nat) : (State.regs { s with free := v }) = s.regs := rfl
@[simp] theorem set_free_timers (v : Nat) : (State.timers { s with free := v }) = s.timers := rfl
@[simp] theorem set_free_otp (v : Nat) : (State.otp { s with free := v }) = s.otp := rfl
@[simp] theorem set_free_msix (v : Nat) : (State.msix { s with free := v }) = s.msix := rfl
@[simp] theorem set_free_pageUnit (v : Nat) : (State.pageUnit { s with free := v }) = s.pageUnit := rfl
@[simp] theorem set_free_pcie (v : Nat) : (State.pcie { s with free := v }) = s.pcie := rfl
@[simp] theorem set_free_pd (v : Nat) : (State.pd { s with free := v }) = s.pd := rfl
@[simp] theorem set_free_ref (v : Nat) : (State.ref { s with free := v }) = s.ref := rfl
@[simp] theorem set_free_phy (v : Nat) : (State.phy { s with free := v }) = s.phy := rfl
@[simp] theorem set_free_lanes (v : Nat) : (State.lanes { s with free := v }) = s.lanes := rfl
@[simp] theorem set_free_win (v : Nat) : (State.win { s with free := v }) = s.win := rfl
@[simp] theorem set_free_rx (v : Nat) : (State.rx { s with free := v }) = s.rx := rfl
@[simp] theorem set_free_tx (v : Nat) : (State.tx { s with free := v }) = s.tx := rfl
@[simp] theorem set_free_byp (v : Nat) : (State.byp { s with free := v }) = s.byp := rfl
@[simp] theorem set_free_voqs (v : Nat) : (State.voqs { s with free := v }) = s.voqs := rfl
@[simp] theorem set_free_outs (v : Nat) : (State.outs { s with free := v }) = s.outs := rfl
@[simp] theorem set_free_buf (v : Nat) : (State.buf { s with free := v }) = s.buf := rfl
@[simp] theorem set_free_bufMem (v : Nat) : (State.bufMem { s with free := v }) = s.bufMem := rfl
@[simp] theorem set_free_lfsr (v : Nat) : (State.lfsr { s with free := v }) = s.lfsr := rfl
@[simp] theorem set_free_flt (v : Nat) : (State.flt { s with free := v }) = s.flt := rfl
@[simp] theorem set_free_twin (v : Nat) : (State.twin { s with free := v }) = s.twin := rfl
@[simp] theorem set_free_gcm (v : Nat) : (State.gcm { s with free := v }) = s.gcm := rfl
@[simp] theorem set_free_inbox (v : Nat) : (State.inbox { s with free := v }) = s.inbox := rfl
@[simp] theorem set_free_ctxs (v : Nat) : (State.ctxs { s with free := v }) = s.ctxs := rfl
@[simp] theorem set_free_engs (v : Nat) : (State.engs { s with free := v }) = s.engs := rfl
@[simp] theorem set_free_base (v : Nat) : (State.base { s with free := v }) = s.base := rfl
@[simp] theorem set_free_prog (v : Nat) : (State.prog { s with free := v }) = s.prog := rfl
@[simp] theorem set_free_pins (v : Nat) : (State.pins { s with free := v }) = s.pins := rfl
@[simp] theorem set_free_cup (v : Nat) : (State.cup { s with free := v }) = s.cup := rfl
@[simp] theorem set_free_bud (v : Nat) : (State.bud { s with free := v }) = s.bud := rfl
@[simp] theorem set_free_modeU (v : Nat) : (State.modeU { s with free := v }) = s.modeU := rfl
@[simp] theorem set_free_time (v : Nat) : (State.time { s with free := v }) = s.time := rfl
@[simp] theorem set_free_tout (v : Nat) : (State.tout { s with free := v }) = s.tout := rfl
@[simp] theorem set_free_bridge (v : Nat) : (State.bridge { s with free := v }) = s.bridge := rfl
@[simp] theorem set_free_can (v : Nat) : (State.can { s with free := v }) = s.can := rfl
@[simp] theorem set_free_usb (v : Nat) : (State.usb { s with free := v }) = s.usb := rfl
@[simp] theorem set_free_brk (v : Nat) : (State.brk { s with free := v }) = s.brk := rfl
@[simp] theorem set_free_cupSnap (v : Nat) : (State.cupSnap { s with free := v }) = s.cupSnap := rfl
@[simp] theorem set_free_flash (v : Nat) : (State.flash { s with free := v }) = s.flash := rfl
@[simp] theorem set_free_upd (v : Nat) : (State.upd { s with free := v }) = s.upd := rfl
@[simp] theorem set_cycle_pending (v : Nat) : (State.pending { s with cycle := v }) = s.pending := rfl
@[simp] theorem set_cycle_sent (v : Nat) : (State.sent { s with cycle := v }) = s.sent := rfl
@[simp] theorem set_cycle_free (v : Nat) : (State.free { s with cycle := v }) = s.free := rfl
@[simp] theorem set_cycle_cycle (v : Nat) : (State.cycle { s with cycle := v }) = v := rfl
@[simp] theorem set_cycle_mono (v : Nat) : (State.mono { s with cycle := v }) = s.mono := rfl
@[simp] theorem set_cycle_fab (v : Nat) : (State.fab { s with cycle := v }) = s.fab := rfl
@[simp] theorem set_cycle_regs (v : Nat) : (State.regs { s with cycle := v }) = s.regs := rfl
@[simp] theorem set_cycle_timers (v : Nat) : (State.timers { s with cycle := v }) = s.timers := rfl
@[simp] theorem set_cycle_otp (v : Nat) : (State.otp { s with cycle := v }) = s.otp := rfl
@[simp] theorem set_cycle_msix (v : Nat) : (State.msix { s with cycle := v }) = s.msix := rfl
@[simp] theorem set_cycle_pageUnit (v : Nat) : (State.pageUnit { s with cycle := v }) = s.pageUnit := rfl
@[simp] theorem set_cycle_pcie (v : Nat) : (State.pcie { s with cycle := v }) = s.pcie := rfl
@[simp] theorem set_cycle_pd (v : Nat) : (State.pd { s with cycle := v }) = s.pd := rfl
@[simp] theorem set_cycle_ref (v : Nat) : (State.ref { s with cycle := v }) = s.ref := rfl
@[simp] theorem set_cycle_phy (v : Nat) : (State.phy { s with cycle := v }) = s.phy := rfl
@[simp] theorem set_cycle_lanes (v : Nat) : (State.lanes { s with cycle := v }) = s.lanes := rfl
@[simp] theorem set_cycle_win (v : Nat) : (State.win { s with cycle := v }) = s.win := rfl
@[simp] theorem set_cycle_rx (v : Nat) : (State.rx { s with cycle := v }) = s.rx := rfl
@[simp] theorem set_cycle_tx (v : Nat) : (State.tx { s with cycle := v }) = s.tx := rfl
@[simp] theorem set_cycle_byp (v : Nat) : (State.byp { s with cycle := v }) = s.byp := rfl
@[simp] theorem set_cycle_voqs (v : Nat) : (State.voqs { s with cycle := v }) = s.voqs := rfl
@[simp] theorem set_cycle_outs (v : Nat) : (State.outs { s with cycle := v }) = s.outs := rfl
@[simp] theorem set_cycle_buf (v : Nat) : (State.buf { s with cycle := v }) = s.buf := rfl
@[simp] theorem set_cycle_bufMem (v : Nat) : (State.bufMem { s with cycle := v }) = s.bufMem := rfl
@[simp] theorem set_cycle_lfsr (v : Nat) : (State.lfsr { s with cycle := v }) = s.lfsr := rfl
@[simp] theorem set_cycle_flt (v : Nat) : (State.flt { s with cycle := v }) = s.flt := rfl
@[simp] theorem set_cycle_twin (v : Nat) : (State.twin { s with cycle := v }) = s.twin := rfl
@[simp] theorem set_cycle_gcm (v : Nat) : (State.gcm { s with cycle := v }) = s.gcm := rfl
@[simp] theorem set_cycle_inbox (v : Nat) : (State.inbox { s with cycle := v }) = s.inbox := rfl
@[simp] theorem set_cycle_ctxs (v : Nat) : (State.ctxs { s with cycle := v }) = s.ctxs := rfl
@[simp] theorem set_cycle_engs (v : Nat) : (State.engs { s with cycle := v }) = s.engs := rfl
@[simp] theorem set_cycle_base (v : Nat) : (State.base { s with cycle := v }) = s.base := rfl
@[simp] theorem set_cycle_prog (v : Nat) : (State.prog { s with cycle := v }) = s.prog := rfl
@[simp] theorem set_cycle_pins (v : Nat) : (State.pins { s with cycle := v }) = s.pins := rfl
@[simp] theorem set_cycle_cup (v : Nat) : (State.cup { s with cycle := v }) = s.cup := rfl
@[simp] theorem set_cycle_bud (v : Nat) : (State.bud { s with cycle := v }) = s.bud := rfl
@[simp] theorem set_cycle_modeU (v : Nat) : (State.modeU { s with cycle := v }) = s.modeU := rfl
@[simp] theorem set_cycle_time (v : Nat) : (State.time { s with cycle := v }) = s.time := rfl
@[simp] theorem set_cycle_tout (v : Nat) : (State.tout { s with cycle := v }) = s.tout := rfl
@[simp] theorem set_cycle_bridge (v : Nat) : (State.bridge { s with cycle := v }) = s.bridge := rfl
@[simp] theorem set_cycle_can (v : Nat) : (State.can { s with cycle := v }) = s.can := rfl
@[simp] theorem set_cycle_usb (v : Nat) : (State.usb { s with cycle := v }) = s.usb := rfl
@[simp] theorem set_cycle_brk (v : Nat) : (State.brk { s with cycle := v }) = s.brk := rfl
@[simp] theorem set_cycle_cupSnap (v : Nat) : (State.cupSnap { s with cycle := v }) = s.cupSnap := rfl
@[simp] theorem set_cycle_flash (v : Nat) : (State.flash { s with cycle := v }) = s.flash := rfl
@[simp] theorem set_cycle_upd (v : Nat) : (State.upd { s with cycle := v }) = s.upd := rfl
@[simp] theorem set_mono_pending (v : Nat) : (State.pending { s with mono := v }) = s.pending := rfl
@[simp] theorem set_mono_sent (v : Nat) : (State.sent { s with mono := v }) = s.sent := rfl
@[simp] theorem set_mono_free (v : Nat) : (State.free { s with mono := v }) = s.free := rfl
@[simp] theorem set_mono_cycle (v : Nat) : (State.cycle { s with mono := v }) = s.cycle := rfl
@[simp] theorem set_mono_mono (v : Nat) : (State.mono { s with mono := v }) = v := rfl
@[simp] theorem set_mono_fab (v : Nat) : (State.fab { s with mono := v }) = s.fab := rfl
@[simp] theorem set_mono_regs (v : Nat) : (State.regs { s with mono := v }) = s.regs := rfl
@[simp] theorem set_mono_timers (v : Nat) : (State.timers { s with mono := v }) = s.timers := rfl
@[simp] theorem set_mono_otp (v : Nat) : (State.otp { s with mono := v }) = s.otp := rfl
@[simp] theorem set_mono_msix (v : Nat) : (State.msix { s with mono := v }) = s.msix := rfl
@[simp] theorem set_mono_pageUnit (v : Nat) : (State.pageUnit { s with mono := v }) = s.pageUnit := rfl
@[simp] theorem set_mono_pcie (v : Nat) : (State.pcie { s with mono := v }) = s.pcie := rfl
@[simp] theorem set_mono_pd (v : Nat) : (State.pd { s with mono := v }) = s.pd := rfl
@[simp] theorem set_mono_ref (v : Nat) : (State.ref { s with mono := v }) = s.ref := rfl
@[simp] theorem set_mono_phy (v : Nat) : (State.phy { s with mono := v }) = s.phy := rfl
@[simp] theorem set_mono_lanes (v : Nat) : (State.lanes { s with mono := v }) = s.lanes := rfl
@[simp] theorem set_mono_win (v : Nat) : (State.win { s with mono := v }) = s.win := rfl
@[simp] theorem set_mono_rx (v : Nat) : (State.rx { s with mono := v }) = s.rx := rfl
@[simp] theorem set_mono_tx (v : Nat) : (State.tx { s with mono := v }) = s.tx := rfl
@[simp] theorem set_mono_byp (v : Nat) : (State.byp { s with mono := v }) = s.byp := rfl
@[simp] theorem set_mono_voqs (v : Nat) : (State.voqs { s with mono := v }) = s.voqs := rfl
@[simp] theorem set_mono_outs (v : Nat) : (State.outs { s with mono := v }) = s.outs := rfl
@[simp] theorem set_mono_buf (v : Nat) : (State.buf { s with mono := v }) = s.buf := rfl
@[simp] theorem set_mono_bufMem (v : Nat) : (State.bufMem { s with mono := v }) = s.bufMem := rfl
@[simp] theorem set_mono_lfsr (v : Nat) : (State.lfsr { s with mono := v }) = s.lfsr := rfl
@[simp] theorem set_mono_flt (v : Nat) : (State.flt { s with mono := v }) = s.flt := rfl
@[simp] theorem set_mono_twin (v : Nat) : (State.twin { s with mono := v }) = s.twin := rfl
@[simp] theorem set_mono_gcm (v : Nat) : (State.gcm { s with mono := v }) = s.gcm := rfl
@[simp] theorem set_mono_inbox (v : Nat) : (State.inbox { s with mono := v }) = s.inbox := rfl
@[simp] theorem set_mono_ctxs (v : Nat) : (State.ctxs { s with mono := v }) = s.ctxs := rfl
@[simp] theorem set_mono_engs (v : Nat) : (State.engs { s with mono := v }) = s.engs := rfl
@[simp] theorem set_mono_base (v : Nat) : (State.base { s with mono := v }) = s.base := rfl
@[simp] theorem set_mono_prog (v : Nat) : (State.prog { s with mono := v }) = s.prog := rfl
@[simp] theorem set_mono_pins (v : Nat) : (State.pins { s with mono := v }) = s.pins := rfl
@[simp] theorem set_mono_cup (v : Nat) : (State.cup { s with mono := v }) = s.cup := rfl
@[simp] theorem set_mono_bud (v : Nat) : (State.bud { s with mono := v }) = s.bud := rfl
@[simp] theorem set_mono_modeU (v : Nat) : (State.modeU { s with mono := v }) = s.modeU := rfl
@[simp] theorem set_mono_time (v : Nat) : (State.time { s with mono := v }) = s.time := rfl
@[simp] theorem set_mono_tout (v : Nat) : (State.tout { s with mono := v }) = s.tout := rfl
@[simp] theorem set_mono_bridge (v : Nat) : (State.bridge { s with mono := v }) = s.bridge := rfl
@[simp] theorem set_mono_can (v : Nat) : (State.can { s with mono := v }) = s.can := rfl
@[simp] theorem set_mono_usb (v : Nat) : (State.usb { s with mono := v }) = s.usb := rfl
@[simp] theorem set_mono_brk (v : Nat) : (State.brk { s with mono := v }) = s.brk := rfl
@[simp] theorem set_mono_cupSnap (v : Nat) : (State.cupSnap { s with mono := v }) = s.cupSnap := rfl
@[simp] theorem set_mono_flash (v : Nat) : (State.flash { s with mono := v }) = s.flash := rfl
@[simp] theorem set_mono_upd (v : Nat) : (State.upd { s with mono := v }) = s.upd := rfl
@[simp] theorem set_fab_pending (v : Nat) : (State.pending { s with fab := v }) = s.pending := rfl
@[simp] theorem set_fab_sent (v : Nat) : (State.sent { s with fab := v }) = s.sent := rfl
@[simp] theorem set_fab_free (v : Nat) : (State.free { s with fab := v }) = s.free := rfl
@[simp] theorem set_fab_cycle (v : Nat) : (State.cycle { s with fab := v }) = s.cycle := rfl
@[simp] theorem set_fab_mono (v : Nat) : (State.mono { s with fab := v }) = s.mono := rfl
@[simp] theorem set_fab_fab (v : Nat) : (State.fab { s with fab := v }) = v := rfl
@[simp] theorem set_fab_regs (v : Nat) : (State.regs { s with fab := v }) = s.regs := rfl
@[simp] theorem set_fab_timers (v : Nat) : (State.timers { s with fab := v }) = s.timers := rfl
@[simp] theorem set_fab_otp (v : Nat) : (State.otp { s with fab := v }) = s.otp := rfl
@[simp] theorem set_fab_msix (v : Nat) : (State.msix { s with fab := v }) = s.msix := rfl
@[simp] theorem set_fab_pageUnit (v : Nat) : (State.pageUnit { s with fab := v }) = s.pageUnit := rfl
@[simp] theorem set_fab_pcie (v : Nat) : (State.pcie { s with fab := v }) = s.pcie := rfl
@[simp] theorem set_fab_pd (v : Nat) : (State.pd { s with fab := v }) = s.pd := rfl
@[simp] theorem set_fab_ref (v : Nat) : (State.ref { s with fab := v }) = s.ref := rfl
@[simp] theorem set_fab_phy (v : Nat) : (State.phy { s with fab := v }) = s.phy := rfl
@[simp] theorem set_fab_lanes (v : Nat) : (State.lanes { s with fab := v }) = s.lanes := rfl
@[simp] theorem set_fab_win (v : Nat) : (State.win { s with fab := v }) = s.win := rfl
@[simp] theorem set_fab_rx (v : Nat) : (State.rx { s with fab := v }) = s.rx := rfl
@[simp] theorem set_fab_tx (v : Nat) : (State.tx { s with fab := v }) = s.tx := rfl
@[simp] theorem set_fab_byp (v : Nat) : (State.byp { s with fab := v }) = s.byp := rfl
@[simp] theorem set_fab_voqs (v : Nat) : (State.voqs { s with fab := v }) = s.voqs := rfl
@[simp] theorem set_fab_outs (v : Nat) : (State.outs { s with fab := v }) = s.outs := rfl
@[simp] theorem set_fab_buf (v : Nat) : (State.buf { s with fab := v }) = s.buf := rfl
@[simp] theorem set_fab_bufMem (v : Nat) : (State.bufMem { s with fab := v }) = s.bufMem := rfl
@[simp] theorem set_fab_lfsr (v : Nat) : (State.lfsr { s with fab := v }) = s.lfsr := rfl
@[simp] theorem set_fab_flt (v : Nat) : (State.flt { s with fab := v }) = s.flt := rfl
@[simp] theorem set_fab_twin (v : Nat) : (State.twin { s with fab := v }) = s.twin := rfl
@[simp] theorem set_fab_gcm (v : Nat) : (State.gcm { s with fab := v }) = s.gcm := rfl
@[simp] theorem set_fab_inbox (v : Nat) : (State.inbox { s with fab := v }) = s.inbox := rfl
@[simp] theorem set_fab_ctxs (v : Nat) : (State.ctxs { s with fab := v }) = s.ctxs := rfl
@[simp] theorem set_fab_engs (v : Nat) : (State.engs { s with fab := v }) = s.engs := rfl
@[simp] theorem set_fab_base (v : Nat) : (State.base { s with fab := v }) = s.base := rfl
@[simp] theorem set_fab_prog (v : Nat) : (State.prog { s with fab := v }) = s.prog := rfl
@[simp] theorem set_fab_pins (v : Nat) : (State.pins { s with fab := v }) = s.pins := rfl
@[simp] theorem set_fab_cup (v : Nat) : (State.cup { s with fab := v }) = s.cup := rfl
@[simp] theorem set_fab_bud (v : Nat) : (State.bud { s with fab := v }) = s.bud := rfl
@[simp] theorem set_fab_modeU (v : Nat) : (State.modeU { s with fab := v }) = s.modeU := rfl
@[simp] theorem set_fab_time (v : Nat) : (State.time { s with fab := v }) = s.time := rfl
@[simp] theorem set_fab_tout (v : Nat) : (State.tout { s with fab := v }) = s.tout := rfl
@[simp] theorem set_fab_bridge (v : Nat) : (State.bridge { s with fab := v }) = s.bridge := rfl
@[simp] theorem set_fab_can (v : Nat) : (State.can { s with fab := v }) = s.can := rfl
@[simp] theorem set_fab_usb (v : Nat) : (State.usb { s with fab := v }) = s.usb := rfl
@[simp] theorem set_fab_brk (v : Nat) : (State.brk { s with fab := v }) = s.brk := rfl
@[simp] theorem set_fab_cupSnap (v : Nat) : (State.cupSnap { s with fab := v }) = s.cupSnap := rfl
@[simp] theorem set_fab_flash (v : Nat) : (State.flash { s with fab := v }) = s.flash := rfl
@[simp] theorem set_fab_upd (v : Nat) : (State.upd { s with fab := v }) = s.upd := rfl
@[simp] theorem set_regs_pending (v : Tbl Nat) : (State.pending { s with regs := v }) = s.pending := rfl
@[simp] theorem set_regs_sent (v : Tbl Nat) : (State.sent { s with regs := v }) = s.sent := rfl
@[simp] theorem set_regs_free (v : Tbl Nat) : (State.free { s with regs := v }) = s.free := rfl
@[simp] theorem set_regs_cycle (v : Tbl Nat) : (State.cycle { s with regs := v }) = s.cycle := rfl
@[simp] theorem set_regs_mono (v : Tbl Nat) : (State.mono { s with regs := v }) = s.mono := rfl
@[simp] theorem set_regs_fab (v : Tbl Nat) : (State.fab { s with regs := v }) = s.fab := rfl
@[simp] theorem set_regs_regs (v : Tbl Nat) : (State.regs { s with regs := v }) = v := rfl
@[simp] theorem set_regs_timers (v : Tbl Nat) : (State.timers { s with regs := v }) = s.timers := rfl
@[simp] theorem set_regs_otp (v : Tbl Nat) : (State.otp { s with regs := v }) = s.otp := rfl
@[simp] theorem set_regs_msix (v : Tbl Nat) : (State.msix { s with regs := v }) = s.msix := rfl
@[simp] theorem set_regs_pageUnit (v : Tbl Nat) : (State.pageUnit { s with regs := v }) = s.pageUnit := rfl
@[simp] theorem set_regs_pcie (v : Tbl Nat) : (State.pcie { s with regs := v }) = s.pcie := rfl
@[simp] theorem set_regs_pd (v : Tbl Nat) : (State.pd { s with regs := v }) = s.pd := rfl
@[simp] theorem set_regs_ref (v : Tbl Nat) : (State.ref { s with regs := v }) = s.ref := rfl
@[simp] theorem set_regs_phy (v : Tbl Nat) : (State.phy { s with regs := v }) = s.phy := rfl
@[simp] theorem set_regs_lanes (v : Tbl Nat) : (State.lanes { s with regs := v }) = s.lanes := rfl
@[simp] theorem set_regs_win (v : Tbl Nat) : (State.win { s with regs := v }) = s.win := rfl
@[simp] theorem set_regs_rx (v : Tbl Nat) : (State.rx { s with regs := v }) = s.rx := rfl
@[simp] theorem set_regs_tx (v : Tbl Nat) : (State.tx { s with regs := v }) = s.tx := rfl
@[simp] theorem set_regs_byp (v : Tbl Nat) : (State.byp { s with regs := v }) = s.byp := rfl
@[simp] theorem set_regs_voqs (v : Tbl Nat) : (State.voqs { s with regs := v }) = s.voqs := rfl
@[simp] theorem set_regs_outs (v : Tbl Nat) : (State.outs { s with regs := v }) = s.outs := rfl
@[simp] theorem set_regs_buf (v : Tbl Nat) : (State.buf { s with regs := v }) = s.buf := rfl
@[simp] theorem set_regs_bufMem (v : Tbl Nat) : (State.bufMem { s with regs := v }) = s.bufMem := rfl
@[simp] theorem set_regs_lfsr (v : Tbl Nat) : (State.lfsr { s with regs := v }) = s.lfsr := rfl
@[simp] theorem set_regs_flt (v : Tbl Nat) : (State.flt { s with regs := v }) = s.flt := rfl
@[simp] theorem set_regs_twin (v : Tbl Nat) : (State.twin { s with regs := v }) = s.twin := rfl
@[simp] theorem set_regs_gcm (v : Tbl Nat) : (State.gcm { s with regs := v }) = s.gcm := rfl
@[simp] theorem set_regs_inbox (v : Tbl Nat) : (State.inbox { s with regs := v }) = s.inbox := rfl
@[simp] theorem set_regs_ctxs (v : Tbl Nat) : (State.ctxs { s with regs := v }) = s.ctxs := rfl
@[simp] theorem set_regs_engs (v : Tbl Nat) : (State.engs { s with regs := v }) = s.engs := rfl
@[simp] theorem set_regs_base (v : Tbl Nat) : (State.base { s with regs := v }) = s.base := rfl
@[simp] theorem set_regs_prog (v : Tbl Nat) : (State.prog { s with regs := v }) = s.prog := rfl
@[simp] theorem set_regs_pins (v : Tbl Nat) : (State.pins { s with regs := v }) = s.pins := rfl
@[simp] theorem set_regs_cup (v : Tbl Nat) : (State.cup { s with regs := v }) = s.cup := rfl
@[simp] theorem set_regs_bud (v : Tbl Nat) : (State.bud { s with regs := v }) = s.bud := rfl
@[simp] theorem set_regs_modeU (v : Tbl Nat) : (State.modeU { s with regs := v }) = s.modeU := rfl
@[simp] theorem set_regs_time (v : Tbl Nat) : (State.time { s with regs := v }) = s.time := rfl
@[simp] theorem set_regs_tout (v : Tbl Nat) : (State.tout { s with regs := v }) = s.tout := rfl
@[simp] theorem set_regs_bridge (v : Tbl Nat) : (State.bridge { s with regs := v }) = s.bridge := rfl
@[simp] theorem set_regs_can (v : Tbl Nat) : (State.can { s with regs := v }) = s.can := rfl
@[simp] theorem set_regs_usb (v : Tbl Nat) : (State.usb { s with regs := v }) = s.usb := rfl
@[simp] theorem set_regs_brk (v : Tbl Nat) : (State.brk { s with regs := v }) = s.brk := rfl
@[simp] theorem set_regs_cupSnap (v : Tbl Nat) : (State.cupSnap { s with regs := v }) = s.cupSnap := rfl
@[simp] theorem set_regs_flash (v : Tbl Nat) : (State.flash { s with regs := v }) = s.flash := rfl
@[simp] theorem set_regs_upd (v : Tbl Nat) : (State.upd { s with regs := v }) = s.upd := rfl
@[simp] theorem set_timers_pending (v : Tbl Nat) : (State.pending { s with timers := v }) = s.pending := rfl
@[simp] theorem set_timers_sent (v : Tbl Nat) : (State.sent { s with timers := v }) = s.sent := rfl
@[simp] theorem set_timers_free (v : Tbl Nat) : (State.free { s with timers := v }) = s.free := rfl
@[simp] theorem set_timers_cycle (v : Tbl Nat) : (State.cycle { s with timers := v }) = s.cycle := rfl
@[simp] theorem set_timers_mono (v : Tbl Nat) : (State.mono { s with timers := v }) = s.mono := rfl
@[simp] theorem set_timers_fab (v : Tbl Nat) : (State.fab { s with timers := v }) = s.fab := rfl
@[simp] theorem set_timers_regs (v : Tbl Nat) : (State.regs { s with timers := v }) = s.regs := rfl
@[simp] theorem set_timers_timers (v : Tbl Nat) : (State.timers { s with timers := v }) = v := rfl
@[simp] theorem set_timers_otp (v : Tbl Nat) : (State.otp { s with timers := v }) = s.otp := rfl
@[simp] theorem set_timers_msix (v : Tbl Nat) : (State.msix { s with timers := v }) = s.msix := rfl
@[simp] theorem set_timers_pageUnit (v : Tbl Nat) : (State.pageUnit { s with timers := v }) = s.pageUnit := rfl
@[simp] theorem set_timers_pcie (v : Tbl Nat) : (State.pcie { s with timers := v }) = s.pcie := rfl
@[simp] theorem set_timers_pd (v : Tbl Nat) : (State.pd { s with timers := v }) = s.pd := rfl
@[simp] theorem set_timers_ref (v : Tbl Nat) : (State.ref { s with timers := v }) = s.ref := rfl
@[simp] theorem set_timers_phy (v : Tbl Nat) : (State.phy { s with timers := v }) = s.phy := rfl
@[simp] theorem set_timers_lanes (v : Tbl Nat) : (State.lanes { s with timers := v }) = s.lanes := rfl
@[simp] theorem set_timers_win (v : Tbl Nat) : (State.win { s with timers := v }) = s.win := rfl
@[simp] theorem set_timers_rx (v : Tbl Nat) : (State.rx { s with timers := v }) = s.rx := rfl
@[simp] theorem set_timers_tx (v : Tbl Nat) : (State.tx { s with timers := v }) = s.tx := rfl
@[simp] theorem set_timers_byp (v : Tbl Nat) : (State.byp { s with timers := v }) = s.byp := rfl
@[simp] theorem set_timers_voqs (v : Tbl Nat) : (State.voqs { s with timers := v }) = s.voqs := rfl
@[simp] theorem set_timers_outs (v : Tbl Nat) : (State.outs { s with timers := v }) = s.outs := rfl
@[simp] theorem set_timers_buf (v : Tbl Nat) : (State.buf { s with timers := v }) = s.buf := rfl
@[simp] theorem set_timers_bufMem (v : Tbl Nat) : (State.bufMem { s with timers := v }) = s.bufMem := rfl
@[simp] theorem set_timers_lfsr (v : Tbl Nat) : (State.lfsr { s with timers := v }) = s.lfsr := rfl
@[simp] theorem set_timers_flt (v : Tbl Nat) : (State.flt { s with timers := v }) = s.flt := rfl
@[simp] theorem set_timers_twin (v : Tbl Nat) : (State.twin { s with timers := v }) = s.twin := rfl
@[simp] theorem set_timers_gcm (v : Tbl Nat) : (State.gcm { s with timers := v }) = s.gcm := rfl
@[simp] theorem set_timers_inbox (v : Tbl Nat) : (State.inbox { s with timers := v }) = s.inbox := rfl
@[simp] theorem set_timers_ctxs (v : Tbl Nat) : (State.ctxs { s with timers := v }) = s.ctxs := rfl
@[simp] theorem set_timers_engs (v : Tbl Nat) : (State.engs { s with timers := v }) = s.engs := rfl
@[simp] theorem set_timers_base (v : Tbl Nat) : (State.base { s with timers := v }) = s.base := rfl
@[simp] theorem set_timers_prog (v : Tbl Nat) : (State.prog { s with timers := v }) = s.prog := rfl
@[simp] theorem set_timers_pins (v : Tbl Nat) : (State.pins { s with timers := v }) = s.pins := rfl
@[simp] theorem set_timers_cup (v : Tbl Nat) : (State.cup { s with timers := v }) = s.cup := rfl
@[simp] theorem set_timers_bud (v : Tbl Nat) : (State.bud { s with timers := v }) = s.bud := rfl
@[simp] theorem set_timers_modeU (v : Tbl Nat) : (State.modeU { s with timers := v }) = s.modeU := rfl
@[simp] theorem set_timers_time (v : Tbl Nat) : (State.time { s with timers := v }) = s.time := rfl
@[simp] theorem set_timers_tout (v : Tbl Nat) : (State.tout { s with timers := v }) = s.tout := rfl
@[simp] theorem set_timers_bridge (v : Tbl Nat) : (State.bridge { s with timers := v }) = s.bridge := rfl
@[simp] theorem set_timers_can (v : Tbl Nat) : (State.can { s with timers := v }) = s.can := rfl
@[simp] theorem set_timers_usb (v : Tbl Nat) : (State.usb { s with timers := v }) = s.usb := rfl
@[simp] theorem set_timers_brk (v : Tbl Nat) : (State.brk { s with timers := v }) = s.brk := rfl
@[simp] theorem set_timers_cupSnap (v : Tbl Nat) : (State.cupSnap { s with timers := v }) = s.cupSnap := rfl
@[simp] theorem set_timers_flash (v : Tbl Nat) : (State.flash { s with timers := v }) = s.flash := rfl
@[simp] theorem set_timers_upd (v : Tbl Nat) : (State.upd { s with timers := v }) = s.upd := rfl
@[simp] theorem set_otp_pending (v : Otp) : (State.pending { s with otp := v }) = s.pending := rfl
@[simp] theorem set_otp_sent (v : Otp) : (State.sent { s with otp := v }) = s.sent := rfl
@[simp] theorem set_otp_free (v : Otp) : (State.free { s with otp := v }) = s.free := rfl
@[simp] theorem set_otp_cycle (v : Otp) : (State.cycle { s with otp := v }) = s.cycle := rfl
@[simp] theorem set_otp_mono (v : Otp) : (State.mono { s with otp := v }) = s.mono := rfl
@[simp] theorem set_otp_fab (v : Otp) : (State.fab { s with otp := v }) = s.fab := rfl
@[simp] theorem set_otp_regs (v : Otp) : (State.regs { s with otp := v }) = s.regs := rfl
@[simp] theorem set_otp_timers (v : Otp) : (State.timers { s with otp := v }) = s.timers := rfl
@[simp] theorem set_otp_otp (v : Otp) : (State.otp { s with otp := v }) = v := rfl
@[simp] theorem set_otp_msix (v : Otp) : (State.msix { s with otp := v }) = s.msix := rfl
@[simp] theorem set_otp_pageUnit (v : Otp) : (State.pageUnit { s with otp := v }) = s.pageUnit := rfl
@[simp] theorem set_otp_pcie (v : Otp) : (State.pcie { s with otp := v }) = s.pcie := rfl
@[simp] theorem set_otp_pd (v : Otp) : (State.pd { s with otp := v }) = s.pd := rfl
@[simp] theorem set_otp_ref (v : Otp) : (State.ref { s with otp := v }) = s.ref := rfl
@[simp] theorem set_otp_phy (v : Otp) : (State.phy { s with otp := v }) = s.phy := rfl
@[simp] theorem set_otp_lanes (v : Otp) : (State.lanes { s with otp := v }) = s.lanes := rfl
@[simp] theorem set_otp_win (v : Otp) : (State.win { s with otp := v }) = s.win := rfl
@[simp] theorem set_otp_rx (v : Otp) : (State.rx { s with otp := v }) = s.rx := rfl
@[simp] theorem set_otp_tx (v : Otp) : (State.tx { s with otp := v }) = s.tx := rfl
@[simp] theorem set_otp_byp (v : Otp) : (State.byp { s with otp := v }) = s.byp := rfl
@[simp] theorem set_otp_voqs (v : Otp) : (State.voqs { s with otp := v }) = s.voqs := rfl
@[simp] theorem set_otp_outs (v : Otp) : (State.outs { s with otp := v }) = s.outs := rfl
@[simp] theorem set_otp_buf (v : Otp) : (State.buf { s with otp := v }) = s.buf := rfl
@[simp] theorem set_otp_bufMem (v : Otp) : (State.bufMem { s with otp := v }) = s.bufMem := rfl
@[simp] theorem set_otp_lfsr (v : Otp) : (State.lfsr { s with otp := v }) = s.lfsr := rfl
@[simp] theorem set_otp_flt (v : Otp) : (State.flt { s with otp := v }) = s.flt := rfl
@[simp] theorem set_otp_twin (v : Otp) : (State.twin { s with otp := v }) = s.twin := rfl
@[simp] theorem set_otp_gcm (v : Otp) : (State.gcm { s with otp := v }) = s.gcm := rfl
@[simp] theorem set_otp_inbox (v : Otp) : (State.inbox { s with otp := v }) = s.inbox := rfl
@[simp] theorem set_otp_ctxs (v : Otp) : (State.ctxs { s with otp := v }) = s.ctxs := rfl
@[simp] theorem set_otp_engs (v : Otp) : (State.engs { s with otp := v }) = s.engs := rfl
@[simp] theorem set_otp_base (v : Otp) : (State.base { s with otp := v }) = s.base := rfl
@[simp] theorem set_otp_prog (v : Otp) : (State.prog { s with otp := v }) = s.prog := rfl
@[simp] theorem set_otp_pins (v : Otp) : (State.pins { s with otp := v }) = s.pins := rfl
@[simp] theorem set_otp_cup (v : Otp) : (State.cup { s with otp := v }) = s.cup := rfl
@[simp] theorem set_otp_bud (v : Otp) : (State.bud { s with otp := v }) = s.bud := rfl
@[simp] theorem set_otp_modeU (v : Otp) : (State.modeU { s with otp := v }) = s.modeU := rfl
@[simp] theorem set_otp_time (v : Otp) : (State.time { s with otp := v }) = s.time := rfl
@[simp] theorem set_otp_tout (v : Otp) : (State.tout { s with otp := v }) = s.tout := rfl
@[simp] theorem set_otp_bridge (v : Otp) : (State.bridge { s with otp := v }) = s.bridge := rfl
@[simp] theorem set_otp_can (v : Otp) : (State.can { s with otp := v }) = s.can := rfl
@[simp] theorem set_otp_usb (v : Otp) : (State.usb { s with otp := v }) = s.usb := rfl
@[simp] theorem set_otp_brk (v : Otp) : (State.brk { s with otp := v }) = s.brk := rfl
@[simp] theorem set_otp_cupSnap (v : Otp) : (State.cupSnap { s with otp := v }) = s.cupSnap := rfl
@[simp] theorem set_otp_flash (v : Otp) : (State.flash { s with otp := v }) = s.flash := rfl
@[simp] theorem set_otp_upd (v : Otp) : (State.upd { s with otp := v }) = s.upd := rfl
@[simp] theorem set_msix_pending (v : Msix) : (State.pending { s with msix := v }) = s.pending := rfl
@[simp] theorem set_msix_sent (v : Msix) : (State.sent { s with msix := v }) = s.sent := rfl
@[simp] theorem set_msix_free (v : Msix) : (State.free { s with msix := v }) = s.free := rfl
@[simp] theorem set_msix_cycle (v : Msix) : (State.cycle { s with msix := v }) = s.cycle := rfl
@[simp] theorem set_msix_mono (v : Msix) : (State.mono { s with msix := v }) = s.mono := rfl
@[simp] theorem set_msix_fab (v : Msix) : (State.fab { s with msix := v }) = s.fab := rfl
@[simp] theorem set_msix_regs (v : Msix) : (State.regs { s with msix := v }) = s.regs := rfl
@[simp] theorem set_msix_timers (v : Msix) : (State.timers { s with msix := v }) = s.timers := rfl
@[simp] theorem set_msix_otp (v : Msix) : (State.otp { s with msix := v }) = s.otp := rfl
@[simp] theorem set_msix_msix (v : Msix) : (State.msix { s with msix := v }) = v := rfl
@[simp] theorem set_msix_pageUnit (v : Msix) : (State.pageUnit { s with msix := v }) = s.pageUnit := rfl
@[simp] theorem set_msix_pcie (v : Msix) : (State.pcie { s with msix := v }) = s.pcie := rfl
@[simp] theorem set_msix_pd (v : Msix) : (State.pd { s with msix := v }) = s.pd := rfl
@[simp] theorem set_msix_ref (v : Msix) : (State.ref { s with msix := v }) = s.ref := rfl
@[simp] theorem set_msix_phy (v : Msix) : (State.phy { s with msix := v }) = s.phy := rfl
@[simp] theorem set_msix_lanes (v : Msix) : (State.lanes { s with msix := v }) = s.lanes := rfl
@[simp] theorem set_msix_win (v : Msix) : (State.win { s with msix := v }) = s.win := rfl
@[simp] theorem set_msix_rx (v : Msix) : (State.rx { s with msix := v }) = s.rx := rfl
@[simp] theorem set_msix_tx (v : Msix) : (State.tx { s with msix := v }) = s.tx := rfl
@[simp] theorem set_msix_byp (v : Msix) : (State.byp { s with msix := v }) = s.byp := rfl
@[simp] theorem set_msix_voqs (v : Msix) : (State.voqs { s with msix := v }) = s.voqs := rfl
@[simp] theorem set_msix_outs (v : Msix) : (State.outs { s with msix := v }) = s.outs := rfl
@[simp] theorem set_msix_buf (v : Msix) : (State.buf { s with msix := v }) = s.buf := rfl
@[simp] theorem set_msix_bufMem (v : Msix) : (State.bufMem { s with msix := v }) = s.bufMem := rfl
@[simp] theorem set_msix_lfsr (v : Msix) : (State.lfsr { s with msix := v }) = s.lfsr := rfl
@[simp] theorem set_msix_flt (v : Msix) : (State.flt { s with msix := v }) = s.flt := rfl
@[simp] theorem set_msix_twin (v : Msix) : (State.twin { s with msix := v }) = s.twin := rfl
@[simp] theorem set_msix_gcm (v : Msix) : (State.gcm { s with msix := v }) = s.gcm := rfl
@[simp] theorem set_msix_inbox (v : Msix) : (State.inbox { s with msix := v }) = s.inbox := rfl
@[simp] theorem set_msix_ctxs (v : Msix) : (State.ctxs { s with msix := v }) = s.ctxs := rfl
@[simp] theorem set_msix_engs (v : Msix) : (State.engs { s with msix := v }) = s.engs := rfl
@[simp] theorem set_msix_base (v : Msix) : (State.base { s with msix := v }) = s.base := rfl
@[simp] theorem set_msix_prog (v : Msix) : (State.prog { s with msix := v }) = s.prog := rfl
@[simp] theorem set_msix_pins (v : Msix) : (State.pins { s with msix := v }) = s.pins := rfl
@[simp] theorem set_msix_cup (v : Msix) : (State.cup { s with msix := v }) = s.cup := rfl
@[simp] theorem set_msix_bud (v : Msix) : (State.bud { s with msix := v }) = s.bud := rfl
@[simp] theorem set_msix_modeU (v : Msix) : (State.modeU { s with msix := v }) = s.modeU := rfl
@[simp] theorem set_msix_time (v : Msix) : (State.time { s with msix := v }) = s.time := rfl
@[simp] theorem set_msix_tout (v : Msix) : (State.tout { s with msix := v }) = s.tout := rfl
@[simp] theorem set_msix_bridge (v : Msix) : (State.bridge { s with msix := v }) = s.bridge := rfl
@[simp] theorem set_msix_can (v : Msix) : (State.can { s with msix := v }) = s.can := rfl
@[simp] theorem set_msix_usb (v : Msix) : (State.usb { s with msix := v }) = s.usb := rfl
@[simp] theorem set_msix_brk (v : Msix) : (State.brk { s with msix := v }) = s.brk := rfl
@[simp] theorem set_msix_cupSnap (v : Msix) : (State.cupSnap { s with msix := v }) = s.cupSnap := rfl
@[simp] theorem set_msix_flash (v : Msix) : (State.flash { s with msix := v }) = s.flash := rfl
@[simp] theorem set_msix_upd (v : Msix) : (State.upd { s with msix := v }) = s.upd := rfl
@[simp] theorem set_pageUnit_pending (v : PageUnit) : (State.pending { s with pageUnit := v }) = s.pending := rfl
@[simp] theorem set_pageUnit_sent (v : PageUnit) : (State.sent { s with pageUnit := v }) = s.sent := rfl
@[simp] theorem set_pageUnit_free (v : PageUnit) : (State.free { s with pageUnit := v }) = s.free := rfl
@[simp] theorem set_pageUnit_cycle (v : PageUnit) : (State.cycle { s with pageUnit := v }) = s.cycle := rfl
@[simp] theorem set_pageUnit_mono (v : PageUnit) : (State.mono { s with pageUnit := v }) = s.mono := rfl
@[simp] theorem set_pageUnit_fab (v : PageUnit) : (State.fab { s with pageUnit := v }) = s.fab := rfl
@[simp] theorem set_pageUnit_regs (v : PageUnit) : (State.regs { s with pageUnit := v }) = s.regs := rfl
@[simp] theorem set_pageUnit_timers (v : PageUnit) : (State.timers { s with pageUnit := v }) = s.timers := rfl
@[simp] theorem set_pageUnit_otp (v : PageUnit) : (State.otp { s with pageUnit := v }) = s.otp := rfl
@[simp] theorem set_pageUnit_msix (v : PageUnit) : (State.msix { s with pageUnit := v }) = s.msix := rfl
@[simp] theorem set_pageUnit_pageUnit (v : PageUnit) : (State.pageUnit { s with pageUnit := v }) = v := rfl
@[simp] theorem set_pageUnit_pcie (v : PageUnit) : (State.pcie { s with pageUnit := v }) = s.pcie := rfl
@[simp] theorem set_pageUnit_pd (v : PageUnit) : (State.pd { s with pageUnit := v }) = s.pd := rfl
@[simp] theorem set_pageUnit_ref (v : PageUnit) : (State.ref { s with pageUnit := v }) = s.ref := rfl
@[simp] theorem set_pageUnit_phy (v : PageUnit) : (State.phy { s with pageUnit := v }) = s.phy := rfl
@[simp] theorem set_pageUnit_lanes (v : PageUnit) : (State.lanes { s with pageUnit := v }) = s.lanes := rfl
@[simp] theorem set_pageUnit_win (v : PageUnit) : (State.win { s with pageUnit := v }) = s.win := rfl
@[simp] theorem set_pageUnit_rx (v : PageUnit) : (State.rx { s with pageUnit := v }) = s.rx := rfl
@[simp] theorem set_pageUnit_tx (v : PageUnit) : (State.tx { s with pageUnit := v }) = s.tx := rfl
@[simp] theorem set_pageUnit_byp (v : PageUnit) : (State.byp { s with pageUnit := v }) = s.byp := rfl
@[simp] theorem set_pageUnit_voqs (v : PageUnit) : (State.voqs { s with pageUnit := v }) = s.voqs := rfl
@[simp] theorem set_pageUnit_outs (v : PageUnit) : (State.outs { s with pageUnit := v }) = s.outs := rfl
@[simp] theorem set_pageUnit_buf (v : PageUnit) : (State.buf { s with pageUnit := v }) = s.buf := rfl
@[simp] theorem set_pageUnit_bufMem (v : PageUnit) : (State.bufMem { s with pageUnit := v }) = s.bufMem := rfl
@[simp] theorem set_pageUnit_lfsr (v : PageUnit) : (State.lfsr { s with pageUnit := v }) = s.lfsr := rfl
@[simp] theorem set_pageUnit_flt (v : PageUnit) : (State.flt { s with pageUnit := v }) = s.flt := rfl
@[simp] theorem set_pageUnit_twin (v : PageUnit) : (State.twin { s with pageUnit := v }) = s.twin := rfl
@[simp] theorem set_pageUnit_gcm (v : PageUnit) : (State.gcm { s with pageUnit := v }) = s.gcm := rfl
@[simp] theorem set_pageUnit_inbox (v : PageUnit) : (State.inbox { s with pageUnit := v }) = s.inbox := rfl
@[simp] theorem set_pageUnit_ctxs (v : PageUnit) : (State.ctxs { s with pageUnit := v }) = s.ctxs := rfl
@[simp] theorem set_pageUnit_engs (v : PageUnit) : (State.engs { s with pageUnit := v }) = s.engs := rfl
@[simp] theorem set_pageUnit_base (v : PageUnit) : (State.base { s with pageUnit := v }) = s.base := rfl
@[simp] theorem set_pageUnit_prog (v : PageUnit) : (State.prog { s with pageUnit := v }) = s.prog := rfl
@[simp] theorem set_pageUnit_pins (v : PageUnit) : (State.pins { s with pageUnit := v }) = s.pins := rfl
@[simp] theorem set_pageUnit_cup (v : PageUnit) : (State.cup { s with pageUnit := v }) = s.cup := rfl
@[simp] theorem set_pageUnit_bud (v : PageUnit) : (State.bud { s with pageUnit := v }) = s.bud := rfl
@[simp] theorem set_pageUnit_modeU (v : PageUnit) : (State.modeU { s with pageUnit := v }) = s.modeU := rfl
@[simp] theorem set_pageUnit_time (v : PageUnit) : (State.time { s with pageUnit := v }) = s.time := rfl
@[simp] theorem set_pageUnit_tout (v : PageUnit) : (State.tout { s with pageUnit := v }) = s.tout := rfl
@[simp] theorem set_pageUnit_bridge (v : PageUnit) : (State.bridge { s with pageUnit := v }) = s.bridge := rfl
@[simp] theorem set_pageUnit_can (v : PageUnit) : (State.can { s with pageUnit := v }) = s.can := rfl
@[simp] theorem set_pageUnit_usb (v : PageUnit) : (State.usb { s with pageUnit := v }) = s.usb := rfl
@[simp] theorem set_pageUnit_brk (v : PageUnit) : (State.brk { s with pageUnit := v }) = s.brk := rfl
@[simp] theorem set_pageUnit_cupSnap (v : PageUnit) : (State.cupSnap { s with pageUnit := v }) = s.cupSnap := rfl
@[simp] theorem set_pageUnit_flash (v : PageUnit) : (State.flash { s with pageUnit := v }) = s.flash := rfl
@[simp] theorem set_pageUnit_upd (v : PageUnit) : (State.upd { s with pageUnit := v }) = s.upd := rfl
@[simp] theorem set_pcie_pending (v : Pcie) : (State.pending { s with pcie := v }) = s.pending := rfl
@[simp] theorem set_pcie_sent (v : Pcie) : (State.sent { s with pcie := v }) = s.sent := rfl
@[simp] theorem set_pcie_free (v : Pcie) : (State.free { s with pcie := v }) = s.free := rfl
@[simp] theorem set_pcie_cycle (v : Pcie) : (State.cycle { s with pcie := v }) = s.cycle := rfl
@[simp] theorem set_pcie_mono (v : Pcie) : (State.mono { s with pcie := v }) = s.mono := rfl
@[simp] theorem set_pcie_fab (v : Pcie) : (State.fab { s with pcie := v }) = s.fab := rfl
@[simp] theorem set_pcie_regs (v : Pcie) : (State.regs { s with pcie := v }) = s.regs := rfl
@[simp] theorem set_pcie_timers (v : Pcie) : (State.timers { s with pcie := v }) = s.timers := rfl
@[simp] theorem set_pcie_otp (v : Pcie) : (State.otp { s with pcie := v }) = s.otp := rfl
@[simp] theorem set_pcie_msix (v : Pcie) : (State.msix { s with pcie := v }) = s.msix := rfl
@[simp] theorem set_pcie_pageUnit (v : Pcie) : (State.pageUnit { s with pcie := v }) = s.pageUnit := rfl
@[simp] theorem set_pcie_pcie (v : Pcie) : (State.pcie { s with pcie := v }) = v := rfl
@[simp] theorem set_pcie_pd (v : Pcie) : (State.pd { s with pcie := v }) = s.pd := rfl
@[simp] theorem set_pcie_ref (v : Pcie) : (State.ref { s with pcie := v }) = s.ref := rfl
@[simp] theorem set_pcie_phy (v : Pcie) : (State.phy { s with pcie := v }) = s.phy := rfl
@[simp] theorem set_pcie_lanes (v : Pcie) : (State.lanes { s with pcie := v }) = s.lanes := rfl
@[simp] theorem set_pcie_win (v : Pcie) : (State.win { s with pcie := v }) = s.win := rfl
@[simp] theorem set_pcie_rx (v : Pcie) : (State.rx { s with pcie := v }) = s.rx := rfl
@[simp] theorem set_pcie_tx (v : Pcie) : (State.tx { s with pcie := v }) = s.tx := rfl
@[simp] theorem set_pcie_byp (v : Pcie) : (State.byp { s with pcie := v }) = s.byp := rfl
@[simp] theorem set_pcie_voqs (v : Pcie) : (State.voqs { s with pcie := v }) = s.voqs := rfl
@[simp] theorem set_pcie_outs (v : Pcie) : (State.outs { s with pcie := v }) = s.outs := rfl
@[simp] theorem set_pcie_buf (v : Pcie) : (State.buf { s with pcie := v }) = s.buf := rfl
@[simp] theorem set_pcie_bufMem (v : Pcie) : (State.bufMem { s with pcie := v }) = s.bufMem := rfl
@[simp] theorem set_pcie_lfsr (v : Pcie) : (State.lfsr { s with pcie := v }) = s.lfsr := rfl
@[simp] theorem set_pcie_flt (v : Pcie) : (State.flt { s with pcie := v }) = s.flt := rfl
@[simp] theorem set_pcie_twin (v : Pcie) : (State.twin { s with pcie := v }) = s.twin := rfl
@[simp] theorem set_pcie_gcm (v : Pcie) : (State.gcm { s with pcie := v }) = s.gcm := rfl
@[simp] theorem set_pcie_inbox (v : Pcie) : (State.inbox { s with pcie := v }) = s.inbox := rfl
@[simp] theorem set_pcie_ctxs (v : Pcie) : (State.ctxs { s with pcie := v }) = s.ctxs := rfl
@[simp] theorem set_pcie_engs (v : Pcie) : (State.engs { s with pcie := v }) = s.engs := rfl
@[simp] theorem set_pcie_base (v : Pcie) : (State.base { s with pcie := v }) = s.base := rfl
@[simp] theorem set_pcie_prog (v : Pcie) : (State.prog { s with pcie := v }) = s.prog := rfl
@[simp] theorem set_pcie_pins (v : Pcie) : (State.pins { s with pcie := v }) = s.pins := rfl
@[simp] theorem set_pcie_cup (v : Pcie) : (State.cup { s with pcie := v }) = s.cup := rfl
@[simp] theorem set_pcie_bud (v : Pcie) : (State.bud { s with pcie := v }) = s.bud := rfl
@[simp] theorem set_pcie_modeU (v : Pcie) : (State.modeU { s with pcie := v }) = s.modeU := rfl
@[simp] theorem set_pcie_time (v : Pcie) : (State.time { s with pcie := v }) = s.time := rfl
@[simp] theorem set_pcie_tout (v : Pcie) : (State.tout { s with pcie := v }) = s.tout := rfl
@[simp] theorem set_pcie_bridge (v : Pcie) : (State.bridge { s with pcie := v }) = s.bridge := rfl
@[simp] theorem set_pcie_can (v : Pcie) : (State.can { s with pcie := v }) = s.can := rfl
@[simp] theorem set_pcie_usb (v : Pcie) : (State.usb { s with pcie := v }) = s.usb := rfl
@[simp] theorem set_pcie_brk (v : Pcie) : (State.brk { s with pcie := v }) = s.brk := rfl
@[simp] theorem set_pcie_cupSnap (v : Pcie) : (State.cupSnap { s with pcie := v }) = s.cupSnap := rfl
@[simp] theorem set_pcie_flash (v : Pcie) : (State.flash { s with pcie := v }) = s.flash := rfl
@[simp] theorem set_pcie_upd (v : Pcie) : (State.upd { s with pcie := v }) = s.upd := rfl
@[simp] theorem set_pd_pending (v : List Nat) : (State.pending { s with pd := v }) = s.pending := rfl
@[simp] theorem set_pd_sent (v : List Nat) : (State.sent { s with pd := v }) = s.sent := rfl
@[simp] theorem set_pd_free (v : List Nat) : (State.free { s with pd := v }) = s.free := rfl
@[simp] theorem set_pd_cycle (v : List Nat) : (State.cycle { s with pd := v }) = s.cycle := rfl
@[simp] theorem set_pd_mono (v : List Nat) : (State.mono { s with pd := v }) = s.mono := rfl
@[simp] theorem set_pd_fab (v : List Nat) : (State.fab { s with pd := v }) = s.fab := rfl
@[simp] theorem set_pd_regs (v : List Nat) : (State.regs { s with pd := v }) = s.regs := rfl
@[simp] theorem set_pd_timers (v : List Nat) : (State.timers { s with pd := v }) = s.timers := rfl
@[simp] theorem set_pd_otp (v : List Nat) : (State.otp { s with pd := v }) = s.otp := rfl
@[simp] theorem set_pd_msix (v : List Nat) : (State.msix { s with pd := v }) = s.msix := rfl
@[simp] theorem set_pd_pageUnit (v : List Nat) : (State.pageUnit { s with pd := v }) = s.pageUnit := rfl
@[simp] theorem set_pd_pcie (v : List Nat) : (State.pcie { s with pd := v }) = s.pcie := rfl
@[simp] theorem set_pd_pd (v : List Nat) : (State.pd { s with pd := v }) = v := rfl
@[simp] theorem set_pd_ref (v : List Nat) : (State.ref { s with pd := v }) = s.ref := rfl
@[simp] theorem set_pd_phy (v : List Nat) : (State.phy { s with pd := v }) = s.phy := rfl
@[simp] theorem set_pd_lanes (v : List Nat) : (State.lanes { s with pd := v }) = s.lanes := rfl
@[simp] theorem set_pd_win (v : List Nat) : (State.win { s with pd := v }) = s.win := rfl
@[simp] theorem set_pd_rx (v : List Nat) : (State.rx { s with pd := v }) = s.rx := rfl
@[simp] theorem set_pd_tx (v : List Nat) : (State.tx { s with pd := v }) = s.tx := rfl
@[simp] theorem set_pd_byp (v : List Nat) : (State.byp { s with pd := v }) = s.byp := rfl
@[simp] theorem set_pd_voqs (v : List Nat) : (State.voqs { s with pd := v }) = s.voqs := rfl
@[simp] theorem set_pd_outs (v : List Nat) : (State.outs { s with pd := v }) = s.outs := rfl
@[simp] theorem set_pd_buf (v : List Nat) : (State.buf { s with pd := v }) = s.buf := rfl
@[simp] theorem set_pd_bufMem (v : List Nat) : (State.bufMem { s with pd := v }) = s.bufMem := rfl
@[simp] theorem set_pd_lfsr (v : List Nat) : (State.lfsr { s with pd := v }) = s.lfsr := rfl
@[simp] theorem set_pd_flt (v : List Nat) : (State.flt { s with pd := v }) = s.flt := rfl
@[simp] theorem set_pd_twin (v : List Nat) : (State.twin { s with pd := v }) = s.twin := rfl
@[simp] theorem set_pd_gcm (v : List Nat) : (State.gcm { s with pd := v }) = s.gcm := rfl
@[simp] theorem set_pd_inbox (v : List Nat) : (State.inbox { s with pd := v }) = s.inbox := rfl
@[simp] theorem set_pd_ctxs (v : List Nat) : (State.ctxs { s with pd := v }) = s.ctxs := rfl
@[simp] theorem set_pd_engs (v : List Nat) : (State.engs { s with pd := v }) = s.engs := rfl
@[simp] theorem set_pd_base (v : List Nat) : (State.base { s with pd := v }) = s.base := rfl
@[simp] theorem set_pd_prog (v : List Nat) : (State.prog { s with pd := v }) = s.prog := rfl
@[simp] theorem set_pd_pins (v : List Nat) : (State.pins { s with pd := v }) = s.pins := rfl
@[simp] theorem set_pd_cup (v : List Nat) : (State.cup { s with pd := v }) = s.cup := rfl
@[simp] theorem set_pd_bud (v : List Nat) : (State.bud { s with pd := v }) = s.bud := rfl
@[simp] theorem set_pd_modeU (v : List Nat) : (State.modeU { s with pd := v }) = s.modeU := rfl
@[simp] theorem set_pd_time (v : List Nat) : (State.time { s with pd := v }) = s.time := rfl
@[simp] theorem set_pd_tout (v : List Nat) : (State.tout { s with pd := v }) = s.tout := rfl
@[simp] theorem set_pd_bridge (v : List Nat) : (State.bridge { s with pd := v }) = s.bridge := rfl
@[simp] theorem set_pd_can (v : List Nat) : (State.can { s with pd := v }) = s.can := rfl
@[simp] theorem set_pd_usb (v : List Nat) : (State.usb { s with pd := v }) = s.usb := rfl
@[simp] theorem set_pd_brk (v : List Nat) : (State.brk { s with pd := v }) = s.brk := rfl
@[simp] theorem set_pd_cupSnap (v : List Nat) : (State.cupSnap { s with pd := v }) = s.cupSnap := rfl
@[simp] theorem set_pd_flash (v : List Nat) : (State.flash { s with pd := v }) = s.flash := rfl
@[simp] theorem set_pd_upd (v : List Nat) : (State.upd { s with pd := v }) = s.upd := rfl
@[simp] theorem set_ref_pending (v : RefUnit) : (State.pending { s with ref := v }) = s.pending := rfl
@[simp] theorem set_ref_sent (v : RefUnit) : (State.sent { s with ref := v }) = s.sent := rfl
@[simp] theorem set_ref_free (v : RefUnit) : (State.free { s with ref := v }) = s.free := rfl
@[simp] theorem set_ref_cycle (v : RefUnit) : (State.cycle { s with ref := v }) = s.cycle := rfl
@[simp] theorem set_ref_mono (v : RefUnit) : (State.mono { s with ref := v }) = s.mono := rfl
@[simp] theorem set_ref_fab (v : RefUnit) : (State.fab { s with ref := v }) = s.fab := rfl
@[simp] theorem set_ref_regs (v : RefUnit) : (State.regs { s with ref := v }) = s.regs := rfl
@[simp] theorem set_ref_timers (v : RefUnit) : (State.timers { s with ref := v }) = s.timers := rfl
@[simp] theorem set_ref_otp (v : RefUnit) : (State.otp { s with ref := v }) = s.otp := rfl
@[simp] theorem set_ref_msix (v : RefUnit) : (State.msix { s with ref := v }) = s.msix := rfl
@[simp] theorem set_ref_pageUnit (v : RefUnit) : (State.pageUnit { s with ref := v }) = s.pageUnit := rfl
@[simp] theorem set_ref_pcie (v : RefUnit) : (State.pcie { s with ref := v }) = s.pcie := rfl
@[simp] theorem set_ref_pd (v : RefUnit) : (State.pd { s with ref := v }) = s.pd := rfl
@[simp] theorem set_ref_ref (v : RefUnit) : (State.ref { s with ref := v }) = v := rfl
@[simp] theorem set_ref_phy (v : RefUnit) : (State.phy { s with ref := v }) = s.phy := rfl
@[simp] theorem set_ref_lanes (v : RefUnit) : (State.lanes { s with ref := v }) = s.lanes := rfl
@[simp] theorem set_ref_win (v : RefUnit) : (State.win { s with ref := v }) = s.win := rfl
@[simp] theorem set_ref_rx (v : RefUnit) : (State.rx { s with ref := v }) = s.rx := rfl
@[simp] theorem set_ref_tx (v : RefUnit) : (State.tx { s with ref := v }) = s.tx := rfl
@[simp] theorem set_ref_byp (v : RefUnit) : (State.byp { s with ref := v }) = s.byp := rfl
@[simp] theorem set_ref_voqs (v : RefUnit) : (State.voqs { s with ref := v }) = s.voqs := rfl
@[simp] theorem set_ref_outs (v : RefUnit) : (State.outs { s with ref := v }) = s.outs := rfl
@[simp] theorem set_ref_buf (v : RefUnit) : (State.buf { s with ref := v }) = s.buf := rfl
@[simp] theorem set_ref_bufMem (v : RefUnit) : (State.bufMem { s with ref := v }) = s.bufMem := rfl
@[simp] theorem set_ref_lfsr (v : RefUnit) : (State.lfsr { s with ref := v }) = s.lfsr := rfl
@[simp] theorem set_ref_flt (v : RefUnit) : (State.flt { s with ref := v }) = s.flt := rfl
@[simp] theorem set_ref_twin (v : RefUnit) : (State.twin { s with ref := v }) = s.twin := rfl
@[simp] theorem set_ref_gcm (v : RefUnit) : (State.gcm { s with ref := v }) = s.gcm := rfl
@[simp] theorem set_ref_inbox (v : RefUnit) : (State.inbox { s with ref := v }) = s.inbox := rfl
@[simp] theorem set_ref_ctxs (v : RefUnit) : (State.ctxs { s with ref := v }) = s.ctxs := rfl
@[simp] theorem set_ref_engs (v : RefUnit) : (State.engs { s with ref := v }) = s.engs := rfl
@[simp] theorem set_ref_base (v : RefUnit) : (State.base { s with ref := v }) = s.base := rfl
@[simp] theorem set_ref_prog (v : RefUnit) : (State.prog { s with ref := v }) = s.prog := rfl
@[simp] theorem set_ref_pins (v : RefUnit) : (State.pins { s with ref := v }) = s.pins := rfl
@[simp] theorem set_ref_cup (v : RefUnit) : (State.cup { s with ref := v }) = s.cup := rfl
@[simp] theorem set_ref_bud (v : RefUnit) : (State.bud { s with ref := v }) = s.bud := rfl
@[simp] theorem set_ref_modeU (v : RefUnit) : (State.modeU { s with ref := v }) = s.modeU := rfl
@[simp] theorem set_ref_time (v : RefUnit) : (State.time { s with ref := v }) = s.time := rfl
@[simp] theorem set_ref_tout (v : RefUnit) : (State.tout { s with ref := v }) = s.tout := rfl
@[simp] theorem set_ref_bridge (v : RefUnit) : (State.bridge { s with ref := v }) = s.bridge := rfl
@[simp] theorem set_ref_can (v : RefUnit) : (State.can { s with ref := v }) = s.can := rfl
@[simp] theorem set_ref_usb (v : RefUnit) : (State.usb { s with ref := v }) = s.usb := rfl
@[simp] theorem set_ref_brk (v : RefUnit) : (State.brk { s with ref := v }) = s.brk := rfl
@[simp] theorem set_ref_cupSnap (v : RefUnit) : (State.cupSnap { s with ref := v }) = s.cupSnap := rfl
@[simp] theorem set_ref_flash (v : RefUnit) : (State.flash { s with ref := v }) = s.flash := rfl
@[simp] theorem set_ref_upd (v : RefUnit) : (State.upd { s with ref := v }) = s.upd := rfl
@[simp] theorem set_phy_pending (v : Tbl Phy) : (State.pending { s with phy := v }) = s.pending := rfl
@[simp] theorem set_phy_sent (v : Tbl Phy) : (State.sent { s with phy := v }) = s.sent := rfl
@[simp] theorem set_phy_free (v : Tbl Phy) : (State.free { s with phy := v }) = s.free := rfl
@[simp] theorem set_phy_cycle (v : Tbl Phy) : (State.cycle { s with phy := v }) = s.cycle := rfl
@[simp] theorem set_phy_mono (v : Tbl Phy) : (State.mono { s with phy := v }) = s.mono := rfl
@[simp] theorem set_phy_fab (v : Tbl Phy) : (State.fab { s with phy := v }) = s.fab := rfl
@[simp] theorem set_phy_regs (v : Tbl Phy) : (State.regs { s with phy := v }) = s.regs := rfl
@[simp] theorem set_phy_timers (v : Tbl Phy) : (State.timers { s with phy := v }) = s.timers := rfl
@[simp] theorem set_phy_otp (v : Tbl Phy) : (State.otp { s with phy := v }) = s.otp := rfl
@[simp] theorem set_phy_msix (v : Tbl Phy) : (State.msix { s with phy := v }) = s.msix := rfl
@[simp] theorem set_phy_pageUnit (v : Tbl Phy) : (State.pageUnit { s with phy := v }) = s.pageUnit := rfl
@[simp] theorem set_phy_pcie (v : Tbl Phy) : (State.pcie { s with phy := v }) = s.pcie := rfl
@[simp] theorem set_phy_pd (v : Tbl Phy) : (State.pd { s with phy := v }) = s.pd := rfl
@[simp] theorem set_phy_ref (v : Tbl Phy) : (State.ref { s with phy := v }) = s.ref := rfl
@[simp] theorem set_phy_phy (v : Tbl Phy) : (State.phy { s with phy := v }) = v := rfl
@[simp] theorem set_phy_lanes (v : Tbl Phy) : (State.lanes { s with phy := v }) = s.lanes := rfl
@[simp] theorem set_phy_win (v : Tbl Phy) : (State.win { s with phy := v }) = s.win := rfl
@[simp] theorem set_phy_rx (v : Tbl Phy) : (State.rx { s with phy := v }) = s.rx := rfl
@[simp] theorem set_phy_tx (v : Tbl Phy) : (State.tx { s with phy := v }) = s.tx := rfl
@[simp] theorem set_phy_byp (v : Tbl Phy) : (State.byp { s with phy := v }) = s.byp := rfl
@[simp] theorem set_phy_voqs (v : Tbl Phy) : (State.voqs { s with phy := v }) = s.voqs := rfl
@[simp] theorem set_phy_outs (v : Tbl Phy) : (State.outs { s with phy := v }) = s.outs := rfl
@[simp] theorem set_phy_buf (v : Tbl Phy) : (State.buf { s with phy := v }) = s.buf := rfl
@[simp] theorem set_phy_bufMem (v : Tbl Phy) : (State.bufMem { s with phy := v }) = s.bufMem := rfl
@[simp] theorem set_phy_lfsr (v : Tbl Phy) : (State.lfsr { s with phy := v }) = s.lfsr := rfl
@[simp] theorem set_phy_flt (v : Tbl Phy) : (State.flt { s with phy := v }) = s.flt := rfl
@[simp] theorem set_phy_twin (v : Tbl Phy) : (State.twin { s with phy := v }) = s.twin := rfl
@[simp] theorem set_phy_gcm (v : Tbl Phy) : (State.gcm { s with phy := v }) = s.gcm := rfl
@[simp] theorem set_phy_inbox (v : Tbl Phy) : (State.inbox { s with phy := v }) = s.inbox := rfl
@[simp] theorem set_phy_ctxs (v : Tbl Phy) : (State.ctxs { s with phy := v }) = s.ctxs := rfl
@[simp] theorem set_phy_engs (v : Tbl Phy) : (State.engs { s with phy := v }) = s.engs := rfl
@[simp] theorem set_phy_base (v : Tbl Phy) : (State.base { s with phy := v }) = s.base := rfl
@[simp] theorem set_phy_prog (v : Tbl Phy) : (State.prog { s with phy := v }) = s.prog := rfl
@[simp] theorem set_phy_pins (v : Tbl Phy) : (State.pins { s with phy := v }) = s.pins := rfl
@[simp] theorem set_phy_cup (v : Tbl Phy) : (State.cup { s with phy := v }) = s.cup := rfl
@[simp] theorem set_phy_bud (v : Tbl Phy) : (State.bud { s with phy := v }) = s.bud := rfl
@[simp] theorem set_phy_modeU (v : Tbl Phy) : (State.modeU { s with phy := v }) = s.modeU := rfl
@[simp] theorem set_phy_time (v : Tbl Phy) : (State.time { s with phy := v }) = s.time := rfl
@[simp] theorem set_phy_tout (v : Tbl Phy) : (State.tout { s with phy := v }) = s.tout := rfl
@[simp] theorem set_phy_bridge (v : Tbl Phy) : (State.bridge { s with phy := v }) = s.bridge := rfl
@[simp] theorem set_phy_can (v : Tbl Phy) : (State.can { s with phy := v }) = s.can := rfl
@[simp] theorem set_phy_usb (v : Tbl Phy) : (State.usb { s with phy := v }) = s.usb := rfl
@[simp] theorem set_phy_brk (v : Tbl Phy) : (State.brk { s with phy := v }) = s.brk := rfl
@[simp] theorem set_phy_cupSnap (v : Tbl Phy) : (State.cupSnap { s with phy := v }) = s.cupSnap := rfl
@[simp] theorem set_phy_flash (v : Tbl Phy) : (State.flash { s with phy := v }) = s.flash := rfl
@[simp] theorem set_phy_upd (v : Tbl Phy) : (State.upd { s with phy := v }) = s.upd := rfl
@[simp] theorem set_lanes_pending (v : Tbl LaneDir) : (State.pending { s with lanes := v }) = s.pending := rfl
@[simp] theorem set_lanes_sent (v : Tbl LaneDir) : (State.sent { s with lanes := v }) = s.sent := rfl
@[simp] theorem set_lanes_free (v : Tbl LaneDir) : (State.free { s with lanes := v }) = s.free := rfl
@[simp] theorem set_lanes_cycle (v : Tbl LaneDir) : (State.cycle { s with lanes := v }) = s.cycle := rfl
@[simp] theorem set_lanes_mono (v : Tbl LaneDir) : (State.mono { s with lanes := v }) = s.mono := rfl
@[simp] theorem set_lanes_fab (v : Tbl LaneDir) : (State.fab { s with lanes := v }) = s.fab := rfl
@[simp] theorem set_lanes_regs (v : Tbl LaneDir) : (State.regs { s with lanes := v }) = s.regs := rfl
@[simp] theorem set_lanes_timers (v : Tbl LaneDir) : (State.timers { s with lanes := v }) = s.timers := rfl
@[simp] theorem set_lanes_otp (v : Tbl LaneDir) : (State.otp { s with lanes := v }) = s.otp := rfl
@[simp] theorem set_lanes_msix (v : Tbl LaneDir) : (State.msix { s with lanes := v }) = s.msix := rfl
@[simp] theorem set_lanes_pageUnit (v : Tbl LaneDir) : (State.pageUnit { s with lanes := v }) = s.pageUnit := rfl
@[simp] theorem set_lanes_pcie (v : Tbl LaneDir) : (State.pcie { s with lanes := v }) = s.pcie := rfl
@[simp] theorem set_lanes_pd (v : Tbl LaneDir) : (State.pd { s with lanes := v }) = s.pd := rfl
@[simp] theorem set_lanes_ref (v : Tbl LaneDir) : (State.ref { s with lanes := v }) = s.ref := rfl
@[simp] theorem set_lanes_phy (v : Tbl LaneDir) : (State.phy { s with lanes := v }) = s.phy := rfl
@[simp] theorem set_lanes_lanes (v : Tbl LaneDir) : (State.lanes { s with lanes := v }) = v := rfl
@[simp] theorem set_lanes_win (v : Tbl LaneDir) : (State.win { s with lanes := v }) = s.win := rfl
@[simp] theorem set_lanes_rx (v : Tbl LaneDir) : (State.rx { s with lanes := v }) = s.rx := rfl
@[simp] theorem set_lanes_tx (v : Tbl LaneDir) : (State.tx { s with lanes := v }) = s.tx := rfl
@[simp] theorem set_lanes_byp (v : Tbl LaneDir) : (State.byp { s with lanes := v }) = s.byp := rfl
@[simp] theorem set_lanes_voqs (v : Tbl LaneDir) : (State.voqs { s with lanes := v }) = s.voqs := rfl
@[simp] theorem set_lanes_outs (v : Tbl LaneDir) : (State.outs { s with lanes := v }) = s.outs := rfl
@[simp] theorem set_lanes_buf (v : Tbl LaneDir) : (State.buf { s with lanes := v }) = s.buf := rfl
@[simp] theorem set_lanes_bufMem (v : Tbl LaneDir) : (State.bufMem { s with lanes := v }) = s.bufMem := rfl
@[simp] theorem set_lanes_lfsr (v : Tbl LaneDir) : (State.lfsr { s with lanes := v }) = s.lfsr := rfl
@[simp] theorem set_lanes_flt (v : Tbl LaneDir) : (State.flt { s with lanes := v }) = s.flt := rfl
@[simp] theorem set_lanes_twin (v : Tbl LaneDir) : (State.twin { s with lanes := v }) = s.twin := rfl
@[simp] theorem set_lanes_gcm (v : Tbl LaneDir) : (State.gcm { s with lanes := v }) = s.gcm := rfl
@[simp] theorem set_lanes_inbox (v : Tbl LaneDir) : (State.inbox { s with lanes := v }) = s.inbox := rfl
@[simp] theorem set_lanes_ctxs (v : Tbl LaneDir) : (State.ctxs { s with lanes := v }) = s.ctxs := rfl
@[simp] theorem set_lanes_engs (v : Tbl LaneDir) : (State.engs { s with lanes := v }) = s.engs := rfl
@[simp] theorem set_lanes_base (v : Tbl LaneDir) : (State.base { s with lanes := v }) = s.base := rfl
@[simp] theorem set_lanes_prog (v : Tbl LaneDir) : (State.prog { s with lanes := v }) = s.prog := rfl
@[simp] theorem set_lanes_pins (v : Tbl LaneDir) : (State.pins { s with lanes := v }) = s.pins := rfl
@[simp] theorem set_lanes_cup (v : Tbl LaneDir) : (State.cup { s with lanes := v }) = s.cup := rfl
@[simp] theorem set_lanes_bud (v : Tbl LaneDir) : (State.bud { s with lanes := v }) = s.bud := rfl
@[simp] theorem set_lanes_modeU (v : Tbl LaneDir) : (State.modeU { s with lanes := v }) = s.modeU := rfl
@[simp] theorem set_lanes_time (v : Tbl LaneDir) : (State.time { s with lanes := v }) = s.time := rfl
@[simp] theorem set_lanes_tout (v : Tbl LaneDir) : (State.tout { s with lanes := v }) = s.tout := rfl
@[simp] theorem set_lanes_bridge (v : Tbl LaneDir) : (State.bridge { s with lanes := v }) = s.bridge := rfl
@[simp] theorem set_lanes_can (v : Tbl LaneDir) : (State.can { s with lanes := v }) = s.can := rfl
@[simp] theorem set_lanes_usb (v : Tbl LaneDir) : (State.usb { s with lanes := v }) = s.usb := rfl
@[simp] theorem set_lanes_brk (v : Tbl LaneDir) : (State.brk { s with lanes := v }) = s.brk := rfl
@[simp] theorem set_lanes_cupSnap (v : Tbl LaneDir) : (State.cupSnap { s with lanes := v }) = s.cupSnap := rfl
@[simp] theorem set_lanes_flash (v : Tbl LaneDir) : (State.flash { s with lanes := v }) = s.flash := rfl
@[simp] theorem set_lanes_upd (v : Tbl LaneDir) : (State.upd { s with lanes := v }) = s.upd := rfl
@[simp] theorem set_win_pending (v : List StreamEnt) : (State.pending { s with win := v }) = s.pending := rfl
@[simp] theorem set_win_sent (v : List StreamEnt) : (State.sent { s with win := v }) = s.sent := rfl
@[simp] theorem set_win_free (v : List StreamEnt) : (State.free { s with win := v }) = s.free := rfl
@[simp] theorem set_win_cycle (v : List StreamEnt) : (State.cycle { s with win := v }) = s.cycle := rfl
@[simp] theorem set_win_mono (v : List StreamEnt) : (State.mono { s with win := v }) = s.mono := rfl
@[simp] theorem set_win_fab (v : List StreamEnt) : (State.fab { s with win := v }) = s.fab := rfl
@[simp] theorem set_win_regs (v : List StreamEnt) : (State.regs { s with win := v }) = s.regs := rfl
@[simp] theorem set_win_timers (v : List StreamEnt) : (State.timers { s with win := v }) = s.timers := rfl
@[simp] theorem set_win_otp (v : List StreamEnt) : (State.otp { s with win := v }) = s.otp := rfl
@[simp] theorem set_win_msix (v : List StreamEnt) : (State.msix { s with win := v }) = s.msix := rfl
@[simp] theorem set_win_pageUnit (v : List StreamEnt) : (State.pageUnit { s with win := v }) = s.pageUnit := rfl
@[simp] theorem set_win_pcie (v : List StreamEnt) : (State.pcie { s with win := v }) = s.pcie := rfl
@[simp] theorem set_win_pd (v : List StreamEnt) : (State.pd { s with win := v }) = s.pd := rfl
@[simp] theorem set_win_ref (v : List StreamEnt) : (State.ref { s with win := v }) = s.ref := rfl
@[simp] theorem set_win_phy (v : List StreamEnt) : (State.phy { s with win := v }) = s.phy := rfl
@[simp] theorem set_win_lanes (v : List StreamEnt) : (State.lanes { s with win := v }) = s.lanes := rfl
@[simp] theorem set_win_win (v : List StreamEnt) : (State.win { s with win := v }) = v := rfl
@[simp] theorem set_win_rx (v : List StreamEnt) : (State.rx { s with win := v }) = s.rx := rfl
@[simp] theorem set_win_tx (v : List StreamEnt) : (State.tx { s with win := v }) = s.tx := rfl
@[simp] theorem set_win_byp (v : List StreamEnt) : (State.byp { s with win := v }) = s.byp := rfl
@[simp] theorem set_win_voqs (v : List StreamEnt) : (State.voqs { s with win := v }) = s.voqs := rfl
@[simp] theorem set_win_outs (v : List StreamEnt) : (State.outs { s with win := v }) = s.outs := rfl
@[simp] theorem set_win_buf (v : List StreamEnt) : (State.buf { s with win := v }) = s.buf := rfl
@[simp] theorem set_win_bufMem (v : List StreamEnt) : (State.bufMem { s with win := v }) = s.bufMem := rfl
@[simp] theorem set_win_lfsr (v : List StreamEnt) : (State.lfsr { s with win := v }) = s.lfsr := rfl
@[simp] theorem set_win_flt (v : List StreamEnt) : (State.flt { s with win := v }) = s.flt := rfl
@[simp] theorem set_win_twin (v : List StreamEnt) : (State.twin { s with win := v }) = s.twin := rfl
@[simp] theorem set_win_gcm (v : List StreamEnt) : (State.gcm { s with win := v }) = s.gcm := rfl
@[simp] theorem set_win_inbox (v : List StreamEnt) : (State.inbox { s with win := v }) = s.inbox := rfl
@[simp] theorem set_win_ctxs (v : List StreamEnt) : (State.ctxs { s with win := v }) = s.ctxs := rfl
@[simp] theorem set_win_engs (v : List StreamEnt) : (State.engs { s with win := v }) = s.engs := rfl
@[simp] theorem set_win_base (v : List StreamEnt) : (State.base { s with win := v }) = s.base := rfl
@[simp] theorem set_win_prog (v : List StreamEnt) : (State.prog { s with win := v }) = s.prog := rfl
@[simp] theorem set_win_pins (v : List StreamEnt) : (State.pins { s with win := v }) = s.pins := rfl
@[simp] theorem set_win_cup (v : List StreamEnt) : (State.cup { s with win := v }) = s.cup := rfl
@[simp] theorem set_win_bud (v : List StreamEnt) : (State.bud { s with win := v }) = s.bud := rfl
@[simp] theorem set_win_modeU (v : List StreamEnt) : (State.modeU { s with win := v }) = s.modeU := rfl
@[simp] theorem set_win_time (v : List StreamEnt) : (State.time { s with win := v }) = s.time := rfl
@[simp] theorem set_win_tout (v : List StreamEnt) : (State.tout { s with win := v }) = s.tout := rfl
@[simp] theorem set_win_bridge (v : List StreamEnt) : (State.bridge { s with win := v }) = s.bridge := rfl
@[simp] theorem set_win_can (v : List StreamEnt) : (State.can { s with win := v }) = s.can := rfl
@[simp] theorem set_win_usb (v : List StreamEnt) : (State.usb { s with win := v }) = s.usb := rfl
@[simp] theorem set_win_brk (v : List StreamEnt) : (State.brk { s with win := v }) = s.brk := rfl
@[simp] theorem set_win_cupSnap (v : List StreamEnt) : (State.cupSnap { s with win := v }) = s.cupSnap := rfl
@[simp] theorem set_win_flash (v : List StreamEnt) : (State.flash { s with win := v }) = s.flash := rfl
@[simp] theorem set_win_upd (v : List StreamEnt) : (State.upd { s with win := v }) = s.upd := rfl
@[simp] theorem set_rx_pending (v : Tbl RxPort) : (State.pending { s with rx := v }) = s.pending := rfl
@[simp] theorem set_rx_sent (v : Tbl RxPort) : (State.sent { s with rx := v }) = s.sent := rfl
@[simp] theorem set_rx_free (v : Tbl RxPort) : (State.free { s with rx := v }) = s.free := rfl
@[simp] theorem set_rx_cycle (v : Tbl RxPort) : (State.cycle { s with rx := v }) = s.cycle := rfl
@[simp] theorem set_rx_mono (v : Tbl RxPort) : (State.mono { s with rx := v }) = s.mono := rfl
@[simp] theorem set_rx_fab (v : Tbl RxPort) : (State.fab { s with rx := v }) = s.fab := rfl
@[simp] theorem set_rx_regs (v : Tbl RxPort) : (State.regs { s with rx := v }) = s.regs := rfl
@[simp] theorem set_rx_timers (v : Tbl RxPort) : (State.timers { s with rx := v }) = s.timers := rfl
@[simp] theorem set_rx_otp (v : Tbl RxPort) : (State.otp { s with rx := v }) = s.otp := rfl
@[simp] theorem set_rx_msix (v : Tbl RxPort) : (State.msix { s with rx := v }) = s.msix := rfl
@[simp] theorem set_rx_pageUnit (v : Tbl RxPort) : (State.pageUnit { s with rx := v }) = s.pageUnit := rfl
@[simp] theorem set_rx_pcie (v : Tbl RxPort) : (State.pcie { s with rx := v }) = s.pcie := rfl
@[simp] theorem set_rx_pd (v : Tbl RxPort) : (State.pd { s with rx := v }) = s.pd := rfl
@[simp] theorem set_rx_ref (v : Tbl RxPort) : (State.ref { s with rx := v }) = s.ref := rfl
@[simp] theorem set_rx_phy (v : Tbl RxPort) : (State.phy { s with rx := v }) = s.phy := rfl
@[simp] theorem set_rx_lanes (v : Tbl RxPort) : (State.lanes { s with rx := v }) = s.lanes := rfl
@[simp] theorem set_rx_win (v : Tbl RxPort) : (State.win { s with rx := v }) = s.win := rfl
@[simp] theorem set_rx_rx (v : Tbl RxPort) : (State.rx { s with rx := v }) = v := rfl
@[simp] theorem set_rx_tx (v : Tbl RxPort) : (State.tx { s with rx := v }) = s.tx := rfl
@[simp] theorem set_rx_byp (v : Tbl RxPort) : (State.byp { s with rx := v }) = s.byp := rfl
@[simp] theorem set_rx_voqs (v : Tbl RxPort) : (State.voqs { s with rx := v }) = s.voqs := rfl
@[simp] theorem set_rx_outs (v : Tbl RxPort) : (State.outs { s with rx := v }) = s.outs := rfl
@[simp] theorem set_rx_buf (v : Tbl RxPort) : (State.buf { s with rx := v }) = s.buf := rfl
@[simp] theorem set_rx_bufMem (v : Tbl RxPort) : (State.bufMem { s with rx := v }) = s.bufMem := rfl
@[simp] theorem set_rx_lfsr (v : Tbl RxPort) : (State.lfsr { s with rx := v }) = s.lfsr := rfl
@[simp] theorem set_rx_flt (v : Tbl RxPort) : (State.flt { s with rx := v }) = s.flt := rfl
@[simp] theorem set_rx_twin (v : Tbl RxPort) : (State.twin { s with rx := v }) = s.twin := rfl
@[simp] theorem set_rx_gcm (v : Tbl RxPort) : (State.gcm { s with rx := v }) = s.gcm := rfl
@[simp] theorem set_rx_inbox (v : Tbl RxPort) : (State.inbox { s with rx := v }) = s.inbox := rfl
@[simp] theorem set_rx_ctxs (v : Tbl RxPort) : (State.ctxs { s with rx := v }) = s.ctxs := rfl
@[simp] theorem set_rx_engs (v : Tbl RxPort) : (State.engs { s with rx := v }) = s.engs := rfl
@[simp] theorem set_rx_base (v : Tbl RxPort) : (State.base { s with rx := v }) = s.base := rfl
@[simp] theorem set_rx_prog (v : Tbl RxPort) : (State.prog { s with rx := v }) = s.prog := rfl
@[simp] theorem set_rx_pins (v : Tbl RxPort) : (State.pins { s with rx := v }) = s.pins := rfl
@[simp] theorem set_rx_cup (v : Tbl RxPort) : (State.cup { s with rx := v }) = s.cup := rfl
@[simp] theorem set_rx_bud (v : Tbl RxPort) : (State.bud { s with rx := v }) = s.bud := rfl
@[simp] theorem set_rx_modeU (v : Tbl RxPort) : (State.modeU { s with rx := v }) = s.modeU := rfl
@[simp] theorem set_rx_time (v : Tbl RxPort) : (State.time { s with rx := v }) = s.time := rfl
@[simp] theorem set_rx_tout (v : Tbl RxPort) : (State.tout { s with rx := v }) = s.tout := rfl
@[simp] theorem set_rx_bridge (v : Tbl RxPort) : (State.bridge { s with rx := v }) = s.bridge := rfl
@[simp] theorem set_rx_can (v : Tbl RxPort) : (State.can { s with rx := v }) = s.can := rfl
@[simp] theorem set_rx_usb (v : Tbl RxPort) : (State.usb { s with rx := v }) = s.usb := rfl
@[simp] theorem set_rx_brk (v : Tbl RxPort) : (State.brk { s with rx := v }) = s.brk := rfl
@[simp] theorem set_rx_cupSnap (v : Tbl RxPort) : (State.cupSnap { s with rx := v }) = s.cupSnap := rfl
@[simp] theorem set_rx_flash (v : Tbl RxPort) : (State.flash { s with rx := v }) = s.flash := rfl
@[simp] theorem set_rx_upd (v : Tbl RxPort) : (State.upd { s with rx := v }) = s.upd := rfl
@[simp] theorem set_tx_pending (v : Tbl TxPort) : (State.pending { s with tx := v }) = s.pending := rfl
@[simp] theorem set_tx_sent (v : Tbl TxPort) : (State.sent { s with tx := v }) = s.sent := rfl
@[simp] theorem set_tx_free (v : Tbl TxPort) : (State.free { s with tx := v }) = s.free := rfl
@[simp] theorem set_tx_cycle (v : Tbl TxPort) : (State.cycle { s with tx := v }) = s.cycle := rfl
@[simp] theorem set_tx_mono (v : Tbl TxPort) : (State.mono { s with tx := v }) = s.mono := rfl
@[simp] theorem set_tx_fab (v : Tbl TxPort) : (State.fab { s with tx := v }) = s.fab := rfl
@[simp] theorem set_tx_regs (v : Tbl TxPort) : (State.regs { s with tx := v }) = s.regs := rfl
@[simp] theorem set_tx_timers (v : Tbl TxPort) : (State.timers { s with tx := v }) = s.timers := rfl
@[simp] theorem set_tx_otp (v : Tbl TxPort) : (State.otp { s with tx := v }) = s.otp := rfl
@[simp] theorem set_tx_msix (v : Tbl TxPort) : (State.msix { s with tx := v }) = s.msix := rfl
@[simp] theorem set_tx_pageUnit (v : Tbl TxPort) : (State.pageUnit { s with tx := v }) = s.pageUnit := rfl
@[simp] theorem set_tx_pcie (v : Tbl TxPort) : (State.pcie { s with tx := v }) = s.pcie := rfl
@[simp] theorem set_tx_pd (v : Tbl TxPort) : (State.pd { s with tx := v }) = s.pd := rfl
@[simp] theorem set_tx_ref (v : Tbl TxPort) : (State.ref { s with tx := v }) = s.ref := rfl
@[simp] theorem set_tx_phy (v : Tbl TxPort) : (State.phy { s with tx := v }) = s.phy := rfl
@[simp] theorem set_tx_lanes (v : Tbl TxPort) : (State.lanes { s with tx := v }) = s.lanes := rfl
@[simp] theorem set_tx_win (v : Tbl TxPort) : (State.win { s with tx := v }) = s.win := rfl
@[simp] theorem set_tx_rx (v : Tbl TxPort) : (State.rx { s with tx := v }) = s.rx := rfl
@[simp] theorem set_tx_tx (v : Tbl TxPort) : (State.tx { s with tx := v }) = v := rfl
@[simp] theorem set_tx_byp (v : Tbl TxPort) : (State.byp { s with tx := v }) = s.byp := rfl
@[simp] theorem set_tx_voqs (v : Tbl TxPort) : (State.voqs { s with tx := v }) = s.voqs := rfl
@[simp] theorem set_tx_outs (v : Tbl TxPort) : (State.outs { s with tx := v }) = s.outs := rfl
@[simp] theorem set_tx_buf (v : Tbl TxPort) : (State.buf { s with tx := v }) = s.buf := rfl
@[simp] theorem set_tx_bufMem (v : Tbl TxPort) : (State.bufMem { s with tx := v }) = s.bufMem := rfl
@[simp] theorem set_tx_lfsr (v : Tbl TxPort) : (State.lfsr { s with tx := v }) = s.lfsr := rfl
@[simp] theorem set_tx_flt (v : Tbl TxPort) : (State.flt { s with tx := v }) = s.flt := rfl
@[simp] theorem set_tx_twin (v : Tbl TxPort) : (State.twin { s with tx := v }) = s.twin := rfl
@[simp] theorem set_tx_gcm (v : Tbl TxPort) : (State.gcm { s with tx := v }) = s.gcm := rfl
@[simp] theorem set_tx_inbox (v : Tbl TxPort) : (State.inbox { s with tx := v }) = s.inbox := rfl
@[simp] theorem set_tx_ctxs (v : Tbl TxPort) : (State.ctxs { s with tx := v }) = s.ctxs := rfl
@[simp] theorem set_tx_engs (v : Tbl TxPort) : (State.engs { s with tx := v }) = s.engs := rfl
@[simp] theorem set_tx_base (v : Tbl TxPort) : (State.base { s with tx := v }) = s.base := rfl
@[simp] theorem set_tx_prog (v : Tbl TxPort) : (State.prog { s with tx := v }) = s.prog := rfl
@[simp] theorem set_tx_pins (v : Tbl TxPort) : (State.pins { s with tx := v }) = s.pins := rfl
@[simp] theorem set_tx_cup (v : Tbl TxPort) : (State.cup { s with tx := v }) = s.cup := rfl
@[simp] theorem set_tx_bud (v : Tbl TxPort) : (State.bud { s with tx := v }) = s.bud := rfl
@[simp] theorem set_tx_modeU (v : Tbl TxPort) : (State.modeU { s with tx := v }) = s.modeU := rfl
@[simp] theorem set_tx_time (v : Tbl TxPort) : (State.time { s with tx := v }) = s.time := rfl
@[simp] theorem set_tx_tout (v : Tbl TxPort) : (State.tout { s with tx := v }) = s.tout := rfl
@[simp] theorem set_tx_bridge (v : Tbl TxPort) : (State.bridge { s with tx := v }) = s.bridge := rfl
@[simp] theorem set_tx_can (v : Tbl TxPort) : (State.can { s with tx := v }) = s.can := rfl
@[simp] theorem set_tx_usb (v : Tbl TxPort) : (State.usb { s with tx := v }) = s.usb := rfl
@[simp] theorem set_tx_brk (v : Tbl TxPort) : (State.brk { s with tx := v }) = s.brk := rfl
@[simp] theorem set_tx_cupSnap (v : Tbl TxPort) : (State.cupSnap { s with tx := v }) = s.cupSnap := rfl
@[simp] theorem set_tx_flash (v : Tbl TxPort) : (State.flash { s with tx := v }) = s.flash := rfl
@[simp] theorem set_tx_upd (v : Tbl TxPort) : (State.upd { s with tx := v }) = s.upd := rfl
@[simp] theorem set_byp_pending (v : Bypass) : (State.pending { s with byp := v }) = s.pending := rfl
@[simp] theorem set_byp_sent (v : Bypass) : (State.sent { s with byp := v }) = s.sent := rfl
@[simp] theorem set_byp_free (v : Bypass) : (State.free { s with byp := v }) = s.free := rfl
@[simp] theorem set_byp_cycle (v : Bypass) : (State.cycle { s with byp := v }) = s.cycle := rfl
@[simp] theorem set_byp_mono (v : Bypass) : (State.mono { s with byp := v }) = s.mono := rfl
@[simp] theorem set_byp_fab (v : Bypass) : (State.fab { s with byp := v }) = s.fab := rfl
@[simp] theorem set_byp_regs (v : Bypass) : (State.regs { s with byp := v }) = s.regs := rfl
@[simp] theorem set_byp_timers (v : Bypass) : (State.timers { s with byp := v }) = s.timers := rfl
@[simp] theorem set_byp_otp (v : Bypass) : (State.otp { s with byp := v }) = s.otp := rfl
@[simp] theorem set_byp_msix (v : Bypass) : (State.msix { s with byp := v }) = s.msix := rfl
@[simp] theorem set_byp_pageUnit (v : Bypass) : (State.pageUnit { s with byp := v }) = s.pageUnit := rfl
@[simp] theorem set_byp_pcie (v : Bypass) : (State.pcie { s with byp := v }) = s.pcie := rfl
@[simp] theorem set_byp_pd (v : Bypass) : (State.pd { s with byp := v }) = s.pd := rfl
@[simp] theorem set_byp_ref (v : Bypass) : (State.ref { s with byp := v }) = s.ref := rfl
@[simp] theorem set_byp_phy (v : Bypass) : (State.phy { s with byp := v }) = s.phy := rfl
@[simp] theorem set_byp_lanes (v : Bypass) : (State.lanes { s with byp := v }) = s.lanes := rfl
@[simp] theorem set_byp_win (v : Bypass) : (State.win { s with byp := v }) = s.win := rfl
@[simp] theorem set_byp_rx (v : Bypass) : (State.rx { s with byp := v }) = s.rx := rfl
@[simp] theorem set_byp_tx (v : Bypass) : (State.tx { s with byp := v }) = s.tx := rfl
@[simp] theorem set_byp_byp (v : Bypass) : (State.byp { s with byp := v }) = v := rfl
@[simp] theorem set_byp_voqs (v : Bypass) : (State.voqs { s with byp := v }) = s.voqs := rfl
@[simp] theorem set_byp_outs (v : Bypass) : (State.outs { s with byp := v }) = s.outs := rfl
@[simp] theorem set_byp_buf (v : Bypass) : (State.buf { s with byp := v }) = s.buf := rfl
@[simp] theorem set_byp_bufMem (v : Bypass) : (State.bufMem { s with byp := v }) = s.bufMem := rfl
@[simp] theorem set_byp_lfsr (v : Bypass) : (State.lfsr { s with byp := v }) = s.lfsr := rfl
@[simp] theorem set_byp_flt (v : Bypass) : (State.flt { s with byp := v }) = s.flt := rfl
@[simp] theorem set_byp_twin (v : Bypass) : (State.twin { s with byp := v }) = s.twin := rfl
@[simp] theorem set_byp_gcm (v : Bypass) : (State.gcm { s with byp := v }) = s.gcm := rfl
@[simp] theorem set_byp_inbox (v : Bypass) : (State.inbox { s with byp := v }) = s.inbox := rfl
@[simp] theorem set_byp_ctxs (v : Bypass) : (State.ctxs { s with byp := v }) = s.ctxs := rfl
@[simp] theorem set_byp_engs (v : Bypass) : (State.engs { s with byp := v }) = s.engs := rfl
@[simp] theorem set_byp_base (v : Bypass) : (State.base { s with byp := v }) = s.base := rfl
@[simp] theorem set_byp_prog (v : Bypass) : (State.prog { s with byp := v }) = s.prog := rfl
@[simp] theorem set_byp_pins (v : Bypass) : (State.pins { s with byp := v }) = s.pins := rfl
@[simp] theorem set_byp_cup (v : Bypass) : (State.cup { s with byp := v }) = s.cup := rfl
@[simp] theorem set_byp_bud (v : Bypass) : (State.bud { s with byp := v }) = s.bud := rfl
@[simp] theorem set_byp_modeU (v : Bypass) : (State.modeU { s with byp := v }) = s.modeU := rfl
@[simp] theorem set_byp_time (v : Bypass) : (State.time { s with byp := v }) = s.time := rfl
@[simp] theorem set_byp_tout (v : Bypass) : (State.tout { s with byp := v }) = s.tout := rfl
@[simp] theorem set_byp_bridge (v : Bypass) : (State.bridge { s with byp := v }) = s.bridge := rfl
@[simp] theorem set_byp_can (v : Bypass) : (State.can { s with byp := v }) = s.can := rfl
@[simp] theorem set_byp_usb (v : Bypass) : (State.usb { s with byp := v }) = s.usb := rfl
@[simp] theorem set_byp_brk (v : Bypass) : (State.brk { s with byp := v }) = s.brk := rfl
@[simp] theorem set_byp_cupSnap (v : Bypass) : (State.cupSnap { s with byp := v }) = s.cupSnap := rfl
@[simp] theorem set_byp_flash (v : Bypass) : (State.flash { s with byp := v }) = s.flash := rfl
@[simp] theorem set_byp_upd (v : Bypass) : (State.upd { s with byp := v }) = s.upd := rfl
@[simp] theorem set_voqs_pending (v : Tbl Voq) : (State.pending { s with voqs := v }) = s.pending := rfl
@[simp] theorem set_voqs_sent (v : Tbl Voq) : (State.sent { s with voqs := v }) = s.sent := rfl
@[simp] theorem set_voqs_free (v : Tbl Voq) : (State.free { s with voqs := v }) = s.free := rfl
@[simp] theorem set_voqs_cycle (v : Tbl Voq) : (State.cycle { s with voqs := v }) = s.cycle := rfl
@[simp] theorem set_voqs_mono (v : Tbl Voq) : (State.mono { s with voqs := v }) = s.mono := rfl
@[simp] theorem set_voqs_fab (v : Tbl Voq) : (State.fab { s with voqs := v }) = s.fab := rfl
@[simp] theorem set_voqs_regs (v : Tbl Voq) : (State.regs { s with voqs := v }) = s.regs := rfl
@[simp] theorem set_voqs_timers (v : Tbl Voq) : (State.timers { s with voqs := v }) = s.timers := rfl
@[simp] theorem set_voqs_otp (v : Tbl Voq) : (State.otp { s with voqs := v }) = s.otp := rfl
@[simp] theorem set_voqs_msix (v : Tbl Voq) : (State.msix { s with voqs := v }) = s.msix := rfl
@[simp] theorem set_voqs_pageUnit (v : Tbl Voq) : (State.pageUnit { s with voqs := v }) = s.pageUnit := rfl
@[simp] theorem set_voqs_pcie (v : Tbl Voq) : (State.pcie { s with voqs := v }) = s.pcie := rfl
@[simp] theorem set_voqs_pd (v : Tbl Voq) : (State.pd { s with voqs := v }) = s.pd := rfl
@[simp] theorem set_voqs_ref (v : Tbl Voq) : (State.ref { s with voqs := v }) = s.ref := rfl
@[simp] theorem set_voqs_phy (v : Tbl Voq) : (State.phy { s with voqs := v }) = s.phy := rfl
@[simp] theorem set_voqs_lanes (v : Tbl Voq) : (State.lanes { s with voqs := v }) = s.lanes := rfl
@[simp] theorem set_voqs_win (v : Tbl Voq) : (State.win { s with voqs := v }) = s.win := rfl
@[simp] theorem set_voqs_rx (v : Tbl Voq) : (State.rx { s with voqs := v }) = s.rx := rfl
@[simp] theorem set_voqs_tx (v : Tbl Voq) : (State.tx { s with voqs := v }) = s.tx := rfl
@[simp] theorem set_voqs_byp (v : Tbl Voq) : (State.byp { s with voqs := v }) = s.byp := rfl
@[simp] theorem set_voqs_voqs (v : Tbl Voq) : (State.voqs { s with voqs := v }) = v := rfl
@[simp] theorem set_voqs_outs (v : Tbl Voq) : (State.outs { s with voqs := v }) = s.outs := rfl
@[simp] theorem set_voqs_buf (v : Tbl Voq) : (State.buf { s with voqs := v }) = s.buf := rfl
@[simp] theorem set_voqs_bufMem (v : Tbl Voq) : (State.bufMem { s with voqs := v }) = s.bufMem := rfl
@[simp] theorem set_voqs_lfsr (v : Tbl Voq) : (State.lfsr { s with voqs := v }) = s.lfsr := rfl
@[simp] theorem set_voqs_flt (v : Tbl Voq) : (State.flt { s with voqs := v }) = s.flt := rfl
@[simp] theorem set_voqs_twin (v : Tbl Voq) : (State.twin { s with voqs := v }) = s.twin := rfl
@[simp] theorem set_voqs_gcm (v : Tbl Voq) : (State.gcm { s with voqs := v }) = s.gcm := rfl
@[simp] theorem set_voqs_inbox (v : Tbl Voq) : (State.inbox { s with voqs := v }) = s.inbox := rfl
@[simp] theorem set_voqs_ctxs (v : Tbl Voq) : (State.ctxs { s with voqs := v }) = s.ctxs := rfl
@[simp] theorem set_voqs_engs (v : Tbl Voq) : (State.engs { s with voqs := v }) = s.engs := rfl
@[simp] theorem set_voqs_base (v : Tbl Voq) : (State.base { s with voqs := v }) = s.base := rfl
@[simp] theorem set_voqs_prog (v : Tbl Voq) : (State.prog { s with voqs := v }) = s.prog := rfl
@[simp] theorem set_voqs_pins (v : Tbl Voq) : (State.pins { s with voqs := v }) = s.pins := rfl
@[simp] theorem set_voqs_cup (v : Tbl Voq) : (State.cup { s with voqs := v }) = s.cup := rfl
@[simp] theorem set_voqs_bud (v : Tbl Voq) : (State.bud { s with voqs := v }) = s.bud := rfl
@[simp] theorem set_voqs_modeU (v : Tbl Voq) : (State.modeU { s with voqs := v }) = s.modeU := rfl
@[simp] theorem set_voqs_time (v : Tbl Voq) : (State.time { s with voqs := v }) = s.time := rfl
@[simp] theorem set_voqs_tout (v : Tbl Voq) : (State.tout { s with voqs := v }) = s.tout := rfl
@[simp] theorem set_voqs_bridge (v : Tbl Voq) : (State.bridge { s with voqs := v }) = s.bridge := rfl
@[simp] theorem set_voqs_can (v : Tbl Voq) : (State.can { s with voqs := v }) = s.can := rfl
@[simp] theorem set_voqs_usb (v : Tbl Voq) : (State.usb { s with voqs := v }) = s.usb := rfl
@[simp] theorem set_voqs_brk (v : Tbl Voq) : (State.brk { s with voqs := v }) = s.brk := rfl
@[simp] theorem set_voqs_cupSnap (v : Tbl Voq) : (State.cupSnap { s with voqs := v }) = s.cupSnap := rfl
@[simp] theorem set_voqs_flash (v : Tbl Voq) : (State.flash { s with voqs := v }) = s.flash := rfl
@[simp] theorem set_voqs_upd (v : Tbl Voq) : (State.upd { s with voqs := v }) = s.upd := rfl
@[simp] theorem set_outs_pending (v : Tbl OutPort) : (State.pending { s with outs := v }) = s.pending := rfl
@[simp] theorem set_outs_sent (v : Tbl OutPort) : (State.sent { s with outs := v }) = s.sent := rfl
@[simp] theorem set_outs_free (v : Tbl OutPort) : (State.free { s with outs := v }) = s.free := rfl
@[simp] theorem set_outs_cycle (v : Tbl OutPort) : (State.cycle { s with outs := v }) = s.cycle := rfl
@[simp] theorem set_outs_mono (v : Tbl OutPort) : (State.mono { s with outs := v }) = s.mono := rfl
@[simp] theorem set_outs_fab (v : Tbl OutPort) : (State.fab { s with outs := v }) = s.fab := rfl
@[simp] theorem set_outs_regs (v : Tbl OutPort) : (State.regs { s with outs := v }) = s.regs := rfl
@[simp] theorem set_outs_timers (v : Tbl OutPort) : (State.timers { s with outs := v }) = s.timers := rfl
@[simp] theorem set_outs_otp (v : Tbl OutPort) : (State.otp { s with outs := v }) = s.otp := rfl
@[simp] theorem set_outs_msix (v : Tbl OutPort) : (State.msix { s with outs := v }) = s.msix := rfl
@[simp] theorem set_outs_pageUnit (v : Tbl OutPort) : (State.pageUnit { s with outs := v }) = s.pageUnit := rfl
@[simp] theorem set_outs_pcie (v : Tbl OutPort) : (State.pcie { s with outs := v }) = s.pcie := rfl
@[simp] theorem set_outs_pd (v : Tbl OutPort) : (State.pd { s with outs := v }) = s.pd := rfl
@[simp] theorem set_outs_ref (v : Tbl OutPort) : (State.ref { s with outs := v }) = s.ref := rfl
@[simp] theorem set_outs_phy (v : Tbl OutPort) : (State.phy { s with outs := v }) = s.phy := rfl
@[simp] theorem set_outs_lanes (v : Tbl OutPort) : (State.lanes { s with outs := v }) = s.lanes := rfl
@[simp] theorem set_outs_win (v : Tbl OutPort) : (State.win { s with outs := v }) = s.win := rfl
@[simp] theorem set_outs_rx (v : Tbl OutPort) : (State.rx { s with outs := v }) = s.rx := rfl
@[simp] theorem set_outs_tx (v : Tbl OutPort) : (State.tx { s with outs := v }) = s.tx := rfl
@[simp] theorem set_outs_byp (v : Tbl OutPort) : (State.byp { s with outs := v }) = s.byp := rfl
@[simp] theorem set_outs_voqs (v : Tbl OutPort) : (State.voqs { s with outs := v }) = s.voqs := rfl
@[simp] theorem set_outs_outs (v : Tbl OutPort) : (State.outs { s with outs := v }) = v := rfl
@[simp] theorem set_outs_buf (v : Tbl OutPort) : (State.buf { s with outs := v }) = s.buf := rfl
@[simp] theorem set_outs_bufMem (v : Tbl OutPort) : (State.bufMem { s with outs := v }) = s.bufMem := rfl
@[simp] theorem set_outs_lfsr (v : Tbl OutPort) : (State.lfsr { s with outs := v }) = s.lfsr := rfl
@[simp] theorem set_outs_flt (v : Tbl OutPort) : (State.flt { s with outs := v }) = s.flt := rfl
@[simp] theorem set_outs_twin (v : Tbl OutPort) : (State.twin { s with outs := v }) = s.twin := rfl
@[simp] theorem set_outs_gcm (v : Tbl OutPort) : (State.gcm { s with outs := v }) = s.gcm := rfl
@[simp] theorem set_outs_inbox (v : Tbl OutPort) : (State.inbox { s with outs := v }) = s.inbox := rfl
@[simp] theorem set_outs_ctxs (v : Tbl OutPort) : (State.ctxs { s with outs := v }) = s.ctxs := rfl
@[simp] theorem set_outs_engs (v : Tbl OutPort) : (State.engs { s with outs := v }) = s.engs := rfl
@[simp] theorem set_outs_base (v : Tbl OutPort) : (State.base { s with outs := v }) = s.base := rfl
@[simp] theorem set_outs_prog (v : Tbl OutPort) : (State.prog { s with outs := v }) = s.prog := rfl
@[simp] theorem set_outs_pins (v : Tbl OutPort) : (State.pins { s with outs := v }) = s.pins := rfl
@[simp] theorem set_outs_cup (v : Tbl OutPort) : (State.cup { s with outs := v }) = s.cup := rfl
@[simp] theorem set_outs_bud (v : Tbl OutPort) : (State.bud { s with outs := v }) = s.bud := rfl
@[simp] theorem set_outs_modeU (v : Tbl OutPort) : (State.modeU { s with outs := v }) = s.modeU := rfl
@[simp] theorem set_outs_time (v : Tbl OutPort) : (State.time { s with outs := v }) = s.time := rfl
@[simp] theorem set_outs_tout (v : Tbl OutPort) : (State.tout { s with outs := v }) = s.tout := rfl
@[simp] theorem set_outs_bridge (v : Tbl OutPort) : (State.bridge { s with outs := v }) = s.bridge := rfl
@[simp] theorem set_outs_can (v : Tbl OutPort) : (State.can { s with outs := v }) = s.can := rfl
@[simp] theorem set_outs_usb (v : Tbl OutPort) : (State.usb { s with outs := v }) = s.usb := rfl
@[simp] theorem set_outs_brk (v : Tbl OutPort) : (State.brk { s with outs := v }) = s.brk := rfl
@[simp] theorem set_outs_cupSnap (v : Tbl OutPort) : (State.cupSnap { s with outs := v }) = s.cupSnap := rfl
@[simp] theorem set_outs_flash (v : Tbl OutPort) : (State.flash { s with outs := v }) = s.flash := rfl
@[simp] theorem set_outs_upd (v : Tbl OutPort) : (State.upd { s with outs := v }) = s.upd := rfl
@[simp] theorem set_buf_pending (v : BufUnit) : (State.pending { s with buf := v }) = s.pending := rfl
@[simp] theorem set_buf_sent (v : BufUnit) : (State.sent { s with buf := v }) = s.sent := rfl
@[simp] theorem set_buf_free (v : BufUnit) : (State.free { s with buf := v }) = s.free := rfl
@[simp] theorem set_buf_cycle (v : BufUnit) : (State.cycle { s with buf := v }) = s.cycle := rfl
@[simp] theorem set_buf_mono (v : BufUnit) : (State.mono { s with buf := v }) = s.mono := rfl
@[simp] theorem set_buf_fab (v : BufUnit) : (State.fab { s with buf := v }) = s.fab := rfl
@[simp] theorem set_buf_regs (v : BufUnit) : (State.regs { s with buf := v }) = s.regs := rfl
@[simp] theorem set_buf_timers (v : BufUnit) : (State.timers { s with buf := v }) = s.timers := rfl
@[simp] theorem set_buf_otp (v : BufUnit) : (State.otp { s with buf := v }) = s.otp := rfl
@[simp] theorem set_buf_msix (v : BufUnit) : (State.msix { s with buf := v }) = s.msix := rfl
@[simp] theorem set_buf_pageUnit (v : BufUnit) : (State.pageUnit { s with buf := v }) = s.pageUnit := rfl
@[simp] theorem set_buf_pcie (v : BufUnit) : (State.pcie { s with buf := v }) = s.pcie := rfl
@[simp] theorem set_buf_pd (v : BufUnit) : (State.pd { s with buf := v }) = s.pd := rfl
@[simp] theorem set_buf_ref (v : BufUnit) : (State.ref { s with buf := v }) = s.ref := rfl
@[simp] theorem set_buf_phy (v : BufUnit) : (State.phy { s with buf := v }) = s.phy := rfl
@[simp] theorem set_buf_lanes (v : BufUnit) : (State.lanes { s with buf := v }) = s.lanes := rfl
@[simp] theorem set_buf_win (v : BufUnit) : (State.win { s with buf := v }) = s.win := rfl
@[simp] theorem set_buf_rx (v : BufUnit) : (State.rx { s with buf := v }) = s.rx := rfl
@[simp] theorem set_buf_tx (v : BufUnit) : (State.tx { s with buf := v }) = s.tx := rfl
@[simp] theorem set_buf_byp (v : BufUnit) : (State.byp { s with buf := v }) = s.byp := rfl
@[simp] theorem set_buf_voqs (v : BufUnit) : (State.voqs { s with buf := v }) = s.voqs := rfl
@[simp] theorem set_buf_outs (v : BufUnit) : (State.outs { s with buf := v }) = s.outs := rfl
@[simp] theorem set_buf_buf (v : BufUnit) : (State.buf { s with buf := v }) = v := rfl
@[simp] theorem set_buf_bufMem (v : BufUnit) : (State.bufMem { s with buf := v }) = s.bufMem := rfl
@[simp] theorem set_buf_lfsr (v : BufUnit) : (State.lfsr { s with buf := v }) = s.lfsr := rfl
@[simp] theorem set_buf_flt (v : BufUnit) : (State.flt { s with buf := v }) = s.flt := rfl
@[simp] theorem set_buf_twin (v : BufUnit) : (State.twin { s with buf := v }) = s.twin := rfl
@[simp] theorem set_buf_gcm (v : BufUnit) : (State.gcm { s with buf := v }) = s.gcm := rfl
@[simp] theorem set_buf_inbox (v : BufUnit) : (State.inbox { s with buf := v }) = s.inbox := rfl
@[simp] theorem set_buf_ctxs (v : BufUnit) : (State.ctxs { s with buf := v }) = s.ctxs := rfl
@[simp] theorem set_buf_engs (v : BufUnit) : (State.engs { s with buf := v }) = s.engs := rfl
@[simp] theorem set_buf_base (v : BufUnit) : (State.base { s with buf := v }) = s.base := rfl
@[simp] theorem set_buf_prog (v : BufUnit) : (State.prog { s with buf := v }) = s.prog := rfl
@[simp] theorem set_buf_pins (v : BufUnit) : (State.pins { s with buf := v }) = s.pins := rfl
@[simp] theorem set_buf_cup (v : BufUnit) : (State.cup { s with buf := v }) = s.cup := rfl
@[simp] theorem set_buf_bud (v : BufUnit) : (State.bud { s with buf := v }) = s.bud := rfl
@[simp] theorem set_buf_modeU (v : BufUnit) : (State.modeU { s with buf := v }) = s.modeU := rfl
@[simp] theorem set_buf_time (v : BufUnit) : (State.time { s with buf := v }) = s.time := rfl
@[simp] theorem set_buf_tout (v : BufUnit) : (State.tout { s with buf := v }) = s.tout := rfl
@[simp] theorem set_buf_bridge (v : BufUnit) : (State.bridge { s with buf := v }) = s.bridge := rfl
@[simp] theorem set_buf_can (v : BufUnit) : (State.can { s with buf := v }) = s.can := rfl
@[simp] theorem set_buf_usb (v : BufUnit) : (State.usb { s with buf := v }) = s.usb := rfl
@[simp] theorem set_buf_brk (v : BufUnit) : (State.brk { s with buf := v }) = s.brk := rfl
@[simp] theorem set_buf_cupSnap (v : BufUnit) : (State.cupSnap { s with buf := v }) = s.cupSnap := rfl
@[simp] theorem set_buf_flash (v : BufUnit) : (State.flash { s with buf := v }) = s.flash := rfl
@[simp] theorem set_buf_upd (v : BufUnit) : (State.upd { s with buf := v }) = s.upd := rfl
@[simp] theorem set_bufMem_pending (v : List Host.Cell) : (State.pending { s with bufMem := v }) = s.pending := rfl
@[simp] theorem set_bufMem_sent (v : List Host.Cell) : (State.sent { s with bufMem := v }) = s.sent := rfl
@[simp] theorem set_bufMem_free (v : List Host.Cell) : (State.free { s with bufMem := v }) = s.free := rfl
@[simp] theorem set_bufMem_cycle (v : List Host.Cell) : (State.cycle { s with bufMem := v }) = s.cycle := rfl
@[simp] theorem set_bufMem_mono (v : List Host.Cell) : (State.mono { s with bufMem := v }) = s.mono := rfl
@[simp] theorem set_bufMem_fab (v : List Host.Cell) : (State.fab { s with bufMem := v }) = s.fab := rfl
@[simp] theorem set_bufMem_regs (v : List Host.Cell) : (State.regs { s with bufMem := v }) = s.regs := rfl
@[simp] theorem set_bufMem_timers (v : List Host.Cell) : (State.timers { s with bufMem := v }) = s.timers := rfl
@[simp] theorem set_bufMem_otp (v : List Host.Cell) : (State.otp { s with bufMem := v }) = s.otp := rfl
@[simp] theorem set_bufMem_msix (v : List Host.Cell) : (State.msix { s with bufMem := v }) = s.msix := rfl
@[simp] theorem set_bufMem_pageUnit (v : List Host.Cell) : (State.pageUnit { s with bufMem := v }) = s.pageUnit := rfl
@[simp] theorem set_bufMem_pcie (v : List Host.Cell) : (State.pcie { s with bufMem := v }) = s.pcie := rfl
@[simp] theorem set_bufMem_pd (v : List Host.Cell) : (State.pd { s with bufMem := v }) = s.pd := rfl
@[simp] theorem set_bufMem_ref (v : List Host.Cell) : (State.ref { s with bufMem := v }) = s.ref := rfl
@[simp] theorem set_bufMem_phy (v : List Host.Cell) : (State.phy { s with bufMem := v }) = s.phy := rfl
@[simp] theorem set_bufMem_lanes (v : List Host.Cell) : (State.lanes { s with bufMem := v }) = s.lanes := rfl
@[simp] theorem set_bufMem_win (v : List Host.Cell) : (State.win { s with bufMem := v }) = s.win := rfl
@[simp] theorem set_bufMem_rx (v : List Host.Cell) : (State.rx { s with bufMem := v }) = s.rx := rfl
@[simp] theorem set_bufMem_tx (v : List Host.Cell) : (State.tx { s with bufMem := v }) = s.tx := rfl
@[simp] theorem set_bufMem_byp (v : List Host.Cell) : (State.byp { s with bufMem := v }) = s.byp := rfl
@[simp] theorem set_bufMem_voqs (v : List Host.Cell) : (State.voqs { s with bufMem := v }) = s.voqs := rfl
@[simp] theorem set_bufMem_outs (v : List Host.Cell) : (State.outs { s with bufMem := v }) = s.outs := rfl
@[simp] theorem set_bufMem_buf (v : List Host.Cell) : (State.buf { s with bufMem := v }) = s.buf := rfl
@[simp] theorem set_bufMem_bufMem (v : List Host.Cell) : (State.bufMem { s with bufMem := v }) = v := rfl
@[simp] theorem set_bufMem_lfsr (v : List Host.Cell) : (State.lfsr { s with bufMem := v }) = s.lfsr := rfl
@[simp] theorem set_bufMem_flt (v : List Host.Cell) : (State.flt { s with bufMem := v }) = s.flt := rfl
@[simp] theorem set_bufMem_twin (v : List Host.Cell) : (State.twin { s with bufMem := v }) = s.twin := rfl
@[simp] theorem set_bufMem_gcm (v : List Host.Cell) : (State.gcm { s with bufMem := v }) = s.gcm := rfl
@[simp] theorem set_bufMem_inbox (v : List Host.Cell) : (State.inbox { s with bufMem := v }) = s.inbox := rfl
@[simp] theorem set_bufMem_ctxs (v : List Host.Cell) : (State.ctxs { s with bufMem := v }) = s.ctxs := rfl
@[simp] theorem set_bufMem_engs (v : List Host.Cell) : (State.engs { s with bufMem := v }) = s.engs := rfl
@[simp] theorem set_bufMem_base (v : List Host.Cell) : (State.base { s with bufMem := v }) = s.base := rfl
@[simp] theorem set_bufMem_prog (v : List Host.Cell) : (State.prog { s with bufMem := v }) = s.prog := rfl
@[simp] theorem set_bufMem_pins (v : List Host.Cell) : (State.pins { s with bufMem := v }) = s.pins := rfl
@[simp] theorem set_bufMem_cup (v : List Host.Cell) : (State.cup { s with bufMem := v }) = s.cup := rfl
@[simp] theorem set_bufMem_bud (v : List Host.Cell) : (State.bud { s with bufMem := v }) = s.bud := rfl
@[simp] theorem set_bufMem_modeU (v : List Host.Cell) : (State.modeU { s with bufMem := v }) = s.modeU := rfl
@[simp] theorem set_bufMem_time (v : List Host.Cell) : (State.time { s with bufMem := v }) = s.time := rfl
@[simp] theorem set_bufMem_tout (v : List Host.Cell) : (State.tout { s with bufMem := v }) = s.tout := rfl
@[simp] theorem set_bufMem_bridge (v : List Host.Cell) : (State.bridge { s with bufMem := v }) = s.bridge := rfl
@[simp] theorem set_bufMem_can (v : List Host.Cell) : (State.can { s with bufMem := v }) = s.can := rfl
@[simp] theorem set_bufMem_usb (v : List Host.Cell) : (State.usb { s with bufMem := v }) = s.usb := rfl
@[simp] theorem set_bufMem_brk (v : List Host.Cell) : (State.brk { s with bufMem := v }) = s.brk := rfl
@[simp] theorem set_bufMem_cupSnap (v : List Host.Cell) : (State.cupSnap { s with bufMem := v }) = s.cupSnap := rfl
@[simp] theorem set_bufMem_flash (v : List Host.Cell) : (State.flash { s with bufMem := v }) = s.flash := rfl
@[simp] theorem set_bufMem_upd (v : List Host.Cell) : (State.upd { s with bufMem := v }) = s.upd := rfl
@[simp] theorem set_lfsr_pending (v : List Nat) : (State.pending { s with lfsr := v }) = s.pending := rfl
@[simp] theorem set_lfsr_sent (v : List Nat) : (State.sent { s with lfsr := v }) = s.sent := rfl
@[simp] theorem set_lfsr_free (v : List Nat) : (State.free { s with lfsr := v }) = s.free := rfl
@[simp] theorem set_lfsr_cycle (v : List Nat) : (State.cycle { s with lfsr := v }) = s.cycle := rfl
@[simp] theorem set_lfsr_mono (v : List Nat) : (State.mono { s with lfsr := v }) = s.mono := rfl
@[simp] theorem set_lfsr_fab (v : List Nat) : (State.fab { s with lfsr := v }) = s.fab := rfl
@[simp] theorem set_lfsr_regs (v : List Nat) : (State.regs { s with lfsr := v }) = s.regs := rfl
@[simp] theorem set_lfsr_timers (v : List Nat) : (State.timers { s with lfsr := v }) = s.timers := rfl
@[simp] theorem set_lfsr_otp (v : List Nat) : (State.otp { s with lfsr := v }) = s.otp := rfl
@[simp] theorem set_lfsr_msix (v : List Nat) : (State.msix { s with lfsr := v }) = s.msix := rfl
@[simp] theorem set_lfsr_pageUnit (v : List Nat) : (State.pageUnit { s with lfsr := v }) = s.pageUnit := rfl
@[simp] theorem set_lfsr_pcie (v : List Nat) : (State.pcie { s with lfsr := v }) = s.pcie := rfl
@[simp] theorem set_lfsr_pd (v : List Nat) : (State.pd { s with lfsr := v }) = s.pd := rfl
@[simp] theorem set_lfsr_ref (v : List Nat) : (State.ref { s with lfsr := v }) = s.ref := rfl
@[simp] theorem set_lfsr_phy (v : List Nat) : (State.phy { s with lfsr := v }) = s.phy := rfl
@[simp] theorem set_lfsr_lanes (v : List Nat) : (State.lanes { s with lfsr := v }) = s.lanes := rfl
@[simp] theorem set_lfsr_win (v : List Nat) : (State.win { s with lfsr := v }) = s.win := rfl
@[simp] theorem set_lfsr_rx (v : List Nat) : (State.rx { s with lfsr := v }) = s.rx := rfl
@[simp] theorem set_lfsr_tx (v : List Nat) : (State.tx { s with lfsr := v }) = s.tx := rfl
@[simp] theorem set_lfsr_byp (v : List Nat) : (State.byp { s with lfsr := v }) = s.byp := rfl
@[simp] theorem set_lfsr_voqs (v : List Nat) : (State.voqs { s with lfsr := v }) = s.voqs := rfl
@[simp] theorem set_lfsr_outs (v : List Nat) : (State.outs { s with lfsr := v }) = s.outs := rfl
@[simp] theorem set_lfsr_buf (v : List Nat) : (State.buf { s with lfsr := v }) = s.buf := rfl
@[simp] theorem set_lfsr_bufMem (v : List Nat) : (State.bufMem { s with lfsr := v }) = s.bufMem := rfl
@[simp] theorem set_lfsr_lfsr (v : List Nat) : (State.lfsr { s with lfsr := v }) = v := rfl
@[simp] theorem set_lfsr_flt (v : List Nat) : (State.flt { s with lfsr := v }) = s.flt := rfl
@[simp] theorem set_lfsr_twin (v : List Nat) : (State.twin { s with lfsr := v }) = s.twin := rfl
@[simp] theorem set_lfsr_gcm (v : List Nat) : (State.gcm { s with lfsr := v }) = s.gcm := rfl
@[simp] theorem set_lfsr_inbox (v : List Nat) : (State.inbox { s with lfsr := v }) = s.inbox := rfl
@[simp] theorem set_lfsr_ctxs (v : List Nat) : (State.ctxs { s with lfsr := v }) = s.ctxs := rfl
@[simp] theorem set_lfsr_engs (v : List Nat) : (State.engs { s with lfsr := v }) = s.engs := rfl
@[simp] theorem set_lfsr_base (v : List Nat) : (State.base { s with lfsr := v }) = s.base := rfl
@[simp] theorem set_lfsr_prog (v : List Nat) : (State.prog { s with lfsr := v }) = s.prog := rfl
@[simp] theorem set_lfsr_pins (v : List Nat) : (State.pins { s with lfsr := v }) = s.pins := rfl
@[simp] theorem set_lfsr_cup (v : List Nat) : (State.cup { s with lfsr := v }) = s.cup := rfl
@[simp] theorem set_lfsr_bud (v : List Nat) : (State.bud { s with lfsr := v }) = s.bud := rfl
@[simp] theorem set_lfsr_modeU (v : List Nat) : (State.modeU { s with lfsr := v }) = s.modeU := rfl
@[simp] theorem set_lfsr_time (v : List Nat) : (State.time { s with lfsr := v }) = s.time := rfl
@[simp] theorem set_lfsr_tout (v : List Nat) : (State.tout { s with lfsr := v }) = s.tout := rfl
@[simp] theorem set_lfsr_bridge (v : List Nat) : (State.bridge { s with lfsr := v }) = s.bridge := rfl
@[simp] theorem set_lfsr_can (v : List Nat) : (State.can { s with lfsr := v }) = s.can := rfl
@[simp] theorem set_lfsr_usb (v : List Nat) : (State.usb { s with lfsr := v }) = s.usb := rfl
@[simp] theorem set_lfsr_brk (v : List Nat) : (State.brk { s with lfsr := v }) = s.brk := rfl
@[simp] theorem set_lfsr_cupSnap (v : List Nat) : (State.cupSnap { s with lfsr := v }) = s.cupSnap := rfl
@[simp] theorem set_lfsr_flash (v : List Nat) : (State.flash { s with lfsr := v }) = s.flash := rfl
@[simp] theorem set_lfsr_upd (v : List Nat) : (State.upd { s with lfsr := v }) = s.upd := rfl
@[simp] theorem set_flt_pending (v : FaultUnit) : (State.pending { s with flt := v }) = s.pending := rfl
@[simp] theorem set_flt_sent (v : FaultUnit) : (State.sent { s with flt := v }) = s.sent := rfl
@[simp] theorem set_flt_free (v : FaultUnit) : (State.free { s with flt := v }) = s.free := rfl
@[simp] theorem set_flt_cycle (v : FaultUnit) : (State.cycle { s with flt := v }) = s.cycle := rfl
@[simp] theorem set_flt_mono (v : FaultUnit) : (State.mono { s with flt := v }) = s.mono := rfl
@[simp] theorem set_flt_fab (v : FaultUnit) : (State.fab { s with flt := v }) = s.fab := rfl
@[simp] theorem set_flt_regs (v : FaultUnit) : (State.regs { s with flt := v }) = s.regs := rfl
@[simp] theorem set_flt_timers (v : FaultUnit) : (State.timers { s with flt := v }) = s.timers := rfl
@[simp] theorem set_flt_otp (v : FaultUnit) : (State.otp { s with flt := v }) = s.otp := rfl
@[simp] theorem set_flt_msix (v : FaultUnit) : (State.msix { s with flt := v }) = s.msix := rfl
@[simp] theorem set_flt_pageUnit (v : FaultUnit) : (State.pageUnit { s with flt := v }) = s.pageUnit := rfl
@[simp] theorem set_flt_pcie (v : FaultUnit) : (State.pcie { s with flt := v }) = s.pcie := rfl
@[simp] theorem set_flt_pd (v : FaultUnit) : (State.pd { s with flt := v }) = s.pd := rfl
@[simp] theorem set_flt_ref (v : FaultUnit) : (State.ref { s with flt := v }) = s.ref := rfl
@[simp] theorem set_flt_phy (v : FaultUnit) : (State.phy { s with flt := v }) = s.phy := rfl
@[simp] theorem set_flt_lanes (v : FaultUnit) : (State.lanes { s with flt := v }) = s.lanes := rfl
@[simp] theorem set_flt_win (v : FaultUnit) : (State.win { s with flt := v }) = s.win := rfl
@[simp] theorem set_flt_rx (v : FaultUnit) : (State.rx { s with flt := v }) = s.rx := rfl
@[simp] theorem set_flt_tx (v : FaultUnit) : (State.tx { s with flt := v }) = s.tx := rfl
@[simp] theorem set_flt_byp (v : FaultUnit) : (State.byp { s with flt := v }) = s.byp := rfl
@[simp] theorem set_flt_voqs (v : FaultUnit) : (State.voqs { s with flt := v }) = s.voqs := rfl
@[simp] theorem set_flt_outs (v : FaultUnit) : (State.outs { s with flt := v }) = s.outs := rfl
@[simp] theorem set_flt_buf (v : FaultUnit) : (State.buf { s with flt := v }) = s.buf := rfl
@[simp] theorem set_flt_bufMem (v : FaultUnit) : (State.bufMem { s with flt := v }) = s.bufMem := rfl
@[simp] theorem set_flt_lfsr (v : FaultUnit) : (State.lfsr { s with flt := v }) = s.lfsr := rfl
@[simp] theorem set_flt_flt (v : FaultUnit) : (State.flt { s with flt := v }) = v := rfl
@[simp] theorem set_flt_twin (v : FaultUnit) : (State.twin { s with flt := v }) = s.twin := rfl
@[simp] theorem set_flt_gcm (v : FaultUnit) : (State.gcm { s with flt := v }) = s.gcm := rfl
@[simp] theorem set_flt_inbox (v : FaultUnit) : (State.inbox { s with flt := v }) = s.inbox := rfl
@[simp] theorem set_flt_ctxs (v : FaultUnit) : (State.ctxs { s with flt := v }) = s.ctxs := rfl
@[simp] theorem set_flt_engs (v : FaultUnit) : (State.engs { s with flt := v }) = s.engs := rfl
@[simp] theorem set_flt_base (v : FaultUnit) : (State.base { s with flt := v }) = s.base := rfl
@[simp] theorem set_flt_prog (v : FaultUnit) : (State.prog { s with flt := v }) = s.prog := rfl
@[simp] theorem set_flt_pins (v : FaultUnit) : (State.pins { s with flt := v }) = s.pins := rfl
@[simp] theorem set_flt_cup (v : FaultUnit) : (State.cup { s with flt := v }) = s.cup := rfl
@[simp] theorem set_flt_bud (v : FaultUnit) : (State.bud { s with flt := v }) = s.bud := rfl
@[simp] theorem set_flt_modeU (v : FaultUnit) : (State.modeU { s with flt := v }) = s.modeU := rfl
@[simp] theorem set_flt_time (v : FaultUnit) : (State.time { s with flt := v }) = s.time := rfl
@[simp] theorem set_flt_tout (v : FaultUnit) : (State.tout { s with flt := v }) = s.tout := rfl
@[simp] theorem set_flt_bridge (v : FaultUnit) : (State.bridge { s with flt := v }) = s.bridge := rfl
@[simp] theorem set_flt_can (v : FaultUnit) : (State.can { s with flt := v }) = s.can := rfl
@[simp] theorem set_flt_usb (v : FaultUnit) : (State.usb { s with flt := v }) = s.usb := rfl
@[simp] theorem set_flt_brk (v : FaultUnit) : (State.brk { s with flt := v }) = s.brk := rfl
@[simp] theorem set_flt_cupSnap (v : FaultUnit) : (State.cupSnap { s with flt := v }) = s.cupSnap := rfl
@[simp] theorem set_flt_flash (v : FaultUnit) : (State.flash { s with flt := v }) = s.flash := rfl
@[simp] theorem set_flt_upd (v : FaultUnit) : (State.upd { s with flt := v }) = s.upd := rfl
@[simp] theorem set_twin_pending (v : TwinUnit) : (State.pending { s with twin := v }) = s.pending := rfl
@[simp] theorem set_twin_sent (v : TwinUnit) : (State.sent { s with twin := v }) = s.sent := rfl
@[simp] theorem set_twin_free (v : TwinUnit) : (State.free { s with twin := v }) = s.free := rfl
@[simp] theorem set_twin_cycle (v : TwinUnit) : (State.cycle { s with twin := v }) = s.cycle := rfl
@[simp] theorem set_twin_mono (v : TwinUnit) : (State.mono { s with twin := v }) = s.mono := rfl
@[simp] theorem set_twin_fab (v : TwinUnit) : (State.fab { s with twin := v }) = s.fab := rfl
@[simp] theorem set_twin_regs (v : TwinUnit) : (State.regs { s with twin := v }) = s.regs := rfl
@[simp] theorem set_twin_timers (v : TwinUnit) : (State.timers { s with twin := v }) = s.timers := rfl
@[simp] theorem set_twin_otp (v : TwinUnit) : (State.otp { s with twin := v }) = s.otp := rfl
@[simp] theorem set_twin_msix (v : TwinUnit) : (State.msix { s with twin := v }) = s.msix := rfl
@[simp] theorem set_twin_pageUnit (v : TwinUnit) : (State.pageUnit { s with twin := v }) = s.pageUnit := rfl
@[simp] theorem set_twin_pcie (v : TwinUnit) : (State.pcie { s with twin := v }) = s.pcie := rfl
@[simp] theorem set_twin_pd (v : TwinUnit) : (State.pd { s with twin := v }) = s.pd := rfl
@[simp] theorem set_twin_ref (v : TwinUnit) : (State.ref { s with twin := v }) = s.ref := rfl
@[simp] theorem set_twin_phy (v : TwinUnit) : (State.phy { s with twin := v }) = s.phy := rfl
@[simp] theorem set_twin_lanes (v : TwinUnit) : (State.lanes { s with twin := v }) = s.lanes := rfl
@[simp] theorem set_twin_win (v : TwinUnit) : (State.win { s with twin := v }) = s.win := rfl
@[simp] theorem set_twin_rx (v : TwinUnit) : (State.rx { s with twin := v }) = s.rx := rfl
@[simp] theorem set_twin_tx (v : TwinUnit) : (State.tx { s with twin := v }) = s.tx := rfl
@[simp] theorem set_twin_byp (v : TwinUnit) : (State.byp { s with twin := v }) = s.byp := rfl
@[simp] theorem set_twin_voqs (v : TwinUnit) : (State.voqs { s with twin := v }) = s.voqs := rfl
@[simp] theorem set_twin_outs (v : TwinUnit) : (State.outs { s with twin := v }) = s.outs := rfl
@[simp] theorem set_twin_buf (v : TwinUnit) : (State.buf { s with twin := v }) = s.buf := rfl
@[simp] theorem set_twin_bufMem (v : TwinUnit) : (State.bufMem { s with twin := v }) = s.bufMem := rfl
@[simp] theorem set_twin_lfsr (v : TwinUnit) : (State.lfsr { s with twin := v }) = s.lfsr := rfl
@[simp] theorem set_twin_flt (v : TwinUnit) : (State.flt { s with twin := v }) = s.flt := rfl
@[simp] theorem set_twin_twin (v : TwinUnit) : (State.twin { s with twin := v }) = v := rfl
@[simp] theorem set_twin_gcm (v : TwinUnit) : (State.gcm { s with twin := v }) = s.gcm := rfl
@[simp] theorem set_twin_inbox (v : TwinUnit) : (State.inbox { s with twin := v }) = s.inbox := rfl
@[simp] theorem set_twin_ctxs (v : TwinUnit) : (State.ctxs { s with twin := v }) = s.ctxs := rfl
@[simp] theorem set_twin_engs (v : TwinUnit) : (State.engs { s with twin := v }) = s.engs := rfl
@[simp] theorem set_twin_base (v : TwinUnit) : (State.base { s with twin := v }) = s.base := rfl
@[simp] theorem set_twin_prog (v : TwinUnit) : (State.prog { s with twin := v }) = s.prog := rfl
@[simp] theorem set_twin_pins (v : TwinUnit) : (State.pins { s with twin := v }) = s.pins := rfl
@[simp] theorem set_twin_cup (v : TwinUnit) : (State.cup { s with twin := v }) = s.cup := rfl
@[simp] theorem set_twin_bud (v : TwinUnit) : (State.bud { s with twin := v }) = s.bud := rfl
@[simp] theorem set_twin_modeU (v : TwinUnit) : (State.modeU { s with twin := v }) = s.modeU := rfl
@[simp] theorem set_twin_time (v : TwinUnit) : (State.time { s with twin := v }) = s.time := rfl
@[simp] theorem set_twin_tout (v : TwinUnit) : (State.tout { s with twin := v }) = s.tout := rfl
@[simp] theorem set_twin_bridge (v : TwinUnit) : (State.bridge { s with twin := v }) = s.bridge := rfl
@[simp] theorem set_twin_can (v : TwinUnit) : (State.can { s with twin := v }) = s.can := rfl
@[simp] theorem set_twin_usb (v : TwinUnit) : (State.usb { s with twin := v }) = s.usb := rfl
@[simp] theorem set_twin_brk (v : TwinUnit) : (State.brk { s with twin := v }) = s.brk := rfl
@[simp] theorem set_twin_cupSnap (v : TwinUnit) : (State.cupSnap { s with twin := v }) = s.cupSnap := rfl
@[simp] theorem set_twin_flash (v : TwinUnit) : (State.flash { s with twin := v }) = s.flash := rfl
@[simp] theorem set_twin_upd (v : TwinUnit) : (State.upd { s with twin := v }) = s.upd := rfl
@[simp] theorem set_gcm_pending (v : GcmUnit) : (State.pending { s with gcm := v }) = s.pending := rfl
@[simp] theorem set_gcm_sent (v : GcmUnit) : (State.sent { s with gcm := v }) = s.sent := rfl
@[simp] theorem set_gcm_free (v : GcmUnit) : (State.free { s with gcm := v }) = s.free := rfl
@[simp] theorem set_gcm_cycle (v : GcmUnit) : (State.cycle { s with gcm := v }) = s.cycle := rfl
@[simp] theorem set_gcm_mono (v : GcmUnit) : (State.mono { s with gcm := v }) = s.mono := rfl
@[simp] theorem set_gcm_fab (v : GcmUnit) : (State.fab { s with gcm := v }) = s.fab := rfl
@[simp] theorem set_gcm_regs (v : GcmUnit) : (State.regs { s with gcm := v }) = s.regs := rfl
@[simp] theorem set_gcm_timers (v : GcmUnit) : (State.timers { s with gcm := v }) = s.timers := rfl
@[simp] theorem set_gcm_otp (v : GcmUnit) : (State.otp { s with gcm := v }) = s.otp := rfl
@[simp] theorem set_gcm_msix (v : GcmUnit) : (State.msix { s with gcm := v }) = s.msix := rfl
@[simp] theorem set_gcm_pageUnit (v : GcmUnit) : (State.pageUnit { s with gcm := v }) = s.pageUnit := rfl
@[simp] theorem set_gcm_pcie (v : GcmUnit) : (State.pcie { s with gcm := v }) = s.pcie := rfl
@[simp] theorem set_gcm_pd (v : GcmUnit) : (State.pd { s with gcm := v }) = s.pd := rfl
@[simp] theorem set_gcm_ref (v : GcmUnit) : (State.ref { s with gcm := v }) = s.ref := rfl
@[simp] theorem set_gcm_phy (v : GcmUnit) : (State.phy { s with gcm := v }) = s.phy := rfl
@[simp] theorem set_gcm_lanes (v : GcmUnit) : (State.lanes { s with gcm := v }) = s.lanes := rfl
@[simp] theorem set_gcm_win (v : GcmUnit) : (State.win { s with gcm := v }) = s.win := rfl
@[simp] theorem set_gcm_rx (v : GcmUnit) : (State.rx { s with gcm := v }) = s.rx := rfl
@[simp] theorem set_gcm_tx (v : GcmUnit) : (State.tx { s with gcm := v }) = s.tx := rfl
@[simp] theorem set_gcm_byp (v : GcmUnit) : (State.byp { s with gcm := v }) = s.byp := rfl
@[simp] theorem set_gcm_voqs (v : GcmUnit) : (State.voqs { s with gcm := v }) = s.voqs := rfl
@[simp] theorem set_gcm_outs (v : GcmUnit) : (State.outs { s with gcm := v }) = s.outs := rfl
@[simp] theorem set_gcm_buf (v : GcmUnit) : (State.buf { s with gcm := v }) = s.buf := rfl
@[simp] theorem set_gcm_bufMem (v : GcmUnit) : (State.bufMem { s with gcm := v }) = s.bufMem := rfl
@[simp] theorem set_gcm_lfsr (v : GcmUnit) : (State.lfsr { s with gcm := v }) = s.lfsr := rfl
@[simp] theorem set_gcm_flt (v : GcmUnit) : (State.flt { s with gcm := v }) = s.flt := rfl
@[simp] theorem set_gcm_twin (v : GcmUnit) : (State.twin { s with gcm := v }) = s.twin := rfl
@[simp] theorem set_gcm_gcm (v : GcmUnit) : (State.gcm { s with gcm := v }) = v := rfl
@[simp] theorem set_gcm_inbox (v : GcmUnit) : (State.inbox { s with gcm := v }) = s.inbox := rfl
@[simp] theorem set_gcm_ctxs (v : GcmUnit) : (State.ctxs { s with gcm := v }) = s.ctxs := rfl
@[simp] theorem set_gcm_engs (v : GcmUnit) : (State.engs { s with gcm := v }) = s.engs := rfl
@[simp] theorem set_gcm_base (v : GcmUnit) : (State.base { s with gcm := v }) = s.base := rfl
@[simp] theorem set_gcm_prog (v : GcmUnit) : (State.prog { s with gcm := v }) = s.prog := rfl
@[simp] theorem set_gcm_pins (v : GcmUnit) : (State.pins { s with gcm := v }) = s.pins := rfl
@[simp] theorem set_gcm_cup (v : GcmUnit) : (State.cup { s with gcm := v }) = s.cup := rfl
@[simp] theorem set_gcm_bud (v : GcmUnit) : (State.bud { s with gcm := v }) = s.bud := rfl
@[simp] theorem set_gcm_modeU (v : GcmUnit) : (State.modeU { s with gcm := v }) = s.modeU := rfl
@[simp] theorem set_gcm_time (v : GcmUnit) : (State.time { s with gcm := v }) = s.time := rfl
@[simp] theorem set_gcm_tout (v : GcmUnit) : (State.tout { s with gcm := v }) = s.tout := rfl
@[simp] theorem set_gcm_bridge (v : GcmUnit) : (State.bridge { s with gcm := v }) = s.bridge := rfl
@[simp] theorem set_gcm_can (v : GcmUnit) : (State.can { s with gcm := v }) = s.can := rfl
@[simp] theorem set_gcm_usb (v : GcmUnit) : (State.usb { s with gcm := v }) = s.usb := rfl
@[simp] theorem set_gcm_brk (v : GcmUnit) : (State.brk { s with gcm := v }) = s.brk := rfl
@[simp] theorem set_gcm_cupSnap (v : GcmUnit) : (State.cupSnap { s with gcm := v }) = s.cupSnap := rfl
@[simp] theorem set_gcm_flash (v : GcmUnit) : (State.flash { s with gcm := v }) = s.flash := rfl
@[simp] theorem set_gcm_upd (v : GcmUnit) : (State.upd { s with gcm := v }) = s.upd := rfl
@[simp] theorem set_inbox_pending (v : List (Nat × Frame)) : (State.pending { s with inbox := v }) = s.pending := rfl
@[simp] theorem set_inbox_sent (v : List (Nat × Frame)) : (State.sent { s with inbox := v }) = s.sent := rfl
@[simp] theorem set_inbox_free (v : List (Nat × Frame)) : (State.free { s with inbox := v }) = s.free := rfl
@[simp] theorem set_inbox_cycle (v : List (Nat × Frame)) : (State.cycle { s with inbox := v }) = s.cycle := rfl
@[simp] theorem set_inbox_mono (v : List (Nat × Frame)) : (State.mono { s with inbox := v }) = s.mono := rfl
@[simp] theorem set_inbox_fab (v : List (Nat × Frame)) : (State.fab { s with inbox := v }) = s.fab := rfl
@[simp] theorem set_inbox_regs (v : List (Nat × Frame)) : (State.regs { s with inbox := v }) = s.regs := rfl
@[simp] theorem set_inbox_timers (v : List (Nat × Frame)) : (State.timers { s with inbox := v }) = s.timers := rfl
@[simp] theorem set_inbox_otp (v : List (Nat × Frame)) : (State.otp { s with inbox := v }) = s.otp := rfl
@[simp] theorem set_inbox_msix (v : List (Nat × Frame)) : (State.msix { s with inbox := v }) = s.msix := rfl
@[simp] theorem set_inbox_pageUnit (v : List (Nat × Frame)) : (State.pageUnit { s with inbox := v }) = s.pageUnit := rfl
@[simp] theorem set_inbox_pcie (v : List (Nat × Frame)) : (State.pcie { s with inbox := v }) = s.pcie := rfl
@[simp] theorem set_inbox_pd (v : List (Nat × Frame)) : (State.pd { s with inbox := v }) = s.pd := rfl
@[simp] theorem set_inbox_ref (v : List (Nat × Frame)) : (State.ref { s with inbox := v }) = s.ref := rfl
@[simp] theorem set_inbox_phy (v : List (Nat × Frame)) : (State.phy { s with inbox := v }) = s.phy := rfl
@[simp] theorem set_inbox_lanes (v : List (Nat × Frame)) : (State.lanes { s with inbox := v }) = s.lanes := rfl
@[simp] theorem set_inbox_win (v : List (Nat × Frame)) : (State.win { s with inbox := v }) = s.win := rfl
@[simp] theorem set_inbox_rx (v : List (Nat × Frame)) : (State.rx { s with inbox := v }) = s.rx := rfl
@[simp] theorem set_inbox_tx (v : List (Nat × Frame)) : (State.tx { s with inbox := v }) = s.tx := rfl
@[simp] theorem set_inbox_byp (v : List (Nat × Frame)) : (State.byp { s with inbox := v }) = s.byp := rfl
@[simp] theorem set_inbox_voqs (v : List (Nat × Frame)) : (State.voqs { s with inbox := v }) = s.voqs := rfl
@[simp] theorem set_inbox_outs (v : List (Nat × Frame)) : (State.outs { s with inbox := v }) = s.outs := rfl
@[simp] theorem set_inbox_buf (v : List (Nat × Frame)) : (State.buf { s with inbox := v }) = s.buf := rfl
@[simp] theorem set_inbox_bufMem (v : List (Nat × Frame)) : (State.bufMem { s with inbox := v }) = s.bufMem := rfl
@[simp] theorem set_inbox_lfsr (v : List (Nat × Frame)) : (State.lfsr { s with inbox := v }) = s.lfsr := rfl
@[simp] theorem set_inbox_flt (v : List (Nat × Frame)) : (State.flt { s with inbox := v }) = s.flt := rfl
@[simp] theorem set_inbox_twin (v : List (Nat × Frame)) : (State.twin { s with inbox := v }) = s.twin := rfl
@[simp] theorem set_inbox_gcm (v : List (Nat × Frame)) : (State.gcm { s with inbox := v }) = s.gcm := rfl
@[simp] theorem set_inbox_inbox (v : List (Nat × Frame)) : (State.inbox { s with inbox := v }) = v := rfl
@[simp] theorem set_inbox_ctxs (v : List (Nat × Frame)) : (State.ctxs { s with inbox := v }) = s.ctxs := rfl
@[simp] theorem set_inbox_engs (v : List (Nat × Frame)) : (State.engs { s with inbox := v }) = s.engs := rfl
@[simp] theorem set_inbox_base (v : List (Nat × Frame)) : (State.base { s with inbox := v }) = s.base := rfl
@[simp] theorem set_inbox_prog (v : List (Nat × Frame)) : (State.prog { s with inbox := v }) = s.prog := rfl
@[simp] theorem set_inbox_pins (v : List (Nat × Frame)) : (State.pins { s with inbox := v }) = s.pins := rfl
@[simp] theorem set_inbox_cup (v : List (Nat × Frame)) : (State.cup { s with inbox := v }) = s.cup := rfl
@[simp] theorem set_inbox_bud (v : List (Nat × Frame)) : (State.bud { s with inbox := v }) = s.bud := rfl
@[simp] theorem set_inbox_modeU (v : List (Nat × Frame)) : (State.modeU { s with inbox := v }) = s.modeU := rfl
@[simp] theorem set_inbox_time (v : List (Nat × Frame)) : (State.time { s with inbox := v }) = s.time := rfl
@[simp] theorem set_inbox_tout (v : List (Nat × Frame)) : (State.tout { s with inbox := v }) = s.tout := rfl
@[simp] theorem set_inbox_bridge (v : List (Nat × Frame)) : (State.bridge { s with inbox := v }) = s.bridge := rfl
@[simp] theorem set_inbox_can (v : List (Nat × Frame)) : (State.can { s with inbox := v }) = s.can := rfl
@[simp] theorem set_inbox_usb (v : List (Nat × Frame)) : (State.usb { s with inbox := v }) = s.usb := rfl
@[simp] theorem set_inbox_brk (v : List (Nat × Frame)) : (State.brk { s with inbox := v }) = s.brk := rfl
@[simp] theorem set_inbox_cupSnap (v : List (Nat × Frame)) : (State.cupSnap { s with inbox := v }) = s.cupSnap := rfl
@[simp] theorem set_inbox_flash (v : List (Nat × Frame)) : (State.flash { s with inbox := v }) = s.flash := rfl
@[simp] theorem set_inbox_upd (v : List (Nat × Frame)) : (State.upd { s with inbox := v }) = s.upd := rfl
@[simp] theorem set_ctxs_pending (v : Tbl Ctx) : (State.pending { s with ctxs := v }) = s.pending := rfl
@[simp] theorem set_ctxs_sent (v : Tbl Ctx) : (State.sent { s with ctxs := v }) = s.sent := rfl
@[simp] theorem set_ctxs_free (v : Tbl Ctx) : (State.free { s with ctxs := v }) = s.free := rfl
@[simp] theorem set_ctxs_cycle (v : Tbl Ctx) : (State.cycle { s with ctxs := v }) = s.cycle := rfl
@[simp] theorem set_ctxs_mono (v : Tbl Ctx) : (State.mono { s with ctxs := v }) = s.mono := rfl
@[simp] theorem set_ctxs_fab (v : Tbl Ctx) : (State.fab { s with ctxs := v }) = s.fab := rfl
@[simp] theorem set_ctxs_regs (v : Tbl Ctx) : (State.regs { s with ctxs := v }) = s.regs := rfl
@[simp] theorem set_ctxs_timers (v : Tbl Ctx) : (State.timers { s with ctxs := v }) = s.timers := rfl
@[simp] theorem set_ctxs_otp (v : Tbl Ctx) : (State.otp { s with ctxs := v }) = s.otp := rfl
@[simp] theorem set_ctxs_msix (v : Tbl Ctx) : (State.msix { s with ctxs := v }) = s.msix := rfl
@[simp] theorem set_ctxs_pageUnit (v : Tbl Ctx) : (State.pageUnit { s with ctxs := v }) = s.pageUnit := rfl
@[simp] theorem set_ctxs_pcie (v : Tbl Ctx) : (State.pcie { s with ctxs := v }) = s.pcie := rfl
@[simp] theorem set_ctxs_pd (v : Tbl Ctx) : (State.pd { s with ctxs := v }) = s.pd := rfl
@[simp] theorem set_ctxs_ref (v : Tbl Ctx) : (State.ref { s with ctxs := v }) = s.ref := rfl
@[simp] theorem set_ctxs_phy (v : Tbl Ctx) : (State.phy { s with ctxs := v }) = s.phy := rfl
@[simp] theorem set_ctxs_lanes (v : Tbl Ctx) : (State.lanes { s with ctxs := v }) = s.lanes := rfl
@[simp] theorem set_ctxs_win (v : Tbl Ctx) : (State.win { s with ctxs := v }) = s.win := rfl
@[simp] theorem set_ctxs_rx (v : Tbl Ctx) : (State.rx { s with ctxs := v }) = s.rx := rfl
@[simp] theorem set_ctxs_tx (v : Tbl Ctx) : (State.tx { s with ctxs := v }) = s.tx := rfl
@[simp] theorem set_ctxs_byp (v : Tbl Ctx) : (State.byp { s with ctxs := v }) = s.byp := rfl
@[simp] theorem set_ctxs_voqs (v : Tbl Ctx) : (State.voqs { s with ctxs := v }) = s.voqs := rfl
@[simp] theorem set_ctxs_outs (v : Tbl Ctx) : (State.outs { s with ctxs := v }) = s.outs := rfl
@[simp] theorem set_ctxs_buf (v : Tbl Ctx) : (State.buf { s with ctxs := v }) = s.buf := rfl
@[simp] theorem set_ctxs_bufMem (v : Tbl Ctx) : (State.bufMem { s with ctxs := v }) = s.bufMem := rfl
@[simp] theorem set_ctxs_lfsr (v : Tbl Ctx) : (State.lfsr { s with ctxs := v }) = s.lfsr := rfl
@[simp] theorem set_ctxs_flt (v : Tbl Ctx) : (State.flt { s with ctxs := v }) = s.flt := rfl
@[simp] theorem set_ctxs_twin (v : Tbl Ctx) : (State.twin { s with ctxs := v }) = s.twin := rfl
@[simp] theorem set_ctxs_gcm (v : Tbl Ctx) : (State.gcm { s with ctxs := v }) = s.gcm := rfl
@[simp] theorem set_ctxs_inbox (v : Tbl Ctx) : (State.inbox { s with ctxs := v }) = s.inbox := rfl
@[simp] theorem set_ctxs_ctxs (v : Tbl Ctx) : (State.ctxs { s with ctxs := v }) = v := rfl
@[simp] theorem set_ctxs_engs (v : Tbl Ctx) : (State.engs { s with ctxs := v }) = s.engs := rfl
@[simp] theorem set_ctxs_base (v : Tbl Ctx) : (State.base { s with ctxs := v }) = s.base := rfl
@[simp] theorem set_ctxs_prog (v : Tbl Ctx) : (State.prog { s with ctxs := v }) = s.prog := rfl
@[simp] theorem set_ctxs_pins (v : Tbl Ctx) : (State.pins { s with ctxs := v }) = s.pins := rfl
@[simp] theorem set_ctxs_cup (v : Tbl Ctx) : (State.cup { s with ctxs := v }) = s.cup := rfl
@[simp] theorem set_ctxs_bud (v : Tbl Ctx) : (State.bud { s with ctxs := v }) = s.bud := rfl
@[simp] theorem set_ctxs_modeU (v : Tbl Ctx) : (State.modeU { s with ctxs := v }) = s.modeU := rfl
@[simp] theorem set_ctxs_time (v : Tbl Ctx) : (State.time { s with ctxs := v }) = s.time := rfl
@[simp] theorem set_ctxs_tout (v : Tbl Ctx) : (State.tout { s with ctxs := v }) = s.tout := rfl
@[simp] theorem set_ctxs_bridge (v : Tbl Ctx) : (State.bridge { s with ctxs := v }) = s.bridge := rfl
@[simp] theorem set_ctxs_can (v : Tbl Ctx) : (State.can { s with ctxs := v }) = s.can := rfl
@[simp] theorem set_ctxs_usb (v : Tbl Ctx) : (State.usb { s with ctxs := v }) = s.usb := rfl
@[simp] theorem set_ctxs_brk (v : Tbl Ctx) : (State.brk { s with ctxs := v }) = s.brk := rfl
@[simp] theorem set_ctxs_cupSnap (v : Tbl Ctx) : (State.cupSnap { s with ctxs := v }) = s.cupSnap := rfl
@[simp] theorem set_ctxs_flash (v : Tbl Ctx) : (State.flash { s with ctxs := v }) = s.flash := rfl
@[simp] theorem set_ctxs_upd (v : Tbl Ctx) : (State.upd { s with ctxs := v }) = s.upd := rfl
@[simp] theorem set_engs_pending (v : Tbl EngUnit) : (State.pending { s with engs := v }) = s.pending := rfl
@[simp] theorem set_engs_sent (v : Tbl EngUnit) : (State.sent { s with engs := v }) = s.sent := rfl
@[simp] theorem set_engs_free (v : Tbl EngUnit) : (State.free { s with engs := v }) = s.free := rfl
@[simp] theorem set_engs_cycle (v : Tbl EngUnit) : (State.cycle { s with engs := v }) = s.cycle := rfl
@[simp] theorem set_engs_mono (v : Tbl EngUnit) : (State.mono { s with engs := v }) = s.mono := rfl
@[simp] theorem set_engs_fab (v : Tbl EngUnit) : (State.fab { s with engs := v }) = s.fab := rfl
@[simp] theorem set_engs_regs (v : Tbl EngUnit) : (State.regs { s with engs := v }) = s.regs := rfl
@[simp] theorem set_engs_timers (v : Tbl EngUnit) : (State.timers { s with engs := v }) = s.timers := rfl
@[simp] theorem set_engs_otp (v : Tbl EngUnit) : (State.otp { s with engs := v }) = s.otp := rfl
@[simp] theorem set_engs_msix (v : Tbl EngUnit) : (State.msix { s with engs := v }) = s.msix := rfl
@[simp] theorem set_engs_pageUnit (v : Tbl EngUnit) : (State.pageUnit { s with engs := v }) = s.pageUnit := rfl
@[simp] theorem set_engs_pcie (v : Tbl EngUnit) : (State.pcie { s with engs := v }) = s.pcie := rfl
@[simp] theorem set_engs_pd (v : Tbl EngUnit) : (State.pd { s with engs := v }) = s.pd := rfl
@[simp] theorem set_engs_ref (v : Tbl EngUnit) : (State.ref { s with engs := v }) = s.ref := rfl
@[simp] theorem set_engs_phy (v : Tbl EngUnit) : (State.phy { s with engs := v }) = s.phy := rfl
@[simp] theorem set_engs_lanes (v : Tbl EngUnit) : (State.lanes { s with engs := v }) = s.lanes := rfl
@[simp] theorem set_engs_win (v : Tbl EngUnit) : (State.win { s with engs := v }) = s.win := rfl
@[simp] theorem set_engs_rx (v : Tbl EngUnit) : (State.rx { s with engs := v }) = s.rx := rfl
@[simp] theorem set_engs_tx (v : Tbl EngUnit) : (State.tx { s with engs := v }) = s.tx := rfl
@[simp] theorem set_engs_byp (v : Tbl EngUnit) : (State.byp { s with engs := v }) = s.byp := rfl
@[simp] theorem set_engs_voqs (v : Tbl EngUnit) : (State.voqs { s with engs := v }) = s.voqs := rfl
@[simp] theorem set_engs_outs (v : Tbl EngUnit) : (State.outs { s with engs := v }) = s.outs := rfl
@[simp] theorem set_engs_buf (v : Tbl EngUnit) : (State.buf { s with engs := v }) = s.buf := rfl
@[simp] theorem set_engs_bufMem (v : Tbl EngUnit) : (State.bufMem { s with engs := v }) = s.bufMem := rfl
@[simp] theorem set_engs_lfsr (v : Tbl EngUnit) : (State.lfsr { s with engs := v }) = s.lfsr := rfl
@[simp] theorem set_engs_flt (v : Tbl EngUnit) : (State.flt { s with engs := v }) = s.flt := rfl
@[simp] theorem set_engs_twin (v : Tbl EngUnit) : (State.twin { s with engs := v }) = s.twin := rfl
@[simp] theorem set_engs_gcm (v : Tbl EngUnit) : (State.gcm { s with engs := v }) = s.gcm := rfl
@[simp] theorem set_engs_inbox (v : Tbl EngUnit) : (State.inbox { s with engs := v }) = s.inbox := rfl
@[simp] theorem set_engs_ctxs (v : Tbl EngUnit) : (State.ctxs { s with engs := v }) = s.ctxs := rfl
@[simp] theorem set_engs_engs (v : Tbl EngUnit) : (State.engs { s with engs := v }) = v := rfl
@[simp] theorem set_engs_base (v : Tbl EngUnit) : (State.base { s with engs := v }) = s.base := rfl
@[simp] theorem set_engs_prog (v : Tbl EngUnit) : (State.prog { s with engs := v }) = s.prog := rfl
@[simp] theorem set_engs_pins (v : Tbl EngUnit) : (State.pins { s with engs := v }) = s.pins := rfl
@[simp] theorem set_engs_cup (v : Tbl EngUnit) : (State.cup { s with engs := v }) = s.cup := rfl
@[simp] theorem set_engs_bud (v : Tbl EngUnit) : (State.bud { s with engs := v }) = s.bud := rfl
@[simp] theorem set_engs_modeU (v : Tbl EngUnit) : (State.modeU { s with engs := v }) = s.modeU := rfl
@[simp] theorem set_engs_time (v : Tbl EngUnit) : (State.time { s with engs := v }) = s.time := rfl
@[simp] theorem set_engs_tout (v : Tbl EngUnit) : (State.tout { s with engs := v }) = s.tout := rfl
@[simp] theorem set_engs_bridge (v : Tbl EngUnit) : (State.bridge { s with engs := v }) = s.bridge := rfl
@[simp] theorem set_engs_can (v : Tbl EngUnit) : (State.can { s with engs := v }) = s.can := rfl
@[simp] theorem set_engs_usb (v : Tbl EngUnit) : (State.usb { s with engs := v }) = s.usb := rfl
@[simp] theorem set_engs_brk (v : Tbl EngUnit) : (State.brk { s with engs := v }) = s.brk := rfl
@[simp] theorem set_engs_cupSnap (v : Tbl EngUnit) : (State.cupSnap { s with engs := v }) = s.cupSnap := rfl
@[simp] theorem set_engs_flash (v : Tbl EngUnit) : (State.flash { s with engs := v }) = s.flash := rfl
@[simp] theorem set_engs_upd (v : Tbl EngUnit) : (State.upd { s with engs := v }) = s.upd := rfl
@[simp] theorem set_base_pending (v : BaseCycle) : (State.pending { s with base := v }) = s.pending := rfl
@[simp] theorem set_base_sent (v : BaseCycle) : (State.sent { s with base := v }) = s.sent := rfl
@[simp] theorem set_base_free (v : BaseCycle) : (State.free { s with base := v }) = s.free := rfl
@[simp] theorem set_base_cycle (v : BaseCycle) : (State.cycle { s with base := v }) = s.cycle := rfl
@[simp] theorem set_base_mono (v : BaseCycle) : (State.mono { s with base := v }) = s.mono := rfl
@[simp] theorem set_base_fab (v : BaseCycle) : (State.fab { s with base := v }) = s.fab := rfl
@[simp] theorem set_base_regs (v : BaseCycle) : (State.regs { s with base := v }) = s.regs := rfl
@[simp] theorem set_base_timers (v : BaseCycle) : (State.timers { s with base := v }) = s.timers := rfl
@[simp] theorem set_base_otp (v : BaseCycle) : (State.otp { s with base := v }) = s.otp := rfl
@[simp] theorem set_base_msix (v : BaseCycle) : (State.msix { s with base := v }) = s.msix := rfl
@[simp] theorem set_base_pageUnit (v : BaseCycle) : (State.pageUnit { s with base := v }) = s.pageUnit := rfl
@[simp] theorem set_base_pcie (v : BaseCycle) : (State.pcie { s with base := v }) = s.pcie := rfl
@[simp] theorem set_base_pd (v : BaseCycle) : (State.pd { s with base := v }) = s.pd := rfl
@[simp] theorem set_base_ref (v : BaseCycle) : (State.ref { s with base := v }) = s.ref := rfl
@[simp] theorem set_base_phy (v : BaseCycle) : (State.phy { s with base := v }) = s.phy := rfl
@[simp] theorem set_base_lanes (v : BaseCycle) : (State.lanes { s with base := v }) = s.lanes := rfl
@[simp] theorem set_base_win (v : BaseCycle) : (State.win { s with base := v }) = s.win := rfl
@[simp] theorem set_base_rx (v : BaseCycle) : (State.rx { s with base := v }) = s.rx := rfl
@[simp] theorem set_base_tx (v : BaseCycle) : (State.tx { s with base := v }) = s.tx := rfl
@[simp] theorem set_base_byp (v : BaseCycle) : (State.byp { s with base := v }) = s.byp := rfl
@[simp] theorem set_base_voqs (v : BaseCycle) : (State.voqs { s with base := v }) = s.voqs := rfl
@[simp] theorem set_base_outs (v : BaseCycle) : (State.outs { s with base := v }) = s.outs := rfl
@[simp] theorem set_base_buf (v : BaseCycle) : (State.buf { s with base := v }) = s.buf := rfl
@[simp] theorem set_base_bufMem (v : BaseCycle) : (State.bufMem { s with base := v }) = s.bufMem := rfl
@[simp] theorem set_base_lfsr (v : BaseCycle) : (State.lfsr { s with base := v }) = s.lfsr := rfl
@[simp] theorem set_base_flt (v : BaseCycle) : (State.flt { s with base := v }) = s.flt := rfl
@[simp] theorem set_base_twin (v : BaseCycle) : (State.twin { s with base := v }) = s.twin := rfl
@[simp] theorem set_base_gcm (v : BaseCycle) : (State.gcm { s with base := v }) = s.gcm := rfl
@[simp] theorem set_base_inbox (v : BaseCycle) : (State.inbox { s with base := v }) = s.inbox := rfl
@[simp] theorem set_base_ctxs (v : BaseCycle) : (State.ctxs { s with base := v }) = s.ctxs := rfl
@[simp] theorem set_base_engs (v : BaseCycle) : (State.engs { s with base := v }) = s.engs := rfl
@[simp] theorem set_base_base (v : BaseCycle) : (State.base { s with base := v }) = v := rfl
@[simp] theorem set_base_prog (v : BaseCycle) : (State.prog { s with base := v }) = s.prog := rfl
@[simp] theorem set_base_pins (v : BaseCycle) : (State.pins { s with base := v }) = s.pins := rfl
@[simp] theorem set_base_cup (v : BaseCycle) : (State.cup { s with base := v }) = s.cup := rfl
@[simp] theorem set_base_bud (v : BaseCycle) : (State.bud { s with base := v }) = s.bud := rfl
@[simp] theorem set_base_modeU (v : BaseCycle) : (State.modeU { s with base := v }) = s.modeU := rfl
@[simp] theorem set_base_time (v : BaseCycle) : (State.time { s with base := v }) = s.time := rfl
@[simp] theorem set_base_tout (v : BaseCycle) : (State.tout { s with base := v }) = s.tout := rfl
@[simp] theorem set_base_bridge (v : BaseCycle) : (State.bridge { s with base := v }) = s.bridge := rfl
@[simp] theorem set_base_can (v : BaseCycle) : (State.can { s with base := v }) = s.can := rfl
@[simp] theorem set_base_usb (v : BaseCycle) : (State.usb { s with base := v }) = s.usb := rfl
@[simp] theorem set_base_brk (v : BaseCycle) : (State.brk { s with base := v }) = s.brk := rfl
@[simp] theorem set_base_cupSnap (v : BaseCycle) : (State.cupSnap { s with base := v }) = s.cupSnap := rfl
@[simp] theorem set_base_flash (v : BaseCycle) : (State.flash { s with base := v }) = s.flash := rfl
@[simp] theorem set_base_upd (v : BaseCycle) : (State.upd { s with base := v }) = s.upd := rfl
@[simp] theorem set_prog_pending (v : Tbl Nat) : (State.pending { s with prog := v }) = s.pending := rfl
@[simp] theorem set_prog_sent (v : Tbl Nat) : (State.sent { s with prog := v }) = s.sent := rfl
@[simp] theorem set_prog_free (v : Tbl Nat) : (State.free { s with prog := v }) = s.free := rfl
@[simp] theorem set_prog_cycle (v : Tbl Nat) : (State.cycle { s with prog := v }) = s.cycle := rfl
@[simp] theorem set_prog_mono (v : Tbl Nat) : (State.mono { s with prog := v }) = s.mono := rfl
@[simp] theorem set_prog_fab (v : Tbl Nat) : (State.fab { s with prog := v }) = s.fab := rfl
@[simp] theorem set_prog_regs (v : Tbl Nat) : (State.regs { s with prog := v }) = s.regs := rfl
@[simp] theorem set_prog_timers (v : Tbl Nat) : (State.timers { s with prog := v }) = s.timers := rfl
@[simp] theorem set_prog_otp (v : Tbl Nat) : (State.otp { s with prog := v }) = s.otp := rfl
@[simp] theorem set_prog_msix (v : Tbl Nat) : (State.msix { s with prog := v }) = s.msix := rfl
@[simp] theorem set_prog_pageUnit (v : Tbl Nat) : (State.pageUnit { s with prog := v }) = s.pageUnit := rfl
@[simp] theorem set_prog_pcie (v : Tbl Nat) : (State.pcie { s with prog := v }) = s.pcie := rfl
@[simp] theorem set_prog_pd (v : Tbl Nat) : (State.pd { s with prog := v }) = s.pd := rfl
@[simp] theorem set_prog_ref (v : Tbl Nat) : (State.ref { s with prog := v }) = s.ref := rfl
@[simp] theorem set_prog_phy (v : Tbl Nat) : (State.phy { s with prog := v }) = s.phy := rfl
@[simp] theorem set_prog_lanes (v : Tbl Nat) : (State.lanes { s with prog := v }) = s.lanes := rfl
@[simp] theorem set_prog_win (v : Tbl Nat) : (State.win { s with prog := v }) = s.win := rfl
@[simp] theorem set_prog_rx (v : Tbl Nat) : (State.rx { s with prog := v }) = s.rx := rfl
@[simp] theorem set_prog_tx (v : Tbl Nat) : (State.tx { s with prog := v }) = s.tx := rfl
@[simp] theorem set_prog_byp (v : Tbl Nat) : (State.byp { s with prog := v }) = s.byp := rfl
@[simp] theorem set_prog_voqs (v : Tbl Nat) : (State.voqs { s with prog := v }) = s.voqs := rfl
@[simp] theorem set_prog_outs (v : Tbl Nat) : (State.outs { s with prog := v }) = s.outs := rfl
@[simp] theorem set_prog_buf (v : Tbl Nat) : (State.buf { s with prog := v }) = s.buf := rfl
@[simp] theorem set_prog_bufMem (v : Tbl Nat) : (State.bufMem { s with prog := v }) = s.bufMem := rfl
@[simp] theorem set_prog_lfsr (v : Tbl Nat) : (State.lfsr { s with prog := v }) = s.lfsr := rfl
@[simp] theorem set_prog_flt (v : Tbl Nat) : (State.flt { s with prog := v }) = s.flt := rfl
@[simp] theorem set_prog_twin (v : Tbl Nat) : (State.twin { s with prog := v }) = s.twin := rfl
@[simp] theorem set_prog_gcm (v : Tbl Nat) : (State.gcm { s with prog := v }) = s.gcm := rfl
@[simp] theorem set_prog_inbox (v : Tbl Nat) : (State.inbox { s with prog := v }) = s.inbox := rfl
@[simp] theorem set_prog_ctxs (v : Tbl Nat) : (State.ctxs { s with prog := v }) = s.ctxs := rfl
@[simp] theorem set_prog_engs (v : Tbl Nat) : (State.engs { s with prog := v }) = s.engs := rfl
@[simp] theorem set_prog_base (v : Tbl Nat) : (State.base { s with prog := v }) = s.base := rfl
@[simp] theorem set_prog_prog (v : Tbl Nat) : (State.prog { s with prog := v }) = v := rfl
@[simp] theorem set_prog_pins (v : Tbl Nat) : (State.pins { s with prog := v }) = s.pins := rfl
@[simp] theorem set_prog_cup (v : Tbl Nat) : (State.cup { s with prog := v }) = s.cup := rfl
@[simp] theorem set_prog_bud (v : Tbl Nat) : (State.bud { s with prog := v }) = s.bud := rfl
@[simp] theorem set_prog_modeU (v : Tbl Nat) : (State.modeU { s with prog := v }) = s.modeU := rfl
@[simp] theorem set_prog_time (v : Tbl Nat) : (State.time { s with prog := v }) = s.time := rfl
@[simp] theorem set_prog_tout (v : Tbl Nat) : (State.tout { s with prog := v }) = s.tout := rfl
@[simp] theorem set_prog_bridge (v : Tbl Nat) : (State.bridge { s with prog := v }) = s.bridge := rfl
@[simp] theorem set_prog_can (v : Tbl Nat) : (State.can { s with prog := v }) = s.can := rfl
@[simp] theorem set_prog_usb (v : Tbl Nat) : (State.usb { s with prog := v }) = s.usb := rfl
@[simp] theorem set_prog_brk (v : Tbl Nat) : (State.brk { s with prog := v }) = s.brk := rfl
@[simp] theorem set_prog_cupSnap (v : Tbl Nat) : (State.cupSnap { s with prog := v }) = s.cupSnap := rfl
@[simp] theorem set_prog_flash (v : Tbl Nat) : (State.flash { s with prog := v }) = s.flash := rfl
@[simp] theorem set_prog_upd (v : Tbl Nat) : (State.upd { s with prog := v }) = s.upd := rfl
@[simp] theorem set_pins_pending (v : Tbl PinIn) : (State.pending { s with pins := v }) = s.pending := rfl
@[simp] theorem set_pins_sent (v : Tbl PinIn) : (State.sent { s with pins := v }) = s.sent := rfl
@[simp] theorem set_pins_free (v : Tbl PinIn) : (State.free { s with pins := v }) = s.free := rfl
@[simp] theorem set_pins_cycle (v : Tbl PinIn) : (State.cycle { s with pins := v }) = s.cycle := rfl
@[simp] theorem set_pins_mono (v : Tbl PinIn) : (State.mono { s with pins := v }) = s.mono := rfl
@[simp] theorem set_pins_fab (v : Tbl PinIn) : (State.fab { s with pins := v }) = s.fab := rfl
@[simp] theorem set_pins_regs (v : Tbl PinIn) : (State.regs { s with pins := v }) = s.regs := rfl
@[simp] theorem set_pins_timers (v : Tbl PinIn) : (State.timers { s with pins := v }) = s.timers := rfl
@[simp] theorem set_pins_otp (v : Tbl PinIn) : (State.otp { s with pins := v }) = s.otp := rfl
@[simp] theorem set_pins_msix (v : Tbl PinIn) : (State.msix { s with pins := v }) = s.msix := rfl
@[simp] theorem set_pins_pageUnit (v : Tbl PinIn) : (State.pageUnit { s with pins := v }) = s.pageUnit := rfl
@[simp] theorem set_pins_pcie (v : Tbl PinIn) : (State.pcie { s with pins := v }) = s.pcie := rfl
@[simp] theorem set_pins_pd (v : Tbl PinIn) : (State.pd { s with pins := v }) = s.pd := rfl
@[simp] theorem set_pins_ref (v : Tbl PinIn) : (State.ref { s with pins := v }) = s.ref := rfl
@[simp] theorem set_pins_phy (v : Tbl PinIn) : (State.phy { s with pins := v }) = s.phy := rfl
@[simp] theorem set_pins_lanes (v : Tbl PinIn) : (State.lanes { s with pins := v }) = s.lanes := rfl
@[simp] theorem set_pins_win (v : Tbl PinIn) : (State.win { s with pins := v }) = s.win := rfl
@[simp] theorem set_pins_rx (v : Tbl PinIn) : (State.rx { s with pins := v }) = s.rx := rfl
@[simp] theorem set_pins_tx (v : Tbl PinIn) : (State.tx { s with pins := v }) = s.tx := rfl
@[simp] theorem set_pins_byp (v : Tbl PinIn) : (State.byp { s with pins := v }) = s.byp := rfl
@[simp] theorem set_pins_voqs (v : Tbl PinIn) : (State.voqs { s with pins := v }) = s.voqs := rfl
@[simp] theorem set_pins_outs (v : Tbl PinIn) : (State.outs { s with pins := v }) = s.outs := rfl
@[simp] theorem set_pins_buf (v : Tbl PinIn) : (State.buf { s with pins := v }) = s.buf := rfl
@[simp] theorem set_pins_bufMem (v : Tbl PinIn) : (State.bufMem { s with pins := v }) = s.bufMem := rfl
@[simp] theorem set_pins_lfsr (v : Tbl PinIn) : (State.lfsr { s with pins := v }) = s.lfsr := rfl
@[simp] theorem set_pins_flt (v : Tbl PinIn) : (State.flt { s with pins := v }) = s.flt := rfl
@[simp] theorem set_pins_twin (v : Tbl PinIn) : (State.twin { s with pins := v }) = s.twin := rfl
@[simp] theorem set_pins_gcm (v : Tbl PinIn) : (State.gcm { s with pins := v }) = s.gcm := rfl
@[simp] theorem set_pins_inbox (v : Tbl PinIn) : (State.inbox { s with pins := v }) = s.inbox := rfl
@[simp] theorem set_pins_ctxs (v : Tbl PinIn) : (State.ctxs { s with pins := v }) = s.ctxs := rfl
@[simp] theorem set_pins_engs (v : Tbl PinIn) : (State.engs { s with pins := v }) = s.engs := rfl
@[simp] theorem set_pins_base (v : Tbl PinIn) : (State.base { s with pins := v }) = s.base := rfl
@[simp] theorem set_pins_prog (v : Tbl PinIn) : (State.prog { s with pins := v }) = s.prog := rfl
@[simp] theorem set_pins_pins (v : Tbl PinIn) : (State.pins { s with pins := v }) = v := rfl
@[simp] theorem set_pins_cup (v : Tbl PinIn) : (State.cup { s with pins := v }) = s.cup := rfl
@[simp] theorem set_pins_bud (v : Tbl PinIn) : (State.bud { s with pins := v }) = s.bud := rfl
@[simp] theorem set_pins_modeU (v : Tbl PinIn) : (State.modeU { s with pins := v }) = s.modeU := rfl
@[simp] theorem set_pins_time (v : Tbl PinIn) : (State.time { s with pins := v }) = s.time := rfl
@[simp] theorem set_pins_tout (v : Tbl PinIn) : (State.tout { s with pins := v }) = s.tout := rfl
@[simp] theorem set_pins_bridge (v : Tbl PinIn) : (State.bridge { s with pins := v }) = s.bridge := rfl
@[simp] theorem set_pins_can (v : Tbl PinIn) : (State.can { s with pins := v }) = s.can := rfl
@[simp] theorem set_pins_usb (v : Tbl PinIn) : (State.usb { s with pins := v }) = s.usb := rfl
@[simp] theorem set_pins_brk (v : Tbl PinIn) : (State.brk { s with pins := v }) = s.brk := rfl
@[simp] theorem set_pins_cupSnap (v : Tbl PinIn) : (State.cupSnap { s with pins := v }) = s.cupSnap := rfl
@[simp] theorem set_pins_flash (v : Tbl PinIn) : (State.flash { s with pins := v }) = s.flash := rfl
@[simp] theorem set_pins_upd (v : Tbl PinIn) : (State.upd { s with pins := v }) = s.upd := rfl
@[simp] theorem set_cup_pending (v : Tbl CupMon) : (State.pending { s with cup := v }) = s.pending := rfl
@[simp] theorem set_cup_sent (v : Tbl CupMon) : (State.sent { s with cup := v }) = s.sent := rfl
@[simp] theorem set_cup_free (v : Tbl CupMon) : (State.free { s with cup := v }) = s.free := rfl
@[simp] theorem set_cup_cycle (v : Tbl CupMon) : (State.cycle { s with cup := v }) = s.cycle := rfl
@[simp] theorem set_cup_mono (v : Tbl CupMon) : (State.mono { s with cup := v }) = s.mono := rfl
@[simp] theorem set_cup_fab (v : Tbl CupMon) : (State.fab { s with cup := v }) = s.fab := rfl
@[simp] theorem set_cup_regs (v : Tbl CupMon) : (State.regs { s with cup := v }) = s.regs := rfl
@[simp] theorem set_cup_timers (v : Tbl CupMon) : (State.timers { s with cup := v }) = s.timers := rfl
@[simp] theorem set_cup_otp (v : Tbl CupMon) : (State.otp { s with cup := v }) = s.otp := rfl
@[simp] theorem set_cup_msix (v : Tbl CupMon) : (State.msix { s with cup := v }) = s.msix := rfl
@[simp] theorem set_cup_pageUnit (v : Tbl CupMon) : (State.pageUnit { s with cup := v }) = s.pageUnit := rfl
@[simp] theorem set_cup_pcie (v : Tbl CupMon) : (State.pcie { s with cup := v }) = s.pcie := rfl
@[simp] theorem set_cup_pd (v : Tbl CupMon) : (State.pd { s with cup := v }) = s.pd := rfl
@[simp] theorem set_cup_ref (v : Tbl CupMon) : (State.ref { s with cup := v }) = s.ref := rfl
@[simp] theorem set_cup_phy (v : Tbl CupMon) : (State.phy { s with cup := v }) = s.phy := rfl
@[simp] theorem set_cup_lanes (v : Tbl CupMon) : (State.lanes { s with cup := v }) = s.lanes := rfl
@[simp] theorem set_cup_win (v : Tbl CupMon) : (State.win { s with cup := v }) = s.win := rfl
@[simp] theorem set_cup_rx (v : Tbl CupMon) : (State.rx { s with cup := v }) = s.rx := rfl
@[simp] theorem set_cup_tx (v : Tbl CupMon) : (State.tx { s with cup := v }) = s.tx := rfl
@[simp] theorem set_cup_byp (v : Tbl CupMon) : (State.byp { s with cup := v }) = s.byp := rfl
@[simp] theorem set_cup_voqs (v : Tbl CupMon) : (State.voqs { s with cup := v }) = s.voqs := rfl
@[simp] theorem set_cup_outs (v : Tbl CupMon) : (State.outs { s with cup := v }) = s.outs := rfl
@[simp] theorem set_cup_buf (v : Tbl CupMon) : (State.buf { s with cup := v }) = s.buf := rfl
@[simp] theorem set_cup_bufMem (v : Tbl CupMon) : (State.bufMem { s with cup := v }) = s.bufMem := rfl
@[simp] theorem set_cup_lfsr (v : Tbl CupMon) : (State.lfsr { s with cup := v }) = s.lfsr := rfl
@[simp] theorem set_cup_flt (v : Tbl CupMon) : (State.flt { s with cup := v }) = s.flt := rfl
@[simp] theorem set_cup_twin (v : Tbl CupMon) : (State.twin { s with cup := v }) = s.twin := rfl
@[simp] theorem set_cup_gcm (v : Tbl CupMon) : (State.gcm { s with cup := v }) = s.gcm := rfl
@[simp] theorem set_cup_inbox (v : Tbl CupMon) : (State.inbox { s with cup := v }) = s.inbox := rfl
@[simp] theorem set_cup_ctxs (v : Tbl CupMon) : (State.ctxs { s with cup := v }) = s.ctxs := rfl
@[simp] theorem set_cup_engs (v : Tbl CupMon) : (State.engs { s with cup := v }) = s.engs := rfl
@[simp] theorem set_cup_base (v : Tbl CupMon) : (State.base { s with cup := v }) = s.base := rfl
@[simp] theorem set_cup_prog (v : Tbl CupMon) : (State.prog { s with cup := v }) = s.prog := rfl
@[simp] theorem set_cup_pins (v : Tbl CupMon) : (State.pins { s with cup := v }) = s.pins := rfl
@[simp] theorem set_cup_cup (v : Tbl CupMon) : (State.cup { s with cup := v }) = v := rfl
@[simp] theorem set_cup_bud (v : Tbl CupMon) : (State.bud { s with cup := v }) = s.bud := rfl
@[simp] theorem set_cup_modeU (v : Tbl CupMon) : (State.modeU { s with cup := v }) = s.modeU := rfl
@[simp] theorem set_cup_time (v : Tbl CupMon) : (State.time { s with cup := v }) = s.time := rfl
@[simp] theorem set_cup_tout (v : Tbl CupMon) : (State.tout { s with cup := v }) = s.tout := rfl
@[simp] theorem set_cup_bridge (v : Tbl CupMon) : (State.bridge { s with cup := v }) = s.bridge := rfl
@[simp] theorem set_cup_can (v : Tbl CupMon) : (State.can { s with cup := v }) = s.can := rfl
@[simp] theorem set_cup_usb (v : Tbl CupMon) : (State.usb { s with cup := v }) = s.usb := rfl
@[simp] theorem set_cup_brk (v : Tbl CupMon) : (State.brk { s with cup := v }) = s.brk := rfl
@[simp] theorem set_cup_cupSnap (v : Tbl CupMon) : (State.cupSnap { s with cup := v }) = s.cupSnap := rfl
@[simp] theorem set_cup_flash (v : Tbl CupMon) : (State.flash { s with cup := v }) = s.flash := rfl
@[simp] theorem set_cup_upd (v : Tbl CupMon) : (State.upd { s with cup := v }) = s.upd := rfl
@[simp] theorem set_bud_pending (v : BudUnit) : (State.pending { s with bud := v }) = s.pending := rfl
@[simp] theorem set_bud_sent (v : BudUnit) : (State.sent { s with bud := v }) = s.sent := rfl
@[simp] theorem set_bud_free (v : BudUnit) : (State.free { s with bud := v }) = s.free := rfl
@[simp] theorem set_bud_cycle (v : BudUnit) : (State.cycle { s with bud := v }) = s.cycle := rfl
@[simp] theorem set_bud_mono (v : BudUnit) : (State.mono { s with bud := v }) = s.mono := rfl
@[simp] theorem set_bud_fab (v : BudUnit) : (State.fab { s with bud := v }) = s.fab := rfl
@[simp] theorem set_bud_regs (v : BudUnit) : (State.regs { s with bud := v }) = s.regs := rfl
@[simp] theorem set_bud_timers (v : BudUnit) : (State.timers { s with bud := v }) = s.timers := rfl
@[simp] theorem set_bud_otp (v : BudUnit) : (State.otp { s with bud := v }) = s.otp := rfl
@[simp] theorem set_bud_msix (v : BudUnit) : (State.msix { s with bud := v }) = s.msix := rfl
@[simp] theorem set_bud_pageUnit (v : BudUnit) : (State.pageUnit { s with bud := v }) = s.pageUnit := rfl
@[simp] theorem set_bud_pcie (v : BudUnit) : (State.pcie { s with bud := v }) = s.pcie := rfl
@[simp] theorem set_bud_pd (v : BudUnit) : (State.pd { s with bud := v }) = s.pd := rfl
@[simp] theorem set_bud_ref (v : BudUnit) : (State.ref { s with bud := v }) = s.ref := rfl
@[simp] theorem set_bud_phy (v : BudUnit) : (State.phy { s with bud := v }) = s.phy := rfl
@[simp] theorem set_bud_lanes (v : BudUnit) : (State.lanes { s with bud := v }) = s.lanes := rfl
@[simp] theorem set_bud_win (v : BudUnit) : (State.win { s with bud := v }) = s.win := rfl
@[simp] theorem set_bud_rx (v : BudUnit) : (State.rx { s with bud := v }) = s.rx := rfl
@[simp] theorem set_bud_tx (v : BudUnit) : (State.tx { s with bud := v }) = s.tx := rfl
@[simp] theorem set_bud_byp (v : BudUnit) : (State.byp { s with bud := v }) = s.byp := rfl
@[simp] theorem set_bud_voqs (v : BudUnit) : (State.voqs { s with bud := v }) = s.voqs := rfl
@[simp] theorem set_bud_outs (v : BudUnit) : (State.outs { s with bud := v }) = s.outs := rfl
@[simp] theorem set_bud_buf (v : BudUnit) : (State.buf { s with bud := v }) = s.buf := rfl
@[simp] theorem set_bud_bufMem (v : BudUnit) : (State.bufMem { s with bud := v }) = s.bufMem := rfl
@[simp] theorem set_bud_lfsr (v : BudUnit) : (State.lfsr { s with bud := v }) = s.lfsr := rfl
@[simp] theorem set_bud_flt (v : BudUnit) : (State.flt { s with bud := v }) = s.flt := rfl
@[simp] theorem set_bud_twin (v : BudUnit) : (State.twin { s with bud := v }) = s.twin := rfl
@[simp] theorem set_bud_gcm (v : BudUnit) : (State.gcm { s with bud := v }) = s.gcm := rfl
@[simp] theorem set_bud_inbox (v : BudUnit) : (State.inbox { s with bud := v }) = s.inbox := rfl
@[simp] theorem set_bud_ctxs (v : BudUnit) : (State.ctxs { s with bud := v }) = s.ctxs := rfl
@[simp] theorem set_bud_engs (v : BudUnit) : (State.engs { s with bud := v }) = s.engs := rfl
@[simp] theorem set_bud_base (v : BudUnit) : (State.base { s with bud := v }) = s.base := rfl
@[simp] theorem set_bud_prog (v : BudUnit) : (State.prog { s with bud := v }) = s.prog := rfl
@[simp] theorem set_bud_pins (v : BudUnit) : (State.pins { s with bud := v }) = s.pins := rfl
@[simp] theorem set_bud_cup (v : BudUnit) : (State.cup { s with bud := v }) = s.cup := rfl
@[simp] theorem set_bud_bud (v : BudUnit) : (State.bud { s with bud := v }) = v := rfl
@[simp] theorem set_bud_modeU (v : BudUnit) : (State.modeU { s with bud := v }) = s.modeU := rfl
@[simp] theorem set_bud_time (v : BudUnit) : (State.time { s with bud := v }) = s.time := rfl
@[simp] theorem set_bud_tout (v : BudUnit) : (State.tout { s with bud := v }) = s.tout := rfl
@[simp] theorem set_bud_bridge (v : BudUnit) : (State.bridge { s with bud := v }) = s.bridge := rfl
@[simp] theorem set_bud_can (v : BudUnit) : (State.can { s with bud := v }) = s.can := rfl
@[simp] theorem set_bud_usb (v : BudUnit) : (State.usb { s with bud := v }) = s.usb := rfl
@[simp] theorem set_bud_brk (v : BudUnit) : (State.brk { s with bud := v }) = s.brk := rfl
@[simp] theorem set_bud_cupSnap (v : BudUnit) : (State.cupSnap { s with bud := v }) = s.cupSnap := rfl
@[simp] theorem set_bud_flash (v : BudUnit) : (State.flash { s with bud := v }) = s.flash := rfl
@[simp] theorem set_bud_upd (v : BudUnit) : (State.upd { s with bud := v }) = s.upd := rfl
@[simp] theorem set_modeU_pending (v : ModeUnit) : (State.pending { s with modeU := v }) = s.pending := rfl
@[simp] theorem set_modeU_sent (v : ModeUnit) : (State.sent { s with modeU := v }) = s.sent := rfl
@[simp] theorem set_modeU_free (v : ModeUnit) : (State.free { s with modeU := v }) = s.free := rfl
@[simp] theorem set_modeU_cycle (v : ModeUnit) : (State.cycle { s with modeU := v }) = s.cycle := rfl
@[simp] theorem set_modeU_mono (v : ModeUnit) : (State.mono { s with modeU := v }) = s.mono := rfl
@[simp] theorem set_modeU_fab (v : ModeUnit) : (State.fab { s with modeU := v }) = s.fab := rfl
@[simp] theorem set_modeU_regs (v : ModeUnit) : (State.regs { s with modeU := v }) = s.regs := rfl
@[simp] theorem set_modeU_timers (v : ModeUnit) : (State.timers { s with modeU := v }) = s.timers := rfl
@[simp] theorem set_modeU_otp (v : ModeUnit) : (State.otp { s with modeU := v }) = s.otp := rfl
@[simp] theorem set_modeU_msix (v : ModeUnit) : (State.msix { s with modeU := v }) = s.msix := rfl
@[simp] theorem set_modeU_pageUnit (v : ModeUnit) : (State.pageUnit { s with modeU := v }) = s.pageUnit := rfl
@[simp] theorem set_modeU_pcie (v : ModeUnit) : (State.pcie { s with modeU := v }) = s.pcie := rfl
@[simp] theorem set_modeU_pd (v : ModeUnit) : (State.pd { s with modeU := v }) = s.pd := rfl
@[simp] theorem set_modeU_ref (v : ModeUnit) : (State.ref { s with modeU := v }) = s.ref := rfl
@[simp] theorem set_modeU_phy (v : ModeUnit) : (State.phy { s with modeU := v }) = s.phy := rfl
@[simp] theorem set_modeU_lanes (v : ModeUnit) : (State.lanes { s with modeU := v }) = s.lanes := rfl
@[simp] theorem set_modeU_win (v : ModeUnit) : (State.win { s with modeU := v }) = s.win := rfl
@[simp] theorem set_modeU_rx (v : ModeUnit) : (State.rx { s with modeU := v }) = s.rx := rfl
@[simp] theorem set_modeU_tx (v : ModeUnit) : (State.tx { s with modeU := v }) = s.tx := rfl
@[simp] theorem set_modeU_byp (v : ModeUnit) : (State.byp { s with modeU := v }) = s.byp := rfl
@[simp] theorem set_modeU_voqs (v : ModeUnit) : (State.voqs { s with modeU := v }) = s.voqs := rfl
@[simp] theorem set_modeU_outs (v : ModeUnit) : (State.outs { s with modeU := v }) = s.outs := rfl
@[simp] theorem set_modeU_buf (v : ModeUnit) : (State.buf { s with modeU := v }) = s.buf := rfl
@[simp] theorem set_modeU_bufMem (v : ModeUnit) : (State.bufMem { s with modeU := v }) = s.bufMem := rfl
@[simp] theorem set_modeU_lfsr (v : ModeUnit) : (State.lfsr { s with modeU := v }) = s.lfsr := rfl
@[simp] theorem set_modeU_flt (v : ModeUnit) : (State.flt { s with modeU := v }) = s.flt := rfl
@[simp] theorem set_modeU_twin (v : ModeUnit) : (State.twin { s with modeU := v }) = s.twin := rfl
@[simp] theorem set_modeU_gcm (v : ModeUnit) : (State.gcm { s with modeU := v }) = s.gcm := rfl
@[simp] theorem set_modeU_inbox (v : ModeUnit) : (State.inbox { s with modeU := v }) = s.inbox := rfl
@[simp] theorem set_modeU_ctxs (v : ModeUnit) : (State.ctxs { s with modeU := v }) = s.ctxs := rfl
@[simp] theorem set_modeU_engs (v : ModeUnit) : (State.engs { s with modeU := v }) = s.engs := rfl
@[simp] theorem set_modeU_base (v : ModeUnit) : (State.base { s with modeU := v }) = s.base := rfl
@[simp] theorem set_modeU_prog (v : ModeUnit) : (State.prog { s with modeU := v }) = s.prog := rfl
@[simp] theorem set_modeU_pins (v : ModeUnit) : (State.pins { s with modeU := v }) = s.pins := rfl
@[simp] theorem set_modeU_cup (v : ModeUnit) : (State.cup { s with modeU := v }) = s.cup := rfl
@[simp] theorem set_modeU_bud (v : ModeUnit) : (State.bud { s with modeU := v }) = s.bud := rfl
@[simp] theorem set_modeU_modeU (v : ModeUnit) : (State.modeU { s with modeU := v }) = v := rfl
@[simp] theorem set_modeU_time (v : ModeUnit) : (State.time { s with modeU := v }) = s.time := rfl
@[simp] theorem set_modeU_tout (v : ModeUnit) : (State.tout { s with modeU := v }) = s.tout := rfl
@[simp] theorem set_modeU_bridge (v : ModeUnit) : (State.bridge { s with modeU := v }) = s.bridge := rfl
@[simp] theorem set_modeU_can (v : ModeUnit) : (State.can { s with modeU := v }) = s.can := rfl
@[simp] theorem set_modeU_usb (v : ModeUnit) : (State.usb { s with modeU := v }) = s.usb := rfl
@[simp] theorem set_modeU_brk (v : ModeUnit) : (State.brk { s with modeU := v }) = s.brk := rfl
@[simp] theorem set_modeU_cupSnap (v : ModeUnit) : (State.cupSnap { s with modeU := v }) = s.cupSnap := rfl
@[simp] theorem set_modeU_flash (v : ModeUnit) : (State.flash { s with modeU := v }) = s.flash := rfl
@[simp] theorem set_modeU_upd (v : ModeUnit) : (State.upd { s with modeU := v }) = s.upd := rfl
@[simp] theorem set_time_pending (v : TimeUnit) : (State.pending { s with time := v }) = s.pending := rfl
@[simp] theorem set_time_sent (v : TimeUnit) : (State.sent { s with time := v }) = s.sent := rfl
@[simp] theorem set_time_free (v : TimeUnit) : (State.free { s with time := v }) = s.free := rfl
@[simp] theorem set_time_cycle (v : TimeUnit) : (State.cycle { s with time := v }) = s.cycle := rfl
@[simp] theorem set_time_mono (v : TimeUnit) : (State.mono { s with time := v }) = s.mono := rfl
@[simp] theorem set_time_fab (v : TimeUnit) : (State.fab { s with time := v }) = s.fab := rfl
@[simp] theorem set_time_regs (v : TimeUnit) : (State.regs { s with time := v }) = s.regs := rfl
@[simp] theorem set_time_timers (v : TimeUnit) : (State.timers { s with time := v }) = s.timers := rfl
@[simp] theorem set_time_otp (v : TimeUnit) : (State.otp { s with time := v }) = s.otp := rfl
@[simp] theorem set_time_msix (v : TimeUnit) : (State.msix { s with time := v }) = s.msix := rfl
@[simp] theorem set_time_pageUnit (v : TimeUnit) : (State.pageUnit { s with time := v }) = s.pageUnit := rfl
@[simp] theorem set_time_pcie (v : TimeUnit) : (State.pcie { s with time := v }) = s.pcie := rfl
@[simp] theorem set_time_pd (v : TimeUnit) : (State.pd { s with time := v }) = s.pd := rfl
@[simp] theorem set_time_ref (v : TimeUnit) : (State.ref { s with time := v }) = s.ref := rfl
@[simp] theorem set_time_phy (v : TimeUnit) : (State.phy { s with time := v }) = s.phy := rfl
@[simp] theorem set_time_lanes (v : TimeUnit) : (State.lanes { s with time := v }) = s.lanes := rfl
@[simp] theorem set_time_win (v : TimeUnit) : (State.win { s with time := v }) = s.win := rfl
@[simp] theorem set_time_rx (v : TimeUnit) : (State.rx { s with time := v }) = s.rx := rfl
@[simp] theorem set_time_tx (v : TimeUnit) : (State.tx { s with time := v }) = s.tx := rfl
@[simp] theorem set_time_byp (v : TimeUnit) : (State.byp { s with time := v }) = s.byp := rfl
@[simp] theorem set_time_voqs (v : TimeUnit) : (State.voqs { s with time := v }) = s.voqs := rfl
@[simp] theorem set_time_outs (v : TimeUnit) : (State.outs { s with time := v }) = s.outs := rfl
@[simp] theorem set_time_buf (v : TimeUnit) : (State.buf { s with time := v }) = s.buf := rfl
@[simp] theorem set_time_bufMem (v : TimeUnit) : (State.bufMem { s with time := v }) = s.bufMem := rfl
@[simp] theorem set_time_lfsr (v : TimeUnit) : (State.lfsr { s with time := v }) = s.lfsr := rfl
@[simp] theorem set_time_flt (v : TimeUnit) : (State.flt { s with time := v }) = s.flt := rfl
@[simp] theorem set_time_twin (v : TimeUnit) : (State.twin { s with time := v }) = s.twin := rfl
@[simp] theorem set_time_gcm (v : TimeUnit) : (State.gcm { s with time := v }) = s.gcm := rfl
@[simp] theorem set_time_inbox (v : TimeUnit) : (State.inbox { s with time := v }) = s.inbox := rfl
@[simp] theorem set_time_ctxs (v : TimeUnit) : (State.ctxs { s with time := v }) = s.ctxs := rfl
@[simp] theorem set_time_engs (v : TimeUnit) : (State.engs { s with time := v }) = s.engs := rfl
@[simp] theorem set_time_base (v : TimeUnit) : (State.base { s with time := v }) = s.base := rfl
@[simp] theorem set_time_prog (v : TimeUnit) : (State.prog { s with time := v }) = s.prog := rfl
@[simp] theorem set_time_pins (v : TimeUnit) : (State.pins { s with time := v }) = s.pins := rfl
@[simp] theorem set_time_cup (v : TimeUnit) : (State.cup { s with time := v }) = s.cup := rfl
@[simp] theorem set_time_bud (v : TimeUnit) : (State.bud { s with time := v }) = s.bud := rfl
@[simp] theorem set_time_modeU (v : TimeUnit) : (State.modeU { s with time := v }) = s.modeU := rfl
@[simp] theorem set_time_time (v : TimeUnit) : (State.time { s with time := v }) = v := rfl
@[simp] theorem set_time_tout (v : TimeUnit) : (State.tout { s with time := v }) = s.tout := rfl
@[simp] theorem set_time_bridge (v : TimeUnit) : (State.bridge { s with time := v }) = s.bridge := rfl
@[simp] theorem set_time_can (v : TimeUnit) : (State.can { s with time := v }) = s.can := rfl
@[simp] theorem set_time_usb (v : TimeUnit) : (State.usb { s with time := v }) = s.usb := rfl
@[simp] theorem set_time_brk (v : TimeUnit) : (State.brk { s with time := v }) = s.brk := rfl
@[simp] theorem set_time_cupSnap (v : TimeUnit) : (State.cupSnap { s with time := v }) = s.cupSnap := rfl
@[simp] theorem set_time_flash (v : TimeUnit) : (State.flash { s with time := v }) = s.flash := rfl
@[simp] theorem set_time_upd (v : TimeUnit) : (State.upd { s with time := v }) = s.upd := rfl
@[simp] theorem set_tout_pending (v : Tbl ToutCh) : (State.pending { s with tout := v }) = s.pending := rfl
@[simp] theorem set_tout_sent (v : Tbl ToutCh) : (State.sent { s with tout := v }) = s.sent := rfl
@[simp] theorem set_tout_free (v : Tbl ToutCh) : (State.free { s with tout := v }) = s.free := rfl
@[simp] theorem set_tout_cycle (v : Tbl ToutCh) : (State.cycle { s with tout := v }) = s.cycle := rfl
@[simp] theorem set_tout_mono (v : Tbl ToutCh) : (State.mono { s with tout := v }) = s.mono := rfl
@[simp] theorem set_tout_fab (v : Tbl ToutCh) : (State.fab { s with tout := v }) = s.fab := rfl
@[simp] theorem set_tout_regs (v : Tbl ToutCh) : (State.regs { s with tout := v }) = s.regs := rfl
@[simp] theorem set_tout_timers (v : Tbl ToutCh) : (State.timers { s with tout := v }) = s.timers := rfl
@[simp] theorem set_tout_otp (v : Tbl ToutCh) : (State.otp { s with tout := v }) = s.otp := rfl
@[simp] theorem set_tout_msix (v : Tbl ToutCh) : (State.msix { s with tout := v }) = s.msix := rfl
@[simp] theorem set_tout_pageUnit (v : Tbl ToutCh) : (State.pageUnit { s with tout := v }) = s.pageUnit := rfl
@[simp] theorem set_tout_pcie (v : Tbl ToutCh) : (State.pcie { s with tout := v }) = s.pcie := rfl
@[simp] theorem set_tout_pd (v : Tbl ToutCh) : (State.pd { s with tout := v }) = s.pd := rfl
@[simp] theorem set_tout_ref (v : Tbl ToutCh) : (State.ref { s with tout := v }) = s.ref := rfl
@[simp] theorem set_tout_phy (v : Tbl ToutCh) : (State.phy { s with tout := v }) = s.phy := rfl
@[simp] theorem set_tout_lanes (v : Tbl ToutCh) : (State.lanes { s with tout := v }) = s.lanes := rfl
@[simp] theorem set_tout_win (v : Tbl ToutCh) : (State.win { s with tout := v }) = s.win := rfl
@[simp] theorem set_tout_rx (v : Tbl ToutCh) : (State.rx { s with tout := v }) = s.rx := rfl
@[simp] theorem set_tout_tx (v : Tbl ToutCh) : (State.tx { s with tout := v }) = s.tx := rfl
@[simp] theorem set_tout_byp (v : Tbl ToutCh) : (State.byp { s with tout := v }) = s.byp := rfl
@[simp] theorem set_tout_voqs (v : Tbl ToutCh) : (State.voqs { s with tout := v }) = s.voqs := rfl
@[simp] theorem set_tout_outs (v : Tbl ToutCh) : (State.outs { s with tout := v }) = s.outs := rfl
@[simp] theorem set_tout_buf (v : Tbl ToutCh) : (State.buf { s with tout := v }) = s.buf := rfl
@[simp] theorem set_tout_bufMem (v : Tbl ToutCh) : (State.bufMem { s with tout := v }) = s.bufMem := rfl
@[simp] theorem set_tout_lfsr (v : Tbl ToutCh) : (State.lfsr { s with tout := v }) = s.lfsr := rfl
@[simp] theorem set_tout_flt (v : Tbl ToutCh) : (State.flt { s with tout := v }) = s.flt := rfl
@[simp] theorem set_tout_twin (v : Tbl ToutCh) : (State.twin { s with tout := v }) = s.twin := rfl
@[simp] theorem set_tout_gcm (v : Tbl ToutCh) : (State.gcm { s with tout := v }) = s.gcm := rfl
@[simp] theorem set_tout_inbox (v : Tbl ToutCh) : (State.inbox { s with tout := v }) = s.inbox := rfl
@[simp] theorem set_tout_ctxs (v : Tbl ToutCh) : (State.ctxs { s with tout := v }) = s.ctxs := rfl
@[simp] theorem set_tout_engs (v : Tbl ToutCh) : (State.engs { s with tout := v }) = s.engs := rfl
@[simp] theorem set_tout_base (v : Tbl ToutCh) : (State.base { s with tout := v }) = s.base := rfl
@[simp] theorem set_tout_prog (v : Tbl ToutCh) : (State.prog { s with tout := v }) = s.prog := rfl
@[simp] theorem set_tout_pins (v : Tbl ToutCh) : (State.pins { s with tout := v }) = s.pins := rfl
@[simp] theorem set_tout_cup (v : Tbl ToutCh) : (State.cup { s with tout := v }) = s.cup := rfl
@[simp] theorem set_tout_bud (v : Tbl ToutCh) : (State.bud { s with tout := v }) = s.bud := rfl
@[simp] theorem set_tout_modeU (v : Tbl ToutCh) : (State.modeU { s with tout := v }) = s.modeU := rfl
@[simp] theorem set_tout_time (v : Tbl ToutCh) : (State.time { s with tout := v }) = s.time := rfl
@[simp] theorem set_tout_tout (v : Tbl ToutCh) : (State.tout { s with tout := v }) = v := rfl
@[simp] theorem set_tout_bridge (v : Tbl ToutCh) : (State.bridge { s with tout := v }) = s.bridge := rfl
@[simp] theorem set_tout_can (v : Tbl ToutCh) : (State.can { s with tout := v }) = s.can := rfl
@[simp] theorem set_tout_usb (v : Tbl ToutCh) : (State.usb { s with tout := v }) = s.usb := rfl
@[simp] theorem set_tout_brk (v : Tbl ToutCh) : (State.brk { s with tout := v }) = s.brk := rfl
@[simp] theorem set_tout_cupSnap (v : Tbl ToutCh) : (State.cupSnap { s with tout := v }) = s.cupSnap := rfl
@[simp] theorem set_tout_flash (v : Tbl ToutCh) : (State.flash { s with tout := v }) = s.flash := rfl
@[simp] theorem set_tout_upd (v : Tbl ToutCh) : (State.upd { s with tout := v }) = s.upd := rfl
@[simp] theorem set_bridge_pending (v : BridgeUnit) : (State.pending { s with bridge := v }) = s.pending := rfl
@[simp] theorem set_bridge_sent (v : BridgeUnit) : (State.sent { s with bridge := v }) = s.sent := rfl
@[simp] theorem set_bridge_free (v : BridgeUnit) : (State.free { s with bridge := v }) = s.free := rfl
@[simp] theorem set_bridge_cycle (v : BridgeUnit) : (State.cycle { s with bridge := v }) = s.cycle := rfl
@[simp] theorem set_bridge_mono (v : BridgeUnit) : (State.mono { s with bridge := v }) = s.mono := rfl
@[simp] theorem set_bridge_fab (v : BridgeUnit) : (State.fab { s with bridge := v }) = s.fab := rfl
@[simp] theorem set_bridge_regs (v : BridgeUnit) : (State.regs { s with bridge := v }) = s.regs := rfl
@[simp] theorem set_bridge_timers (v : BridgeUnit) : (State.timers { s with bridge := v }) = s.timers := rfl
@[simp] theorem set_bridge_otp (v : BridgeUnit) : (State.otp { s with bridge := v }) = s.otp := rfl
@[simp] theorem set_bridge_msix (v : BridgeUnit) : (State.msix { s with bridge := v }) = s.msix := rfl
@[simp] theorem set_bridge_pageUnit (v : BridgeUnit) : (State.pageUnit { s with bridge := v }) = s.pageUnit := rfl
@[simp] theorem set_bridge_pcie (v : BridgeUnit) : (State.pcie { s with bridge := v }) = s.pcie := rfl
@[simp] theorem set_bridge_pd (v : BridgeUnit) : (State.pd { s with bridge := v }) = s.pd := rfl
@[simp] theorem set_bridge_ref (v : BridgeUnit) : (State.ref { s with bridge := v }) = s.ref := rfl
@[simp] theorem set_bridge_phy (v : BridgeUnit) : (State.phy { s with bridge := v }) = s.phy := rfl
@[simp] theorem set_bridge_lanes (v : BridgeUnit) : (State.lanes { s with bridge := v }) = s.lanes := rfl
@[simp] theorem set_bridge_win (v : BridgeUnit) : (State.win { s with bridge := v }) = s.win := rfl
@[simp] theorem set_bridge_rx (v : BridgeUnit) : (State.rx { s with bridge := v }) = s.rx := rfl
@[simp] theorem set_bridge_tx (v : BridgeUnit) : (State.tx { s with bridge := v }) = s.tx := rfl
@[simp] theorem set_bridge_byp (v : BridgeUnit) : (State.byp { s with bridge := v }) = s.byp := rfl
@[simp] theorem set_bridge_voqs (v : BridgeUnit) : (State.voqs { s with bridge := v }) = s.voqs := rfl
@[simp] theorem set_bridge_outs (v : BridgeUnit) : (State.outs { s with bridge := v }) = s.outs := rfl
@[simp] theorem set_bridge_buf (v : BridgeUnit) : (State.buf { s with bridge := v }) = s.buf := rfl
@[simp] theorem set_bridge_bufMem (v : BridgeUnit) : (State.bufMem { s with bridge := v }) = s.bufMem := rfl
@[simp] theorem set_bridge_lfsr (v : BridgeUnit) : (State.lfsr { s with bridge := v }) = s.lfsr := rfl
@[simp] theorem set_bridge_flt (v : BridgeUnit) : (State.flt { s with bridge := v }) = s.flt := rfl
@[simp] theorem set_bridge_twin (v : BridgeUnit) : (State.twin { s with bridge := v }) = s.twin := rfl
@[simp] theorem set_bridge_gcm (v : BridgeUnit) : (State.gcm { s with bridge := v }) = s.gcm := rfl
@[simp] theorem set_bridge_inbox (v : BridgeUnit) : (State.inbox { s with bridge := v }) = s.inbox := rfl
@[simp] theorem set_bridge_ctxs (v : BridgeUnit) : (State.ctxs { s with bridge := v }) = s.ctxs := rfl
@[simp] theorem set_bridge_engs (v : BridgeUnit) : (State.engs { s with bridge := v }) = s.engs := rfl
@[simp] theorem set_bridge_base (v : BridgeUnit) : (State.base { s with bridge := v }) = s.base := rfl
@[simp] theorem set_bridge_prog (v : BridgeUnit) : (State.prog { s with bridge := v }) = s.prog := rfl
@[simp] theorem set_bridge_pins (v : BridgeUnit) : (State.pins { s with bridge := v }) = s.pins := rfl
@[simp] theorem set_bridge_cup (v : BridgeUnit) : (State.cup { s with bridge := v }) = s.cup := rfl
@[simp] theorem set_bridge_bud (v : BridgeUnit) : (State.bud { s with bridge := v }) = s.bud := rfl
@[simp] theorem set_bridge_modeU (v : BridgeUnit) : (State.modeU { s with bridge := v }) = s.modeU := rfl
@[simp] theorem set_bridge_time (v : BridgeUnit) : (State.time { s with bridge := v }) = s.time := rfl
@[simp] theorem set_bridge_tout (v : BridgeUnit) : (State.tout { s with bridge := v }) = s.tout := rfl
@[simp] theorem set_bridge_bridge (v : BridgeUnit) : (State.bridge { s with bridge := v }) = v := rfl
@[simp] theorem set_bridge_can (v : BridgeUnit) : (State.can { s with bridge := v }) = s.can := rfl
@[simp] theorem set_bridge_usb (v : BridgeUnit) : (State.usb { s with bridge := v }) = s.usb := rfl
@[simp] theorem set_bridge_brk (v : BridgeUnit) : (State.brk { s with bridge := v }) = s.brk := rfl
@[simp] theorem set_bridge_cupSnap (v : BridgeUnit) : (State.cupSnap { s with bridge := v }) = s.cupSnap := rfl
@[simp] theorem set_bridge_flash (v : BridgeUnit) : (State.flash { s with bridge := v }) = s.flash := rfl
@[simp] theorem set_bridge_upd (v : BridgeUnit) : (State.upd { s with bridge := v }) = s.upd := rfl
@[simp] theorem set_can_pending (v : Tbl CanUnit) : (State.pending { s with can := v }) = s.pending := rfl
@[simp] theorem set_can_sent (v : Tbl CanUnit) : (State.sent { s with can := v }) = s.sent := rfl
@[simp] theorem set_can_free (v : Tbl CanUnit) : (State.free { s with can := v }) = s.free := rfl
@[simp] theorem set_can_cycle (v : Tbl CanUnit) : (State.cycle { s with can := v }) = s.cycle := rfl
@[simp] theorem set_can_mono (v : Tbl CanUnit) : (State.mono { s with can := v }) = s.mono := rfl
@[simp] theorem set_can_fab (v : Tbl CanUnit) : (State.fab { s with can := v }) = s.fab := rfl
@[simp] theorem set_can_regs (v : Tbl CanUnit) : (State.regs { s with can := v }) = s.regs := rfl
@[simp] theorem set_can_timers (v : Tbl CanUnit) : (State.timers { s with can := v }) = s.timers := rfl
@[simp] theorem set_can_otp (v : Tbl CanUnit) : (State.otp { s with can := v }) = s.otp := rfl
@[simp] theorem set_can_msix (v : Tbl CanUnit) : (State.msix { s with can := v }) = s.msix := rfl
@[simp] theorem set_can_pageUnit (v : Tbl CanUnit) : (State.pageUnit { s with can := v }) = s.pageUnit := rfl
@[simp] theorem set_can_pcie (v : Tbl CanUnit) : (State.pcie { s with can := v }) = s.pcie := rfl
@[simp] theorem set_can_pd (v : Tbl CanUnit) : (State.pd { s with can := v }) = s.pd := rfl
@[simp] theorem set_can_ref (v : Tbl CanUnit) : (State.ref { s with can := v }) = s.ref := rfl
@[simp] theorem set_can_phy (v : Tbl CanUnit) : (State.phy { s with can := v }) = s.phy := rfl
@[simp] theorem set_can_lanes (v : Tbl CanUnit) : (State.lanes { s with can := v }) = s.lanes := rfl
@[simp] theorem set_can_win (v : Tbl CanUnit) : (State.win { s with can := v }) = s.win := rfl
@[simp] theorem set_can_rx (v : Tbl CanUnit) : (State.rx { s with can := v }) = s.rx := rfl
@[simp] theorem set_can_tx (v : Tbl CanUnit) : (State.tx { s with can := v }) = s.tx := rfl
@[simp] theorem set_can_byp (v : Tbl CanUnit) : (State.byp { s with can := v }) = s.byp := rfl
@[simp] theorem set_can_voqs (v : Tbl CanUnit) : (State.voqs { s with can := v }) = s.voqs := rfl
@[simp] theorem set_can_outs (v : Tbl CanUnit) : (State.outs { s with can := v }) = s.outs := rfl
@[simp] theorem set_can_buf (v : Tbl CanUnit) : (State.buf { s with can := v }) = s.buf := rfl
@[simp] theorem set_can_bufMem (v : Tbl CanUnit) : (State.bufMem { s with can := v }) = s.bufMem := rfl
@[simp] theorem set_can_lfsr (v : Tbl CanUnit) : (State.lfsr { s with can := v }) = s.lfsr := rfl
@[simp] theorem set_can_flt (v : Tbl CanUnit) : (State.flt { s with can := v }) = s.flt := rfl
@[simp] theorem set_can_twin (v : Tbl CanUnit) : (State.twin { s with can := v }) = s.twin := rfl
@[simp] theorem set_can_gcm (v : Tbl CanUnit) : (State.gcm { s with can := v }) = s.gcm := rfl
@[simp] theorem set_can_inbox (v : Tbl CanUnit) : (State.inbox { s with can := v }) = s.inbox := rfl
@[simp] theorem set_can_ctxs (v : Tbl CanUnit) : (State.ctxs { s with can := v }) = s.ctxs := rfl
@[simp] theorem set_can_engs (v : Tbl CanUnit) : (State.engs { s with can := v }) = s.engs := rfl
@[simp] theorem set_can_base (v : Tbl CanUnit) : (State.base { s with can := v }) = s.base := rfl
@[simp] theorem set_can_prog (v : Tbl CanUnit) : (State.prog { s with can := v }) = s.prog := rfl
@[simp] theorem set_can_pins (v : Tbl CanUnit) : (State.pins { s with can := v }) = s.pins := rfl
@[simp] theorem set_can_cup (v : Tbl CanUnit) : (State.cup { s with can := v }) = s.cup := rfl
@[simp] theorem set_can_bud (v : Tbl CanUnit) : (State.bud { s with can := v }) = s.bud := rfl
@[simp] theorem set_can_modeU (v : Tbl CanUnit) : (State.modeU { s with can := v }) = s.modeU := rfl
@[simp] theorem set_can_time (v : Tbl CanUnit) : (State.time { s with can := v }) = s.time := rfl
@[simp] theorem set_can_tout (v : Tbl CanUnit) : (State.tout { s with can := v }) = s.tout := rfl
@[simp] theorem set_can_bridge (v : Tbl CanUnit) : (State.bridge { s with can := v }) = s.bridge := rfl
@[simp] theorem set_can_can (v : Tbl CanUnit) : (State.can { s with can := v }) = v := rfl
@[simp] theorem set_can_usb (v : Tbl CanUnit) : (State.usb { s with can := v }) = s.usb := rfl
@[simp] theorem set_can_brk (v : Tbl CanUnit) : (State.brk { s with can := v }) = s.brk := rfl
@[simp] theorem set_can_cupSnap (v : Tbl CanUnit) : (State.cupSnap { s with can := v }) = s.cupSnap := rfl
@[simp] theorem set_can_flash (v : Tbl CanUnit) : (State.flash { s with can := v }) = s.flash := rfl
@[simp] theorem set_can_upd (v : Tbl CanUnit) : (State.upd { s with can := v }) = s.upd := rfl
@[simp] theorem set_usb_pending (v : UsbUnit) : (State.pending { s with usb := v }) = s.pending := rfl
@[simp] theorem set_usb_sent (v : UsbUnit) : (State.sent { s with usb := v }) = s.sent := rfl
@[simp] theorem set_usb_free (v : UsbUnit) : (State.free { s with usb := v }) = s.free := rfl
@[simp] theorem set_usb_cycle (v : UsbUnit) : (State.cycle { s with usb := v }) = s.cycle := rfl
@[simp] theorem set_usb_mono (v : UsbUnit) : (State.mono { s with usb := v }) = s.mono := rfl
@[simp] theorem set_usb_fab (v : UsbUnit) : (State.fab { s with usb := v }) = s.fab := rfl
@[simp] theorem set_usb_regs (v : UsbUnit) : (State.regs { s with usb := v }) = s.regs := rfl
@[simp] theorem set_usb_timers (v : UsbUnit) : (State.timers { s with usb := v }) = s.timers := rfl
@[simp] theorem set_usb_otp (v : UsbUnit) : (State.otp { s with usb := v }) = s.otp := rfl
@[simp] theorem set_usb_msix (v : UsbUnit) : (State.msix { s with usb := v }) = s.msix := rfl
@[simp] theorem set_usb_pageUnit (v : UsbUnit) : (State.pageUnit { s with usb := v }) = s.pageUnit := rfl
@[simp] theorem set_usb_pcie (v : UsbUnit) : (State.pcie { s with usb := v }) = s.pcie := rfl
@[simp] theorem set_usb_pd (v : UsbUnit) : (State.pd { s with usb := v }) = s.pd := rfl
@[simp] theorem set_usb_ref (v : UsbUnit) : (State.ref { s with usb := v }) = s.ref := rfl
@[simp] theorem set_usb_phy (v : UsbUnit) : (State.phy { s with usb := v }) = s.phy := rfl
@[simp] theorem set_usb_lanes (v : UsbUnit) : (State.lanes { s with usb := v }) = s.lanes := rfl
@[simp] theorem set_usb_win (v : UsbUnit) : (State.win { s with usb := v }) = s.win := rfl
@[simp] theorem set_usb_rx (v : UsbUnit) : (State.rx { s with usb := v }) = s.rx := rfl
@[simp] theorem set_usb_tx (v : UsbUnit) : (State.tx { s with usb := v }) = s.tx := rfl
@[simp] theorem set_usb_byp (v : UsbUnit) : (State.byp { s with usb := v }) = s.byp := rfl
@[simp] theorem set_usb_voqs (v : UsbUnit) : (State.voqs { s with usb := v }) = s.voqs := rfl
@[simp] theorem set_usb_outs (v : UsbUnit) : (State.outs { s with usb := v }) = s.outs := rfl
@[simp] theorem set_usb_buf (v : UsbUnit) : (State.buf { s with usb := v }) = s.buf := rfl
@[simp] theorem set_usb_bufMem (v : UsbUnit) : (State.bufMem { s with usb := v }) = s.bufMem := rfl
@[simp] theorem set_usb_lfsr (v : UsbUnit) : (State.lfsr { s with usb := v }) = s.lfsr := rfl
@[simp] theorem set_usb_flt (v : UsbUnit) : (State.flt { s with usb := v }) = s.flt := rfl
@[simp] theorem set_usb_twin (v : UsbUnit) : (State.twin { s with usb := v }) = s.twin := rfl
@[simp] theorem set_usb_gcm (v : UsbUnit) : (State.gcm { s with usb := v }) = s.gcm := rfl
@[simp] theorem set_usb_inbox (v : UsbUnit) : (State.inbox { s with usb := v }) = s.inbox := rfl
@[simp] theorem set_usb_ctxs (v : UsbUnit) : (State.ctxs { s with usb := v }) = s.ctxs := rfl
@[simp] theorem set_usb_engs (v : UsbUnit) : (State.engs { s with usb := v }) = s.engs := rfl
@[simp] theorem set_usb_base (v : UsbUnit) : (State.base { s with usb := v }) = s.base := rfl
@[simp] theorem set_usb_prog (v : UsbUnit) : (State.prog { s with usb := v }) = s.prog := rfl
@[simp] theorem set_usb_pins (v : UsbUnit) : (State.pins { s with usb := v }) = s.pins := rfl
@[simp] theorem set_usb_cup (v : UsbUnit) : (State.cup { s with usb := v }) = s.cup := rfl
@[simp] theorem set_usb_bud (v : UsbUnit) : (State.bud { s with usb := v }) = s.bud := rfl
@[simp] theorem set_usb_modeU (v : UsbUnit) : (State.modeU { s with usb := v }) = s.modeU := rfl
@[simp] theorem set_usb_time (v : UsbUnit) : (State.time { s with usb := v }) = s.time := rfl
@[simp] theorem set_usb_tout (v : UsbUnit) : (State.tout { s with usb := v }) = s.tout := rfl
@[simp] theorem set_usb_bridge (v : UsbUnit) : (State.bridge { s with usb := v }) = s.bridge := rfl
@[simp] theorem set_usb_can (v : UsbUnit) : (State.can { s with usb := v }) = s.can := rfl
@[simp] theorem set_usb_usb (v : UsbUnit) : (State.usb { s with usb := v }) = v := rfl
@[simp] theorem set_usb_brk (v : UsbUnit) : (State.brk { s with usb := v }) = s.brk := rfl
@[simp] theorem set_usb_cupSnap (v : UsbUnit) : (State.cupSnap { s with usb := v }) = s.cupSnap := rfl
@[simp] theorem set_usb_flash (v : UsbUnit) : (State.flash { s with usb := v }) = s.flash := rfl
@[simp] theorem set_usb_upd (v : UsbUnit) : (State.upd { s with usb := v }) = s.upd := rfl
@[simp] theorem set_brk_pending (v : BrkUnit) : (State.pending { s with brk := v }) = s.pending := rfl
@[simp] theorem set_brk_sent (v : BrkUnit) : (State.sent { s with brk := v }) = s.sent := rfl
@[simp] theorem set_brk_free (v : BrkUnit) : (State.free { s with brk := v }) = s.free := rfl
@[simp] theorem set_brk_cycle (v : BrkUnit) : (State.cycle { s with brk := v }) = s.cycle := rfl
@[simp] theorem set_brk_mono (v : BrkUnit) : (State.mono { s with brk := v }) = s.mono := rfl
@[simp] theorem set_brk_fab (v : BrkUnit) : (State.fab { s with brk := v }) = s.fab := rfl
@[simp] theorem set_brk_regs (v : BrkUnit) : (State.regs { s with brk := v }) = s.regs := rfl
@[simp] theorem set_brk_timers (v : BrkUnit) : (State.timers { s with brk := v }) = s.timers := rfl
@[simp] theorem set_brk_otp (v : BrkUnit) : (State.otp { s with brk := v }) = s.otp := rfl
@[simp] theorem set_brk_msix (v : BrkUnit) : (State.msix { s with brk := v }) = s.msix := rfl
@[simp] theorem set_brk_pageUnit (v : BrkUnit) : (State.pageUnit { s with brk := v }) = s.pageUnit := rfl
@[simp] theorem set_brk_pcie (v : BrkUnit) : (State.pcie { s with brk := v }) = s.pcie := rfl
@[simp] theorem set_brk_pd (v : BrkUnit) : (State.pd { s with brk := v }) = s.pd := rfl
@[simp] theorem set_brk_ref (v : BrkUnit) : (State.ref { s with brk := v }) = s.ref := rfl
@[simp] theorem set_brk_phy (v : BrkUnit) : (State.phy { s with brk := v }) = s.phy := rfl
@[simp] theorem set_brk_lanes (v : BrkUnit) : (State.lanes { s with brk := v }) = s.lanes := rfl
@[simp] theorem set_brk_win (v : BrkUnit) : (State.win { s with brk := v }) = s.win := rfl
@[simp] theorem set_brk_rx (v : BrkUnit) : (State.rx { s with brk := v }) = s.rx := rfl
@[simp] theorem set_brk_tx (v : BrkUnit) : (State.tx { s with brk := v }) = s.tx := rfl
@[simp] theorem set_brk_byp (v : BrkUnit) : (State.byp { s with brk := v }) = s.byp := rfl
@[simp] theorem set_brk_voqs (v : BrkUnit) : (State.voqs { s with brk := v }) = s.voqs := rfl
@[simp] theorem set_brk_outs (v : BrkUnit) : (State.outs { s with brk := v }) = s.outs := rfl
@[simp] theorem set_brk_buf (v : BrkUnit) : (State.buf { s with brk := v }) = s.buf := rfl
@[simp] theorem set_brk_bufMem (v : BrkUnit) : (State.bufMem { s with brk := v }) = s.bufMem := rfl
@[simp] theorem set_brk_lfsr (v : BrkUnit) : (State.lfsr { s with brk := v }) = s.lfsr := rfl
@[simp] theorem set_brk_flt (v : BrkUnit) : (State.flt { s with brk := v }) = s.flt := rfl
@[simp] theorem set_brk_twin (v : BrkUnit) : (State.twin { s with brk := v }) = s.twin := rfl
@[simp] theorem set_brk_gcm (v : BrkUnit) : (State.gcm { s with brk := v }) = s.gcm := rfl
@[simp] theorem set_brk_inbox (v : BrkUnit) : (State.inbox { s with brk := v }) = s.inbox := rfl
@[simp] theorem set_brk_ctxs (v : BrkUnit) : (State.ctxs { s with brk := v }) = s.ctxs := rfl
@[simp] theorem set_brk_engs (v : BrkUnit) : (State.engs { s with brk := v }) = s.engs := rfl
@[simp] theorem set_brk_base (v : BrkUnit) : (State.base { s with brk := v }) = s.base := rfl
@[simp] theorem set_brk_prog (v : BrkUnit) : (State.prog { s with brk := v }) = s.prog := rfl
@[simp] theorem set_brk_pins (v : BrkUnit) : (State.pins { s with brk := v }) = s.pins := rfl
@[simp] theorem set_brk_cup (v : BrkUnit) : (State.cup { s with brk := v }) = s.cup := rfl
@[simp] theorem set_brk_bud (v : BrkUnit) : (State.bud { s with brk := v }) = s.bud := rfl
@[simp] theorem set_brk_modeU (v : BrkUnit) : (State.modeU { s with brk := v }) = s.modeU := rfl
@[simp] theorem set_brk_time (v : BrkUnit) : (State.time { s with brk := v }) = s.time := rfl
@[simp] theorem set_brk_tout (v : BrkUnit) : (State.tout { s with brk := v }) = s.tout := rfl
@[simp] theorem set_brk_bridge (v : BrkUnit) : (State.bridge { s with brk := v }) = s.bridge := rfl
@[simp] theorem set_brk_can (v : BrkUnit) : (State.can { s with brk := v }) = s.can := rfl
@[simp] theorem set_brk_usb (v : BrkUnit) : (State.usb { s with brk := v }) = s.usb := rfl
@[simp] theorem set_brk_brk (v : BrkUnit) : (State.brk { s with brk := v }) = v := rfl
@[simp] theorem set_brk_cupSnap (v : BrkUnit) : (State.cupSnap { s with brk := v }) = s.cupSnap := rfl
@[simp] theorem set_brk_flash (v : BrkUnit) : (State.flash { s with brk := v }) = s.flash := rfl
@[simp] theorem set_brk_upd (v : BrkUnit) : (State.upd { s with brk := v }) = s.upd := rfl
@[simp] theorem set_cupSnap_pending (v : Option (Nat × Bool)) : (State.pending { s with cupSnap := v }) = s.pending := rfl
@[simp] theorem set_cupSnap_sent (v : Option (Nat × Bool)) : (State.sent { s with cupSnap := v }) = s.sent := rfl
@[simp] theorem set_cupSnap_free (v : Option (Nat × Bool)) : (State.free { s with cupSnap := v }) = s.free := rfl
@[simp] theorem set_cupSnap_cycle (v : Option (Nat × Bool)) : (State.cycle { s with cupSnap := v }) = s.cycle := rfl
@[simp] theorem set_cupSnap_mono (v : Option (Nat × Bool)) : (State.mono { s with cupSnap := v }) = s.mono := rfl
@[simp] theorem set_cupSnap_fab (v : Option (Nat × Bool)) : (State.fab { s with cupSnap := v }) = s.fab := rfl
@[simp] theorem set_cupSnap_regs (v : Option (Nat × Bool)) : (State.regs { s with cupSnap := v }) = s.regs := rfl
@[simp] theorem set_cupSnap_timers (v : Option (Nat × Bool)) : (State.timers { s with cupSnap := v }) = s.timers := rfl
@[simp] theorem set_cupSnap_otp (v : Option (Nat × Bool)) : (State.otp { s with cupSnap := v }) = s.otp := rfl
@[simp] theorem set_cupSnap_msix (v : Option (Nat × Bool)) : (State.msix { s with cupSnap := v }) = s.msix := rfl
@[simp] theorem set_cupSnap_pageUnit (v : Option (Nat × Bool)) : (State.pageUnit { s with cupSnap := v }) = s.pageUnit := rfl
@[simp] theorem set_cupSnap_pcie (v : Option (Nat × Bool)) : (State.pcie { s with cupSnap := v }) = s.pcie := rfl
@[simp] theorem set_cupSnap_pd (v : Option (Nat × Bool)) : (State.pd { s with cupSnap := v }) = s.pd := rfl
@[simp] theorem set_cupSnap_ref (v : Option (Nat × Bool)) : (State.ref { s with cupSnap := v }) = s.ref := rfl
@[simp] theorem set_cupSnap_phy (v : Option (Nat × Bool)) : (State.phy { s with cupSnap := v }) = s.phy := rfl
@[simp] theorem set_cupSnap_lanes (v : Option (Nat × Bool)) : (State.lanes { s with cupSnap := v }) = s.lanes := rfl
@[simp] theorem set_cupSnap_win (v : Option (Nat × Bool)) : (State.win { s with cupSnap := v }) = s.win := rfl
@[simp] theorem set_cupSnap_rx (v : Option (Nat × Bool)) : (State.rx { s with cupSnap := v }) = s.rx := rfl
@[simp] theorem set_cupSnap_tx (v : Option (Nat × Bool)) : (State.tx { s with cupSnap := v }) = s.tx := rfl
@[simp] theorem set_cupSnap_byp (v : Option (Nat × Bool)) : (State.byp { s with cupSnap := v }) = s.byp := rfl
@[simp] theorem set_cupSnap_voqs (v : Option (Nat × Bool)) : (State.voqs { s with cupSnap := v }) = s.voqs := rfl
@[simp] theorem set_cupSnap_outs (v : Option (Nat × Bool)) : (State.outs { s with cupSnap := v }) = s.outs := rfl
@[simp] theorem set_cupSnap_buf (v : Option (Nat × Bool)) : (State.buf { s with cupSnap := v }) = s.buf := rfl
@[simp] theorem set_cupSnap_bufMem (v : Option (Nat × Bool)) : (State.bufMem { s with cupSnap := v }) = s.bufMem := rfl
@[simp] theorem set_cupSnap_lfsr (v : Option (Nat × Bool)) : (State.lfsr { s with cupSnap := v }) = s.lfsr := rfl
@[simp] theorem set_cupSnap_flt (v : Option (Nat × Bool)) : (State.flt { s with cupSnap := v }) = s.flt := rfl
@[simp] theorem set_cupSnap_twin (v : Option (Nat × Bool)) : (State.twin { s with cupSnap := v }) = s.twin := rfl
@[simp] theorem set_cupSnap_gcm (v : Option (Nat × Bool)) : (State.gcm { s with cupSnap := v }) = s.gcm := rfl
@[simp] theorem set_cupSnap_inbox (v : Option (Nat × Bool)) : (State.inbox { s with cupSnap := v }) = s.inbox := rfl
@[simp] theorem set_cupSnap_ctxs (v : Option (Nat × Bool)) : (State.ctxs { s with cupSnap := v }) = s.ctxs := rfl
@[simp] theorem set_cupSnap_engs (v : Option (Nat × Bool)) : (State.engs { s with cupSnap := v }) = s.engs := rfl
@[simp] theorem set_cupSnap_base (v : Option (Nat × Bool)) : (State.base { s with cupSnap := v }) = s.base := rfl
@[simp] theorem set_cupSnap_prog (v : Option (Nat × Bool)) : (State.prog { s with cupSnap := v }) = s.prog := rfl
@[simp] theorem set_cupSnap_pins (v : Option (Nat × Bool)) : (State.pins { s with cupSnap := v }) = s.pins := rfl
@[simp] theorem set_cupSnap_cup (v : Option (Nat × Bool)) : (State.cup { s with cupSnap := v }) = s.cup := rfl
@[simp] theorem set_cupSnap_bud (v : Option (Nat × Bool)) : (State.bud { s with cupSnap := v }) = s.bud := rfl
@[simp] theorem set_cupSnap_modeU (v : Option (Nat × Bool)) : (State.modeU { s with cupSnap := v }) = s.modeU := rfl
@[simp] theorem set_cupSnap_time (v : Option (Nat × Bool)) : (State.time { s with cupSnap := v }) = s.time := rfl
@[simp] theorem set_cupSnap_tout (v : Option (Nat × Bool)) : (State.tout { s with cupSnap := v }) = s.tout := rfl
@[simp] theorem set_cupSnap_bridge (v : Option (Nat × Bool)) : (State.bridge { s with cupSnap := v }) = s.bridge := rfl
@[simp] theorem set_cupSnap_can (v : Option (Nat × Bool)) : (State.can { s with cupSnap := v }) = s.can := rfl
@[simp] theorem set_cupSnap_usb (v : Option (Nat × Bool)) : (State.usb { s with cupSnap := v }) = s.usb := rfl
@[simp] theorem set_cupSnap_brk (v : Option (Nat × Bool)) : (State.brk { s with cupSnap := v }) = s.brk := rfl
@[simp] theorem set_cupSnap_cupSnap (v : Option (Nat × Bool)) : (State.cupSnap { s with cupSnap := v }) = v := rfl
@[simp] theorem set_cupSnap_flash (v : Option (Nat × Bool)) : (State.flash { s with cupSnap := v }) = s.flash := rfl
@[simp] theorem set_cupSnap_upd (v : Option (Nat × Bool)) : (State.upd { s with cupSnap := v }) = s.upd := rfl
@[simp] theorem set_flash_pending (v : FlashUnit) : (State.pending { s with flash := v }) = s.pending := rfl
@[simp] theorem set_flash_sent (v : FlashUnit) : (State.sent { s with flash := v }) = s.sent := rfl
@[simp] theorem set_flash_free (v : FlashUnit) : (State.free { s with flash := v }) = s.free := rfl
@[simp] theorem set_flash_cycle (v : FlashUnit) : (State.cycle { s with flash := v }) = s.cycle := rfl
@[simp] theorem set_flash_mono (v : FlashUnit) : (State.mono { s with flash := v }) = s.mono := rfl
@[simp] theorem set_flash_fab (v : FlashUnit) : (State.fab { s with flash := v }) = s.fab := rfl
@[simp] theorem set_flash_regs (v : FlashUnit) : (State.regs { s with flash := v }) = s.regs := rfl
@[simp] theorem set_flash_timers (v : FlashUnit) : (State.timers { s with flash := v }) = s.timers := rfl
@[simp] theorem set_flash_otp (v : FlashUnit) : (State.otp { s with flash := v }) = s.otp := rfl
@[simp] theorem set_flash_msix (v : FlashUnit) : (State.msix { s with flash := v }) = s.msix := rfl
@[simp] theorem set_flash_pageUnit (v : FlashUnit) : (State.pageUnit { s with flash := v }) = s.pageUnit := rfl
@[simp] theorem set_flash_pcie (v : FlashUnit) : (State.pcie { s with flash := v }) = s.pcie := rfl
@[simp] theorem set_flash_pd (v : FlashUnit) : (State.pd { s with flash := v }) = s.pd := rfl
@[simp] theorem set_flash_ref (v : FlashUnit) : (State.ref { s with flash := v }) = s.ref := rfl
@[simp] theorem set_flash_phy (v : FlashUnit) : (State.phy { s with flash := v }) = s.phy := rfl
@[simp] theorem set_flash_lanes (v : FlashUnit) : (State.lanes { s with flash := v }) = s.lanes := rfl
@[simp] theorem set_flash_win (v : FlashUnit) : (State.win { s with flash := v }) = s.win := rfl
@[simp] theorem set_flash_rx (v : FlashUnit) : (State.rx { s with flash := v }) = s.rx := rfl
@[simp] theorem set_flash_tx (v : FlashUnit) : (State.tx { s with flash := v }) = s.tx := rfl
@[simp] theorem set_flash_byp (v : FlashUnit) : (State.byp { s with flash := v }) = s.byp := rfl
@[simp] theorem set_flash_voqs (v : FlashUnit) : (State.voqs { s with flash := v }) = s.voqs := rfl
@[simp] theorem set_flash_outs (v : FlashUnit) : (State.outs { s with flash := v }) = s.outs := rfl
@[simp] theorem set_flash_buf (v : FlashUnit) : (State.buf { s with flash := v }) = s.buf := rfl
@[simp] theorem set_flash_bufMem (v : FlashUnit) : (State.bufMem { s with flash := v }) = s.bufMem := rfl
@[simp] theorem set_flash_lfsr (v : FlashUnit) : (State.lfsr { s with flash := v }) = s.lfsr := rfl
@[simp] theorem set_flash_flt (v : FlashUnit) : (State.flt { s with flash := v }) = s.flt := rfl
@[simp] theorem set_flash_twin (v : FlashUnit) : (State.twin { s with flash := v }) = s.twin := rfl
@[simp] theorem set_flash_gcm (v : FlashUnit) : (State.gcm { s with flash := v }) = s.gcm := rfl
@[simp] theorem set_flash_inbox (v : FlashUnit) : (State.inbox { s with flash := v }) = s.inbox := rfl
@[simp] theorem set_flash_ctxs (v : FlashUnit) : (State.ctxs { s with flash := v }) = s.ctxs := rfl
@[simp] theorem set_flash_engs (v : FlashUnit) : (State.engs { s with flash := v }) = s.engs := rfl
@[simp] theorem set_flash_base (v : FlashUnit) : (State.base { s with flash := v }) = s.base := rfl
@[simp] theorem set_flash_prog (v : FlashUnit) : (State.prog { s with flash := v }) = s.prog := rfl
@[simp] theorem set_flash_pins (v : FlashUnit) : (State.pins { s with flash := v }) = s.pins := rfl
@[simp] theorem set_flash_cup (v : FlashUnit) : (State.cup { s with flash := v }) = s.cup := rfl
@[simp] theorem set_flash_bud (v : FlashUnit) : (State.bud { s with flash := v }) = s.bud := rfl
@[simp] theorem set_flash_modeU (v : FlashUnit) : (State.modeU { s with flash := v }) = s.modeU := rfl
@[simp] theorem set_flash_time (v : FlashUnit) : (State.time { s with flash := v }) = s.time := rfl
@[simp] theorem set_flash_tout (v : FlashUnit) : (State.tout { s with flash := v }) = s.tout := rfl
@[simp] theorem set_flash_bridge (v : FlashUnit) : (State.bridge { s with flash := v }) = s.bridge := rfl
@[simp] theorem set_flash_can (v : FlashUnit) : (State.can { s with flash := v }) = s.can := rfl
@[simp] theorem set_flash_usb (v : FlashUnit) : (State.usb { s with flash := v }) = s.usb := rfl
@[simp] theorem set_flash_brk (v : FlashUnit) : (State.brk { s with flash := v }) = s.brk := rfl
@[simp] theorem set_flash_cupSnap (v : FlashUnit) : (State.cupSnap { s with flash := v }) = s.cupSnap := rfl
@[simp] theorem set_flash_flash (v : FlashUnit) : (State.flash { s with flash := v }) = v := rfl
@[simp] theorem set_flash_upd (v : FlashUnit) : (State.upd { s with flash := v }) = s.upd := rfl
@[simp] theorem set_upd_pending (v : UpdUnit) : (State.pending { s with upd := v }) = s.pending := rfl
@[simp] theorem set_upd_sent (v : UpdUnit) : (State.sent { s with upd := v }) = s.sent := rfl
@[simp] theorem set_upd_free (v : UpdUnit) : (State.free { s with upd := v }) = s.free := rfl
@[simp] theorem set_upd_cycle (v : UpdUnit) : (State.cycle { s with upd := v }) = s.cycle := rfl
@[simp] theorem set_upd_mono (v : UpdUnit) : (State.mono { s with upd := v }) = s.mono := rfl
@[simp] theorem set_upd_fab (v : UpdUnit) : (State.fab { s with upd := v }) = s.fab := rfl
@[simp] theorem set_upd_regs (v : UpdUnit) : (State.regs { s with upd := v }) = s.regs := rfl
@[simp] theorem set_upd_timers (v : UpdUnit) : (State.timers { s with upd := v }) = s.timers := rfl
@[simp] theorem set_upd_otp (v : UpdUnit) : (State.otp { s with upd := v }) = s.otp := rfl
@[simp] theorem set_upd_msix (v : UpdUnit) : (State.msix { s with upd := v }) = s.msix := rfl
@[simp] theorem set_upd_pageUnit (v : UpdUnit) : (State.pageUnit { s with upd := v }) = s.pageUnit := rfl
@[simp] theorem set_upd_pcie (v : UpdUnit) : (State.pcie { s with upd := v }) = s.pcie := rfl
@[simp] theorem set_upd_pd (v : UpdUnit) : (State.pd { s with upd := v }) = s.pd := rfl
@[simp] theorem set_upd_ref (v : UpdUnit) : (State.ref { s with upd := v }) = s.ref := rfl
@[simp] theorem set_upd_phy (v : UpdUnit) : (State.phy { s with upd := v }) = s.phy := rfl
@[simp] theorem set_upd_lanes (v : UpdUnit) : (State.lanes { s with upd := v }) = s.lanes := rfl
@[simp] theorem set_upd_win (v : UpdUnit) : (State.win { s with upd := v }) = s.win := rfl
@[simp] theorem set_upd_rx (v : UpdUnit) : (State.rx { s with upd := v }) = s.rx := rfl
@[simp] theorem set_upd_tx (v : UpdUnit) : (State.tx { s with upd := v }) = s.tx := rfl
@[simp] theorem set_upd_byp (v : UpdUnit) : (State.byp { s with upd := v }) = s.byp := rfl
@[simp] theorem set_upd_voqs (v : UpdUnit) : (State.voqs { s with upd := v }) = s.voqs := rfl
@[simp] theorem set_upd_outs (v : UpdUnit) : (State.outs { s with upd := v }) = s.outs := rfl
@[simp] theorem set_upd_buf (v : UpdUnit) : (State.buf { s with upd := v }) = s.buf := rfl
@[simp] theorem set_upd_bufMem (v : UpdUnit) : (State.bufMem { s with upd := v }) = s.bufMem := rfl
@[simp] theorem set_upd_lfsr (v : UpdUnit) : (State.lfsr { s with upd := v }) = s.lfsr := rfl
@[simp] theorem set_upd_flt (v : UpdUnit) : (State.flt { s with upd := v }) = s.flt := rfl
@[simp] theorem set_upd_twin (v : UpdUnit) : (State.twin { s with upd := v }) = s.twin := rfl
@[simp] theorem set_upd_gcm (v : UpdUnit) : (State.gcm { s with upd := v }) = s.gcm := rfl
@[simp] theorem set_upd_inbox (v : UpdUnit) : (State.inbox { s with upd := v }) = s.inbox := rfl
@[simp] theorem set_upd_ctxs (v : UpdUnit) : (State.ctxs { s with upd := v }) = s.ctxs := rfl
@[simp] theorem set_upd_engs (v : UpdUnit) : (State.engs { s with upd := v }) = s.engs := rfl
@[simp] theorem set_upd_base (v : UpdUnit) : (State.base { s with upd := v }) = s.base := rfl
@[simp] theorem set_upd_prog (v : UpdUnit) : (State.prog { s with upd := v }) = s.prog := rfl
@[simp] theorem set_upd_pins (v : UpdUnit) : (State.pins { s with upd := v }) = s.pins := rfl
@[simp] theorem set_upd_cup (v : UpdUnit) : (State.cup { s with upd := v }) = s.cup := rfl
@[simp] theorem set_upd_bud (v : UpdUnit) : (State.bud { s with upd := v }) = s.bud := rfl
@[simp] theorem set_upd_modeU (v : UpdUnit) : (State.modeU { s with upd := v }) = s.modeU := rfl
@[simp] theorem set_upd_time (v : UpdUnit) : (State.time { s with upd := v }) = s.time := rfl
@[simp] theorem set_upd_tout (v : UpdUnit) : (State.tout { s with upd := v }) = s.tout := rfl
@[simp] theorem set_upd_bridge (v : UpdUnit) : (State.bridge { s with upd := v }) = s.bridge := rfl
@[simp] theorem set_upd_can (v : UpdUnit) : (State.can { s with upd := v }) = s.can := rfl
@[simp] theorem set_upd_usb (v : UpdUnit) : (State.usb { s with upd := v }) = s.usb := rfl
@[simp] theorem set_upd_brk (v : UpdUnit) : (State.brk { s with upd := v }) = s.brk := rfl
@[simp] theorem set_upd_cupSnap (v : UpdUnit) : (State.cupSnap { s with upd := v }) = s.cupSnap := rfl
@[simp] theorem set_upd_flash (v : UpdUnit) : (State.flash { s with upd := v }) = s.flash := rfl
@[simp] theorem set_upd_upd (v : UpdUnit) : (State.upd { s with upd := v }) = v := rfl

end Sys2Proof.Laws
end

