-- ==== Sys2Proof/Laws/Ops.lean ====
section
/-! SUPPORT. What the shared operations of the commands do, said once: accesses, reports of checkers, evaluations
that have been asked for. -/

set_option Elab.async false

namespace Sys2Proof.Laws

open Sys2Proof.Machine Sys2Proof.Safety

/-- A permitted write has its effect and is answered. -/
theorem access_permitted (s : State) (p : Port) (pg off v : Nat) (k : State → State) (h : Permitted s p pg off v) :
    s.access p pg off v k = (k (s.heard p)).emit (done p) := by
  simp only [State.access, h.1, h.2]
  rfl

/-- A permitted read returns its value. -/
theorem readAccess_permitted (s : State) (p : Port) (pg off : Nat) (k : State → Nat × State) (h : Readable s p pg off) :
    s.readAccess p pg off k = (k (s.heard p)).2.emit (.answer p.code true 0 (k (s.heard p)).1) := by
  simp only [State.readAccess, h.1, h.2]
  rfl

/-- With no report waiting, draining the reports changes nothing. -/
theorem drain_settled (s : State) (h : s.flt.todo = []) : s.drain = s := by
  unfold State.drain
  rw [h]
  show { s with flt := { s.flt with todo := [] } } = s
  rw [← h]

/-- With no evaluation asked for, none happens. -/
theorem evalWoken_settled (s : State) (h : s.bud.wake = false) : s.evalWoken = s := by
  simp [State.evalWoken, h]

/-- What follows a command is nothing while nothing has been reported or asked for. -/
theorem modeDone_settled (s : State) (h : Settled s) : s.modeDone = s := by
  unfold State.modeDone
  rw [evalWoken_settled s h.2, drain_settled s h.1]

end Sys2Proof.Laws
end

