-- ==== Sys2Proof/WellFormed.lean ====
section
/-! DEFINITION. Well-formed commands: every operand within the range its field, port, page, bus or ball can carry. -/

namespace Sys2Proof

/-- The operand `n` is below the bound `k`. -/
def below (n k : Nat) : Bool := decide (n < k)

/-- Every field of the frame within its width, at most 4,096 payload bytes (R88, R90). -/
def Frame.wf (f : Frame) : Bool :=
  below f.ver 16 && below f.tc 8 && below f.dest (2 ^ 25) && below f.src (2 ^ 25) && below f.seq 65536 &&
  below f.launch (2 ^ 64) && below f.len (2 ^ 13) && below f.epochLo 16 && below f.assoc 4096 && below f.hops 256 &&
  below f.xings 16 && below f.dir 2 && below f.entry 128 && below f.hchk (2 ^ 32) && below f.crc (2 ^ 32) &&
  below f.tag (2 ^ 128) && below f.rsv (2 ^ 34) && below f.payload.length 4097

/-- Identifier, DLC and data of a CAN frame within their widths (R339). -/
def CanFrame.wf (f : CanFrame) : Bool := below f.id (2 ^ 29) && below f.dlc 16 && below f.data.length 65

/-- Offset within BAR0, at most 1,024 words, eight byte enables (R25, R41). -/
def Span.wf (a : Span) : Bool := below a.at_ (2 ^ 24) && below a.dw 1025 && below a.be 256

/-- The code of a source within its field (R81). -/
def RefNote.wf (r : RefNote) : Bool :=
  match r with
  | .edges => true
  | .qualified src _ => below src 4

/-- Code and skew within their fields (R82). -/
def DownCause.wf (c : DownCause) : Bool := below c.code 16 && below c.skewUi (2 ^ 16)

/-- The command is well formed. -/
def Instr.wf (i : Instr) : Bool :=
  match i with
  | .registerWrite _ a v => a.wf && below v (2 ^ 64)
  | .loReadCapture _ a => a.wf
  | .softReset _ pg => below pg 256
  | .softResetDone pg => below pg 256
  | .fenceReq _ pg _ => below pg 256
  | .blockFenced pg => below pg 256
  | .blkAccessWrite _ pg v => below pg 256 && below v (2 ^ 32)
  | .lock _ pg v => below pg 256 && below v (2 ^ 32)
  | .intSet _ pg v => below pg 256 && below v (2 ^ 32)
  | .intStatClear _ pg v => below pg 256 && below v (2 ^ 32)
  | .intEnWrite _ pg v => below pg 256 && below v (2 ^ 32)
  | .msixUnmask vec _ _ => below (vec.getD 0) 64
  | .fltInjWrite _ pg v => below pg 256 && below v (2 ^ 32)
  | .denyClr _ v => below v (2 ^ 32)
  | .functionLevelReset => true
  | .d3hotEntry => true
  | .perst _ => true
  | .pcieLinkUp width speed => below width 5 && below speed 5
  | .pcieLinkDown => true
  | .refBeaconSend => true
  | .refBeaconRx _ node role => below node (2 ^ 12) && below role 4
  | .beaconTimeout => true
  | .contestNotice _ node role => below node (2 ^ 12) && below role 4
  | .refTake _ => true
  | .refYield _ => true
  | .refwLoss => true
  | .refSourceQualified src => src.wf
  | .phyBringUpStart _ => true
  | .lanePllLocked _ => true
  | .trainingComplete _ _ _ _ _ => true
  | .trainFail _ _ => true
  | .eqAdapted _ ctle0 ctle1 eye0 eye1 _ => below ctle0 16 && below ctle1 16 && below eye0 (2 ^ 32) && below eye1 (2 ^ 32)
  | .codewordLock _ _ => true
  | .deskewDone _ _ skewUi => below skewUi (2 ^ 16)
  | .linkQualified _ peerIndex => below peerIndex 2
  | .linkUp _ => true
  | .linkDown _ cause => cause.wf
  | .uncorrectableCodeword _ lane _ => below lane 2
  | .uncWindowEnd _ => true
  | .eyeLow _ lane height => below lane 2 && below height (2 ^ 16)
  | .retrain _ _ => true
  | .holdoffExpiry _ => true
  | .laneBallotSend => true
  | .laneBallotRx _ _ _ _ _ _ => true
  | .laneBallotReturn _ _ _ _ _ => true
  | .shedPauseStart _ => true
  | .shedBlockSend _ => true
  | .shedBlockRx _ => true
  | .joinStart _ => true
  | .joinBlockSend _ => true
  | .joinFail _ => true
  | .frameArrival _ f _ _ => f.wf
  | .frameTrailerAccept _ _ _ _ => true
  | .junctionRelayRx f _ => f.wf
  | .streamEntryRetire node cls => below node (2 ^ 12) && below cls 8
  | .transitCheckFail _ kind => below kind 4
  | .bypassRejoin _ => true
  | .rejoinRelayWaitEnd => true
  | .bypassForce _ _ => true
  | .insPeriodStart _ => true
  | .insertion _ _ _ => true
  | .copyAdmission inp f => below inp 8 && f.wf
  | .arbitrationGrant p => below p 8
  | .frameSent p => below p 8
  | .lfsrSeed _ seed => below seed (2 ^ 32)
  | .voqMinWrite _ v => below v (2 ^ 32)
  | .bankFence b => below b 16
  | .auditPass => true
  | .holdWindowExpiry p c => below p 8 && below c 8
  | .heartbeatSend => true
  | .heartbeatRx _ => true
  | .heartbeatTimeout => true
  | .aloneWaitExpiry => true
  | .ownInChange _ => true
  | .ownershipConflict => true
  | .interlockInconsistency => true
  | .ownReleasePoint => true
  | .pourOverSend => true
  | .snapshotFragmentRx _ idx _ _ => below idx (2 ^ 16)
  | .ringOutputTakeover _ => true
  | .ringOutputReturn _ => true
  | .handover _ => true
  | .peerRelayAccess _ => true
  | .peerRelayDone _ cause data => below cause 8 && below data (2 ^ 32)
  | .peerRelayTimeout => true
  | .syncSend => true
  | .announceSend => true
  | .delayReqSend => true
  | .pdelayReqSend _ => true
  | .pdelayReqRx _ _ _ => true
  | .pdelayRespRx _ _ _ _ _ => true
  | .syncRx _ f _ => f.wf
  | .delayReqRx _ f _ => f.wf
  | .delayRespRx _ f => f.wf
  | .announceRx _ f => f.wf
  | .announceTimeout => true
  | .syncTimeout => true
  | .pathSyncTimeout => true
  | .stepGo _ _ => true
  | .stepArm _ _ => true
  | .launchEligible v => below v 512
  | .launchDeadline v => below v 512
  | .toutArm _ k => below k 4
  | .toutDisarm _ k => below k 4
  | .toutEdge k => below k 4
  | .baseCycleBoundary => true
  | .bcGridChange => true
  | .dispatchResume e => below e 16
  | .deferralEnd e c => below e 16 && below c 32
  | .ctxStart _ e c _ => below e 16 && below c 32
  | .ctxStartNow _ e c _ => below e 16 && below c 32
  | .ctxClear _ e c _ => below e 16 && below c 32
  | .ctxStop _ e c _ => below e 16 && below c 32
  | .stopCompletion e c => below e 16 && below c 32
  | .injGo _ e c _ => below e 16 && below c 32
  | .injectionExecute e c => below e 16 && below c 32
  | .reservedEncoding e c => below e 16 && below c 32
  | .jmp e c => below e 16 && below c 32
  | .wait e c => below e 16 && below c 32
  | .inBits e c => below e 16 && below c 32
  | .outBits e c => below e 16 && below c 32
  | .push e c => below e 16 && below c 32
  | .pull e c => below e 16 && below c 32
  | .mov e c => below e 16 && below c 32
  | .setPins e c => below e 16 && below c 32
  | .aluAdd e c => below e 16 && below c 32
  | .aluSub e c => below e 16 && below c 32
  | .aluAnd e c => below e 16 && below c 32
  | .aluOr e c => below e 16 && below c 32
  | .aluXor e c => below e 16 && below c 32
  | .aluShl e c => below e 16 && below c 32
  | .aluShr e c => below e 16 && below c 32
  | .aluCmp e c => below e 16 && below c 32
  | .stamp e c => below e 16 && below c 32
  | .ttrig e c => below e 16 && below c 32
  | .ttrigCancel e c => below e 16 && below c 32
  | .ttrigActionFire e c => below e 16 && below c 32
  | .chkSeed e c => below e 16 && below c 32
  | .chkSeedx e c => below e 16 && below c 32
  | .chkFold e c => below e 16 && below c 32
  | .chkAppend e c => below e 16 && below c 32
  | .chkVerify e c => below e 16 && below c 32
  | .chkSave e c => below e 16 && below c 32
  | .chkPause e c => below e 16 && below c 32
  | .fifoMark e c => below e 16 && below c 32
  | .fifoRewind e c => below e 16 && below c 32
  | .fifoRelease e c => below e 16 && below c 32
  | .fifoFlush e c => below e 16 && below c 32
  | .event e c => below e 16 && below c 32
  | .ldi e c => below e 16 && below c 32
  | .yield e c => below e 16 && below c 32
  | .yieldEoc e c => below e 16 && below c 32
  | .stallEnd e c => below e 16 && below c 32
  | .pinUnderrun e c => below e 16 && below c 32
  | .txFlush _ e => below e 16
  | .rxFlush _ e => below e 16
  | .flushComplete e c _ => below e 16 && below c 32
  | .txfPush _ e v => below e 16 && below v (2 ^ 32)
  | .txfPushEnd _ e v => below e 16 && below v (2 ^ 32)
  | .rxfPop _ e => below e 16
  | .contextSnapshot _ e c => below e 16 && below c 32
  | .contextSnapshotDone e => below e 16
  | .framerEmit e c => below e 16 && below c 32
  | .framerRx f => f.wf
  | .framerUnpack e c => below e 16 && below c 32
  | .readPendTimeout e c => below e 16 && below c 32
  | .subaWrite _ e base count => below e 16 && below base (2 ^ 13) && below count 128
  | .programMemoryWrite _ e bank word v => below e 16 && below bank 2 && below word (2 ^ 11) && below v (2 ^ 32)
  | .pbSwap _ e _ => below e 16
  | .pbCancel _ e _ => below e 16
  | .bankSupplyFail b => below b 8
  | .pinInputChange pin _ => below pin 256
  | .pinEdgeAccepted pin => below pin 256
  | .bar2Write off _ _ => below off (2 ^ 29)
  | .bar2Read _ off _ _ => below off (2 ^ 29)
  | .accessAnswerRx f => f.wf
  | .readTimeout tag => below tag (2 ^ 16)
  | .writeTimeout tag => below tag (2 ^ 16)
  | .prefetchLineExpiry addr => below addr (2 ^ 49)
  | .fenceGo _ w => below w 128
  | .fenceAbort _ w => below w 128
  | .readAbort _ w => below w 128
  | .pweClear _ => true
  | .pfdClear _ => true
  | .pollDue e => below e (2 ^ 10)
  | .cqPop _ => true
  | .hostRxDelivery f _ => f.wf
  | .sendRingServe n count _ => below n 8 && below count (2 ^ 12)
  | .mgmtRequest f => f.wf
  | .mgmtDoorbell _ node v => below node (2 ^ 12) && below v (2 ^ 32)
  | .canMode _ n mode => below n 4 && below mode 4
  | .canFrameRx n f sofNs sofSec => below n 4 && f.wf && below sofNs (2 ^ 30) && below sofSec (2 ^ 32)
  | .canTxReq _ n => below n 4
  | .canTxAbort _ n => below n 4
  | .canTxStart n b => below n 4 && below b 64
  | .canTxEnd n _ _ => below n 4
  | .canEndpointAccess f => f.wf
  | .canWindowStart n => below n 4
  | .canSwitch _ n => below n 4
  | .canSwitchCancel _ n => below n 4
  | .canBusError n _ _ _ => below n 4
  | .canRecover _ n => below n 4
  | .canRecovered n => below n 4
  | .canSleep _ n => below n 4
  | .canSleepEnter n => below n 4
  | .canWakeCondition n _ f sofNs sofSec => below n 4 && ((f.map CanFrame.wf).getD true) && below sofNs (2 ^ 30) && below sofSec (2 ^ 32)
  | .canWake _ n => below n 4
  | .usbAttach _ => true
  | .usbBusReset _ => true
  | .getHubStatus => true
  | .getPortStatus k => below k 6
  | .setHubFeature feature => below feature (2 ^ 16)
  | .clearHubFeature feature => below feature (2 ^ 16)
  | .setPortFeature k feature _ => below k 6 && below feature (2 ^ 16)
  | .clearPortFeature k feature => below k 6 && below feature (2 ^ 16)
  | .portResetComplete k _ _ => below k 6
  | .clearTtBuffer k ep => below k 6 && below ep 256
  | .resetTt k => below k 6
  | .getHubDescriptor => true
  | .getTtState k => below k 6
  | .stopTt k => below k 6
  | .setConfiguration _ v => below v (2 ^ 16)
  | .setInterface n alt => below n 256 && below alt 256
  | .clearEndpointHalt ep => below ep 256
  | .usbOvercurrent k _ _ => below k 6
  | .usbSuspend => true
  | .usbLpmL1 _ => true
  | .usbWakeSource k => below k 6
  | .usbHostResume => true
  | .usbResumeWindowClose => true
  | .vendorRead off => below off (2 ^ 16)
  | .vendorWrite off v => below off (2 ^ 16) && below v (2 ^ 32)
  | .statusStageAck => true
  | .usbOpen tag _ => below tag (2 ^ 16)
  | .usbClose tag counter _ => below tag (2 ^ 16) && below counter (2 ^ 32)
  | .usbRead words tag counter arg _ => below words 256 && below tag (2 ^ 16) && below counter (2 ^ 32) && below arg (2 ^ 32)
  | .usbWrite tag counter arg _ _ => below tag (2 ^ 16) && below counter (2 ^ 32) && below arg (2 ^ 32)
  | .usbSend tag counter ch _ _ => below tag (2 ^ 16) && below counter (2 ^ 32) && below ch (2 ^ 32)
  | .usbRecv tag counter _ => below tag (2 ^ 16) && below counter (2 ^ 32)
  | .authLockoutEnd => true
  | .responseAck => true
  | .usbChannelRx f => f.wf
  | .usbReportSend => true
  | .usbReportAck => true
  | .usbSof frame micro => below frame (2 ^ 11) && below micro 8
  | .usbfnDoorbell _ v => below v (2 ^ 32)
  | .keyDerived => true
  | .assocEnable _ v => below v (2 ^ 32)
  | .roll _ => true
  | .recSave _ _ => true
  | .recRestore _ _ => true
  | .recordOpDone => true
  | .aEpochWrite _ v => below v (2 ^ 32)
  | .epochGraceEnd entry twinBit => below entry 256 && below twinBit 2
  | .keyAlarm cause => below cause 8
  | .zeroize _ v => below v (2 ^ 32)
  | .tagWindowEnd => true
  | .killDone => true
  | .keyFlush _ => true
  | .breakerEn _ n _ => below n 12
  | .breakerQualified n vin cable => below n 12 && below vin (2 ^ 12) && below cable (2 ^ 12)
  | .breakerOffTimeEnd n => below n 12
  | .breakerRampStep n _ vin vout => below n 12 && below vin (2 ^ 12) && below vout (2 ^ 12)
  | .breakerRampTimeout n => below n 12
  | .breakerInstantTrip n _ => below n 12
  | .breakerCurveTrip n _ _ => below n 12
  | .breakerWindowOpen n vin => below n 12 && below vin (2 ^ 12)
  | .breakerReverseOpen n _ => below n 12
  | .inletReclose n vcable vbus => below n 12 && below vcable (2 ^ 12) && below vbus (2 ^ 12)
  | .slotRemoved k => below k 8
  | .slotInserted k => below k 8
  | .curveCommit _ mask => below mask (2 ^ 12)
  | .busLow vbus => below vbus (2 ^ 12)
  | .busLoss vbus => below vbus (2 ^ 12)
  | .busOk vbus => below vbus (2 ^ 12)
  | .budgetEvaluation _ => true
  | .tempSample _ _ => true
  | .trafficToleranceMiss _ c _ => below c 8
  | .modeReqSentinel _ => true
  | .modeReqListen _ => true
  | .modeReqRun _ => true
  | .modeReqInvalid _ v => below v 8
  | .engineLoadDone => true
  | .powerUpReset index => below index 2
  | .warmReset _ key => below key (2 ^ 32)
  | .trst => true
  | .vdemLoss => true
  | .otpLoad => true
  | .rootKeyLoad => true
  | .sentinelExit => true
  | .domainSwitchOn => true
  | .copySectorDone => true
  | .imageVerifyDone => true
  | .settingsRestore => true
  | .autoRun => true
  | .settingsSave _ => true
  | .settingsSaveDone => true
  | .flashRead _ len => below len 64
  | .flashProgram _ len => below len 64
  | .flashErase _ => true
  | .flashCmdDone res => below res 8
  | .programGeneration _ => true
  | .retire _ g => below g 4
  | .programKey _ => true
  | .setKillEn _ => true
  | .otpProgDone _ => true
  | .faultDetected pg ck detail _ => below pg 256 && below ck 32 && below detail (2 ^ 32)
  | .faultRecorded => true
  | .selfFault ck => below ck 32
  | .faultClear _ _ => true
  | .recPop _ => true
  | .fltRelease _ => true
  | .fltNMinEnd => true
  | .aliveToggle => true
  | .aliveRestart => true
  | .cupSample m _ => below m 24
  | .monitorConfigWrite _ m off v => below m 24 && below off 32 && below v (2 ^ 32)
  | .cupSnapshot _ m _ => below m 32
  | .cupSnapshotDone => true
  | .cupSnapshotAbort _ => true
  | .relayBlockRx f => f.wf
  | .relayBlockWritten _ => true
  | .relayAckRx f => f.wf
  | .relayReportRx f => f.wf
  | .relayResendTimeout index => below index 2
  | .relaySenderSilent => true
  | .verify _ => true
  | .localVerifyDone => true
  | .relayGo _ => true
  | .updateAbort _ => true
  | .restart _ => true
  | .swapGo _ => true
  | .swapStageDone => true
  | .twinHandover _ _ => true
  | .repPop _ => true
  | .bitSlot e c => below e 16 && below c 32
  | .joinBlockRx _ => true
  | .joinLaneReady _ => true
  | .d3hotExit => true
  | .portConnectChange k _ _ => below k 6
  | .setAddress _ a => below a 128
  | .setFeature _ _ feature ep => below feature (2 ^ 16) && below ep 256
  | .canIntegrationDone n => below n 4
  | .bankSupplyReturn b => below b 8

end Sys2Proof
end

