-- ==== Sys2Proof/Laws/PerInstr.lean ====
section
/-! SUPPORT. The family Frames: a well-formed command that carries a frame carries a well-formed one, constructor by
constructor. -/

set_option Elab.async false

namespace Sys2Proof.Laws.Frames

/-- The frame a command carries, if it carries one. -/
def frameOf (i : Instr) : Option Frame :=
  match i with
  | .frameArrival _ f _ _ => some f
  | .junctionRelayRx f _ => some f
  | .copyAdmission _ f => some f
  | .syncRx _ f _ => some f
  | .delayReqRx _ f _ => some f
  | .delayRespRx _ f => some f
  | .announceRx _ f => some f
  | .framerRx f => some f
  | .accessAnswerRx f => some f
  | .hostRxDelivery f _ => some f
  | .mgmtRequest f => some f
  | .canEndpointAccess f => some f
  | .usbChannelRx f => some f
  | .relayBlockRx f => some f
  | .relayAckRx f => some f
  | .relayReportRx f => some f
  | _ => none

/-- A well-formed command's frame is well formed. -/
def Statement (i : Instr) : Prop := ∀ f, frameOf i = some f → i.wf = true → f.wf = true

theorem registerWrite (x0 : Port) (x1 : Span) (x2 : Nat) : Statement (.registerWrite x0 x1 x2) := fun _ h => nomatch h
theorem loReadCapture (x0 : Port) (x1 : Span) : Statement (.loReadCapture x0 x1) := fun _ h => nomatch h
theorem softReset (x0 : Port) (x1 : Nat) : Statement (.softReset x0 x1) := fun _ h => nomatch h
theorem softResetDone (x0 : Nat) : Statement (.softResetDone x0) := fun _ h => nomatch h
theorem fenceReq (x0 : Port) (x1 : Nat) (x2 : Bool) : Statement (.fenceReq x0 x1 x2) := fun _ h => nomatch h
theorem blockFenced (x0 : Nat) : Statement (.blockFenced x0) := fun _ h => nomatch h
theorem blkAccessWrite (x0 : Port) (x1 : Nat) (x2 : Nat) : Statement (.blkAccessWrite x0 x1 x2) := fun _ h => nomatch h
theorem lock (x0 : Port) (x1 : Nat) (x2 : Nat) : Statement (.lock x0 x1 x2) := fun _ h => nomatch h
theorem intSet (x0 : Port) (x1 : Nat) (x2 : Nat) : Statement (.intSet x0 x1 x2) := fun _ h => nomatch h
theorem intStatClear (x0 : Port) (x1 : Nat) (x2 : Nat) : Statement (.intStatClear x0 x1 x2) := fun _ h => nomatch h
theorem intEnWrite (x0 : Port) (x1 : Nat) (x2 : Nat) : Statement (.intEnWrite x0 x1 x2) := fun _ h => nomatch h
theorem msixUnmask (x0 : Option Nat) (x1 : Bool) (x2 : Bool) : Statement (.msixUnmask x0 x1 x2) := fun _ h => nomatch h
theorem fltInjWrite (x0 : Port) (x1 : Nat) (x2 : Nat) : Statement (.fltInjWrite x0 x1 x2) := fun _ h => nomatch h
theorem denyClr (x0 : Port) (x1 : Nat) : Statement (.denyClr x0 x1) := fun _ h => nomatch h
theorem functionLevelReset : Statement (.functionLevelReset) := fun _ h => nomatch h
theorem d3hotEntry : Statement (.d3hotEntry) := fun _ h => nomatch h
theorem perst (x0 : Bool) : Statement (.perst x0) := fun _ h => nomatch h
theorem pcieLinkUp (x0 : Nat) (x1 : Nat) : Statement (.pcieLinkUp x0 x1) := fun _ h => nomatch h
theorem pcieLinkDown : Statement (.pcieLinkDown) := fun _ h => nomatch h
theorem refBeaconSend : Statement (.refBeaconSend) := fun _ h => nomatch h
theorem refBeaconRx (x0 : Side) (x1 : Nat) (x2 : Nat) : Statement (.refBeaconRx x0 x1 x2) := fun _ h => nomatch h
theorem beaconTimeout : Statement (.beaconTimeout) := fun _ h => nomatch h
theorem contestNotice (x0 : Side) (x1 : Nat) (x2 : Nat) : Statement (.contestNotice x0 x1 x2) := fun _ h => nomatch h
theorem refTake (x0 : Port) : Statement (.refTake x0) := fun _ h => nomatch h
theorem refYield (x0 : Port) : Statement (.refYield x0) := fun _ h => nomatch h
theorem refwLoss : Statement (.refwLoss) := fun _ h => nomatch h
theorem refSourceQualified (x0 : RefNote) : Statement (.refSourceQualified x0) := fun _ h => nomatch h
theorem phyBringUpStart (x0 : Link) : Statement (.phyBringUpStart x0) := fun _ h => nomatch h
theorem lanePllLocked (x0 : Link) : Statement (.lanePllLocked x0) := fun _ h => nomatch h
theorem trainingComplete (x0 : Link) (x1 : Nat) (x2 : Nat) (x3 : Bool) (x4 : Option (Nat × Nat)) : Statement (.trainingComplete x0 x1 x2 x3 x4) :=
  fun _ h => nomatch h
theorem trainFail (x0 : Link) (x1 : Bool) : Statement (.trainFail x0 x1) := fun _ h => nomatch h
theorem eqAdapted (x0 : Link) (x1 : Nat) (x2 : Nat) (x3 : Nat) (x4 : Nat) (x5 : List Nat) : Statement (.eqAdapted x0 x1 x2 x3 x4 x5) :=
  fun _ h => nomatch h
theorem codewordLock (x0 : Link) (x1 : Nat) : Statement (.codewordLock x0 x1) := fun _ h => nomatch h
theorem deskewDone (x0 : Side) (x1 : Bool) (x2 : Nat) : Statement (.deskewDone x0 x1 x2) := fun _ h => nomatch h
theorem linkQualified (x0 : Link) (x1 : Nat) : Statement (.linkQualified x0 x1) := fun _ h => nomatch h
theorem linkUp (x0 : Link) : Statement (.linkUp x0) := fun _ h => nomatch h
theorem linkDown (x0 : Link) (x1 : DownCause) : Statement (.linkDown x0 x1) := fun _ h => nomatch h
theorem uncorrectableCodeword (x0 : Link) (x1 : Nat) (x2 : Bool) : Statement (.uncorrectableCodeword x0 x1 x2) :=
  fun _ h => nomatch h
theorem uncWindowEnd (x0 : Link) : Statement (.uncWindowEnd x0) := fun _ h => nomatch h
theorem eyeLow (x0 : Link) (x1 : Nat) (x2 : Nat) : Statement (.eyeLow x0 x1 x2) := fun _ h => nomatch h
theorem retrain (x0 : Port) (x1 : Link) : Statement (.retrain x0 x1) := fun _ h => nomatch h
theorem holdoffExpiry (x0 : Link) : Statement (.holdoffExpiry x0) := fun _ h => nomatch h
theorem laneBallotSend : Statement (.laneBallotSend) := fun _ h => nomatch h
theorem laneBallotRx (x0 : Side) (x1 : Bool) (x2 : Bool) (x3 : Bool) (x4 : Bool) (x5 : Option (Bool × Nat)) : Statement (.laneBallotRx x0 x1 x2 x3 x4 x5) :=
  fun _ h => nomatch h
theorem laneBallotReturn (x0 : Side) (x1 : Bool) (x2 : Bool) (x3 : Bool) (x4 : Bool) : Statement (.laneBallotReturn x0 x1 x2 x3 x4) :=
  fun _ h => nomatch h
theorem shedPauseStart (x0 : Side) : Statement (.shedPauseStart x0) := fun _ h => nomatch h
theorem shedBlockSend (x0 : Side) : Statement (.shedBlockSend x0) := fun _ h => nomatch h
theorem shedBlockRx (x0 : Side) : Statement (.shedBlockRx x0) := fun _ h => nomatch h
theorem joinStart (x0 : Side) : Statement (.joinStart x0) := fun _ h => nomatch h
theorem joinBlockSend (x0 : Side) : Statement (.joinBlockSend x0) := fun _ h => nomatch h
theorem joinFail (x0 : Side) : Statement (.joinFail x0) := fun _ h => nomatch h
theorem frameArrival (x0 : Side) (x1 : Frame) (x2 : Bool) (x3 : Nat) : Statement (.frameArrival x0 x1 x2 x3) :=
  fun _ h hw => by cases h; simp_all [Instr.wf]
theorem frameTrailerAccept (x0 : Side) (x1 : Bool) (x2 : Bool) (x3 : Nat) : Statement (.frameTrailerAccept x0 x1 x2 x3) :=
  fun _ h => nomatch h
theorem junctionRelayRx (x0 : Frame) (x1 : Nat) : Statement (.junctionRelayRx x0 x1) :=
  fun _ h hw => by cases h; simp_all [Instr.wf]
theorem streamEntryRetire (x0 : Nat) (x1 : Nat) : Statement (.streamEntryRetire x0 x1) := fun _ h => nomatch h
theorem transitCheckFail (x0 : Side) (x1 : Nat) : Statement (.transitCheckFail x0 x1) := fun _ h => nomatch h
theorem bypassRejoin (x0 : Port) : Statement (.bypassRejoin x0) := fun _ h => nomatch h
theorem rejoinRelayWaitEnd : Statement (.rejoinRelayWaitEnd) := fun _ h => nomatch h
theorem bypassForce (x0 : Port) (x1 : Bool) : Statement (.bypassForce x0 x1) := fun _ h => nomatch h
theorem insPeriodStart (x0 : Side) : Statement (.insPeriodStart x0) := fun _ h => nomatch h
theorem insertion (x0 : Side) (x1 : Option Nat) (x2 : Nat) : Statement (.insertion x0 x1 x2) := fun _ h => nomatch h
theorem copyAdmission (x0 : Nat) (x1 : Frame) : Statement (.copyAdmission x0 x1) := fun _ h hw => by cases h; simp_all [Instr.wf]
theorem arbitrationGrant (x0 : Nat) : Statement (.arbitrationGrant x0) := fun _ h => nomatch h
theorem frameSent (x0 : Nat) : Statement (.frameSent x0) := fun _ h => nomatch h
theorem lfsrSeed (x0 : Port) (x1 : Nat) : Statement (.lfsrSeed x0 x1) := fun _ h => nomatch h
theorem voqMinWrite (x0 : Port) (x1 : Nat) : Statement (.voqMinWrite x0 x1) := fun _ h => nomatch h
theorem bankFence (x0 : Nat) : Statement (.bankFence x0) := fun _ h => nomatch h
theorem auditPass : Statement (.auditPass) := fun _ h => nomatch h
theorem holdWindowExpiry (x0 : Nat) (x1 : Nat) : Statement (.holdWindowExpiry x0 x1) := fun _ h => nomatch h
theorem heartbeatSend : Statement (.heartbeatSend) := fun _ h => nomatch h
theorem heartbeatRx (x0 : Heartbeat) : Statement (.heartbeatRx x0) := fun _ h => nomatch h
theorem heartbeatTimeout : Statement (.heartbeatTimeout) := fun _ h => nomatch h
theorem aloneWaitExpiry : Statement (.aloneWaitExpiry) := fun _ h => nomatch h
theorem ownInChange (x0 : Bool) : Statement (.ownInChange x0) := fun _ h => nomatch h
theorem ownershipConflict : Statement (.ownershipConflict) := fun _ h => nomatch h
theorem interlockInconsistency : Statement (.interlockInconsistency) := fun _ h => nomatch h
theorem ownReleasePoint : Statement (.ownReleasePoint) := fun _ h => nomatch h
theorem pourOverSend : Statement (.pourOverSend) := fun _ h => nomatch h
theorem snapshotFragmentRx (x0 : Nat) (x1 : Nat) (x2 : Bool) (x3 : List SnapRec) : Statement (.snapshotFragmentRx x0 x1 x2 x3) :=
  fun _ h => nomatch h
theorem ringOutputTakeover (x0 : Side) : Statement (.ringOutputTakeover x0) := fun _ h => nomatch h
theorem ringOutputReturn (x0 : Side) : Statement (.ringOutputReturn x0) := fun _ h => nomatch h
theorem handover (x0 : Port) : Statement (.handover x0) := fun _ h => nomatch h
theorem peerRelayAccess (x0 : Port) : Statement (.peerRelayAccess x0) := fun _ h => nomatch h
theorem peerRelayDone (x0 : Bool) (x1 : Nat) (x2 : Nat) : Statement (.peerRelayDone x0 x1 x2) := fun _ h => nomatch h
theorem peerRelayTimeout : Statement (.peerRelayTimeout) := fun _ h => nomatch h
theorem syncSend : Statement (.syncSend) := fun _ h => nomatch h
theorem announceSend : Statement (.announceSend) := fun _ h => nomatch h
theorem delayReqSend : Statement (.delayReqSend) := fun _ h => nomatch h
theorem pdelayReqSend (x0 : Side) : Statement (.pdelayReqSend x0) := fun _ h => nomatch h
theorem pdelayReqRx (x0 : Side) (x1 : List Byte) (x2 : Nat) : Statement (.pdelayReqRx x0 x1 x2) := fun _ h => nomatch h
theorem pdelayRespRx (x0 : Side) (x1 : List Byte) (x2 : List Byte) (x3 : Nat) (x4 : List Byte) : Statement (.pdelayRespRx x0 x1 x2 x3 x4) :=
  fun _ h => nomatch h
theorem syncRx (x0 : Link) (x1 : Frame) (x2 : Nat) : Statement (.syncRx x0 x1 x2) := fun _ h hw => by cases h; simp_all [Instr.wf]
theorem delayReqRx (x0 : Side) (x1 : Frame) (x2 : Nat) : Statement (.delayReqRx x0 x1 x2) :=
  fun _ h hw => by cases h; simp_all [Instr.wf]
theorem delayRespRx (x0 : Side) (x1 : Frame) : Statement (.delayRespRx x0 x1) := fun _ h hw => by cases h; simp_all [Instr.wf]
theorem announceRx (x0 : Link) (x1 : Frame) : Statement (.announceRx x0 x1) := fun _ h hw => by cases h; simp_all [Instr.wf]
theorem announceTimeout : Statement (.announceTimeout) := fun _ h => nomatch h
theorem syncTimeout : Statement (.syncTimeout) := fun _ h => nomatch h
theorem pathSyncTimeout : Statement (.pathSyncTimeout) := fun _ h => nomatch h
theorem stepGo (x0 : Port) (x1 : Bool) : Statement (.stepGo x0 x1) := fun _ h => nomatch h
theorem stepArm (x0 : Port) (x1 : Bool) : Statement (.stepArm x0 x1) := fun _ h => nomatch h
theorem launchEligible (x0 : Nat) : Statement (.launchEligible x0) := fun _ h => nomatch h
theorem launchDeadline (x0 : Nat) : Statement (.launchDeadline x0) := fun _ h => nomatch h
theorem toutArm (x0 : Port) (x1 : Nat) : Statement (.toutArm x0 x1) := fun _ h => nomatch h
theorem toutDisarm (x0 : Port) (x1 : Nat) : Statement (.toutDisarm x0 x1) := fun _ h => nomatch h
theorem toutEdge (x0 : Nat) : Statement (.toutEdge x0) := fun _ h => nomatch h
theorem baseCycleBoundary : Statement (.baseCycleBoundary) := fun _ h => nomatch h
theorem bcGridChange : Statement (.bcGridChange) := fun _ h => nomatch h
theorem dispatchResume (x0 : Nat) : Statement (.dispatchResume x0) := fun _ h => nomatch h
theorem deferralEnd (x0 : Nat) (x1 : Nat) : Statement (.deferralEnd x0 x1) := fun _ h => nomatch h
theorem ctxStart (x0 : Port) (x1 : Nat) (x2 : Nat) (x3 : Bool) : Statement (.ctxStart x0 x1 x2 x3) := fun _ h => nomatch h
theorem ctxStartNow (x0 : Port) (x1 : Nat) (x2 : Nat) (x3 : Bool) : Statement (.ctxStartNow x0 x1 x2 x3) := fun _ h => nomatch h
theorem ctxClear (x0 : Port) (x1 : Nat) (x2 : Nat) (x3 : Bool) : Statement (.ctxClear x0 x1 x2 x3) := fun _ h => nomatch h
theorem ctxStop (x0 : Port) (x1 : Nat) (x2 : Nat) (x3 : Bool) : Statement (.ctxStop x0 x1 x2 x3) := fun _ h => nomatch h
theorem stopCompletion (x0 : Nat) (x1 : Nat) : Statement (.stopCompletion x0 x1) := fun _ h => nomatch h
theorem injGo (x0 : Port) (x1 : Nat) (x2 : Nat) (x3 : Bool) : Statement (.injGo x0 x1 x2 x3) := fun _ h => nomatch h
theorem injectionExecute (x0 : Nat) (x1 : Nat) : Statement (.injectionExecute x0 x1) := fun _ h => nomatch h
theorem reservedEncoding (x0 : Nat) (x1 : Nat) : Statement (.reservedEncoding x0 x1) := fun _ h => nomatch h
theorem jmp (x0 : Nat) (x1 : Nat) : Statement (.jmp x0 x1) := fun _ h => nomatch h
theorem wait (x0 : Nat) (x1 : Nat) : Statement (.wait x0 x1) := fun _ h => nomatch h
theorem inBits (x0 : Nat) (x1 : Nat) : Statement (.inBits x0 x1) := fun _ h => nomatch h
theorem outBits (x0 : Nat) (x1 : Nat) : Statement (.outBits x0 x1) := fun _ h => nomatch h
theorem push (x0 : Nat) (x1 : Nat) : Statement (.push x0 x1) := fun _ h => nomatch h
theorem pull (x0 : Nat) (x1 : Nat) : Statement (.pull x0 x1) := fun _ h => nomatch h
theorem mov (x0 : Nat) (x1 : Nat) : Statement (.mov x0 x1) := fun _ h => nomatch h
theorem setPins (x0 : Nat) (x1 : Nat) : Statement (.setPins x0 x1) := fun _ h => nomatch h
theorem aluAdd (x0 : Nat) (x1 : Nat) : Statement (.aluAdd x0 x1) := fun _ h => nomatch h
theorem aluSub (x0 : Nat) (x1 : Nat) : Statement (.aluSub x0 x1) := fun _ h => nomatch h
theorem aluAnd (x0 : Nat) (x1 : Nat) : Statement (.aluAnd x0 x1) := fun _ h => nomatch h
theorem aluOr (x0 : Nat) (x1 : Nat) : Statement (.aluOr x0 x1) := fun _ h => nomatch h
theorem aluXor (x0 : Nat) (x1 : Nat) : Statement (.aluXor x0 x1) := fun _ h => nomatch h
theorem aluShl (x0 : Nat) (x1 : Nat) : Statement (.aluShl x0 x1) := fun _ h => nomatch h
theorem aluShr (x0 : Nat) (x1 : Nat) : Statement (.aluShr x0 x1) := fun _ h => nomatch h
theorem aluCmp (x0 : Nat) (x1 : Nat) : Statement (.aluCmp x0 x1) := fun _ h => nomatch h
theorem stamp (x0 : Nat) (x1 : Nat) : Statement (.stamp x0 x1) := fun _ h => nomatch h
theorem ttrig (x0 : Nat) (x1 : Nat) : Statement (.ttrig x0 x1) := fun _ h => nomatch h
theorem ttrigCancel (x0 : Nat) (x1 : Nat) : Statement (.ttrigCancel x0 x1) := fun _ h => nomatch h
theorem ttrigActionFire (x0 : Nat) (x1 : Nat) : Statement (.ttrigActionFire x0 x1) := fun _ h => nomatch h
theorem chkSeed (x0 : Nat) (x1 : Nat) : Statement (.chkSeed x0 x1) := fun _ h => nomatch h
theorem chkSeedx (x0 : Nat) (x1 : Nat) : Statement (.chkSeedx x0 x1) := fun _ h => nomatch h
theorem chkFold (x0 : Nat) (x1 : Nat) : Statement (.chkFold x0 x1) := fun _ h => nomatch h
theorem chkAppend (x0 : Nat) (x1 : Nat) : Statement (.chkAppend x0 x1) := fun _ h => nomatch h
theorem chkVerify (x0 : Nat) (x1 : Nat) : Statement (.chkVerify x0 x1) := fun _ h => nomatch h
theorem chkSave (x0 : Nat) (x1 : Nat) : Statement (.chkSave x0 x1) := fun _ h => nomatch h
theorem chkPause (x0 : Nat) (x1 : Nat) : Statement (.chkPause x0 x1) := fun _ h => nomatch h
theorem fifoMark (x0 : Nat) (x1 : Nat) : Statement (.fifoMark x0 x1) := fun _ h => nomatch h
theorem fifoRewind (x0 : Nat) (x1 : Nat) : Statement (.fifoRewind x0 x1) := fun _ h => nomatch h
theorem fifoRelease (x0 : Nat) (x1 : Nat) : Statement (.fifoRelease x0 x1) := fun _ h => nomatch h
theorem fifoFlush (x0 : Nat) (x1 : Nat) : Statement (.fifoFlush x0 x1) := fun _ h => nomatch h
theorem event (x0 : Nat) (x1 : Nat) : Statement (.event x0 x1) := fun _ h => nomatch h
theorem ldi (x0 : Nat) (x1 : Nat) : Statement (.ldi x0 x1) := fun _ h => nomatch h
theorem yield (x0 : Nat) (x1 : Nat) : Statement (.yield x0 x1) := fun _ h => nomatch h
theorem yieldEoc (x0 : Nat) (x1 : Nat) : Statement (.yieldEoc x0 x1) := fun _ h => nomatch h
theorem stallEnd (x0 : Nat) (x1 : Nat) : Statement (.stallEnd x0 x1) := fun _ h => nomatch h
theorem pinUnderrun (x0 : Nat) (x1 : Nat) : Statement (.pinUnderrun x0 x1) := fun _ h => nomatch h
theorem txFlush (x0 : Port) (x1 : Nat) : Statement (.txFlush x0 x1) := fun _ h => nomatch h
theorem rxFlush (x0 : Port) (x1 : Nat) : Statement (.rxFlush x0 x1) := fun _ h => nomatch h
theorem flushComplete (x0 : Nat) (x1 : Nat) (x2 : Bool) : Statement (.flushComplete x0 x1 x2) := fun _ h => nomatch h
theorem txfPush (x0 : Port) (x1 : Nat) (x2 : Nat) : Statement (.txfPush x0 x1 x2) := fun _ h => nomatch h
theorem txfPushEnd (x0 : Port) (x1 : Nat) (x2 : Nat) : Statement (.txfPushEnd x0 x1 x2) := fun _ h => nomatch h
theorem rxfPop (x0 : Port) (x1 : Nat) : Statement (.rxfPop x0 x1) := fun _ h => nomatch h
theorem contextSnapshot (x0 : Port) (x1 : Nat) (x2 : Nat) : Statement (.contextSnapshot x0 x1 x2) := fun _ h => nomatch h
theorem contextSnapshotDone (x0 : Nat) : Statement (.contextSnapshotDone x0) := fun _ h => nomatch h
theorem framerEmit (x0 : Nat) (x1 : Nat) : Statement (.framerEmit x0 x1) := fun _ h => nomatch h
theorem framerRx (x0 : Frame) : Statement (.framerRx x0) := fun _ h hw => by cases h; simp_all [Instr.wf]
theorem framerUnpack (x0 : Nat) (x1 : Nat) : Statement (.framerUnpack x0 x1) := fun _ h => nomatch h
theorem readPendTimeout (x0 : Nat) (x1 : Nat) : Statement (.readPendTimeout x0 x1) := fun _ h => nomatch h
theorem subaWrite (x0 : Port) (x1 : Nat) (x2 : Nat) (x3 : Nat) : Statement (.subaWrite x0 x1 x2 x3) := fun _ h => nomatch h
theorem programMemoryWrite (x0 : Port) (x1 : Nat) (x2 : Nat) (x3 : Nat) (x4 : Nat) : Statement (.programMemoryWrite x0 x1 x2 x3 x4) :=
  fun _ h => nomatch h
theorem pbSwap (x0 : Port) (x1 : Nat) (x2 : Bool) : Statement (.pbSwap x0 x1 x2) := fun _ h => nomatch h
theorem pbCancel (x0 : Port) (x1 : Nat) (x2 : Bool) : Statement (.pbCancel x0 x1 x2) := fun _ h => nomatch h
theorem bankSupplyFail (x0 : Nat) : Statement (.bankSupplyFail x0) := fun _ h => nomatch h
theorem pinInputChange (x0 : Nat) (x1 : Bool) : Statement (.pinInputChange x0 x1) := fun _ h => nomatch h
theorem pinEdgeAccepted (x0 : Nat) : Statement (.pinEdgeAccepted x0) := fun _ h => nomatch h
theorem bar2Write (x0 : Nat) (x1 : List Byte) (x2 : Bool) : Statement (.bar2Write x0 x1 x2) := fun _ h => nomatch h
theorem bar2Read (x0 : Nat) (x1 : Nat) (x2 : Nat) (x3 : Bool) : Statement (.bar2Read x0 x1 x2 x3) := fun _ h => nomatch h
theorem accessAnswerRx (x0 : Frame) : Statement (.accessAnswerRx x0) := fun _ h hw => by cases h; simp_all [Instr.wf]
theorem readTimeout (x0 : Nat) : Statement (.readTimeout x0) := fun _ h => nomatch h
theorem writeTimeout (x0 : Nat) : Statement (.writeTimeout x0) := fun _ h => nomatch h
theorem prefetchLineExpiry (x0 : Nat) : Statement (.prefetchLineExpiry x0) := fun _ h => nomatch h
theorem fenceGo (x0 : Port) (x1 : Nat) : Statement (.fenceGo x0 x1) := fun _ h => nomatch h
theorem fenceAbort (x0 : Port) (x1 : Nat) : Statement (.fenceAbort x0 x1) := fun _ h => nomatch h
theorem readAbort (x0 : Port) (x1 : Nat) : Statement (.readAbort x0 x1) := fun _ h => nomatch h
theorem pweClear (x0 : Port) : Statement (.pweClear x0) := fun _ h => nomatch h
theorem pfdClear (x0 : Port) : Statement (.pfdClear x0) := fun _ h => nomatch h
theorem pollDue (x0 : Nat) : Statement (.pollDue x0) := fun _ h => nomatch h
theorem cqPop (x0 : Port) : Statement (.cqPop x0) := fun _ h => nomatch h
theorem hostRxDelivery (x0 : Frame) (x1 : Nat) : Statement (.hostRxDelivery x0 x1) :=
  fun _ h hw => by cases h; simp_all [Instr.wf]
theorem sendRingServe (x0 : Nat) (x1 : Nat) (x2 : List Byte) : Statement (.sendRingServe x0 x1 x2) := fun _ h => nomatch h
theorem mgmtRequest (x0 : Frame) : Statement (.mgmtRequest x0) := fun _ h hw => by cases h; simp_all [Instr.wf]
theorem mgmtDoorbell (x0 : Port) (x1 : Nat) (x2 : Nat) : Statement (.mgmtDoorbell x0 x1 x2) := fun _ h => nomatch h
theorem canMode (x0 : Port) (x1 : Nat) (x2 : Nat) : Statement (.canMode x0 x1 x2) := fun _ h => nomatch h
theorem canFrameRx (x0 : Nat) (x1 : CanFrame) (x2 : Nat) (x3 : Nat) : Statement (.canFrameRx x0 x1 x2 x3) := fun _ h => nomatch h
theorem canTxReq (x0 : Port) (x1 : Nat) : Statement (.canTxReq x0 x1) := fun _ h => nomatch h
theorem canTxAbort (x0 : Port) (x1 : Nat) : Statement (.canTxAbort x0 x1) := fun _ h => nomatch h
theorem canTxStart (x0 : Nat) (x1 : Nat) : Statement (.canTxStart x0 x1) := fun _ h => nomatch h
theorem canTxEnd (x0 : Nat) (x1 : Bool) (x2 : Nat) : Statement (.canTxEnd x0 x1 x2) := fun _ h => nomatch h
theorem canEndpointAccess (x0 : Frame) : Statement (.canEndpointAccess x0) := fun _ h hw => by cases h; simp_all [Instr.wf]
theorem canWindowStart (x0 : Nat) : Statement (.canWindowStart x0) := fun _ h => nomatch h
theorem canSwitch (x0 : Port) (x1 : Nat) : Statement (.canSwitch x0 x1) := fun _ h => nomatch h
theorem canSwitchCancel (x0 : Port) (x1 : Nat) : Statement (.canSwitchCancel x0 x1) := fun _ h => nomatch h
theorem canBusError (x0 : Nat) (x1 : Nat) (x2 : Bool) (x3 : Bool) : Statement (.canBusError x0 x1 x2 x3) := fun _ h => nomatch h
theorem canRecover (x0 : Port) (x1 : Nat) : Statement (.canRecover x0 x1) := fun _ h => nomatch h
theorem canRecovered (x0 : Nat) : Statement (.canRecovered x0) := fun _ h => nomatch h
theorem canSleep (x0 : Port) (x1 : Nat) : Statement (.canSleep x0 x1) := fun _ h => nomatch h
theorem canSleepEnter (x0 : Nat) : Statement (.canSleepEnter x0) := fun _ h => nomatch h
theorem canWakeCondition (x0 : Nat) (x1 : Nat) (x2 : Option CanFrame) (x3 : Nat) (x4 : Nat) : Statement (.canWakeCondition x0 x1 x2 x3 x4) :=
  fun _ h => nomatch h
theorem canWake (x0 : Port) (x1 : Nat) : Statement (.canWake x0 x1) := fun _ h => nomatch h
theorem usbAttach (x0 : Bool) : Statement (.usbAttach x0) := fun _ h => nomatch h
theorem usbBusReset (x0 : Nat) : Statement (.usbBusReset x0) := fun _ h => nomatch h
theorem getHubStatus : Statement (.getHubStatus) := fun _ h => nomatch h
theorem getPortStatus (x0 : Nat) : Statement (.getPortStatus x0) := fun _ h => nomatch h
theorem setHubFeature (x0 : Nat) : Statement (.setHubFeature x0) := fun _ h => nomatch h
theorem clearHubFeature (x0 : Nat) : Statement (.clearHubFeature x0) := fun _ h => nomatch h
theorem setPortFeature (x0 : Nat) (x1 : Nat) (x2 : Bool) : Statement (.setPortFeature x0 x1 x2) := fun _ h => nomatch h
theorem clearPortFeature (x0 : Nat) (x1 : Nat) : Statement (.clearPortFeature x0 x1) := fun _ h => nomatch h
theorem portResetComplete (x0 : Nat) (x1 : Nat) (x2 : Bool) : Statement (.portResetComplete x0 x1 x2) := fun _ h => nomatch h
theorem clearTtBuffer (x0 : Nat) (x1 : Nat) : Statement (.clearTtBuffer x0 x1) := fun _ h => nomatch h
theorem resetTt (x0 : Nat) : Statement (.resetTt x0) := fun _ h => nomatch h
theorem getHubDescriptor : Statement (.getHubDescriptor) := fun _ h => nomatch h
theorem getTtState (x0 : Nat) : Statement (.getTtState x0) := fun _ h => nomatch h
theorem stopTt (x0 : Nat) : Statement (.stopTt x0) := fun _ h => nomatch h
theorem setConfiguration (x0 : Bool) (x1 : Nat) : Statement (.setConfiguration x0 x1) := fun _ h => nomatch h
theorem setInterface (x0 : Nat) (x1 : Nat) : Statement (.setInterface x0 x1) := fun _ h => nomatch h
theorem clearEndpointHalt (x0 : Nat) : Statement (.clearEndpointHalt x0) := fun _ h => nomatch h
theorem usbOvercurrent (x0 : Nat) (x1 : Bool) (x2 : Nat) : Statement (.usbOvercurrent x0 x1 x2) := fun _ h => nomatch h
theorem usbSuspend : Statement (.usbSuspend) := fun _ h => nomatch h
theorem usbLpmL1 (x0 : Bool) : Statement (.usbLpmL1 x0) := fun _ h => nomatch h
theorem usbWakeSource (x0 : Nat) : Statement (.usbWakeSource x0) := fun _ h => nomatch h
theorem usbHostResume : Statement (.usbHostResume) := fun _ h => nomatch h
theorem usbResumeWindowClose : Statement (.usbResumeWindowClose) := fun _ h => nomatch h
theorem vendorRead (x0 : Nat) : Statement (.vendorRead x0) := fun _ h => nomatch h
theorem vendorWrite (x0 : Nat) (x1 : Nat) : Statement (.vendorWrite x0 x1) := fun _ h => nomatch h
theorem statusStageAck : Statement (.statusStageAck) := fun _ h => nomatch h
theorem usbOpen (x0 : Nat) (x1 : List Byte) : Statement (.usbOpen x0 x1) := fun _ h => nomatch h
theorem usbClose (x0 : Nat) (x1 : Nat) (x2 : List Byte) : Statement (.usbClose x0 x1 x2) := fun _ h => nomatch h
theorem usbRead (x0 : Nat) (x1 : Nat) (x2 : Nat) (x3 : Nat) (x4 : List Byte) : Statement (.usbRead x0 x1 x2 x3 x4) :=
  fun _ h => nomatch h
theorem usbWrite (x0 : Nat) (x1 : Nat) (x2 : Nat) (x3 : List Nat) (x4 : List Byte) : Statement (.usbWrite x0 x1 x2 x3 x4) :=
  fun _ h => nomatch h
theorem usbSend (x0 : Nat) (x1 : Nat) (x2 : Nat) (x3 : List Byte) (x4 : List Byte) : Statement (.usbSend x0 x1 x2 x3 x4) :=
  fun _ h => nomatch h
theorem usbRecv (x0 : Nat) (x1 : Nat) (x2 : List Byte) : Statement (.usbRecv x0 x1 x2) := fun _ h => nomatch h
theorem authLockoutEnd : Statement (.authLockoutEnd) := fun _ h => nomatch h
theorem responseAck : Statement (.responseAck) := fun _ h => nomatch h
theorem usbChannelRx (x0 : Frame) : Statement (.usbChannelRx x0) := fun _ h hw => by cases h; simp_all [Instr.wf]
theorem usbReportSend : Statement (.usbReportSend) := fun _ h => nomatch h
theorem usbReportAck : Statement (.usbReportAck) := fun _ h => nomatch h
theorem usbSof (x0 : Nat) (x1 : Nat) : Statement (.usbSof x0 x1) := fun _ h => nomatch h
theorem usbfnDoorbell (x0 : Port) (x1 : Nat) : Statement (.usbfnDoorbell x0 x1) := fun _ h => nomatch h
theorem keyDerived : Statement (.keyDerived) := fun _ h => nomatch h
theorem assocEnable (x0 : Port) (x1 : Nat) : Statement (.assocEnable x0 x1) := fun _ h => nomatch h
theorem roll (x0 : Port) : Statement (.roll x0) := fun _ h => nomatch h
theorem recSave (x0 : Port) (x1 : Bool) : Statement (.recSave x0 x1) := fun _ h => nomatch h
theorem recRestore (x0 : Port) (x1 : Bool) : Statement (.recRestore x0 x1) := fun _ h => nomatch h
theorem recordOpDone : Statement (.recordOpDone) := fun _ h => nomatch h
theorem aEpochWrite (x0 : Port) (x1 : Nat) : Statement (.aEpochWrite x0 x1) := fun _ h => nomatch h
theorem epochGraceEnd (x0 : Nat) (x1 : Nat) : Statement (.epochGraceEnd x0 x1) := fun _ h => nomatch h
theorem keyAlarm (x0 : Nat) : Statement (.keyAlarm x0) := fun _ h => nomatch h
theorem zeroize (x0 : Port) (x1 : Nat) : Statement (.zeroize x0 x1) := fun _ h => nomatch h
theorem tagWindowEnd : Statement (.tagWindowEnd) := fun _ h => nomatch h
theorem killDone : Statement (.killDone) := fun _ h => nomatch h
theorem keyFlush (x0 : Port) : Statement (.keyFlush x0) := fun _ h => nomatch h
theorem breakerEn (x0 : Port) (x1 : Nat) (x2 : Bool) : Statement (.breakerEn x0 x1 x2) := fun _ h => nomatch h
theorem breakerQualified (x0 : Nat) (x1 : Nat) (x2 : Nat) : Statement (.breakerQualified x0 x1 x2) := fun _ h => nomatch h
theorem breakerOffTimeEnd (x0 : Nat) : Statement (.breakerOffTimeEnd x0) := fun _ h => nomatch h
theorem breakerRampStep (x0 : Nat) (x1 : Int) (x2 : Nat) (x3 : Nat) : Statement (.breakerRampStep x0 x1 x2 x3) :=
  fun _ h => nomatch h
theorem breakerRampTimeout (x0 : Nat) : Statement (.breakerRampTimeout x0) := fun _ h => nomatch h
theorem breakerInstantTrip (x0 : Nat) (x1 : Int) : Statement (.breakerInstantTrip x0 x1) := fun _ h => nomatch h
theorem breakerCurveTrip (x0 : Nat) (x1 : Int) (x2 : Nat) : Statement (.breakerCurveTrip x0 x1 x2) := fun _ h => nomatch h
theorem breakerWindowOpen (x0 : Nat) (x1 : Nat) : Statement (.breakerWindowOpen x0 x1) := fun _ h => nomatch h
theorem breakerReverseOpen (x0 : Nat) (x1 : Int) : Statement (.breakerReverseOpen x0 x1) := fun _ h => nomatch h
theorem inletReclose (x0 : Nat) (x1 : Nat) (x2 : Nat) : Statement (.inletReclose x0 x1 x2) := fun _ h => nomatch h
theorem slotRemoved (x0 : Nat) : Statement (.slotRemoved x0) := fun _ h => nomatch h
theorem slotInserted (x0 : Nat) : Statement (.slotInserted x0) := fun _ h => nomatch h
theorem curveCommit (x0 : Port) (x1 : Nat) : Statement (.curveCommit x0 x1) := fun _ h => nomatch h
theorem busLow (x0 : Nat) : Statement (.busLow x0) := fun _ h => nomatch h
theorem busLoss (x0 : Nat) : Statement (.busLoss x0) := fun _ h => nomatch h
theorem busOk (x0 : Nat) : Statement (.busOk x0) := fun _ h => nomatch h
theorem budgetEvaluation (x0 : Meas) : Statement (.budgetEvaluation x0) := fun _ h => nomatch h
theorem tempSample (x0 : Int) (x1 : Int) : Statement (.tempSample x0 x1) := fun _ h => nomatch h
theorem trafficToleranceMiss (x0 : Side) (x1 : Nat) (x2 : Nat) : Statement (.trafficToleranceMiss x0 x1 x2) :=
  fun _ h => nomatch h
theorem modeReqSentinel (x0 : Port) : Statement (.modeReqSentinel x0) := fun _ h => nomatch h
theorem modeReqListen (x0 : Port) : Statement (.modeReqListen x0) := fun _ h => nomatch h
theorem modeReqRun (x0 : Port) : Statement (.modeReqRun x0) := fun _ h => nomatch h
theorem modeReqInvalid (x0 : Port) (x1 : Nat) : Statement (.modeReqInvalid x0 x1) := fun _ h => nomatch h
theorem engineLoadDone : Statement (.engineLoadDone) := fun _ h => nomatch h
theorem powerUpReset (x0 : Nat) : Statement (.powerUpReset x0) := fun _ h => nomatch h
theorem warmReset (x0 : Option Port) (x1 : Nat) : Statement (.warmReset x0 x1) := fun _ h => nomatch h
theorem trst : Statement (.trst) := fun _ h => nomatch h
theorem vdemLoss : Statement (.vdemLoss) := fun _ h => nomatch h
theorem otpLoad : Statement (.otpLoad) := fun _ h => nomatch h
theorem rootKeyLoad : Statement (.rootKeyLoad) := fun _ h => nomatch h
theorem sentinelExit : Statement (.sentinelExit) := fun _ h => nomatch h
theorem domainSwitchOn : Statement (.domainSwitchOn) := fun _ h => nomatch h
theorem copySectorDone : Statement (.copySectorDone) := fun _ h => nomatch h
theorem imageVerifyDone : Statement (.imageVerifyDone) := fun _ h => nomatch h
theorem settingsRestore : Statement (.settingsRestore) := fun _ h => nomatch h
theorem autoRun : Statement (.autoRun) := fun _ h => nomatch h
theorem settingsSave (x0 : Port) : Statement (.settingsSave x0) := fun _ h => nomatch h
theorem settingsSaveDone : Statement (.settingsSaveDone) := fun _ h => nomatch h
theorem flashRead (x0 : Port) (x1 : Nat) : Statement (.flashRead x0 x1) := fun _ h => nomatch h
theorem flashProgram (x0 : Port) (x1 : Nat) : Statement (.flashProgram x0 x1) := fun _ h => nomatch h
theorem flashErase (x0 : Port) : Statement (.flashErase x0) := fun _ h => nomatch h
theorem flashCmdDone (x0 : Nat) : Statement (.flashCmdDone x0) := fun _ h => nomatch h
theorem programGeneration (x0 : Port) : Statement (.programGeneration x0) := fun _ h => nomatch h
theorem retire (x0 : Port) (x1 : Nat) : Statement (.retire x0 x1) := fun _ h => nomatch h
theorem programKey (x0 : Port) : Statement (.programKey x0) := fun _ h => nomatch h
theorem setKillEn (x0 : Port) : Statement (.setKillEn x0) := fun _ h => nomatch h
theorem otpProgDone (x0 : Bool) : Statement (.otpProgDone x0) := fun _ h => nomatch h
theorem faultDetected (x0 : Nat) (x1 : Nat) (x2 : Nat) (x3 : Bool) : Statement (.faultDetected x0 x1 x2 x3) :=
  fun _ h => nomatch h
theorem faultRecorded : Statement (.faultRecorded) := fun _ h => nomatch h
theorem selfFault (x0 : Nat) : Statement (.selfFault x0) := fun _ h => nomatch h
theorem faultClear (x0 : Port) (x1 : Bool) : Statement (.faultClear x0 x1) := fun _ h => nomatch h
theorem recPop (x0 : Port) : Statement (.recPop x0) := fun _ h => nomatch h
theorem fltRelease (x0 : Port) : Statement (.fltRelease x0) := fun _ h => nomatch h
theorem fltNMinEnd : Statement (.fltNMinEnd) := fun _ h => nomatch h
theorem aliveToggle : Statement (.aliveToggle) := fun _ h => nomatch h
theorem aliveRestart : Statement (.aliveRestart) := fun _ h => nomatch h
theorem cupSample (x0 : Nat) (x1 : Int) : Statement (.cupSample x0 x1) := fun _ h => nomatch h
theorem monitorConfigWrite (x0 : Port) (x1 : Nat) (x2 : Nat) (x3 : Nat) : Statement (.monitorConfigWrite x0 x1 x2 x3) :=
  fun _ h => nomatch h
theorem cupSnapshot (x0 : Port) (x1 : Nat) (x2 : Bool) : Statement (.cupSnapshot x0 x1 x2) := fun _ h => nomatch h
theorem cupSnapshotDone : Statement (.cupSnapshotDone) := fun _ h => nomatch h
theorem cupSnapshotAbort (x0 : Port) : Statement (.cupSnapshotAbort x0) := fun _ h => nomatch h
theorem relayBlockRx (x0 : Frame) : Statement (.relayBlockRx x0) := fun _ h hw => by cases h; simp_all [Instr.wf]
theorem relayBlockWritten (x0 : Bool) : Statement (.relayBlockWritten x0) := fun _ h => nomatch h
theorem relayAckRx (x0 : Frame) : Statement (.relayAckRx x0) := fun _ h hw => by cases h; simp_all [Instr.wf]
theorem relayReportRx (x0 : Frame) : Statement (.relayReportRx x0) := fun _ h hw => by cases h; simp_all [Instr.wf]
theorem relayResendTimeout (x0 : Nat) : Statement (.relayResendTimeout x0) := fun _ h => nomatch h
theorem relaySenderSilent : Statement (.relaySenderSilent) := fun _ h => nomatch h
theorem verify (x0 : Port) : Statement (.verify x0) := fun _ h => nomatch h
theorem localVerifyDone : Statement (.localVerifyDone) := fun _ h => nomatch h
theorem relayGo (x0 : Port) : Statement (.relayGo x0) := fun _ h => nomatch h
theorem updateAbort (x0 : Port) : Statement (.updateAbort x0) := fun _ h => nomatch h
theorem restart (x0 : Port) : Statement (.restart x0) := fun _ h => nomatch h
theorem swapGo (x0 : Port) : Statement (.swapGo x0) := fun _ h => nomatch h
theorem swapStageDone : Statement (.swapStageDone) := fun _ h => nomatch h
theorem twinHandover (x0 : Port) (x1 : Bool) : Statement (.twinHandover x0 x1) := fun _ h => nomatch h
theorem repPop (x0 : Port) : Statement (.repPop x0) := fun _ h => nomatch h
theorem bitSlot (x0 : Nat) (x1 : Nat) : Statement (.bitSlot x0 x1) := fun _ h => nomatch h
theorem joinBlockRx (x0 : Side) : Statement (.joinBlockRx x0) := fun _ h => nomatch h
theorem joinLaneReady (x0 : Side) : Statement (.joinLaneReady x0) := fun _ h => nomatch h
theorem d3hotExit : Statement (.d3hotExit) := fun _ h => nomatch h
theorem portConnectChange (x0 : Nat) (x1 : Bool) (x2 : Bool) : Statement (.portConnectChange x0 x1 x2) := fun _ h => nomatch h
theorem setAddress (x0 : Bool) (x1 : Nat) : Statement (.setAddress x0 x1) := fun _ h => nomatch h
theorem setFeature (x0 : Bool) (x1 : Bool) (x2 : Nat) (x3 : Nat) : Statement (.setFeature x0 x1 x2 x3) := fun _ h => nomatch h
theorem canIntegrationDone (x0 : Nat) : Statement (.canIntegrationDone x0) := fun _ h => nomatch h
theorem bankSupplyReturn (x0 : Nat) : Statement (.bankSupplyReturn x0) := fun _ h => nomatch h

end Sys2Proof.Laws.Frames
end

