-- ==== Sys2Proof/Tests/Base.lean ====
section
/-! SUPPORT. Small states for the tests: a powered hub in a mode and role, to be changed field by field. -/

set_option Elab.async false

namespace Sys2Proof.Tests

open Sys2Proof.Machine

/-- Node 5 with role `r` (0 single, 1 twin, 2 junction) in mode `m`, every domain on and every page enabled. -/
def hub (m : Nat) (r : Nat := 0) : State :=
  ({ State.reset with
      pd := [0, 1, 2, 3, 4, 5, 6, 7]
      mono := ms 1000000
      fab := fns 1000000123
      regs := allPages.map (fun pg => (HDR.BLK_CTRL_ENABLE.key pg 0, 1))
      otp := { words := [(0, 5 + 4096 * r)] } }.wr DEVICE.MODE_STAT_MODE m).wr DEVICE.START_STAT_STEP 9

/-- A timer that has ended. -/
def ended (s : State) (t : Nat) : State := { s with timers := Tbl.put s.timers t 0 }

/-- A context as given. -/
def withCtx (s : State) (e c : Nat) (x : Ctx) : State := { s with ctxs := Tbl.put s.ctxs (32 * e + c) x }

/-- A frame with the head check it must carry. -/
def headed (f : Frame) : Frame := { f with hchk := f.headCheck }

/-- A frame with its head check and its trailer. -/
def sealed_ (f : Frame) : Frame := { headed f with crc := (headed f).trailer }

/-- A time message of node 7. -/
def ptpOf (kind seq spec0 : Nat) (body : List Nat) : Frame :=
  { tc := 1, src := 7 * 8192, dest := 7 * 8192,
    payload := natb ([kind, 0x12, 0, 54, 0, 0, 0, 0] ++ zeros 8 ++ [spec0, 0, 0, 0] ++ zeros 10 ++ beBytes 2 seq ++ [0, 0] ++ body) }

/-- Context 3 of engine 0 runs and the instruction is due; it holds `pins` pins. -/
def due (y : Yemal) (x : Ctx := {}) (pins : Nat := 0) : State :=
  withCtx { (hub 3).wrn 0 ENG.CTX_CFG_PIN_COUNT pins 3 with prog := [(0, y.encode)] } 0 3 { x with run := true }

/-- Window `w` lies on node 7, endpoint 0, and the PCI Express link is up. -/
def bridged (w : Nat) : State :=
  { ((hub 3).wr BRIDGE.WIN_CFG_EN 1 w).wr BRIDGE.WIN_BASE_HI_ADDR 224 w with pcie := { up := true } }

/-- The same with these requests outstanding and reads held. -/
def asked (rs : List Req) (hs : List HeldRead := []) : State :=
  { bridged 127 with bridge := { reqs := rs, reads := hs } }

/-- A TC4 frame of node 7 that carries an access message. -/
def access (op tag off count dest : Nat) (data : List Nat := []) : Frame :=
  sealed_ { tc := 4, src := 7 * 8192, dest := dest, len := 12 + data.length,
            payload := natb ([op, 0] ++ beBytes 2 tag ++ beBytes 4 off ++ beBytes 4 count ++ data) }

/-- CAN controller `n` is in mode `m` and its bus in state `b`. -/
def bus (n m b : Nat) : State := ((hub 3).wrn n CAN.CTRL_MODE m).wrn n CAN.STAT_BUS b

/-- Buffer `b` of controller `n` is enabled, to transmit if `tx`, in exclusive windows if `exc`. -/
def box (s : State) (n b : Nat) (tx exc : Bool) : State :=
  ((s.wrn n CAN.MB_CFG_EN 1 b).wrn n CAN.MB_CFG_DIR (bit tx) b).wrn n CAN.MB_CFG_TXMODE (bit exc) b

/-- Controller 3 transmits the frame of buffer 63. -/
def sending (exc : Bool) : State :=
  { box (bus 3 1 3) 3 63 true exc with can := [(3, { tx := some { buf := 63, exc := exc, frame := { id := 5 } } })] }

/-- Controller 3 runs its matrix, window 31 of cycle 0 being the next; its cell is of kind `k` for buffer 63. -/
def matrix (k : Nat) (exc : Bool := true) : State :=
  { ((((box (bus 3 1 2) 3 63 true exc).wrn 3 CAN.CYC_CFG_EN 1).wrn 3 CAN.CYC_CFG_WINDOWS 32).wrn 3 CAN.CELL_KIND k 31).wrn 3 CAN.CELL_BUF 63 31 with
    can := [(3, { pos := some (0, 31), starts := (List.range 32).map (fun i => 1000 * i) })] }

/-- Attached to a USB host and configured, commands are taken without a session. -/
def plugged : State :=
  { (hub 3).wr USBFN.AUTH_CFG_REQUIRED 0 with usb := { vbus := true, attached := true, fnConf := true } }

/-- Association entry `i` selected, enabled if `en`, receiving if `rx`. -/
def assoc (i : Nat) (en rx : Bool) : State :=
  (((hub 3).wr GCM.A_SEL_ENTRY i).wr GCM.A_CFG_EN (bit en) i).wr GCM.A_CFG_DIR (bit rx) i

/-- A record of epoch 7 for entry 255 of node `n` is in REC, with its check. -/
def record (n crc : Nat) : State :=
  ((((ended (hub 3) tRec).wr GCM.REC_WORD (2 ^ 24 + 255 * 65536 + n) 0).wr GCM.REC_WORD 7 4).wr GCM.REC_WORD crc 7)

/-- A relay block of image 9 with `count` blocks, coordinated by node `coord`. -/
def block (i coord count : Nat) (tag : List Nat := zeros 16) (dat : List Nat := zeros 4064) : List Nat :=
  [0xB1, 0] ++ beBytes 2 i ++ beBytes 8 9 ++ beBytes 2 coord ++ beBytes 2 count ++ tag ++ dat

/-- A relay message of node 7. -/
def relayed (b : List Nat) : Frame := { tc := 5, src := 7 * 8192, dest := 5 * 8192, len := b.length, payload := natb b }

/-- A relay of image 9 runs, the hub as a receiver. -/
def receiving (r : RelayRx) : State :=
  { ((hub 3).wr UPDATE.CFG_ACCEPT 1).wr UPDATE.STAT_STATUS 1 with upd := { rx := some r } }

/-- The hub sends blocks to node 7. -/
def relaying (x : RelayTx) : State :=
  { (hub 3).wr UPDATE.STAT_STATUS 1 with upd := { tx := some x } }

/-- What is absent has every property. -/
theorem absent {α : Type} {P : α → Prop} {o : Option α} (h : o.isNone = true) : ∀ e, o = some e → P e :=
  fun e he => by rw [he] at h; cases h

end Sys2Proof.Tests
end

