-- ==== Sys2Proof/Tests/Images.lean ====
section
/-! SUPPORT. A hub with a valid image in its flash, for the tests of the commands that verify one: two blocks whose tags
are left as the CMACs they must be (R497). -/

set_option Elab.async false

namespace Sys2Proof.Tests

open Sys2Proof.Machine Sys2Proof.Laws

/-- The image key of a root key of zeros. -/
def testKey : List Nat := Machine.imageKey (zeros 32)

/-- The header of an image without sections (R498). -/
def header : List Nat := [0x46, 0x44, 0x4C, 0x49, 1] ++ zeros 4059

/-- The tags of the two blocks. -/
def tag0 : List Nat := cmac testKey (zeros 16 ++ beBytes 2 0 ++ beBytes 8 9 ++ beBytes 2 2 ++ header)
def tag1 : List Nat := cmac testKey (tag0 ++ beBytes 2 1 ++ beBytes 8 9 ++ beBytes 2 2 ++ zeros 4064)

/-- The two blocks. -/
def image : List Nat := block 0 0 2 tag0 header ++ block 1 0 2 tag1 (zeros 4064)

/-- The state has the root key and an image in slot `k`. -/
def imaged (k : Nat) (s : State) : State :=
  { s with gcm := { root := some (zeros 32) }, flash := { mem := memWrite 255 [] (slotBase k) image } }

theorem bytes_zeros (n : Nat) : Bytes n (zeros n) :=
  ⟨by simp [zeros], fun x hx => by simp [zeros] at hx; omega⟩

theorem bytes_testKey : Bytes 32 testKey := bytes_kdf (bytes_zeros 32) _ _ _

theorem bytes_tag0 : Bytes 16 tag0 := bytes_cmac bytes_testKey _

theorem bytes_tag1 : Bytes 16 tag1 := bytes_cmac bytes_testKey _

theorem bytes_append {m n : Nat} {a b : List Nat} (ha : Bytes m a) (hb : Bytes n b) : Bytes (m + n) (a ++ b) :=
  ⟨by simp [ha.1, hb.1], fun x hx => (List.mem_append.mp hx).elim (ha.2 x) (hb.2 x)⟩

theorem bytes_header : Bytes 4064 header :=
  bytes_append (m := 5) ⟨rfl, by decide⟩ (bytes_zeros 4059)

/-! ### A block and its parts -/

/-- A block with the parts before its tag set apart. -/
def before (i c n : Nat) : List Nat := [0xB1, 0] ++ beBytes 2 i ++ beBytes 8 9 ++ beBytes 2 c ++ beBytes 2 n

theorem block_eq (i c n : Nat) (tag dat : List Nat) : block i c n tag dat = before i c n ++ (tag ++ dat) := by
  simp [block, before]

theorem bytes_before (i c n : Nat) : Bytes 16 (before i c n) := by
  refine ⟨by simp [before, beBytes], fun x hx => ?_⟩
  simp [before, beBytes] at hx
  omega

theorem bytes_block {i c n : Nat} {tag dat : List Nat} (ht : Bytes 16 tag) (hd : Bytes 4064 dat) :
    Bytes 4096 (block i c n tag dat) := by
  rw [block_eq]; exact bytes_append (bytes_before i c n) (bytes_append ht hd)

theorem take_block {i c n k : Nat} {tag dat : List Nat} (hk : k ≤ 16) :
    (block i c n tag dat).take k = (before i c n).take k := by
  rw [block_eq, List.take_append_of_le_length (by rw [(bytes_before i c n).1]; exact hk)]

theorem piece_block {i c n a m : Nat} {tag dat : List Nat} (h : a + m ≤ 16) :
    ((block i c n tag dat).drop a).take m = ((before i c n).drop a).take m := by
  rw [List.take_drop, List.take_drop, take_block (by omega)]

theorem blkTag_block {i c n : Nat} {tag dat : List Nat} (ht : tag.length = 16) : blkTag (block i c n tag dat) = tag := by
  rw [blkTag, block_eq, show 16 = (before i c n).length by rw [(bytes_before i c n).1], List.drop_left,
    (bytes_before i c n).1, ← ht, List.take_left]

theorem blkData_block {i c n : Nat} {tag dat : List Nat} (ht : tag.length = 16) : blkData (block i c n tag dat) = dat := by
  rw [blkData, block_eq, ← List.append_assoc,
    show 32 = (before i c n ++ tag).length by simp [(bytes_before i c n).1, ht], List.drop_left]

theorem chainTag_block {i c n : Nat} {key prev tag dat : List Nat} (ht : tag.length = 16) :
    chainTag key prev (block i c n tag dat) = cmac key (prev ++ beBytes 2 i ++ beBytes 8 9 ++ beBytes 2 n ++ dat) := by
  rw [chainTag, piece_block (by omega), piece_block (by omega), piece_block (by omega), blkData_block ht]
  simp [before, beBytes]

theorem nth_block {i c n : Nat} {tag dat : List Nat} : nth (block i c n tag dat) 0 = 0xB1 := by
  simp [nth, block]

theorem blkIndex_block {i c n : Nat} {tag dat : List Nat} (h : i < 65536) : blkIndex (block i c n tag dat) = i := by
  rw [blkIndex, blkField, piece_block (by omega)]
  simp [before, beBytes, ofBe]; omega

theorem blkId_block {i c n : Nat} {tag dat : List Nat} : blkId (block i c n tag dat) = 9 := by
  rw [blkId, blkField, piece_block (by omega)]
  simp [before, beBytes, ofBe]

theorem blkCount_block {i c n : Nat} {tag dat : List Nat} (h : n < 65536) : blkCount (block i c n tag dat) = n := by
  rw [blkCount, blkField, piece_block (by omega)]
  simp [before, beBytes, ofBe]; omega

/-- A block whose tag is the CMAC it must be is good. -/
theorem blkGood_block {i c n : Nat} {key prev tag dat : List Nat} (hi : i < 65536) (hn : n < 65536) (hl : tag.length = 16)
    (ht : tag = cmac key (prev ++ beBytes 2 i ++ beBytes 8 9 ++ beBytes 2 n ++ dat)) :
    blkGood key prev (block i c n tag dat) 9 n i = true := by
  simp only [blkGood, nth_block, blkIndex_block hi, blkId_block, blkCount_block hn, chainTag_block hl, blkTag_block hl, ← ht]
  simp

/-! ### The image -/

theorem bytes_block0 : Bytes 4096 (block 0 0 2 tag0 header) := bytes_block bytes_tag0 bytes_header

theorem bytes_block1 : Bytes 4096 (block 1 0 2 tag1 (zeros 4064)) := bytes_block bytes_tag1 (bytes_zeros 4064)

theorem bytes_image : Bytes 8192 image := bytes_append bytes_block0 bytes_block1

theorem slotBlock_imaged0 (k : Nat) (s : State) : (imaged k s).slotBlock k 0 = block 0 0 2 tag0 header := by
  have h := memRead_memWrite 255 [] (slotBase k) image 0 4096 (by rw [bytes_image.1]; omega)
  rw [State.slotBlock, State.flashBytes, imaged]
  simp only [Nat.mul_zero]
  rw [h, List.drop_zero, image, List.take_append_of_le_length (by rw [bytes_block0.1]), List.take_of_length_le (by rw [bytes_block0.1])]
  exact bnat_natb bytes_block0.2

theorem slotBlock_imaged1 (k : Nat) (s : State) : (imaged k s).slotBlock k 1 = block 1 0 2 tag1 (zeros 4064) := by
  have h := memRead_memWrite 255 [] (slotBase k) image 4096 4096 (by rw [bytes_image.1])
  rw [State.slotBlock, State.flashBytes, imaged]
  simp only [Nat.mul_one]
  rw [h, image, show 4096 = (block 0 0 2 tag0 header).length by rw [bytes_block0.1], List.drop_left, bytes_block0.1,
    List.take_of_length_le (by rw [bytes_block1.1])]
  exact bnat_natb bytes_block1.2

theorem good0 : blkGood testKey (zeros 16) (block 0 0 2 tag0 header) 9 2 0 = true :=
  blkGood_block (by omega) (by omega) bytes_tag0.1 rfl

theorem good1 : blkGood testKey tag0 (block 1 0 2 tag1 (zeros 4064)) 9 2 1 = true :=
  blkGood_block (by omega) (by omega) bytes_tag1.1 rfl

theorem headerCode_imaged (s : State) (h : s.rd UPDATE.GEN_FLOOR_GEN = 0) :
    s.headerCode (block 0 0 2 tag0 header) = 0 := by
  have h0 : ofBe (header.take 4) = 0x46444C49 ∧ nth header 4 = 1 ∧ nth header 5 = 0 := by decide +kernel
  have h1 : blkField header 8 4 = 0 ∧ blkField header 12 4 = 0 ∧ blkField header 16 4 = 0 ∧ blkField header 20 4 = 0 ∧
      blkField header 24 4 = 0 := by decide +kernel
  simp only [State.headerCode, blkData_block bytes_tag0.1, blkCount_block (show 2 < 65536 by omega), h, h0, h1]
  simp

theorem chain_imaged (k : Nat) (s : State) :
    ((imaged k s).chain k testKey 9 2 2 0 (zeros 16)).isSome = true := by
  simp only [State.chain, Nat.zero_add, slotBlock_imaged0, slotBlock_imaged1, good0, good1, blkTag_block bytes_tag0.1, if_true,
    Option.isSome_some]

theorem imageKey_imaged (k : Nat) (s : State) : (imaged k s).imageKey = some testKey := rfl

/-- The slot is valid. -/
theorem slotValid_imaged (k : Nat) (s : State) (h : (imaged k s).rd UPDATE.GEN_FLOOR_GEN = 0) :
    (imaged k s).slotValid k = true := by
  simp only [State.slotValid, imageKey_imaged, slotBlock_imaged0, blkId_block, blkCount_block (show 2 < 65536 by omega),
    headerCode_imaged _ h, chain_imaged]
  rfl

/-- A verification of slot B finds nothing wrong. -/
theorem slotCode_imaged (s : State) (h : (imaged 1 s).rd UPDATE.GEN_FLOOR_GEN = 0) : (imaged 1 s).slotCode = 0 := by
  have hc := chain_imaged 1 s
  simp only [State.slotCode, imageKey_imaged, slotBlock_imaged0, blkId_block, blkCount_block (show 2 < 65536 by omega),
    headerCode_imaged _ h, good0, Option.isNone_iff_eq_none, ← Option.not_isSome_iff_eq_none, hc]
  rfl

theorem headerCode_wrong (s : State) (b : List Nat) (h : ofBe ((blkData b).take 4) ≠ 0x46444C49) : s.headerCode b = 8 := by
  unfold State.headerCode
  rw [if_pos (by simp [h])]

/-- An erased block. -/
theorem erased_wrong : ofBe ((blkData (bnat (memRead 255 [] 0 4096))).take 4) ≠ 0x46444C49 := by decide +kernel

/-- With an image in slot B only, slot A is erased and not valid. -/
theorem slotValid_erased (s : State) : (imaged 1 s).slotValid 0 = false := by
  have hb : (imaged 1 s).slotBlock 0 0 = bnat (memRead 255 [] 0 4096) := by
    have h := memRead_memWrite_out 255 [] (slotBase 1) image 0 4096 (by simp [slotBase])
    simp only [State.slotBlock, State.flashBytes, imaged, Nat.mul_zero, Nat.add_zero, slotBase, if_true]
    rw [← h]; rfl
  have hc := headerCode_wrong (imaged 1 s) _ erased_wrong
  simp only [State.slotValid, imageKey_imaged, hb, hc]
  rfl

/-! ### A relayed block -/

/-- The tag of block 1 of an image of 20 blocks, the tag before it being zero, and the block. -/
def tagR : List Nat := cmac testKey (zeros 16 ++ beBytes 2 1 ++ beBytes 8 9 ++ beBytes 2 20 ++ zeros 4064)
def blockR : List Nat := block 1 7 20 tagR (zeros 4064)

theorem bytes_tagR : Bytes 16 tagR := bytes_cmac bytes_testKey _

theorem bytes_blockR : Bytes 4096 blockR := bytes_block bytes_tagR (bytes_zeros 4064)

theorem payload_blockR : bnat (relayed blockR).payload = blockR := bnat_natb bytes_blockR.2

theorem good_blockR : blkGood testKey (zeros 16) blockR 9 20 1 = true :=
  blkGood_block (by omega) (by omega) bytes_tagR.1 rfl

end Sys2Proof.Tests
end

