-- ==== Sys2Proof/Tests/Slice0.lean ====
section
/-! SUPPORT. Tests: worked examples of spec/ and words written out from its encodings, published vectors of the ciphers,
and for each check of well-formedness a command that it refuses. -/

set_option Elab.async false

namespace Sys2Proof.Tests

open Sys2Proof Sys2Proof.Machine Sys2Proof.Safety

/-! ### Yemal words, bit by bit from the operand fields of R259 -/

/-- JMP ALWAYS 0x1C0, the word of the injection example of 09_engine_instructions.md. -/
theorem test_decode_jmp : Yemal.decode 8 0x000001C0 = some (.jmp false .always 0 0x1C0) := by decide +kernel

/-- NEG [27], COND 9 in [26:22], IDX 5 in [21:19], ADDR in [10:0]. -/
theorem test_decode_jmp_flag : Yemal.decode 8 0x0A6807FF = some (.jmp true .flag 5 0x7FF) := by decide +kernel

/-- POL [27], SRC 1 in [26:24], IDX 5 in [23:21], CLR [15]. -/
theorem test_decode_wait : Yemal.decode 8 0x19A08000 = some (.wait true .flag 5 0 true) := by decide +kernel

/-- COUNT 0 in [27:23] means 32, LSB [17], DST 3 in [16:15]. -/
theorem test_decode_in : Yemal.decode 8 0x20038000 = some (.inBits 32 0 0 true .check) := by decide +kernel

/-- COUNT 8, PIN 1 in [22:20], SRC 1 in [16:15], CLK [14], CLKPIN 2 in [13:11], CPOL [10]. -/
theorem test_decode_out : Yemal.decode 8 0x3410D400 = some (.outBits 8 1 0 false .x true 2 true) := by decide +kernel

/-- END [27], MIN 16 in [24:20], KEEP [19]. -/
theorem test_decode_push : Yemal.decode 8 0x49080000 = some (.push true .isr 16 true) := by decide +kernel

/-- GATE [25], LOW 16 in [24:20]. -/
theorem test_decode_pull : Yemal.decode 8 0x53000000 = some (.pull .osr true 16) := by decide +kernel

/-- DST 1 in [27:24], SRC 4 in [23:20], OP 3 in [19:17]. -/
theorem test_decode_mov : Yemal.decode 8 0x61460000 = some (.mov .y .pins .bitrev) := by decide +kernel

/-- DST [27], SYNC [26], MASK 0x81 in [25:18], VALUE 0x01 in [17:10]. -/
theorem test_decode_set : Yemal.decode 8 0x7E040400 = some (.setPins true true 0x81 1) := by decide +kernel

/-- OP 1 in [27:25], DST [24], IMM [23], VALUE in [15:0]. -/
theorem test_decode_alu : Yemal.decode 8 0x8380BEEF = some (.alu .sub true true 0xBEEF) := by decide +kernel

/-- WHAT 0 in [27:26], TOY [25], KEEP [24]. -/
theorem test_decode_stamp : Yemal.decode 8 0x93000000 = some (.stamp .eventRel true true) := by decide +kernel

/-- BASE 2 in [27:26], ACT 1 in [25:23], PIN 1 in [22:20], OFFSET in [18:0]. -/
theorem test_decode_ttrig : Yemal.decode 8 0xA897FFFF = some (.ttrig .event .high 1 false 524287) := by decide +kernel

/-- OP 2 in [27:25], WIDTH 0 in [23:19] means 32. -/
theorem test_decode_chk : Yemal.decode 8 0xB4000000 = some (.chk .fold false 32) := by decide +kernel

/-- RX [27], OP 3 in [26:25]. -/
theorem test_decode_fifo : Yemal.decode 8 0xCE000000 = some (.fifo true .flush) := by decide +kernel

/-- NUM 3 in [27:25], IRQ [24], FOP 1 in [23:22], FLAG 6 in [21:19]. -/
theorem test_decode_event : Yemal.decode 8 0xD7700000 = some (.event 3 true .set 6) := by decide +kernel

/-- DST [27], MODE 2 in [26:25], IMM in [15:0]. -/
theorem test_decode_ldi : Yemal.decode 8 0xEC001234 = some (.ldi true .high 0x1234) := by decide +kernel

/-- EOC [27]; 0xF0000000 is the no-operation instruction (R273). -/
theorem test_decode_yield : Yemal.decode 8 0xF8000000 = some (.yield true) ∧ Yemal.decode 8 0xF0000000 = some (.yield false) := by
  decide +kernel

/-- Reserved: NEG with ALWAYS, COND 21, PUSH SRC 3, MOV SRC 11, OP 7 of MOV, ACT 7, CHK OP 7, MARK of the RX FIFO, a
pin at PIN_COUNT (R259, R260). -/
theorem test_decode_reserved :
    [0x08000000, 0x05400000, 0x46000000, 0x60B00000, 0x600E0000, 0xA3800000, 0xBE000000, 0xC8000000].all
      (fun w => (Yemal.decode 8 w).isNone) = true ∧ Yemal.decode 1 0x24100000 = none := by decide +kernel

/-! ### Worked examples of spec/ -/

/-- 11_bridge.md: window 5 with WIN_BASE 0x5220_0000_0000 carries BAR2 offset 0x0140_0040 to 0x5220_0000_0040. -/
theorem test_fabricAddr :
    ((State.reset.wr BRIDGE.WIN_BASE_HI_ADDR 0x5220 5).fabricAddr 0x01400040) = 0x522000000040 := by decide +kernel

/-- 00_scope.md: the same address names node 0x291, endpoint 0. -/
theorem test_nodeOf : nodeOf (addrEp 0x522000000040) = 0x291 ∧ localOf (addrEp 0x522000000040) = 0 := by decide +kernel

/-- 02_pages_ports_interrupts.md: ARB's shipped WR_MASK 0x2D permits RINGE; 0x29 refuses RINGE and permits RINGW. -/
theorem test_wrMask : (hub 3).judge .ringE true 0x12040 0 true = none ∧
    ((hub 3).wrn 0x12 HDR.BLK_ACCESS_WR_MASK 0x29 0x12).judge .ringE true 0x12040 0 true = some 3 ∧
    ((hub 3).wrn 0x12 HDR.BLK_ACCESS_WR_MASK 0x29 0x12).judge .ringW true 0x12040 0 true = none := by decide +kernel

/-- 04_ring_frames_transit.md: a residence of 38.5 ns adds 0x26_8000 to CORR 0x12_3400. -/
theorem test_corr : (transitHead { tc := 1, launch := 0x123400 } 0x268000).launch = 0x38B400 := by decide +kernel

/-- 04_ring_frames_transit.md: H = 0xFFF0 with all 64 numbers marked. -/
def window0 : StreamEnt := { node := 0x104, cls := 2, high := 0xFFF0, map := 2 ^ 64 - 1, last := 0 }
def window1 : StreamEnt := window0.mark 2 0

theorem test_window_newer : window0.judge 2 = .accept ∧ window1.high = 2 := by decide +kernel
theorem test_window_duplicate : window1.judge 0xFFF0 = .duplicate := by decide +kernel
theorem test_window_late : window1.judge 1 = .accept ∧ window1.judge 0xFFB0 = .stale := by decide +kernel

/-- 05_switch_core_arbiter.md: CLASS_USED(5) at 12,280 refuses a copy of 12 cells with cause 2; at 12,270 one is admitted
and charged, and the next, judged in the same cycle, is refused. -/
theorem test_admit_full : ((hub 3).wr BUFFER.CLASS_USED_CELLS 12280 5).admitCopy (voqIdx 3 0 5) 12 = .error 2 := by decide +kernel
theorem test_admit_east :
    (State.admitAll [voqIdx 3 0 5, voqIdx 3 1 5] 12 ((hub 3).wr BUFFER.CLASS_USED_CELLS 12270 5)).1 = [(voqIdx 3 0 5, 0, 12)] := by
  decide +kernel

/-- 05_switch_core_arbiter.md: S = 132 and L[31:16] = 40,000 give r = 80, and P0 TC2 wins; a fourth grant is reserved. -/
def lottery (since : Nat) : State :=
  { ((((((hub 3).wr ARB.REQ_CFG_BEANS 64 24).wr ARB.REQ_CFG_PRIV 1 24).wr ARB.REQ_CFG_BEANS 32 26).wr
      ARB.REQ_CFG_BEANS 32 282).wr ARB.REQ_CFG_BEANS 4 349).wr ARB.RSV_CFG0_RSV_EVERY 4 3 with
    lfsr := [0, 0, 0, 0x9C400000], outs := [(3, { since := since })] }

theorem test_lottery : (lottery 2).winner 3 [24, 26, 282, 349] = some (26, 3) := by decide +kernel
theorem test_reserved : (lottery 3).winner 3 [24, 26, 282, 349] = some (24, 1) := by decide +kernel

/-- 08_engines.md: four words PULLed of six, then REWIND, a word from the framer, four PULLs and RELEASE. -/
def fifo0 : Fifo :=
  (List.range 6).foldl (fun (q : Fifo) i => q.put { last := i = 3 || i = 5 }) {}
def pull4 (q : Fifo) : Fifo := q.take.2.take.2.take.2.take.2

theorem test_fifo_start : fifo0.free = 10 ∧ fifo0.pkts = 2 := by decide +kernel
theorem test_fifo_pull : (pull4 fifo0.mark).r = 4 ∧ (pull4 fifo0.mark).free = 10 ∧ (pull4 fifo0.mark).pkts = 1 := by decide +kernel
theorem test_fifo_release :
    (pull4 ((pull4 fifo0.mark).rewind.put {})).release.free = 13 ∧ (pull4 ((pull4 fifo0.mark).rewind.put {})).release.m = 4 := by
  decide +kernel

/-- 14_link_security.md: a receiver at epoch 42 that sees EPOCH_LO 0xB advances to 43. -/
theorem test_inferEpoch : inferEpoch 42 0xB = 43 ∧ inferEpoch 42 0xA = 42 ∧ inferEpoch 42 9 = 41 := by decide +kernel

/-- 15_line_power_breakers.md: 2.0 A in segment 4 of a slot's shipped curve trips after 1,000 ms, not before. -/
theorem test_curve : heatAfter (State.reset.curve 7) 1000 200 1000000 0 = 2 ^ 48 ∧
    heatAfter (State.reset.curve 7) 1000 200 999000 0 < 2 ^ 48 := by decide +kernel

/-! ### One step -/

/-- On an empty queue the hub lets one core cycle pass. -/
theorem test_tick : (match step (hub 3) with | .next t => decide (t.mono = (hub 3).mono + 64) | _ => false) = true := by
  decide +kernel

/-- The command at the front runs, and the rest of the queue waits. -/
theorem test_step_popped : (match step { hub 3 with pending := [.recPop .host, .cqPop .host] } with
    | .next t => decide (t.pending = [.cqPop .host]) | _ => false) = true := by decide +kernel

/-- No row of the opcode table gives bits. -/
theorem test_noWord : decodeTableWord 32 7 = none := rfl

/-- A PULL of an empty TX FIFO stalls with cause 1; the program counter stays (R258). -/
theorem test_pull_stalls : (match exec (.pull 0 3) (due (.pull .osr false 0)) with
    | .next t => decide ((t.ctx 0 3).stall = 1 ∧ (t.ctx 0 3).pc = 0) | _ => false) = true := by decide +kernel

/-- JMP LX with X = 0 leaves 0xFFFF_FFFF and jumps (R260). -/
theorem test_jmp_lx : (match exec (.jmp 0 3) (due (.jmp false .lx 0 0x55)) with
    | .next t => decide ((t.ctx 0 3).x = 0xFFFFFFFF ∧ (t.ctx 0 3).pc = 0x55) | _ => false) = true := by decide +kernel

/-- SUB sets C when the destination is below the source (R267). -/
theorem test_sub_borrow : (match exec (.aluSub 0 3) (due (.alu .sub false true 5) { x := 3 }) with
    | .next t => decide ((t.ctx 0 3).x = 0xFFFFFFFE ∧ (t.ctx 0 3).c = true ∧ (t.ctx 0 3).z = false) | _ => false) = true := by
  decide +kernel

/-- ZEROIZE with another key does nothing but answer (R397). -/
theorem test_zeroize_key : (match exec (.zeroize .host 1) { hub 3 with gcm := { root := some (zeros 32) } } with
    | .next t => decide (t.gcm.root = some (zeros 32)) | _ => false) = true := by decide +kernel

/-! ### The ciphers: FIPS 197 appendix C, SP 800-38B -/

theorem test_aes256 : aes (List.range 32) ((List.range 16).map (fun i => 17 * i)) =
    beBytes 16 0x8ea2b7ca516745bfeafc49904b496089 := by decide +kernel

theorem test_aes128 : aes (List.range 16) ((List.range 16).map (fun i => 17 * i)) =
    beBytes 16 0x69c4e0d86a7b0430d8cdb78070b4c55a := by decide +kernel

theorem test_cmac256 : cmac (beBytes 32 0x603deb1015ca71be2b73aef0857d77811f352c073b6108d72d9810a30914dff4) [] =
    beBytes 16 0x028962f61b7bf89efc6b551f4667d983 := by decide +kernel

/-! ### Well-formedness: for each check, a command it refuses -/

theorem test_illFormed_frame : [
    { ver := 16 }, { tc := 8 }, { dest := 2 ^ 25 }, { src := 2 ^ 25 }, { seq := 65536 }, { launch := 2 ^ 64 }, { len := 2 ^ 13 },
    { epochLo := 16 }, { assoc := 4096 }, { hops := 256 }, { xings := 16 }, { dir := 2 }, { entry := 128 }, { hchk := 2 ^ 32 },
    { crc := 2 ^ 32 }, { tag := 2 ^ 128 }, { payload := List.replicate 4097 0 }
    ].all (fun (f : Frame) => !f.wf) = true ∧ Frame.wf {} = true := by decide +kernel

theorem test_illFormed_can : [{ id := 2 ^ 29 }, { dlc := 16 }, { data := List.replicate 65 0 }].all
    (fun (f : CanFrame) => !f.wf) = true ∧ CanFrame.wf {} = true := by decide +kernel

theorem test_illFormed_a : [
    .registerWrite .host ⟨2 ^ 24, 1, 15⟩ 0, .registerWrite .host ⟨0, 1025, 15⟩ 0, .registerWrite .host ⟨0, 1, 256⟩ 0,
    .registerWrite .host ⟨0, 1, 15⟩ (2 ^ 64), .loReadCapture .host ⟨2 ^ 24, 1, 15⟩,
    .loReadCapture .host ⟨0, 1025, 15⟩, .loReadCapture .host ⟨0, 1, 256⟩, .softReset .host 256, .softResetDone 256,
    .fenceReq .host 256 false, .blockFenced 256, .blkAccessWrite .host 256 0, .blkAccessWrite .host 0 (2 ^ 32),
    .lock .host 256 0, .lock .host 0 (2 ^ 32), .intSet .host 256 0, .intSet .host 0 (2 ^ 32),
    .intStatClear .host 256 0, .intStatClear .host 0 (2 ^ 32), .intEnWrite .host 256 0, .intEnWrite .host 0 (2 ^ 32),
    .msixUnmask (some 64) false false, .fltInjWrite .host 256 0, .fltInjWrite .host 0 (2 ^ 32),
    .denyClr .host (2 ^ 32), .pcieLinkUp 5 0, .pcieLinkUp 0 5, .refBeaconRx .east (2 ^ 12) 0, .refBeaconRx .east 0 4,
    .contestNotice .east (2 ^ 12) 0, .contestNotice .east 0 4, .refSourceQualified (.qualified 4 none),
    .eqAdapted .twin 16 0 0 0 [], .eqAdapted .twin 0 16 0 0 [], .eqAdapted .twin 0 0 (2 ^ 32) 0 [],
    .eqAdapted .twin 0 0 0 (2 ^ 32) [], .deskewDone .east false (2 ^ 16), .linkQualified .twin 2,
    .linkDown .twin ⟨16, 0⟩, .linkDown .twin ⟨0, 2 ^ 16⟩
    ].all (fun (i : Instr) => !i.wf) = true := by decide +kernel

theorem test_illFormed_b : [
    .uncorrectableCodeword .twin 2 false, .eyeLow .twin 2 0, .eyeLow .twin 0 (2 ^ 16),
    .frameArrival .east { tc := 8 } false 0, .junctionRelayRx { tc := 8 } 0, .streamEntryRetire (2 ^ 12) 0,
    .streamEntryRetire 0 8, .transitCheckFail .east 4, .copyAdmission 8 {}, .copyAdmission 0 { tc := 8 },
    .arbitrationGrant 8, .frameSent 8, .lfsrSeed .host (2 ^ 32), .voqMinWrite .host (2 ^ 32), .bankFence 16,
    .holdWindowExpiry 8 0, .holdWindowExpiry 0 8, .snapshotFragmentRx 0 (2 ^ 16) false [], .peerRelayDone false 8 0,
    .peerRelayDone false 0 (2 ^ 32), .syncRx .twin { tc := 8 } 0, .delayReqRx .east { tc := 8 } 0,
    .delayRespRx .east { tc := 8 }, .announceRx .twin { tc := 8 }, .launchEligible 512, .launchDeadline 512,
    .toutArm .host 4, .toutDisarm .host 4, .toutEdge 4, .dispatchResume 16, .deferralEnd 16 0, .deferralEnd 0 32,
    .ctxStart .host 16 0 false, .ctxStart .host 0 32 false, .ctxStartNow .host 16 0 false,
    .ctxStartNow .host 0 32 false, .ctxClear .host 16 0 false, .ctxClear .host 0 32 false, .ctxStop .host 16 0 false,
    .ctxStop .host 0 32 false
    ].all (fun (i : Instr) => !i.wf) = true := by decide +kernel

theorem test_illFormed_c : [
    .stopCompletion 16 0, .stopCompletion 0 32, .injGo .host 16 0 false, .injGo .host 0 32 false,
    .injectionExecute 16 0, .injectionExecute 0 32, .reservedEncoding 16 0, .reservedEncoding 0 32, .jmp 16 0,
    .jmp 0 32, .wait 16 0, .wait 0 32, .inBits 16 0, .inBits 0 32, .outBits 16 0, .outBits 0 32, .push 16 0,
    .push 0 32, .pull 16 0, .pull 0 32, .mov 16 0, .mov 0 32, .setPins 16 0, .setPins 0 32, .aluAdd 16 0,
    .aluAdd 0 32, .aluSub 16 0, .aluSub 0 32, .aluAnd 16 0, .aluAnd 0 32, .aluOr 16 0, .aluOr 0 32, .aluXor 16 0,
    .aluXor 0 32, .aluShl 16 0, .aluShl 0 32, .aluShr 16 0, .aluShr 0 32, .aluCmp 16 0, .aluCmp 0 32
    ].all (fun (i : Instr) => !i.wf) = true := by decide +kernel

theorem test_illFormed_d : [
    .stamp 16 0, .stamp 0 32, .ttrig 16 0, .ttrig 0 32, .ttrigCancel 16 0, .ttrigCancel 0 32, .ttrigActionFire 16 0,
    .ttrigActionFire 0 32, .chkSeed 16 0, .chkSeed 0 32, .chkSeedx 16 0, .chkSeedx 0 32, .chkFold 16 0, .chkFold 0 32,
    .chkAppend 16 0, .chkAppend 0 32, .chkVerify 16 0, .chkVerify 0 32, .chkSave 16 0, .chkSave 0 32, .chkPause 16 0,
    .chkPause 0 32, .fifoMark 16 0, .fifoMark 0 32, .fifoRewind 16 0, .fifoRewind 0 32, .fifoRelease 16 0,
    .fifoRelease 0 32, .fifoFlush 16 0, .fifoFlush 0 32, .event 16 0, .event 0 32, .ldi 16 0, .ldi 0 32, .yield 16 0,
    .yield 0 32, .yieldEoc 16 0, .yieldEoc 0 32, .stallEnd 16 0, .stallEnd 0 32
    ].all (fun (i : Instr) => !i.wf) = true := by decide +kernel

theorem test_illFormed_e : [
    .pinUnderrun 16 0, .pinUnderrun 0 32, .txFlush .host 16, .rxFlush .host 16, .flushComplete 16 0 false,
    .flushComplete 0 32 false, .txfPush .host 16 0, .txfPush .host 0 (2 ^ 32), .txfPushEnd .host 16 0,
    .txfPushEnd .host 0 (2 ^ 32), .rxfPop .host 16, .contextSnapshot .host 16 0, .contextSnapshot .host 0 32,
    .contextSnapshotDone 16, .framerEmit 16 0, .framerEmit 0 32, .framerRx { tc := 8 }, .framerUnpack 16 0,
    .framerUnpack 0 32, .readPendTimeout 16 0, .readPendTimeout 0 32, .subaWrite .host 16 0 0,
    .subaWrite .host 0 (2 ^ 13) 0, .subaWrite .host 0 0 128, .programMemoryWrite .host 16 0 0 0,
    .programMemoryWrite .host 0 2 0 0, .programMemoryWrite .host 0 0 (2 ^ 11) 0,
    .programMemoryWrite .host 0 0 0 (2 ^ 32), .pbSwap .host 16 false, .pbCancel .host 16 false, .bankSupplyFail 8,
    .pinInputChange 256 false, .pinEdgeAccepted 256, .bar2Write (2 ^ 29) [] false, .bar2Read 0 (2 ^ 29) 0 false,
    .accessAnswerRx { tc := 8 }, .readTimeout (2 ^ 16), .writeTimeout (2 ^ 16), .prefetchLineExpiry (2 ^ 49),
    .fenceGo .host 128
    ].all (fun (i : Instr) => !i.wf) = true := by decide +kernel

theorem test_illFormed_f : [
    .fenceAbort .host 128, .readAbort .host 128, .pollDue (2 ^ 10), .hostRxDelivery { tc := 8 } 0,
    .sendRingServe 8 0 [], .sendRingServe 0 (2 ^ 12) [], .mgmtRequest { tc := 8 }, .mgmtDoorbell .host (2 ^ 12) 0,
    .mgmtDoorbell .host 0 (2 ^ 32), .canMode .host 4 0, .canMode .host 0 4, .canFrameRx 4 {} 0 0,
    .canFrameRx 0 { dlc := 16 } 0 0, .canFrameRx 0 {} (2 ^ 30) 0, .canFrameRx 0 {} 0 (2 ^ 32), .canTxReq .host 4,
    .canTxAbort .host 4, .canTxStart 4 0, .canTxStart 0 64, .canTxEnd 4 false 0, .canEndpointAccess { tc := 8 },
    .canWindowStart 4, .canSwitch .host 4, .canSwitchCancel .host 4, .canBusError 4 0 false false,
    .canRecover .host 4, .canRecovered 4, .canSleep .host 4, .canSleepEnter 4, .canWakeCondition 4 0 none 0 0,
    .canWakeCondition 0 0 (some { dlc := 16 }) 0 0, .canWakeCondition 0 0 none (2 ^ 30) 0,
    .canWakeCondition 0 0 none 0 (2 ^ 32), .canWake .host 4, .getPortStatus 6, .setHubFeature (2 ^ 16),
    .clearHubFeature (2 ^ 16), .setPortFeature 6 0 false, .setPortFeature 0 (2 ^ 16) false, .clearPortFeature 6 0
    ].all (fun (i : Instr) => !i.wf) = true := by decide +kernel

theorem test_illFormed_g : [
    .clearPortFeature 0 (2 ^ 16), .portResetComplete 6 0 false, .clearTtBuffer 6 0, .clearTtBuffer 0 256, .resetTt 6,
    .getTtState 6, .stopTt 6, .setConfiguration false (2 ^ 16), .setInterface 256 0, .setInterface 0 256,
    .clearEndpointHalt 256, .usbOvercurrent 6 false 0, .usbWakeSource 6, .vendorRead (2 ^ 16),
    .vendorWrite (2 ^ 16) 0, .vendorWrite 0 (2 ^ 32), .usbOpen (2 ^ 16) [], .usbClose (2 ^ 16) 0 [],
    .usbClose 0 (2 ^ 32) [], .usbRead 256 0 0 0 [], .usbRead 0 (2 ^ 16) 0 0 [], .usbRead 0 0 (2 ^ 32) 0 [],
    .usbRead 0 0 0 (2 ^ 32) [], .usbWrite (2 ^ 16) 0 0 [] [], .usbWrite 0 (2 ^ 32) 0 [] [],
    .usbWrite 0 0 (2 ^ 32) [] [], .usbSend (2 ^ 16) 0 0 [] [], .usbSend 0 (2 ^ 32) 0 [] [],
    .usbSend 0 0 (2 ^ 32) [] [], .usbRecv (2 ^ 16) 0 [], .usbRecv 0 (2 ^ 32) [], .usbChannelRx { tc := 8 },
    .usbSof (2 ^ 11) 0, .usbSof 0 8, .usbfnDoorbell .host (2 ^ 32), .assocEnable .host (2 ^ 32),
    .aEpochWrite .host (2 ^ 32), .epochGraceEnd 256 0, .epochGraceEnd 0 2, .keyAlarm 8
    ].all (fun (i : Instr) => !i.wf) = true := by decide +kernel

theorem test_illFormed_h : [
    .zeroize .host (2 ^ 32), .breakerEn .host 12 false, .breakerQualified 12 0 0, .breakerQualified 0 (2 ^ 12) 0,
    .breakerQualified 0 0 (2 ^ 12), .breakerOffTimeEnd 12, .breakerRampStep 12 0 0 0, .breakerRampStep 0 0 (2 ^ 12) 0,
    .breakerRampStep 0 0 0 (2 ^ 12), .breakerRampTimeout 12, .breakerInstantTrip 12 0, .breakerCurveTrip 12 0 0,
    .breakerWindowOpen 12 0, .breakerWindowOpen 0 (2 ^ 12), .breakerReverseOpen 12 0, .inletReclose 12 0 0,
    .inletReclose 0 (2 ^ 12) 0, .inletReclose 0 0 (2 ^ 12), .slotRemoved 8, .slotInserted 8,
    .curveCommit .host (2 ^ 12), .busLow (2 ^ 12), .busLoss (2 ^ 12), .busOk (2 ^ 12),
    .trafficToleranceMiss .east 8 0, .modeReqInvalid .host 8, .powerUpReset 2, .warmReset none (2 ^ 32),
    .flashRead .host 64, .flashProgram .host 64, .flashCmdDone 8, .retire .host 4, .faultDetected 256 0 0 false,
    .faultDetected 0 32 0 false, .faultDetected 0 0 (2 ^ 32) false, .selfFault 32, .cupSample 24 0,
    .monitorConfigWrite .host 24 0 0, .monitorConfigWrite .host 0 32 0, .monitorConfigWrite .host 0 0 (2 ^ 32)
    ].all (fun (i : Instr) => !i.wf) = true := by decide +kernel

theorem test_illFormed_i : [
    .cupSnapshot .host 32 false, .relayBlockRx { tc := 8 }, .relayAckRx { tc := 8 }, .relayReportRx { tc := 8 },
    .relayResendTimeout 2, .bitSlot 16 0, .bitSlot 0 32, .portConnectChange 6 false false, .setAddress false 128,
    .setFeature false false (2 ^ 16) 0, .setFeature false false 0 256, .canIntegrationDone 4, .bankSupplyReturn 8
    ].all (fun (i : Instr) => !i.wf) = true := by decide +kernel

end Sys2Proof.Tests
end

