-- ==== Sys2Proof/Tests/WitnessA.lean ====
section
/-! SUPPORT. For every statement with hypotheses, concrete states and operands that meet them, clause by clause. -/

set_option Elab.async false

namespace Sys2Proof.Tests

open Sys2Proof Sys2Proof.Machine Sys2Proof.Safety

set_option maxRecDepth 4000
set_option linter.unusedVariables false

theorem witness_IdleStepLetsTimePass :
    (∃ (s : State), s.pending = [] ∧ s.mode = 0) ∧
    (∃ (s : State), s.pending = [] ∧ s.mode = 1) ∧
    (∃ (s : State), s.pending = [] ∧ 2 ≤ s.mode ∧ s.running tDomOff = false ∧ s.buf.lost = [] ∧ s.bridge.intake = []) :=
  ⟨⟨hub 0, by decide +kernel⟩,
    ⟨hub 1, by decide +kernel⟩,
    ⟨hub 3, by decide +kernel⟩⟩

theorem witness_ResetLeavesSentinelWithShippedMasks :
    (∃ pg, (pg = 0x19 ∨ pg = 0x5A)) ∧
    (∃ pg, pg ≠ 0x19 ∧ pg ≠ 0x5A ∧ pg ≠ 0x49) :=
  ⟨⟨0x19, by decide +kernel⟩,
    ⟨0, by decide +kernel⟩⟩

theorem witness_MisuseIsJudgedInTheOrderOfTheTable :
    (∃ (s : State) (p : Port) (a v : Nat), a < 2 ^ 24 ∧ s.arrives p = true ∧ a % 4 ≠ 0) ∧
    (∃ (s : State) (p : Port) (a v : Nat), a < 2 ^ 24 ∧ s.arrives p = true ∧ a % 4 = 0 ∧ a < 0x100000 ∧ blockType (a /
      4096) = 0) ∧
    (∃ (s : State) (p : Port) (a v : Nat), a < 2 ^ 24 ∧ s.arrives p = true ∧ a % 4 = 0 ∧ a < 0x100000 ∧ blockType (a /
      4096) ≠ 0 ∧ s.pageOn (a / 4096) = false) ∧
    (∃ (s : State) (p : Port) (a v : Nat), a < 2 ^ 24 ∧ s.arrives p = true ∧ a % 4 = 0 ∧ a < 0x100000 ∧ blockType (a /
      4096) ≠ 0 ∧ s.pageOn (a / 4096) = true ∧ a % 4096 = 0xC ∧ s.isOwner p = false) ∧
    (∃ (s : State) (p : Port) (a v : Nat), a < 2 ^ 24 ∧ s.arrives p = true ∧ a % 4 = 0 ∧ a < 0x100000 ∧ blockType (a /
      4096) ≠ 0 ∧ s.pageOn (a / 4096) = true ∧ a % 4096 ≠ 0xC ∧ s.mayWrite p (a / 4096) = false) ∧
    (∃ (s : State) (p : Port) (a v : Nat), a < 2 ^ 24 ∧ s.arrives p = true ∧ a % 4 = 0 ∧ a < 0x100000 ∧ blockType (a /
      4096) ≠ 0 ∧ s.pageOn (a / 4096) = true ∧ a % 4096 ≠ 0xC ∧ s.mayWrite p (a / 4096) = true ∧ 0x40 ≤ a % 4096 ∧
      s.pageUnit.inReset.contains (a / 4096) = true) ∧
    (∃ (s : State) (p : Port) (a v : Nat), a < 2 ^ 24 ∧ s.arrives p = true ∧ a % 4 = 0 ∧ a < 0x100000 ∧ blockType (a /
      4096) ≠ 0 ∧ s.pageOn (a / 4096) = true ∧ a % 4096 = 0x24 ∧ s.mayWrite p (a / 4096) = true ∧ v ≠ 0x4C4F434B) ∧
    (∃ (s : State) (p : Port) (a v dw be c : Nat), a < 2 ^ 24 ∧ s.arrives p = true ∧ s.hostWaits p true = false ∧ msixPair
      p a dw be = false ∧ s.judge p true a (v % 2 ^ 32) (oneWord dw be) = some c) :=
  ⟨⟨hub 3, .host, 0xFFFFFF, 0, by decide +kernel⟩,
    ⟨hub 3, .host, 0x7000, 0, by decide +kernel⟩,
    ⟨{ hub 3 with pd := [0] }, .host, 0x5000, 0, by decide +kernel⟩,
    ⟨hub 3, .twin, 0xC, 0, by decide +kernel⟩,
    ⟨hub 3, .twin, 0x10, 0, by decide +kernel⟩,
    ⟨{ hub 3 with pageUnit := { inReset := [0x10] } }, .host, 0x10040, 0, by decide +kernel⟩,
    ⟨hub 3, .host, 0x24, 1, by decide +kernel⟩,
    ⟨hub 3, .host, 0x24, 1, 1, 15, 5, by decide +kernel⟩⟩

theorem witness_PageHeaderWritesComplete :
    (∃ (s : State) (p : Port) (pg : Nat), Permitted s p pg 0x24 0x4C4F434B) ∧
    (∃ (s : State) (p : Port) (pg v : Nat), Permitted s p pg 0x18 v) ∧
    (∃ (s : State) (p : Port) (pg v : Nat), Permitted s p pg 0x10 v) ∧
    (∃ (s : State) (p : Port) (pg v : Nat), Permitted s p pg 0x14 v) ∧
    (∃ (s : State) (p : Port) (pg v : Nat), Permitted s p pg 0x20 v ∧ s.locked pg = false) ∧
    (∃ (s : State) (p : Port) (pg v : Nat), Permitted s p pg 0x0C v ∧ s.locked pg = false) ∧
    (∃ (s : State) (p : Port) (v : Nat), Permitted s p 0 0x118 v) :=
  ⟨⟨hub 3, .host, 0x16, by unfold Permitted; decide +kernel⟩,
    ⟨hub 3, .host, 0x10, 5, by unfold Permitted; decide +kernel⟩,
    ⟨(hub 3).wrn 0x10 HDR.INT_STAT_EVENTS 7, .host, 0x10, 5, by unfold Permitted; decide +kernel⟩,
    ⟨hub 3, .host, 0x10, 5, by unfold Permitted; decide +kernel⟩,
    ⟨hub 3, .host, 0x10, 1, by unfold Permitted; decide +kernel⟩,
    ⟨hub 3, .host, 0x10, 0x3F003F, by unfold Permitted; decide +kernel⟩,
    ⟨hub 3, .host, 3, by unfold Permitted; decide +kernel⟩⟩

theorem witness_LockedPageKeepsItsLockableRegisters :
    (∃ (s : State) (p : Port) (pg v : Nat), s.locked pg = true ∧ Permitted s p pg 0x20 v) ∧
    (∃ (s : State) (p : Port) (pg v : Nat), s.locked pg = true ∧ Permitted s p pg 0x0C v) ∧
    (∃ (s : State) (p : Port) (pg : Nat), s.locked pg = true ∧ Permitted s p pg 0x24 0x4C4F434B) :=
  ⟨⟨(hub 3).wrn 0x10 HDR.LOCK_LOCKED 1, .host, 0x10, 1, by unfold Permitted; decide +kernel⟩,
    ⟨(hub 3).wrn 0x10 HDR.LOCK_LOCKED 1, .host, 0x10, 1, by unfold Permitted; decide +kernel⟩,
    ⟨(hub 3).wrn 0x10 HDR.LOCK_LOCKED 1, .host, 0x10, by unfold Permitted; decide +kernel⟩⟩

theorem witness_AssertedSourceLeftByAWriteSendsItsMessage :
    (∃ (s : State) (p : Port) (pg v src : Nat), Permitted s p pg 0x10 v ∧ src ∈ sourcesOf pg) ∧
    (∃ (s : State) (p : Port) (pg v src : Nat), Permitted s p pg 0x14 v ∧ src ∈ sourcesOf pg) :=
  ⟨⟨hub 3, .host, 0x10, 1, 24, by unfold Permitted; decide +kernel⟩,
    ⟨hub 3, .host, 0x10, 1, 24, by unfold Permitted; decide +kernel⟩⟩

theorem witness_PlainWordWritesAndCapturedReadsComplete :
    (∃ (s : State) (p : Port) (v : Nat), Permitted s p 0 0x128 (v % 2 ^ 32) ∧ Settled s) ∧
    (∃ (s : State) (p : Port), Readable s p 4 0x40 ∧ Tbl.find s.pageUnit.hold (holdKey p 0x4040) = none) ∧
    (∃ (s : State) (p : Port) (a v : Nat), a < 0x100000 ∧ s.arrives p = true ∧ s.hostWaits p false = false ∧ s.judge p
      false a 0 true = none ∧ s.rcOf a = none ∧ Tbl.find s.pageUnit.hold (holdKey p a) = some v) ∧
    (∃ (s : State) (p : Port) (a v dw be : Nat), 2 ^ 24 ≤ a) :=
  ⟨⟨hub 3, .host, 5, by unfold Permitted Settled; decide +kernel⟩,
    ⟨hub 3, .host, by unfold Readable; decide +kernel⟩,
    ⟨{ hub 3 with pageUnit := { hold := [(holdKey .host 0x4044, 9)] } }, .host, 0x4044, 9, by decide +kernel⟩,
    ⟨hub 3, .host, 2 ^ 24, 0, 1, 15, by decide +kernel⟩⟩

theorem witness_SoftResetAndFenceOfABlockComplete :
    (∃ (s : State) (p : Port) (pg : Nat), (pg = 0x05 ∨ pg = 0x06 ∨ pg = 0x10 ∨ pg = 0x16) ∧ Settled s ∧ Tbl.rising s.regs =
      true ∧ s.pageUnit.inReset.contains pg = false ∧ s.rdn pg HDR.BLK_CTRL_ENABLE ≤ 1 ∧ s.rdn pg HDR.BLK_CTRL_FENCE_REQ ≤
      1 ∧ Permitted s p pg 4 (s.rdn pg HDR.BLK_CTRL_ENABLE + 2 + 4 * s.rdn pg HDR.BLK_CTRL_FENCE_REQ)) ∧
    (∃ (s : State) (pg : Nat), s.pageUnit.inReset.contains pg = true ∧ pg ≠ 0x08 ∧ pg ≠ 0x0A ∧ pg ≠ 0x0C ∧ pg ≠ 0x48) ∧
    (∃ (s : State) (p : Port) (pg : Nat), pg ≠ 0x48 ∧ pg ≠ 0x4C ∧ pg ≠ 0x4D ∧ Settled s ∧ (s.enabled pg = true ∨ (pg ≠ 0x08
      ∧ pg ≠ 0x0A ∧ pg ≠ 0x0C)) ∧ s.rdn pg HDR.BLK_CTRL_ENABLE ≤ 1 ∧ Permitted s p pg 4 (s.rdn pg HDR.BLK_CTRL_ENABLE + 4))
      ∧
    (∃ (s : State) (pg : Nat), blockType pg ≠ 0 ∧ s.pageOn pg = true ∧ s.fenceReq pg = true ∧ s.pageUnit.swFence.contains
      pg = false ∧ Settled s ∧ (pg = 0x05 ∨ pg = 0x06 ∨ pg = 0x15 ∨ pg = 0x18 ∨ pg = 0x19)) :=
  ⟨⟨hub 3, .host, 0x10, by unfold Settled Permitted; decide +kernel⟩,
    ⟨{ hub 3 with pageUnit := { inReset := [0x10] } }, 0x10, by decide +kernel⟩,
    ⟨hub 3, .host, 0x10, by unfold Settled Permitted; decide +kernel⟩,
    ⟨(hub 3).wrn 0x15 HDR.BLK_CTRL_FENCE_REQ 1, 0x15, by unfold Settled; decide +kernel⟩⟩

theorem witness_PcieFunctionCommandsComplete :
    (∃ (s : State) (width speed : Nat), s.pdOn 6 = true ∧ s.pcie.perst = false ∧ s.pcie.up = false) ∧
    (∃ (s : State), s.pcie.up = true) ∧
    (∃ (s : State), s.pdOn 6 = true ∧ s.pcie.up = true ∧ s.pcie.d3hot = false) ∧
    (∃ (s : State), s.pcie.d3hot = true) ∧
    (∃ (s : State) (enable fmask : Bool), s.pdOn 6 = true ∧ s.msix.pba = []) ∧
    (∃ (s : State) (v : Nat) (e m : Bool), s.pdOn 6 = true ∧ v < 64 ∧ s.msix.pba = [] ∧ s.arrives .host = true ∧
      s.hostWaits .host true = false) ∧
    (∃ (s : State), s.pdOn 6 = true ∧ s.pcie.perst = false) :=
  ⟨⟨hub 3, 4, 3, by decide +kernel⟩,
    ⟨{ hub 3 with pcie := { up := true } }, by decide +kernel⟩,
    ⟨{ hub 3 with pcie := { up := true } }, by decide +kernel⟩,
    ⟨{ hub 3 with pcie := { up := true, d3hot := true } }, by decide +kernel⟩,
    ⟨hub 3, true, false, by decide +kernel⟩,
    ⟨hub 3, 63, true, false, by decide +kernel⟩,
    ⟨hub 3, by decide +kernel⟩⟩

theorem witness_RegisterTableStaysInOrder :
    (∃ (s : State) (n : Nat) (f : Fld) (v i : Nat), ∃ m g j, Tbl.rising s.regs = true ∧ Fld.key g m j ≠ f.key n i) :=
  ⟨hub 3, 0, DEVICE.MODE_STAT_MODE, 2, 0, 0, DEVICE.START_STAT_STEP, 0, by decide +kernel⟩

theorem witness_SharedReferenceCommandsComplete :
    (∃ (s : State), s.acting = true ∧ s.running tBeacon = false) ∧
    (∃ (s : State) (d : Side) (node role : Nat), node ≠ s.nodeId ∧ s.acting = false) ∧
    (∃ (s : State) (role : Nat), s.acting = true) ∧
    (∃ (s : State), s.due tBeaconTmo = true ∧ s.acting = false ∧ (s.rd CLOCKS.REF_CFG_ROLE = 2 ∨ (s.rd CLOCKS.REF_CFG_ROLE
      = 1 ∧ s.ref.stay = false))) ∧
    (∃ (s : State) (d : Side) (node role : Nat), s.acting = false) ∧
    (∃ (s : State) (p : Port), Permitted s p 2 0x84 1 ∧ s.rd CLOCKS.REF_CFG_ROLE ≠ 0) ∧
    (∃ (s : State) (p : Port), Permitted s p 2 0x84 1 ∧ s.rd CLOCKS.REF_CFG_ROLE = 0) ∧
    (∃ (s : State) (p : Port), Permitted s p 2 0x84 2 ∧ s.acting = true) ∧
    (∃ (s : State), s.acting = false ∧ s.rd CLOCKS.REF_STAT_SOURCE = 0) ∧
    (∃ (s : State), s.ref.edges = none ∧ s.pdOn 2 = true) ∧
    (∃ (s : State) (src : Nat) (ssc : Option (Nat × Nat × Nat)), s.acting = false ∧ src < s.rd CLOCKS.REF_STAT_SOURCE ∧
      s.sourceReady src = true) :=
  ⟨⟨(hub 3).wr CLOCKS.REF_STAT_ACTING_MASTER 1, by decide +kernel⟩,
    ⟨hub 3, .east, 7, 1, by decide +kernel⟩,
    ⟨(hub 3).wr CLOCKS.REF_STAT_ACTING_MASTER 1, 2, by decide +kernel⟩,
    ⟨ended ((hub 3).wr CLOCKS.REF_CFG_ROLE 2) tBeaconTmo, by decide +kernel⟩,
    ⟨(hub 3).setLinkState (.ring .west) 8, .east, 7, 2, by decide +kernel⟩,
    ⟨(hub 3).wr CLOCKS.REF_CFG_ROLE 2, .host, by unfold Permitted; decide +kernel⟩,
    ⟨(hub 3).wr CLOCKS.REF_CFG_ROLE 0, .host, by unfold Permitted; decide +kernel⟩,
    ⟨(hub 3).wr CLOCKS.REF_STAT_ACTING_MASTER 1, .host, by unfold Permitted; decide +kernel⟩,
    ⟨(hub 3).wr CLOCKS.REF_STAT_SOURCE 0, by decide +kernel⟩,
    ⟨(hub 3).wr CLOCKS.REF_STAT_SOURCE 2, by decide +kernel⟩,
    ⟨{ (hub 3).wr CLOCKS.REF_STAT_SOURCE 2 with ref := { edges := some (ms 999999) } }, 0, none, by decide +kernel⟩⟩

theorem witness_LinkBringUpTakesTheStepsInOrder :
    (∃ (s : State) (l : Link), s.linkAllowed l = true ∧ (((s.linkState l = 0 ∨ (s.linkState l = 9 ∧ s.running (tPhy l) =
      false)) ∧ s.autoTrain l = true) ∨ s.linkState l = 1)) ∧
    (∃ (s : State) (l : Link), s.linkState l = 2) ∧
    (∃ (s : State) (d : Side) (ffe0 ffe1 : Nat), s.linkState (.ring d) = 3 ∧ s.due (tPhy (.ring d)) = false) ∧
    (∃ (s : State) (ffe0 ffe1 : Nat), s.linkState .twin = 3 ∧ s.due (tPhy .twin) = false) ∧
    (∃ (s : State) (d : Side) (one : Bool), s.linkState (.ring d) = 3 ∧ s.due (tPhy (.ring d)) = true) ∧
    (∃ (s : State) (l : Link) (ctle0 ctle1 eye0 eye1 : Nat) (taps : List Nat), s.linkState l = 4) ∧
    (∃ (s : State) (l : Link) (good : Nat), s.linkState l = 5 ∧ 4 ≤ good) ∧
    (∃ (s : State) (d : Side) (skew : Nat), s.linkState (.ring d) = 6) ∧
    (∃ (s : State) (d : Side) (peer : Nat), s.linkState (.ring d) = 7 ∧ s.due (tQual (.ring d)) = true ∧ (s.phyOf (.ring
      d)).farReady = false) ∧
    (∃ (s : State), s.linkState .twin = 7 ∧ s.due (tQual .twin) = true ∧ s.isTwin = true) ∧
    (∃ (s : State) (l : Link), s.linkState l = 7 ∧ (s.phyOf l).qualified = true ∧ s.portFenced l.code = false) :=
  ⟨⟨{ hub 3 with byp := { ports := true } }, .ring .east, by decide +kernel⟩,
    ⟨(hub 3).setLinkState (.ring .east) 2, .ring .east, by decide +kernel⟩,
    ⟨(hub 3).setLinkState (.ring .west) 3, .west, 9, 15, by decide +kernel⟩,
    ⟨(hub 3 1).setLinkState .twin 3, 9, 15, by decide +kernel⟩,
    ⟨ended ((hub 3).setLinkState (.ring .east) 3) (tPhy (.ring .east)), .east, true, by decide +kernel⟩,
    ⟨(hub 3).setLinkState (.ring .east) 4, .ring .east, 1, 2, 300, 65535, [1, 2, 3], by decide +kernel⟩,
    ⟨(hub 3).setLinkState (.ring .west) 5, .ring .west, 4, by decide +kernel⟩,
    ⟨(hub 3).setLinkState (.ring .west) 6, .west, 255, by decide +kernel⟩,
    ⟨ended ((hub 3).setLinkState (.ring .west) 7) (tQual (.ring .west)), .west, 1, by decide +kernel⟩,
    ⟨ended ((hub 3 1).setLinkState .twin 7) (tQual .twin), by decide +kernel⟩,
    ⟨{ (hub 3).setLinkState (.ring .east) 7 with phy := [(0, { qualified := true, farReady := true })] }, .ring .east,
      by decide +kernel⟩⟩

theorem witness_LinkDownAndRetrainComplete :
    (∃ (s : State) (d : Side) (cause skew : Nat), s.linkState (.ring d) = 8 ∧ (s.out d.code).down = false ∧ (cause = 4 →
      s.skewed (.ring d) skew = true)) ∧
    (∃ (s : State) (cause skew : Nat), s.linkState .twin = 8 ∧ cause ≠ 4 ∧ ¬(cause = 5 ∧ s.role = 2)) ∧
    (∃ (s : State) (d : Side) (lane : Nat), s.linkState (.ring d) = 8 ∧ lane < 2 ∧ ((s.rollWindow (.ring d)).phyOf (.ring
      d)).winCnt < s.uncLimit (.ring d)) ∧
    (∃ (s : State) (l : Link) (lane : Nat) (follows : Bool), s.linkState l = 7) ∧
    (∃ (s : State) (l : Link) (a : Nat), Tbl.find s.timers (tUnc l) = some a ∧ a ≤ s.mono) ∧
    (∃ (s : State) (d : Side) (lane height : Nat), lane < 2 ∧ height < 2 ^ 16 ∧ 5 ≤ s.linkState (.ring d) ∧ s.linkState
      (.ring d) ≠ 9 ∧ (lane = 1 → s.lane1On d = true) ∧ s.rdn d.n PHY.EYE_MIN_HEIGHT ≤ s.rdn d.n PHY.EYE_HEIGHT lane ∧
      height < s.rdn d.n PHY.EYE_MIN_HEIGHT) ∧
    (∃ (s : State) (lane height : Nat), 5 ≤ s.linkState .twin ∧ s.linkState .twin ≠ 9) ∧
    (∃ (s : State) (p : Port) (l : Link) (v : Nat), Permitted s p (phyPage l) 0x40 v ∧ s.linkAllowed l = true ∧ s.linkState
      l = 8) ∧
    (∃ (s : State) (l : Link), s.linkState l = 9 ∧ s.due (tPhy l) = true ∧ s.linkAllowed l = true ∧ s.autoTrain l = true)
      :=
  ⟨⟨(hub 3).setLinkState (.ring .east) 8, .east, 4, 3, by decide +kernel⟩,
    ⟨(hub 3 1).setLinkState .twin 8, 1, 0, by decide +kernel⟩,
    ⟨(hub 3).setLinkState (.ring .east) 8, .east, 1, by decide +kernel⟩,
    ⟨(hub 3).setLinkState (.ring .east) 7, .ring .east, 0, true, by decide +kernel⟩,
    ⟨ended (hub 3) (tUnc (.ring .east)), .ring .east, 0, by decide +kernel⟩,
    ⟨((hub 3).setLinkState (.ring .west) 8).wrn 2 PHY.EYE_HEIGHT 96 0, .west, 0, 95, by decide +kernel⟩,
    ⟨(hub 3 1).setLinkState .twin 5, 0, 95, by decide +kernel⟩,
    ⟨{ (hub 3).setLinkState (.ring .east) 8 with byp := { ports := true } }, .host, .ring .east, 1,
      by unfold Permitted; decide +kernel⟩,
    ⟨ended { (hub 3).setLinkState (.ring .east) 9 with byp := { ports := true } } (tPhy (.ring .east)), .ring .east,
      by decide +kernel⟩⟩

theorem witness_LaneShedAndJoinComplete :
    (∃ (s : State), s.acting = true ∧ s.running tBallot = false) ∧
    (∃ (s : State) (d : Side) (ready : Bool), s.acting = true ∧ (s.lane d).sched = none ∧ s.laneMode (.ring d) = 2) ∧
    (∃ (s : State) (d : Side) (shed : Bool), s.acting = true ∧ (s.lane d).sched = none ∧ s.laneMode (.ring d) = 1) ∧
    (∃ (s : State) (d : Side) (at_ : Nat), (s.lane d).sched = some (false, at_) ∧ at_ ≤ s.fab + fns 20000) ∧
    (∃ (s : State) (d : Side) (at_ : Nat), (s.lane d).sched = some (false, at_) ∧ at_ ≤ s.fab ∧ (s.lane d).sentBlock =
      false) ∧
    (∃ (s : State) (d : Side), s.laneMode (.ring d) = 1 ∧ (s.lane d).prep = false ∧ (s.lane d).asked = true) ∧
    (∃ (s : State) (d : Side), (s.lane d).prep = true ∧ s.due (tJoin d) = false) ∧
    (∃ (s : State) (d : Side) (at_ : Nat), (s.lane d).sched = some (true, at_) ∧ at_ ≤ s.fab ∧ (s.lane d).sentBlock =
      false) ∧
    (∃ (s : State) (d : Side), (s.lane d).prep = true ∧ (s.lane d).ready = false ∧ s.due (tJoin d) = true) :=
  ⟨⟨(hub 3).wr CLOCKS.REF_STAT_ACTING_MASTER 1, by decide +kernel⟩,
    ⟨((hub 3).wr CLOCKS.REF_STAT_ACTING_MASTER 1).wrn 0 MAC.LANE_STAT_MODE 2, .east, true, by decide +kernel⟩,
    ⟨((hub 3).wr CLOCKS.REF_STAT_ACTING_MASTER 1).wrn 2 MAC.LANE_STAT_MODE 1, .west, false, by decide +kernel⟩,
    ⟨{ hub 3 with lanes := [(0, { sched := some (false, fns 1000020123) })] }, .east, fns 1000020123, by decide +kernel⟩,
    ⟨{ hub 3 with lanes := [(0, { sched := some (false, fns 1000000123) })] }, .east, fns 1000000123, by decide +kernel⟩,
    ⟨{ (hub 3).wrn 0 MAC.LANE_STAT_MODE 1 with lanes := [(0, { asked := true })] }, .east, by decide +kernel⟩,
    ⟨{ hub 3 with lanes := [(0, { prep := true })], timers := [(tJoin .east, ms 1000001)] }, .east, by decide +kernel⟩,
    ⟨{ hub 3 with lanes := [(0, { sched := some (true, fns 1000000123) })] }, .east, fns 1000000123, by decide +kernel⟩,
    ⟨ended { hub 3 with lanes := [(0, { prep := true })] } (tJoin .east), .east, by decide +kernel⟩⟩

theorem witness_StreamWindowJudgesAsTheTableSays :
    (∃ (s : State) (node cls q : Nat) (e : StreamEnt), q < 65536 ∧ e.high < 65536 ∧ e.map < 2 ^ 64 ∧ s.stream node cls =
      some e ∧ s.streamFresh e = true ∧ (1 ≤ ((q + 65536 - e.high) % 65536) ∧ ((q + 65536 - e.high) % 65536) ≤ 32767)) ∧
    (∃ (s : State) (node cls q : Nat) (e : StreamEnt), q < 65536 ∧ e.high < 65536 ∧ e.map < 2 ^ 64 ∧ s.stream node cls =
      some e ∧ s.streamFresh e = true ∧ ¬(1 ≤ ((q + 65536 - e.high) % 65536) ∧ ((q + 65536 - e.high) % 65536) ≤ 32767) ∧
      ((e.high + 65536 - q) % 65536) ≤ 63 ∧ e.map.testBit ((e.high + 65536 - q) % 65536) = true) ∧
    (∃ (s : State) (node cls q : Nat) (e : StreamEnt), q < 65536 ∧ e.high < 65536 ∧ e.map < 2 ^ 64 ∧ s.stream node cls =
      some e ∧ s.streamFresh e = true ∧ ¬(1 ≤ ((q + 65536 - e.high) % 65536) ∧ ((q + 65536 - e.high) % 65536) ≤ 32767) ∧
      ((e.high + 65536 - q) % 65536) ≤ 63 ∧ e.map.testBit ((e.high + 65536 - q) % 65536) = false) ∧
    (∃ (s : State) (node cls q : Nat) (e : StreamEnt), q < 65536 ∧ e.high < 65536 ∧ e.map < 2 ^ 64 ∧ s.stream node cls =
      some e ∧ s.streamFresh e = true ∧ ¬(1 ≤ ((q + 65536 - e.high) % 65536) ∧ ((q + 65536 - e.high) % 65536) ≤ 32767) ∧ 63
      < ((e.high + 65536 - q) % 65536)) ∧
    (∃ (s : State) (d : Side) (f g : Frame) (b : RxBound) (m : Option (Nat × Nat × Nat × Nat)), s.judgeSeq (nodeOf f.src)
      f.tc f.seq = .duplicate) ∧
    (∃ (s : State) (d : Side) (f g : Frame) (b : RxBound) (m : Option (Nat × Nat × Nat × Nat)), s.judgeSeq (nodeOf f.src)
      f.tc f.seq = .stale) :=
  ⟨⟨{ hub 3 with win := [{ node := 7, cls := 2, high := 65535, map := 5, last := fns 1000000000 }] }, 7, 2, 0,
    { node := 7, cls := 2, high := 65535, map := 5, last := fns 1000000000 }, by decide +kernel⟩,
    ⟨{ hub 3 with win := [{ node := 7, cls := 2, high := 65535, map := 5, last := fns 1000000000 }] }, 7, 2, 65535,
      { node := 7, cls := 2, high := 65535, map := 5, last := fns 1000000000 }, by decide +kernel⟩,
    ⟨{ hub 3 with win := [{ node := 7, cls := 2, high := 65535, map := 5, last := fns 1000000000 }] }, 7, 2, 65534,
      { node := 7, cls := 2, high := 65535, map := 5, last := fns 1000000000 }, by decide +kernel⟩,
    ⟨{ hub 3 with win := [{ node := 7, cls := 2, high := 65535, map := 5, last := fns 1000000000 }] }, 7, 2, 65471,
      { node := 7, cls := 2, high := 65535, map := 5, last := fns 1000000000 }, by decide +kernel⟩,
    ⟨{ hub 3 with win := [{ node := 7, cls := 2, high := 65535, map := 5, last := fns 1000000000 }] }, .east,
      { tc := 2, src := 7 * 8192, seq := 65535 }, {}, .absent, none, by decide +kernel⟩,
    ⟨{ hub 3 with win := [{ node := 7, cls := 2, high := 65535, map := 5, last := fns 1000000000 }] }, .east,
      { tc := 2, src := 7 * 8192, seq := 60000 }, {}, .answer, none, by decide +kernel⟩⟩

theorem witness_AcceptedNumberIsADuplicateAfterwards :
    (∃ (s : State) (node cls q : Nat), q < 65536 ∧ (∀ e, s.stream node cls = some e → e.high < 65536) ∧ s.judgeSeq node cls
      q = .accept) ∧
    (∃ (s : State) (node cls q : Nat), q < 65536 ∧ (∀ e, s.stream node cls = some e → e.high < 65536) ∧ s.stream node cls =
      none ∧ 4096 ≤ (s.win.filter s.streamFresh).length) :=
  ⟨⟨hub 3, 7, 2, 65535, ⟨by decide, absent (by decide +kernel), by decide +kernel⟩⟩,
    ⟨{ hub 3 with win := List.replicate 4096 { node := 7, cls := 3, high := 1, map := 1, last := fns 1000000000 } }, 9, 2,
      1, ⟨by decide, absent (by decide +kernel), by decide +kernel, by decide +kernel⟩⟩⟩

theorem witness_FrameArrivalIsSortedByTheFirstMatchingRow :
    (∃ (s : State) (d : Side) (f : Frame) (bad : Bool) (stamp : Nat), s.linkState (.ring d) = 8 ∧ s.live = true ∧ (bad =
      true ∨ f.hchk ≠ f.headCheck)) ∧
    (∃ (s : State) (d : Side) (f : Frame) (bad : Bool) (stamp : Nat), s.linkState (.ring d) = 8 ∧ s.live = true ∧ bad =
      false ∧ f.hchk = f.headCheck ∧ f.badHeader = true) ∧
    (∃ (s : State) (d : Side) (f : Frame) (bad : Bool) (stamp : Nat), s.linkState (.ring d) = 8 ∧ s.live = true ∧ bad =
      false ∧ f.hchk = f.headCheck ∧ f.badHeader = false ∧ f.tc = 7) ∧
    (∃ (s : State) (d : Side) (f : Frame) (bad : Bool) (stamp : Nat), s.linkState (.ring d) = 8 ∧ s.live = true ∧ bad =
      false ∧ f.hchk = f.headCheck ∧ f.badHeader = false ∧ f.tc ≠ 7 ∧ f.entry = s.station) ∧
    (∃ (s : State) (d : Side) (f : Frame) (bad : Bool) (stamp : Nat), s.linkState (.ring d) = 8 ∧ s.live = true ∧ bad =
      false ∧ f.hchk = f.headCheck ∧ f.badHeader = false ∧ f.tc ≠ 7 ∧ f.entry ≠ s.station ∧ nodeOf f.dest = s.nodeId ∧
      f.resp = false ∧ f.refuse = false ∧ localOf f.dest ≠ 0 ∧ s.destPort f = none) ∧
    (∃ (s : State) (d : Side) (f : Frame) (bad : Bool) (stamp : Nat), s.linkState (.ring d) = 8 ∧ s.live = true ∧ bad =
      false ∧ f.hchk = f.headCheck ∧ f.badHeader = false ∧ f.tc ≠ 7 ∧ f.entry ≠ s.station ∧ nodeOf f.dest ≠ s.nodeId ∧
      s.role ≠ 2 ∧ f.hops = 0) ∧
    (∃ (s : State) (d : Side) (f : Frame) (bad : Bool) (stamp : Nat), s.linkState (.ring d) = 8 ∧ s.live = true ∧ bad =
      false ∧ f.hchk = f.headCheck ∧ f.badHeader = false ∧ f.tc ≠ 7 ∧ f.entry ≠ s.station ∧ nodeOf f.dest ≠ s.nodeId ∧
      s.role ≠ 2 ∧ f.hops ≠ 0 ∧ f.tc ≤ 3 ∧ s.forwards d.opp = true ∧ s.outUp d.opp = true ∧ (s.txOf d.opp).cur = .idle) :=
  ⟨⟨(hub 3).setLinkState (.ring .east) 8, .east, {}, true, 5, by decide +kernel⟩,
    ⟨(hub 3).setLinkState (.ring .east) 8, .east, headed { ver := 2 }, false, 5, by decide +kernel⟩,
    ⟨(hub 3).setLinkState (.ring .east) 8, .east, headed { tc := 7, dest := 9 * 8192 }, false, 5, by decide +kernel⟩,
    ⟨(hub 3).setLinkState (.ring .east) 8, .east, headed { tc := 1, dest := 9 * 8192, entry := 5 }, false, 5,
      by decide +kernel⟩,
    ⟨(hub 3).setLinkState (.ring .east) 8, .east, headed { tc := 4, dest := 5 * 8192 + 8000, entry := 6 }, false, 5,
      by decide +kernel⟩,
    ⟨(hub 3).setLinkState (.ring .east) 8, .east, headed { tc := 1, dest := 9 * 8192, entry := 6, hops := 0 }, false, 5,
      by decide +kernel⟩,
    ⟨{ ((hub 3).setLinkState (.ring .east) 8).setLinkState (.ring .west) 8 with tx := [(1, { silent := false })] }, .east,
      headed { tc := 1, dest := 9 * 8192, entry := 6, hops := 3 }, false, 5, by decide +kernel⟩⟩

theorem witness_FrameEndRelayAndInsertionComplete :
    (∃ (s : State) (d : Side) (e c : Bool) (n : Nat), s.flt.todo = [] ∧ (s.rxOf d).kind = .skip) ∧
    (∃ (s : State) (d : Side) (c : Bool) (n : Nat), s.flt.todo = [] ∧ (s.rxOf d).kind = .absent) ∧
    (∃ (s : State) (d : Side) (f : Frame), s.flt.todo = [] ∧ (s.rxOf d).cur = f ∧ (s.rxOf d).kind = .answer ∧ (s.rxOf
      d).errored = false ∧ f.sec = false ∧ f.crc = f.trailer ∧ bitOf (s.rd GCM.CFG_RX_REQ) f.tc = false ∧ s.judgeSeq
      (nodeOf f.src) f.tc f.seq = .accept) ∧
    (∃ (s : State) (f : Frame) (stamp : Nat), s.role = 2 ∧ s.linkState .twin = 8 ∧ s.flt.todo = [] ∧ s.rd
      TRANSIT.HOP_CFG_XING_MAX < f.xings + 1) ∧
    (∃ (s : State) (f : Frame) (stamp : Nat), s.role = 2 ∧ s.linkState .twin = 8 ∧ s.flt.todo = [] ∧ f.xings + 1 ≤ s.rd
      TRANSIT.HOP_CFG_XING_MAX ∧ (∃ as, s.admitCopy (voqIdx 2 0 f.tc) (cellsOf f) = .ok as)) ∧
    (∃ (s : State) (d : Side), s.fab / fns (s.rdn d.n MAC.INS_PERIOD_PERIOD * 100) ≠ (s.txOf d).started / fns (s.rdn d.n
      MAC.INS_PERIOD_PERIOD * 100)) ∧
    (∃ (s : State) (d : Side) (m : Maint) (rest : List Maint) (ea : Option Nat) (vis : Nat), s.outUp d = true ∧ (s.txOf
      d).cur = .idle ∧ (s.txOf d).maint = m :: rest) ∧
    (∃ (s : State) (d : Side) (f : Frame) (how : Nat) (rest : List (Frame × Nat)) (ea : Option Nat) (vis : Nat), s.outUp d
      = true ∧ (s.txOf d).cur = .idle ∧ (s.txOf d).maint = [] ∧ (s.out d.code).grant = none ∧ s.requesters d.code
      (s.classes3 d) = [] ∧ s.outOpen d.code = true ∧ s.paused d = false ∧ (s.txOf d).tbuf = (f, how) :: rest ∧ s.gateOpen
      d f.statedLen false ea vis = true) ∧
    (∃ (s : State) (d : Side) (v : Nat) (c : Copy) (rest : List Copy) (ea : Option Nat) (vis : Nat), s.outUp d = true ∧
      (s.txOf d).cur = .idle ∧ (s.txOf d).maint = [] ∧ (s.out d.code).grant = some v ∧ s.paused d = false ∧ (s.voq v).q = c
      :: rest ∧ ((s.classes3 d).contains (clsOf v) = true ∨ ((s.txOf d).tbuf = [] ∧ s.requesters d.code (s.classes3 d) =
      [])) ∧ c.launchAt = none ∧ s.gateOpen d c.frame.statedLen false ea vis = true) :=
  ⟨⟨{ hub 3 with rx := [(0, { kind := .skip })] }, .east, true, true, 100, by decide +kernel⟩,
    ⟨{ hub 3 with rx := [(0, { kind := .absent })] }, .east, true, 100, by decide +kernel⟩,
    ⟨{ hub 3 with rx := [(0, { cur := sealed_ { tc := 4, src := 9 * 8192, dest := 5 * 8192 + 1, resp := true }, kind := .answer })] },
      .east, sealed_ { tc := 4, src := 9 * 8192, dest := 5 * 8192 + 1, resp := true }, by decide +kernel⟩,
    ⟨(hub 3 2).setLinkState .twin 8, { xings := 15 }, 3, by decide +kernel⟩,
    ⟨(hub 3 2).setLinkState .twin 8, { xings := 0, dest := 9 * 8192, tc := 2 }, 3,
      by refine ⟨?_, ?_, ?_, ?_, ⟨(1, 0), ?_⟩⟩ <;> decide +kernel⟩,
    ⟨hub 3, .east, by decide +kernel⟩,
    ⟨{ (hub 3).setLinkState (.ring .east) 8 with tx := [(0, { silent := false, maint := [.laneReady 0] })] }, .east,
      .laneReady 0, [], none, 4096, by decide +kernel⟩,
    ⟨{ (hub 3).setLinkState (.ring .east) 8 with tx := [(0, { silent := false, tbuf := [({ tc := 1 }, 0)] })] }, .east,
      { tc := 1 }, 0, [], none, 4096, by decide +kernel⟩,
    ⟨{ (hub 3).setLinkState (.ring .east) 8 with tx := [(0, { silent := false })], outs := [(0, { grant := some 0 })], voqs := [(0, { q := [{ frame := { tc := 1 }, cells := [0], a := 1, s := 0 }] })] },
      .east, 0, { frame := { tc := 1 }, cells := [0], a := 1, s := 0 }, [], none, 4096, by decide +kernel⟩⟩

theorem witness_BypassCommandsComplete :
    (∃ (s : State) (o : Side) (kind : Nat), s.flt.todo = [] ∧ s.byp.high = true ∧ s.mode ≠ 5 ∧ kind < 4 ∧ s.flag
      TRANSIT.CMP_STAT_VALID = false) ∧
    (∃ (s : State) (p : Port), Permitted s p 0x0E 0x48 1 ∧ s.byp.entered = true ∧ s.byp.high = true ∧ s.flag
      TRANSIT.BYP_CTRL_FORCE = false) ∧
    (∃ (s : State) (p : Port), Permitted s p 0x0E 0x48 2 ∧ bitOf (s.rdn 0x0E HDR.FLT_STAT_CHECKERS) 0 = false ∧ s.flag
      TRANSIT.BYP_CTRL_FORCE = false ∧ s.byp.entered = true ∧ s.byp.waiting = false) ∧
    (∃ (s : State) (p : Port), Permitted s p 0x0E 0x48 2 ∧ (bitOf (s.rdn 0x0E HDR.FLT_STAT_CHECKERS) 0 = true ∨ s.flag
      TRANSIT.BYP_CTRL_FORCE = true ∨ s.byp.entered = false)) ∧
    (∃ (s : State), s.byp.waiting = true ∧ s.due tRelay = true ∧ s.isTwin = false ∧ s.byp.startup = false) :=
  ⟨⟨{ hub 3 with byp := { high := true } }, .east, 3, by decide +kernel⟩,
    ⟨{ hub 3 with byp := { entered := true, high := true } }, .host, by unfold Permitted; decide +kernel⟩,
    ⟨{ hub 3 with byp := { entered := true } }, .host, by unfold Permitted; decide +kernel⟩,
    ⟨{ hub 3 with byp := { entered := false } }, .host, by unfold Permitted; decide +kernel⟩,
    ⟨ended { hub 3 with byp := { entered := true, high := true, waiting := true, startup := false } } tRelay,
      by decide +kernel⟩⟩

end Sys2Proof.Tests
end

