-- ==== Sys2Proof/Tests/WitnessB.lean ====
section
/-! SUPPORT. For every statement with hypotheses, concrete states and operands that meet them, clause by clause. -/

set_option Elab.async false

namespace Sys2Proof.Tests

open Sys2Proof Sys2Proof.Machine Sys2Proof.Safety

set_option maxRecDepth 4000
set_option linter.unusedVariables false

theorem witness_SwitchCoreCommandsComplete :
    (∃ (s : State) (inp p : Nat) (f : Frame), 3 ≤ inp ∧ inp ≤ 7 ∧ s.live = true ∧ s.flt.todo = [] ∧ nodeOf f.dest =
      s.nodeId ∧ localOf f.dest = 0 ∧ s.destPort (freshFrame f) = some p ∧ p ≠ inp ∧ (∃ as, s.admitCopy (voqIdx inp p f.tc)
      (cellsOf (freshFrame f)) = .ok as)) ∧
    (∃ (s : State) (inp : Nat) (f : Frame), 3 ≤ inp ∧ inp ≤ 7 ∧ s.live = true ∧ s.flt.todo = [] ∧ nodeOf f.dest = s.nodeId
      ∧ localOf f.dest = 0 ∧ s.destPort (freshFrame f) = some inp ∧ s.refusedEarly (voqIdx inp inp f.tc) = none) ∧
    (∃ (s : State) (p v rule : Nat), 2 ≤ p ∧ p ≤ 7 ∧ (s.out p).grant = none ∧ s.outOpen p = true ∧ s.winner p (s.requesters
      p (List.range 8)) = some (v, rule)) ∧
    (∃ (s : State) (p v : Nat) (c : Copy) (rest : List Copy), 3 ≤ p ∧ p ≤ 7 ∧ (s.out p).grant = some v ∧ (s.voq v).q = c ::
      rest) ∧
    (∃ (s : State) (d : Side) (f : Frame) (rest : List (Frame × Nat)), (s.txOf d).cur = .fromBuf ∧ (s.txOf d).tbuf = (f, 0)
      :: rest ∧ ¬(rest = [] ∧ (s.rxOf d.opp).kind = .buffered)) ∧
    (∃ (s : State) (p : Port) (seed : Nat), Permitted s p 0x12 0x5C seed ∧ seed % 2 ^ 32 ≠ 0) ∧
    (∃ (s : State) (p : Port) (seed : Nat), Permitted s p 0x12 0x5C seed ∧ seed % 2 ^ 32 = 0) ∧
    (∃ (s : State) (p c d : Nat), Tbl.find (s.out p).hold c = some d ∧ d + 64 ≤ s.mono ∧ (s.out p).down = true ∧ s.holds p
      = true ∧ s.fenced 0x10 = false ∧ (p ≤ 1 ∨ s.outFenced p = false)) ∧
    (∃ (s : State), s.flag BUFFER.AUDIT_CFG_EN = true ∧ s.pdOn 3 = true ∧ s.running tAudit = false ∧ s.flt.todo = []) ∧
    (∃ (s : State) (b : Nat), b < 16 ∧ s.flt.todo = [] ∧ bitOf (s.rdn 0x11 HDR.FLT_STAT_CHECKERS) b = false ∧ s.bankFenced
      b = false) :=
  ⟨⟨hub 3, 3, 7, { tc := 4, dest := 5 * 8192, src := 5 * 8192 + 9 },
    by refine ⟨?_, ?_, ?_, ?_, ?_, ?_, ?_, ?_, ⟨(0, 1), ?_⟩⟩ <;> decide +kernel⟩,
    ⟨hub 3, 7, { tc := 4, dest := 5 * 8192, src := 5 * 8192 + 9 }, by decide +kernel⟩,
    ⟨{ hub 3 with voqs := [(voqIdx 3 7 4, { q := [{ frame := { tc := 4 }, cells := [0], a := 1, s := 0 }], since := some 0 })] },
      7, voqIdx 3 7 4, 3, by decide +kernel⟩,
    ⟨{ hub 3 with outs := [(7, { grant := some (voqIdx 3 7 4) })], voqs := [(voqIdx 3 7 4, { q := [{ frame := { tc := 4 }, cells := [0], a := 1, s := 0 }], since := some 0 })] },
      7, voqIdx 3 7 4, { frame := { tc := 4 }, cells := [0], a := 1, s := 0 }, [], by decide +kernel⟩,
    ⟨{ hub 3 with tx := [(0, { cur := .fromBuf, tbuf := [({ tc := 1 }, 0)] })] }, .east, { tc := 1 }, [],
      by decide +kernel⟩,
    ⟨hub 3, .host, 7, by unfold Permitted; decide +kernel⟩,
    ⟨hub 3, .host, 2 ^ 32, by unfold Permitted; decide +kernel⟩,
    ⟨{ hub 3 with outs := [(0, { down := true, hold := [(2, 0)] })] }, 0, 2, 0, by decide +kernel⟩,
    ⟨(hub 3).wr BUFFER.AUDIT_CFG_EN 1, by decide +kernel⟩,
    ⟨hub 3, 15, by decide +kernel⟩⟩

theorem witness_QueueMinimumsNeverExceedTheirSum :
    (∃ (s : State) (p : Port) (v : Nat), Permitted s p 0x11 0x44 v ∧ (s.rd BUFFER.MIN_SUM_SUM - s.rd BUFFER.VOQ_MIN_MIN
      (s.rd BUFFER.VOQ_SEL_INDEX) + v % 256) ≤ 8192 ∧ (s.rd BUFFER.VOQ_SEL_INDEX) / 64 ≠ outOf (s.rd BUFFER.VOQ_SEL_INDEX))
      ∧
    (∃ (s : State) (p : Port) (v : Nat), Permitted s p 0x11 0x44 v ∧ (8192 < (s.rd BUFFER.MIN_SUM_SUM - s.rd
      BUFFER.VOQ_MIN_MIN (s.rd BUFFER.VOQ_SEL_INDEX) + v % 256) ∨ (s.rd BUFFER.VOQ_SEL_INDEX) / 64 = outOf (s.rd
      BUFFER.VOQ_SEL_INDEX))) ∧
    (∃ (s : State) (v n : Nat), s.refusedEarly v = none ∧ n = (min n (s.rd BUFFER.VOQ_MIN_MIN v - (s.voq v).minUsed))) ∧
    (∃ (s : State) (v n : Nat), s.refusedEarly v = none ∧ (min n (s.rd BUFFER.VOQ_MIN_MIN v - (s.voq v).minUsed)) < n ∧
      s.rd BUFFER.CEIL_CELLS (clsOf v) < s.rd BUFFER.CLASS_USED_CELLS (clsOf v) + (n - (min n (s.rd BUFFER.VOQ_MIN_MIN v -
      (s.voq v).minUsed)))) ∧
    (∃ (s : State) (v n : Nat), s.refusedEarly v = none ∧ (min n (s.rd BUFFER.VOQ_MIN_MIN v - (s.voq v).minUsed)) < n ∧
      s.rd BUFFER.CLASS_USED_CELLS (clsOf v) + (n - (min n (s.rd BUFFER.VOQ_MIN_MIN v - (s.voq v).minUsed))) ≤ s.rd
      BUFFER.CEIL_CELLS (clsOf v) ∧ 24576 - 1536 * s.fencedBanks - s.rd BUFFER.MIN_SUM_SUM < s.rd
      BUFFER.POOL_STAT_SHARED_USED + (n - (min n (s.rd BUFFER.VOQ_MIN_MIN v - (s.voq v).minUsed)))) ∧
    (∃ (s : State) (v n : Nat), s.refusedEarly v = none ∧ (min n (s.rd BUFFER.VOQ_MIN_MIN v - (s.voq v).minUsed)) < n ∧
      s.rd BUFFER.CLASS_USED_CELLS (clsOf v) + (n - (min n (s.rd BUFFER.VOQ_MIN_MIN v - (s.voq v).minUsed))) ≤ s.rd
      BUFFER.CEIL_CELLS (clsOf v) ∧ s.rd BUFFER.POOL_STAT_SHARED_USED + (n - (min n (s.rd BUFFER.VOQ_MIN_MIN v - (s.voq
      v).minUsed))) ≤ 24576 - 1536 * s.fencedBanks - s.rd BUFFER.MIN_SUM_SUM) :=
  ⟨⟨(hub 3).wr BUFFER.VOQ_SEL_INDEX (voqIdx 3 7 4), .host, 8, by unfold Permitted; decide +kernel⟩,
    ⟨hub 3, .host, 8, by unfold Permitted; decide +kernel⟩,
    ⟨(hub 3).wr BUFFER.VOQ_MIN_MIN 2 (voqIdx 3 7 4), voqIdx 3 7 4, 1, by decide +kernel⟩,
    ⟨(hub 3).wr BUFFER.CEIL_CELLS 0 4, voqIdx 3 7 4, 300, by decide +kernel⟩,
    ⟨(hub 3).wr BUFFER.POOL_STAT_SHARED_USED 24576, voqIdx 3 7 4, 100, by decide +kernel⟩,
    ⟨hub 3, voqIdx 3 7 4, 100, by decide +kernel⟩⟩

theorem witness_TwinHeartbeatsAndOwnershipComplete :
    (∃ (s : State), s.twinUp = true ∧ s.twin.out = [] ∧ s.running tHeartbeat = false) ∧
    (∃ (s : State) (h : Heartbeat), s.twinUp = true ∧ (h.safe = false ∨ h.release.isSome = true) ∧ s.twin.req = false ∧
      s.twinRole ≠ 3) ∧
    (∃ (s : State) (h : Heartbeat), s.twinUp = true ∧ h.safe = true ∧ h.release = none ∧ s.twin.lost = false) ∧
    (∃ (s : State), s.due tHbTmo = true ∧ s.isTwin = true ∧ s.twin.lost = false ∧ s.twin.store = none) ∧
    (∃ (s : State), s.due tAlone = true ∧ s.twin.req = true ∧ s.twin.nextRole = 0 ∧ s.flag TWIN.STAT_OWN_IN = false) ∧
    (∃ (s : State), s.due tAlone = true ∧ s.twin.req = true ∧ s.twin.nextRole = 0 ∧ s.flag TWIN.STAT_OWN_IN = true) ∧
    (∃ (s : State), s.isTwin = true ∧ s.flag TWIN.STAT_OWN_IN = false) ∧
    (∃ (s : State), s.isTwin = true ∧ s.flag TWIN.STAT_OWN_IN = true) ∧
    (∃ (s : State) (m : Nat), s.twin.bothAt = some m ∧ m + ns 100 ≤ s.mono ∧ s.mode = 5 ∧ s.modeU.want = none ∧ s.isTwin =
      true ∧ s.flt.todo = []) ∧
    (∃ (s : State), s.twinUp = true ∧ s.flag TWIN.STAT_OWN_IN = false ∧ s.twin.ownInLow + us 1 ≤ s.mono ∧ (s.rd
      TWIN.STAT_PEER_ROLE = 1 ∨ s.rd TWIN.STAT_PEER_ROLE = 3) ∧ s.twin.announced = none ∧ s.flt.todo = [] ∧ bitOf (s.rdn
      0x0D HDR.FLT_STAT_CHECKERS) 1 = false) ∧
    (∃ (s : State) (n at_ kind : Nat), s.twin.release = some (n, at_, kind) ∧ at_ ≤ s.fabNs + s.settleNs + 100 ∧ (kind ≠ 0
      ∨ s.twinRole = 1) ∧ s.flag TWIN.STAT_OWN_OUT = true) :=
  ⟨⟨(hub 3 1).setLinkState .twin 8, by decide +kernel⟩,
    ⟨((hub 3 1).setLinkState .twin 8).wr TWIN.STAT_ROLE 1, { role := 2 }, by decide +kernel⟩,
    ⟨((hub 3 1).setLinkState .twin 8).wr TWIN.STAT_ROLE 2, { role := 1, safe := true }, by decide +kernel⟩,
    ⟨ended (hub 4 1) tHbTmo, by decide +kernel⟩,
    ⟨ended { hub 2 1 with twin := { req := true } } tAlone, by decide +kernel⟩,
    ⟨ended { (hub 2 1).wr TWIN.STAT_OWN_IN 1 with twin := { req := true } } tAlone, by decide +kernel⟩,
    ⟨hub 3 1, by decide +kernel⟩,
    ⟨(hub 3 1).wr TWIN.STAT_OWN_IN 1, by decide +kernel⟩,
    ⟨{ hub 5 1 with twin := { bothAt := some 0 } }, 0, by decide +kernel⟩,
    ⟨((hub 4 1).setLinkState .twin 8).wr TWIN.STAT_PEER_ROLE 3, by decide +kernel⟩,
    ⟨{ ((hub 3 1).wr TWIN.STAT_OWN_OUT 1).wr TWIN.STAT_ROLE 1 with twin := { release := some (9, 0, 0) } }, 9, 0, 0,
      by decide +kernel⟩⟩

theorem witness_PourOverHandoverAndPeerRelayComplete :
    (∃ (s : State) (num b frags : Nat), s.twinUp = true ∧ snapHead s.twin.out = some (num, b, frags) ∧ s.twin.outNext + 1 <
      frags) ∧
    (∃ (s : State) (num b frags : Nat), s.twinUp = true ∧ snapHead s.twin.out = some (num, b, frags) ∧ frags ≤
      s.twin.outNext + 1) ∧
    (∃ (s : State) (num next n b frags : Nat) (rs recs : List SnapRec), s.twinUp = true ∧ s.twinRole = 2 ∧ s.twin.store =
      some (num, next, rs) ∧ snapHead (rs ++ recs) = some (n, b, frags) ∧ next + 1 < frags) ∧
    (∃ (s : State) (num idx : Nat) (recs : List SnapRec), s.twinUp = true ∧ s.twinRole = 2 ∧ s.twin.store = none ∧
      s.twin.bad ≠ some num) ∧
    (∃ (s : State) (num idx : Nat) (recs : List SnapRec), s.twinUp = true ∧ s.twinRole = 2 ∧ s.twin.store = none ∧
      s.twin.bad = some num) ∧
    (∃ (s : State) (d : Side), s.isTwin = true ∧ s.twin.lost = true ∧ s.byp.ports = true ∧ bitOf (s.rd TWIN.STAT_DRIVES)
      d.code = false) ∧
    (∃ (s : State) (d : Side), s.isTwin = true ∧ s.twin.lost = false ∧ s.rd TWIN.STAT_PEER_ROLE = 2 ∧ s.twin.peerRec = true
      ∧ d.code ≠ s.otp.index ∧ bitOf (s.rd TWIN.STAT_DRIVES) d.code = true) ∧
    (∃ (s : State) (p : Port), Permitted s p 0x0D 0x44 1 ∧ s.isTwin = true ∧ s.twinRole = 1 ∧ s.rd TWIN.STAT_PEER_ROLE = 2
      ∧ s.twin.peerRec = true ∧ s.twin.peerStep = true ∧ s.twin.release = none ∧ s.twin.lost = false) ∧
    (∃ (s : State) (p : Port), Permitted s p 0x0D 0x44 1 ∧ s.isTwin = true ∧ s.twinRole ≠ 1) ∧
    (∃ (s : State) (p : Port), Permitted s p 0x0D 0x8C 1 ∧ s.isTwin = true ∧ s.rd TWIN.PEER_CMD_STATUS ≠ 1 ∧ s.linkState
      .twin = 8) ∧
    (∃ (s : State) (p : Port), Permitted s p 0x0D 0x8C 1 ∧ s.isTwin = true ∧ s.rd TWIN.PEER_CMD_STATUS ≠ 1 ∧ s.linkState
      .twin ≠ 8) ∧
    (∃ (s : State) (cause data : Nat), s.twinUp = true ∧ s.rd TWIN.PEER_CMD_STATUS = 1 ∧ s.flag TWIN.PEER_ADDR_WRITE =
      false) ∧
    (∃ (s : State), s.due tPeerRelay = true ∧ s.rd TWIN.PEER_CMD_STATUS = 1) :=
  ⟨⟨{ (hub 3 1).setLinkState .twin 8 with twin := { out := [.header 9 0 1 3 900 []] } }, 9, 0, 3, by decide +kernel⟩,
    ⟨{ (hub 3 1).setLinkState .twin 8 with twin := { out := [.header 9 0 1 3 900 []], outNext := 2 } }, 9, 0, 3,
      by decide +kernel⟩,
    ⟨{ ((hub 4 1).setLinkState .twin 8).wr TWIN.STAT_ROLE 2 with twin := { store := some (9, 1, [.header 9 0 1 3 900 []]) } },
      9, 1, 9, 0, 3, [.header 9 0 1 3 900 []], [.node [1]], by decide +kernel⟩,
    ⟨{ ((hub 4 1).setLinkState .twin 8).wr TWIN.STAT_ROLE 2 with twin := {} }, 9, 1, [], by decide +kernel⟩,
    ⟨{ ((hub 4 1).setLinkState .twin 8).wr TWIN.STAT_ROLE 2 with twin := { bad := some 9 } }, 9, 1, [], by decide +kernel⟩,
    ⟨{ hub 3 1 with twin := { lost := true }, byp := { ports := true } }, .west, by decide +kernel⟩,
    ⟨{ ((hub 3 1).wr TWIN.STAT_PEER_ROLE 2).wr TWIN.STAT_DRIVES 3 with twin := { peerRec := true } }, .west,
      by decide +kernel⟩,
    ⟨{ ((hub 3 1).wr TWIN.STAT_PEER_ROLE 2).wr TWIN.STAT_ROLE 1 with twin := { peerRec := true, peerStep := true } },
      .host, by unfold Permitted; decide +kernel⟩,
    ⟨hub 3 1, .host, by unfold Permitted; decide +kernel⟩,
    ⟨(hub 3 1).setLinkState .twin 8, .host, by unfold Permitted; decide +kernel⟩,
    ⟨hub 3 1, .host, by unfold Permitted; decide +kernel⟩,
    ⟨((hub 3 1).setLinkState .twin 8).wr TWIN.PEER_CMD_STATUS 1, 0, 77, by decide +kernel⟩,
    ⟨ended ((hub 3 1).wr TWIN.PEER_CMD_STATUS 1) tPeerRelay, by decide +kernel⟩⟩

theorem witness_TimeMessagesAreSentAsTheTimeUnitSays :
    (∃ (s : State), s.timeOn = true ∧ s.isGm = true ∧ s.candidate = true ∧ s.running tSync = false ∧ s.flt.todo = [] ∧
      Plain s 1 (s.nodeId * 8192) ∧ Room s 7 1) ∧
    (∃ (s : State), s.timeOn = true ∧ s.isGm = true ∧ s.candidate = true ∧ s.running tAnnounce = false ∧ s.flt.todo = [] ∧
      Plain s 1 (s.nodeId * 8192) ∧ Room s 7 1) ∧
    (∃ (s : State), s.timeOn = true ∧ s.isGm = true ∧ s.candidate = false) ∧
    (∃ (s : State) (g : Nat), s.timeOn = true ∧ s.isGm = false ∧ s.time.known = true ∧ s.running tDreq = false ∧ s.flt.todo
      = [] ∧ s.rd TIME.STAT_GM_NODE = g ∧ g < 4096 ∧ g ≠ s.nodeId ∧ Plain s 1 (g * 8192) ∧ Room s 7 1) ∧
    (∃ (s : State) (d : Side), s.timeOn = true ∧ s.linkState (.ring d) = 8 ∧ s.forwards d = true ∧ s.running (tPdelay d) =
      false) ∧
    (∃ (s : State) (d : Side) (msg : List Byte) (t2 : Nat) (m : Ptp), s.timeOn = true ∧ s.linkState (.ring d) = 8 ∧
      s.forwards d = true ∧ parsePtp (bnat msg) = some m ∧ m.kind = ptpPdelayReq ∧ m.domain = s.rd TIME.CFG_DOMAIN ∧
      (s.txOf d).cur = .idle ∧ (s.txOf d).maint = []) ∧
    (∃ (s : State) (d : Side) (header receipt requester : List Byte) (t1 t4 : Nat) (m : Ptp), s.timeOn = true ∧ s.linkState
      (.ring d) = 8 ∧ parsePtp (bnat (header ++ receipt ++ requester)) = some m ∧ m.kind = ptpPdelayResp ∧ m.domain = s.rd
      TIME.CFG_DOMAIN ∧ Tbl.find s.time.pdelay d.code = some (m.seq, t1) ∧ ofBe ((m.body.drop 10).take 10) = ofBe (s.portId
      (portNo d))) :=
  ⟨⟨((hub 3).wr TIME.STAT_GM 1).wr TIME.CFG_GM_CAND 1, by unfold Plain Room RoomAt; decide +kernel⟩,
    ⟨((hub 3).wr TIME.STAT_GM 1).wr TIME.CFG_GM_CAND 1, by unfold Plain Room RoomAt; decide +kernel⟩,
    ⟨((hub 3).wr TIME.STAT_GM 1).wr TIME.CFG_GM_CAND 0, by decide +kernel⟩,
    ⟨{ (hub 3).wr TIME.STAT_GM_NODE 7 with time := { known := true } }, 7, by unfold Plain Room RoomAt; decide +kernel⟩,
    ⟨(hub 3).setLinkState (.ring .west) 8, .west, by decide +kernel⟩,
    ⟨(hub 3).setLinkState (.ring .west) 8, .west, (ptpOf 2 3 0 (zeros 20)).payload, 3,
      { kind := 2, domain := 0, flags := 0, corr := 0, spec0 := 0, sender := 0, seq := 3, body := zeros 20 },
      by decide +kernel⟩,
    ⟨{ (hub 3).setLinkState (.ring .west) 8 with time := { pdelay := [(1, (3, 100))] } }, .west, (ptpOf 3 3 0 (zeros 17 ++
      [5, 0, 2])).payload.take 34, ((ptpOf 3 3 0 (zeros 17 ++ [5, 0, 2])).payload.drop 34).take 10, (ptpOf 3 3 0 (zeros 17
      ++ [5, 0, 2])).payload.drop 44, 100, 400,
      { kind := 3, domain := 0, flags := 0, corr := 0, spec0 := 0, sender := 0, seq := 3, body := zeros 17 ++ [5, 0, 2] },
      by decide +kernel⟩⟩

theorem witness_TimeMessagesReceivedMoveTheServo :
    (∃ (s : State) (l : Link) (f : Frame) (m : Ptp) (stamp : Nat), s.timeOn = true ∧ s.isGm = false ∧ s.time.known = true ∧
      s.flt.todo = [] ∧ s.rd TIME.STAT_GM_NODE = nodeOf f.src ∧ parsePtp (bnat f.payload) = some m ∧ m.kind = ptpSync ∧
      m.domain = s.rd TIME.CFG_DOMAIN ∧ (∀ e ∈ s.time.ids, e.1 = ptpSync → e.2.1 = m.sender → e.2.2.1 = l.code → newerId
      m.seq e.2.2.2 = true) ∧ (s.path (pathFrom l f)).samples = []) ∧
    (∃ (s : State) (l : Link) (f : Frame) (m : Ptp) (stamp : Nat) (mpd : Int), s.timeOn = true ∧ s.isGm = false ∧
      s.time.known = true ∧ s.flt.todo = [] ∧ s.rd TIME.STAT_GM_NODE = nodeOf f.src ∧ parsePtp (bnat f.payload) = some m ∧
      m.kind = ptpSync ∧ m.domain = s.rd TIME.CFG_DOMAIN ∧ (∀ e ∈ s.time.ids, e.1 = ptpSync → e.2.1 = m.sender → e.2.2.1 =
      l.code → newerId m.seq e.2.2.2 = true) ∧ (s.path (pathFrom l f)).mpd = some mpd ∧ s.flag TIME.CTRL_STEP_ARM = false)
      ∧
    (∃ (s : State) (d : Side) (f : Frame) (m : Ptp) (stamp : Nat), s.timeOn = true ∧ s.isGm = true ∧ s.flt.todo = [] ∧
      parsePtp (bnat f.payload) = some m ∧ m.kind = ptpDelayReq ∧ m.domain = s.rd TIME.CFG_DOMAIN ∧ (∀ e ∈ s.time.ids, e.1
      = ptpDelayReq → e.2.1 = m.sender → e.2.2.1 = d.code → newerId m.seq e.2.2.2 = true) ∧ nodeOf f.src ≠ s.nodeId ∧ Plain
      s 1 (nodeOf f.src * 8192) ∧ Room s 7 1) ∧
    (∃ (s : State) (d : Side) (f : Frame) (m : Ptp) (t1 t2 t3 : Nat) (c : Int) (p : Nat), s.timeOn = true ∧ s.isGm = false
      ∧ s.time.known = true ∧ s.flt.todo = [] ∧ s.rd TIME.STAT_GM_NODE = nodeOf f.src ∧ parsePtp (bnat f.payload) = some m
      ∧ m.kind = ptpDelayResp ∧ m.domain = s.rd TIME.CFG_DOMAIN ∧ (∀ e ∈ s.time.ids, e.1 = ptpDelayResp → e.2.1 = m.sender
      → e.2.2.1 = d.code → newerId m.seq e.2.2.2 = true) ∧ p = (if m.spec0 = 1 then 0 else 1) ∧ s.time.dreq = some (m.seq,
      t3) ∧ (s.path p).sync = some (t1, t2, c) ∧ (s.path p).samples = [] ∧ ofBe ((m.body.drop 10).take 10) = ofBe s.portId)
      ∧
    (∃ (s : State) (l : Link) (f : Frame) (m : Ptp), s.timeOn = true ∧ s.isGm = false ∧ s.time.known = false ∧ s.flt.todo =
      [] ∧ s.flag TIME.CFG_GM_CAND = false ∧ parsePtp (bnat f.payload) = some m ∧ m.kind = ptpAnnounce ∧ m.domain = s.rd
      TIME.CFG_DOMAIN ∧ (∀ e ∈ s.time.ids, e.1 = ptpAnnounce → e.2.1 = m.sender → e.2.2.1 = l.code → newerId m.seq e.2.2.2
      = true)) ∧
    (∃ (s : State), s.timeOn = true ∧ s.candidate = true ∧ s.isGm = false ∧ s.time.heard + ms 3000 ≤ s.mono) ∧
    (∃ (s : State), s.timeOn = true ∧ s.isGm = false ∧ s.flag TIME.CTRL_STEP_ARM = false ∧ s.rd TIME.STAT_STATE ≠ 4 ∧
      s.time.west.heard + 8 * s.syncInterval ≤ s.mono ∧ s.time.east.heard + 8 * s.syncInterval ≤ s.mono) ∧
    (∃ (s : State) (cur : Nat), s.timeOn = true ∧ cur ≤ 1 ∧ s.rd TIME.STAT_PATH = cur ∧ (s.path cur).heard + 3 *
      s.syncInterval ≤ s.mono ∧ (s.path (1 - cur)).sync.isSome = true ∧ s.mono < (s.path (1 - cur)).heard + 3 *
      s.syncInterval) :=
  ⟨⟨{ (hub 3).wr TIME.STAT_GM_NODE 7 with time := { known := true } }, .ring .west, ptpOf 0 3 0 (zeros 20),
    { kind := 0, domain := 0, flags := 0, corr := 0, spec0 := 0, sender := 0, seq := 3, body := zeros 20 }, 5,
    by decide +kernel⟩,
    ⟨{ ((hub 3).wr TIME.STAT_GM_NODE 7).wr TIME.CTRL_STEP_ARM 0 with time := { known := true, west := { samples := [5] } } },
      .ring .west, ptpOf 0 3 0 (zeros 20),
      { kind := 0, domain := 0, flags := 0, corr := 0, spec0 := 0, sender := 0, seq := 3, body := zeros 20 }, 5, 5,
      by decide +kernel⟩,
    ⟨{ (hub 3).wr TIME.STAT_GM 1 with time := { known := true } }, .west, ptpOf 1 3 0 (zeros 20),
      { kind := 1, domain := 0, flags := 0, corr := 0, spec0 := 0, sender := 0, seq := 3, body := zeros 20 }, 5,
      by unfold Plain Room RoomAt; decide +kernel⟩,
    ⟨{ (hub 3).wr TIME.STAT_GM_NODE 7 with time := { known := true, dreq := some (3, 9), west := { sync := some (1, 2, 3) } } },
      .west, ptpOf 9 3 1 (zeros 10 ++ (hub 3).portId),
      { kind := 9, domain := 0, flags := 0, corr := 0, spec0 := 1, sender := 0, seq := 3, body := zeros 10 ++ (hub 3).portId },
      1, 2, 9, 3, 0, by decide +kernel⟩,
    ⟨(hub 3).wr TIME.CFG_GM_CAND 0, .ring .west, ptpOf 11 3 0 (zeros 30),
      { kind := 11, domain := 0, flags := 0, corr := 0, spec0 := 0, sender := 0, seq := 3, body := zeros 30 },
      by decide +kernel⟩,
    ⟨(hub 3).wr TIME.CFG_GM_CAND 1, by decide +kernel⟩,
    ⟨((hub 3).wr TIME.STAT_STATE 3).wr TIME.CTRL_STEP_ARM 0, by decide +kernel⟩,
    ⟨{ hub 3 with time := { east := { sync := some (1, 2, 3), heard := (hub 3).mono } } }, 0, by decide +kernel⟩⟩

theorem witness_StepsLaunchesAndTimedOutputsComplete :
    (∃ (s : State) (p : Port) (hold : Bool), Permitted s p 0x04 0x58 (2 + 4 * bit hold) ∧ (s.mode = 1 ∨ s.mode = 2)) ∧
    (∃ (s : State) (p : Port) (hold : Bool), Permitted s p 0x04 0x58 (2 + 4 * bit hold) ∧ s.mode ≠ 1 ∧ s.mode ≠ 2) ∧
    (∃ (s : State) (p : Port) (hold : Bool), Permitted s p 0x04 0x58 (1 + 4 * bit hold)) ∧
    (∃ (s : State) (v : Nat), v < 512 ∧ outOf v < 2 ∧ (∃ c ∈ (s.voq v).q, c.launchAt.isSome = true)) ∧
    (∃ (s : State) (d : Side) (v l : Nat) (c : Copy) (rest : List Copy), v < 512 ∧ outOf v = d.code ∧ (s.voq v).q = c ::
      rest ∧ c.launchAt = some l ∧ c.accepted = true ∧ l + fns (s.rdn d.n MAC.LAUNCH_CFG_TOL * 10) < s.fab ∧ (s.txOf d).cur
      ≠ .queue v ∧ (s.out d.code).down = false ∧ s.fenced 0x10 = false) ∧
    (∃ (s : State) (p : Port) (k : Nat), ∃ e, k < 4 ∧ Permitted s p 0x05 (0x58 + 0x20 * k) 1 ∧ (s.toutLatch k).first
      (s.fabNs + 200) = some e) ∧
    (∃ (s : State) (p : Port) (k : Nat), k < 4 ∧ Permitted s p 0x05 (0x58 + 0x20 * k) 1 ∧ (s.toutLatch k).first (s.fabNs +
      200) = none ∧ (s.toutLatch k).mode = 1) ∧
    (∃ (s : State) (p : Port) (k : Nat), k < 4 ∧ Permitted s p 0x05 (0x58 + 0x20 * k) 2) ∧
    (∃ (s : State) (k : Nat) (e : Nat) (c : ToutSched) (w : Option Nat), k < 4 ∧ s.pdOn 6 = true ∧ (s.toutCh k).firstRise =
      some (e, c, w) ∧ (∀ f, (s.toutCh k).firstFall = some f → e < f.at_) ∧ e ≤ s.fabNs) ∧
    (∃ (s : State) (k : Nat) (f : ToutFall), k < 4 ∧ s.pdOn 6 = true ∧ (s.toutCh k).falls = [f] ∧ (∀ r, (s.toutCh
      k).firstRise = some r → f.at_ ≤ r.1) ∧ f.at_ ≤ s.fabNs ∧ f.sched.mode = 1 ∧ f.own = true) :=
  ⟨⟨hub 2, .host, true, by unfold Permitted; decide +kernel⟩,
    ⟨hub 3, .host, true, by unfold Permitted; decide +kernel⟩,
    ⟨hub 3, .host, false, by unfold Permitted; decide +kernel⟩,
    ⟨{ hub 3 with voqs := [(voqIdx 3 0 5, { q := [{ frame := { tc := 5 }, cells := [0], a := 1, s := 0, eligible := false, launchAt := some 0 }] })] },
      voqIdx 3 0 5, by decide +kernel⟩,
    ⟨{ hub 3 with voqs := [(voqIdx 3 0 5, { q := [{ frame := { tc := 5 }, cells := [0], a := 1, s := 0, launchAt := some 0 }] })] },
      .east, voqIdx 3 0 5, 0, { frame := { tc := 5 }, cells := [0], a := 1, s := 0, launchAt := some 0 }, [],
      by decide +kernel⟩,
    ⟨((hub 3).wr TOUT.CFG_MODE 2 3), .host, 3, 2000000000, by unfold Permitted; decide +kernel⟩,
    ⟨((hub 3).wr TOUT.CFG_MODE 1 3), .host, 3, by unfold Permitted; decide +kernel⟩,
    ⟨hub 3, .host, 3, by unfold Permitted; decide +kernel⟩,
    ⟨{ hub 3 with tout := [(3, { cur := some { mode := 2, next := some 1000000123 } })] }, 3, 1000000123,
      { mode := 2, next := some 1000000123 }, none, by decide +kernel⟩,
    ⟨{ hub 3 with tout := [(3, { falls := [{ at_ := 1000000123, sched := { mode := 1 }, own := true }] })] }, 3,
      { at_ := 1000000123, sched := { mode := 1 }, own := true }, by decide +kernel⟩⟩

theorem witness_YemalDecodesWhatItEncodes :
    (∃ (pc : Nat) (y : Yemal), y.wf pc = true) ∧
    (∃ (pc w : Nat) (y : Yemal), Yemal.decode pc w = some y) :=
  ⟨⟨0, .alu .add true true 65535, by decide +kernel⟩,
    ⟨0, (Yemal.yield false).encode, .yield false, by decide +kernel⟩⟩

theorem witness_AluAndLdiComputeAsTheRuleStates :
    (∃ (s : State) (e c : Nat) (y imm : Bool) (value : Nat), Fetches s e c (.alu .add y imm value)) ∧
    (∃ (s : State) (e c : Nat) (y imm : Bool) (value : Nat), Fetches s e c (.alu .sub y imm value)) ∧
    (∃ (s : State) (e c : Nat) (y imm : Bool) (value : Nat), Fetches s e c (.alu .cmp y imm value)) ∧
    (∃ (s : State) (e c : Nat) (y imm : Bool) (value : Nat), Fetches s e c (.alu .and y imm value)) ∧
    (∃ (s : State) (e c : Nat) (y imm : Bool) (value : Nat), Fetches s e c (.alu .or y imm value)) ∧
    (∃ (s : State) (e c : Nat) (y imm : Bool) (value : Nat), Fetches s e c (.alu .xor y imm value)) ∧
    (∃ (s : State) (e c : Nat) (y imm : Bool) (value : Nat), Fetches s e c (.alu .shl y imm value)) ∧
    (∃ (s : State) (e c : Nat) (y imm : Bool) (value : Nat), Fetches s e c (.alu .shr y imm value)) ∧
    (∃ (s : State) (e c : Nat) (y : Bool) (mode : LdiMode) (imm : Nat), Fetches s e c (.ldi y mode imm)) :=
  ⟨⟨due (.alu .add false true 0xFFFF) { x := 0xFFFFFFFF }, 0, 3, false, true, 0xFFFF, by unfold Fetches; decide +kernel⟩,
    ⟨due (.alu .sub true false 0) { x := 1 }, 0, 3, true, false, 0, by unfold Fetches; decide +kernel⟩,
    ⟨due (.alu .cmp true false 0) { x := 1 }, 0, 3, true, false, 0, by unfold Fetches; decide +kernel⟩,
    ⟨due (.alu .and true false 0) { x := 1 }, 0, 3, true, false, 0, by unfold Fetches; decide +kernel⟩,
    ⟨due (.alu .or true false 0) { x := 1 }, 0, 3, true, false, 0, by unfold Fetches; decide +kernel⟩,
    ⟨due (.alu .xor true false 0) { x := 1 }, 0, 3, true, false, 0, by unfold Fetches; decide +kernel⟩,
    ⟨due (.alu .shl false true 31) { x := 3 }, 0, 3, false, true, 31, by unfold Fetches; decide +kernel⟩,
    ⟨due (.alu .shr false true 1) { x := 3 }, 0, 3, false, true, 1, by unfold Fetches; decide +kernel⟩,
    ⟨due (.ldi true .sign 0x8000), 0, 3, true, .sign, 0x8000, by unfold Fetches; decide +kernel⟩⟩

theorem witness_FifoActionsFollowTheTableOfR237 :
    (∃ (s : State) (e c : Nat) (low : Nat) (dst : PullDst) (gate : Bool), Fetches s e c (.pull dst gate low) ∧ gate = true
      ∧ low < (s.ctx e c).osrCnt) ∧
    (∃ (s : State) (e c : Nat) (low : Nat) (dst : PullDst) (gate : Bool), Fetches s e c (.pull dst gate low) ∧ (gate =
      false ∨ (s.ctx e c).osrCnt ≤ low) ∧ (s.ctx e c).tx.flush = false ∧ (s.ctx e c).tx.words ≠ 0) ∧
    (∃ (s : State) (e c : Nat) (low : Nat) (dst : PullDst) (gate : Bool), Fetches s e c (.pull dst gate low) ∧ (gate =
      false ∨ (s.ctx e c).osrCnt ≤ low) ∧ (s.ctx e c).tx.flush = false ∧ (s.ctx e c).tx.words = 0) ∧
    (∃ (s : State) (e c : Nat), Fetches s e c (.fifo false .mark)) ∧
    (∃ (s : State) (e c : Nat), Fetches s e c (.fifo false .rewind)) ∧
    (∃ (s : State) (e c : Nat), Fetches s e c (.fifo false .release) ∧ (s.ctx e c).store = []) ∧
    (∃ (s : State) (e c min : Nat) (last keep : Bool) (src : PushSrc), Fetches s e c (.push last src min keep) ∧ (last =
      false ∨ (s.ctx e c).chk.dirIn = false) ∧ src = .isr ∧ (s.ctx e c).isrCnt < min) ∧
    (∃ (s : State) (e c min : Nat) (last keep : Bool) (src : PushSrc), Fetches s e c (.push last src min keep) ∧ (last =
      false ∨ (s.ctx e c).chk.dirIn = false) ∧ (src ≠ .isr ∨ min ≤ (s.ctx e c).isrCnt) ∧ (s.ctx e c).rx.free ≠ 0 ∧ s.rdn e
      ENG.CTX_CFG_FIFO_SW c = 1) ∧
    (∃ (s : State) (e c min : Nat) (last keep : Bool) (src : PushSrc), Fetches s e c (.push last src min keep) ∧ (last =
      false ∨ (s.ctx e c).chk.dirIn = false) ∧ (src ≠ .isr ∨ min ≤ (s.ctx e c).isrCnt) ∧ (s.ctx e c).rx.free = 16 ∧ s.rdn e
      ENG.CTX_CFG_FIFO_SW c = 0 ∧ (s.ctx e c).rx.w < 32 ∧ (s.ctx e c).rx.r = (s.ctx e c).rx.w ∧ (s.ctx e c).rx.flush =
      false ∧ (s.ctx e c).asmWhole = false ∧ s.asmWords (clusterOf e) < 16384) ∧
    (∃ (s : State) (e c min : Nat) (last keep : Bool) (src : PushSrc), Fetches s e c (.push last src min keep) ∧ (last =
      false ∨ (s.ctx e c).chk.dirIn = false) ∧ (src ≠ .isr ∨ min ≤ (s.ctx e c).isrCnt) ∧ (s.ctx e c).rx.free = 0) :=
  ⟨⟨due (.pull .osr true 3) { osrCnt := 4 }, 0, 3, 3, .osr, true, by unfold Fetches; decide +kernel⟩,
    ⟨due (.pull .osr true 3) { osrCnt := 3, tx := { ents := [(0, { word := 7 })], w := 1 } }, 0, 3, 3, .osr, true,
      by unfold Fetches; decide +kernel⟩,
    ⟨due (.pull .osr false 0), 0, 3, 0, .osr, false, by unfold Fetches; decide +kernel⟩,
    ⟨due (.fifo false .mark) { tx := { w := 3, r := 1 } }, 0, 3, by unfold Fetches; decide +kernel⟩,
    ⟨due (.fifo false .rewind) { tx := { w := 3, r := 1 } }, 0, 3, by unfold Fetches; decide +kernel⟩,
    ⟨due (.fifo false .release) { tx := { w := 3, r := 1 } }, 0, 3, by unfold Fetches; decide +kernel⟩,
    ⟨due (.push false .isr 8 false) { isrCnt := 7 }, 0, 3, 8, false, false, .isr, by unfold Fetches; decide +kernel⟩,
    ⟨(due (.push true .isr 8 false) { isrCnt := 8 }).wrn 0 ENG.CTX_CFG_FIFO_SW 1 3, 0, 3, 8, true, false, .isr,
      by unfold Fetches; decide +kernel⟩,
    ⟨due (.push true .x 0 false) { x := 9 }, 0, 3, 0, true, false, .x, by unfold Fetches; decide +kernel⟩,
    ⟨due (.push false .y 0 false) { rx := { w := 16 } }, 0, 3, 0, false, false, .y, by unfold Fetches; decide +kernel⟩⟩

theorem witness_JumpsWaitsMovesAndYieldsComplete :
    (∃ (s : State) (e c : Nat) (neg : Bool) (cond : JmpCond) (idx addr : Nat), Fetches s e c (.jmp neg cond idx addr) ∧
      cond = .always) ∧
    (∃ (s : State) (e c : Nat) (neg : Bool) (cond : JmpCond) (idx addr : Nat), Fetches s e c (.jmp neg cond idx addr) ∧
      cond = .lx) ∧
    (∃ (s : State) (e c : Nat) (neg : Bool) (cond : JmpCond) (idx addr : Nat), Fetches s e c (.jmp neg cond idx addr) ∧
      cond = .xlty) ∧
    (∃ (s : State) (e c : Nat) (neg : Bool) (cond : JmpCond) (idx addr : Nat), Fetches s e c (.jmp neg cond idx addr) ∧
      cond = .miss) ∧
    (∃ (s : State) (e c idx count : Nat) (pol clr : Bool) (src : WaitSrc), Fetches s e c (.wait pol src idx count clr) ∧
      ((s.takeCycle e c).waitSrc e c idx count (s.ctx e c) src = pol) ∧ clr = false) ∧
    (∃ (s : State) (e c idx count : Nat) (pol clr : Bool) (src : WaitSrc), Fetches s e c (.wait pol src idx count clr) ∧
      ((s.takeCycle e c).waitSrc e c idx count (s.ctx e c) src = pol) ∧ clr = true) ∧
    (∃ (s : State) (e c idx count : Nat) (pol clr : Bool) (src : WaitSrc), Fetches s e c (.wait pol src idx count clr) ∧ ¬
      ((s.takeCycle e c).waitSrc e c idx count (s.ctx e c) src = pol)) ∧
    (∃ (s : State) (e c : Nat) (dst : MovDst) (src : MovSrc) (op : MovOp), Fetches s e c (.mov dst src op) ∧ dst ≠ .pins ∧
      dst ≠ .dirs) ∧
    (∃ (s : State) (e c : Nat) (dst : MovDst) (src : MovSrc) (op : MovOp), Fetches s e c (.mov dst src op) ∧ dst = .dirs) ∧
    (∃ (s : State) (e c : Nat) (dst : MovDst) (src : MovSrc) (op : MovOp), Fetches s e c (.mov dst src op) ∧ dst = .pins) ∧
    (∃ (s : State) (e c : Nat) (what : StampWhat) (toy keep : Bool), Fetches s e c (.stamp what toy keep)) ∧
    (∃ (s : State) (e c : Nat), Fetches s e c (.yield false)) ∧
    (∃ (s : State) (e c : Nat), Fetches s e c (.yield true) ∧ (s.ctx e c).deadline = 0 ∧ (s.ctx e c).deferred = false) ∧
    (∃ (s : State) (e c : Nat), Fetches s e c (.yield true) ∧ (s.ctx e c).deadline ≠ 0 ∧ ((s.ctx e c).began + (s.ctx e
      c).deadline) * 2 ^ 48 < s.fab) :=
  ⟨⟨due (.jmp false .always 0 2047), 0, 3, false, .always, 0, 2047, by unfold Fetches; decide +kernel⟩,
    ⟨due (.jmp false .lx 0 7), 0, 3, false, .lx, 0, 7, by unfold Fetches; decide +kernel⟩,
    ⟨due (.jmp true .xlty 0 7) { y := 1 }, 0, 3, true, .xlty, 0, 7, by unfold Fetches; decide +kernel⟩,
    ⟨due (.jmp true .miss 0 7) { miss := true }, 0, 3, true, .miss, 0, 7, by unfold Fetches; decide +kernel⟩,
    ⟨due (.wait false .txwords 0 1 false), 0, 3, 0, 1, false, false, .txwords, by unfold Fetches; decide +kernel⟩,
    ⟨(due (.wait true .flag 2 0 true)).wrn 0 ENG.FLAGS_FLAG 4, 0, 3, 2, 0, true, true, .flag,
      by unfold Fetches; decide +kernel⟩,
    ⟨due (.wait true .flag 2 0 false), 0, 3, 2, 0, true, false, .flag, by unfold Fetches; decide +kernel⟩,
    ⟨due (.mov .x .zero .invert), 0, 3, .x, .zero, .invert, by unfold Fetches; decide +kernel⟩,
    ⟨due (.mov .dirs .zero .invert) {} 2, 0, 3, .dirs, .zero, .invert, by unfold Fetches; decide +kernel⟩,
    ⟨due (.mov .pins .zero .invert) {} 2, 0, 3, .pins, .zero, .invert, by unfold Fetches; decide +kernel⟩,
    ⟨due (.stamp .eventRel false false) { pev := true, pevNs := 12345 }, 0, 3, .eventRel, false, false,
      by unfold Fetches; decide +kernel⟩,
    ⟨due (.yield false), 0, 3, by unfold Fetches; decide +kernel⟩,
    ⟨due (.yield true), 0, 3, by unfold Fetches; decide +kernel⟩,
    ⟨due (.yield true) { deadline := 5 }, 0, 3, by unfold Fetches; decide +kernel⟩⟩

theorem witness_ShiftInstructionsAndPinSetsComplete :
    (∃ (s : State) (e c count pin lanes : Nat) (lsb : Bool) (dst : InDst), Fetches s e c (.inBits count pin lanes lsb dst)
      ∧ count / (2 ^ lanes) ≤ (s.ctx e c).pin.sampled pin (2 ^ lanes) ∧ dst ≠ .isr) ∧
    (∃ (s : State) (e c count pin lanes : Nat) (lsb : Bool) (dst : InDst), Fetches s e c (.inBits count pin lanes lsb dst)
      ∧ count / (2 ^ lanes) ≤ (s.ctx e c).pin.sampled pin (2 ^ lanes) ∧ dst = .isr) ∧
    (∃ (s : State) (e c count pin lanes : Nat) (lsb : Bool) (dst : InDst), Fetches s e c (.inBits count pin lanes lsb dst)
      ∧ (s.ctx e c).pin.sampled pin (2 ^ lanes) < count / (2 ^ lanes)) ∧
    (∃ (s : State) (e c count pin lanes cp : Nat) (lsb clk pol : Bool) (src : OutSrc), Fetches s e c (.outBits count pin
      lanes lsb src clk cp pol) ∧ src ≠ .osr ∧ count / (2 ^ lanes) ≤ (s.ctx e c).pin.room (laneMask pin (2 ^ lanes))) ∧
    (∃ (s : State) (e c count pin lanes cp : Nat) (lsb clk pol : Bool) (src : OutSrc), Fetches s e c (.outBits count pin
      lanes lsb src clk cp pol) ∧ src = .osr ∧ lanes = 0 ∧ count ≤ (s.ctx e c).osrCnt ∧ (s.ctx e c).osrCnt ≤ 32 ∧ (s.ctx e
      c).chk.append = false ∧ count ≤ (s.ctx e c).pin.room (laneMask pin 1)) ∧
    (∃ (s : State) (e c count pin lanes cp : Nat) (lsb clk pol : Bool) (src : OutSrc), Fetches s e c (.outBits count pin
      lanes lsb src clk cp pol) ∧ src ≠ .osr ∧ (s.ctx e c).pin.room (laneMask pin (2 ^ lanes)) < count / (2 ^ lanes)) ∧
    (∃ (s : State) (e c mask value : Nat) (dirs sync : Bool), Fetches s e c (.setPins dirs sync mask value) ∧ sync = true ∧
      (s.ctx e c).pin.room mask ≠ 0) ∧
    (∃ (s : State) (e c mask value : Nat) (dirs sync : Bool), Fetches s e c (.setPins dirs sync mask value) ∧ sync = true ∧
      (s.ctx e c).pin.room mask = 0) ∧
    (∃ (s : State) (e c mask value : Nat) (dirs sync : Bool), Fetches s e c (.setPins dirs sync mask value) ∧ sync = false
      ∧ dirs = true) ∧
    (∃ (s : State) (e c mask value : Nat) (dirs sync : Bool), Fetches s e c (.setPins dirs sync mask value) ∧ sync = false
      ∧ dirs = false) :=
  ⟨⟨due (.inBits 2 0 0 true .x) { pin := { cnt := 2, inbuf := [(0, [true, false])] } } 2, 0, 3, 2, 0, 0, true, .x,
    by unfold Fetches; decide +kernel⟩,
    ⟨due (.inBits 2 0 0 true .isr) { pin := { cnt := 2, inbuf := [(0, [true, false])] } } 2, 0, 3, 2, 0, 0, true, .isr,
      by unfold Fetches; decide +kernel⟩,
    ⟨due (.inBits 2 0 0 true .x) { pin := { cnt := 2, inbuf := [(0, [true])] } } 2, 0, 3, 2, 0, 0, true, .x,
      by unfold Fetches; decide +kernel⟩,
    ⟨due (.outBits 32 0 0 false .ones false 0 false) { pin := { cnt := 2 } } 2, 0, 3, 32, 0, 0, 0, false, false, false,
      .ones, by unfold Fetches; decide +kernel⟩,
    ⟨due (.outBits 3 0 0 true .osr false 0 false) { osr := 5, osrCnt := 3, pin := { cnt := 2 } } 2, 0, 3, 3, 0, 0, 0, true,
      false, false, .osr, by unfold Fetches; decide +kernel⟩,
    ⟨due (.outBits 2 0 0 true .x false 0 false)
      { pin := { cnt := 2, outq := List.replicate 31 { mask := 1, value := 1 } } } 2, 0, 3, 2, 0, 0, 0, true, false, false,
      .x, by unfold Fetches; decide +kernel⟩,
    ⟨due (.setPins false true 3 1) { pin := { cnt := 2, outq := List.replicate 31 { mask := 1, value := 1 } } } 2, 0, 3, 3,
      1, false, true, by unfold Fetches; decide +kernel⟩,
    ⟨due (.setPins false true 3 1) { pin := { cnt := 2, outq := List.replicate 32 { mask := 1, value := 1 } } } 2, 0, 3, 3,
      1, false, true, by unfold Fetches; decide +kernel⟩,
    ⟨due (.setPins true false 3 1) { pin := { cnt := 2 } } 2, 0, 3, 3, 1, true, false, by unfold Fetches; decide +kernel⟩,
    ⟨due (.setPins false false 3 1) { pin := { cnt := 2 } } 2, 0, 3, 3, 1, false, false,
      by unfold Fetches; decide +kernel⟩⟩

theorem witness_TriggersChecksEventsAndFlushesComplete :
    (∃ (s : State) (e c pin offset : Nat) (base : TrigBase) (act : TrigAct) (xoff : Bool), act ≠ .cancel ∧ Fetches s e c
      (.ttrig base act pin xoff offset)) ∧
    (∃ (s : State) (e c pin offset : Nat) (base : TrigBase) (act : TrigAct) (xoff : Bool) (l : Latch) (at_ : Int), act ≠
      .cancel ∧ Revisits s e c l (.ttrig base act pin xoff offset) ∧ l.at_ = some at_ ∧ l.hit = false ∧ l.inj = false ∧
      l.resume = none ∧ act = .origin ∧ (s.ctx e c).pin.frozen = false) ∧
    (∃ (s : State) (e c pin offset : Nat) (base : TrigBase) (act : TrigAct) (xoff : Bool) (l : Latch) (at_ : Int), act ≠
      .cancel ∧ Revisits s e c l (.ttrig base act pin xoff offset) ∧ l.at_ = some at_ ∧ l.hit = false ∧ l.inj = false ∧
      l.resume = none ∧ act ≠ .origin) ∧
    (∃ (s : State) (e c : Nat) (l : Latch) (at_ : Int), Revisits s e c l (.ttrig .boundary .cancel 0 false 0) ∧ l.at_ =
      some at_ ∧ l.hit = false ∧ l.inj = false ∧ l.resume = none) ∧
    (∃ (s : State) (e c : Nat) (arg : Bool), Fetches s e c (.chk .seed arg 0) ∧ (s.profile e (s.ctxProf e c)).src = 0) ∧
    (∃ (s : State) (e c : Nat) (arg : Bool), Fetches s e c (.chk .seed arg 0) ∧ (arg = true ∨ (s.ctx e c).tx.words ≠ 0) ∧
      ((s.profile e (s.ctxProf e c)).src = 1 ∨ (s.profile e (s.ctxProf e c)).src = 2)) ∧
    (∃ (s : State) (e c min : Nat) (keep : Bool) (src : PushSrc), Fetches s e c (.push true src min keep) ∧ (s.ctx e
      c).chk.dirIn = true ∧ (src ≠ .isr ∨ min ≤ (s.ctx e c).isrCnt) ∧ 2 ≤ (s.ctx e c).rx.free ∧ s.rdn e ENG.CTX_CFG_FIFO_SW
      c = 1) ∧
    (∃ (s : State) (e c : Nat) (arg : Bool), Fetches s e c (.chk .seedx arg 0)) ∧
    (∃ (s : State) (e c width : Nat) (arg : Bool), Fetches s e c (.chk .fold arg width)) ∧
    (∃ (s : State) (e c : Nat) (arg : Bool), Fetches s e c (.chk .append arg 0) ∧ arg = false) ∧
    (∃ (s : State) (e c : Nat) (arg : Bool), Fetches s e c (.chk .append arg 0) ∧ arg = true) ∧
    (∃ (s : State) (e c : Nat) (arg : Bool), Fetches s e c (.chk .verify arg 0)) ∧
    (∃ (s : State) (e c : Nat) (arg : Bool), Fetches s e c (.chk .save arg 0)) ∧
    (∃ (s : State) (e c : Nat) (arg : Bool), Fetches s e c (.chk .pause arg 0)) ∧
    (∃ (s : State) (e c num flag : Nat) (irq : Bool) (fop : FlagOp), Fetches s e c (.event num irq fop flag)) ∧
    (∃ (s : State) (e c : Nat) (rx : Bool), Fetches s e c (.fifo rx .flush) ∧ (s.ctx e c).store = [] ∧ (s.ctx e c).asm =
      []) :=
  ⟨⟨due (.ttrig .now .high 1 false 100) { pin := { cnt := 2 } } 2, 0, 3, 1, 100, .now, .high, false,
    by unfold Fetches; decide +kernel⟩,
    ⟨due (.yield false)
      { latch := some { word := (Yemal.ttrig .now .origin 0 false 100).encode, at_ := some 7 }, pin := { cnt := 2 } } 2, 0,
      3, 0, 100, .now, .origin, false, { word := (Yemal.ttrig .now .origin 0 false 100).encode, at_ := some 7 }, 7,
      by unfold Revisits; decide +kernel⟩,
    ⟨due (.yield false)
      { latch := some { word := (Yemal.ttrig .now .high 1 false 100).encode, at_ := some 7 }, pin := { cnt := 2 } } 2, 0,
      3, 1, 100, .now, .high, false, { word := (Yemal.ttrig .now .high 1 false 100).encode, at_ := some 7 }, 7,
      by unfold Revisits; decide +kernel⟩,
    ⟨due (.yield false)
      { latch := some { word := (Yemal.ttrig .boundary .cancel 0 false 0).encode, at_ := some 7 }, pin := { cnt := 2 } } 2,
      0, 3, { word := (Yemal.ttrig .boundary .cancel 0 false 0).encode, at_ := some 7 }, 7,
      by unfold Revisits; decide +kernel⟩,
    ⟨due (.chk .seed false 0), 0, 3, false, by unfold Fetches; decide +kernel⟩,
    ⟨{ due (.chk .seed true 0) with engs := [(0, { profs := [(0, { src := 2 })] })] }, 0, 3, true,
      by unfold Fetches; decide +kernel⟩,
    ⟨(due (.push true .x 0 false) { chk := { dirIn := true } }).wrn 0 ENG.CTX_CFG_FIFO_SW 1 3, 0, 3, 0, false, .x,
      by unfold Fetches; decide +kernel⟩,
    ⟨due (.chk .seedx true 0), 0, 3, true, by unfold Fetches; decide +kernel⟩,
    ⟨due (.chk .fold false 8) { isr := 0x55 }, 0, 3, 8, false, by unfold Fetches; decide +kernel⟩,
    ⟨due (.chk .append false 0), 0, 3, false, by unfold Fetches; decide +kernel⟩,
    ⟨due (.chk .append true 0), 0, 3, true, by unfold Fetches; decide +kernel⟩,
    ⟨due (.chk .verify false 0), 0, 3, false, by unfold Fetches; decide +kernel⟩,
    ⟨due (.chk .save false 0), 0, 3, false, by unfold Fetches; decide +kernel⟩,
    ⟨due (.chk .pause true 0), 0, 3, true, by unfold Fetches; decide +kernel⟩,
    ⟨due (.event 7 true .set 3), 0, 3, 7, 3, true, .set, by unfold Fetches; decide +kernel⟩,
    ⟨due (.fifo true .flush), 0, 3, true, by unfold Fetches; decide +kernel⟩⟩

theorem witness_BoundariesSwapStartAndRenewContexts :
    (∃ (s : State), s.base.done = some s.boundary.1) ∧
    (∃ (s : State) (e c : Nat), Quiet s ∧ s.base.done ≠ some s.boundary.1 ∧ s.engOn e = true ∧ c < 32) ∧
    (∃ (s : State) (len phase at_ : Nat), s.base.pend = some (len, phase, at_) ∧ at_ ≤ s.fabNs) ∧
    (∃ (s : State) (e : Nat), s.due (tPause e) = true) ∧
    (∃ (s : State) (e c : Nat), (s.ctx e c).deferred = true ∧ (s.ctx e c).deferAt + fns (s.ctxTol (s.ctxClass e c)) ≤
      s.fab) ∧
    (∃ (s : State) (p : Port) (e : Nat) (live : Bool), e < 16 ∧ Permitted s p (engPage e) 0xC0 (put1 live 2 + 1)) ∧
    (∃ (s : State) (p : Port) (e : Nat) (live : Bool), e < 16 ∧ Permitted s p (engPage e) 0xC0 (put1 live 2 + 2)) :=
  ⟨⟨{ hub 3 with base := { done := some (hub 3).boundary.1 } }, by decide +kernel⟩,
    ⟨hub 3, 15, 31, ⟨⟨by decide, by decide, by decide, by decide, by decide, fun e c h => nomatch h⟩, by decide +kernel,
      by decide +kernel, by decide⟩⟩,
    ⟨{ hub 3 with base := { pend := some (200000, 5, 1000000123) } }, 200000, 5, 1000000123, by decide +kernel⟩,
    ⟨ended (hub 3) (tPause 15), 15, by decide +kernel⟩,
    ⟨withCtx (hub 3) 0 3 { run := true, deferred := true }, 0, 3, by decide +kernel⟩,
    ⟨hub 3, .host, 15, true, by unfold Permitted; decide +kernel⟩,
    ⟨(hub 3).wrn 15 ENG.PB_STAT_SWAP_PEND 1, .host, 15, false, by unfold Permitted; decide +kernel⟩⟩

theorem witness_ContextsStartStopClearAndInject :
    (∃ (s : State) (p : Port) (e c : Nat) (pre : Bool), e < 16 ∧ c < 32 ∧ s.flt.todo = [] ∧ Permitted s p (engPage e)
      (ctxOff c 0) (ctxCtrl pre 0) ∧ (s.ctx e c).run = false) ∧
    (∃ (s : State) (p : Port) (e c : Nat) (pre : Bool), e < 16 ∧ c < 32 ∧ s.flt.todo = [] ∧ Permitted s p (engPage e)
      (ctxOff c 0) (ctxCtrl pre 1) ∧ (s.ctx e c).run = false ∧ s.engFenced e = false ∧ s.engOn e = true ∧ s.mode = 2) ∧
    (∃ (s : State) (p : Port) (e c : Nat) (pre : Bool), e < 16 ∧ c < 32 ∧ s.flt.todo = [] ∧ Permitted s p (engPage e)
      (ctxOff c 0) (ctxCtrl pre 1) ∧ (s.ctx e c).run = false ∧ s.engFenced e = false ∧ s.engOn e = true ∧ s.mode ≠ 2 ∧
      s.claimClash e c = none ∧ s.rdn e ENG.CTX_CFG_PIN_BASE c + s.pinCount e c ≤ 256) ∧
    (∃ (s : State) (p : Port) (e c : Nat) (pre : Bool), ∃ q k, e < 16 ∧ c < 32 ∧ s.flt.todo = [] ∧ Permitted s p (engPage
      e) (ctxOff c 0) (ctxCtrl pre 1) ∧ (s.ctx e c).run = false ∧ s.engFenced e = false ∧ s.engOn e = true ∧ s.mode ≠ 2 ∧
      s.claimClash e c = some (q, k)) ∧
    (∃ (s : State) (p : Port) (e c : Nat) (pre : Bool), e < 16 ∧ c < 32 ∧ s.flt.todo = [] ∧ Permitted s p (engPage e)
      (ctxOff c 0) (ctxCtrl pre 3) ∧ (s.ctx e c).run = false ∧ (s.ctx e c).read = none ∧ (s.ctx e c).store = []) ∧
    (∃ (s : State) (p : Port) (e c : Nat) (pre : Bool), e < 16 ∧ c < 32 ∧ s.flt.todo = [] ∧ Permitted s p (engPage e)
      (ctxOff c 0) (ctxCtrl pre 2) ∧ (s.ctx e c).run = true ∧ (s.ctx e c).eoc = true ∧ (s.ctx e c).eocCycle ≠ some
      (s.issueCycle e)) ∧
    (∃ (s : State) (p : Port) (e c : Nat) (pre : Bool), e < 16 ∧ c < 32 ∧ s.flt.todo = [] ∧ Permitted s p (engPage e)
      (ctxOff c 0) (ctxCtrl pre 2) ∧ (s.ctx e c).run = true ∧ (s.ctx e c).eoc = false ∧ (s.ctx e c).stall ≠ 0) ∧
    (∃ (s : State) (p : Port) (e c : Nat) (pre : Bool), e < 16 ∧ c < 32 ∧ s.flt.todo = [] ∧ Permitted s p (engPage e)
      (ctxOff c 0) (ctxCtrl pre 2) ∧ (s.ctx e c).run = true ∧ (s.ctx e c).eoc = false ∧ (s.ctx e c).stall = 0) ∧
    (∃ (s : State) (p : Port) (e c : Nat) (pre : Bool), e < 16 ∧ c < 32 ∧ s.flt.todo = [] ∧ Permitted s p (engPage e)
      (ctxOff c 0) (ctxCtrl pre 4) ∧ (s.ctx e c).inj = none ∧ (pre = false ∨ (s.ctx e c).run = false ∨ (s.ctx e c).stall =
      0)) ∧
    (∃ (s : State) (p : Port) (e c : Nat) (pre : Bool), e < 16 ∧ c < 32 ∧ s.flt.todo = [] ∧ Permitted s p (engPage e)
      (ctxOff c 0) (ctxCtrl pre 4) ∧ (s.ctx e c).inj = none ∧ pre = true ∧ (s.ctx e c).run = true ∧ (s.ctx e c).stall ≠ 0)
      ∧
    (∃ (s : State) (e c : Nat), s.pick e = some c ∧ s.flt.todo = [] ∧ (s.ctx e c).stopReq = true ∧ (s.ctx e c).latch = none
      ∧ s.progWord e (s.bank e) (s.ctx e c).pc = 0xF8000000) ∧
    (∃ (s : State) (e c : Nat), s.pick e = some c ∧ s.flt.todo = [] ∧ (s.ctx e c).stopReq = true ∧ (s.ctx e c).latch = none
      ∧ s.progWord e (s.bank e) (s.ctx e c).pc ≠ 0xF8000000) ∧
    (∃ (s : State) (e c w : Nat), ∃ y mode imm, s.pick e = some c ∧ s.flt.todo = [] ∧ (s.ctx e c).stopReq = false ∧ (s.ctx
      e c).latch = none ∧ (s.ctx e c).inj = some w ∧ Yemal.decode (s.pinCount e c) w = some (.ldi y mode imm)) ∧
    (∃ (s : State) (e c w : Nat), s.pick e = some c ∧ s.flt.todo = [] ∧ (s.ctx e c).stopReq = false ∧ (s.ctx e c).latch =
      none ∧ (s.ctx e c).inj = some w ∧ Yemal.decode (s.pinCount e c) w = some (.yield false)) ∧
    (∃ (s : State) (e c w : Nat), s.pick e = some c ∧ s.flt.todo = [] ∧ (s.ctx e c).stopReq = false ∧ (s.ctx e c).latch =
      none ∧ (s.ctx e c).inj = some w ∧ Yemal.decode (s.pinCount e c) w = none) ∧
    (∃ (s : State) (e c : Nat), s.pick e = some c ∧ s.flt.todo = [] ∧ (s.ctx e c).stopReq = false ∧ (s.ctx e c).latch =
      none ∧ (s.ctx e c).inj = none ∧ Yemal.decode (s.pinCount e c) (s.progWord e (s.bank e) (s.ctx e c).pc) = none) :=
  ⟨⟨hub 3, .host, 15, 31, true, by unfold Permitted; decide +kernel⟩,
    ⟨hub 2, .host, 15, 31, true, by unfold Permitted; decide +kernel⟩,
    ⟨hub 3, .host, 15, 31, true, by unfold Permitted; decide +kernel⟩,
    ⟨{ ((hub 3).wrn 0 ENG.CTX_CFG_PIN_COUNT 2 3).wrn 1 ENG.CTX_CFG_PIN_COUNT 1 4 with ctxs := [(36, { run := true, pin := { held := true, base := 0, cnt := 1 } })] },
      .host, 0, 3, false, 0, 36, by unfold Permitted; decide +kernel⟩,
    ⟨withCtx (hub 3) 0 3 { x := 9 }, .host, 0, 3, false, by unfold Permitted; decide +kernel⟩,
    ⟨withCtx (hub 3) 0 3 { run := true, eoc := true, eocCycle := some 0 }, .host, 0, 3, false,
      by unfold Permitted; decide +kernel⟩,
    ⟨withCtx (hub 3) 0 3 { run := true, stall := 5, latch := some { word := (Yemal.wait true .flag 2 0 false).encode } },
      .host, 0, 3, false, by unfold Permitted; decide +kernel⟩,
    ⟨withCtx (hub 3) 0 3 { run := true }, .host, 0, 3, false, by unfold Permitted; decide +kernel⟩,
    ⟨withCtx (hub 3) 0 3 { run := true }, .host, 0, 3, true, by unfold Permitted; decide +kernel⟩,
    ⟨withCtx ((hub 3).wrn 0 ENG.CTX_INJ_INSTR 0xF0000000 3) 0 3
      { run := true, stall := 5, latch := some { word := (Yemal.wait true .flag 2 0 false).encode } }, .host, 0, 3, true,
      by unfold Permitted; decide +kernel⟩,
    ⟨due (.yield true) { stopReq := true }, 0, 3, by decide +kernel⟩,
    ⟨due (.yield false) { stopReq := true }, 0, 3, by decide +kernel⟩,
    ⟨due (.yield true) { inj := some (Yemal.ldi true .zero 5).encode }, 0, 3, (Yemal.ldi true .zero 5).encode, true,
      LdiMode.zero, 5, by decide +kernel⟩,
    ⟨due (.yield true) { inj := some (Yemal.yield false).encode }, 0, 3, (Yemal.yield false).encode, by decide +kernel⟩,
    ⟨due (.yield true) { inj := some 0xFFFFFFFF }, 0, 3, 0xFFFFFFFF, by decide +kernel⟩,
    ⟨{ due (.yield true) with prog := [(0, 0xFFFFFFFF)] }, 0, 3, by decide +kernel⟩⟩

theorem witness_StallsFifosAndSnapshotsComplete :
    (∃ (s : State) (e c : Nat) (l : Latch), ∃ pol src idx count, (s.ctx e c).run = true ∧ (s.ctx e c).stall ≠ 0 ∧ (s.ctx e
      c).latch = some l ∧ s.flt.todo = [] ∧ Yemal.decode (s.pinCount e c) l.word = some (.wait pol src idx count false) ∧
      s.waitSrc e c idx count (s.ctx e c) src = pol) ∧
    (∃ (s : State) (e c : Nat) (l : Latch), ∃ pol src idx count, (s.ctx e c).run = true ∧ (s.ctx e c).stall ≠ 0 ∧ (s.ctx e
      c).latch = some l ∧ s.flt.todo = [] ∧ Yemal.decode (s.pinCount e c) l.word = some (.wait pol src idx count false) ∧
      s.waitSrc e c idx count (s.ctx e c) src ≠ pol ∧ (s.ctx e c).stall ≠ 6) ∧
    (∃ (s : State) (e c : Nat) (l : Latch), ∃ dst gate low, (s.ctx e c).run = true ∧ (s.ctx e c).stall ≠ 0 ∧ (s.ctx e
      c).latch = some l ∧ s.flt.todo = [] ∧ Yemal.decode (s.pinCount e c) l.word = some (.pull dst gate low) ∧ (s.ctx e
      c).tx.flush = false ∧ (s.ctx e c).tx.words ≠ 0) ∧
    (∃ (s : State) (e c : Nat), (s.ctx e c).run = true ∧ (s.ctx e c).pin.fed = true ∧ (s.ctx e c).pin.noBits = true ∧
      (s.ctx e c).stall ≠ 1 ∧ (s.ctx e c).stall ≠ 6) ∧
    (∃ (s : State) (p : Port) (e : Nat), e < 16 ∧ s.flt.todo = [] ∧ Permitted s p (engPage e) 0x94 1 ∧ (s.ctx e (s.selCtx
      e)).store = []) ∧
    (∃ (s : State) (p : Port) (e : Nat), e < 16 ∧ s.flt.todo = [] ∧ Permitted s p (engPage e) 0x94 2 ∧ ((s.ctx e (s.selCtx
      e)).asm = [] ∨ (s.ctx e (s.selCtx e)).asmWhole = true)) ∧
    (∃ (s : State) (p : Port) (e : Nat), e < 16 ∧ s.flt.todo = [] ∧ Permitted s p (engPage e) 0x94 2 ∧ (s.ctx e (s.selCtx
      e)).asm ≠ [] ∧ (s.ctx e (s.selCtx e)).asmWhole = false) ∧
    (∃ (s : State) (e c n : Nat), s.flt.todo = [] ∧ (s.ctx e c).tx.flush = true ∧ (s.ctx e c).tx.toEnd = some n ∧ (s.ctx e
      c).store = []) ∧
    (∃ (s : State) (e c n : Nat), s.flt.todo = [] ∧ (s.ctx e c).rx.flush = true ∧ (s.ctx e c).rx.toEnd = none ∧ s.rdn e
      ENG.CTX_CFG_FIFO_SW c = 1) ∧
    (∃ (s : State) (p : Port) (e v : Nat), e < 16 ∧ s.rdn e ENG.CTX_CFG_FIFO_SW (s.selCtx e) = 1 ∧ Permitted s p (engPage
      e) 0x98 v ∧ (s.ctx e (s.selCtx e)).tx.free ≠ 0) ∧
    (∃ (s : State) (p : Port) (e v : Nat), e < 16 ∧ s.rdn e ENG.CTX_CFG_FIFO_SW (s.selCtx e) = 1 ∧ Permitted s p (engPage
      e) 0x9C v ∧ (s.ctx e (s.selCtx e)).tx.free ≠ 0) ∧
    (∃ (s : State) (p : Port) (e v : Nat), e < 16 ∧ s.rdn e ENG.CTX_CFG_FIFO_SW (s.selCtx e) = 1 ∧ Permitted s p (engPage
      e) 0x98 v ∧ (s.ctx e (s.selCtx e)).tx.free = 0) ∧
    (∃ (s : State) (p : Port) (e v : Nat), e < 16 ∧ s.rdn e ENG.CTX_CFG_FIFO_SW (s.selCtx e) = 1 ∧ Readable s p (engPage e)
      0xA0 ∧ (s.ctx e (s.selCtx e)).rx.words ≠ 0 ∧ (s.ctx e (s.selCtx e)).rx.flush = false) ∧
    (∃ (s : State) (p : Port) (e v : Nat), e < 16 ∧ s.rdn e ENG.CTX_CFG_FIFO_SW (s.selCtx e) = 1 ∧ Readable s p (engPage e)
      0xA0 ∧ (s.ctx e (s.selCtx e)).rx.words = 0) ∧
    (∃ (s : State) (p : Port) (e c : Nat), e < 16 ∧ c < 32 ∧ Permitted s p (engPage e) 0x5C (c + 32) ∧ s.rdn e
      ENG.SNAP_CTRL_DONE = 1) ∧
    (∃ (s : State) (e c : Nat), ∃ ws, (s.eng e).snapOf = some c ∧ (s.eng e).captured = some ws) ∧
    (∃ (s : State) (e c : Nat), (s.eng e).snapOf = some c ∧ (s.eng e).captured = none ∧ s.due (tSnap e) = true) :=
  ⟨⟨(withCtx (hub 3) 0 3
    { run := true, stall := 5, latch := some { word := (Yemal.wait true .flag 2 0 false).encode } }).wrn 0 ENG.FLAGS_FLAG
    4, 0, 3, { word := (Yemal.wait true .flag 2 0 false).encode }, true, WaitSrc.flag, 2, 0, by decide +kernel⟩,
    ⟨withCtx (hub 3) 0 3 { run := true, stall := 5, latch := some { word := (Yemal.wait true .flag 2 0 false).encode } },
      0, 3, { word := (Yemal.wait true .flag 2 0 false).encode }, true, WaitSrc.flag, 2, 0, by decide +kernel⟩,
    ⟨withCtx (hub 3) 0 3
      { run := true, stall := 1, latch := some { word := (Yemal.pull .osr false 0).encode }, tx := { w := 1 } }, 0, 3,
      { word := (Yemal.pull .osr false 0).encode }, PullDst.osr, false, 0, by decide +kernel⟩,
    ⟨withCtx (hub 3) 0 3 { run := true, pin := { fed := true } }, 0, 3, by decide +kernel⟩,
    ⟨withCtx (hub 3) 0 0 { tx := { w := 3, edge := false } }, .host, 0, by unfold Permitted; decide +kernel⟩,
    ⟨withCtx (hub 3) 0 0 { rx := { w := 3, edge := false } }, .host, 0, by unfold Permitted; decide +kernel⟩,
    ⟨withCtx (hub 3) 0 0 { rx := { w := 3 }, asm := [1] }, .host, 0, by unfold Permitted; decide +kernel⟩,
    ⟨withCtx (hub 3) 0 3 { tx := { flush := true, w := 1, ents := [(0, { last := true })] } }, 0, 3, 1, by decide +kernel⟩,
    ⟨withCtx ((hub 3).wrn 0 ENG.CTX_CFG_FIFO_SW 1 3) 0 3 { rx := { flush := true, w := 2 } }, 0, 3, 1, by decide +kernel⟩,
    ⟨(hub 3).wrn 15 ENG.CTX_CFG_FIFO_SW 1 0, .host, 15, 0xFFFFFFFF, by unfold Permitted; decide +kernel⟩,
    ⟨(hub 3).wrn 15 ENG.CTX_CFG_FIFO_SW 1 0, .host, 15, 5, by unfold Permitted; decide +kernel⟩,
    ⟨withCtx ((hub 3).wrn 15 ENG.CTX_CFG_FIFO_SW 1 0) 15 0 { tx := { w := 16 } }, .host, 15, 5,
      by unfold Permitted; decide +kernel⟩,
    ⟨withCtx ((hub 3).wrn 15 ENG.CTX_CFG_FIFO_SW 1 0) 15 0
      { rx := { w := 1, ents := [(0, { word := 9, last := true })] } }, .host, 15, 0, by unfold Readable; decide +kernel⟩,
    ⟨(hub 3).wrn 15 ENG.CTX_CFG_FIFO_SW 1 0, .host, 15, 0, by unfold Readable; decide +kernel⟩,
    ⟨hub 3, .host, 15, 31, by unfold Permitted; decide +kernel⟩,
    ⟨{ hub 3 with engs := [(15, { snapOf := some 31, captured := some [1, 2] })] }, 15, 31, [1, 2], by decide +kernel⟩,
    ⟨ended { hub 3 with engs := [(15, { snapOf := some 31 })] } (tSnap 15), 15, 31, by decide +kernel⟩⟩

theorem witness_FramersAndProgramMemoryComplete :
    (∃ (s : State) (e c tc dest : Nat) (ws : List Word), e < 16 ∧ c < 32 ∧ s.flt.todo = [] ∧ s.isTwin = false ∧ (s.ctx e
      c).asmWhole = true ∧ (s.ctx e c).asm = ws ∧ ws.length ≤ 32 ∧ (s.ctx e c).rx.words = 0 ∧ s.rdn e ENG.CTX_CFG_HDR c = 0
      ∧ s.rdn e ENG.CTX_DEST_TC c = tc ∧ tc < 8 ∧ s.rdn e ENG.CTX_DEST_DEST c = dest ∧ nodeOf dest ≠ s.nodeId ∧ Plain s tc
      dest ∧ s.repeatOf e c tc = none ∧ Room s (4 + clusterOf e) tc) ∧
    (∃ (s : State) (f : Frame) (e c : Nat), s.ctxOf (localOf f.dest) = some (e, c) ∧ localOf f.dest < 2048 ∧ s.flt.todo =
      [] ∧ s.storeBytes (clusterOf e) + f.statedLen ≤ 65536 ∧ f.resp = false ∧ f.refuse = false ∧ f.tc ≠ 4 ∧ f.len ≠ 0 ∧
      f.len % 4 = 0 ∧ s.packetUnavail e c = false ∧ s.rdn e ENG.CTX_CFG_HDR c = 0 ∧ s.rdn e ENG.CTX_CFG_FIFO_SW c = 1) ∧
    (∃ (s : State) (f : Frame) (e c : Nat), ∃ w, s.ctxOf (localOf f.dest) = some (e, c) ∧ localOf f.dest < 2048 ∧
      s.flt.todo = [] ∧ s.storeBytes (clusterOf e) + f.statedLen ≤ 65536 ∧ f.resp = false ∧ f.refuse = false ∧ f.tc ≠ 4 ∧
      f.len ≠ 0 ∧ f.len % 4 = 0 ∧ s.packetUnavail e c = false ∧ s.rdn e ENG.CTX_CFG_HDR c = 0 ∧ s.rdn e ENG.CTX_CFG_FIFO_SW
      c = 0 ∧ (s.ctx e c).store = [] ∧ bytesWords f.payload = [w] ∧ (s.ctx e c).tx.free ≠ 0) ∧
    (∃ (s : State) (f : Frame), s.ctxOf (localOf f.dest) = none ∧ 2048 ≤ localOf f.dest ∧ s.flt.todo = [] ∧ f.resp = false
      ∧ f.refuse = false ∧ nodeOf f.src ≠ s.nodeId ∧ Plain s 4 f.src ∧ Room s 7 4) ∧
    (∃ (s : State) (e c : Nat) (q : StoredPkt) (w : Word), s.flt.todo = [] ∧ s.rdn e ENG.CTX_CFG_FIFO_SW c = 0 ∧ (s.ctx e
      c).store = [q] ∧ q.words = [w] ∧ q.done = 0 ∧ q.wack = false ∧ (s.ctx e c).tx.free ≠ 0) ∧
    (∃ (s : State) (e c : Nat) (r : ReadPend), e < 16 ∧ s.due (tRead e c) = true ∧ s.flt.todo = [] ∧ (s.ctx e c).read =
      some r ∧ r.req.resp = false ∧ r.req.refuse = false ∧ nodeOf r.req.src ≠ s.nodeId ∧ Plain s 4 r.req.src ∧ Room s (4 +
      clusterOf e) 4) ∧
    (∃ (s : State) (p : Port) (e base count : Nat), e < 16 ∧ 2048 ≤ base ∧ base < 8192 ∧ count < 128 ∧ base + count ≤ 8192
      ∧ Permitted s p (engPage e) 0xA8 (count * 65536 + base) ∧ (count = 0 ∨ s.subaClash e (s.selCtx e) base count =
      false)) ∧
    (∃ (s : State) (p : Port) (e base count : Nat), e < 16 ∧ 2048 ≤ base ∧ base < 8192 ∧ count < 128 ∧ base + count ≤ 8192
      ∧ Permitted s p (engPage e) 0xA8 (count * 65536 + base) ∧ count ≠ 0 ∧ s.subaClash e (s.selCtx e) base count = true) ∧
    (∃ (s : State) (p : Port) (e b w v : Nat), e < 16 ∧ b < 2 ∧ w < 2048 ∧ s.arrives p = true ∧ s.hostWaits p true = false
      ∧ s.judge p true (progOff e b w) v true = none ∧ (b = s.bank e → s.flagn e ENG.PB_CTRL_LIVE_WR = true) ∧ (b ≠ s.bank
      e → s.flagn e ENG.PB_STAT_SWAP_PEND = false)) ∧
    (∃ (s : State) (p : Port) (e b w v : Nat), e < 16 ∧ b < 2 ∧ w < 2048 ∧ s.arrives p = true ∧ s.hostWaits p true = false
      ∧ s.judge p true (progOff e b w) v true = none ∧ ((b = s.bank e ∧ s.flagn e ENG.PB_CTRL_LIVE_WR = false) ∨ (b ≠
      s.bank e ∧ s.flagn e ENG.PB_STAT_SWAP_PEND = true))) ∧
    (∃ (s : State) (p : Port) (e b w v : Nat), 2 ^ 24 ≤ progOff e b w) :=
  ⟨⟨withCtx (((hub 3).wrn 0 ENG.CTX_DEST_TC 1 3).wrn 0 ENG.CTX_DEST_DEST 57360 3) 0 3 { asmWhole := true, asm := [9] }, 0,
    3, 1, 57360, [9], by unfold Plain Room RoomAt; decide +kernel⟩,
    ⟨withCtx ((hub 3).wrn 0 ENG.CTX_CFG_FIFO_SW 1 3) 0 3 { run := true }, sealed_
      { tc := 1, src := 57360, dest := 40979, len := 4, payload := natb [1, 2, 3, 4] }, 0, 3, by decide +kernel⟩,
    ⟨withCtx (hub 3) 0 3 { run := true }, sealed_
      { tc := 1, src := 57360, dest := 40979, len := 4, payload := natb [1, 2, 3, 4] }, 0, 3, 0x01020304,
      by decide +kernel⟩,
    ⟨hub 3, sealed_ { tc := 1, src := 57360, dest := 43008 }, by unfold Plain Room RoomAt; decide +kernel⟩,
    ⟨withCtx (hub 3) 0 3 { store := [{ words := [7], size := 36, req := {} }] }, 0, 3,
      { words := [7], size := 36, req := {} }, 7, by decide +kernel⟩,
    ⟨ended (withCtx (hub 3) 0 3
      { read := some { req := { tc := 4, src := 57360, dest := 40979 }, tag := 1, offset := 0, count := 1 } }) (tRead 0 3),
      0, 3, { req := { tc := 4, src := 57360, dest := 40979 }, tag := 1, offset := 0, count := 1 },
      by unfold Plain Room RoomAt; decide +kernel⟩,
    ⟨hub 3, .host, 15, 8190, 2, by unfold Permitted; decide +kernel⟩,
    ⟨((hub 3).wrn 0 ENG.SUBA_BASE 2050 3).wrn 0 ENG.SUBA_COUNT 4 3, .host, 15, 2048, 3,
      by unfold Permitted; decide +kernel⟩,
    ⟨hub 3, .host, 15, 1, 2047, 5, by decide +kernel⟩,
    ⟨hub 3, .host, 15, 0, 2047, 5, by decide +kernel⟩,
    ⟨hub 3, .host, 0x4000, 0, 0, 5, by decide +kernel⟩⟩

theorem witness_PinsSlotsAndActionsComplete :
    (∃ (s : State) (e c : Nat), s.flt.todo = [] ∧ (s.ctx e c).run = true ∧ (s.ctx e c).latch = none ∧ (s.ctx e
      c).pin.frozen = false ∧ (s.ctx e c).pin.half = [] ∧ (s.ctx e c).pin.rest = [] ∧ (s.ctx e c).pin.slotTime (s.bitPeriod
      e c) (s.ctx e c).pin.slot ≤ s.fab ∧ (s.ctx e c).pin.outq = []) ∧
    (∃ (s : State) (e c : Nat), ∃ mask value rest, s.flt.todo = [] ∧ (s.ctx e c).run = true ∧ (s.ctx e c).latch = none ∧
      (s.ctx e c).pin.frozen = false ∧ (s.ctx e c).pin.half = [] ∧ (s.ctx e c).pin.rest = [] ∧ (s.ctx e c).pin.slotTime
      (s.bitPeriod e c) (s.ctx e c).pin.slot ≤ s.fab ∧ (s.ctx e c).pin.outq = { mask := mask, value := value } :: rest ∧ (∀
      p v, (s.pinIn p).ev = some v → v.at_ ≠ roundNs ((s.ctx e c).pin.slotTime (s.bitPeriod e c) (s.ctx e c).pin.slot))) ∧
    (∃ (s : State) (e c act pin : Nat) (at_ : Int) (late : Bool), (s.ctx e c).action = some (at_, act, pin, late) ∧ (late =
      true ∨ at_ ≤ (s.fab : Int)) ∧ ((s.ctx e c).run = false ∨ (s.ctx e c).pin.frozen = true)) ∧
    (∃ (s : State) (e c act pin : Nat) (at_ : Int) (late : Bool), (s.ctx e c).action = some (at_, act, pin, late) ∧ (late =
      true ∨ at_ ≤ (s.fab : Int)) ∧ (s.ctx e c).run = true ∧ (s.ctx e c).pin.frozen = false ∧ act = 4) ∧
    (∃ (s : State) (e c act pin : Nat) (at_ : Int) (late : Bool), (s.ctx e c).action = some (at_, act, pin, late) ∧ (late =
      true ∨ at_ ≤ (s.fab : Int)) ∧ (s.ctx e c).run = true ∧ (s.ctx e c).pin.frozen = false ∧ pin < 8 ∧ pin < (s.ctx e
      c).pin.cnt ∧ act = 3) ∧
    (∃ (s : State) (e c act pin : Nat) (at_ : Int) (late : Bool), (s.ctx e c).action = some (at_, act, pin, late) ∧ (late =
      true ∨ at_ ≤ (s.fab : Int)) ∧ (s.ctx e c).run = true ∧ (s.ctx e c).pin.frozen = false ∧ pin < 8 ∧ pin < (s.ctx e
      c).pin.cnt ∧ (act = 0 ∨ act = 1) ∧ (∀ v, (s.pinIn ((s.ctx e c).pin.base + pin)).ev = some v → v.set = none)) ∧
    (∃ (s : State) (pin : Nat) (level : Bool), pin < 256 ∧ (s.pinIn pin).ball ≠ level ∧ s.pageOn (0x50 + pin / 32) = true ∧
      level ≠ (s.pinIn pin).filt) ∧
    (∃ (s : State) (pin : Nat) (level : Bool), ∃ m f, pin < 256 ∧ (s.pinIn pin).ball ≠ level ∧ s.pageOn (0x50 + pin / 32) =
      true ∧ level = (s.pinIn pin).filt ∧ (s.pinIn pin).since = some (m, f) ∧ firstSample m < s.mono ∧ s.mono < firstSample
      m + 80 * s.filterLen pin) ∧
    (∃ (s : State) (pin : Nat) (level : Bool), ∃ m f, pin < 256 ∧ (s.pinIn pin).ball ≠ level ∧ s.pageOn (0x50 + pin / 32) =
      true ∧ level = (s.pinIn pin).filt ∧ (s.pinIn pin).since = some (m, f) ∧ firstSample m < s.mono ∧ firstSample m + 80 *
      s.filterLen pin ≤ s.mono) ∧
    (∃ (s : State) (pin m f : Nat), (s.pinIn pin).since = some (m, f) ∧ firstSample m + 80 * s.filterLen pin ≤ s.mono ∧
      s.pageOn (0x50 + pin / 32) = true ∧ s.stampSel pin (s.pinIn pin).ball = false) ∧
    (∃ (s : State) (pin m f : Nat), ∃ e c, (s.pinIn pin).since = some (m, f) ∧ firstSample m + 80 * s.filterLen pin ≤
      s.mono ∧ s.pageOn (0x50 + pin / 32) = true ∧ s.stampSel pin (s.pinIn pin).ball = true ∧ s.bankOk pin = true ∧ c < 32
      ∧ s.holder pin = some (32 * e + c) ∧ (s.ctx e c).pev = false) ∧
    (∃ (s : State) (b : Nat), b < 8 ∧ s.pageOn (0x50 + b) = true ∧ s.flt.todo = [] ∧ bitOf (s.rdn (0x50 + b)
      HDR.FLT_STAT_CHECKERS) 0 = false) :=
  ⟨⟨{ withCtx ((hub 3).wrn 0 ENG.CTX_BITPER_PERIOD 256 3) 0 3 { run := true, pin := { held := true, base := 0, cnt := 2, origin := 0, slot := 3 } } with pins := [(1, { filt := true })] },
    0, 3, by decide +kernel⟩,
    ⟨withCtx ((hub 3).wrn 0 ENG.CTX_BITPER_PERIOD 256 3) 0 3
      { run := true, pin := { held := true, base := 0, cnt := 2, outq := [{ mask := 3, value := 2 }] } }, 0, 3, 3, 2, ([] :
      List PinSlot), ⟨by decide, by decide, by decide, by decide, by decide, by decide, by decide, rfl, fun p v h =>
      nomatch h⟩⟩,
    ⟨withCtx (hub 3) 0 3 { action := some (5, 1, 0, false) }, 0, 3, 1, 0, 5, false, by decide +kernel⟩,
    ⟨withCtx (hub 3) 0 3 { run := true, action := some (5, 4, 7, false) }, 0, 3, 4, 7, 5, false, by decide +kernel⟩,
    ⟨withCtx (hub 3) 0 3 { run := true, action := some (5, 3, 1, false), pin := { held := true, base := 0, cnt := 2 } }, 0,
      3, 3, 1, 5, false, by decide +kernel⟩,
    ⟨withCtx (hub 3) 0 3 { run := true, action := some (5, 1, 1, false), pin := { held := true, base := 0, cnt := 2 } }, 0,
      3, 1, 1, 5, false, by refine ⟨?_, ?_, ?_, ?_, ?_, ?_, ?_, fun v h => nomatch h⟩ <;> decide +kernel⟩,
    ⟨hub 3, 255, true, by decide +kernel⟩,
    ⟨{ (hub 3).wrn 7 PINBANK.PIN_CFG_FLT_WIDTH 3 31 with pins := [(255, { ball := true, since := some (ms 1000000 - 160, 4) })] },
      255, false, ms 1000000 - 160, 4, by decide +kernel⟩,
    ⟨{ hub 3 with pins := [(255, { ball := true, since := some (80, 4) })] }, 255, false, 80, 4, by decide +kernel⟩,
    ⟨{ hub 3 with pins := [(255, { ball := true, since := some (80, 4) })] }, 255, 80, 4, by decide +kernel⟩,
    ⟨{ withCtx (((hub 3).wrn 0 PINBANK.PIN_CFG_STAMP 1 1).wrn 0 PINBANK.BANK_STAT_SUPPLY_OK 1) 0 3 { pin := { held := true, base := 0, cnt := 2 } } with pins := [(1, { ball := true, since := some (80, fns 7) })] },
      1, 80, fns 7, 0, 3, by decide +kernel⟩,
    ⟨hub 3, 7, by decide +kernel⟩⟩

theorem witness_HostAccessesCrossTheBridgeAndEnd :
    (∃ (s : State) (off : Nat) (data : List Byte), off < 2 ^ 29 ∧ s.hostUp = true ∧ s.flt.todo = [] ∧ BridgeIdle s ∧
      s.isTwin = false ∧ s.carries off data.length true = true ∧ data.length ≤ 128 ∧ nodeOf (addrEp (s.fabricAddr off)) ≠
      s.nodeId ∧ Plain s 4 (addrEp (s.fabricAddr off)) ∧ Room s 3 4) ∧
    (∃ (s : State) (off : Nat) (data : List Byte), ∃ whole, off < 2 ^ 29 ∧ s.hostUp = true ∧ s.flt.todo = [] ∧ BridgeIdle s
      ∧ s.isTwin = false ∧ (s.carries off data.length whole = false ∨ 256 < data.length)) ∧
    (∃ (s : State) (off : Nat) (data : List Byte) (whole : Bool) (host len : Nat), 2 ^ 29 ≤ off) ∧
    (∃ (s : State) (off host len : Nat), off < 2 ^ 29 ∧ s.hostUp = true ∧ s.flt.todo = [] ∧ BridgeIdle s ∧ s.isTwin = false
      ∧ s.carries off len true = true ∧ len ≤ 256 ∧ s.flag BRIDGE.WIN_CFG_PREFETCH (off / 2 ^ 22) = false ∧ nodeOf (addrEp
      (s.fabricAddr off)) ≠ s.nodeId ∧ Plain s 4 (addrEp (s.fabricAddr off)) ∧ Room s 3 4) ∧
    (∃ (s : State) (f : Frame) (a : Access) (r : Req), s.pageOn 0x14 = true ∧ s.flt.todo = [] ∧ s.buf.lost = [] ∧
      s.bridge.intake = [] ∧ f.refuse = false ∧ parseAccess f = some a ∧ s.bridge.reqs = [r] ∧ r.tag = a.tag ∧ r.gone =
      true ∧ r.fenced = false ∧ a.op = 0x81 ∧ r.kind = 0) ∧
    (∃ (s : State) (f : Frame) (a : Access) (r : Req), ∃ h, s.pageOn 0x14 = true ∧ s.flt.todo = [] ∧ s.buf.lost = [] ∧
      s.bridge.intake = [] ∧ f.refuse = false ∧ parseAccess f = some a ∧ s.bridge.reqs = [r] ∧ r.tag = a.tag ∧ r.gone =
      true ∧ r.fenced = false ∧ a.op = 0x82 ∧ r.kind = 1 ∧ r.pf = false ∧ s.bridge.reads = [h] ∧ r.read = h.id ∧ h.missing
      = 1 ∧ h.parts = []) ∧
    (∃ (s : State) (f : Frame) (a : Access), s.pageOn 0x14 = true ∧ s.flt.todo = [] ∧ s.buf.lost = [] ∧ s.bridge.intake =
      [] ∧ s.bridge.reqs = [] ∧ f.refuse = false ∧ parseAccess f = some a) ∧
    (∃ (s : State) (f : Frame) (r : Req), s.pageOn 0x14 = true ∧ s.flt.todo = [] ∧ s.buf.lost = [] ∧ s.bridge.intake = [] ∧
      f.refuse = true ∧ s.bridge.reqs = [r] ∧ r.kind = 0 ∧ r.left.isSome = true ∧ r.fenced = false ∧ r.seq = ofBe (((bnat
      f.payload).drop 2).take 2) ∧ addrEp r.addr = ofBe (((bnat f.payload).drop 4).take 4) % 2 ^ 25 ∧ s.rd
      BRIDGE.PWE_STAT_VALID = 0) ∧
    (∃ (s : State) (tag at_ : Nat) (r : Req) (h : HeldRead), s.flt.todo = [] ∧ s.buf.lost = [] ∧ s.bridge.intake = [] ∧
      s.bridge.reqs = [r] ∧ s.bridge.reads = [h] ∧ r.tag = tag ∧ r.kind = 1 ∧ r.read = h.id ∧ r.left = some at_ ∧ at_ +
      s.rdTmo ≤ s.mono) ∧
    (∃ (s : State) (r : Req), s.flt.todo = [] ∧ s.buf.lost = [] ∧ s.bridge.intake = [] ∧ s.bridge.reqs = [r] ∧ r.kind = 0 ∧
      r.fenced = false ∧ r.at_ + s.pwTmo ≤ s.mono ∧ s.rd BRIDGE.PWE_STAT_VALID = 0) ∧
    (∃ (s : State) (l : Line), s.bridge.lines = [l] ∧ l.at_ + us 50 ≤ s.mono) :=
  ⟨⟨bridged 127, 127 * 2 ^ 22 + 8, natb [1, 2, 3, 4], by unfold BridgeIdle Plain Room RoomAt; decide +kernel⟩,
    ⟨bridged 126, 127 * 2 ^ 22, natb [1, 2, 3, 4], true, by unfold BridgeIdle; decide +kernel⟩,
    ⟨hub 3, 2 ^ 29, natb [1, 2, 3, 4], true, 1, 4, by decide +kernel⟩,
    ⟨bridged 127, 127 * 2 ^ 22 + 8, 1, 248, by unfold BridgeIdle Plain Room RoomAt; decide +kernel⟩,
    ⟨asked [{ kind := 0, tag := 9, win := 127, addr := 57344 * 2 ^ 24, gone := true, left := some 5 }], access 0x81 9 0 0
      (5 * 8192), { op := 0x81, flags := 0, tag := 9, offset := 0, count := 0, data := [] },
      { kind := 0, tag := 9, win := 127, addr := 57344 * 2 ^ 24, gone := true, left := some 5 }, by decide +kernel⟩,
    ⟨asked [{ kind := 1, tag := 9, win := 127, addr := 57344 * 2 ^ 24, gone := true, left := some 5, read := 3 }]
      [{ id := 3, host := 2, win := 127, addr := 57344 * 2 ^ 24, len := 4, ones := false, at_ := 1, missing := 1 }], access
      0x82 9 0 4 (5 * 8192) [1, 2, 3, 4],
      { op := 0x82, flags := 0, tag := 9, offset := 0, count := 4, data := natb [1, 2, 3, 4] },
      { kind := 1, tag := 9, win := 127, addr := 57344 * 2 ^ 24, gone := true, left := some 5, read := 3 },
      ({ id := 3, host := 2, win := 127, addr := 57344 * 2 ^ 24, len := 4, ones := false, at_ := 1, missing := 1 } :
      HeldRead), by decide +kernel⟩,
    ⟨bridged 127, access 0x81 9 0 0 (5 * 8192), { op := 0x81, flags := 0, tag := 9, offset := 0, count := 0, data := [] },
      by decide +kernel⟩,
    ⟨asked [{ kind := 0, tag := 9, win := 127, addr := 57344 * 2 ^ 24, gone := true, left := some 5, seq := 258 }], sealed_
      { tc := 4, refuse := true, src := 7 * 8192, dest := 5 * 8192, len := 8, payload := natb [1, 0, 1, 2, 0, 0, 224, 0] },
      { kind := 0, tag := 9, win := 127, addr := 57344 * 2 ^ 24, gone := true, left := some 5, seq := 258 },
      by decide +kernel⟩,
    ⟨asked [{ kind := 1, tag := 9, win := 127, addr := 57344 * 2 ^ 24, gone := true, left := some 5, read := 3 }]
      [{ id := 3, host := 2, win := 127, addr := 57344 * 2 ^ 24, len := 4, ones := false, at_ := 1, missing := 1 }], 9, 5,
      { kind := 1, tag := 9, win := 127, addr := 57344 * 2 ^ 24, gone := true, left := some 5, read := 3 },
      { id := 3, host := 2, win := 127, addr := 57344 * 2 ^ 24, len := 4, ones := false, at_ := 1, missing := 1 },
      by decide +kernel⟩,
    ⟨asked [{ kind := 0, tag := 9, win := 127, addr := 57344 * 2 ^ 24, gone := true, left := some 5 }],
      { kind := 0, tag := 9, win := 127, addr := 57344 * 2 ^ 24, gone := true, left := some 5 }, by decide +kernel⟩,
    ⟨{ hub 3 with bridge := { lines := [{ win := 127, addr := 256, data := natb [1], at_ := 1 }] } },
      { win := 127, addr := 256, data := natb [1], at_ := 1 }, by decide +kernel⟩⟩

end Sys2Proof.Tests
end

