-- ==== Sys2Proof/Tests/WitnessC.lean ====
section
/-! SUPPORT. For every statement with hypotheses, concrete states and operands that meet them, clause by clause. -/

set_option Elab.async false

namespace Sys2Proof.Tests

open Sys2Proof Sys2Proof.Machine Sys2Proof.Safety

set_option maxRecDepth 4000
set_option linter.unusedVariables false

theorem witness_FencesPollsRingsAndManagementComplete :
    (∃ (s : State) (p : Port) (w : Nat), w < 128 ∧ Permitted s p 0x14 0x60 (w * 65536 + 1) ∧ s.rd BRIDGE.FENCE_STAT_STATUS
      ≠ 1 ∧ (∀ r ∈ s.bridge.reqs, r.kind = 0 → r.win ≠ w)) ∧
    (∃ (s : State) (p : Port) (w : Nat), w < 128 ∧ Permitted s p 0x14 0x60 (w * 65536 + 1) ∧ s.rd BRIDGE.FENCE_STAT_STATUS
      ≠ 1 ∧ (∃ r ∈ s.bridge.reqs, r.kind = 0 ∧ r.win = w) ∧ s.flag BRIDGE.WIN_CFG_NONPOSTED w = false) ∧
    (∃ (s : State) (p : Port) (w : Nat), w < 128 ∧ Permitted s p 0x14 0x60 (w * 65536 + 2) ∧ s.rd BRIDGE.FENCE_STAT_STATUS
      = 1) ∧
    (∃ (s : State) (p : Port) (w : Nat), w < 128 ∧ Permitted s p 0x14 0x60 (w * 65536 + 2) ∧ s.rd BRIDGE.FENCE_STAT_STATUS
      = 2) ∧
    (∃ (s : State) (p : Port) (w : Nat), w < 128 ∧ Permitted s p 0x14 0x68 (w * 65536 + 1) ∧ (∀ h ∈ s.bridge.reads, h.win ≠
      w) ∧ (∀ e ∈ s.bridge.ended, e.1 = w → e.2 ≠ s.mono / 64)) ∧
    (∃ (s : State) (p : Port) (w : Nat) (e : Nat × Nat), w < 128 ∧ Permitted s p 0x14 0x68 (w * 65536 + 1) ∧ e ∈
      s.bridge.ended ∧ e.1 = w ∧ e.2 = s.mono / 64 ∧ (∀ h ∈ s.bridge.reads, h.win ≠ w)) ∧
    (∃ (s : State) (p : Port) (w : Nat), ∃ h, w < 128 ∧ Permitted s p 0x14 0x68 (w * 65536 + 1) ∧ s.bridge.reads = [h] ∧
      h.win = w) ∧
    (∃ (s : State) (p : Port), Permitted s p 0x14 0x74 1) ∧
    (∃ (s : State) (p : Port), Permitted s p 0x14 0x7C 1) ∧
    (∃ (s : State) (p : Port), Permitted s p 0x15 0x74 1) ∧
    (∃ (s : State) (i : Nat), s.pageOn 0x15 = true ∧ s.fenced 0x15 = false ∧ i < 1024 ∧ s.pollIsDue i = true ∧ (∀ j, j < i
      → s.pollIsDue j = false) ∧ (s.poll i).tag.isSome = true) ∧
    (∃ (s : State) (i : Nat), ∃ a, s.pageOn 0x15 = true ∧ s.fenced 0x15 = false ∧ i < 1024 ∧ s.pollIsDue i = true ∧ (∀ j, j
      < i → s.pollIsDue j = false) ∧ (s.poll i).tag = none ∧ s.flt.todo = [] ∧ BridgeIdle s ∧ s.isTwin = false ∧ a = s.rd
      POLL.PE_ADDR_HI_ADDR i * 2 ^ 32 + s.rd POLL.PE_ADDR_LO_ADDR i * 4 ∧ nodeOf (addrEp a) ≠ s.nodeId ∧ Plain s 4 (addrEp
      a) ∧ Room s 3 4) ∧
    (∃ (s : State) (f : Frame) (buf r : Nat), s.hostUp = true ∧ r = s.rd BRIDGE.RX_MAP_RING f.tc ∧ s.flag BRIDGE.RXR_CFG_EN
      r = true ∧ s.rd BRIDGE.RXR_HEAD_INDEX r ≠ s.rd BRIDGE.RXR_TAIL_INDEX r ∧ 32 + f.payload.length ≤ s.rd
      BRIDGE.RXR_CFG_BUF_LEN r) ∧
    (∃ (s : State) (f : Frame) (buf r : Nat), s.hostUp = true ∧ r = s.rd BRIDGE.RX_MAP_RING f.tc ∧ s.flag BRIDGE.RXR_CFG_EN
      r = false) ∧
    (∃ (s : State) (n : Nat) (image : List Byte) (f : Frame), s.hostUp = true ∧ s.txTurn = some n ∧ s.flt.todo = [] ∧
      BridgeIdle s ∧ s.isTwin = false ∧ s.bridge.txWait = [] ∧ f = s.imageFrame image ∧ f.badHeader = false ∧ image.length
      = 32 + f.len ∧ f.len ≤ 220 ∧ f.tc ≠ 1 ∧ f.tc ≠ 4 ∧ f.tc ≠ 7 ∧ nodeOf f.dest ≠ s.nodeId ∧ Plain s f.tc f.dest ∧ Room s
      3 f.tc) ∧
    (∃ (s : State) (n : Nat) (image : List Byte) (f : Frame), s.hostUp = true ∧ s.txTurn = some n ∧ s.flt.todo = [] ∧
      BridgeIdle s ∧ s.isTwin = false ∧ s.bridge.txWait = [] ∧ f = s.imageFrame image ∧ f.badHeader = true) ∧
    (∃ (s : State) (f : Frame) (a : Access), s.pageOn 0x16 = true ∧ f.tc = 4 ∧ localOf f.dest = 0 ∧ f.resp = false ∧
      f.refuse = false ∧ s.isTwin = false ∧ Settled s ∧ parseAccess f = some a ∧ a.good f = true ∧ a.op = 1 ∧ a.data.length
      = 4 ∧ nodeOf f.src ≠ s.nodeId ∧ Plain s 4 f.src ∧ Room s 7 4 ∧ a.offset = 0x128 ∧ s.judge (s.arrivalPort f) true
      0x128 (ofLe (bnat a.data)) true = none) ∧
    (∃ (s : State) (f : Frame) (a : Access), ∃ c, s.pageOn 0x16 = true ∧ f.tc = 4 ∧ localOf f.dest = 0 ∧ f.resp = false ∧
      f.refuse = false ∧ s.isTwin = false ∧ Settled s ∧ parseAccess f = some a ∧ a.good f = true ∧ a.op = 1 ∧ a.data.length
      = 4 ∧ nodeOf f.src ≠ s.nodeId ∧ Plain s 4 f.src ∧ Room s 7 4 ∧ s.judge (s.arrivalPort f) true a.offset (ofLe (bnat
      a.data)) true = some c ∧ c ≠ 5) ∧
    (∃ (s : State) (p : Port) (node v : Nat), Permitted s p 0x16 0x4C v) :=
  ⟨⟨asked [{ kind := 0, tag := 9, win := 126, addr := 57344 * 2 ^ 24, gone := true }], .host, 127,
    by unfold Permitted; decide +kernel⟩,
    ⟨asked [{ kind := 0, tag := 9, win := 127, addr := 57344 * 2 ^ 24, gone := true }], .host, 127,
      by unfold Permitted; decide +kernel⟩,
    ⟨{ (bridged 127).wr BRIDGE.FENCE_STAT_STATUS 1 with bridge := { fence := some 127 } }, .host, 127,
      by unfold Permitted; decide +kernel⟩,
    ⟨(bridged 127).wr BRIDGE.FENCE_STAT_STATUS 2, .host, 127, by unfold Permitted; decide +kernel⟩,
    ⟨asked []
      [{ id := 3, host := 2, win := 126, addr := 57344 * 2 ^ 24, len := 4, ones := false, at_ := 1, missing := 1 }], .host,
      127, by unfold Permitted; decide +kernel⟩,
    ⟨{ bridged 127 with bridge := { ended := [(127, (bridged 127).mono / 64)] } }, .host, 127, (127, (bridged 127).mono /
      64), by unfold Permitted; decide +kernel⟩,
    ⟨asked [{ kind := 1, tag := 9, win := 127, addr := 57344 * 2 ^ 24, gone := true, left := some 5, read := 3 }]
      [{ id := 3, host := 2, win := 127, addr := 57344 * 2 ^ 24, len := 4, ones := false, at_ := 1, missing := 1 }], .host,
      127, ({ id := 3, host := 2, win := 127, addr := 57344 * 2 ^ 24, len := 4, ones := false, at_ := 1, missing := 1 } :
      HeldRead), by unfold Permitted; decide +kernel⟩,
    ⟨(bridged 127).wr BRIDGE.PWE_STAT_VALID 3, .host, by unfold Permitted; decide +kernel⟩,
    ⟨(bridged 127).wr BRIDGE.PFD_STAT_VALID 3, .host, by unfold Permitted; decide +kernel⟩,
    ⟨{ hub 3 with bridge := { cq := [{ kind := 1, code := 0, index := 3, value := 4, ns := 5 }] } }, .host,
      by unfold Permitted; decide +kernel⟩,
    ⟨{ (((hub 3).wr POLL.PE_CFG_EN 1 1023).wr POLL.PE_CFG_PERIOD 100 1023) with bridge := { polls := [(1023, { tag := some 3 })] } },
      1023, by decide +kernel⟩,
    ⟨((hub 3).wr POLL.PE_CFG_EN 1 0).wr POLL.PE_ADDR_HI_ADDR 224 0, 0, 57344 * 2 ^ 24,
      by unfold BridgeIdle Plain Room RoomAt; decide +kernel⟩,
    ⟨((bridged 127).wr BRIDGE.RXR_CFG_EN 1 6).wr BRIDGE.RXR_TAIL_INDEX 5 6, sealed_
      { tc := 6, src := 7 * 8192, dest := 5 * 8192, len := 4, payload := natb [1, 2, 3, 4] }, 0x10000, 6,
      by decide +kernel⟩,
    ⟨bridged 127, sealed_ { tc := 6, src := 7 * 8192, dest := 5 * 8192, len := 4, payload := natb [1, 2, 3, 4] }, 0x10000,
      6, by decide +kernel⟩,
    ⟨((bridged 127).wr BRIDGE.TXR_CFG_EN 1 7).wr BRIDGE.TXR_TAIL_INDEX 5 7, 7, natb ([5, 0, 0, 0, 224, 0] ++ zeros 14 ++
      [0, 4] ++ zeros 10 ++ [1, 2, 3, 4]), (bridged 127).imageFrame (natb ([5, 0, 0, 0, 224, 0] ++ zeros 14 ++ [0, 4] ++
      zeros 10 ++ [1, 2, 3, 4])), by unfold BridgeIdle Plain Room RoomAt; decide +kernel⟩,
    ⟨((bridged 127).wr BRIDGE.TXR_CFG_EN 1 7).wr BRIDGE.TXR_TAIL_INDEX 5 7, 7, natb ([5, 0, 0, 0, 224, 0] ++ zeros 14 ++
      [31, 255] ++ zeros 10 ++ [1, 2, 3, 4]), (bridged 127).imageFrame (natb ([5, 0, 0, 0, 224, 0] ++ zeros 14 ++ [31, 255]
      ++ zeros 10 ++ [1, 2, 3, 4])), by unfold BridgeIdle; decide +kernel⟩,
    ⟨hub 3, access 1 9 0x128 0 (5 * 8192) [0, 0, 0, 7],
      { op := 1, flags := 0, tag := 9, offset := 0x128, count := 0, data := natb [0, 0, 0, 7] },
      by unfold Settled Plain Room RoomAt; decide +kernel⟩,
    ⟨hub 3, access 1 9 0x5B040 0 (5 * 8192) [0, 0, 0, 7],
      { op := 1, flags := 0, tag := 9, offset := 0x5B040, count := 0, data := natb [0, 0, 0, 7] }, 1,
      by unfold Settled Plain Room RoomAt; decide +kernel⟩,
    ⟨hub 3, .host, 7, 0xFFFFFFFF, by unfold Permitted; decide +kernel⟩⟩

theorem witness_CanFramesAreRequestedSentAndStored :
    (∃ (s : State) (n : Nat) (f : CanFrame) (ns sec : Nat), ∃ b, s.canHears n = true ∧ (s.canU n).tx = none ∧ s.flt.todo =
      [] ∧ (f.fdf = true → s.flagn n CAN.CTRL_FD_EN = true) ∧ s.rdn n CAN.ERR_TEC ≤ 127 ∧ s.rdn n CAN.ERR_REC ≤ 127 ∧ f.rtr
      = false ∧ s.canMatch n f = some b ∧ s.flagn n CAN.MB_DEST_FWD b = false) ∧
    (∃ (s : State) (n : Nat) (f : CanFrame) (ns sec : Nat), ∃ b, s.canHears n = true ∧ (s.canU n).tx = none ∧ s.flt.todo =
      [] ∧ (f.fdf = true → s.flagn n CAN.CTRL_FD_EN = true) ∧ s.rdn n CAN.ERR_TEC ≤ 127 ∧ s.rdn n CAN.ERR_REC ≤ 127 ∧ f.rtr
      = false ∧ s.canMatch n f = some b ∧ s.flagn n CAN.MB_DEST_FWD b = true ∧ s.isTwin = false ∧ nodeOf (s.rdn n
      CAN.MB_DEST_DEST b) ≠ s.nodeId ∧ Plain s (s.rdn n CAN.MB_DEST_TC b) (s.rdn n CAN.MB_DEST_DEST b) ∧ Room s 6 (s.rdn n
      CAN.MB_DEST_TC b)) ∧
    (∃ (s : State) (n : Nat) (f : CanFrame) (ns sec : Nat), s.canHears n = true ∧ (s.canU n).tx = none ∧ s.flt.todo = [] ∧
      (f.fdf = true → s.flagn n CAN.CTRL_FD_EN = true) ∧ s.rdn n CAN.ERR_TEC ≤ 127 ∧ s.rdn n CAN.ERR_REC ≤ 127 ∧ (f.rtr =
      true ∨ s.canMatch n f = none)) ∧
    (∃ (s : State) (p : Port) (n b : Nat), n < 4 ∧ b = s.rdn n CAN.MB_SEL_BUFFER ∧ s.flt.todo = [] ∧ Permitted s p (0x40 +
      n) 0x70 (s.canCtl n + 2 ^ 19)) ∧
    (∃ (s : State) (p : Port) (n b : Nat), n < 4 ∧ b = s.rdn n CAN.MB_SEL_BUFFER ∧ s.flt.todo = [] ∧ Permitted s p (0x40 +
      n) 0x70 (s.canCtl n + 2 ^ 20)) ∧
    (∃ (s : State) (n b : Nat), s.canSends n = true ∧ (s.canU n).tx = none ∧ (s.canU n).exc = none ∧ s.flt.todo = [] ∧
      s.flagn n CAN.CYC_CFG_EN = false ∧ s.canOffer n = some b) ∧
    (∃ (s : State) (n loop : Nat) (x : CanTx), s.canOn n = true ∧ (s.canU n).tx = some x ∧ s.flt.todo = [] ∧ s.canSends n =
      true ∧ s.rdn n CAN.CTRL_MODE = 1 ∧ s.rdn n CAN.ERR_TEC ≤ 128 ∧ s.rdn n CAN.ERR_REC ≤ 127) ∧
    (∃ (s : State) (n loop : Nat) (x : CanTx), ∃ ok, s.canOn n = true ∧ (s.canU n).tx = some x ∧ s.flt.todo = [] ∧ (ok =
      false ∨ s.canSends n = false) ∧ x.exc = false) ∧
    (∃ (s : State) (n loop : Nat) (x : CanTx), ∃ ok, s.canOn n = true ∧ (s.canU n).tx = some x ∧ s.flt.todo = [] ∧ (ok =
      false ∨ s.canSends n = false) ∧ x.exc = true) ∧
    (∃ (s : State) (n b : Nat) (f : Frame) (a : Access), n < 4 ∧ b < 64 ∧ localOf f.dest = 1024 + 64 * n + b ∧ f.tc = 4 ∧
      f.resp = false ∧ f.refuse = false ∧ parseAccess f = some a ∧ a.good f = true ∧ a.offset = 0 ∧ s.canOn n = true ∧
      s.fenced (0x40 + n) = false ∧ s.flagn n CAN.MB_CFG_EN b = true ∧ s.flt.todo = [] ∧ s.isTwin = false ∧ nodeOf f.src ≠
      s.nodeId ∧ Plain s 4 f.src ∧ Room s 6 4 ∧ a.op = 2 ∧ bitOf a.flags 0 = false ∧ a.count = (s.mbPayload n b).length) ∧
    (∃ (s : State) (n b : Nat) (f : Frame) (a : Access), n < 4 ∧ b < 64 ∧ localOf f.dest = 1024 + 64 * n + b ∧ f.tc = 4 ∧
      f.resp = false ∧ f.refuse = false ∧ parseAccess f = some a ∧ a.good f = true ∧ a.offset = 0 ∧ s.canOn n = true ∧
      s.fenced (0x40 + n) = false ∧ s.flagn n CAN.MB_CFG_EN b = true ∧ s.flt.todo = [] ∧ s.isTwin = false ∧ nodeOf f.src ≠
      s.nodeId ∧ Plain s 4 f.src ∧ Room s 6 4 ∧ a.op = 1 ∧ s.canIsTx n b false = true ∧ s.flagn n CAN.MB_CTRL_TX_REQ b =
      false ∧ 8 ≤ a.data.length ∧ a.data.length = 8 + up4 (dlcBytes (bitOf (ofBe (((bnat a.data).drop 4).take 4)) 4) (ofBe
      (((bnat a.data).drop 4).take 4) % 16))) :=
  ⟨⟨box (bus 3 1 2) 3 63 false false, 3, { id := 0, dlc := 1, data := natb [9] }, 5, 6, 63, by decide +kernel⟩,
    ⟨((box (bus 3 1 2) 3 63 false false).wrn 3 CAN.MB_DEST_FWD 1 63).wrn 3 CAN.MB_DEST_DEST 57344 63, 3,
      { id := 0, dlc := 1, data := natb [9] }, 5, 6, 63, by unfold Plain Room RoomAt; decide +kernel⟩,
    ⟨box (bus 3 1 2) 3 63 false false, 3, { id := 1, dlc := 1, data := natb [9] }, 5, 6, by decide +kernel⟩,
    ⟨(box (bus 3 1 2) 3 63 true false).wrn 3 CAN.MB_SEL_BUFFER 63, .host, 3, 63, by unfold Permitted; decide +kernel⟩,
    ⟨((box (bus 3 1 2) 3 63 true false).wrn 3 CAN.MB_SEL_BUFFER 63).wrn 3 CAN.MB_CTRL_TX_REQ 1 63, .host, 3, 63,
      by unfold Permitted; decide +kernel⟩,
    ⟨(box (bus 3 1 2) 3 63 true false).wrn 3 CAN.MB_CTRL_TX_REQ 1 63, 3, 63, by decide +kernel⟩,
    ⟨sending false, 3, 12, { buf := 63, exc := false, frame := { id := 5 } }, by decide +kernel⟩,
    ⟨sending false, 3, 12, { buf := 63, exc := false, frame := { id := 5 } }, false, by decide +kernel⟩,
    ⟨sending true, 3, 12, { buf := 63, exc := true, frame := { id := 5 } }, false, by decide +kernel⟩,
    ⟨box (bus 3 1 2) 3 63 false false, 3, 63, access 2 9 0 16 (5 * 8192 + 1024 + 64 * 3 + 63),
      { op := 2, flags := 0, tag := 9, offset := 0, count := 16, data := [] },
      by unfold Plain Room RoomAt; decide +kernel⟩,
    ⟨box (bus 3 1 2) 3 63 true false, 3, 63, access 1 9 0 0 (5 * 8192 + 1024 + 64 * 3 + 63) [0, 0, 0, 5, 0, 0, 0, 1, 7, 0,
      0, 0], { op := 1, flags := 0, tag := 9, offset := 0, count := 0, data := natb [0, 0, 0, 5, 0, 0, 0, 1, 7, 0, 0, 0] },
      by unfold Plain Room RoomAt; decide +kernel⟩⟩

theorem witness_CanModesErrorsSleepAndMatrixComplete :
    (∃ (s : State) (p : Port) (n m : Nat), n < 4 ∧ m < 4 ∧ s.flt.todo = [] ∧ Permitted s p (0x40 + n) 0x40 (s.canCtrl n m))
      ∧
    (∃ (s : State) (n : Nat), s.canOn n = true ∧ s.rdn n CAN.CTRL_MODE ≠ 0 ∧ s.rdn n CAN.STAT_BUS = 1 ∧ s.rdn n CAN.ERR_TEC
      ≤ 127 ∧ s.rdn n CAN.ERR_REC ≤ 127) ∧
    (∃ (s : State) (n : Nat), s.canOn n = true ∧ s.rdn n CAN.STAT_BUS = 5 ∧ s.flt.todo = []) ∧
    (∃ (s : State) (n : Nat), s.canOn n = true ∧ s.flagn n CAN.CTRL_SLEEP = true ∧ (s.canU n).tx = none ∧ s.rdn n
      CAN.CTRL_MODE ≠ 0 ∧ 1 ≤ s.rdn n CAN.STAT_BUS ∧ s.rdn n CAN.STAT_BUS ≤ 3) ∧
    (∃ (s : State) (n err : Nat) (heavy exempt : Bool), s.canOn n = true ∧ s.rdn n CAN.CTRL_MODE ≠ 0 ∧ s.flt.todo = [] ∧
      (s.rdn n CAN.STAT_BUS = 2 ∨ s.rdn n CAN.STAT_BUS = 3) ∧ 1 ≤ err ∧ err ≤ 6 ∧ (s.canU n).tx = none ∧ s.rdn n
      CAN.ERR_TEC ≤ 255) ∧
    (∃ (s : State) (n err : Nat) (heavy exempt : Bool), ∃ x, s.canOn n = true ∧ s.rdn n CAN.CTRL_MODE ≠ 0 ∧ s.flt.todo = []
      ∧ (s.rdn n CAN.STAT_BUS = 2 ∨ s.rdn n CAN.STAT_BUS = 3) ∧ 1 ≤ err ∧ err ≤ 6 ∧ (s.canU n).tx = some x ∧ exempt = false
      ∧ 247 < s.rdn n CAN.ERR_TEC) ∧
    (∃ (s : State) (p : Port) (n : Nat), n < 4 ∧ s.flt.todo = [] ∧ Permitted s p (0x40 + n) 0x40 (s.canCtrl n (s.rdn n
      CAN.CTRL_MODE) + 2 ^ 5)) ∧
    (∃ (s : State) (p : Port) (n : Nat), n < 4 ∧ s.flt.todo = [] ∧ Permitted s p (0x40 + n) 0x40 (s.canCtrl n (s.rdn n
      CAN.CTRL_MODE) + 2 ^ 6) ∧ s.rdn n CAN.STAT_BUS ≠ 6) ∧
    (∃ (s : State) (p : Port) (n : Nat), n < 4 ∧ s.flt.todo = [] ∧ Permitted s p (0x40 + n) 0x40 (s.canCtrl n (s.rdn n
      CAN.CTRL_MODE) + 2 ^ 7) ∧ s.rdn n CAN.STAT_BUS = 6) ∧
    (∃ (s : State) (p : Port) (n : Nat), n < 4 ∧ s.flt.todo = [] ∧ Permitted s p (0x40 + n) 0xCC 1) ∧
    (∃ (s : State) (p : Port) (n : Nat), n < 4 ∧ s.flt.todo = [] ∧ Permitted s p (0x40 + n) 0xCC 2) ∧
    (∃ (s : State) (n width : Nat) (f : CanFrame) (ns sec : Nat), s.canOn n = true ∧ s.rdn n CAN.STAT_BUS = 6 ∧ s.flt.todo
      = [] ∧ s.rdn n CAN.WAKE_CFG_MODE = 0 ∧ s.rdn n CAN.WAKE_CFG_FILT * 100 ≤ width) ∧
    (∃ (s : State) (n width : Nat) (f : CanFrame) (ns sec : Nat), s.canOn n = true ∧ s.rdn n CAN.STAT_BUS = 6 ∧ s.flt.todo
      = [] ∧ s.rdn n CAN.WAKE_CFG_MODE = 1 ∧ s.wakes n f = true ∧ s.canMatch n f = none) ∧
    (∃ (s : State) (n width : Nat) (f : CanFrame) (ns sec : Nat), ∃ b, s.canOn n = true ∧ s.rdn n CAN.STAT_BUS = 6 ∧
      s.flt.todo = [] ∧ s.rdn n CAN.WAKE_CFG_MODE = 1 ∧ s.wakes n f = true ∧ f.rtr = false ∧ s.canMatch n f = some b ∧
      s.flagn n CAN.MB_DEST_FWD b = false) ∧
    (∃ (s : State) (n m w : Nat), s.canOn n = true ∧ s.flagn n CAN.CYC_CFG_EN = true ∧ (s.canU n).pos = some (m, w) ∧ w <
      32 ∧ w < (s.canU n).starts.length ∧ winLasts (s.rdn n CAN.CYC_LEN_NS) (s.canU n).starts w = true ∧ s.cycStart n m +
      (s.canU n).starts.getD w 0 ≤ s.fabNs ∧ (s.canU n).exc = none ∧ s.flt.todo = [] ∧ (s.canCell n w).1 = 1 ∧ s.canIsTx n
      (s.canCell n w).2 true = true ∧ 1 ≤ s.rdn n CAN.STAT_BUS ∧ s.rdn n CAN.STAT_BUS ≤ 3) ∧
    (∃ (s : State) (n m w : Nat), s.canOn n = true ∧ s.flagn n CAN.CYC_CFG_EN = true ∧ (s.canU n).pos = some (m, w) ∧ w <
      32 ∧ w < (s.canU n).starts.length ∧ winLasts (s.rdn n CAN.CYC_LEN_NS) (s.canU n).starts w = true ∧ s.cycStart n m +
      (s.canU n).starts.getD w 0 ≤ s.fabNs ∧ (s.canU n).exc = none ∧ s.flt.todo = [] ∧ (s.canCell n w).1 = 1 ∧ s.canIsTx n
      (s.canCell n w).2 true = false) ∧
    (∃ (s : State) (n m w : Nat), s.canOn n = true ∧ s.flagn n CAN.CYC_CFG_EN = true ∧ (s.canU n).pos = some (m, w) ∧ w <
      32 ∧ w < (s.canU n).starts.length ∧ winLasts (s.rdn n CAN.CYC_LEN_NS) (s.canU n).starts w = true ∧ s.cycStart n m +
      (s.canU n).starts.getD w 0 ≤ s.fabNs ∧ (s.canU n).exc = none ∧ s.flt.todo = [] ∧ (s.canCell n w).1 ≠ 1) :=
  ⟨⟨bus 3 0 2, .host, 3, 3, by unfold Permitted; decide +kernel⟩,
    ⟨bus 3 1 1, 3, by decide +kernel⟩,
    ⟨((bus 3 1 5).wrn 3 CAN.ERR_TEC 256), 3, by decide +kernel⟩,
    ⟨(bus 3 1 2).wrn 3 CAN.CTRL_SLEEP 1, 3, by decide +kernel⟩,
    ⟨bus 3 1 2, 3, 6, false, false, by decide +kernel⟩,
    ⟨(sending false).wrn 3 CAN.ERR_TEC 248, 3, 2, false, false, ({ buf := 63, exc := false, frame := { id := 5 } } :
      CanTx), by decide +kernel⟩,
    ⟨bus 3 1 4, .host, 3, by unfold Permitted; decide +kernel⟩,
    ⟨bus 3 1 2, .host, 3, by unfold Permitted; decide +kernel⟩,
    ⟨bus 3 1 6, .host, 3, by unfold Permitted; decide +kernel⟩,
    ⟨bus 3 1 2, .host, 3, by unfold Permitted; decide +kernel⟩,
    ⟨(bus 3 1 2).wrn 3 CAN.CYC_STAT_SWITCH_PEND 1, .host, 3, by unfold Permitted; decide +kernel⟩,
    ⟨bus 3 1 6, 3, 1000, { id := 0 }, 5, 6, by decide +kernel⟩,
    ⟨(bus 3 1 6).wrn 3 CAN.WAKE_CFG_MODE 1, 3, 1000, { id := 0, dlc := 8, data := natb [1, 2, 3, 4, 5, 6, 7, 8] }, 5, 6,
      by decide +kernel⟩,
    ⟨box ((bus 3 1 6).wrn 3 CAN.WAKE_CFG_MODE 1) 3 63 false false, 3, 1000,
      { id := 0, dlc := 8, data := natb [1, 2, 3, 4, 5, 6, 7, 8] }, 5, 6, 63, by decide +kernel⟩,
    ⟨matrix 1, 3, 0, 31, by decide +kernel⟩,
    ⟨matrix 1 false, 3, 0, 31, by decide +kernel⟩,
    ⟨matrix 2, 3, 0, 31, by decide +kernel⟩⟩

theorem witness_UsbHubFollowsBusAndPorts :
    (∃ (s : State), s.pageOn 0x48 = true ∧ s.usb.attached = false ∧ s.enabled 0x48 = true ∧ s.pageUnit.colFence.contains
      0x48 = false ∧ s.pageUnit.inReset.contains 0x48 = false) ∧
    (∃ (s : State), s.pageOn 0x48 = true ∧ s.usb.attached = true) ∧
    (∃ (s : State) (pairs : Nat), s.usbOn = true) ∧
    (∃ (s : State), s.usbOn = true ∧ s.rd USBHUB.HUB_STAT_LINK = 0 ∧ s.flag USBHUB.HUB_CFG_LPM_EN = true ∧ (∀ k, k < 4 →
      s.portQuiet k = true)) ∧
    (∃ (s : State), s.usbOn = true ∧ s.rd USBHUB.HUB_STAT_LINK = 0 ∧ (s.flag USBHUB.HUB_CFG_LPM_EN = false ∨ s.portQuiet 3
      = false)) ∧
    (∃ (s : State), s.usbOn = true ∧ (s.rd USBHUB.HUB_STAT_LINK = 1 ∨ s.rd USBHUB.HUB_STAT_LINK = 2) ∧ s.usb.window = none)
      ∧
    (∃ (s : State), ∃ k, s.usbOn = true ∧ (s.rd USBHUB.HUB_STAT_LINK = 1 ∨ s.rd USBHUB.HUB_STAT_LINK = 2) ∧ 1 ≤ k ∧ k ≤ 5 ∧
      s.usb.window = none ∧ s.wakeEnabled k = true) ∧
    (∃ (s : State), ∃ k host srcs, s.usbOn = true ∧ (s.rd USBHUB.HUB_STAT_LINK = 1 ∨ s.rd USBHUB.HUB_STAT_LINK = 2) ∧ 1 ≤ k
      ∧ k ≤ 5 ∧ s.usb.window = some (host, srcs)) ∧
    (∃ (s : State), s.usbOn = true ∧ s.usb.window.isSome = true) ∧
    (∃ (s : State) (k width : Nat), s.pageOn 0x48 = true ∧ k < 4 ∧ s.rd USBHUB.PORT_CTRL_OVC_FILT k * 250 ≤ width ∧ s.flag
      USBHUB.PORT_STAT_OVER_CURRENT k = false) ∧
    (∃ (s : State) (k width : Nat), s.pageOn 0x48 = true ∧ k < 4 ∧ s.rd USBHUB.PORT_CTRL_OVC_FILT k * 250 ≤ width ∧ s.flag
      USBHUB.PORT_STAT_OVER_CURRENT k = true) ∧
    (∃ (s : State) (k : Nat) (conn low : Bool), s.pageOn 0x48 = true ∧ k < 4 ∧ s.flag USBHUB.PORT_STAT_POWER k = true ∧
      s.flag USBHUB.PORT_STAT_CONNECT k ≠ conn) ∧
    (∃ (s : State) (k chirp : Nat) (low : Bool), s.usbOn = true ∧ s.due (tPort k) = true ∧ k < 4) ∧
    (∃ (s : State) (k chirp : Nat) (low : Bool), s.usbOn = true ∧ s.due (tPort k) = true ∧ k = 4) ∧
    (∃ (s : State) (frame micro : Nat), s.usbOn = true ∧ s.rd USBHUB.HUB_STAT_LINK = 0 ∧ frame < 2048 ∧ micro < 8 ∧ s.flag
      USBFN.FN_STAT_STREAM_ON = false) :=
  ⟨⟨{ hub 3 with usb := { vbus := false } }, by decide +kernel⟩,
    ⟨plugged, by decide +kernel⟩,
    ⟨plugged, 3, by decide +kernel⟩,
    ⟨plugged, by decide +kernel⟩,
    ⟨plugged.wr USBHUB.HUB_CFG_LPM_EN 0, by decide +kernel⟩,
    ⟨plugged.wr USBHUB.HUB_STAT_LINK 1, by decide +kernel⟩,
    ⟨(plugged.wr USBHUB.HUB_STAT_LINK 1).wr USBHUB.HUB_STAT_RWAKE_EN 1, 5, by decide +kernel⟩,
    ⟨{ plugged.wr USBHUB.HUB_STAT_LINK 1 with usb := { plugged.usb with window := some (true, [1]) } }, 5, true, ([1] :
      List Nat), by decide +kernel⟩,
    ⟨{ plugged.wr USBHUB.HUB_STAT_LINK 1 with usb := { plugged.usb with window := some (false, [1, 4]) } },
      by decide +kernel⟩,
    ⟨plugged, 3, 2000, by decide +kernel⟩,
    ⟨plugged.wr USBHUB.PORT_STAT_OVER_CURRENT 1 3, 3, 2000, by decide +kernel⟩,
    ⟨plugged.wr USBHUB.PORT_STAT_POWER 1 3, 3, true, true, by decide +kernel⟩,
    ⟨ended plugged (tPort 3), 3, 1, false, by decide +kernel⟩,
    ⟨ended plugged (tPort 4), 4, 0, false, by decide +kernel⟩,
    ⟨plugged, 2047, 7, by decide +kernel⟩⟩

theorem witness_UsbRequestsOfTheHostComplete :
    (∃ (s : State), ∃ k, s.usbOn = true ∧ 1 ≤ k ∧ k ≤ 5) ∧
    (∃ (s : State), ∃ f, s.usbOn = true ∧ f < 2) ∧
    (∃ (s : State), s.usbOn = true) ∧
    (∃ (s : State), ∃ k, s.usbOn = true ∧ 1 ≤ k ∧ k ≤ 4) ∧
    (∃ (s : State) (k : Nat), s.usbOn = true ∧ k < 5 ∧ s.flag USBHUB.PORT_STAT_ENABLE k = true) ∧
    (∃ (s : State) (k : Nat), s.usbOn = true ∧ k < 5 ∧ s.flag USBHUB.PORT_STAT_POWER k = true) ∧
    (∃ (s : State) (k : Nat), s.usbOn = true ∧ k < 5 ∧ k < 4 ∧ s.rd USBHUB.PORT_CTRL_LOCK_OFF k = 0) ∧
    (∃ (s : State) (k : Nat), s.usbOn = true ∧ k < 5 ∧ k < 4 ∧ s.rd USBHUB.PORT_CTRL_LOCK_OFF k = 1) ∧
    (∃ (s : State) (k : Nat), s.usbOn = true ∧ k < 5 ∧ s.flag USBHUB.PORT_STAT_SUSPEND k = true) ∧
    (∃ (s : State) (k : Nat), ∃ f b, s.usbOn = true ∧ k < 5 ∧ (f, b) ∈ [(16, 0), (17, 1), (18, 2), (19, 3), (20, 4), (23,
      5)] ∧ s.rd USBHUB.PORT_STAT_CHANGE k < 64) ∧
    (∃ (s : State), ∃ a, s.usbOn = true ∧ a < 128) ∧
    (∃ (s : State), s.usbOn = true) ∧
    (∃ (s : State), s.usbOn = true ∧ s.usb.fnConf = true) :=
  ⟨⟨plugged, 5, by decide +kernel⟩,
    ⟨plugged, 1, by decide +kernel⟩,
    ⟨plugged, by decide +kernel⟩,
    ⟨{ plugged with usb := { plugged.usb with tt := [(4, [1, 2])] } }, 4, by decide +kernel⟩,
    ⟨plugged.wr USBHUB.PORT_STAT_ENABLE 1 3, 3, by decide +kernel⟩,
    ⟨plugged.wr USBHUB.PORT_STAT_POWER 1 3, 3, by decide +kernel⟩,
    ⟨plugged, 3, by decide +kernel⟩,
    ⟨plugged.wr USBHUB.PORT_CTRL_LOCK_OFF 1 3, 3, by decide +kernel⟩,
    ⟨plugged.wr USBHUB.PORT_STAT_SUSPEND 1 3, 3, by decide +kernel⟩,
    ⟨plugged.wr USBHUB.PORT_STAT_CHANGE 63 3, 3, 20, 4, by decide +kernel⟩,
    ⟨plugged, 127, by decide +kernel⟩,
    ⟨plugged, by decide +kernel⟩,
    ⟨plugged, by decide +kernel⟩⟩

theorem witness_UsbFunctionCommandsComplete :
    (∃ (s : State) (off : Nat), s.fnEp0 = true ∧ off < 4096 ∧ s.judgePage .usbf false 0x49 0x64 0 = none ∧ Tbl.find
      s.pageUnit.hold (holdKey .usbf 0x49064) = none) ∧
    (∃ (s : State) (off : Nat), ∃ c, s.fnEp0 = true ∧ off < 4096 ∧ s.judge .usbf false (0x49000 + off) 0 true = some c) ∧
    (∃ (s : State) (off : Nat), ∃ v, s.fnEp0 = true ∧ off < 4096 ∧ s.judge .usbf true (0x49000 + off) (v % 2 ^ 32) true =
      none) ∧
    (∃ (s : State) (off : Nat), ∃ v, s.fnEp0 = true ∧ off < 4096 ∧ s.usb.staged = some (0x50, v) ∧ Settled s ∧ 125 ≤ v ∧ v
      ≤ 50000) ∧
    (∃ (s : State) (tag : Nat) (nonce : List Byte), ∃ root, s.usbTakes = true ∧ nonce.length = 16 ∧ s.flag
      USBFN.FN_STAT_SESSION = false ∧ s.running tAuth = false ∧ s.gcm.root = some root) ∧
    (∃ (s : State) (tag : Nat) (nonce : List Byte), s.usbTakes = true ∧ nonce.length = 16 ∧ s.flag USBFN.FN_STAT_SESSION =
      true ∧ s.usb.fails + 1 < s.rd USBFN.AUTH_CFG_FAIL_LIMIT) ∧
    (∃ (s : State) (tag counter : Nat) (mac : List Byte), s.usbTakes = true ∧ mac.length = 8 ∧ s.flag USBFN.FN_STAT_SESSION
      = true ∧ s.authOk counter (usbBytes 0x11 0 tag counter 0 []) mac = true) ∧
    (∃ (s : State) (tag counter : Nat) (mac : List Byte), s.usbTakes = true ∧ mac.length = 8 ∧ s.authOk counter (usbBytes
      0x21 0 tag counter 0 []) mac = true ∧ s.usb.queue = []) ∧
    (∃ (s : State) (tag counter : Nat) (mac : List Byte), ∃ k msg rest, s.usbTakes = true ∧ mac.length = 8 ∧ s.authOk
      counter (usbBytes 0x21 0 tag counter 0 []) mac = true ∧ s.usb.queue = (k, msg) :: rest) ∧
    (∃ (s : State) (tag counter : Nat) (mac : List Byte), ∃ ch data, s.usbTakes = true ∧ mac.length = 8 ∧ ch < 16 ∧
      data.length ≤ 220 ∧ s.flt.todo = [] ∧ s.authOk counter (usbBytes 0x20 0 tag counter ch (bnat data)) mac = true ∧
      s.flag USBHUB.CHAN_CFG_EN ch = true ∧ s.isTwin = false ∧ nodeOf (s.rd USBHUB.CHAN_CFG_DEST ch) ≠ s.nodeId ∧ Plain s
      (s.rd USBHUB.CHAN_CFG_TC ch) (s.rd USBHUB.CHAN_CFG_DEST ch) ∧ Room s 6 (s.rd USBHUB.CHAN_CFG_TC ch)) ∧
    (∃ (s : State) (tag counter : Nat) (mac : List Byte), ∃ ch data, s.usbTakes = true ∧ mac.length = 8 ∧ ch < 16 ∧
      data.length ≤ 220 ∧ s.flt.todo = [] ∧ s.authOk counter (usbBytes 0x20 0 tag counter ch (bnat data)) mac = true ∧
      s.flag USBHUB.CHAN_CFG_EN ch = false) ∧
    (∃ (s : State) (tag counter : Nat) (mac : List Byte), s.usbTakes = true ∧ mac.length = 8 ∧ s.authOk counter (usbBytes 1
      1 tag counter 0x49064 []) mac = true ∧ s.judgePage .usbf false 0x49 0x64 0 = none ∧ Tbl.find s.pageUnit.hold (holdKey
      .usbf 0x49064) = none) ∧
    (∃ (s : State) (tag counter : Nat) (mac : List Byte), ∃ c, s.usbTakes = true ∧ mac.length = 8 ∧ s.authOk counter
      (usbBytes 1 1 tag counter 0x49064 []) mac = true ∧ s.judgePage .usbf false 0x49 0x64 0 = some c) ∧
    (∃ (s : State) (tag counter : Nat) (mac : List Byte), ∃ v, s.usbTakes = true ∧ mac.length = 8 ∧ s.authOk counter
      (usbBytes 2 1 tag counter 0x49050 (leBytes 4 v)) mac = true ∧ Settled s ∧ s.judgePage .usbf true 0x49 0x50 v = none ∧
      125 ≤ v ∧ v ≤ 50000) ∧
    (∃ (s : State), s.due tAuth = true) ∧
    (∃ (s : State), ∃ bs, s.usb.resp = some (bs, [])) ∧
    (∃ (s : State) (f : Frame) (k : Nat), k < 16 ∧ localOf f.dest = 1536 + k ∧ s.pageOn 0x49 = true ∧ f.resp = false ∧
      f.refuse = false ∧ f.tc ≠ 4 ∧ s.flt.todo = [] ∧ s.flag USBHUB.CHAN_CFG_EN k = true ∧ s.fenced 0x49 = false ∧ s.flag
      USBHUB.CHAN_CFG_ISO k = false ∧ s.chanBytes + f.payload.length ≤ 16384) ∧
    (∃ (s : State) (f : Frame) (k : Nat), k < 16 ∧ localOf f.dest = 1536 + k ∧ s.pageOn 0x49 = true ∧ f.resp = false ∧
      f.refuse = false ∧ f.tc ≠ 4 ∧ s.flt.todo = [] ∧ s.flag USBHUB.CHAN_CFG_EN k = true ∧ s.fenced 0x49 = false ∧ s.flag
      USBHUB.CHAN_CFG_ISO k = true ∧ s.flag USBFN.FN_STAT_STREAM_ON = true ∧ f.payload.length = 16 ∧ s.usb.stream.length <
      512) ∧
    (∃ (s : State) (f : Frame) (k : Nat), k < 16 ∧ localOf f.dest = 1536 + k ∧ s.pageOn 0x49 = true ∧ f.resp = false ∧
      f.refuse = false ∧ f.tc ≠ 4 ∧ s.flt.todo = [] ∧ s.flag USBHUB.CHAN_CFG_EN k = false ∧ s.isTwin = false ∧ nodeOf f.src
      ≠ s.nodeId ∧ Plain s 4 f.src ∧ Room s 6 4) ∧
    (∃ (s : State), s.usbOn = true ∧ s.usb.fnConf = true ∧ s.usb.ep2Halt = false ∧ s.usb.acked ≠ some s.usbReport) ∧
    (∃ (s : State), s.usbOn = true ∧ s.usb.fnConf = true ∧ s.usb.ep2Halt = false ∧ s.usb.acked = some s.usbReport) ∧
    (∃ (s : State), ∃ r, s.usb.report = some r) ∧
    (∃ (s : State) (p : Port) (v : Nat), Permitted s p 0x49 0x48 v) :=
  ⟨⟨plugged, 4095, by decide +kernel⟩,
    ⟨{ plugged with pageUnit := { inReset := [0x49] } }, 0xFFC, 4, by decide +kernel⟩,
    ⟨plugged, 0x50, 300, by decide +kernel⟩,
    ⟨{ plugged with usb := { plugged.usb with staged := some (0x50, 50000) } }, 0x50, 50000,
      by unfold Settled; decide +kernel⟩,
    ⟨{ plugged with gcm := { root := some (zeros 32) } }, 9, natb (zeros 16), (zeros 32), by decide +kernel⟩,
    ⟨plugged.wr USBFN.FN_STAT_SESSION 1, 9, natb (zeros 16), by decide +kernel⟩,
    ⟨{ plugged.wr USBFN.FN_STAT_SESSION 1 with usb := { plugged.usb with key := zeros 16 } }, 1, 7, natb ((cmac (zeros 16)
      (usbBytes 0x11 0 1 7 0 [])).take 8), by decide +kernel⟩,
    ⟨plugged, 1, 7, natb (zeros 8), by decide +kernel⟩,
    ⟨{ plugged with usb := { plugged.usb with queue := [(3, natb [1])] } }, 1, 7, natb (zeros 8), 3, natb [1], ([] : List
      (Nat × List Byte)), by decide +kernel⟩,
    ⟨(plugged.wr USBHUB.CHAN_CFG_EN 1 15).wr USBHUB.CHAN_CFG_DEST 57344 15, 1, 7, natb (zeros 8), 15, natb [1, 2],
      by unfold Plain Room RoomAt; decide +kernel⟩,
    ⟨plugged, 1, 7, natb (zeros 8), 15, natb [1, 2], by decide +kernel⟩,
    ⟨plugged, 1, 7, natb (zeros 8), by decide +kernel⟩,
    ⟨{ plugged with pageUnit := { inReset := [0x49] } }, 1, 7, natb (zeros 8), 4, by decide +kernel⟩,
    ⟨plugged, 1, 7, natb (zeros 8), 125, by unfold Settled; decide +kernel⟩,
    ⟨ended plugged tAuth, by decide +kernel⟩,
    ⟨{ plugged with usb := { plugged.usb with resp := some ([1], []) } }, [1], by decide +kernel⟩,
    ⟨plugged.wr USBHUB.CHAN_CFG_EN 1 15, sealed_
      { tc := 6, src := 57344, dest := 5 * 8192 + 1551, len := 4, payload := natb [1, 2, 3, 4] }, 15, by decide +kernel⟩,
    ⟨((plugged.wr USBHUB.CHAN_CFG_EN 1 15).wr USBHUB.CHAN_CFG_ISO 1 15).wr USBFN.FN_STAT_STREAM_ON 1, sealed_
      { tc := 6, src := 57344, dest := 5 * 8192 + 1551, len := 16, payload := natb (zeros 16) }, 15, by decide +kernel⟩,
    ⟨plugged, sealed_ { tc := 6, src := 57344, dest := 5 * 8192 + 1551, len := 4, payload := natb [1, 2, 3, 4] }, 15,
      by unfold Plain Room RoomAt; decide +kernel⟩,
    ⟨plugged, by decide +kernel⟩,
    ⟨{ plugged with usb := { plugged.usb with acked := some plugged.usbReport } }, by decide +kernel⟩,
    ⟨{ plugged with usb := { plugged.usb with report := some [1] } }, [1], by decide +kernel⟩,
    ⟨plugged, .host, 0x81, by unfold Permitted; decide +kernel⟩⟩

theorem witness_AssociationsRecordsAndAlarmsComplete :
    (∃ (s : State) (p : Port) (v i : Nat), Permitted s p 0x18 0x48 v ∧ i = s.rd GCM.A_SEL_ENTRY ∧ i < 256 ∧ s.flag
      GCM.A_CFG_EN i = false ∧ bitOf v 31 = true ∧ bitOf v 30 = true ∧ (∀ j, j < 256 → j ≠ i → s.flag GCM.A_CFG_EN j =
      false)) ∧
    (∃ (s : State) (p : Port) (v i : Nat), ∃ j, Permitted s p 0x18 0x48 v ∧ i = s.rd GCM.A_SEL_ENTRY ∧ i < 256 ∧ s.flag
      GCM.A_CFG_EN i = false ∧ bitOf v 31 = true ∧ bitOf v 30 = true ∧ j < 256 ∧ j ≠ i ∧ s.flag GCM.A_CFG_EN j = true ∧
      s.flag GCM.A_CFG_DIR j = true ∧ s.rd GCM.A_CFG_NUMBER j = bits v 0 12 ∧ s.rd GCM.A_CFG_NODE j = bits v 12 12) ∧
    (∃ (s : State) (p : Port) (v i : Nat), Permitted s p 0x18 0x48 v ∧ i = s.rd GCM.A_SEL_ENTRY ∧ i < 256 ∧ s.flag
      GCM.A_CFG_EN i = false ∧ s.flag GCM.A_STAT_SAVED i = false ∧ bitOf v 31 = true ∧ bitOf v 30 = false) ∧
    (∃ (s : State) (p : Port) (v i : Nat), Permitted s p 0x18 0x48 v ∧ i = s.rd GCM.A_SEL_ENTRY ∧ i < 256 ∧ s.flag
      GCM.A_CFG_EN i = true ∧ bitOf v 31 = false) ∧
    (∃ (s : State) (p : Port) (i : Nat), Permitted s p 0x18 0x5C 1 ∧ i = s.rd GCM.A_SEL_ENTRY ∧ i < 256 ∧ s.flag
      GCM.A_CFG_DIR i = false ∧ s.rd GCM.A_EPOCH_EPOCH i < s.rd GCM.A_EPOCH_CEIL i ∧ s.rd GCM.A_EPOCH_CEIL i < 2 ^ 16) ∧
    (∃ (s : State) (p : Port) (i : Nat), Permitted s p 0x18 0x5C 1 ∧ i = s.rd GCM.A_SEL_ENTRY ∧ i < 256 ∧ s.flag
      GCM.A_CFG_DIR i = false ∧ s.rd GCM.A_EPOCH_CEIL i ≤ s.rd GCM.A_EPOCH_EPOCH i) ∧
    (∃ (s : State) (p : Port) (wrap : Bool), s.rd GCM.REC_CTRL_STATUS ≠ 1 ∧ Permitted s p 0x18 0x70 (1 + 256 * bit wrap)) ∧
    (∃ (s : State) (p : Port) (wrap : Bool), s.rd GCM.REC_CTRL_STATUS ≠ 1 ∧ Permitted s p 0x18 0x70 (2 + 256 * bit wrap)) ∧
    (∃ (s : State) (i : Nat), s.due tRec = true ∧ i < 256 ∧ s.gcm.recOp = some { save := true, entry := i, wrap := false })
      ∧
    (∃ (s : State) (i : Nat), s.due tRec = true ∧ i < 256 ∧ s.gcm.recOp = some { save := false, entry := i, wrap := false }
      ∧ s.flag GCM.A_CFG_EN i = true) ∧
    (∃ (s : State) (i : Nat), ∃ ws, s.due tRec = true ∧ i < 256 ∧ s.gcm.recOp = some
      { save := false, entry := i, wrap := false } ∧ s.flag GCM.A_CFG_EN i = false ∧ s.flag GCM.CFG_OPEN_LOAD = true ∧ ws =
      (List.range 8).map (fun k => s.rd GCM.REC_WORD k) ∧ nth ws 7 = crc32c (wordsLe (ws.take 7)) ∧ nth ws 0 / 2 ^ 24 = 1 ∧
      bits (nth ws 0) 0 12 = s.nodeId ∧ bits (nth ws 0) 12 1 = s.twinBit ∧ bits (nth ws 0) 16 8 = i ∧ nth ws 4 < 0xFFFF) ∧
    (∃ (s : State) (i : Nat), ∃ ws, s.due tRec = true ∧ i < 256 ∧ s.gcm.recOp = some
      { save := false, entry := i, wrap := false } ∧ s.flag GCM.A_CFG_EN i = false ∧ s.flag GCM.CFG_OPEN_LOAD = true ∧ ws =
      (List.range 8).map (fun k => s.rd GCM.REC_WORD k) ∧ nth ws 7 = crc32c (wordsLe (ws.take 7)) ∧ nth ws 0 / 2 ^ 24 = 1 ∧
      bits (nth ws 0) 0 12 ≠ s.nodeId) ∧
    (∃ (s : State) (p : Port) (v i : Nat), Permitted s p 0x18 0x54 v ∧ i = s.rd GCM.A_SEL_ENTRY ∧ i < 256 ∧ s.flag
      GCM.A_CFG_DIR i = true) ∧
    (∃ (s : State) (p : Port) (v i : Nat), Permitted s p 0x18 0x54 v ∧ i = s.rd GCM.A_SEL_ENTRY ∧ i < 256 ∧ s.flag
      GCM.A_CFG_DIR i = false ∧ s.flag GCM.A_CFG_EN i = true) ∧
    (∃ (s : State) (i b : Nat), s.due (tGrace i b) = true) ∧
    (∃ (s : State) (f : Frame) (inp tag i : Nat) (outs : List Nat) (rest : List GcmWait) (r : List Nat), s.gcm.waiting =
      .seal f inp tag outs :: rest ∧ s.flt.todo = [] ∧ s.keysUsable = true ∧ s.gcm.root = some r ∧ s.txEntry f.tc f.dest =
      some i ∧ s.flag GCM.A_STAT_HALTED i = false ∧ s.gcm.rolls.contains i = false ∧ s.isTwin = false ∧ f.len ≤ 190 ∧ Room
      s inp f.tc ∧ s.rd GCM.A_PN_PN i + 1 < 2 ^ 63 - 1) ∧
    (∃ (s : State) (cause : Nat), s.mode ≠ 0 ∧ cause ≤ 3 ∧ s.flt.todo = [] ∧ s.rd KEYS.ALARM_STAT_CAUSE = 0) ∧
    (∃ (s : State) (cause : Nat), s.mode ≠ 0 ∧ cause ≤ 3 ∧ s.flt.todo = [] ∧ s.rd KEYS.ALARM_STAT_CAUSE ≠ 0) ∧
    (∃ (s : State) (p : Port) (v : Nat), s.flt.todo = [] ∧ Permitted s p 0x19 0x54 v ∧ v = 0x5A45524F ∧ s.rd
      KEYS.ALARM_STAT_CAUSE = 0) ∧
    (∃ (s : State) (p : Port) (v : Nat), s.flt.todo = [] ∧ Permitted s p 0x19 0x54 v ∧ v ≠ 0x5A45524F) ∧
    (∃ (s : State), s.due tTagWin = true) ∧
    (∃ (s : State), s.due tKill = true) ∧
    (∃ (s : State), ∃ p, Permitted s p 0x19 0x58 1) :=
  ⟨⟨(hub 3).wr GCM.A_SEL_ENTRY 255, .host, 0xC0000000, 255, ⟨⟨by decide +kernel, by decide +kernel⟩, by decide +kernel,
    by decide +kernel, by decide +kernel, by decide +kernel, by decide +kernel, by decide +kernel⟩⟩,
    ⟨(((hub 3).wr GCM.A_SEL_ENTRY 255).wr GCM.A_CFG_EN 1 7).wr GCM.A_CFG_DIR 1 7, .host, 0xC0000000, 255, 7,
      by unfold Permitted; decide +kernel⟩,
    ⟨(hub 3).wr GCM.A_SEL_ENTRY 255, .host, 0x80000000, 255, by unfold Permitted; decide +kernel⟩,
    ⟨assoc 255 true true, .host, 0, 255, by unfold Permitted; decide +kernel⟩,
    ⟨(assoc 255 true false).wr GCM.A_EPOCH_CEIL 5 255, .host, 255, by unfold Permitted; decide +kernel⟩,
    ⟨(assoc 255 true false), .host, 255, by unfold Permitted; decide +kernel⟩,
    ⟨assoc 255 true false, .host, true, by unfold Permitted; decide +kernel⟩,
    ⟨assoc 255 true false, .host, true, by unfold Permitted; decide +kernel⟩,
    ⟨{ ended (hub 3) tRec with gcm := { recOp := some { save := true, entry := 255, wrap := false } } }, 255,
      by decide +kernel⟩,
    ⟨{ ended (assoc 255 true false) tRec with gcm := { recOp := some { save := false, entry := 255, wrap := false } } },
      255, by decide +kernel⟩,
    ⟨{ record 5 1866813676 with gcm := { recOp := some { save := false, entry := 255, wrap := false } } }, 255, [2 ^ 24 +
      255 * 65536 + 5, 0, 0, 0, 7, 0, 0, 1866813676], by decide +kernel⟩,
    ⟨{ record 6 2358754113 with gcm := { recOp := some { save := false, entry := 255, wrap := false } } }, 255, [2 ^ 24 +
      255 * 65536 + 6, 0, 0, 0, 7, 0, 0, 2358754113], by decide +kernel⟩,
    ⟨assoc 255 true true, .host, 9, 255, by unfold Permitted; decide +kernel⟩,
    ⟨assoc 255 true false, .host, 9, 255, by unfold Permitted; decide +kernel⟩,
    ⟨ended (hub 3) (tGrace 255 1), 255, 1, by decide +kernel⟩,
    ⟨{ (((assoc 255 true false).wr GCM.A_BASE_BASE 57344 255).wr GCM.A_CFG_TC 5 255).wr GCM.A_EPOCH_CEIL 5 255 with gcm := { root := some (zeros 32), waiting := [.seal { tc := 5, dest := 57344, src := 5 * 8192, len := 2, payload := natb [1, 2] } 3 0 [0]] } },
      { tc := 5, dest := 57344, src := 5 * 8192, len := 2, payload := natb [1, 2] }, 3, 0, 255, [0], [], zeros 32,
      by unfold Room RoomAt; decide +kernel⟩,
    ⟨hub 3, 3, by decide +kernel⟩,
    ⟨(hub 3).wr KEYS.ALARM_STAT_CAUSE 4, 3, by decide +kernel⟩,
    ⟨hub 3, .host, 0x5A45524F, by unfold Permitted; decide +kernel⟩,
    ⟨hub 3, .host, 0x5A455250, by unfold Permitted; decide +kernel⟩,
    ⟨ended (hub 3) tTagWin, by decide +kernel⟩,
    ⟨ended (hub 3) tKill, by decide +kernel⟩,
    ⟨hub 3, .host, by unfold Permitted; decide +kernel⟩⟩

theorem witness_BreakerChannelsTurnOnAndOff :
    (∃ (s : State) (p : Port) (n : Nat), 4 ≤ n ∧ n < 12 ∧ Settled s ∧ s.flag BRK.CH_CFG_FITTED n = true ∧ (s.brkCh
      n).fenced = false ∧ Permitted s p 0x4C (0x100 + 0x40 * n) (2 * s.rd BRK.CH_CTRL_KEEP n + 1)) ∧
    (∃ (s : State) (p : Port) (n : Nat), 4 ≤ n ∧ n < 12 ∧ Settled s ∧ s.flag BRK.CH_CFG_FITTED n = true ∧ (s.brkCh
      n).fenced = false ∧ Permitted s p 0x4C (0x100 + 0x40 * n) (2 * s.rd BRK.CH_CTRL_KEEP n) ∧ s.chState n ≤ 6) ∧
    (∃ (s : State) (n vin : Nat), 4 ≤ n ∧ n < 12 ∧ Settled s ∧ s.mayQualify n = true ∧ vin < 4096 ∧ s.chState n = 1 ∧ s.due
      (tDelay n) = true ∧ codeGe vin (s.rd BRK.CH_WIN_UV_ON n) = true ∧ codeLe vin (s.rd BRK.CH_WIN_OV_ON n) = true) ∧
    (∃ (s : State) (n vin : Nat), 4 ≤ n ∧ n < 12 ∧ Settled s ∧ s.mayQualify n = true ∧ vin < 4096 ∧ s.chState n = 2 ∧ s.due
      (tOffMin n) = true ∧ (s.brkCh n).qual = true) ∧
    (∃ (s : State) (n : Nat) (cur : Int) (vin vout : Nat), 4 ≤ n ∧ n < 12 ∧ Settled s ∧ s.chState n = 4 ∧ s.due (tRampStep
      n) = true ∧ cur ≤ s.rd BRK.CH_CFG_INRUSH n ∧ 63 ≤ (s.brkCh n).duty ∧ vin * 5 ≤ vout * 5 + 256 ∧ vout * 5 ≤ vin * 5 +
      256) ∧
    (∃ (s : State) (n : Nat) (cur : Int) (vin vout : Nat), 4 ≤ n ∧ n < 12 ∧ Settled s ∧ s.chState n = 4 ∧ s.due (tRampStep
      n) = true ∧ cur ≤ s.rd BRK.CH_CFG_INRUSH n ∧ (s.brkCh n).duty < 63) ∧
    (∃ (s : State) (n : Nat) (cur : Int) (vin vout : Nat), 4 ≤ n ∧ n < 12 ∧ Settled s ∧ s.chState n = 4 ∧ s.due (tRampStep
      n) = true ∧ (s.rd BRK.CH_CFG_INRUSH n : Int) < cur ∧ (s.brkCh n).duty < 64) ∧
    (∃ (s : State) (n cause : Nat) (c : Instr), n < 12 ∧ Settled s ∧ FirstOff s n ∧ ((c = .breakerRampTimeout n ∧ s.chState
      n = 4 ∧ s.due (tRampMax n) = true ∧ cause = 5) ∨ (∃ cur : Int, c = .breakerInstantTrip n cur ∧ s.chPowered n = true ∧
      ((min (s.rd BRK.CH_INST_INST n) (s.fullScale n) : Nat) : Int) < cur ∧ cause = (if s.chState n = 4 then 4 else 2)) ∨
      (∃ (cur : Int) (dt : Nat), c = .breakerCurveTrip n cur dt ∧ s.chState n = 5 ∧ cause = 3 ∧ 2 ^ 48 ≤ heatAfter (s.curve
      n) (s.rd BRK.CH_SCALE_TAU n) cur.toNat dt (s.brkCh n).heat))) ∧
    (∃ (s : State) (n dt : Nat) (cur : Int), n < 12 ∧ Settled s ∧ s.chState n = 5 ∧ heatAfter (s.curve n) (s.rd
      BRK.CH_SCALE_TAU n) cur.toNat dt (s.brkCh n).heat < 2 ^ 48) ∧
    (∃ (s : State) (n dt : Nat) (cur : Int), n < 12 ∧ Settled s ∧ s.chState n = 4) ∧
    (∃ (s : State) (n vin : Nat), n < 12 ∧ Settled s ∧ FirstOff s n ∧ s.chState n = 5 ∧ (codeGe vin (s.rd BRK.CH_WIN_UV_OFF
      n) = false ∨ codeLe vin (s.rd BRK.CH_WIN_OV_OFF n) = false)) ∧
    (∃ (s : State) (n : Nat) (cur : Int), n < 4 ∧ Settled s ∧ FirstOff s n ∧ s.chPowered n = true ∧ cur < -(s.rd
      BRK.CH_INST_REV n : Int)) ∧
    (∃ (s : State) (n : Nat) (cur : Int) (o : BrkOff), n < 12 ∧ Settled s ∧ (s.brkCh n).off = some o ∧ o.sample =
      s.sampleNo ∧ o.rank = 6 ∧ o.state = 5 ∧ s.chState n = 0 ∧ s.flag BRK.CH_CTRL_EN n = false ∧ ((min (s.rd
      BRK.CH_INST_INST n) (s.fullScale n) : Nat) : Int) < cur) ∧
    (∃ (s : State) (n vcable vbus : Nat), n < 2 ∧ Settled s ∧ (s.brkCh n).rev = true ∧ s.chState n = 0 ∧ vcable < 4096 ∧
      vbus * 25 + 256 ≤ vcable * 25 ∧ codeGe vcable (s.rd BRK.CH_WIN_UV_ON n) = true ∧ codeLe vcable (s.rd BRK.CH_WIN_OV_ON
      n) = true ∧ s.flag BRK.CH_CTRL_EN n = true ∧ s.enabled 0x4C = true ∧ s.partnerHolds n = false ∧ (s.brkCh n).fenced =
      false) ∧
    (∃ (s : State) (k : Nat), k < 8 ∧ Settled s ∧ s.flag BRK.CH_STAT_PRESENT (4 + k) = true ∧ s.chState (4 + k) ≤ 5) ∧
    (∃ (s : State) (k : Nat), k < 8 ∧ Settled s ∧ s.flag BRK.CH_STAT_PRESENT (4 + k) = false) ∧
    (∃ (s : State) (p : Port) (n : Nat), n < 12 ∧ Permitted s p 0x4C 0x4C (2 ^ n) ∧ curveGood (s.staged n) = true ∧ s.rd
      BRK.CH_CFG_INRUSH n ≤ ((s.staged n).headD (0, 0)).1 ∧ 1 ≤ ((s.staged n).headD (0, 0)).1) ∧
    (∃ (s : State) (p : Port) (n : Nat), n < 12 ∧ Permitted s p 0x4C 0x4C (2 ^ n) ∧ curveGood (s.staged n) = false) :=
  ⟨⟨hub 3, .host, 11, by unfold Settled Permitted; decide +kernel⟩,
    ⟨((hub 3).wr BRK.CH_CTRL_EN 1 11).wr BRK.CH_STAT_STATE 5 11, .host, 11, by unfold Settled Permitted; decide +kernel⟩,
    ⟨ended ((((hub 3).wr BRK.CH_CTRL_EN 1 11).wr BRK.CH_STAT_PRESENT 1 11).wr BRK.CH_STAT_STATE 1 11) (tDelay 11), 11,
      2400, by unfold Settled; decide +kernel⟩,
    ⟨{ ended ((((hub 3).wr BRK.CH_CTRL_EN 1 11).wr BRK.CH_STAT_PRESENT 1 11).wr BRK.CH_STAT_STATE 2 11) (tOffMin 11) with brk := { chs := [(11, { qual := true })] } },
      11, 2400, by unfold Settled; decide +kernel⟩,
    ⟨{ ended ((hub 3).wr BRK.CH_STAT_STATE 4 11) (tRampStep 11) with brk := { chs := [(11, { duty := 63 })] } }, 11, 100,
      2400, 2390, by unfold Settled; decide +kernel⟩,
    ⟨{ ended ((hub 3).wr BRK.CH_STAT_STATE 4 11) (tRampStep 11) with brk := { chs := [(11, { duty := 62 })] } }, 11, 100,
      2400, 2390, by unfold Settled; decide +kernel⟩,
    ⟨{ ended ((hub 3).wr BRK.CH_STAT_STATE 4 11) (tRampStep 11) with brk := { chs := [(11, { duty := 62 })] } }, 11, 101,
      2400, 2390, by unfold Settled; decide +kernel⟩,
    ⟨ended ((hub 3).wr BRK.CH_STAT_STATE 4 11) (tRampMax 11), 11, 5, .breakerRampTimeout 11, ⟨by decide +kernel,
      (by unfold Settled; decide +kernel), absent (by decide +kernel), Or.inl ⟨rfl, by decide +kernel, by decide +kernel,
      rfl⟩⟩⟩,
    ⟨(hub 3).wr BRK.CH_STAT_STATE 5 11, 11, 1, 50, by unfold Settled; decide +kernel⟩,
    ⟨(hub 3).wr BRK.CH_STAT_STATE 4 11, 11, 1, 50, by unfold Settled; decide +kernel⟩,
    ⟨(hub 3).wr BRK.CH_STAT_STATE 5 11, 11, 1, ⟨by decide +kernel, (by unfold Settled; decide +kernel), absent
      (by decide +kernel), by decide +kernel⟩⟩,
    ⟨(hub 3).wr BRK.CH_STAT_STATE 5 3, 3, -21, ⟨by decide +kernel, (by unfold Settled; decide +kernel), absent
      (by decide +kernel), by decide +kernel⟩⟩,
    ⟨{ (hub 3).wr BRK.CH_CTRL_EN 0 11 with brk := { chs := [(11, { off := some { sample := 1000000000, rank := 6, state := 5 } })] } },
      11, 4000, { sample := 1000000000, rank := 6, state := 5 }, by unfold Settled; decide +kernel⟩,
    ⟨{ hub 3 with brk := { chs := [(1, { rev := true })] } }, 1, 2400, 2300, by unfold Settled; decide +kernel⟩,
    ⟨((hub 3).wr BRK.CH_STAT_PRESENT 1 11).wr BRK.CH_STAT_STATE 5 11, 7, by unfold Settled; decide +kernel⟩,
    ⟨hub 3, 7, by unfold Settled; decide +kernel⟩,
    ⟨hub 3, .host, 11, by unfold Permitted; decide +kernel⟩,
    ⟨(hub 3).wr BRK.CURVE_T 0 95, .host, 11, by unfold Permitted; decide +kernel⟩⟩

theorem witness_BudgetEvaluatesAndActs :
    (∃ (s : State) (m : Meas), Settled s) ∧
    (∃ (s : State) (vbus : Nat), Settled s ∧ s.enabled 0x4D = true ∧ vbus < 4096 ∧ codeGe vbus (s.rd
      LINE.PORT_CFG_BUS_WARN) = false ∧ s.brk.low = false) ∧
    (∃ (s : State) (vbus : Nat), Settled s ∧ s.enabled 0x4D = true ∧ vbus < 4096 ∧ codeLe vbus (s.rd
      LINE.PORT_CFG_BUS_WARN) = false ∧ s.brk.okAt = none) ∧
    (∃ (s : State) (t0 t1 : Int), Settled s ∧ t0 - t1 ≤ 128 ∧ t1 - t0 ≤ 128) ∧
    (∃ (s : State) (d : Side) (c wait : Nat), 1 ≤ c ∧ c ≤ 6 ∧ s.tcTol c < wait ∧ (s.laneMode (.ring d) = 1 ∨ s.rdn d.n
      MAC.LANE_STAT_PHASE = 3)) :=
  ⟨⟨hub 3, { ve := 2400, vw := 2300, vbus := 2350 }, by unfold Settled; decide +kernel⟩,
    ⟨hub 3, 2047, by unfold Settled; decide +kernel⟩,
    ⟨{ hub 3 with brk := { low := true } }, 2049, by unfold Settled; decide +kernel⟩,
    ⟨hub 3, 300, 428, by unfold Settled; decide +kernel⟩,
    ⟨(hub 3).wrn 2 MAC.LANE_STAT_MODE 1, .west, 6, 60000, by decide +kernel⟩⟩

theorem witness_ModeRequestsAreJudgedAndTaken :
    (∃ (s : State) (p : Port), Permitted s p 0 0x44 3 ∧ Settled s ∧ s.mode = 2 ∧ s.role ≠ 3 ∧ s.clash = false ∧ s.flag
      DEVICE.START_STAT_IMAGE_OK = true ∧ s.modeU.want = none) ∧
    (∃ (s : State) (p : Port), ∃ c, Permitted s p 0 0x44 3 ∧ Settled s ∧ ((c = 1 ∧ s.mode ≠ 2) ∨ (c = 2 ∧ s.mode = 2 ∧
      s.role ≠ 3 ∧ s.clash = false ∧ s.flag DEVICE.START_STAT_IMAGE_OK = false) ∨ (c = 5 ∧ s.mode = 2 ∧ s.flag
      DEVICE.START_STAT_IMAGE_OK = true ∧ s.modeU.want.isSome = true) ∨ (c = 6 ∧ s.mode = 2 ∧ s.modeU.want = none ∧ (s.role
      = 3 ∨ s.clash = true)))) ∧
    (∃ (s : State) (p : Port), Permitted s p 0 0x44 2 ∧ Settled s ∧ 3 ≤ s.mode ∧ s.isTwin = false ∧ (s.mode ≠ 5 ∨
      s.fatalStands = false) ∧ s.modeU.want = none) ∧
    (∃ (s : State) (p : Port), Permitted s p 0 0x44 2 ∧ Settled s ∧ p = .debug ∧ s.mode = 1 ∧ s.step_ = 5 ∧ s.modeU.want =
      none ∧ s.rd DEVICE.MODE_CFG_WAKE_P ≤ s.pAvail) ∧
    (∃ (s : State) (p : Port), ∃ c, Permitted s p 0 0x44 2 ∧ Settled s ∧ ((c = 1 ∧ s.mode = 2) ∨ (c = 3 ∧ 3 ≤ s.mode ∧
      s.isTwin = true ∧ s.twinRole = 1 ∧ s.rd TWIN.STAT_PEER_ROLE = 2) ∨ (c = 4 ∧ s.mode = 5 ∧ s.isTwin = false ∧
      s.fatalStands = true) ∨ (c = 5 ∧ s.mode = 3 ∧ s.isTwin = false ∧ s.modeU.want.isSome = true) ∨ (c = 7 ∧ p = .debug ∧
      s.mode = 1 ∧ s.step_ = 5 ∧ s.modeU.want = none ∧ s.pAvail < s.rd DEVICE.MODE_CFG_WAKE_P))) ∧
    (∃ (s : State) (p : Port), Permitted s p 0 0x44 1 ∧ Settled s ∧ s.mode = 2 ∧ s.modeU.want = none) ∧
    (∃ (s : State) (p : Port), Permitted s p 0 0x44 1 ∧ Settled s ∧ s.mode ≠ 2) ∧
    (∃ (s : State) (p : Port) (v : Nat), (v = 0 ∨ (4 ≤ v ∧ v ≤ 7)) ∧ Permitted s p 0 0x44 v) ∧
    (∃ (s : State), Settled s ∧ s.step_ = 9 ∧ s.mode = 2 ∧ s.flag DEVICE.MODE_CFG_AUTO_RUN = true ∧ s.modeU.autoDone =
      false ∧ (s.flag DEVICE.MODE_CFG_WAIT_LOCK = false ∨ s.rd TIME.STAT_STATE = 3 ∨ s.rd TIME.STAT_STATE = 5) ∧ s.role ≠ 3
      ∧ s.clash = false ∧ s.flag DEVICE.START_STAT_IMAGE_OK = true ∧ s.modeU.want = none) ∧
    (∃ (s : State), Settled s ∧ s.modeU.want = some 3 ∧ s.modeU.loaded = false ∧ s.flag DEVICE.MODE_STAT_LOADING = true ∧
      s.modeU.boot = none) ∧
    (∃ (s : State), ∃ slot, Settled s ∧ s.modeU.want = some 3 ∧ s.modeU.loaded = false ∧ s.flag DEVICE.MODE_STAT_LOADING =
      true ∧ s.modeU.boot = some slot ∧ s.slotValid slot = true) :=
  ⟨⟨(hub 2).wr DEVICE.START_STAT_IMAGE_OK 1, .host, by unfold Permitted Settled; decide +kernel⟩,
    ⟨hub 3, .host, 1, by unfold Permitted Settled; decide +kernel⟩,
    ⟨hub 3, .host, by unfold Permitted Settled; decide +kernel⟩,
    ⟨((hub 1).wr DEVICE.START_STAT_STEP 5).wr POWER.HEADROOM_P_AVAIL 60000, .debug, ⟨⟨by decide +kernel,
      by decide +kernel⟩, (by unfold Settled; decide +kernel), rfl, by decide +kernel, by decide +kernel, rfl,
      by decide +kernel⟩⟩,
    ⟨hub 2, .host, 1, by unfold Permitted Settled; decide +kernel⟩,
    ⟨hub 2, .host, by unfold Permitted Settled; decide +kernel⟩,
    ⟨hub 3, .host, by unfold Permitted Settled; decide +kernel⟩,
    ⟨hub 3, .host, 0, by unfold Permitted; decide +kernel⟩,
    ⟨(((hub 2).wr DEVICE.MODE_CFG_AUTO_RUN 1).wr DEVICE.START_STAT_IMAGE_OK 1).wr DEVICE.MODE_CFG_WAIT_LOCK 0,
      by unfold Settled; decide +kernel⟩,
    ⟨{ (hub 2).wr DEVICE.MODE_STAT_LOADING 1 with modeU := { want := some 3 } }, by unfold Settled; decide +kernel⟩,
    ⟨imaged 0 { (hub 2).wr DEVICE.MODE_STAT_LOADING 1 with modeU := { want := some 3, boot := some 0 } }, 0,
      ⟨(by unfold Settled; decide +kernel), by decide +kernel, by decide +kernel, by decide +kernel, by decide +kernel,
      slotValid_imaged 0 _ (by decide +kernel)⟩⟩⟩

theorem witness_ResetsAndTheStartSequenceComplete :
    (∃ (s : State) (index : Nat), (s.mode = 0 ∨ (s.mode = 1 ∧ s.step_ = 0))) ∧
    (∃ (s : State), ∃ q, Settled s ∧ s.mode ≠ 0 ∧ 5 ≤ s.step_ ∧ Permitted s q 0 0x54 0x5741524D) ∧
    (∃ (s : State), ∃ q k, Settled s ∧ s.mode ≠ 0 ∧ 5 ≤ s.step_ ∧ k ≠ 0x5741524D ∧ Permitted s q 0 0x54 k) ∧
    (∃ (s : State), s.mode = 1 ∧ s.step_ = 1) ∧
    (∃ (s : State), Settled s ∧ s.mode = 1 ∧ s.step_ = 2 ∧ s.otp.sel.isSome = true ∧ s.otp.killStarted = false ∧
      s.otp.killed = false ∧ s.otp.keyGood 0 = true) ∧
    (∃ (s : State), Settled s ∧ s.mode = 1 ∧ s.step_ = 2 ∧ s.otp.sel.isSome = true ∧ s.otp.killStarted = false ∧
      s.otp.killed = false ∧ s.otp.keyGood 0 = false ∧ s.otp.keyGood 1 = false ∧ s.gcm.root = none) ∧
    (∃ (s : State), s.mode = 1 ∧ s.step_ = 5 ∧ s.modeU.auto = true ∧ s.startReady = true) ∧
    (∃ (s : State) (d : Nat) (rest : List Nat), Settled s ∧ s.mode = 1 ∧ s.step_ = 6 ∧ s.due tDomain = true ∧ s.modeU.dom =
      d :: rest ∧ rest ≠ []) ∧
    (∃ (s : State) (d : Nat) (rest : List Nat), Settled s ∧ s.mode = 1 ∧ s.step_ = 6 ∧ s.due tDomain = true ∧ s.modeU.dom =
      d :: rest ∧ rest = [] ∧ d ≠ 6) ∧
    (∃ (s : State) (vbus : Nat), Settled s ∧ s.enabled 0x4D = true ∧ vbus < 4096 ∧ codeGe vbus (s.rd
      LINE.PORT_CFG_BUS_LOSS) = false ∧ 2 ≤ s.mode) ∧
    (∃ (s : State) (vbus : Nat), Settled s ∧ s.enabled 0x4D = true ∧ vbus < 4096 ∧ codeGe vbus (s.rd
      LINE.PORT_CFG_BUS_LOSS) = false ∧ s.mode = 1 ∧ s.step_ = 5) :=
  ⟨⟨hub 0, 1, by decide +kernel⟩,
    ⟨hub 3, .host, by unfold Settled Permitted; decide +kernel⟩,
    ⟨hub 3, .host, 5, by unfold Settled Permitted; decide +kernel⟩,
    ⟨(hub 1).wr DEVICE.START_STAT_STEP 1, by decide +kernel⟩,
    ⟨{ (hub 1).wr DEVICE.START_STAT_STEP 2 with otp := { keyCrc := [(0, 0x8A9136AA)] } },
      by unfold Settled; decide +kernel⟩,
    ⟨{ (hub 1).wr DEVICE.START_STAT_STEP 2 with otp := { keyCrc := [(0, 1), (1, 1)] } },
      by unfold Settled; decide +kernel⟩,
    ⟨{ ((hub 1).wr DEVICE.START_STAT_STEP 5).wr POWER.HEADROOM_P_AVAIL 60000 with brk := { okAt := some 0 } },
      by decide +kernel⟩,
    ⟨{ ended ((hub 1).wr DEVICE.START_STAT_STEP 6) tDomain with modeU := { dom := [4, 5] }, pd := [0, 1, 2, 3] }, 4, [5],
      by unfold Settled; decide +kernel⟩,
    ⟨{ ended ((hub 1).wr DEVICE.START_STAT_STEP 6) tDomain with modeU := { dom := [5] }, pd := [0, 1, 2, 3] }, 5, [],
      by unfold Settled; decide +kernel⟩,
    ⟨hub 5, 1535, by unfold Settled; decide +kernel⟩,
    ⟨(hub 1).wr DEVICE.START_STAT_STEP 5, 1535, by unfold Settled; decide +kernel⟩⟩

theorem witness_FlashCommandsOtpAndCopiesComplete :
    (∃ (s : State) (p : Port) (len a : Nat), s.flash.cmd = none ∧ s.fenced 0x58 = false ∧ 1 ≤ len ∧ len ≤ 16 ∧ a = s.rd
      XSPI.FL_ADDR_ADDR ∧ Permitted s p 0x58 0x90 (len * 256 + 1)) ∧
    (∃ (s : State) (p : Port) (len a : Nat), s.flash.cmd = none ∧ s.fenced 0x58 = false ∧ 1 ≤ len ∧ len ≤ 16 ∧ a = s.rd
      XSPI.FL_ADDR_ADDR ∧ Permitted s p 0x58 0x90 (len * 256 + 17) ∧ s.flashProtected a = false ∧ s.flashProtected (a + 4 *
      len - 1) = false ∧ a % 256 + 4 * len ≤ 256) ∧
    (∃ (s : State) (p : Port) (len a : Nat), s.flash.cmd = none ∧ s.fenced 0x58 = false ∧ 1 ≤ len ∧ len ≤ 16 ∧ a = s.rd
      XSPI.FL_ADDR_ADDR ∧ Permitted s p 0x58 0x90 (len * 256 + 17) ∧ s.flashProtected a = false ∧ s.flashProtected (a + 4 *
      len - 1) = false ∧ 256 < a % 256 + 4 * len) ∧
    (∃ (s : State) (p : Port) (len a : Nat), s.flash.cmd = none ∧ s.fenced 0x58 = false ∧ 1 ≤ len ∧ len ≤ 16 ∧ a = s.rd
      XSPI.FL_ADDR_ADDR ∧ Permitted s p 0x58 0x90 33 ∧ s.flashProtected a = false) ∧
    (∃ (s : State) (p : Port) (len a : Nat), s.flash.cmd = none ∧ s.fenced 0x58 = false ∧ 1 ≤ len ∧ len ≤ 16 ∧ a = s.rd
      XSPI.FL_ADDR_ADDR ∧ Permitted s p 0x58 0x90 33 ∧ s.flashProtected a = true) ∧
    (∃ (s : State) (a : Nat) (ws : List Nat), s.flash.cmd = some (0, a, ws) ∧ ws.length ≤ 16 ∧ a + 4 * ws.length <
      0x1000000) ∧
    (∃ (s : State) (a : Nat) (ws : List Nat), s.flash.cmd = some (1, a, ws) ∧ (∀ j, j < 4 * ws.length → s.flashByte (a + j)
      = 255) ∧ (∀ w ∈ ws, w < 2 ^ 32)) ∧
    (∃ (s : State) (a : Nat) (ws : List Nat), s.flash.cmd = some (2, a, ws)) ∧
    (∃ (s : State) (a : Nat) (ws : List Nat), ∃ op res, s.flash.cmd = some (op, a, ws) ∧ (res = 4 ∨ (res = 2 ∧ op = 0))) ∧
    (∃ (s : State) (k : Nat), s.step_ = 7 ∧ s.modeU.copying = true ∧ s.modeU.halted = false ∧ k < 128 ∧ s.copyNext = (1,
      k)) ∧
    (∃ (s : State) (k : Nat), s.step_ = 7 ∧ s.modeU.copying = true ∧ s.modeU.halted = false ∧ k < 128 ∧ s.copyNext = (2,
      k)) ∧
    (∃ (s : State) (k : Nat), s.step_ = 7 ∧ s.modeU.copying = true ∧ s.modeU.halted = false ∧ k < 128 ∧ s.copyNext = (3,
      0)) ∧
    (∃ (s : State), s.step_ = 7 ∧ s.modeU.copying = false ∧ s.slotValid 0 = true) ∧
    (∃ (s : State), s.step_ = 7 ∧ s.modeU.copying = false ∧ s.slotValid 0 = false ∧ s.modeU.copies = 1) ∧
    (∃ (s : State), s.step_ = 7 ∧ s.modeU.copying = false ∧ s.slotValid 0 = false ∧ s.modeU.copies ≠ 1 ∧ s.slotValid 1 =
      true) ∧
    (∃ (s : State), s.step_ = 7 ∧ s.modeU.copying = false ∧ s.slotValid 0 = false ∧ s.modeU.copies ≠ 1 ∧ s.slotValid 1 =
      false) ∧
    (∃ (s : State) (p : Port), ∃ g, s.otp.op = none ∧ s.fenced 0x5A = false ∧ s.progCause 0 = 0 ∧ [0, 1, 2, 3].find?
      s.otp.blank = some g ∧ Permitted s p 0x5A 0x2C0 (256 + s.rd OTP.PROG_CTRL_GEN % 4)) ∧
    (∃ (s : State) (p : Port), ∃ g, s.otp.op = none ∧ s.fenced 0x5A = false ∧ g < 4 ∧ s.progCause 1 = 0 ∧ Permitted s p
      0x5A 0x2C0 (272 + g)) ∧
    (∃ (s : State) (p : Port), s.otp.op = none ∧ s.fenced 0x5A = false ∧ s.progCause 2 = 0 ∧ Permitted s p 0x5A 0x2C0 (288
      + s.rd OTP.PROG_CTRL_GEN % 4)) ∧
    (∃ (s : State) (p : Port), s.otp.op = none ∧ s.fenced 0x5A = false ∧ s.progCause 3 = 0 ∧ Permitted s p 0x5A 0x2C0 (304
      + s.rd OTP.PROG_CTRL_GEN % 4)) ∧
    (∃ (s : State) (p : Port), ∃ g, s.otp.op = none ∧ s.fenced 0x5A = false ∧ g < 4 ∧ (s.mode < 2 ∨ s.mode = 5 ∨ s.brk.low
      = true) ∧ Permitted s p 0x5A 0x2C0 (272 + g)) ∧
    (∃ (s : State) (g : Nat), s.otp.op = some (0, g)) ∧
    (∃ (s : State) (g : Nat), s.otp.op = some (1, g)) ∧
    (∃ (s : State) (g : Nat), s.otp.op = some (2, g)) ∧
    (∃ (s : State) (g : Nat), s.otp.op = some (3, g)) ∧
    (∃ (s : State) (g : Nat), ∃ op, s.otp.op = some (op, g)) ∧
    (∃ (s : State) (p : Port), Permitted s p 0 0x58 1 ∧ s.modeU.saving = false ∧ s.fenced 0 = false ∧ s.pdOn 6 = true) ∧
    (∃ (s : State) (p : Port), Permitted s p 0 0x58 1 ∧ s.modeU.saving = false ∧ s.fenced 0 = false ∧ s.pdOn 6 = false) ∧
    (∃ (s : State), s.modeU.saving = true ∧ s.flash.banks.length = 2) ∧
    (∃ (s : State), Settled s ∧ s.step_ = 8) :=
  ⟨⟨(hub 3).wr XSPI.FL_ADDR_ADDR 0x1300000, .host, 16, 0x1300000, by unfold Permitted; decide +kernel⟩,
    ⟨(hub 3).wr XSPI.FL_ADDR_ADDR 0x13000C0, .host, 16, 0x13000C0, by unfold Permitted; decide +kernel⟩,
    ⟨(hub 3).wr XSPI.FL_ADDR_ADDR 0x13000C4, .host, 16, 0x13000C4, by unfold Permitted; decide +kernel⟩,
    ⟨(hub 3).wr XSPI.FL_ADDR_ADDR 0x1300000, .host, 16, 0x1300000, by unfold Permitted; decide +kernel⟩,
    ⟨(hub 3).wr XSPI.FL_ADDR_ADDR 0x7FFFFF, .host, 16, 0x7FFFFF, by unfold Permitted; decide +kernel⟩,
    ⟨{ hub 3 with flash := { mem := [(0x20, 5)], cmd := some (0, 0x20, [0, 0]) } }, 0x20, [0, 0], by decide +kernel⟩,
    ⟨{ hub 3 with flash := { cmd := some (1, 0x1300000, [5, 4294967295]) } }, 0x1300000, [5, 4294967295],
      by decide +kernel⟩,
    ⟨{ hub 3 with flash := { mem := [(0x1300000, 5)], cmd := some (2, 0x1300000, []) } }, 0x1300000, [],
      by decide +kernel⟩,
    ⟨{ hub 3 with flash := { cmd := some (0, 0x20, [0, 0]) } }, 0x20, [0, 0], 0, 2, by decide +kernel⟩,
    ⟨{ (hub 1).wr DEVICE.START_STAT_STEP 7 with modeU := { copying := true }, flash := { journal := [.start (List.replicate 16 255) 40, .erased 0, .written 0] } },
      1, by decide +kernel⟩,
    ⟨{ (hub 1).wr DEVICE.START_STAT_STEP 7 with modeU := { copying := true }, flash := { journal := [.start (List.replicate 16 255) 40, .erased 1] } },
      1, by decide +kernel⟩,
    ⟨{ (hub 1).wr DEVICE.START_STAT_STEP 7 with modeU := { copying := true }, flash := { journal := [.start (List.replicate 16 255) 16, .written 0] } },
      0, by decide +kernel⟩,
    ⟨imaged 0 ((hub 1).wr DEVICE.START_STAT_STEP 7), ⟨by decide +kernel, by decide +kernel, slotValid_imaged 0 _
      (by decide +kernel)⟩⟩,
    ⟨{ (hub 1).wr DEVICE.START_STAT_STEP 7 with modeU := { copies := 1 } }, by decide +kernel⟩,
    ⟨imaged 1 { (hub 1).wr DEVICE.START_STAT_STEP 7 with modeU := { copies := 2 } }, ⟨by decide +kernel, by decide +kernel,
      slotValid_erased _, by decide +kernel, slotValid_imaged 1 _ (by decide +kernel)⟩⟩,
    ⟨{ (hub 1).wr DEVICE.START_STAT_STEP 7 with modeU := { copies := 2 } }, by decide +kernel⟩,
    ⟨{ hub 3 with otp := { words := [(0, 5), (1, 7)] } }, .host, 1, by unfold Permitted; decide +kernel⟩,
    ⟨hub 3, .host, 3, by unfold Permitted; decide +kernel⟩,
    ⟨hub 3, .host, by unfold Permitted; decide +kernel⟩,
    ⟨{ hub 3 with gcm := { root := some (zeros 32) } }, .host, by unfold Permitted; decide +kernel⟩,
    ⟨{ hub 3 with brk := { low := true } }, .host, 3, by unfold Permitted; decide +kernel⟩,
    ⟨{ hub 3 with otp := { staged := [(0, 7)], op := some (0, 3) } }, 3, by decide +kernel⟩,
    ⟨{ hub 3 with otp := { op := some (1, 3) } }, 3, by decide +kernel⟩,
    ⟨{ hub 3 with otp := { op := some (2, 3) } }, 3, by decide +kernel⟩,
    ⟨{ hub 3 with otp := { op := some (3, 3) } }, 3, by decide +kernel⟩,
    ⟨{ hub 3 with otp := { op := some (2, 3) } }, 3, 2, by decide +kernel⟩,
    ⟨hub 3, .host, by unfold Permitted; decide +kernel⟩,
    ⟨{ hub 3 with pd := [0, 1, 2, 3, 4, 5, 7] }, .host, by unfold Permitted; decide +kernel⟩,
    ⟨{ hub 3 with modeU := { saving := true } }, by decide +kernel⟩,
    ⟨(hub 1).wr DEVICE.START_STAT_STEP 8, by unfold Settled; decide +kernel⟩⟩

theorem witness_FaultsAreDetectedAndRecorded :
    (∃ (s : State) (pg ck detail c : Nat) (corr : Bool), pg ≠ 3 ∧ pg ≠ 0x0E ∧ (pg = 0x0D → ck = 0 → s.isTwin = false) ∧
      checkerClass pg ck = some c ∧ s.flt.todo = [] ∧ c ≠ 0 ∧ (corr = false ∨ bitOf (s.rdn pg HDR.FLT_INJ_INJECT) ck =
      true) ∧ bitOf (s.rdn pg HDR.FLT_STAT_CHECKERS) ck = true) ∧
    (∃ (s : State) (pg ck detail c : Nat) (corr : Bool), pg ≠ 3 ∧ pg ≠ 0x0E ∧ (pg = 0x0D → ck = 0 → s.isTwin = false) ∧
      checkerClass pg ck = some c ∧ s.flt.todo = [] ∧ c ≠ 0 ∧ pg ≠ 0x11 ∧ corr = true ∧ bitOf (s.rdn pg HDR.FLT_INJ_INJECT)
      ck = false) ∧
    (∃ (s : State) (pg ck detail c : Nat) (corr : Bool), pg ≠ 3 ∧ pg ≠ 0x0E ∧ (pg = 0x0D → ck = 0 → s.isTwin = false) ∧
      checkerClass pg ck = some c ∧ s.flt.todo = [] ∧ pg = 6) ∧
    (∃ (s : State) (pg ck detail c : Nat) (corr : Bool), pg ≠ 3 ∧ pg ≠ 0x0E ∧ (pg = 0x0D → ck = 0 → s.isTwin = false) ∧
      checkerClass pg ck = some c ∧ s.flt.todo = [] ∧ corr = false ∧ (c = 2 ∨ c = 1 ∧ (pg = 0x01 ∨ pg = 0x15 ∨ pg = 0x18 ∨
      (pg = 0x19 ∧ ck = 1) ∨ pg = 0x4D ∨ (0x50 ≤ pg ∧ pg < 0x58))) ∧ bitOf (s.rdn pg HDR.FLT_STAT_CHECKERS) ck = false) ∧
    (∃ (s : State) (detail : Nat) (corr : Bool), s.flt.todo = [] ∧ s.byp.high = true ∧ s.mode ≠ 5 ∧ s.flag
      TRANSIT.CMP_STAT_VALID = false ∧ bitOf (s.rdn 0x0E HDR.FLT_STAT_CHECKERS) 0 = false ∧ (corr = false ∨ bitOf (s.rdn
      0x0E HDR.FLT_INJ_INJECT) 0 = true)) ∧
    (∃ (s : State) (detail : Nat), s.flt.todo = [] ∧ s.isTwin = true ∧ s.mode = 5 ∧ s.modeU.want = none ∧ bitOf (s.rdn 0x0D
      HDR.FLT_STAT_CHECKERS) 0 = false) ∧
    (∃ (s : State) (d : Det), s.flt.todo = [] ∧ s.flt.det = [d] ∧ s.flt.recs.length < 32 ∧ d.cls = 1 ∧ s.escRow [d]
      (addFault s.flt.conts d) = 0 ∧ s.flt.fatals.contains (d.page, d.checker) = false) ∧
    (∃ (s : State) (d : Det), s.flt.todo = [] ∧ s.flt.det = [d] ∧ s.flt.recs.length < 32 ∧ d.cls = 2) ∧
    (∃ (s : State) (d : Det), s.flt.todo = [] ∧ s.flt.det = [d] ∧ s.flt.recs.length < 32 ∧ d.cls = 0) ∧
    (∃ (s : State) (d : Det), s.flt.todo = [] ∧ s.flt.det = [d] ∧ d.cls = 1 ∧ 32 ≤ s.flt.recs.length) ∧
    (∃ (s : State) (ck detail : Nat) (corr : Bool) (c : Instr), ck ≤ 2 ∧ (c = .selfFault ck ∨ c = .faultDetected 3 ck
      detail corr)) :=
  ⟨⟨(hub 3).wrn 0x20 HDR.FLT_STAT_CHECKERS 1, 0x20, 0, 9, 1, false, by decide +kernel⟩,
    ⟨hub 3, 0x20, 4, 9, 1, true, by decide +kernel⟩,
    ⟨hub 3, 6, 0, 9, 0, false, by decide +kernel⟩,
    ⟨hub 3, 0x50, 1, 9, 1, false, by decide +kernel⟩,
    ⟨{ hub 3 with byp := { high := true } }, 5, false, by decide +kernel⟩,
    ⟨hub 5 1, 9, by decide +kernel⟩,
    ⟨{ hub 3 with flt := { det := [{ page := 0x50, checker := 1, detail := 9, mono := 3 }], conts := [(0x50, 1)] } },
      { page := 0x50, checker := 1, detail := 9, mono := 3 }, by decide +kernel⟩,
    ⟨{ hub 3 with flt := { det := [{ page := 0x01, checker := 2, detail := 9, mono := 3 }] } },
      { page := 0x01, checker := 2, detail := 9, mono := 3 }, by decide +kernel⟩,
    ⟨{ hub 3 with flt := { det := [{ page := 0x20, checker := 0, corr := true, mono := 3 }] } },
      { page := 0x20, checker := 0, corr := true, mono := 3 }, by decide +kernel⟩,
    ⟨{ hub 3 with flt := { recs := List.replicate 32 { cls := 0, inj := false, prot := false, esc := false, row := 0, page := 6, checker := 0, seq := 0, detail := 0, fab := 0 }, det := [{ page := 0x50, checker := 1, detail := 9, mono := 3 }], conts := [(0x50, 1)] } },
      { page := 0x50, checker := 1, detail := 9, mono := 3 }, by decide +kernel⟩,
    ⟨hub 3, 2, 9, true, .selfFault 2, ⟨by decide, Or.inl rfl⟩⟩⟩

theorem witness_FaultsAreClearedAndTheirPinsReleased :
    (∃ (s : State) (p : Port) (gone : Bool) (pg ck : Nat), ∃ cause, Permitted s p 3 0x64 1 ∧ Settled s ∧ s.rd
      FAULT.CLR_SEL_PAGE = pg ∧ s.rd FAULT.CLR_SEL_CHECKER = ck ∧ ((cause = 1 ∧ (blockType pg = 0 ∨ bitOf (s.rdn pg
      HDR.FLT_STAT_CHECKERS) ck = false)) ∨ (cause = 2 ∧ blockType pg ≠ 0 ∧ bitOf (s.rdn pg HDR.FLT_STAT_CHECKERS) ck =
      true ∧ (pg = 3 ∨ (∃ d ∈ s.flt.det, d.page = pg ∧ d.checker = ck ∧ d.corr = false) ∨ s.conditionGone pg ck gone =
      false)))) ∧
    (∃ (s : State) (p : Port) (gone : Bool) (pg ck : Nat), Permitted s p 3 0x64 1 ∧ Settled s ∧ s.rd FAULT.CLR_SEL_PAGE =
      pg ∧ s.rd FAULT.CLR_SEL_CHECKER = ck ∧ (pg = 0x01 ∨ pg = 0x15 ∨ pg = 0x18 ∨ pg = 0x19 ∨ pg = 0x4D ∨ pg = 0x5A ∨ (0x50
      ≤ pg ∧ pg < 0x58)) ∧ bitOf (s.rdn pg HDR.FLT_STAT_CHECKERS) ck = true ∧ s.flt.det = [] ∧ s.conditionGone pg ck gone =
      true) ∧
    (∃ (s : State) (p : Port), Permitted s p 3 0x54 1) ∧
    (∃ (s : State) (p : Port), Permitted s p 3 0x6C 1 ∧ s.flt.self = false ∧ s.flt.fltLow = true) ∧
    (∃ (s : State) (p : Port), Permitted s p 3 0x6C 1 ∧ (s.flt.self = true ∨ s.flt.fltLow = false)) ∧
    (∃ (s : State), s.due tFltLow = true ∧ s.flt.relPend = true ∧ s.flt.self = false) ∧
    (∃ (s : State), s.due tFltLow = true ∧ (s.flt.relPend = false ∨ s.flt.self = true)) ∧
    (∃ (s : State), s.flt.aliveRun = true ∧ s.flt.grid ≠ s.aliveGrid) ∧
    (∃ (s : State), s.mode = 3 ∧ s.flt.aliveRun = false ∧ s.flt.self = false ∧ s.flt.fatals = [] ∧ s.flt.prots = [] ∧
      s.flt.aliveOk + ms 10 + s.aliveInto ≤ s.mono) :=
  ⟨⟨((hub 3).wr FAULT.CLR_SEL_PAGE 0x50).wr FAULT.CLR_SEL_CHECKER 1, .host, true, 0x50, 1, 1, ⟨⟨by decide +kernel,
    by decide +kernel⟩, (by unfold Settled; decide +kernel), by decide +kernel, by decide +kernel, Or.inl ⟨rfl, Or.inr
    (by decide +kernel)⟩⟩⟩,
    ⟨(((hub 3).wrn 0x57 HDR.FLT_STAT_CHECKERS 2).wr FAULT.CLR_SEL_PAGE 0x57).wr FAULT.CLR_SEL_CHECKER 1, .host, true, 0x57,
      1, by unfold Permitted Settled; decide +kernel⟩,
    ⟨hub 3, .host, by unfold Permitted; decide +kernel⟩,
    ⟨{ hub 3 with flt := { fltLow := true } }, .host, by unfold Permitted; decide +kernel⟩,
    ⟨hub 3, .host, by unfold Permitted; decide +kernel⟩,
    ⟨{ ended (hub 3) tFltLow with flt := { fltLow := true, relPend := true } }, by decide +kernel⟩,
    ⟨{ ended (hub 3) tFltLow with flt := { fltLow := true } }, by decide +kernel⟩,
    ⟨{ hub 3 with flt := { aliveRun := true } }, by decide +kernel⟩,
    ⟨hub 3, by decide +kernel⟩⟩

theorem witness_MonitorsAccumulateAndAreCopied :
    (∃ (s : State) (m : Nat) (v q : Int), m < 24 ∧ s.pageOn 6 = true ∧ q = (s.sampleNow (s.rd CUP.MON_CFG_SRC m) (s.rd
      CUP.MON_CFG_INDEX m)).getD v ∧ s.flag CUP.MON_CFG_EN m = true ∧ sourceHas (s.rd CUP.MON_CFG_SRC m) (s.rd
      CUP.MON_CFG_INDEX m) = true) ∧
    (∃ (s : State) (m : Nat) (v q : Int), m < 24 ∧ s.pageOn 6 = true ∧ q = (s.sampleNow (s.rd CUP.MON_CFG_SRC m) (s.rd
      CUP.MON_CFG_INDEX m)).getD v ∧ s.flag CUP.MON_CFG_EN m = false) ∧
    (∃ (s : State) (p : Port) (m off v : Nat), m < 24 ∧ (off = 0 ∨ off = 4 ∨ off = 8) ∧ Permitted s p 6 (0x100 + 0x20 * m +
      off) (v % 2 ^ 32)) ∧
    (∃ (s : State) (p : Port) (m : Nat) (clear : Bool), m < 24 ∧ s.cupSnap = none ∧ Permitted s p 6 0x40 (256 + 128 * bit
      clear + m)) ∧
    (∃ (s : State) (m : Nat) (clear : Bool), s.cupSnap = some (m, clear) ∧ m < 24) ∧
    (∃ (s : State) (p : Port), Permitted s p 6 0x40 (512 + 128 * (s.rd CUP.SNAP_CTRL_CLEAR % 2) + s.rd
      CUP.SNAP_CTRL_MONITOR % 32) ∧ s.cupSnap.isSome = true) ∧
    (∃ (s : State) (p : Port), Permitted s p 6 0x40 (512 + 128 * (s.rd CUP.SNAP_CTRL_CLEAR % 2) + s.rd
      CUP.SNAP_CTRL_MONITOR % 32) ∧ s.cupSnap = none ∧ s.rd CUP.SNAP_CTRL_STATUS = 2) :=
  ⟨⟨((hub 3).wr CUP.MON_CFG_EN 1 23).wr CUP.MON_CFG_SRC 1 23, 23, -5, ((((hub 3).wr CUP.MON_CFG_EN 1 23).wr CUP.MON_CFG_SRC
    1 23).sampleNow 1 0).getD (-5), by decide +kernel⟩,
    ⟨hub 3, 23, -5, ((hub 3).sampleNow ((hub 3).rd CUP.MON_CFG_SRC 23) ((hub 3).rd CUP.MON_CFG_INDEX 23)).getD (-5),
      by decide +kernel⟩,
    ⟨hub 3, .host, 23, 0, 4294967295, by unfold Permitted; decide +kernel⟩,
    ⟨hub 3, .host, 23, true, by unfold Permitted; decide +kernel⟩,
    ⟨{ hub 3 with cupSnap := some (23, true) }, 23, true, by decide +kernel⟩,
    ⟨{ hub 3 with cupSnap := some (23, true) }, .host, by unfold Permitted; decide +kernel⟩,
    ⟨(hub 3).wr CUP.SNAP_CTRL_STATUS 2, .host, by unfold Permitted; decide +kernel⟩⟩

theorem witness_RelayedBlocksAreTakenAndAnswered :
    (∃ (s : State) (f : Frame) (b : List Nat), Settled s ∧ s.pageOn 0x59 = true ∧ f.tc = 5 ∧ bnat f.payload = b ∧ b.length
      = 4096 ∧ nth b 0 = 0xB1 ∧ s.flag UPDATE.CFG_ACCEPT = false ∧ s.upd.rx = none) ∧
    (∃ (s : State) (f : Frame) (b : List Nat), ∃ r k, Settled s ∧ s.pageOn 0x59 = true ∧ f.tc = 5 ∧ bnat f.payload = b ∧
      b.length = 4096 ∧ nth b 0 = 0xB1 ∧ s.flag UPDATE.CFG_ACCEPT = true ∧ s.upd.rx = some r ∧ r.block = none ∧ blkId b =
      r.id ∧ s.updBusy = true ∧ s.imageKey = some k ∧ blkIndex b = r.next ∧ blkGood k r.tag b r.id r.count r.next = true ∧
      r.skip = false ∧ r.next % 16 ≠ 0) ∧
    (∃ (s : State) (f : Frame) (b : List Nat), ∃ r, Settled s ∧ s.pageOn 0x59 = true ∧ f.tc = 5 ∧ bnat f.payload = b ∧
      b.length = 4096 ∧ nth b 0 = 0xB1 ∧ s.flag UPDATE.CFG_ACCEPT = true ∧ s.upd.rx = some r ∧ r.block = none ∧ blkId b =
      r.id ∧ s.updBusy = true ∧ blkIndex b = r.next ∧ (∀ k, s.imageKey = some k → blkGood k r.tag b r.id r.count r.next =
      false)) ∧
    (∃ (s : State) (f : Frame) (b : List Nat), ∃ r, Settled s ∧ s.pageOn 0x59 = true ∧ f.tc = 5 ∧ bnat f.payload = b ∧
      b.length = 4096 ∧ nth b 0 = 0xB1 ∧ s.flag UPDATE.CFG_ACCEPT = true ∧ s.upd.rx = some r ∧ r.block = none ∧ blkId b =
      r.id ∧ s.updBusy = true ∧ blkIndex b < r.next ∧ s.isTwin = false ∧ nodeOf f.src ≠ s.nodeId ∧ Plain s 5 (nodeOf f.src
      * 8192) ∧ Room s 7 5) ∧
    (∃ (s : State) (f : Frame) (b : List Nat), ∃ r, Settled s ∧ s.pageOn 0x59 = true ∧ f.tc = 5 ∧ bnat f.payload = b ∧
      b.length = 4096 ∧ nth b 0 = 0xB1 ∧ s.flag UPDATE.CFG_ACCEPT = true ∧ s.upd.rx = some r ∧ r.block = none ∧ blkId b ≠
      r.id ∧ s.updBusy = true ∧ blkIndex b = 0 ∧ s.upd.refused ≠ some (blkId b) ∧ s.isTwin = false ∧ s.nodeId < 4096 ∧
      blkCoord b < 4096 ∧ blkCoord b ≠ s.nodeId ∧ Plain s 5 (blkCoord b * 8192) ∧ Room s 7 5) ∧
    (∃ (s : State) (r : RelayRx) (b : List Nat) (n : Nat), Settled s ∧ s.upd.rx = some r ∧ r.block = some (b, n) ∧
      s.updBusy = true ∧ b.length = 4096 ∧ s.isTwin = false ∧ n ≠ s.nodeId ∧ n < 4096 ∧ Plain s 5 (n * 8192) ∧ Room s 7 5 ∧
      s.relayEnd r.coord = true ∧ r.next + 1 ≠ r.count) ∧
    (∃ (s : State) (r : RelayRx) (b : List Nat) (n : Nat), Settled s ∧ s.upd.rx = some r ∧ r.block = some (b, n) ∧
      s.updBusy = true ∧ r.next + 1 = r.count ∧ r.skip = false) ∧
    (∃ (s : State), Settled s ∧ s.due tSilent = true ∧ s.upd.rx.isSome = true ∧ s.updBusy = true) :=
  ⟨⟨(hub 3).wr UPDATE.CFG_ACCEPT 0, relayed (block 0 7 2), block 0 7 2, by unfold Settled; decide +kernel⟩,
    ⟨{ receiving { id := 9, coord := 7, count := 20, next := 1, tag := zeros 16 } with gcm := { root := some (zeros 32) } },
      relayed blockR, blockR, ({ id := 9, coord := 7, count := 20, next := 1, tag := zeros 16 } : RelayRx), testKey,
      ⟨by unfold Settled; decide +kernel, by decide +kernel, rfl, payload_blockR, bytes_blockR.1, nth_block,
      by decide +kernel, rfl, rfl, blkId_block, by decide +kernel, rfl, blkIndex_block (by omega), good_blockR, rfl, by
      decide⟩⟩,
    ⟨receiving { id := 9, coord := 7, count := 20, next := 1 }, relayed (block 1 7 20), block 1 7 20,
      ({ id := 9, coord := 7, count := 20, next := 1 } : RelayRx), ⟨by unfold Settled; decide +kernel, by decide +kernel,
      rfl, by decide +kernel, by decide +kernel, by decide +kernel, by decide +kernel, rfl, rfl, by decide +kernel,
      by decide +kernel, by decide +kernel, fun k h => nomatch h⟩⟩,
    ⟨receiving { id := 9, coord := 7, count := 20, next := 2 }, relayed (block 1 7 20), block 1 7 20,
      ({ id := 9, coord := 7, count := 20, next := 2 } : RelayRx), by unfold Settled Plain Room RoomAt; decide +kernel⟩,
    ⟨receiving { id := 8, coord := 7, count := 20, next := 2 }, relayed (block 0 7 20), block 0 7 20,
      ({ id := 8, coord := 7, count := 20, next := 2 } : RelayRx), by unfold Settled Plain Room RoomAt; decide +kernel⟩,
    ⟨receiving { id := 9, coord := 7, count := 20, next := 1, block := some (block 1 7 20, 7) },
      { id := 9, coord := 7, count := 20, next := 1, block := some (block 1 7 20, 7) }, block 1 7 20, 7,
      by unfold Settled Plain Room RoomAt; decide +kernel⟩,
    ⟨receiving { id := 9, coord := 7, count := 20, next := 19, block := some (block 19 7 20, 7) },
      { id := 9, coord := 7, count := 20, next := 19, block := some (block 19 7 20, 7) }, block 19 7 20, 7,
      by unfold Settled; decide +kernel⟩,
    ⟨ended (receiving { id := 9, coord := 7, count := 20, next := 1 }) tSilent, by unfold Settled; decide +kernel⟩⟩

theorem witness_SentBlocksAreAcknowledgedOrResent :
    (∃ (s : State) (p : Port), ∃ n, Permitted s p 0x59 0x48 2 ∧ Settled s ∧ s.updBusy = false ∧ s.flash.ready = true ∧
      s.fenced 0x59 = false ∧ s.enabled 0x59 = true ∧ s.relayNext = some n) ∧
    (∃ (s : State) (p : Port), Permitted s p 0x59 0x48 2 ∧ Settled s ∧ s.updBusy = false ∧ s.flash.ready = true ∧ s.fenced
      0x59 = false ∧ s.enabled 0x59 = true ∧ s.relayNext = none) ∧
    (∃ (s : State) (f : Frame) (b : List Nat) (x : RelayTx) (o : RelayOut), Settled s ∧ s.pageOn 0x59 = true ∧ f.tc = 5 ∧
      bnat f.payload = b ∧ b.length = 32 ∧ nth b 0 = 0xB2 ∧ s.upd.tx = some x ∧ x.id = blkId b ∧ x.dest = nodeOf f.src ∧
      x.out = [o] ∧ o.index = blkIndex b ∧ x.wait = [] ∧ (∀ w ∈ x.ackers, w ∈ o.acked ∨ w = ackIndex (nth b 1))) ∧
    (∃ (s : State) (f : Frame) (b : List Nat) (x : RelayTx) (o : RelayOut), ∃ w, Settled s ∧ s.pageOn 0x59 = true ∧ f.tc =
      5 ∧ bnat f.payload = b ∧ b.length = 32 ∧ nth b 0 = 0xB2 ∧ s.upd.tx = some x ∧ x.id = blkId b ∧ x.dest = nodeOf f.src
      ∧ x.out = [o] ∧ o.index = blkIndex b ∧ x.wait = [] ∧ w ∉ o.acked ∧ w ≠ ackIndex (nth b 1)) ∧
    (∃ (s : State) (f : Frame) (b : List Nat), Settled s ∧ s.pageOn 0x59 = true ∧ f.tc = 5 ∧ bnat f.payload = b ∧ b.length
      = 32 ∧ nth b 0 = 0xB3 ∧ s.upd.reps.length < 128) ∧
    (∃ (s : State) (f : Frame) (b : List Nat), Settled s ∧ s.pageOn 0x59 = true ∧ f.tc = 5 ∧ bnat f.payload = b ∧ b.length
      = 32 ∧ nth b 0 = 0xB3 ∧ 128 ≤ s.upd.reps.length) ∧
    (∃ (s : State) (p : Port), Permitted s p 0x59 0x78 1) ∧
    (∃ (s : State) (i : Nat) (x : RelayTx) (o : RelayOut), Settled s ∧ i < 256 ∧ s.due (tResend i) = true ∧ s.upd.tx = some
      x ∧ x.out = [o] ∧ o.index = i ∧ o.tries < 3) ∧
    (∃ (s : State) (i : Nat) (x : RelayTx) (o : RelayOut), Settled s ∧ i < 256 ∧ s.due (tResend i) = true ∧ s.upd.tx = some
      x ∧ x.out = [o] ∧ o.index = i ∧ 3 ≤ o.tries ∧ s.updBusy = true) :=
  ⟨⟨{ (hub 3).wrn 0 PHY.PHY_STAT_STATE 8 with flash := { ready := true }, time := { nbr := [(0, 8)] } }, .host, 7,
    by unfold Permitted Settled; decide +kernel⟩,
    ⟨{ hub 3 with flash := { ready := true } }, .host, by unfold Permitted Settled; decide +kernel⟩,
    ⟨relaying { id := 9, dest := 7, out := [{ index := 3, block := [] }], ackers := [2] }, relayed ([0xB2, 2] ++ beBytes 2
      3 ++ beBytes 8 9 ++ zeros 20), [0xB2, 2] ++ beBytes 2 3 ++ beBytes 8 9 ++ zeros 20,
      { id := 9, dest := 7, out := [{ index := 3, block := [] }], ackers := [2] }, { index := 3, block := [] },
      by unfold Settled; decide +kernel⟩,
    ⟨relaying { id := 9, dest := 7, out := [{ index := 3, block := [] }], ackers := [0, 1] }, relayed ([0xB2, 0] ++ beBytes
      2 3 ++ beBytes 8 9 ++ zeros 20), [0xB2, 0] ++ beBytes 2 3 ++ beBytes 8 9 ++ zeros 20,
      { id := 9, dest := 7, out := [{ index := 3, block := [] }], ackers := [0, 1] }, { index := 3, block := [] }, 1,
      by unfold Settled; decide +kernel⟩,
    ⟨hub 3, relayed ([0xB3, 2] ++ beBytes 2 3 ++ beBytes 8 9 ++ zeros 20), [0xB3, 2] ++ beBytes 2 3 ++ beBytes 8 9 ++ zeros
      20, by unfold Settled; decide +kernel⟩,
    ⟨{ hub 3 with upd := { reps := List.replicate 128 (0, 1, 1) } }, relayed ([0xB3, 2] ++ beBytes 2 3 ++ beBytes 8 9 ++
      zeros 20), [0xB3, 2] ++ beBytes 2 3 ++ beBytes 8 9 ++ zeros 20, by unfold Settled; decide +kernel⟩,
    ⟨{ hub 3 with upd := { reps := [(0, 1, 1)] } }, .host, by unfold Permitted; decide +kernel⟩,
    ⟨ended (relaying { id := 9, dest := 7, out := [{ index := 255, block := zeros 8, tries := 2 }], ackers := [2] })
      (tResend 255), 255, { id := 9, dest := 7, out := [{ index := 255, block := zeros 8, tries := 2 }], ackers := [2] },
      { index := 255, block := zeros 8, tries := 2 }, by unfold Settled; decide +kernel⟩,
    ⟨ended (relaying { id := 9, dest := 7, out := [{ index := 0, block := zeros 8, tries := 3 }], ackers := [2] }) (tResend
      0), 0, { id := 9, dest := 7, out := [{ index := 0, block := zeros 8, tries := 3 }], ackers := [2] },
      { index := 0, block := zeros 8, tries := 3 }, by unfold Settled; decide +kernel⟩⟩

theorem witness_UpdateControlRequestsAct :
    (∃ (s : State) (p : Port), Permitted s p 0x59 0x48 1 ∧ Settled s ∧ s.updBusy = false) ∧
    (∃ (s : State) (p : Port), Permitted s p 0x59 0x48 1 ∧ Settled s ∧ s.updBusy = true) ∧
    (∃ (s : State), Settled s ∧ s.upd.verifying = true ∧ s.slotCode = 0) ∧
    (∃ (s : State), Settled s ∧ s.upd.verifying = true ∧ s.slotCode ≠ 0) ∧
    (∃ (s : State) (p : Port), Permitted s p 0x59 0x48 8 ∧ Settled s ∧ s.updBusy = false ∧ s.flash.ready = true ∧ s.pdOn 4
      = true ∧ s.pdOn 5 = true) ∧
    (∃ (s : State) (p : Port), Permitted s p 0x59 0x48 8 ∧ Settled s ∧ s.updBusy = false ∧ (s.flash.ready = false ∨ s.pdOn
      4 = false ∨ s.pdOn 5 = false)) ∧
    (∃ (s : State), Settled s ∧ s.upd.staging = true ∧ s.slotCode = 0) ∧
    (∃ (s : State), Settled s ∧ s.upd.staging = true ∧ s.slotCode ≠ 0) ∧
    (∃ (s : State) (p : Port), Permitted s p 0x59 0x48 16 ∧ Settled s ∧ s.updBusy = false ∧ (s.isTwin = false ∨ s.twinRole
      ≠ 1 ∨ s.rd TWIN.STAT_PEER_ROLE ≠ 2) ∧ 5 ≤ s.step_) ∧
    (∃ (s : State) (p : Port), Permitted s p 0x59 0x48 16 ∧ Settled s ∧ s.updBusy = false ∧ s.isTwin = true ∧ s.twinRole =
      1 ∧ s.rd TWIN.STAT_PEER_ROLE = 2) ∧
    (∃ (s : State) (p : Port) (equal : Bool), Permitted s p 0x59 0x48 32 ∧ Settled s ∧ s.updBusy = false ∧ s.isTwin = true
      ∧ s.twinRole = 1 ∧ s.rd TWIN.STAT_PEER_ROLE = 2 ∧ s.twin.peerRec = true ∧ (s.twin.peerStep = true ∨ equal = true) ∧
      s.twin.release = none ∧ s.twin.lost = false) ∧
    (∃ (s : State) (p : Port) (equal : Bool), Permitted s p 0x59 0x48 32 ∧ Settled s ∧ s.updBusy = false ∧ s.isTwin = true
      ∧ (s.twinRole ≠ 1 ∨ s.rd TWIN.STAT_PEER_ROLE ≠ 2 ∨ s.twin.peerRec = false ∨ (s.twin.peerStep = false ∧ equal =
      false))) ∧
    (∃ (s : State) (p : Port) (equal : Bool), Permitted s p 0x59 0x48 32 ∧ Settled s ∧ s.updBusy = false ∧ s.isTwin =
      false) ∧
    (∃ (s : State) (p : Port), Permitted s p 0x59 0x48 4 ∧ Settled s ∧ s.rd UPDATE.STAT_STATUS = 2) ∧
    (∃ (s : State) (p : Port), Permitted s p 0x59 0x48 4 ∧ Settled s ∧ s.updBusy = true ∧ (s.step_ ≠ 7 ∨ s.modeU.copying =
      false) ∧ s.upd.staging = false ∧ s.upd.swap = none ∧ s.upd.verifying = true) ∧
    (∃ (s : State) (p : Port), Permitted s p 0x59 0x48 4 ∧ Settled s ∧ s.updBusy = true ∧ (s.step_ ≠ 7 ∨ s.modeU.copying =
      false) ∧ (s.upd.staging = true ∨ s.upd.swap.isSome = true)) ∧
    (∃ (s : State) (p : Port), Permitted s p 0x59 0x48 4 ∧ Settled s ∧ s.updBusy = true ∧ (s.step_ ≠ 7 ∨ s.modeU.copying =
      false) ∧ s.upd.staging = false ∧ s.upd.swap = none ∧ s.upd.verifying = false) :=
  ⟨⟨hub 3, .host, by unfold Permitted Settled; decide +kernel⟩,
    ⟨(hub 3).wr UPDATE.STAT_STATUS 1, .host, by unfold Permitted Settled; decide +kernel⟩,
    ⟨imaged 1 { (hub 3).wr UPDATE.STAT_STATUS 1 with upd := { verifying := true } }, ⟨by unfold Settled; decide +kernel,
      by decide +kernel, slotCode_imaged _ (by decide +kernel)⟩⟩,
    ⟨{ (hub 3).wr UPDATE.STAT_STATUS 1 with upd := { verifying := true } }, by unfold Settled; decide +kernel⟩,
    ⟨{ hub 3 with flash := { ready := true } }, .host, by unfold Permitted Settled; decide +kernel⟩,
    ⟨hub 3, .host, by unfold Permitted Settled; decide +kernel⟩,
    ⟨imaged 1 { (hub 3).wr UPDATE.STAT_STATUS 1 with upd := { staging := true } }, ⟨by unfold Settled; decide +kernel,
      by decide +kernel, slotCode_imaged _ (by decide +kernel)⟩⟩,
    ⟨{ (hub 3).wr UPDATE.STAT_STATUS 1 with upd := { staging := true } }, by unfold Settled; decide +kernel⟩,
    ⟨hub 3, .host, by unfold Permitted Settled; decide +kernel⟩,
    ⟨((hub 3 1).wr TWIN.STAT_ROLE 1).wr TWIN.STAT_PEER_ROLE 2, .host, by unfold Permitted Settled; decide +kernel⟩,
    ⟨{ ((hub 3 1).wr TWIN.STAT_ROLE 1).wr TWIN.STAT_PEER_ROLE 2 with twin := { peerRec := true } }, .host, true,
      by unfold Permitted Settled; decide +kernel⟩,
    ⟨{ ((hub 3 1).wr TWIN.STAT_ROLE 1).wr TWIN.STAT_PEER_ROLE 2 with twin := { peerRec := true } }, .host, false,
      by unfold Permitted Settled; decide +kernel⟩,
    ⟨hub 3, .host, true, by unfold Permitted Settled; decide +kernel⟩,
    ⟨(hub 3).wr UPDATE.STAT_STATUS 2, .host, by unfold Permitted Settled; decide +kernel⟩,
    ⟨{ (hub 3).wr UPDATE.STAT_STATUS 1 with upd := { verifying := true } }, .host,
      by unfold Permitted Settled; decide +kernel⟩,
    ⟨{ (hub 3).wr UPDATE.STAT_STATUS 1 with upd := { staging := true } }, .host,
      by unfold Permitted Settled; decide +kernel⟩,
    ⟨receiving { id := 9, coord := 7, count := 20, next := 1 }, .host, by unfold Permitted Settled; decide +kernel⟩⟩

theorem witness_EveryStepKeepsTheMemoriesCanonical :
    (∃ (s t : State), memWf s = true ∧ step s = .next t) :=
  ⟨{ State.reset with pending := [.cupSample 23 0], prog := [(2, 7)] }, { State.reset with prog := [(2, 7)] },
    ⟨by decide +kernel, rfl⟩⟩

theorem witness_CommandsLeaveTheQueueAlone :
    (∃ (c : Instr) (s t : State), exec c s = .next t) :=
  ⟨.cupSample 23 0, hub 3, hub 3, rfl⟩

end Sys2Proof.Tests
end

section
/-! PROOFS. Accesses to BAR0 as a whole: what a permitted write and read come down to, and the table of register
fields. -/

namespace Sys2Proof.Proofs

open Sys2Proof.Machine Sys2Proof.Safety Sys2Proof.Laws

/-! ### The register table -/

/-- Storing one field copy keeps the keys of the register table rising. -/
theorem rising_wrn (s : State) (n : Nat) (f : Fld) (v i : Nat) (h : Tbl.rising s.regs = true) :
    Tbl.rising (s.wrn n f v i).regs = true := by
  simp only [State.wrn, putField]
  split
  · exact rising_filter _ _ h
  · exact rising_put _ _ _ h

/-- Settles O11: reset lists no field, and a store deletes or inserts one key in its place. -/
theorem registerTableStaysInOrder : Obligations.RegisterTableStaysInOrder :=
  ⟨rfl, fun s n f v i h =>
    ⟨rising_wrn s n f v i h, rdn_wrn_same s n f v i, fun m g j hk => rdn_wrn_other s n m f g v i j hk, rfl⟩⟩

/-! ### An access over the twin link starts at most a timer -/

/-- A frame of the peer that brings an access changes the timers only (R177). -/
theorem heard_frame (s : State) (p : Port) : ∃ ts, s.heard p = { s with timers := ts } := by
  unfold State.heard
  split
  · exact ⟨_, rfl⟩
  · exact ⟨s.timers, rfl⟩

@[simp] theorem heard_regs (s : State) (p : Port) : (s.heard p).regs = s.regs := by
  obtain ⟨ts, h⟩ := heard_frame s p
  rw [h]

@[simp] theorem heard_sent (s : State) (p : Port) : (s.heard p).sent = s.sent := by
  obtain ⟨ts, h⟩ := heard_frame s p
  rw [h]

@[simp] theorem heard_pageUnit (s : State) (p : Port) : (s.heard p).pageUnit = s.pageUnit := by
  obtain ⟨ts, h⟩ := heard_frame s p
  rw [h]

@[simp] theorem heard_fab (s : State) (p : Port) : (s.heard p).fab = s.fab := by
  obtain ⟨ts, h⟩ := heard_frame s p
  rw [h]

theorem heard_rdn (s : State) (p : Port) (n : Nat) (f : Fld) (i : Nat) : (s.heard p).rdn n f i = s.rdn n f i := by
  simp only [State.rdn, heard_regs]

theorem heard_settled (s : State) (p : Port) (h : Settled s) : Settled (s.heard p) := by
  obtain ⟨ts, e⟩ := heard_frame s p
  rw [e]
  exact h

theorem heard_fieldWord (s : State) (p : Port) (pg off : Nat) : (s.heard p).fieldWord pg off = s.fieldWord pg off := by
  obtain ⟨ts, e⟩ := heard_frame s p
  rw [e]
  rfl

theorem heard_rcOf (s : State) (p : Port) (a : Nat) : (s.heard p).rcOf a = s.rcOf a := by
  obtain ⟨ts, e⟩ := heard_frame s p
  rw [e]
  rfl

/-! ### Accesses of one whole word -/

/-- REGISTER_WRITE of an offset inside BAR0 is a write access. -/
theorem exec_registerWrite (s : State) (p : Port) (a v dw be : Nat) (h : a < 2 ^ 24) :
    exec (.registerWrite p ⟨a, dw, be⟩ v) s = .next (s.busWrite p a v dw be) := if_neg (Nat.not_le.mpr h)

/-- LO_READ_CAPTURE of an offset inside BAR0 is a read access. -/
theorem exec_loReadCapture (s : State) (p : Port) (a dw be : Nat) (h : a < 2 ^ 24) :
    exec (.loReadCapture p ⟨a, dw, be⟩) s = .next (s.busRead p a dw be) := if_neg (Nat.not_le.mpr h)

/-- REGISTER_WRITE of an offset beyond BAR0 has no address. -/
theorem exec_registerWrite_outside (s : State) (p : Port) (a v dw be : Nat) (h : 2 ^ 24 ≤ a) :
    exec (.registerWrite p ⟨a, dw, be⟩ v) s = .fault .outsideAddressSpace := if_pos h

/-- LO_READ_CAPTURE of an offset beyond BAR0 has no address. -/
theorem exec_loReadCapture_outside (s : State) (p : Port) (a dw be : Nat) (h : 2 ^ 24 ≤ a) :
    exec (.loReadCapture p ⟨a, dw, be⟩) s = .fault .outsideAddressSpace := if_pos h

/-- An access of one whole word is no pair of MSI-X words. -/
theorem msixPair_oneWord (p : Port) (a : Nat) : msixPair p a 1 15 = false := by
  simp [msixPair]

/-- An access of one whole aligned word in the register pages is judged by its page and its offset there (R41). -/
theorem judge_page (s : State) (p : Port) (wr : Bool) (pg off v : Nat) (hpg : pg < 256) (hoff : off < 4096)
    (h4 : off % 4 = 0) : s.judge p wr (pg * 4096 + off) v true = s.judgePage p wr pg off v := by
  have ha : (pg * 4096 + off) % 4 = 0 := by omega
  have hin : pg * 4096 + off < 0x100000 := by omega
  have hq : (pg * 4096 + off) / 4096 = pg := by omega
  have hr : (pg * 4096 + off) % 4096 = off := by omega
  simp [State.judge, ha, hin, hq, hr]

/-- A permitted write of one whole word has its effect, and is answered. -/
theorem busWrite_permitted (s : State) (p : Port) (a v : Nat) (harr : s.arrives p = true)
    (hcredit : s.hostWaits p true = false) (hjudge : s.judge p true a (v % 2 ^ 32) true = none) :
    s.busWrite p a v 1 15 = (((s.heard p).writeWord p 0 a (v % 2 ^ 32)).emit (done p)).modeDone := by
  have hone : oneWord 1 15 = true := rfl
  simp only [State.busWrite, State.busWriteNow, harr, hcredit, msixPair_oneWord, hone, hjudge]
  rfl

/-- A permitted read of one whole word returns it. -/
theorem busRead_permitted (s : State) (p : Port) (a : Nat) (harr : s.arrives p = true)
    (hcredit : s.hostWaits p false = false) (hjudge : s.judge p false a 0 true = none) :
    s.busRead p a 1 15 = ((s.heard p).readBar p a).2.emit (.answer p.code true 0 ((s.heard p).readBar p a).1) := by
  have hone : oneWord 1 15 = true := rfl
  simp only [State.busRead, State.busReadNow, harr, hcredit, msixPair_oneWord, hone, hjudge]
  rfl

/-! ### A plain word -/

/-- DEVICE.INTN_EN_LO is one field of 32 bits. -/
theorem slots_intnEnLo (s : State) : s.slots 0 0x128 = [{ fld := DEVICE.INTN_EN_LO_ENABLE, i := 0, lo := 0 }] := rfl

/-- A write of DEVICE.INTN_EN_LO stores the word in its one field. -/
theorem writeWord_intnEnLo (s : State) (p : Port) (v : Nat) :
    s.writeWord p 0 0x128 v = s.wr DEVICE.INTN_EN_LO_ENABLE (bits v 0 32) := by
  have hpoke : s.writeWord p 0 0x128 v = s.writeFields 0 0x128 v := rfl
  rw [hpoke, State.writeFields, slots_intnEnLo]
  rfl

/-- A permitted write of DEVICE.INTN_EN_LO stores the word and is answered; nothing follows it in a settled state. -/
theorem registerWrite_intnEnLo (s : State) (p : Port) (v : Nat) (hperm : Permitted s p 0 0x128 (v % 2 ^ 32))
    (hset : Settled s) :
    exec (.registerWrite p ⟨0x128, 1, 15⟩ v) s =
      .next (((s.heard p).wr DEVICE.INTN_EN_LO_ENABLE (v % 2 ^ 32)).emit (done p)) := by
  obtain ⟨harr, hcredit, hpage⟩ := hperm
  have hjudge : s.judge p true 0x128 (v % 2 ^ 32) true = none :=
    (judge_page s p true 0 0x128 _ (by decide) (by decide) (by decide)).trans hpage
  have hbits : bits (v % 2 ^ 32) 0 32 = v % 2 ^ 32 := by simp [bits]
  have hafter : Settled (((s.heard p).wr DEVICE.INTN_EN_LO_ENABLE (v % 2 ^ 32)).emit (done p)) := heard_settled s p hset
  rw [exec_registerWrite s p _ v _ _ (by decide), busWrite_permitted s p _ v harr hcredit hjudge, writeWord_intnEnLo, hbits,
    modeDone_settled _ hafter]

/-! ### Captures -/

/-- A read of a word that is not RC and not held captures the words after it (R52). -/
theorem readBar_capture (s : State) (p : Port) (a : Nat) (ha : a < 0x100000) (hrc : s.rcOf a = none)
    (hnone : Tbl.find s.pageUnit.hold (holdKey p a) = none) :
    s.readBar p a = (s.peek a, { s with pageUnit := { s.pageUnit with
      hold := (List.range (s.captures (a / 4096) (a % 4096))).foldl (fun t k =>
        Tbl.put t (holdKey p (a + 4 * (k + 1))) (s.peek (a + 4 * (k + 1)))) s.pageUnit.hold } }) := by
  simp [State.readBar, State.readWord, hrc, hnone, ha]

/-- A read of a held word that is not RC returns it, once (R52). -/
theorem readBar_held (s : State) (p : Port) (a v : Nat) (ha : a < 0x100000) (hrc : s.rcOf a = none)
    (hheld : Tbl.find s.pageUnit.hold (holdKey p a) = some v) :
    s.readBar p a = (v, { s with pageUnit := { s.pageUnit with hold := Tbl.del s.pageUnit.hold (holdKey p a) } }) := by
  simp [State.readBar, State.readWord, hrc, hheld, ha]

/-- The words of TIME that show the fabric time: what the unit shows, over what the fields hold. -/
theorem peek_fabricTime (s : State) :
    s.peek 0x4040 = ([(16, 16, s.fab / 2 ^ 32 % 2 ^ 16), (0, 16, s.nowSec / 2 ^ 32 % 2 ^ 16)]).foldl putBits
      (s.fieldWord 4 0x40) ∧
    s.peek 0x4044 = ([(0, 30, s.nowNs)]).foldl putBits (s.fieldWord 4 0x44) ∧
    s.peek 0x4048 = ([(0, 32, s.nowSec % 2 ^ 32)]).foldl putBits (s.fieldWord 4 0x48) := ⟨rfl, rfl, rfl⟩

/-- The frame that brings a read does not change the fabric time it returns. -/
theorem heard_peek_fabricTime (s : State) (p : Port) (a : Nat) (ha : a = 0x4040 ∨ a = 0x4044 ∨ a = 0x4048) :
    (s.heard p).peek a = s.peek a := by
  obtain ⟨h0, h1, h2⟩ := peek_fabricTime s
  obtain ⟨k0, k1, k2⟩ := peek_fabricTime (s.heard p)
  rcases ha with rfl | rfl | rfl
  · simp only [h0, k0, heard_fieldWord, State.nowSec, heard_fab]
  · simp only [h1, k1, heard_fieldWord, State.nowNs, heard_fab]
  · simp only [h2, k2, heard_fieldWord, State.nowSec, heard_fab]

/-- The holding registers after a read of the lowest word of the fabric time. -/
def fabricTimeHold (s : State) (p : Port) : Tbl Nat :=
  Tbl.put (Tbl.put s.pageUnit.hold (holdKey p 0x4044) (s.peek 0x4044)) (holdKey p 0x4048) (s.peek 0x4048)

theorem find_fabricTimeHold_ns (s : State) (p : Port) :
    Tbl.find (fabricTimeHold s p) (holdKey p 0x4044) = some (s.peek 0x4044) := by
  rw [fabricTimeHold, find_put_other _ _ _ _ (by simp [holdKey]), find_put_same]

theorem find_fabricTimeHold_sec (s : State) (p : Port) :
    Tbl.find (fabricTimeHold s p) (holdKey p 0x4048) = some (s.peek 0x4048) := find_put_same _ _ _

theorem find_fabricTimeHold_other (s : State) (p : Port) (k : Nat) (hns : k ≠ holdKey p 0x4044)
    (hsec : k ≠ holdKey p 0x4048) : Tbl.find (fabricTimeHold s p) k = Tbl.find s.pageUnit.hold k := by
  rw [fabricTimeHold, find_put_other _ _ _ _ hsec, find_put_other _ _ _ _ hns]

/-- A permitted read of the lowest word of the fabric time that is not held returns it and holds the two words after it. -/
theorem loReadCapture_fabricTime (s : State) (p : Port) (hread : Readable s p 4 0x40)
    (hnone : Tbl.find s.pageUnit.hold (holdKey p 0x4040) = none) :
    exec (.loReadCapture p ⟨0x4040, 1, 15⟩) s =
      .next ({ s.heard p with pageUnit := { s.pageUnit with hold := fabricTimeHold s p } }.emit
        (.answer p.code true 0 (s.peek 0x4040))) := by
  obtain ⟨harr, hcredit, hpage⟩ := hread
  have hjudge : s.judge p false 0x4040 0 true = none :=
    (judge_page s p false 4 0x40 0 (by decide) (by decide) (by decide)).trans hpage
  have hbar : (s.heard p).readBar p 0x4040 = ((s.heard p).peek 0x4040, { s.heard p with pageUnit := { s.pageUnit with
      hold := Tbl.put (Tbl.put s.pageUnit.hold (holdKey p 0x4044) ((s.heard p).peek 0x4044)) (holdKey p 0x4048)
        ((s.heard p).peek 0x4048) } }) := by
    rw [readBar_capture _ p 0x4040 (by decide) rfl (by rw [heard_pageUnit]; exact hnone), heard_pageUnit]
    rfl
  rw [exec_loReadCapture s p _ _ _ (by decide), busRead_permitted s p _ harr hcredit hjudge, hbar]
  simp only [heard_peek_fabricTime s p 0x4040 (by decide), heard_peek_fabricTime s p 0x4044 (by decide),
    heard_peek_fabricTime s p 0x4048 (by decide), fabricTimeHold]

/-- A permitted read of a word held for the port returns the held value and lets it go. -/
theorem loReadCapture_held (s : State) (p : Port) (a v : Nat) (ha : a < 0x100000) (harr : s.arrives p = true)
    (hcredit : s.hostWaits p false = false) (hjudge : s.judge p false a 0 true = none) (hrc : s.rcOf a = none)
    (hheld : Tbl.find s.pageUnit.hold (holdKey p a) = some v) :
    exec (.loReadCapture p ⟨a, 1, 15⟩) s =
      .next ({ s.heard p with pageUnit := { s.pageUnit with hold := Tbl.del s.pageUnit.hold (holdKey p a) } }.emit
        (.answer p.code true 0 v)) := by
  rw [exec_loReadCapture s p a _ _ (by omega), busRead_permitted s p a harr hcredit hjudge,
    readBar_held _ p a v ha (by rw [heard_rcOf]; exact hrc) (by rw [heard_pageUnit]; exact hheld), heard_pageUnit]

/-- Settles O8: each access comes down to one store, one capture, one release of a held word, or no address. -/
theorem plainWordWritesAndCapturedReadsComplete : Obligations.PlainWordWritesAndCapturedReadsComplete := by
  unfold Obligations.PlainWordWritesAndCapturedReadsComplete
  refine ⟨fun s p v hperm hset => ?_, fun s p hread hnone => ?_, fun s p a v ha harr hcredit hjudge hrc hheld => ?_,
    fun s p a v dw be h => ⟨exec_registerWrite_outside s p a v dw be h, exec_loReadCapture_outside s p a dw be h⟩⟩
  · refine ⟨_, registerWrite_intnEnLo s p v hperm hset, ?_, fun k hk => ?_, ?_⟩
    · exact (rdn_wrn_same (s.heard p) 0 DEVICE.INTN_EN_LO_ENABLE (v % 2 ^ 32) 0).trans (Nat.mod_mod v (2 ^ 32))
    · have hother := find_wrn_other (s.heard p) 0 DEVICE.INTN_EN_LO_ENABLE (v % 2 ^ 32) 0 k (List.ne_of_not_mem_cons hk)
      rwa [heard_regs] at hother
    · rw [← heard_sent s p]
      rfl
  · refine ⟨_, loReadCapture_fabricTime s p hread hnone, ?_, find_fabricTimeHold_ns s p, find_fabricTimeHold_sec s p,
      fun k hns hsec => find_fabricTimeHold_other s p k hns hsec, rfl⟩
    rw [emit_sent, ← heard_sent s p]
  · refine ⟨_, loReadCapture_held s p a v ha harr hcredit hjudge hrc hheld, ?_, find_del_same _ _,
      fun k hk => find_del_other _ _ _ hk, rfl⟩
    rw [emit_sent, ← heard_sent s p]

end Sys2Proof.Proofs
end

section
/-! PROOFS. The state right after power-up reset. -/

namespace Sys2Proof.Proofs

open Sys2Proof.Machine Sys2Proof.Safety Sys2Proof.Laws

/-- Reset lists no register field: each reads its reset value. -/
theorem reset_rdn (n : Nat) (f : Fld) (i : Nat) : State.reset.rdn n f i = f.dflt i := rfl

/-- The read mask of a page at reset is the shipped one (R38). -/
theorem reset_mayRead (p : Port) (pg : Nat) :
    State.reset.mayRead p pg = bitOf (if pg = 0x19 || pg = 0x5A then 0x21 else 0x3F) p.code := rfl

/-- The write mask of a page at reset is the shipped one (R38). -/
theorem reset_mayWrite (p : Port) (pg : Nat) :
    State.reset.mayWrite p pg = bitOf (if pg = 0x19 || pg = 0x5A then 1 else if pg = 0x49 then 0x23 else 0x2D) p.code := rfl

/-- No event is set at reset, so no source is asserted (R48). -/
theorem reset_asserted (src : Nat) : State.reset.asserted src = false := by
  have hev : ∀ pg, State.reset.rdn pg HDR.INT_STAT_EVENTS = 0 := fun _ => rfl
  simp [State.asserted, hev]

/-- KEYS and OTP: HOST and DEBUG read, HOST writes. -/
theorem reset_masks_keys (pg : Nat) (p : Port) (h : pg = 0x19 ∨ pg = 0x5A) :
    State.reset.mayRead p pg = (p = .host || p = .debug) ∧ State.reset.mayWrite p pg = (p = .host : Bool) := by
  have hpg : (pg = 0x19 || pg = 0x5A) = true := by simpa using h
  rw [reset_mayRead, reset_mayWrite, if_pos hpg, if_pos hpg]
  cases p <;> decide

/-- USBFN: all ports read; HOST, USBF and DEBUG write. -/
theorem reset_masks_usbfn (p : Port) :
    State.reset.mayRead p 0x49 = true ∧ State.reset.mayWrite p 0x49 = (p = .host || p = .usbf || p = .debug) := by
  rw [reset_mayRead, reset_mayWrite]
  cases p <;> decide

/-- Every other page: all ports read; HOST, the ring ports and DEBUG write. -/
theorem reset_masks_other (pg : Nat) (p : Port) (hkeys : pg ≠ 0x19) (hotp : pg ≠ 0x5A) (husbfn : pg ≠ 0x49) :
    State.reset.mayRead p pg = true ∧
      State.reset.mayWrite p pg = (p = .host || p = .ringE || p = .ringW || p = .debug) := by
  have hpg : (pg = 0x19 || pg = 0x5A) = false := by simp [hkeys, hotp]
  rw [reset_mayRead, reset_mayWrite, hpg, if_neg Bool.false_ne_true, if_neg Bool.false_ne_true, if_neg husbfn]
  cases p <;> decide

/-- Settles O3: the register table, the queue and the memories list nothing, so every field reads its reset value. -/
theorem resetLeavesSentinelWithShippedMasks : Obligations.ResetLeavesSentinelWithShippedMasks := by
  unfold Obligations.ResetLeavesSentinelWithShippedMasks
  exact ⟨rfl, rfl, rfl, rfl, fun _ => ⟨rfl, rfl, rfl⟩, reset_masks_keys, reset_masks_usbfn, reset_masks_other,
    reset_asserted, rfl⟩

end Sys2Proof.Proofs
end

section
/-! PROOFS. Where a register field stands in the table, and frames of one cell that a unit sends onto the ring: their
admission to the queues of the ring outputs, their copies there, and what sending leaves unchanged (R108, R130-R135). -/

namespace Sys2Proof.Proofs

open Sys2Proof.Machine Sys2Proof.Safety Sys2Proof.Laws

/-! ### The place of a field -/

/-- Where a field of page `f.page + n` stands in the register table, its copies apart: page, offset and lowest bit in one
number. -/
def place (f : Fld) (n : Nat) : Nat := ((f.page + n) * 4096 + f.off) * 64 + f.lo

theorem key_div (f : Fld) (n i : Nat) : f.key n i / 8192 = place f n := by
  unfold Fld.key place
  omega

/-- Copies of fields at different places have different keys. -/
theorem key_ne {f g : Fld} {n m : Nat} (h : place g m ≠ place f n) (i j : Nat) : g.key m j ≠ f.key n i :=
  fun e => h (by rw [← key_div g m j, ← key_div f n i, e])

/-- Fields at different offsets stand at different places, on whatever pages. -/
theorem place_ne_of_off {f g : Fld} (n m : Nat) (hf : f.off < 4096 ∧ f.lo < 64) (hg : g.off < 4096 ∧ g.lo < 64)
    (h : g.off ≠ f.off) : place g m ≠ place f n := by
  unfold place
  omega

/-- Storing a field leaves the fields at other places. -/
theorem rdn_wrn_elsewhere (s : State) {n m : Nat} {f g : Fld} (v i j : Nat) (h : place g m ≠ place f n) :
    (s.wrn n f v i).rdn m g j = s.rdn m g j := rdn_wrn_other s n m f g v i j (key_ne h i j)

theorem regsBut_refl (s : State) (ks : List Nat) : RegsBut s s ks := fun _ _ => rfl

theorem regsBut_trans {s t u : State} {ks : List Nat} (h : RegsBut s t ks) (h' : RegsBut t u ks) : RegsBut s u ks :=
  fun k hk => (h' k hk).trans (h k hk)

theorem regsBut_mono {s t : State} {ks ks' : List Nat} (h : RegsBut s t ks) (hsub : ks ⊆ ks') : RegsBut s t ks' :=
  fun k hk => h k (fun hm => hk (hsub hm))

theorem regsBut_wrn (s : State) (n : Nat) (f : Fld) (v i : Nat) {ks : List Nat} (h : f.key n i ∈ ks) :
    RegsBut s (s.wrn n f v i) ks := fun k hk => find_wrn_other s n f v i k (fun e => hk (e ▸ h))

/-- A field whose key is not among those changed reads as before. -/
theorem rdn_of_regsBut {s t : State} {ks : List Nat} (h : RegsBut s t ks) (n : Nat) (f : Fld) (i : Nat)
    (hk : f.key n i ∉ ks) : t.rdn n f i = s.rdn n f i := by
  unfold State.rdn
  rw [h _ hk]

/-! ### Bits of a number -/

theorem bitOf_eq_testBit (v i : Nat) : bitOf v i = v.testBit i := Nat.testBit_eq_decide_div_mod_eq.symm

theorem testBit_setBit (v i j : Nat) : (setBit v i).testBit j = (decide (i = j) || v.testBit j) := by
  unfold setBit
  rw [bitOf_eq_testBit]
  split
  case isTrue h =>
    by_cases hj : i = j
    · simp [← hj, h]
    · simp [hj]
  case isFalse h =>
    rw [Nat.add_comm]
    rcases Nat.lt_trichotomy j i with hj | rfl | hj
    · rw [Nat.testBit_two_pow_add_gt hj]
      simp [hj.ne']
    · rw [Nat.testBit_two_pow_add_eq]
      simp [h]
    · have hdiv : (2 ^ i + v) / 2 ^ (i + 1) = v / 2 ^ (i + 1) := by
        rw [← bitOf_eq_testBit, bitOf, decide_eq_true_eq] at h
        rw [pow_succ, ← Nat.div_div_eq_div_mul, ← Nat.div_div_eq_div_mul, Nat.add_div_left _ (Nat.two_pow_pos i)]
        omega
      obtain ⟨k, rfl⟩ := Nat.exists_eq_add_of_lt hj
      rw [show i + k + 1 = k + (i + 1) by omega, Nat.testBit_add, hdiv, ← Nat.testBit_add]
      simp [show i ≠ k + (i + 1) by omega]

/-- Raising an event sets its bit and keeps the page's other bits. -/
theorem event_raise (s : State) (pg b j : Nat) (hj : j < 32) :
    event (s.raise pg b) pg j = (decide (b = j) || event s pg j) := by
  rw [event, raise_intStat, bitOf_eq_testBit, Nat.testBit_mod_two_pow, testBit_setBit, event, bitOf_eq_testBit]
  simp [hj]

theorem regsBut_raise (s : State) (pg b : Nat) : RegsBut s (s.raise pg b) [intStat pg] :=
  fun k hk => find_raise_other s pg b k (by simpa [intStat] using hk)

/-! ### Queues and their requesters -/

@[simp] theorem voq_updVoq_same (s : State) (v : Nat) (f : Voq → Voq) : (s.updVoq v f).voq v = f (s.voq v) :=
  get_upd_same _ _ _ _

theorem voq_updVoq_other (s : State) (v w : Nat) (f : Voq → Voq) (h : w ≠ v) : (s.updVoq v f).voq w = s.voq w :=
  get_upd_other _ _ _ _ _ h

/-- Only requesters have changed: the frames of every queue are as before. -/
def SameFrames (s t : State) : Prop := ∃ vs, t = { s with voqs := vs } ∧ ∀ w, (t.voq w).q = (s.voq w).q

theorem sameFrames_refl (s : State) : SameFrames s s := ⟨s.voqs, rfl, fun _ => rfl⟩

theorem sameFrames_trans {s t u : State} (h : SameFrames s t) (h' : SameFrames t u) : SameFrames s u := by
  obtain ⟨vs, rfl, hq⟩ := h
  obtain ⟨vs', rfl, hq'⟩ := h'
  exact ⟨vs', rfl, fun w => (hq' w).trans (hq w)⟩

/-- A change of one queue that keeps its frames. -/
theorem sameFrames_updVoq (s : State) (v : Nat) (f : Voq → Voq) (hf : (f (s.voq v)).q = (s.voq v).q) :
    SameFrames s (s.updVoq v f) := by
  refine ⟨_, rfl, fun w => ?_⟩
  by_cases h : w = v
  · rw [h, voq_updVoq_same, hf]
  · rw [voq_updVoq_other s v w f h]

theorem sameFrames_touch (s : State) (v : Nat) : SameFrames s (s.touch v) := by
  unfold State.touch
  split
  · split
    · exact sameFrames_refl s
    · exact sameFrames_updVoq s v _ rfl
  · exact sameFrames_updVoq s v _ rfl

theorem sameFrames_foldl_touch (l : List Nat) (s : State) : SameFrames s (l.foldl State.touch s) := by
  induction l generalizing s with
  | nil => exact sameFrames_refl s
  | cons v l ih => exact sameFrames_trans (sameFrames_touch s v) (ih (s.touch v))

theorem sameFrames_touchOut (s : State) (p : Nat) : SameFrames s (s.touchOut p) := sameFrames_foldl_touch _ s

/-- A copy joins the end of its queue, and no other queue changes. -/
theorem enqueue_queue (s : State) (v : Nat) (c : Copy) :
    ∃ vs, s.enqueue v c = { s with voqs := vs } ∧ ((s.enqueue v c).voq v).q = (s.voq v).q ++ [c] ∧
      ∀ w, w ≠ v → ((s.enqueue v c).voq w).q = (s.voq w).q := by
  unfold State.enqueue
  obtain ⟨vs, heq, hq⟩ := sameFrames_touch
    (s.updVoq v (fun q => { q with q := q.q ++ [c], held := q.held || (s.out (outOf v)).down })) v
  refine ⟨vs, heq, ?_, fun w hw => ?_⟩
  · rw [hq, voq_updVoq_same]
  · rw [hq, voq_updVoq_other s v w _ hw]

/-! ### Storing the copies -/

/-- The recursion of `takeCells`, stated once: Lean's own unfolding would enumerate the cells of every bank, which
generalizing `bankFrom` prevents. -/
theorem takeCells_succ (n : Nat) (s : State) :
    s.takeCells (n + 1) = match s.bankFrom s.buf.nextBank with
      | none => ([], s)
      | some (b, c) =>
        let r := State.takeCells n { s with buf := { s.buf with nextBank := (b + 1) % 16, offFree := insertNat s.buf.offFree c } }
        (c :: r.1, r.2) := by
  delta State.takeCells State.takeCells._f
  generalize State.bankFrom = bankFrom
  rfl

theorem takeCells_frame (n : Nat) (s : State) : ∃ b, (State.takeCells n s).2 = { s with buf := b } := by
  induction n generalizing s with
  | zero =>
    delta State.takeCells
    exact ⟨s.buf, rfl⟩
  | succ n ih =>
    rw [takeCells_succ]
    split
    · exact ⟨s.buf, rfl⟩
    · next b c _ =>
      obtain ⟨b', h⟩ := ih { s with buf := { s.buf with nextBank := (b + 1) % 16, offFree := insertNat s.buf.offFree c } }
      exact ⟨b', h⟩

theorem ownCells_frame (s : State) (cs : List Nat) (st owner gen refs : Nat) :
    ∃ b, s.ownCells cs st owner gen refs = { s with buf := b } := by
  unfold State.ownCells
  generalize cs.zip (cs.drop 1 ++ [0x7FFF]) = l
  induction l generalizing s with
  | nil => exact ⟨s.buf, rfl⟩
  | cons e l ih =>
    obtain ⟨b, h⟩ := ih (s.updCell e.1 (fun _ => { st := st, owner := owner, gen := gen % 16, refs := refs, next := e.2 }))
    exact ⟨b, h⟩

theorem fillCells_frame (cs bs : List Nat) (s : State) : ∃ m, s.fillCells cs bs = { s with bufMem := m } := by
  induction cs generalizing s bs with
  | nil => exact ⟨s.bufMem, rfl⟩
  | cons c cs ih =>
    obtain ⟨m, h⟩ := ih (bs.drop 256) { s with bufMem := memWrite 0 s.bufMem (256 * c) (bs.take 256) }
    exact ⟨m, h⟩

/-- Copies made one by one join the ends of their queues, which are distinct; no other queue changes. -/
theorem foldl_enqueue_queues (mk : State → Nat × Nat × Nat → Copy) (l : List (Nat × Nat × Nat)) (s t : State)
    (hnodup : (l.map Prod.fst).Nodup) (ht : l.foldl (fun t e => t.enqueue e.1 (mk t e)) s = t) :
    (∃ vs, t = { s with voqs := vs }) ∧ (∀ e ∈ l, ∃ u, (t.voq e.1).q = (s.voq e.1).q ++ [mk u e]) ∧
      ∀ w, w ∉ l.map Prod.fst → (t.voq w).q = (s.voq w).q := by
  induction l generalizing s with
  | nil => exact ⟨⟨s.voqs, ht.symm⟩, fun _ h => absurd h List.not_mem_nil, fun _ _ => by rw [← ht]; rfl⟩
  | cons e l ih =>
    obtain ⟨vs, hfirst, hjoined, hothers⟩ := enqueue_queue s e.1 (mk s e)
    have hnew : e.1 ∉ l.map Prod.fst := (List.nodup_cons.mp hnodup).1
    obtain ⟨⟨vs', hframe⟩, hin, hout⟩ := ih (s.enqueue e.1 (mk s e)) (List.nodup_cons.mp hnodup).2 ht
    refine ⟨⟨vs', by rw [hframe, hfirst]⟩, fun x hx => ?_, fun w hw => ?_⟩
    · rcases List.mem_cons.mp hx with rfl | hx
      · exact ⟨s, (hout _ hnew).trans hjoined⟩
      · obtain ⟨u, hu⟩ := hin x hx
        have hne : x.1 ≠ e.1 := fun h => hnew (h ▸ List.mem_map_of_mem hx)
        exact ⟨u, by rw [← hothers _ hne]; exact hu⟩
    · rw [List.map_cons, List.mem_cons, not_or] at hw
      exact (hout w hw.2).trans (hothers w hw.1)

/-- Taking, owning and filling cells changes the buffer only. -/
theorem storedCells_frame (s : State) (n st owner gen refs : Nat) (bs : List Nat) :
    ∃ b m, ((s.takeCells n).2.ownCells (s.takeCells n).1 st owner gen refs).fillCells (s.takeCells n).1 bs =
      { s with buf := b, bufMem := m } := by
  obtain ⟨b, hb⟩ := takeCells_frame n s
  obtain ⟨b', hb'⟩ := ownCells_frame (s.takeCells n).2 (s.takeCells n).1 st owner gen refs
  obtain ⟨m, hm⟩ := fillCells_frame (s.takeCells n).1 bs ((s.takeCells n).2.ownCells (s.takeCells n).1 st owner gen refs)
  exact ⟨b', m, hm.trans (by rw [hb', hb])⟩

/-- An admitted frame is stored once, and its copies join the ends of the admitting queues (R130). -/
theorem storeCopies_queues (s : State) (adm : List (Nat × Nat × Nat)) (f : Frame) (accepted : Bool) (launch : Option Nat)
    (tag : Nat) (hnodup : (adm.map Prod.fst).Nodup) :
    (∃ vs b m, s.storeCopies adm f accepted launch tag = { s with voqs := vs, buf := b, bufMem := m }) ∧
      ∀ e ∈ adm, ∃ x, ((s.storeCopies adm f accepted launch tag).voq e.1).q = (s.voq e.1).q ++ [x] ∧
        x.accepted = accepted ∧ x.frame = f := by
  cases adm with
  | nil => exact ⟨⟨s.voqs, s.buf, s.bufMem, rfl⟩, fun _ h => absurd h List.not_mem_nil⟩
  | cons e0 rest =>
    obtain ⟨b, m, hcells⟩ := storedCells_frame s (cellsOf f) (if accepted then 2 else 3)
      (if accepted then e0.1 else e0.1 / 64) (if accepted then (s.voq e0.1).gen else (s.out (e0.1 / 64)).gen)
      (e0 :: rest).length f.bytes
    obtain ⟨⟨vs, hframe⟩, hin, -⟩ := foldl_enqueue_queues _ (e0 :: rest) _ (s.storeCopies (e0 :: rest) f accepted launch tag)
      hnodup rfl
    refine ⟨⟨vs, b, m, by rw [hframe, hcells]⟩, fun e he => ?_⟩
    obtain ⟨u, hu⟩ := hin e he
    rw [hcells] at hu
    exact ⟨_, hu, rfl, rfl⟩

/-! ### Admission to the queues of the ring outputs -/

theorem clsOf_voqIdx (inp p c : Nat) (hc : c < 8) : clsOf (voqIdx inp p c) = c := by
  unfold clsOf voqIdx
  omega

theorem voqIdx_ne (inp c : Nat) {p p' : Nat} (h : p ≠ p') : voqIdx inp p c ≠ voqIdx inp p' c := by
  unfold voqIdx
  omega

/-- The early refusals read no field but FENCE_REQ and FLT_STAT. -/
theorem refusedEarly_wrn (s : State) (n : Nat) (f : Fld) (v i w : Nat)
    (hreq : ∀ pg, place HDR.BLK_CTRL_FENCE_REQ pg ≠ place f n) (hflt : ∀ pg, place HDR.FLT_STAT_CHECKERS pg ≠ place f n) :
    (s.wrn n f v i).refusedEarly w = s.refusedEarly w := by
  have hr : ∀ pg, (s.wrn n f v i).rdn pg HDR.BLK_CTRL_FENCE_REQ = s.rdn pg HDR.BLK_CTRL_FENCE_REQ :=
    fun pg => rdn_wrn_elsewhere s v i 0 (hreq pg)
  have hc : ∀ pg, (s.wrn n f v i).rdn pg HDR.FLT_STAT_CHECKERS = s.rdn pg HDR.FLT_STAT_CHECKERS :=
    fun pg => rdn_wrn_elsewhere s v i 0 (hflt pg)
  have hrole : (s.wrn n f v i).role = s.role := rfl
  have hout : ∀ p, (s.wrn n f v i).out p = s.out p := fun _ => rfl
  have hover : ∀ d, (s.wrn n f v i).holdOver d = s.holdOver d := fun _ => rfl
  simp only [State.refusedEarly, State.queueFenced, State.outFenced, State.unitFenced, State.fenced, State.fenceReq,
    State.holds, hr, hc, hrole, hout, hover, wrn_pageUnit, wrn_pcie]
  rfl

/-- A copy of one cell for each of `k` queues of a class is admitted to this one: within the queue's minimum, or from the
pool, which with the class has room for all of them (R132, R135). -/
def RoomFor (s : State) (k inp p c : Nat) : Prop :=
  s.refusedEarly (voqIdx inp p c) = none ∧
  ((s.voq (voqIdx inp p c)).minUsed < s.rd BUFFER.VOQ_MIN_MIN (voqIdx inp p c) ∨
    (s.rd BUFFER.CLASS_USED_CELLS c + k ≤ s.rd BUFFER.CEIL_CELLS c ∧ s.rd BUFFER.POOL_STAT_SHARED_USED + k ≤ s.pool))

theorem roomFor_of_roomAt {s : State} {inp p c k : Nat} (h : RoomAt s inp p c) (hk : k ≤ 2) : RoomFor s k inp p c := by
  obtain ⟨hearly, hroom⟩ := h
  exact ⟨hearly, hroom.imp_right (fun ⟨hclass, hpool⟩ => ⟨by omega, by omega⟩)⟩

/-- One cell is charged to the queue's minimum or to the pool. -/
theorem admitCopy_of_roomFor {s : State} {k inp p c : Nat} (hc : c < 8) (hk : 1 ≤ k) (h : RoomFor s k inp p c) :
    ∃ a sh, s.admitCopy (voqIdx inp p c) 1 = .ok (a, sh) ∧ sh ≤ 1 := by
  obtain ⟨hearly, hroom⟩ := h
  simp only [State.admitCopy, hearly, clsOf_voqIdx inp p c hc]
  split
  · exact ⟨_, _, rfl, by omega⟩
  · rcases hroom with hmin | ⟨hclass, hpool⟩
    · omega
    · rw [if_neg (by omega), if_neg (by omega)]
      exact ⟨_, _, rfl, by omega⟩

/-- The fields that charging a copy of class `c` changes. -/
def chargeKeys (c : Nat) : List Nat := [BUFFER.POOL_STAT_SHARED_USED.key 0 0, BUFFER.CLASS_USED_CELLS.key 0 c]

theorem key_notMem_chargeKeys {f : Fld} {n i c : Nat} (hpool : place f n ≠ place BUFFER.POOL_STAT_SHARED_USED 0)
    (hclass : place f n ≠ place BUFFER.CLASS_USED_CELLS 0) : f.key n i ∉ chargeKeys c := by
  simp [chargeKeys, key_ne hpool, key_ne hclass]

/-- Charging changes the charge of its queue and the counts of the pool and the class. -/
theorem charge_frame (s : State) (v a sh : Nat) :
    ∃ vs rs, s.charge v a sh = { s with voqs := vs, regs := rs } ∧ RegsBut s (s.charge v a sh) (chargeKeys (clsOf v)) ∧
      (∀ w, ((s.charge v a sh).voq w).q = (s.voq w).q) ∧ ∀ w, w ≠ v → (s.charge v a sh).voq w = s.voq w := by
  have hvoq : ∀ w, (s.charge v a sh).voq w = (s.updVoq v (fun q => { q with minUsed := q.minUsed + a })).voq w :=
    fun _ => rfl
  refine ⟨_, _, rfl, ?_, fun w => ?_, fun w hw => (hvoq w).trans (voq_updVoq_other s v w _ hw)⟩
  · exact regsBut_trans (regsBut_wrn _ 0 BUFFER.POOL_STAT_SHARED_USED _ 0 (by simp [chargeKeys]))
      (regsBut_wrn _ 0 BUFFER.CLASS_USED_CELLS _ _ (by simp [chargeKeys]))
  · obtain ⟨_, hframe, hq⟩ := sameFrames_updVoq s v (fun q => { q with minUsed := q.minUsed + a }) rfl
    rw [hvoq, hq]

/-- What a charge adds to the count of its class and of the pool. -/
theorem charge_counts (s : State) (v a sh : Nat) :
    (s.charge v a sh).rd BUFFER.CLASS_USED_CELLS (clsOf v) ≤ s.rd BUFFER.CLASS_USED_CELLS (clsOf v) + sh ∧
      (s.charge v a sh).rd BUFFER.POOL_STAT_SHARED_USED ≤ s.rd BUFFER.POOL_STAT_SHARED_USED + sh := by
  have hne : place BUFFER.CLASS_USED_CELLS 0 ≠ place BUFFER.POOL_STAT_SHARED_USED 0 := by decide
  simp only [State.charge, wr_eq, rd_eq, rdn_wrn_same, rdn_wrn_elsewhere _ _ _ _ hne, rdn_wrn_elsewhere _ _ _ _ hne.symm]
  exact ⟨Nat.mod_le _ _, Nat.mod_le _ _⟩

/-- The size of the pool follows BANK_STAT.FENCED and MIN_SUM. -/
theorem pool_congr {s t : State} (hbank : t.rd BUFFER.BANK_STAT_FENCED = s.rd BUFFER.BANK_STAT_FENCED)
    (hsum : t.rd BUFFER.MIN_SUM_SUM = s.rd BUFFER.MIN_SUM_SUM) : t.pool = s.pool := by
  have hfenced : t.bankFenced = s.bankFenced := by
    funext b
    rw [State.bankFenced, hbank, State.bankFenced]
  rw [State.pool, State.pool, State.fencedBanks, State.fencedBanks, hfenced, hsum]

/-- A charge leaves the pool's size and the early refusals. -/
theorem charge_pool (s : State) (v a sh : Nat) : (s.charge v a sh).pool = s.pool := by
  obtain ⟨_, _, _, hregs, -⟩ := charge_frame s v a sh
  exact pool_congr (rdn_of_regsBut hregs _ _ _ (key_notMem_chargeKeys (by decide) (by decide)))
    (rdn_of_regsBut hregs _ _ _ (key_notMem_chargeKeys (by decide) (by decide)))

theorem charge_refusedEarly (s : State) (v a sh w : Nat) : (s.charge v a sh).refusedEarly w = s.refusedEarly w := by
  unfold State.charge
  rw [wr_eq, wr_eq, refusedEarly_wrn, refusedEarly_wrn]
  · rfl
  all_goals exact fun pg => place_ne_of_off 0 pg (by decide) (by decide) (by decide)

/-- A charge of at most one cell leaves room for the other copies. -/
theorem roomFor_charge {s : State} {k inp p p' c a sh : Nat} (hc : c < 8) (hne : p' ≠ p) (hsh : sh ≤ 1)
    (h : RoomFor s (k + 1) inp p' c) : RoomFor (s.charge (voqIdx inp p c) a sh) k inp p' c := by
  obtain ⟨hearly, hroom⟩ := h
  obtain ⟨_, _, _, hregs, _, hvoq⟩ := charge_frame s (voqIdx inp p c) a sh
  obtain ⟨hclass, hpool⟩ := charge_counts s (voqIdx inp p c) a sh
  rw [clsOf_voqIdx inp p c hc] at hclass
  have hmin : (s.charge (voqIdx inp p c) a sh).rd BUFFER.VOQ_MIN_MIN (voqIdx inp p' c) =
      s.rd BUFFER.VOQ_MIN_MIN (voqIdx inp p' c) :=
    rdn_of_regsBut hregs _ _ _ (key_notMem_chargeKeys (by decide) (by decide))
  have hceil : (s.charge (voqIdx inp p c) a sh).rd BUFFER.CEIL_CELLS c = s.rd BUFFER.CEIL_CELLS c :=
    rdn_of_regsBut hregs _ _ _ (key_notMem_chargeKeys (by decide) (by decide))
  refine ⟨(charge_refusedEarly s _ a sh _).trans hearly, ?_⟩
  rw [hvoq _ (voqIdx_ne inp c hne), hmin, hceil, charge_pool]
  exact hroom.imp_right (fun ⟨hcl, hpl⟩ => ⟨by omega, by omega⟩)

/-- The copies of a frame of one cell are all admitted where there is room for all, and only charges change (R134). -/
theorem admitAll_ring (inp c : Nat) (hc : c < 8) (ps : List Nat) (s : State) (hnodup : ps.Nodup)
    (hroom : ∀ p ∈ ps, RoomFor s ps.length inp p c) :
    (State.admitAll (ps.map (voqIdx inp · c)) 1 s).1.map Prod.fst = ps.map (voqIdx inp · c) ∧
      (∃ vs rs, (State.admitAll (ps.map (voqIdx inp · c)) 1 s).2 = { s with voqs := vs, regs := rs }) ∧
      RegsBut s (State.admitAll (ps.map (voqIdx inp · c)) 1 s).2 (chargeKeys c) ∧
      ∀ w, ((State.admitAll (ps.map (voqIdx inp · c)) 1 s).2.voq w).q = (s.voq w).q := by
  induction ps generalizing s with
  | nil => exact ⟨rfl, ⟨s.voqs, s.regs, rfl⟩, regsBut_refl s _, fun _ => rfl⟩
  | cons p ps ih =>
    obtain ⟨hnew, hnodup'⟩ := List.nodup_cons.mp hnodup
    obtain ⟨a, sh, hadmit, hsh⟩ := admitCopy_of_roomFor hc (Nat.le_add_left 1 ps.length) (hroom p List.mem_cons_self)
    obtain ⟨vs, rs, hframe, hregs, hq, -⟩ := charge_frame s (voqIdx inp p c) a sh
    obtain ⟨hfst, ⟨vs', rs', hframe'⟩, hregs', hq'⟩ := ih (s.charge (voqIdx inp p c) a sh) hnodup' (fun p' hp' =>
      roomFor_charge hc (fun h => hnew (h ▸ hp')) hsh (hroom p' (List.mem_cons_of_mem p hp')))
    rw [clsOf_voqIdx inp p c hc] at hregs
    simp only [List.map_cons, State.admitAll, hadmit]
    exact ⟨by rw [hfst], ⟨vs', rs', by rw [hframe', hframe]⟩, regsBut_trans hregs hregs', fun w => (hq' w).trans (hq w)⟩

/-! ### Sending onto the ring -/

/-- `x` is the frame `f` as the hub puts it on the ring: only what its originator writes there differs (R92, R96). -/
def PutOnRing (f x : Frame) : Prop :=
  x = { freshFrame f with seq := x.seq, hops := x.hops, entry := x.entry, dir := x.dir, hchk := x.hchk, crc := x.crc }

/-- The fields that sending a frame of class `c` onto the ring changes. -/
def sendKeys (c : Nat) : List Nat := TRANSIT.SEQ_NEXT_NEXT.key 0 c :: chargeKeys c

theorem key_notMem_sendKeys {f : Fld} {n i c : Nat} (hpool : place f n ≠ place BUFFER.POOL_STAT_SHARED_USED 0)
    (hclass : place f n ≠ place BUFFER.CLASS_USED_CELLS 0) (hseq : place f n ≠ place TRANSIT.SEQ_NEXT_NEXT 0) :
    f.key n i ∉ sendKeys c := by
  rw [sendKeys, List.mem_cons, not_or]
  exact ⟨key_ne hseq c i, key_notMem_chargeKeys hpool hclass⟩

/-- A copy of the frame has joined its queue of every ring output, and only the queues, the buffer, the charges and the
next number have changed. -/
def SentOnRing (s t : State) (inp : Nat) (f : Frame) : Prop :=
  (∃ vs rs b m, t = { s with voqs := vs, regs := rs, buf := b, bufMem := m }) ∧ RegsBut s t (sendKeys f.tc) ∧
    Queued s t inp f.tc (PutOnRing f)

theorem ringOuts_cases (s : State) : s.ringOuts.Nodup ∧ s.ringOuts.length ≤ 2 := by
  have hsub : s.ringOuts.Sublist [0, 1] := by
    unfold State.ringOuts
    split
    · exact List.filter_sublist
    · exact List.Sublist.refl _
  exact ⟨hsub.nodup (by decide), hsub.length_le⟩

/-- A frame of at most 220 bytes takes one cell (R129). -/
theorem cellsOf_freshFrame (f : Frame) (h : f.len ≤ 220) : cellsOf (freshFrame f) = 1 := by
  have hstated : (freshFrame f).statedLen = 36 + f.len := by
    simp only [Frame.statedLen, freshFrame, Bool.false_eq_true, if_false]
    omega
  rw [cellsOf, hstated]
  omega

theorem regsBut_inc_seq (s : State) (c : Nat) : RegsBut s (s.inc TRANSIT.SEQ_NEXT_NEXT c) (sendKeys c) :=
  regsBut_wrn s 0 TRANSIT.SEQ_NEXT_NEXT _ c (by simp [sendKeys])

/-- An unsecured frame of one cell that has room at every ring output is numbered and stored in its copies (R108, R109). -/
theorem storeRing_sent (s : State) (inp : Nat) (f : Frame) (hc : f.tc < 8) (hlen : f.len ≤ 220)
    (hroom : Room s inp f.tc) :
    SentOnRing s (s.storeRing inp (freshFrame f) 0 .plain).2 inp f ∧ (s.storeRing inp (freshFrame f) 0 .plain).1 ≠ .absent := by
  obtain ⟨hnodup, houts⟩ := ringOuts_cases s
  have hcell := cellsOf_freshFrame f hlen
  have hadmitted := admitAll_ring inp f.tc hc s.ringOuts s hnodup (fun p hp => roomFor_of_roomAt (hroom p hp) houts)
  generalize hadm : State.admitAll (s.ringOuts.map (voqIdx inp · f.tc)) 1 s = adm at hadmitted
  obtain ⟨hfst, ⟨vs, rs, hframe⟩, hregs, hq⟩ := hadmitted
  have hregs' : RegsBut s adm.2 (sendKeys f.tc) := regsBut_mono hregs (List.subset_cons_self _ _)
  have htc : (freshFrame f).tc = f.tc := rfl
  by_cases hnone : adm.1 = []
  · have hstore : s.storeRing inp (freshFrame f) 0 .plain = (.dropped, adm.2) := by
      simp only [State.storeRing, htc, hcell, hadm, hnone, if_true]
      rfl
    have houts : s.ringOuts = [] := by simpa [hnone] using hfst.symm
    rw [hstore]
    exact ⟨⟨⟨vs, rs, s.buf, s.bufMem, hframe⟩, hregs', fun p hp => absurd (houts ▸ hp) List.not_mem_nil⟩, nofun⟩
  · let s1 := adm.2.inc TRANSIT.SEQ_NEXT_NEXT f.tc
    let g : Frame := { freshFrame f with seq := adm.2.rd TRANSIT.SEQ_NEXT_NEXT f.tc }
    have hstore : s.storeRing inp (freshFrame f) 0 .plain = (.queued (adm.2.rd TRANSIT.SEQ_NEXT_NEXT f.tc) adm.1.length,
        s1.storeCopies adm.1 (s1.placed 0 g) true (s1.launchOf g) 0) := by
      simp only [State.storeRing, htc, hcell, hadm, if_neg hnone]
      rfl
    have hvoqs : (adm.1.map Prod.fst).Nodup :=
      hfst ▸ hnodup.map (fun p p' h => by_contra (fun hne => voqIdx_ne inp f.tc hne h))
    obtain ⟨⟨vs', b, m, hcopies⟩, hqueued⟩ := storeCopies_queues s1 adm.1 (s1.placed 0 g) true (s1.launchOf g) 0 hvoqs
    rw [hstore]
    refine ⟨⟨⟨vs', s1.regs, b, m, ?_⟩, ?_, fun p hp => ?_⟩, nofun⟩
    · rw [hcopies]
      simp only [s1, hframe]
      rfl
    · rw [hcopies]
      exact regsBut_trans hregs' (regsBut_inc_seq adm.2 f.tc)
    · have hmem : voqIdx inp p f.tc ∈ adm.1.map Prod.fst := hfst ▸ List.mem_map_of_mem hp
      obtain ⟨e, he, hv⟩ := List.mem_map.mp hmem
      obtain ⟨x, hx, haccepted, hxf⟩ := hqueued e he
      refine ⟨x, ?_, haccepted, ?_⟩
      · rw [← hv, hx]
        exact congrArg (· ++ [x]) (hq e.1)
      · rw [hxf]
        rfl

/-- A frame of one cell for another node, which no association takes and TX_REQ does not hold, is originated onto the
ring. -/
theorem originate_ring (s : State) (inp : Nat) (f : Frame) (hc : f.tc < 8) (hlen : f.len ≤ 220)
    (hnode : nodeOf f.dest ≠ s.nodeId) (hplain : Plain s f.tc f.dest) (hroom : Room s inp f.tc) :
    SentOnRing s (s.originate inp f).2 inp f ∧ (s.originate inp f).1 ≠ .absent := by
  obtain ⟨hentry, hreq⟩ := hplain
  have hplan : s.sealPlan (freshFrame f) = .plain := by
    unfold State.sealPlan
    rw [show s.txEntry (freshFrame f).tc (freshFrame f).dest = none from hentry]
    exact if_neg (by rw [show (freshFrame f).tc = f.tc from rfl, hreq]; exact Bool.false_ne_true)
  have horig : s.originate inp f = s.storeRing inp (freshFrame f) 0 .plain := by
    unfold State.originate
    rw [if_neg (show ¬ nodeOf (freshFrame f).dest = s.nodeId from hnode), hplan]
  rw [horig]
  exact storeRing_sent s inp f hc hlen hroom

/-- A frame whose destination is not absent is sent as it is originated. -/
theorem send_of_present (s : State) (inp : Nat) (f : Frame) (tag : Nat) (h : (s.originate inp f tag).1 ≠ .absent) :
    s.send inp f tag = s.originate inp f tag := by
  unfold State.send
  generalize s.originate inp f tag = r at h ⊢
  obtain ⟨o, t⟩ := r
  cases o with
  | absent => exact absurd rfl h
  | queued | refused | dropped | waiting => rfl

theorem send_ring (s : State) (inp : Nat) (f : Frame) (hc : f.tc < 8) (hlen : f.len ≤ 220)
    (hnode : nodeOf f.dest ≠ s.nodeId) (hplain : Plain s f.tc f.dest) (hroom : Room s inp f.tc) :
    SentOnRing s (s.send inp f).2 inp f := by
  obtain ⟨hsent, hpresent⟩ := originate_ring s inp f hc hlen hnode hplain hroom
  rw [send_of_present s inp f 0 hpresent]
  exact hsent

/-! ### Refusals -/

/-- A refusal of a frame from another node, other than as absent, is sent onto the ring (R115). -/
theorem refuse_ring (s : State) (inp : Nat) (f : Frame) (code : Nat) (hcode : code ≠ 2) (hresp : f.resp = false)
    (hrefuse : f.refuse = false) (hnode : nodeOf f.src ≠ s.nodeId) (hplain : Plain s 4 f.src) (hroom : Room s inp 4) :
    SentOnRing s (s.refuse inp f code) inp (refusalOf f code) := by
  have hto : ¬ (nodeOf (refusalOf f code).dest = s.nodeId && localOf (refusalOf f code).dest ≠ 0) = true := by
    simp [show nodeOf (refusalOf f code).dest ≠ s.nodeId from hnode]
  have hrefused : s.refuse inp f code = (s.originate inp (refusalOf f code)).2 := by
    simp only [State.refuse, hresp, hrefuse, if_neg hcode, if_neg hto]
    rfl
  rw [hrefused]
  exact (originate_ring s inp (refusalOf f code) (show 4 < 8 by decide) (show 8 ≤ 220 by decide) hnode hplain hroom).1

section
variable (s : State)

/-- Counting an absent endpoint leaves the fields at other places. -/
theorem rdn_sat_absent (g : Fld) (i : Nat) (h : place g 0 ≠ place MGMT.ABSENT_CNT_COUNT 0) :
    (s.sat MGMT.ABSENT_CNT_COUNT).rdn 0 g i = s.rdn 0 g i := rdn_wrn_elsewhere s _ 0 i h

theorem counted_sat_absent : Counted s (s.sat MGMT.ABSENT_CNT_COUNT) 0 MGMT.ABSENT_CNT_COUNT := by
  refine (rdn_wrn_same s 0 MGMT.ABSENT_CNT_COUNT _ 0).trans (Nat.mod_eq_of_lt ?_)
  exact Nat.lt_of_le_of_lt (Nat.min_le_right _ _) (by decide)

theorem txEntry_sat_absent (tc dest : Nat) : (s.sat MGMT.ABSENT_CNT_COUNT).txEntry tc dest = s.txEntry tc dest := by
  unfold State.txEntry
  simp only [flag_eq, rd_eq, rdn_sat_absent s GCM.A_CFG_EN _ (by decide), rdn_sat_absent s GCM.A_CFG_DIR _ (by decide),
    rdn_sat_absent s GCM.A_CFG_TC _ (by decide), rdn_sat_absent s GCM.A_MASK_MASK _ (by decide),
    rdn_sat_absent s GCM.A_BASE_BASE _ (by decide)]
  rfl

theorem ringOuts_sat_absent : (s.sat MGMT.ABSENT_CNT_COUNT).ringOuts = s.ringOuts := by
  unfold State.ringOuts
  rw [rd_eq, rd_eq, rdn_sat_absent s TWIN.STAT_DRIVES _ (by decide)]
  rfl

theorem roomAt_sat_absent {inp p c : Nat} (h : RoomAt s inp p c) : RoomAt (s.sat MGMT.ABSENT_CNT_COUNT) inp p c := by
  have hearly : (s.sat MGMT.ABSENT_CNT_COUNT).refusedEarly (voqIdx inp p c) = s.refusedEarly (voqIdx inp p c) :=
    refusedEarly_wrn s 0 _ _ _ _ (fun pg => place_ne_of_off 0 pg (by decide) (by decide) (by decide))
      (fun pg => place_ne_of_off 0 pg (by decide) (by decide) (by decide))
  have hpool : (s.sat MGMT.ABSENT_CNT_COUNT).pool = s.pool :=
    pool_congr (rdn_sat_absent s _ _ (by decide)) (rdn_sat_absent s _ _ (by decide))
  have hvoq : (s.sat MGMT.ABSENT_CNT_COUNT).voq (voqIdx inp p c) = s.voq (voqIdx inp p c) := rfl
  unfold RoomAt at h ⊢
  rw [hearly, hpool, hvoq, rd_eq, rd_eq, rd_eq, rd_eq, rdn_sat_absent s BUFFER.VOQ_MIN_MIN _ (by decide),
    rdn_sat_absent s BUFFER.CLASS_USED_CELLS _ (by decide), rdn_sat_absent s BUFFER.CEIL_CELLS _ (by decide),
    rdn_sat_absent s BUFFER.POOL_STAT_SHARED_USED _ (by decide)]
  exact h

/-- A refusal as absent of a frame from another node is counted and sent onto the ring (R18, R115). -/
theorem refuse_absent_ring (inp : Nat) (f : Frame) (hresp : f.resp = false) (hrefuse : f.refuse = false)
    (hnode : nodeOf f.src ≠ s.nodeId) (hplain : Plain s 4 f.src) (hroom : Room s inp 4) :
    SentOnRing (s.sat MGMT.ABSENT_CNT_COUNT) (s.refuse inp f 2) inp (refusalOf f 2) := by
  have hto : ¬ (nodeOf (refusalOf f 2).dest = (s.sat MGMT.ABSENT_CNT_COUNT).nodeId &&
      localOf (refusalOf f 2).dest ≠ 0) = true := by
    simp [show nodeOf (refusalOf f 2).dest ≠ (s.sat MGMT.ABSENT_CNT_COUNT).nodeId from hnode]
  have hrefused : s.refuse inp f 2 = ((s.sat MGMT.ABSENT_CNT_COUNT).originate inp (refusalOf f 2)).2 := by
    simp only [State.refuse, hresp, hrefuse, if_true, if_neg hto]
    rfl
  have hplain' : Plain (s.sat MGMT.ABSENT_CNT_COUNT) 4 f.src := by
    unfold Plain at hplain ⊢
    rw [txEntry_sat_absent, rd_eq, rdn_sat_absent s GCM.CFG_TX_REQ _ (by decide)]
    exact hplain
  have hroom' : Room (s.sat MGMT.ABSENT_CNT_COUNT) inp 4 := fun p hp =>
    roomAt_sat_absent s (hroom p (ringOuts_sat_absent s ▸ hp))
  rw [hrefused]
  exact (originate_ring (s.sat MGMT.ABSENT_CNT_COUNT) inp (refusalOf f 2) (show 4 < 8 by decide) (show 8 ≤ 220 by decide)
    hnode hplain' hroom').1

end

end Sys2Proof.Proofs
end

section
/-! PROOFS. The framers and program memory: packets out and in, pending reads, SUBA, program memory (R241-R244, R254). -/

namespace Sys2Proof.Proofs

open Sys2Proof.Machine Sys2Proof.Safety Sys2Proof.Laws

/-! ### One context -/

@[simp] theorem ctx_updCtx_same (s : State) (e c : Nat) (f : Ctx → Ctx) : (s.updCtx e c f).ctx e c = f (s.ctx e c) :=
  get_upd_same _ _ _ _

theorem ctxsBut_refl (s : State) (e c : Nat) : CtxsBut s s e c := fun _ _ => rfl

theorem ctxsBut_updCtx (s : State) (e c : Nat) (f : Ctx → Ctx) : CtxsBut s (s.updCtx e c f) e c :=
  fun _ hk => find_put_other _ _ _ _ hk

/-- Only context `c` of engine `e` may have changed, to `x`. -/
def OnlyCtx (s t : State) (e c : Nat) (x : Ctx) : Prop :=
  (∃ cs, t = { s with ctxs := cs }) ∧ CtxsBut s t e c ∧ t.ctx e c = x

theorem onlyCtx_updCtx (s : State) (e c : Nat) (f : Ctx → Ctx) : OnlyCtx s (s.updCtx e c f) e c (f (s.ctx e c)) :=
  ⟨⟨_, rfl⟩, ctxsBut_updCtx s e c f, ctx_updCtx_same s e c f⟩

theorem onlyCtx_trans {s t u : State} {e c : Nat} {x y : Ctx} (h : OnlyCtx s t e c x) (h' : OnlyCtx t u e c y) :
    OnlyCtx s u e c y := by
  obtain ⟨⟨cs, rfl⟩, hbut, -⟩ := h
  obtain ⟨⟨cs', rfl⟩, hbut', hctx⟩ := h'
  exact ⟨⟨cs', rfl⟩, fun k hk => (hbut' k hk).trans (hbut k hk), hctx⟩

/-! ### Packets out (R241) -/

/-- With a whole packet in hand, or no word to read, the framer reads nothing. -/
theorem ctx_framerRead_idle (n room : Nat) (x : Ctx) (h : x.asmWhole = true ∨ x.rx.words = 0) :
    Ctx.framerRead n room x = x := by
  cases n with
  | zero => rfl
  | succ n =>
    cases room with
    | zero => rfl
    | succ room =>
      rw [Ctx.framerRead]
      exact if_pos (by rcases h with h | h <;> simp [h])

theorem framerRead_idle (s : State) (e c : Nat) (h : (s.ctx e c).asmWhole = true ∨ (s.ctx e c).rx.words = 0) :
    OnlyCtx s (s.framerRead e c) e c (s.ctx e c) := by
  unfold State.framerRead
  split
  · exact ⟨⟨s.ctxs, rfl⟩, ctxsBut_refl s e c, rfl⟩
  · have := onlyCtx_updCtx s e c (Ctx.framerRead 16 (16384 - s.asmWords (clusterOf e)))
    rwa [ctx_framerRead_idle _ _ _ h] at this

/-- The frame a packet of a context without headers becomes. -/
def packetFrame (s : State) (e c : Nat) (ws : List Word) : Frame :=
  { tc := s.rdn e ENG.CTX_DEST_TC c, dest := s.rdn e ENG.CTX_DEST_DEST c, src := s.ctxEndpoint e c, len := 4 * ws.length,
    payload := wordBytes ws }

/-- Sending onto the ring leaves the contexts and the reports. -/
theorem sentOnRing_ctxs {s t : State} {inp : Nat} {f : Frame} (h : SentOnRing s t inp f) : t.ctxs = s.ctxs := by
  obtain ⟨⟨_, _, _, _, rfl⟩, -⟩ := h
  rfl

theorem sentOnRing_todo {s t : State} {inp : Nat} {f : Frame} (h : SentOnRing s t inp f) : t.flt.todo = s.flt.todo := by
  obtain ⟨⟨_, _, _, _, rfl⟩, -⟩ := h
  rfl

theorem putOnRing_fields {f x : Frame} (h : PutOnRing f x) :
    x.tc = f.tc ∧ x.dest = f.dest ∧ x.src = f.src ∧ x.payload = f.payload ∧ x.refuse = f.refuse := by
  unfold PutOnRing at h
  rw [h]
  exact ⟨rfl, rfl, rfl, rfl, rfl⟩

theorem queued_mono {s t : State} {inp c : Nat} {P Q : Frame → Prop} (h : Queued s t inp c P) (hPQ : ∀ f, P f → Q f) :
    Queued s t inp c Q := fun p hp => by
  obtain ⟨x, hq, hacc, hx⟩ := h p hp
  exact ⟨x, hq, hacc, hPQ _ hx⟩

/-- A packet of `ws` of this context goes out unchanged as a frame of one cell: no header, no twin pair, no repetition, no
secured association, another node, room at the ring outputs (R241). -/
def EmitsPlain (s : State) (e c : Nat) (ws : List Word) : Prop :=
  s.isTwin = false ∧ ws.length ≤ 32 ∧ s.rdn e ENG.CTX_CFG_HDR c = 0 ∧ s.rdn e ENG.CTX_DEST_TC c < 8 ∧
  nodeOf (s.rdn e ENG.CTX_DEST_DEST c) ≠ s.nodeId ∧ Plain s (s.rdn e ENG.CTX_DEST_TC c) (s.rdn e ENG.CTX_DEST_DEST c) ∧
  s.repeatOf e c (s.rdn e ENG.CTX_DEST_TC c) = none ∧ Room s (4 + clusterOf e) (s.rdn e ENG.CTX_DEST_TC c)

theorem emitWhole_sent {s : State} {e c : Nat} {ws : List Word} (h : EmitsPlain s e c ws) :
    SentOnRing s (s.emitWhole e c ws) (4 + clusterOf e) (packetFrame s e c ws) := by
  obtain ⟨htwin, hws, hhdr, htc, hnode, hplain, hrep, hroom⟩ := h
  have hmuted : ¬ s.muted e c = true := by simp [State.muted, htwin]
  have hlen : ¬ maxLen (s.rdn e ENG.CTX_DEST_TC c) < 4 * ws.length := by
    unfold maxLen
    split_ifs <;> omega
  have hep : s.nodeId * 8192 + (16 + 32 * e + c) = s.ctxEndpoint e c := by
    unfold State.ctxEndpoint
    omega
  have hemit : s.emitWhole e c ws = (s.send (4 + clusterOf e) (packetFrame s e c ws)).2 := by
    simp only [State.emitWhole, State.emitPacket, hhdr, if_true, if_neg hmuted, if_neg hlen, hrep, hep, packetFrame]
  rw [hemit]
  exact send_ring s _ (packetFrame s e c ws) htc (show 4 * ws.length ≤ 220 by omega) hnode hplain hroom

/-- FRAMER_EMIT of a whole packet with no word after it: its frame is queued, the packet leaves the store. -/
theorem framerEmit_plain (s : State) (e c : Nat) (htodo : s.flt.todo = []) (hwhole : (s.ctx e c).asmWhole = true)
    (hrx : (s.ctx e c).rx.words = 0) (hplain : EmitsPlain s e c (s.ctx e c).asm) :
    ∃ t, exec (.framerEmit e c) s = .next t ∧ t.ctx e c = { s.ctx e c with asm := [], asmWhole := false } ∧ CtxsBut s t e c ∧
      Queued s t (4 + clusterOf e) (s.rdn e ENG.CTX_DEST_TC c) (PutOnRing (packetFrame s e c (s.ctx e c).asm)) := by
  have hexec : exec (.framerEmit e c) s = .next
      (if ((s.framerRead e c).ctx e c).asmWhole then
        (((((s.framerRead e c).updCtx e c (fun x => { x with asm := [], asmWhole := false })).emitWhole e c
          ((s.framerRead e c).ctx e c).asm).framerRead e c).drain)
      else s.framerRead e c) := rfl
  have hread := framerRead_idle s e c (.inl hwhole)
  have hctx := hread.2.2
  have htaken := onlyCtx_trans hread
    (onlyCtx_updCtx (s.framerRead e c) e c (fun x => { x with asm := [], asmWhole := false }))
  rw [hctx] at htaken
  rw [hexec, hctx, if_pos hwhole]
  generalize (s.framerRead e c).updCtx e c (fun x => { x with asm := [], asmWhole := false }) = s2 at htaken ⊢
  obtain ⟨⟨cs, rfl⟩, hbut, hctx2⟩ := htaken
  have hsent := emitWhole_sent (s := { s with ctxs := cs }) hplain
  have hctxs := sentOnRing_ctxs hsent
  have htodo' := (sentOnRing_todo hsent).trans htodo
  have hqueued := hsent.2.2
  generalize State.emitWhole { s with ctxs := cs } e c (s.ctx e c).asm = t at hctxs htodo' hqueued ⊢
  have htctx : t.ctx e c = { s.ctx e c with asm := [], asmWhole := false } := by
    rw [← hctx2, State.ctx, hctxs]
    rfl
  obtain ⟨⟨cs', hframe⟩, hbut', hctx'⟩ := framerRead_idle t e c (.inr (by rw [htctx]; exact hrx))
  rw [hframe] at hbut' hctx' ⊢
  rw [drain_settled _ (by exact htodo')]
  refine ⟨_, rfl, hctx'.trans htctx, fun k hk => ?_, hqueued⟩
  rw [hbut' k hk, hctxs]
  exact hbut k hk

/-! ### Packets in (R242) -/

/-- Only the inbox, the contexts and the requesters may have changed; of the contexts only `c` of engine `e`, to `x`. -/
def Took (s t : State) (e c : Nat) (x : Ctx) : Prop :=
  (∃ ib cs vs, t = { s with inbox := ib, ctxs := cs, voqs := vs }) ∧ CtxsBut s t e c ∧ t.ctx e c = x

theorem took_touchOut {s t : State} {e c : Nat} {x : Ctx} (h : Took s t e c x) (p : Nat) : Took s (t.touchOut p) e c x := by
  obtain ⟨⟨ib, cs, vs, rfl⟩, hbut, hctx⟩ := h
  obtain ⟨vs', hframe, -⟩ := sameFrames_touchOut { s with inbox := ib, ctxs := cs, voqs := vs } p
  rw [hframe]
  exact ⟨⟨ib, cs, vs', rfl⟩, hbut, hctx⟩

theorem took_updCtx {s t : State} {e c : Nat} {x : Ctx} (h : Took s t e c x) (f : Ctx → Ctx) :
    Took s (t.updCtx e c f) e c (f x) := by
  obtain ⟨⟨ib, cs, vs, rfl⟩, hbut, rfl⟩ := h
  exact ⟨⟨ib, _, vs, rfl⟩, fun k hk => (ctxsBut_updCtx _ e c f k hk).trans (hbut k hk), ctx_updCtx_same _ e c f⟩

theorem takeFramer_frame (s : State) (p : Nat) (f : Frame) : ∃ ib, s.takeFramer p f = { s with inbox := ib } := by
  unfold State.takeFramer
  split <;> exact ⟨_, rfl⟩

theorem took_takeFramer (s : State) (p : Nat) (f : Frame) (e c : Nat) : Took s (s.takeFramer p f) e c (s.ctx e c) := by
  obtain ⟨ib, h⟩ := takeFramer_frame s p f
  rw [h]
  exact ⟨⟨ib, s.ctxs, s.voqs, rfl⟩, ctxsBut_refl s e c, rfl⟩

theorem took_todo {s t : State} {e c : Nat} {x : Ctx} (h : Took s t e c x) : t.flt.todo = s.flt.todo := by
  obtain ⟨⟨_, _, _, rfl⟩, -⟩ := h
  rfl

theorem took_rdn {s t : State} {e c : Nat} {x : Ctx} (h : Took s t e c x) (n : Nat) (f : Fld) (i : Nat) :
    t.rdn n f i = s.rdn n f i := by
  obtain ⟨⟨_, _, _, rfl⟩, -⟩ := h
  rfl

/-- A stored packet of one word whose WRITE needs no answer moves into a TX FIFO that has room, as the end of a packet. -/
theorem unpackWords_one (q : StoredPkt) (w : Word) (fifo : Fifo) (hw : q.words = [w]) (hdone : q.done = 0)
    (hfree : fifo.free ≠ 0) :
    unpackWords q.req.dest q.req.seq 16 q fifo =
      ({ q with done := 1 }, fifo.put { word := w, last := true, dest := q.req.dest, seq := q.req.seq }) := by
  simp [unpackWords, hw, hdone, hfree]

theorem unpackOne_empty (t : State) (e c : Nat) (h : (t.ctx e c).store = []) : t.unpackOne e c = (false, t) := by
  unfold State.unpackOne
  dsimp only
  rw [h]

theorem unpackOne_one (t : State) (e c : Nat) (q : StoredPkt) (w : Word) (hstore : (t.ctx e c).store = [q])
    (hw : q.words = [w]) (hdone : q.done = 0) (hwack : q.wack = false) (hfree : (t.ctx e c).tx.free ≠ 0) :
    t.unpackOne e c = (true, (t.updCtx e c (fun x => { x with
      tx := (t.ctx e c).tx.put { word := w, last := true, dest := q.req.dest, seq := q.req.seq }, store := [] })).touchOut
        (4 + clusterOf e)) := by
  unfold State.unpackOne
  dsimp only
  rw [hstore]
  simp only [unpackWords_one q w _ hw hdone hfree, hw, hwack]
  rfl

/-- The framer unpacks the one stored packet, of one word, and finds no other (R242). -/
theorem took_unpack {s t : State} {e c : Nat} {x : Ctx} {q : StoredPkt} {w : Word} (h : Took s t e c x)
    (hfifo : s.rdn e ENG.CTX_CFG_FIFO_SW c = 0) (hstore : x.store = [q]) (hw : q.words = [w]) (hdone : q.done = 0)
    (hwack : q.wack = false) (hfree : x.tx.free ≠ 0) :
    Took s (t.unpack e c 4) e c
      { x with tx := x.tx.put { word := w, last := true, dest := q.req.dest, seq := q.req.seq }, store := [] } := by
  have hctx := h.2.2
  have hnext := took_touchOut (took_updCtx h (fun y => { y with
    tx := (t.ctx e c).tx.put { word := w, last := true, dest := q.req.dest, seq := q.req.seq }, store := [] })) (4 + clusterOf e)
  have hrun : ∀ {u : State} {y : Ctx}, Took s u e c y → ¬ u.rdn e ENG.CTX_CFG_FIFO_SW c = 1 := fun hu => by
    rw [took_rdn hu, hfifo]
    decide
  rw [State.unpack, if_neg (hrun h), unpackOne_one t e c q w (by rw [hctx, hstore]) hw hdone hwack (by rw [hctx]; exact hfree)]
  dsimp only
  rw [State.unpack, if_neg (hrun hnext), unpackOne_empty _ e c (by rw [hnext.2.2])]
  rw [hctx] at hnext ⊢
  exact hnext

/-- What the framer keeps of a frame for a context's own endpoint: its payload as words. -/
def storedOf (f : Frame) : StoredPkt := { words := bytesWords f.payload, size := f.statedLen, req := f, wack := false }

/-- A frame the framer of context `c` of engine `e` takes for the context itself: no answer, no access, whole words, for its
own endpoint, into a store that has room, without a header (R242). -/
def TakesPacket (s : State) (f : Frame) (e c : Nat) : Prop :=
  s.ctxOf (localOf f.dest) = some (e, c) ∧ localOf f.dest < 2048 ∧ s.storeBytes (clusterOf e) + f.statedLen ≤ 65536 ∧
  f.resp = false ∧ f.refuse = false ∧ f.tc ≠ 4 ∧ f.len ≠ 0 ∧ f.len % 4 = 0 ∧ s.packetUnavail e c = false ∧
  s.rdn e ENG.CTX_CFG_HDR c = 0

theorem exec_framerRx (f : Frame) (s : State) : exec (.framerRx f) s = execFramerRx f s := rfl

/-- Such a frame joins the receive store, which is then unpacked as far as it may be. -/
theorem exec_framerRx_takes {s : State} {f : Frame} {e c : Nat} (h : TakesPacket s f e c) :
    exec (.framerRx f) s = .next ((((s.takeFramer (4 + clusterOf e) f).updCtx e c (fun x =>
      { x with store := x.store ++ [storedOf f] })).unpack e c 4).touchOut (4 + clusterOf e)).drain := by
  obtain ⟨hctx, hown, hstore, hresp, hrefuse, htc, hlen, hword, hunavail, hhdr⟩ := h
  have htook := took_takeFramer s (4 + clusterOf e) f e c
  rw [exec_framerRx, execFramerRx, hctx]
  dsimp only
  rw [if_neg (by omega)]
  have hunavail' : (s.takeFramer (4 + clusterOf e) f).packetUnavail e c = false := by
    obtain ⟨⟨ib, cs, vs, hframe⟩, -, hctx'⟩ := htook
    rw [← hunavail]
    unfold State.packetUnavail
    rw [hctx', hframe]
    rfl
  have hhdr' : (s.takeFramer (4 + clusterOf e) f).rdn e ENG.CTX_CFG_HDR c = 0 := by rw [took_rdn htook, hhdr]
  generalize s.takeFramer (4 + clusterOf e) f = t at htook hunavail' hhdr' ⊢
  have hsub : ¬ 2048 ≤ localOf f.dest := by omega
  simp [State.framerTake, hresp, hrefuse, htc, hlen, hword, hsub, State.frameToCtx, hunavail', hhdr', State.storePacket,
    storedOf]

/-- While software holds the FIFO the packet stays in the receive store. -/
theorem framerRx_held {s : State} {f : Frame} {e c : Nat} (h : TakesPacket s f e c) (htodo : s.flt.todo = [])
    (hfifo : s.rdn e ENG.CTX_CFG_FIFO_SW c = 1) :
    ∃ t, exec (.framerRx f) s = .next t ∧ Took s t e c { s.ctx e c with store := (s.ctx e c).store ++ [storedOf f] } := by
  have htook := took_updCtx (took_takeFramer s (4 + clusterOf e) f e c) (fun x => { x with store := x.store ++ [storedOf f] })
  rw [exec_framerRx_takes h]
  generalize (s.takeFramer (4 + clusterOf e) f).updCtx e c _ = t at htook ⊢
  have hunpack : t.unpack e c 4 = t := by
    rw [State.unpack, if_pos (by rw [took_rdn htook, hfifo])]
  rw [hunpack]
  have hdone := took_touchOut htook (4 + clusterOf e)
  rw [drain_settled _ ((took_todo hdone).trans htodo)]
  exact ⟨_, rfl, hdone⟩

/-- Otherwise a packet of one word goes on into the empty store's TX FIFO. -/
theorem framerRx_unpacked {s : State} {f : Frame} {e c : Nat} {w : Word} (h : TakesPacket s f e c) (htodo : s.flt.todo = [])
    (hfifo : s.rdn e ENG.CTX_CFG_FIFO_SW c = 0) (hstore : (s.ctx e c).store = []) (hw : bytesWords f.payload = [w])
    (hfree : (s.ctx e c).tx.free ≠ 0) :
    ∃ t, exec (.framerRx f) s = .next t ∧ Took s t e c { s.ctx e c with
      tx := (s.ctx e c).tx.put { word := w, last := true, dest := f.dest, seq := f.seq }, store := [] } := by
  have htook := took_updCtx (took_takeFramer s (4 + clusterOf e) f e c) (fun x => { x with store := x.store ++ [storedOf f] })
  have hdone := took_touchOut (took_unpack (q := storedOf f) htook hfifo (by simp [hstore]) hw rfl rfl hfree) (4 + clusterOf e)
  rw [exec_framerRx_takes h, drain_settled _ ((took_todo hdone).trans htodo)]
  exact ⟨_, rfl, hdone⟩

/-- A frame for a sub-address that no context has is refused as absent (R18, R242). -/
theorem framerRx_absent {s : State} {f : Frame} (hctx : s.ctxOf (localOf f.dest) = none) (hsub : 2048 ≤ localOf f.dest)
    (htodo : s.flt.todo = []) (hresp : f.resp = false) (hrefuse : f.refuse = false) (hnode : nodeOf f.src ≠ s.nodeId)
    (hplain : Plain s 4 f.src) (hroom : Room s 7 4) :
    ∃ t, exec (.framerRx f) s = .next t ∧ Counted s t 0 MGMT.ABSENT_CNT_COUNT ∧ t.ctxs = s.ctxs ∧
      Queued s t 7 4 (PutOnRing (refusalOf f 2)) := by
  rw [exec_framerRx, execFramerRx, hctx]
  dsimp only
  rw [if_pos hsub]
  obtain ⟨ib, htake⟩ := takeFramer_frame s 4 f
  rw [htake]
  have hsent := refuse_absent_ring { s with inbox := ib } 7 f hresp hrefuse hnode hplain hroom
  have hcounted := counted_sat_absent { s with inbox := ib }
  generalize State.refuse { s with inbox := ib } 7 f 2 = t at hsent ⊢
  obtain ⟨vs, hframe, hsame⟩ := sameFrames_touchOut t 4
  have hqueued : Queued s t 7 4 (PutOnRing (refusalOf f 2)) := fun p hp =>
    hsent.2.2 p (ringOuts_sat_absent { s with inbox := ib } ▸ hp)
  rw [drain_settled _ (by rw [hframe]; exact (sentOnRing_todo hsent).trans htodo)]
  refine ⟨_, rfl, ?_, ?_, fun p hp => ?_⟩
  · have hcount : (t.touchOut 4).rdn 0 MGMT.ABSENT_CNT_COUNT = t.rdn 0 MGMT.ABSENT_CNT_COUNT := by
      rw [hframe]
      rfl
    refine hcount.trans ((rdn_of_regsBut hsent.2.1 _ _ _ ?_).trans hcounted)
    exact key_notMem_sendKeys (by decide) (by decide) (by decide)
  · rw [hframe]
    exact (sentOnRing_ctxs hsent : t.ctxs = _)
  · obtain ⟨x, hx, hrest⟩ := hqueued p hp
    exact ⟨x, (hsame _).trans hx, hrest⟩

/-! ### Packets waiting, reads waiting (R242, R244) -/

theorem took_refl (s : State) (e c : Nat) : Took s s e c (s.ctx e c) :=
  ⟨⟨s.inbox, s.ctxs, s.voqs, rfl⟩, ctxsBut_refl s e c, rfl⟩

/-- FRAMER_UNPACK moves a stored packet of one word, whose WRITE needs no answer, into a TX FIFO that has room. -/
theorem framerUnpack_one (s : State) (e c : Nat) (q : StoredPkt) (w : Word) (htodo : s.flt.todo = [])
    (hfifo : s.rdn e ENG.CTX_CFG_FIFO_SW c = 0) (hstore : (s.ctx e c).store = [q]) (hw : q.words = [w]) (hdone : q.done = 0)
    (hwack : q.wack = false) (hfree : (s.ctx e c).tx.free ≠ 0) :
    ∃ t, exec (.framerUnpack e c) s = .next t ∧ Took s t e c { s.ctx e c with
      tx := (s.ctx e c).tx.put { word := w, last := true, dest := q.req.dest, seq := q.req.seq }, store := [] } := by
  have htook := took_unpack (took_refl s e c) hfifo hstore hw hdone hwack hfree
  have hexec : exec (.framerUnpack e c) s = .next (s.unpack e c 4).drain := rfl
  rw [hexec, drain_settled _ ((took_todo htook).trans htodo)]
  exact ⟨_, rfl, htook⟩

/-- A pending read that is due ends: its request is refused as unavailable onto the ring, its timer stops. -/
theorem readPendTimeout_due (s : State) (e c : Nat) (r : ReadPend) (hdue : s.due (tRead e c) = true) (htodo : s.flt.todo = [])
    (hread : (s.ctx e c).read = some r) (hresp : r.req.resp = false) (hrefuse : r.req.refuse = false)
    (hnode : nodeOf r.req.src ≠ s.nodeId) (hplain : Plain s 4 r.req.src) (hroom : Room s (4 + clusterOf e) 4) :
    ∃ t, exec (.readPendTimeout e c) s = .next t ∧ t.ctx e c = { s.ctx e c with read := none } ∧ CtxsBut s t e c ∧
      t.running (tRead e c) = false ∧ Queued s t (4 + clusterOf e) 4 (PutOnRing (refusalOf r.req 4)) := by
  have hexec : exec (.readPendTimeout e c) s =
      .next (if s.due (tRead e c) then ((s.stop (tRead e c)).refuseRead e c).drain else s) := rfl
  have hended : (s.stop (tRead e c)).refuseRead e c =
      ((s.stop (tRead e c)).updCtx e c (fun x => { x with read := none })).refuse (4 + clusterOf e) r.req 4 := by
    have hread' : ((s.stop (tRead e c)).ctx e c).read = some r := hread
    rw [State.refuseRead, hread']
  rw [hexec, if_pos hdue, hended]
  have hone := onlyCtx_updCtx (s.stop (tRead e c)) e c (fun x => { x with read := none })
  generalize (s.stop (tRead e c)).updCtx e c (fun x => { x with read := none }) = s1 at hone ⊢
  obtain ⟨⟨cs, rfl⟩, hbut, hctx⟩ := hone
  have hsent := refuse_ring { s.stop (tRead e c) with ctxs := cs } (4 + clusterOf e) r.req 4 (by decide) hresp hrefuse hnode
    hplain hroom
  generalize State.refuse { s.stop (tRead e c) with ctxs := cs } (4 + clusterOf e) r.req 4 = t at hsent ⊢
  rw [drain_settled t ((sentOnRing_todo hsent).trans htodo)]
  have hctxs := sentOnRing_ctxs hsent
  refine ⟨t, rfl, ?_, fun k hk => ?_, ?_, hsent.2.2⟩
  · rw [State.ctx, hctxs]
    exact hctx
  · rw [hctxs]
    exact hbut k hk
  · obtain ⟨⟨_, _, _, _, rfl⟩, -⟩ := hsent
    show (Tbl.find (s.stop (tRead e c)).timers (tRead e c)).isSome = false
    rw [find_stop_same]
    rfl

/-! ### SUBA (R243) -/

/-- A permitted write of SUBA comes down to the write of its range. -/
theorem exec_subaWrite (s : State) (p : Port) (e base count : Nat) (he : e < 16) (hbase : base < 8192) (hcount : count < 128)
    (hperm : Permitted s p (engPage e) 0xA8 (count * 65536 + base)) :
    exec (.subaWrite p e base count) s = .next (((s.heard p).writeSuba e ((s.heard p).selCtx e) base count).emit (done p)) := by
  have hexec : exec (.subaWrite p e base count) s = .next (s.forEng e (fun s =>
      s.access p (engPage e) 0xA8 (count % 128 * 65536 + base % 8192) (fun s =>
        s.writeSuba e (s.selCtx e) (base % 8192) (count % 128)))) := rfl
  rw [hexec, State.forEng, if_pos he, Nat.mod_eq_of_lt hbase, Nat.mod_eq_of_lt hcount, access_permitted s p _ _ _ _ hperm]

theorem heard_selCtx (s : State) (p : Port) (e : Nat) : (s.heard p).selCtx e = s.selCtx e := heard_rdn s p e _ 0

theorem heard_subaClash (s : State) (p : Port) (e c base count : Nat) :
    (s.heard p).subaClash e c base count = s.subaClash e c base count := by
  obtain ⟨ts, h⟩ := heard_frame s p
  rw [h]
  rfl

/-- A range that no other context has part of is taken. -/
theorem subaWrite_free (s : State) (p : Port) (e base count : Nat) (he : e < 16) (hlow : 2048 ≤ base) (hbase : base < 8192)
    (hcount : count < 128) (htop : base + count ≤ 8192) (hperm : Permitted s p (engPage e) 0xA8 (count * 65536 + base))
    (hfree : count = 0 ∨ s.subaClash e (s.selCtx e) base count = false) :
    exec (.subaWrite p e base count) s = .next ((((s.heard p).wrn e ENG.SUBA_BASE base (s.selCtx e)).wrn e ENG.SUBA_COUNT count
      (s.selCtx e)).emit (done p)) := by
  have hrange : ¬ (base < 2048 ∨ 8192 < base + count ∨ 8191 < base) := by omega
  have hclash : ¬ (count ≠ 0 && s.subaClash e (s.selCtx e) base count) = true := by
    rcases hfree with h | h <;> simp [h]
  rw [exec_subaWrite s p e base count he hbase hcount hperm, State.writeSuba, heard_selCtx, heard_subaClash, if_neg hrange,
    if_neg hclash]

/-- A range that another context has part of is refused. -/
theorem subaWrite_clash (s : State) (p : Port) (e base count : Nat) (he : e < 16) (hlow : 2048 ≤ base) (hbase : base < 8192)
    (hcount : count < 128) (htop : base + count ≤ 8192) (hperm : Permitted s p (engPage e) 0xA8 (count * 65536 + base))
    (hsome : count ≠ 0) (hclash : s.subaClash e (s.selCtx e) base count = true) :
    exec (.subaWrite p e base count) s = .next (((s.heard p).raise (engPage e) 13).emit (done p)) := by
  have hrange : ¬ (base < 2048 ∨ 8192 < base + count ∨ 8191 < base) := by omega
  rw [exec_subaWrite s p e base count he hbase hcount hperm, State.writeSuba, heard_selCtx, heard_subaClash, if_neg hrange,
    if_pos (by simp [hsome, hclash])]

/-- What SUBA holds after a range is taken. -/
theorem suba_taken (s : State) (p : Port) (e c base count : Nat) (hbase : base < 8192) (hcount : count < 128) :
    let t := (((s.heard p).wrn e ENG.SUBA_BASE base c).wrn e ENG.SUBA_COUNT count c).emit (done p)
    t.rdn e ENG.SUBA_BASE c = base ∧ t.rdn e ENG.SUBA_COUNT c = count ∧
      RegsBut s t [ENG.SUBA_BASE.key e c, ENG.SUBA_COUNT.key e c] ∧
      t = { s.heard p with regs := t.regs, sent := s.sent ++ [done p] } := by
  refine ⟨?_, ?_, ?_, ?_⟩
  · rw [emit_rdn, rdn_wrn_elsewhere _ _ _ _ (by simp [place, ENG.SUBA_BASE, ENG.SUBA_COUNT]), rdn_wrn_same]
    exact Nat.mod_eq_of_lt hbase
  · rw [emit_rdn, rdn_wrn_same]
    exact Nat.mod_eq_of_lt hcount
  · have hheard : RegsBut s (s.heard p) [ENG.SUBA_BASE.key e c, ENG.SUBA_COUNT.key e c] := fun k _ => by rw [heard_regs]
    exact regsBut_trans hheard (regsBut_trans (regsBut_wrn _ e _ base c (by simp)) (regsBut_wrn _ e _ count c (by simp)))
  · rw [← heard_sent s p]
    rfl

/-! ### Program memory (R254) -/

theorem heard_bank (s : State) (p : Port) (e : Nat) : (s.heard p).bank e = s.bank e := heard_rdn s p e _ 0

theorem heard_flagn (s : State) (p : Port) (n : Nat) (f : Fld) (i : Nat) : (s.heard p).flagn n f i = s.flagn n f i := by
  rw [flagn_eq, flagn_eq, heard_rdn]

/-- A permitted write of program memory comes down to the write of its word. -/
theorem exec_programMemoryWrite (s : State) (p : Port) (e b w v : Nat) (he : e < 16) (hb : b < 2) (hw : w < 2048)
    (harr : s.arrives p = true) (hcredit : s.hostWaits p true = false) (hjudge : s.judge p true (progOff e b w) v true = none) :
    exec (.programMemoryWrite p e b w v) s = .next (((s.heard p).writeProg e b w v).emit (done p)) := by
  have hin : ¬ 2 ^ 24 ≤ progOff e b w := by
    unfold progOff
    omega
  have hexec : exec (.programMemoryWrite p e b w v) s = if 2 ^ 24 ≤ progOff e b w then .fault .outsideAddressSpace
      else .next (if e < 16 ∧ b < 2 ∧ w < 2048 then s.accessWord p (progOff e b w) v (fun s => s.writeProg e b w v) else s) := rfl
  rw [hexec, if_neg hin, if_pos ⟨he, hb, hw⟩]
  simp only [State.accessWord, harr, hcredit, hjudge]
  rfl

/-- The bank takes writes: it is the live bank with LIVE_WR, or the other one with no swap pending. -/
theorem writeProg_takes (s : State) (e b w v : Nat) (hlive : b = s.bank e → s.flagn e ENG.PB_CTRL_LIVE_WR = true)
    (hother : b ≠ s.bank e → s.flagn e ENG.PB_STAT_SWAP_PEND = false) :
    s.writeProg e b w v = { s with prog := Tbl.set 0 s.prog ((2 * e + b) * 2048 + w) (v % 2 ^ 32) } := by
  refine if_neg ?_
  by_cases hb : b = s.bank e
  · simp [-flagn_eq, hlive hb, hb]
  · simp [-flagn_eq, hother hb, hb]

theorem writeProg_refuses (s : State) (e b w v : Nat)
    (h : (b = s.bank e ∧ s.flagn e ENG.PB_CTRL_LIVE_WR = false) ∨ (b ≠ s.bank e ∧ s.flagn e ENG.PB_STAT_SWAP_PEND = true)) :
    s.writeProg e b w v = s.satn e ENG.PB_WREJ_COUNT := by
  refine if_pos ?_
  rcases h with ⟨hb, hf⟩ | ⟨hb, hf⟩
  · simp [-flagn_eq, hb, hf]
  · simp [-flagn_eq, hb, hf]

/-- A saturating counter has counted one more (R8). -/
theorem counted_satn (s : State) (n : Nat) (f : Fld) : Counted s (s.satn n f) n f := by
  refine (rdn_wrn_same s n f _ 0).trans (Nat.mod_eq_of_lt ?_)
  have := Nat.two_pow_pos f.w
  omega

/-- A write taken changes its word alone. -/
theorem prog_taken (s : State) (p : Port) (e b w v : Nat) (hw : w < 2048) :
    let t := State.emit { s.heard p with
      prog := Tbl.set 0 (s.heard p).prog ((2 * e + b) * 2048 + w) (v % 2 ^ 32) } (done p)
    t.progWord e b w = v % 2 ^ 32 ∧ (∀ a, a ≠ (2 * e + b) * 2048 + w → Tbl.get 0 t.prog a = Tbl.get 0 s.prog a) ∧
      t = { s.heard p with prog := t.prog, sent := s.sent ++ [done p] } := by
  have hprog : (s.heard p).prog = s.prog := by
    obtain ⟨ts, h⟩ := heard_frame s p
    rw [h]
  refine ⟨?_, fun a ha => ?_, ?_⟩
  · rw [State.progWord, Nat.mod_eq_of_lt hw]
    exact get_set_same 0 _ _ _
  · rw [← hprog]
    exact get_set_other 0 _ _ _ _ ha
  · rw [← heard_sent s p]
    rfl

/-- A write refused is counted. -/
theorem prog_refused (s : State) (p : Port) (e : Nat) :
    let t := ((s.heard p).satn e ENG.PB_WREJ_COUNT).emit (done p)
    Counted s t e ENG.PB_WREJ_COUNT ∧ t.prog = s.prog ∧ RegsBut s t [ENG.PB_WREJ_COUNT.key e 0] ∧
      t = { s.heard p with regs := t.regs, sent := s.sent ++ [done p] } := by
  obtain ⟨ts, h⟩ := heard_frame s p
  rw [h]
  exact ⟨counted_satn s e _, rfl, regsBut_wrn s e _ _ 0 (by simp), rfl⟩

/-! ### The statement -/

/-- Settles O38: each clause is what the lemma above says its command does, from the state the clause names. -/
theorem framersAndProgramMemoryComplete : Obligations.FramersAndProgramMemoryComplete := by
  unfold Obligations.FramersAndProgramMemoryComplete
  refine ⟨?_, ?_, ?_, ?_, ?_, ?_, ?_, ?_⟩
  case refine_1 =>
    rintro s e c _ _ _ - - htodo htwin hwhole rfl hws hrx hhdr rfl htc rfl hnode hplain hrep hroom
    obtain ⟨t, hexec, hctx, hbut, hqueued⟩ :=
      framerEmit_plain s e c htodo hwhole hrx ⟨htwin, hws, hhdr, htc, hnode, hplain, hrep, hroom⟩
    refine ⟨t, hexec, by rw [hctx], by rw [hctx], hbut, queued_mono hqueued fun x hx => ?_⟩
    obtain ⟨htc', hdest, hsrc, hpay, -⟩ := putOnRing_fields hx
    exact ⟨htc', hdest, hsrc, hpay⟩
  case refine_2 =>
    intro s f e c hctx hown htodo hstore hresp hrefuse htc hlen hword hunavail hhdr
    have htakes : TakesPacket s f e c := ⟨hctx, hown, hstore, hresp, hrefuse, htc, hlen, hword, hunavail, hhdr⟩
    refine ⟨fun hfifo => ?_, fun w hfifo hempty hw hfree => ?_⟩
    · obtain ⟨t, hexec, ⟨_, _, _, rfl⟩, hbut, hx⟩ := framerRx_held htakes htodo hfifo
      exact ⟨_, hexec, hbut, hx, rfl⟩
    · obtain ⟨t, hexec, -, hbut, hx⟩ := framerRx_unpacked htakes htodo hfifo hempty hw hfree
      exact ⟨t, hexec, hbut, by rw [hx], by rw [hx, ← hempty]⟩
  case refine_3 =>
    intro s f hctx hsub htodo hresp hrefuse hnode hplain hroom
    obtain ⟨t, hexec, hcount, hctxs, hqueued⟩ := framerRx_absent hctx hsub htodo hresp hrefuse hnode hplain hroom
    refine ⟨t, hexec, hcount, hctxs, queued_mono hqueued fun x hx => ?_⟩
    obtain ⟨-, hdest, -, hpay, href⟩ := putOnRing_fields hx
    exact ⟨hdest, href, by rw [hpay]; rfl⟩
  case refine_4 =>
    intro s e c q w htodo hfifo hstore hw hdone hwack hfree
    obtain ⟨t, hexec, -, hbut, hx⟩ := framerUnpack_one s e c q w htodo hfifo hstore hw hdone hwack hfree
    exact ⟨t, hexec, hbut, hx⟩
  case refine_5 =>
    intro s e c r _ hdue htodo hread hresp hrefuse hnode hplain hroom
    obtain ⟨t, hexec, hctx, hbut, hrun, hqueued⟩ :=
      readPendTimeout_due s e c r hdue htodo hread hresp hrefuse hnode hplain hroom
    refine ⟨t, hexec, hctx, hbut, hrun, queued_mono hqueued fun x hx => ?_⟩
    obtain ⟨-, hdest, -, hpay, href⟩ := putOnRing_fields hx
    exact ⟨hdest, href, by rw [hpay]; rfl⟩
  case refine_6 =>
    intro s p e base count he hlow hbase hcount htop hperm
    refine ⟨fun hfree => ?_, fun hsome hclash => ?_⟩
    · exact ⟨_, subaWrite_free s p e base count he hlow hbase hcount htop hperm hfree,
        suba_taken s p e _ base count hbase hcount⟩
    · refine ⟨_, subaWrite_clash s p e base count he hlow hbase hcount htop hperm hsome hclash, ?_, fun k hk => ?_⟩
      · exact (event_raise (s.heard p) (engPage e) 13 13 (by decide)).trans rfl
      · exact (regsBut_raise (s.heard p) (engPage e) 13 k hk).trans (by rw [heard_regs])
  case refine_7 =>
    intro s p e b w v he hb hw harr hcredit hjudge
    refine ⟨fun hlive hother => ?_, fun hrej => ?_⟩
    · have hexec := exec_programMemoryWrite s p e b w v he hb hw harr hcredit hjudge
      rw [writeProg_takes _ e b w v (by simpa only [heard_bank, heard_flagn] using hlive)
        (by simpa only [heard_bank, heard_flagn] using hother)] at hexec
      exact ⟨_, hexec, prog_taken s p e b w v hw⟩
    · have hexec := exec_programMemoryWrite s p e b w v he hb hw harr hcredit hjudge
      rw [writeProg_refuses _ e b w v (by simpa only [heard_bank, heard_flagn] using hrej)] at hexec
      exact ⟨_, hexec, prog_refused s p e⟩
  case refine_8 =>
    intro s p e b w v hout
    exact if_pos hout

end Sys2Proof.Proofs
end

section
/-! PROOFS. What events, queues, links, channels and domains leave alone of the mode, the start sequence and the request
in progress (R23, R446, R453). -/

namespace Sys2Proof.Proofs

open Sys2Proof.Machine Sys2Proof.Safety Sys2Proof.Laws

/-! ### The relation -/

/-- The fields in which the mode, the start sequence, resets, the state of the time unit, the bus voltage and the root key
show: nothing that happens to queues, links, channels or domains writes them. -/
def startFields : List Fld :=
  [DEVICE.MODE_STAT_MODE, DEVICE.MODE_STAT_PREV, DEVICE.MODE_STAT_REFUSE_CAUSE, DEVICE.START_STAT_STEP,
    DEVICE.START_STAT_NO_KEY, DEVICE.RESET_CAUSE_WARM, DEVICE.RESET_CAUSE_DEBUG, DEVICE.LOSS_CNT_COUNT, LINE.V_BUS_CODE,
    KEYS.ROOT_STAT_PRESENT, KEYS.ROOT_STAT_COPY, TIME.STAT_STATE, TIME.CTRL_STEP_ARM, DEVICE.RESET_CAUSE_POWER_UP]

/-- A field of page `f.page + n` that is none of these but for those at the listed places, nor INT_STAT or BLK_CTRL of a
page. -/
abbrev ApartBut (but : List Nat) (f : Fld) (n : Nat) : Prop :=
  (f.off < 4096 ∧ f.lo < 64) ∧ f.off ≠ HDR.INT_STAT_EVENTS.off ∧ f.off ≠ HDR.BLK_CTRL_ENABLE.off ∧
    ∀ g ∈ startFields, place g 0 ∉ but → place g 0 ≠ place f n

/-- A field of page `f.page + n` that is none of these at all. -/
abbrev Apart (f : Fld) (n : Nat) : Prop := ApartBut [] f n

/-- `t` has the mode, the steps of the start sequence and the request of `s`, but for the fields at the listed places, and
on the pages of PD0 no fewer events and blocks enabled. With `quiet` no evaluation of the budget has been asked for; with
`lit` the same domains are on. -/
structure Steady (but : List Nat) (quiet lit : Bool) (s t : State) : Prop where
  mono : t.mono = s.mono
  modeU : t.modeU = { s.modeU with saving := t.modeU.saving }
  todo : t.flt.todo = s.flt.todo
  root : t.gcm.root = s.gcm.root
  okAt : t.brk.okAt = s.brk.okAt
  domain : Tbl.find t.timers tDomain = Tbl.find s.timers tDomain
  fields : ∀ g ∈ startFields, place g 0 ∉ but → t.rd g = s.rd g
  events : ∀ pg b, pageDomain pg = 0 → b < 32 → event s pg b = true → event t pg b = true
  enabled : ∀ pg, pageDomain pg = 0 → s.enabled pg = true → t.enabled pg = true
  wake : quiet = true → t.bud.wake = s.bud.wake
  pd : lit = true → t.pd = s.pd

theorem startFields_off : ∀ g ∈ startFields, (g.off < 4096 ∧ g.lo < 64) ∧ g.off ≠ HDR.INT_STAT_EVENTS.off ∧
    g.off ≠ HDR.BLK_CTRL_ENABLE.off := by decide

namespace Steady

variable {X : List Nat} {q l : Bool} {s t u : State}

theorem refl (X : List Nat) (q l : Bool) (s : State) : Steady X q l s s where
  mono := rfl
  modeU := rfl
  todo := rfl
  root := rfl
  okAt := rfl
  domain := rfl
  fields _ _ _ := rfl
  events _ _ _ _ h := h
  enabled _ _ h := h
  wake _ := rfl
  pd _ := rfl

theorem trans (h : Steady X q l s t) (h' : Steady X q l t u) : Steady X q l s u where
  mono := h'.mono.trans h.mono
  modeU := by rw [h'.modeU, h.modeU]
  todo := h'.todo.trans h.todo
  root := h'.root.trans h.root
  okAt := h'.okAt.trans h.okAt
  domain := h'.domain.trans h.domain
  fields g hg hX := (h'.fields g hg hX).trans (h.fields g hg hX)
  events pg b hpg hb he := h'.events pg b hpg hb (h.events pg b hpg hb he)
  enabled pg hpg he := h'.enabled pg hpg (h.enabled pg hpg he)
  wake hq := (h'.wake hq).trans (h.wake hq)
  pd hl := (h'.pd hl).trans (h.pd hl)

/-- Both branches of a choice keep the relation, so the choice does. -/
theorem ite {c : Prop} [Decidable c] (ht : Steady X q l s t) (hu : Steady X q l s u) : Steady X q l s (if c then t else u) := by
  split
  · exact ht
  · exact hu

/-- A list of steps that each keep the relation keeps it. -/
theorem foldl {α : Type} {f : State → α → State} {as : List α} (h : Steady X q l s t)
    (hf : ∀ a ∈ as, ∀ u, Steady X q l s u → Steady X q l s (f u a)) : Steady X q l s (as.foldl f t) := by
  induction as generalizing t with
  | nil => exact h
  | cons a as ih => exact ih (hf a List.mem_cons_self t h) (fun b hb => hf b (List.mem_cons_of_mem a hb))

theorem weaken {Y : List Nat} (h : Steady X q l s t) (hXY : X ⊆ Y) : Steady Y q l s t :=
  { h with fields := fun g hg hY => h.fields g hg (fun hX => hY (hXY hX)) }

theorem mode (h : Steady X q l s t) (hX : place DEVICE.MODE_STAT_MODE 0 ∉ X := by decide) : t.mode = s.mode :=
  h.fields _ (by simp [startFields]) hX

theorem step_ (h : Steady X q l s t) (hX : place DEVICE.START_STAT_STEP 0 ∉ X := by decide) : t.step_ = s.step_ :=
  h.fields _ (by simp [startFields]) hX

theorem wrnBut (h : Steady X q l s t) (n : Nat) (f : Fld) (v i : Nat) (hf : ApartBut X f n) :
    Steady X q l s (t.wrn n f v i) := by
  obtain ⟨hoff, hint, hblk, hplace⟩ := hf
  refine h.trans { refl X q l t with fields := ?_, events := ?_, enabled := ?_ }
  · exact fun g hg hX => rdn_wrn_elsewhere t v i 0 (hplace g hg hX)
  · intro pg b _ _ he
    rwa [event, rdn_wrn_elsewhere t v i 0 (place_ne_of_off n pg hoff (by decide) hint.symm)]
  · intro pg _ he
    rwa [State.enabled, rdn_wrn_elsewhere t v i 0 (place_ne_of_off n pg hoff (by decide) hblk.symm)]

theorem wrBut (h : Steady X q l s t) (f : Fld) (v : Nat) (hf : ApartBut X f 0) : Steady X q l s (t.wr f v) :=
  h.wrnBut 0 f v 0 hf

theorem wrn (h : Steady X q l s t) (n : Nat) (f : Fld) (v i : Nat) (hf : Apart f n) : Steady X q l s (t.wrn n f v i) := by
  obtain ⟨hoff, hint, hblk, hplace⟩ := hf
  exact h.wrnBut n f v i ⟨hoff, hint, hblk, fun g hg _ => hplace g hg List.not_mem_nil⟩

theorem wr (h : Steady X q l s t) (f : Fld) (v i : Nat) (hf : Apart f 0) : Steady X q l s (t.wr f v i) := h.wrn 0 f v i hf

theorem sat (h : Steady X q l s t) (f : Fld) (i : Nat) (hf : Apart f 0) : Steady X q l s (t.sat f i) := h.wrn 0 f _ i hf

theorem emit (h : Steady X q l s t) (e : Emit) : Steady X q l s (t.emit e) := { h with }

theorem start (h : Steady X q l s t) (n d : Nat) (hn : tDomain ≠ n) : Steady X q l s (t.start n d) :=
  { h with domain := (find_start_other t n d tDomain hn).trans h.domain }

theorem stop (h : Steady X q l s t) (n : Nat) (hn : tDomain ≠ n) : Steady X q l s (t.stop n) :=
  { h with domain := (find_stop_other t n tDomain hn).trans h.domain }

theorem raise (h : Steady X q l s t) (pg b : Nat) : Steady X q l s (t.raise pg b) := by
  have hevents : ∀ pg' b', b' < 32 → event t pg' b' = true → event (t.raise pg b) pg' b' = true := fun pg' b' hb he => by
    by_cases hpg : pg' = pg
    · rw [hpg, event_raise t pg b b' hb, ← hpg, he, Bool.or_true]
    · rwa [event, rdn_raise_other t pg b pg' _ 0 (fun e => hpg (by simp only [Fld.key, HDR.INT_STAT_EVENTS] at e; omega))]
  have hfields : ∀ g ∈ startFields, (t.raise pg b).rd g = t.rd g := fun g hg => by
    obtain ⟨hoff, hint, -⟩ := startFields_off g hg
    exact rdn_raise_other t pg b 0 g 0 (key_ne (place_ne_of_off pg 0 (by decide) hoff hint) 0 0)
  have henabled : ∀ pg', (t.raise pg b).enabled pg' = t.enabled pg' := fun pg' => by
    rw [State.enabled, rdn_raise_other t pg b pg' _ 0 (key_ne (place_ne_of_off pg pg' (by decide) (by decide) (by decide)) 0 0)]
    rfl
  obtain ⟨m, k, hraise⟩ := raise_frame t pg b
  rw [hraise] at hevents hfields henabled ⊢
  exact h.trans { refl X q l t with
    fields := fun g hg _ => hfields g hg
    events := fun pg' b' _ hb he => hevents pg' b' hb he
    enabled := fun pg' _ he => (henabled pg').trans he }

/-- A block is enabled. -/
theorem enable (h : Steady X q l s t) (pg : Nat) : Steady X q l s (t.wrn pg HDR.BLK_CTRL_ENABLE 1) := by
  refine h.trans { refl X q l t with fields := ?_, events := ?_, enabled := ?_ }
  · intro g hg _
    obtain ⟨hoff, -, hblk⟩ := startFields_off g hg
    exact rdn_wrn_elsewhere t 1 0 0 (place_ne_of_off pg 0 (by decide) hoff hblk)
  · intro pg' b _ _ he
    rwa [event, rdn_wrn_elsewhere t 1 0 0 (place_ne_of_off pg pg' (by decide) (by decide) (by decide))]
  · intro pg' _ he
    by_cases hpg : pg' = pg
    · rw [State.enabled, hpg, rdn_wrn_same]
      rfl
    · rwa [State.enabled, rdn_wrn_other t pg pg' _ _ 1 0 0
        (fun e => hpg (by simp only [Fld.key, HDR.BLK_CTRL_ENABLE] at e; omega))]

/-! ### Queues and the buffer (R130-R146) -/

theorem updVoq (h : Steady X q l s t) (v : Nat) (f : Voq → Voq) : Steady X q l s (t.updVoq v f) := { h with }

theorem updOut (h : Steady X q l s t) (p : Nat) (f : OutPort → OutPort) : Steady X q l s (t.updOut p f) := { h with }

theorem touch (h : Steady X q l s t) (v : Nat) : Steady X q l s (t.touch v) := by
  unfold State.touch
  split_ifs
  · exact h
  · exact h.updVoq v _
  · exact h.updVoq v _

theorem touchOut (h : Steady X q l s t) (p : Nat) : Steady X q l s (t.touchOut p) := h.foldl fun v _ _ hu => hu.touch v

theorem releaseCells (h : Steady X q l s t) (v : Nat) (cs : List Nat) : Steady X q l s (t.releaseCells v cs) :=
  h.foldl fun c _ u hu => by
    dsimp only
    split_ifs <;> exact { hu with }

theorem releaseCopy (h : Steady X q l s t) (v : Nat) (c : Copy) : Steady X q l s (t.releaseCopy v c) :=
  (((h.updVoq v _).wr _ _ 0 (by decide)).wr _ _ _ (by decide)).releaseCells v c.cells

theorem countDiscard (h : Steady X q l s t) (v cause : Nat) : Steady X q l s (t.countDiscard v cause) := by
  have hcount := fun c : Bool => ite (c := c = true) (h.sat SWITCH.VOQ_DISC_COUNT (clsOf v) (by decide))
    (h.sat SWITCH.PDOWN_DISC_COUNT (clsOf v) (by decide))
  exact ((((hcount _).wr _ _ _ (by decide)).wr _ _ _ (by decide)).wr _ _ _ (by decide)).raise _ _

theorem lostCopy (h : Steady X q l s t) (c : Copy) : Steady X q l s (t.lostCopy c) := by
  unfold State.lostCopy
  split_ifs
  · exact h
  · exact { h with }

theorem discardQueue (h : Steady X q l s t) (cause v : Nat) : Steady X q l s (t.discardQueue cause v) := by
  unfold State.discardQueue
  dsimp only
  split_ifs
  · exact h
  · exact ((h.foldl fun c _ _ hu => ((hu.releaseCopy v c).countDiscard v cause).lostCopy c).updVoq v _).touch v

theorem headGone (h : Steady X q l s t) (v : Nat) : Steady X q l s (t.headGone v) := by
  unfold State.headGone
  dsimp only
  split_ifs with _ hp
  · have hcur : Steady X q l s ({ ((t.updVoq v (fun q => { q with since := none, wait := 0 })).updOut (outOf v)
        (fun o => { o with grant := none, since := o.prev })) with
        tx := Tbl.upd {} t.tx (outOf v) (fun t => { t with cur := .idle }) } : State) := { h with }
    have hport : outOf v = 0 ∨ outOf v = 1 := by
      simp only [Bool.and_eq_true, decide_eq_true_eq] at hp
      omega
    refine (hcur.emit _).wrn _ _ _ _ ?_
    rcases hport with e | e <;> rw [e] <;> decide
  · exact (h.updVoq v _).updOut _ _
  · exact h.updVoq v _

theorem removeAt (h : Steady X q l s t) (v k : Nat) (c : Copy) : Steady X q l s (t.removeAt v k c) :=
  (((h.headGone v).ite h).updVoq v _).releaseCopy v c

theorem discardAt (h : Steady X q l s t) (v k cause : Nat) : Steady X q l s (t.discardAt v k cause) := by
  unfold State.discardAt
  split
  · exact h
  · exact (((h.removeAt v k _).countDiscard v cause).lostCopy _).touch v

theorem requeueCells (h : Steady X q l s t) (v : Nat) (cs : List Nat) : Steady X q l s (t.requeueCells v cs) :=
  h.foldl fun c _ u hu => by
    split_ifs <;> exact { hu with }

theorem abandonGrant (h : Steady X q l s t) (p : Nat) : Steady X q l s (t.abandonGrant p) := by
  unfold State.abandonGrant
  split
  · exact h
  · dsimp only
    split
    · exact h.updOut p _
    · exact ((h.updOut p _).requeueCells _ _).touch _

theorem settleOut (h : Steady X q l s t) (p : Nat) : Steady X q l s (t.settleOut p) := by
  unfold State.settleOut
  split_ifs
  · exact h
  · exact h.foldl fun v _ _ hu => hu.discardQueue 7 v
  · exact h
  · exact h.foldl fun v _ _ hu => (hu.discardQueue _ v).updVoq v _
  · exact h.foldl fun v _ _ hu => hu.discardQueue 7 v

theorem portDown (h : Steady X q l s t) (p : Nat) : Steady X q l s (t.portDown p) := by
  have hdown := (h.abandonGrant p).updOut p (fun o => { o with down := true, gen := (o.gen + 1) % 16 })
  unfold State.portDown
  dsimp only
  split_ifs
  · exact h
  all_goals refine (Steady.wr (Steady.settleOut ?_ p) _ _ _ (by decide)).touchOut p
  · exact (hdown.updOut p _).foldl fun v _ _ hu => hu.updVoq v _
  · exact (hdown.updOut p _).foldl fun v _ _ hu => hu.updVoq v _
  · exact hdown

theorem fenceBank (h : Steady X q l s t) (b : Nat) : Steady X q l s (t.fenceBank b) := by
  unfold State.fenceBank
  dsimp only
  split_ifs
  · exact h
  · refine (Steady.foldl (h.wr _ _ _ (by decide)) fun c _ u hu => ?_).foldl fun v _ u hu =>
      hu.foldl fun k _ w hw => ?_
    · exact { hu with }
    · split
      · exact hw
      · split_ifs
        · exact hw.discardAt v k 6
        · exact hw

/-! ### The reference, interrupts and OTP values (R48, R57, R61, R463) -/

theorem raiseRef (h : Steady X q l s t) (b : Nat) : Steady X q l s (t.raiseRef b) := by
  unfold State.raiseRef
  split_ifs
  · exact h.raise _ _
  · exact h

theorem loseSource (h : Steady X q l s t) : Steady X q l s t.loseSource := by
  have hheld : Steady X q l s t.holdSource := { h with }
  exact (((hheld.wr _ _ _ (by decide)).wr _ _ _ (by decide)).raiseRef 5).raiseRef 6

theorem refDark (h : Steady X q l s t) (d : Nat) : Steady X q l s (t.refDark d) := by
  have hwest : Steady X q l s (if d = 2 then { t with ref := { t.ref with edges := none } }.wr CLOCKS.REF_STAT_CLOSED 0 else t) :=
    ite { h.wr CLOCKS.REF_STAT_CLOSED 0 0 (by decide) with } h
  exact hwest.loseSource.ite hwest

theorem msixSend (h : Steady X q l s t) (v : Nat) : Steady X q l s (t.msixSend v) := by
  obtain ⟨m, k, hsend⟩ := msixSend_frame t v
  rw [hsend]
  exact { h with }

theorem msixFlush (h : Steady X q l s t) : Steady X q l s t.msixFlush :=
  h.foldl fun v _ u hu => by
    split_ifs
    · exact hu.msixSend v
    · exact hu
    · exact { hu with }

theorem putAll (h : Steady X q l s t) (n v i : Nat) (fs : List Fld) (hfs : ∀ f ∈ fs, Apart f n) :
    Steady X q l s (t.putAll n v i fs) :=
  h.foldl fun f hf u hu => by
    unfold State.put
    split_ifs
    · exact hu.wrn n f _ i (hfs f hf)
    · exact hu

end Steady

/-- A field at an offset where none of the start sequence's fields stands, on whatever page. -/
theorem apart_of_off {f : Fld} (n : Nat) (hoff : f.off < 4096 ∧ f.lo < 64)
    (h : f.off ≠ HDR.INT_STAT_EVENTS.off ∧ f.off ≠ HDR.BLK_CTRL_ENABLE.off ∧ ∀ g ∈ startFields, g.off ≠ f.off) :
    Apart f n :=
  ⟨hoff, h.1, h.2.1, fun g hg _ => place_ne_of_off n 0 hoff (startFields_off g hg).1 (h.2.2 g hg)⟩

namespace Steady

variable {X : List Nat} {q l : Bool} {s t u : State}

theorem otpPage (h : Steady X q l s t) (pg : Nat) : Steady X q l s (t.otpPage pg) := by
  have hmasks : Steady X q l s (if t.locked pg then t else (t.wrn pg HDR.BLK_ACCESS_RD_MASK (t.maskBits (12 * blockType pg)) pg).wrn
      pg HDR.BLK_ACCESS_WR_MASK (t.maskBits (12 * blockType pg + 6)) pg) :=
    h.ite ((h.wrn pg _ _ pg (apart_of_off pg (by decide) (by decide))).wrn pg _ _ pg (apart_of_off pg (by decide) (by decide)))
  unfold State.otpPage
  dsimp only
  generalize (if t.locked pg then t else (t.wrn pg HDR.BLK_ACCESS_RD_MASK (t.maskBits (12 * blockType pg)) pg).wrn
      pg HDR.BLK_ACCESS_WR_MASK (t.maskBits (12 * blockType pg + 6)) pg) = t1 at hmasks ⊢
  split_ifs
  · exact h
  · exact hmasks.putAll _ _ _ _ (by decide)
  · exact ((hmasks.wr _ _ _ (by decide)).wr _ _ _ (by decide)).wr _ _ _ (by decide)
  · exact hmasks.wrn _ _ _ _ (apart_of_off _ (by decide) (by decide))
  · exact hmasks.putAll _ _ _ _ (by decide)
  · exact hmasks.wr _ _ _ (by decide)
  · exact hmasks

/-! ### Domains (R23, R451, R453, R514) -/

theorem startFields_kept : ∀ g ∈ startFields, pageDomain (keyPage (g.key 0 0)) = 0 ∨ keptOff (g.key 0 0) = true := by decide

/-- A timer that belongs to PD0 survives the loss of another domain, as do the fields named above and PD0's pages. -/
theorem domRegs (h : Steady X q l s t) {d : Nat} (hd : d ≠ 0) : Steady X q l s (t.domRegs d) := by
  have hkept : ∀ k, pageDomain (keyPage k) = 0 ∨ keptOff k = true →
      Tbl.find (t.regs.filter (fun e => pageDomain (keyPage e.1) ≠ d || keptOff e.1)) k = Tbl.find t.regs k := fun k hk =>
    (find_filter t.regs (fun k => decide (pageDomain (keyPage k) ≠ d) || keptOff k) k).trans (if_pos (by
      rcases hk with hk | hk
      · simp [hk, hd.symm]
      · simp [hk]))
  have hpage : ∀ f : Fld, f.off < 4096 ∧ f.lo < 64 → ∀ pg, keyPage (f.key pg 0) = f.page + pg := fun f hf pg => by
    unfold keyPage Fld.key
    omega
  have htimer : Tbl.find (t.timers.filter (fun e => timerDomain e.1 ≠ d)) tDomain = Tbl.find t.timers tDomain :=
    (find_filter t.timers (fun k => decide (timerDomain k ≠ d)) tDomain).trans (if_pos (by
      simp [show timerDomain tDomain = 0 by decide, hd.symm]))
  refine Steady.msixFlush (Steady.foldl (h.trans { refl X q l t with
    domain := htimer, fields := ?_, events := ?_, enabled := ?_ }) fun pg _ _ hu => hu.otpPage pg)
  · intro g hg _
    unfold State.rd State.rdn
    exact congrArg (Option.getD · (g.dflt 0)) (hkept _ (startFields_kept g hg))
  · intro pg b hpg _ he
    unfold event State.rdn at he ⊢
    rwa [hkept _ (.inl (by rwa [hpage _ (by decide), show HDR.INT_STAT_EVENTS.page = 0 from rfl, Nat.zero_add]))]
  · intro pg hpg he
    unfold State.enabled State.rdn at he ⊢
    rwa [hkept _ (.inl (by rwa [hpage _ (by decide), show HDR.BLK_CTRL_ENABLE.page = 0 from rfl, Nat.zero_add]))]

theorem resetPd3 (h : Steady X q l s t) : Steady X q l s t.resetPd3 := by
  refine Steady.foldl ?_ fun b _ _ hu => hu.fenceBank b
  exact { h with }

theorem saveLost (h : Steady X q l s t) : Steady X q l s t.saveLost := by
  unfold State.saveLost
  split_ifs
  · exact { (h.wr DEVICE.SET_CTRL_SAVE 0 0 (by decide)).wr DEVICE.SET_STAT_STATUS 3 0 (by decide) with
      modeU := congrArg (fun m : ModeUnit => { m with saving := false }) h.modeU }
  · exact h

theorem pcieDark (h : Steady X q l s t) : Steady X q l s t.pcieDark := by
  have hdown : Steady X q l s { t with pcie := { perst := t.pcie.perst }, msix := { events := t.msix.events } } := { h with }
  have hshown := ((hdown.wr DEVICE.PCIE_STAT_DL_UP 0 0 (by decide)).wr DEVICE.PCIE_STAT_WIDTH 0 0 (by decide)).wr
    DEVICE.PCIE_STAT_SPEED 0 0 (by decide)
  unfold State.pcieDark
  dsimp only
  split_ifs
  · exact hshown.raise 0 9
  · exact hshown

/-- A domain that is on goes off, and no other domain with it. -/
theorem domainOff_on (X : List Nat) (q : Bool) (s : State) {d : Nat} (hd : d ≠ 0) (hon : s.pdOn d = true) :
    Steady X q true { s with pd := deleteNat s.pd d } (s.domainOff d) := by
  have href := (refl X q true s).refDark d
  have hdark : Steady X q true { s with pd := deleteNat s.pd d }
      { (s.refDark d).domRegs d with pd := deleteNat (s.refDark d).pd d } :=
    { href.domRegs hd with pd := fun _ => congrArg (deleteNat · d) (href.pd rfl) }
  unfold State.domainOff
  rw [if_neg (by simp [hd, hon])]
  dsimp only
  split
  · exact { hdark with }
  · exact { hdark with }
  · exact hdark.resetPd3
  · exact { hdark with }
  · exact { hdark with }
  · exact { hdark.saveLost.pcieDark with }
  · exact { hdark with root := href.root }
  · exact hdark

theorem domainOff (h : Steady X q false s t) (d : Nat) : Steady X q false s (t.domainOff d) := by
  by_cases hoff : (!t.pdOn d || decide (d = 0)) = true
  · unfold State.domainOff
    rwa [if_pos hoff]
  · obtain ⟨hon, hd⟩ : t.pdOn d = true ∧ d ≠ 0 := by simpa using hoff
    exact h.trans { domainOff_on X q t hd hon with pd := fun e => nomatch e }

/-- A domain that is off comes on, and no other domain with it. -/
theorem domainOn_off (X : List Nat) (q : Bool) (s : State) {d : Nat} (hoff : s.pdOn d = false) :
    Steady X q true { s with pd := insertNat s.pd d } (s.domainOn d) := by
  have hpages : ∀ pages : List Nat, Steady X q true { s with pd := insertNat s.pd d }
      (pages.foldl (fun t pg => (t.otpPage pg).wrn pg HDR.BLK_CTRL_ENABLE 1)
        { s with pd := insertNat s.pd d, pageUnit := { s.pageUnit with fresh := pages.foldl insertNat s.pageUnit.fresh } }) :=
    fun pages => Steady.foldl { refl X q true s with pd := fun _ => rfl } fun pg _ _ hu => (hu.otpPage pg).enable pg
  have hports : ∀ {v} (u : State) (ports : List Nat), Steady X q true v u → Steady X q true v
      (ports.foldl (fun (t : State) p => (t.portDown p).updOut p (fun o => { o with gen := 0 })) u).resample := fun u ports hu =>
    { Steady.foldl hu fun p _ _ hv => (hv.portDown p).updOut p _ with }
  unfold State.domainOn
  dsimp only
  rw [if_neg (by simp [hoff])]
  split_ifs
  · exact hports _ _ (hpages _)
  · exact hports _ _ (hpages _)
  · exact hpages _

theorem domainOn (h : Steady X q false s t) (d : Nat) : Steady X q false s (t.domainOn d) := by
  by_cases hon : t.pdOn d = true
  · rwa [State.domainOn, if_pos hon]
  · exact h.trans { domainOn_off X q t (by simpa using hon) with pd := fun e => nomatch e }

/-! ### USB goes dark or comes back (R356-R358) -/

theorem updUsb (h : Steady X q l s t) (f : UsbUnit → UsbUnit) : Steady X q l s (t.updUsb f) := { h with }

theorem portDark (h : Steady X q l s t) {k : Nat} (hk : k < 5) : Steady X q l s (t.portDark k) :=
  Steady.foldl (h.stop (tPort k) (by unfold tDomain tPort; omega)) fun f hf _ hu => hu.wr f 0 k (by revert f; decide)

theorem showPower (h : Steady X q l s t) {k : Nat} (hk : k < 5) : Steady X q l s (t.showPower k) := by
  unfold State.showPower
  split_ifs
  · exact h.wr _ _ _ (by decide)
  · exact h.wr _ _ _ (by decide)
  · exact h.portDark hk

theorem portOff (h : Steady X q l s t) {k : Nat} (hk : k < 5) : Steady X q l s (t.portOff k) := (h.updUsb _).showPower hk

theorem setFnConf (h : Steady X q l s t) (c : Bool) : Steady X q l s (t.setFnConf c) := by
  unfold State.setFnConf
  split_ifs
  · exact h
  · exact (h.updUsb _).raise 0x49 4

theorem closeSession (h : Steady X q l s t) : Steady X q l s t.closeSession := by
  have hkey : Steady X q l s { t with usb := { t.usb with key := [], counter := 0 } } := { h with }
  unfold State.closeSession
  split_ifs
  · exact (hkey.wr _ _ _ (by decide)).raise 0x49 1
  · exact h

theorem setHubConf (h : Steady X q l s t) (c : Bool) : Steady X q l s (t.setHubConf c) := by
  unfold State.setHubConf
  split_ifs
  · exact h
  · exact (h.wr _ _ _ (by decide)).raise 0x48 0

theorem fnDefault (h : Steady X q l s t) : Steady X q l s t.fnDefault := by
  have hstream : Steady X q l s t.setup.togglesZero.streamOff :=
    (((h.updUsb _).updUsb _).updUsb _).wr USBFN.FN_STAT_STREAM_ON 0 0 (by decide)
  exact ((((hstream.setFnConf false).closeSession).updUsb _).wr _ _ _ (by decide)).wr _ _ _ (by decide)

theorem hubDefault (h : Steady X q l s t) : Steady X q l s t.hubDefault := by
  have hdef := (((h.fnDefault.setHubConf false).wr USBHUB.HUB_STAT_ADDRESS 0 0 (by decide)).wr USBHUB.HUB_STAT_RWAKE_EN 0 0
    (by decide)).updUsb (fun u => { u with power := [], hubChange := 0, lpmWake := false, window := none, tt := [], test := [] })
  exact ((hdef.portDark (by decide)).showPower (by decide)).foldl fun k hk _ hu => hu.portOff (by revert k; decide)

theorem usbAttach (h : Steady X q l s t) (vbus : Bool) : Steady X q l s (t.usbAttach vbus) := by
  unfold State.usbAttach
  dsimp only
  split_ifs
  · exact h.updUsb _
  all_goals exact ((((h.updUsb _).hubDefault).updUsb _).wr _ _ _ (by decide)).wr _ _ _ (by decide)

/-! ### Breaker channels (R408-R418) -/

theorem updBrk (h : Steady X q l s t) (n : Nat) (f : BrkCh → BrkCh) : Steady X q l s (t.updBrk n f) := { h with }

theorem setCh (h : Steady X q l s t) (n st : Nat) : Steady X q l s (t.setCh n st) := h.wr _ _ _ (by decide)

theorem showRoles (h : Steady X q l s t) : Steady X q l s t.showRoles := by
  have hrole : ∀ (f : Fld) (v b : Nat) (u : State), Apart f 0 → Steady X q l s u →
      Steady X q l s (if v = u.rd f then u else (u.wr f v).raise 0x4D b) := fun f v b u hf hu =>
    hu.ite ((hu.wr f v 0 hf).raise 0x4D b)
  exact hrole _ _ _ _ (by decide) (hrole _ _ _ _ (by decide) h)

theorem showOn (h : Steady X false l s t) (n : Nat) : Steady X false l s (t.showOn n) := by
  have hshown := fun v => (h.wr BRK.ON_MAP_ON v 0 (by decide)).showRoles
  have hwoken : ∀ u, Steady X false l s u → Steady X false l s { u with bud := { u.bud with wake := true } } := fun u hu =>
    { hu with wake := fun e => nomatch e }
  unfold State.showOn
  dsimp only
  generalize (if t.chState n = 5 then setBit (t.rd BRK.ON_MAP_ON) n else clrBit (t.rd BRK.ON_MAP_ON) n) = new
  split_ifs
  · exact hwoken _ (hshown new)
  · exact hshown new

theorem gateLow (h : Steady X q l s t) {n : Nat} (hn : n < 12) : Steady X q l s (t.gateLow n) :=
  ((h.updBrk n _).stop _ (by unfold tDomain tRampMax; omega)).stop _ (by unfold tDomain tRampStep; omega)

theorem chOff (h : Steady X false l s t) {n : Nat} (hn : n < 12) (cause st : Nat) : Steady X false l s (t.chOff n cause st) := by
  have hlow := fun f => ((((h.updBrk n f).gateLow hn).wr BRK.CH_STAT_CAUSE cause n (by decide)).setCh n st).sat
    LINE.OFF_CNT_COUNT n (by decide)
  have hmin := fun f d => (hlow f).ite (c := (cause = 7 && decide (n < 2)) = true)
    ((hlow f).start (tOffMin n) d (by unfold tDomain tOffMin; omega))
  exact ((hmin _ _).ite ((hmin _ _).raise 0x4C (16 + n))).showOn n

theorem chDrop (h : Steady X false l s t) {n : Nat} (hn : n < 12) (cause : Nat) : Steady X false l s (t.chDrop n cause) := by
  unfold State.chDrop
  split_ifs
  · exact h.chOff hn cause 0
  · exact ((h.gateLow hn).stop _ (by unfold tDomain tDelay; omega)).setCh n 0
  · exact h

theorem startDelay (h : Steady X q l s t) {n : Nat} (hn : n < 12) (d : Nat) : Steady X q l s (t.start (tDelay n) d) :=
  h.start _ _ (by unfold tDomain tDelay; omega)

theorem chSettle (h : Steady X false l s t) {n : Nat} (hn : n < 12) : Steady X false l s (t.chSettle n) := by
  unfold State.chSettle
  dsimp only
  split_ifs
  · exact (h.setCh n 1).startDelay hn _
  · exact h
  · exact h.chDrop hn 0
  · exact h.startDelay hn _
  · exact h
  · exact h

theorem settleAll (h : Steady X false l s t) : Steady X false l s t.settleAll :=
  h.foldl fun _ hn _ hu => hu.chSettle (List.mem_range.mp hn)

theorem slotsOff (h : Steady X false l s t) : Steady X false l s t.slotsOff :=
  (h.foldl fun _ hk _ hu => hu.chDrop (by have := List.mem_range.mp hk; omega) 10).settleAll

theorem setFitted (h : Steady X false l s t) {n : Nat} (hn : n < 12) (v : Nat) : Steady X false l s (t.setFitted n v) := by
  have hfit := h.wr BRK.CH_CFG_FITTED v n (by decide)
  unfold State.setFitted
  dsimp only
  split_ifs
  · exact (hfit.chDrop hn 1).setCh n 8
  · exact hfit.setCh n 0
  · exact hfit

/-- Step 4 of the start sequence enables the two blocks; the rest is the channels'. -/
theorem brkStart_enabled (X : List Nat) (l : Bool) (s : State) :
    Steady X false l ((s.wrn 0x4C HDR.BLK_CTRL_ENABLE 1).wrn 0x4D HDR.BLK_CTRL_ENABLE 1) s.brkStart := by
  have hfit := fun w : Nat => Steady.foldl (refl X false l ((s.wrn 0x4C HDR.BLK_CTRL_ENABLE 1).wrn 0x4D HDR.BLK_CTRL_ENABLE 1))
    (as := List.range 12) (f := fun t n => t.setFitted n (bits w (16 + n) 1)) fun _ hn _ hu => hu.setFitted (List.mem_range.mp hn) _
  exact ((hfit _).foldl fun n _ _ hu => hu.wr _ _ n (by decide)).settleAll

theorem brkStart (h : Steady X false l s t) : Steady X false l s t.brkStart :=
  ((h.enable 0x4C).enable 0x4D).trans (brkStart_enabled X l t)

/-! ### The budget outside LISTEN, RUN and STANDBY, and faults (R427-R434, R475) -/

theorem monitorTake (h : Steady X q l s t) {i : Nat} (v : Int) : Steady X q l s (t.monitorTake i v) := by
  have htaken : ∀ f : CupMon → CupMon, Steady X q l s { t with cup := Tbl.upd {} t.cup i f } := fun f => { h with }
  exact ((htaken _).raise 0x06 i).ite (htaken _)

theorem offer (h : Steady X q l s t) (src : Nat) (idx : Option Nat) (v : Int) : Steady X q l s (t.offer src idx v) := by
  unfold State.offer
  split_ifs
  · exact h.foldl fun i _ u hu => by
      split_ifs
      · exact hu.monitorTake v
      · exact hu
  · exact h

theorem showAccount (h : Steady X q l s t) (a : Account) : Steady X q l s (t.showAccount a) :=
  (((((h.wr _ _ _ (by decide)).wr _ _ _ (by decide)).wr _ _ _ (by decide)).wr _ _ _ (by decide)).offer _ _ _).offer _ _ _

theorem joinNeed (h : Steady X q l s t) (d : Side) : Steady X q l s (t.joinNeed d) := by
  unfold State.joinNeed
  split_ifs
  · exact { h with }
  · exact h

/-- Outside LISTEN, RUN, STANDBY and SAFE an evaluation acts on nothing but what it shows. -/
theorem budAct (h : Steady X q l s t) (hmode : t.mode < 2) (a : Account) : Steady X q l s (t.budAct a) := by
  have hshort : ∀ {Y u}, Steady Y q l u t → Steady Y q l u (if a.short then t else t.wr POWER.LEVERS_SHORT 0) := fun hu =>
    hu.ite (hu.wr _ _ _ (by decide))
  have hlow : (if a.short then t else t.wr POWER.LEVERS_SHORT 0).mode < 2 := (hshort (refl [] q l t)).mode ▸ hmode
  unfold State.budAct
  dsimp only
  rw [if_pos (by rw [decide_eq_true hlow, Bool.true_or, Bool.true_or])]
  exact (hshort h).wr _ _ _ (by decide)

theorem updBud (h : Steady X false l s t) (f : BudUnit → BudUnit) : Steady X false l s (t.updBud f) :=
  { h with wake := fun e => nomatch e }

theorem evaluate (h : Steady X false l s t) (hmode : t.mode < 2) : Steady X false l s t.evaluate := by
  have hshown : ∀ {Y u}, Steady Y false l u t → ∀ a, Steady Y false l u
      ((((t.updBud (fun b => { b with tols := t.tolRegs, wake := false })).showAccount a).joinNeed .east).joinNeed .west) :=
    fun hu a => (((hu.updBud _).showAccount a).joinNeed .east).joinNeed .west
  exact (hshown h _).budAct ((hshown (refl [] false l t) _).mode ▸ hmode) _

/-- With nothing reported the end of a command in such a mode evaluates the budget if it must, and does no more. -/
theorem modeDone (h : Steady X false l s t) (hmode : t.mode < 2) (htodo : t.flt.todo = []) :
    Steady X false l s t.modeDone := by
  have hwoken : ∀ {Y u}, Steady Y false l u t → Steady Y false l u t.evalWoken := fun hu => (hu.evaluate hmode).ite hu
  unfold State.modeDone
  rw [drain_settled _ ((hwoken (refl [] false l t)).todo.trans htodo)]
  exact hwoken h

end Steady

end Sys2Proof.Proofs
end

section
/-! PROOFS. The mode changes, SENTINEL is entered with PD0 alone on, step 5 begins; the warm reset (R446, R452, R453). -/

namespace Sys2Proof.Proofs

open Sys2Proof.Machine Sys2Proof.Safety Sys2Proof.Laws

/-! ### Steps that every command of this family takes -/

namespace Steady

variable {X : List Nat} {q l : Bool} {s t : State}

/-- The same change of the mode unit on both sides, one that does not look at SAVING. -/
theorem updMode (h : Steady X q l s t) (f : ModeUnit → ModeUnit)
    (hf : ∀ m b, f { m with saving := b } = { f m with saving := (f { m with saving := b }).saving }) :
    Steady X q l (s.updMode f) (t.updMode f) :=
  have hmodeU : f t.modeU = { f s.modeU with saving := (f t.modeU).saving } := by
    rw [h.modeU]
    exact hf _ _
  { h with modeU := hmodeU }

/-- The request and the way SENTINEL is left stay. -/
theorem want (h : Steady X q l s t) : t.modeU.auto = s.modeU.auto ∧ t.modeU.want = s.modeU.want := by
  rw [h.modeU]
  exact ⟨rfl, rfl⟩

theorem loosen (h : Steady X q l s t) : Steady X false false s t :=
  { h with
    wake := fun e => nomatch e
    pd := fun e => nomatch e }

theorem clrFields (h : Steady X q l s t) (n : Nat) (fs : List Fld) (hfs : ∀ f ∈ fs, ApartBut X f n) :
    Steady X q l s (t.clrFields n fs) :=
  h.foldl fun f hf _ hu => hu.foldl fun i _ _ hv => hv.wrnBut n f _ i (hfs f hf)

theorem setOwnOut (h : Steady X q l s t) (b : Bool) : Steady X q l s (t.setOwnOut b) :=
  { (h.wr TWIN.STAT_OWN_OUT (bit b) 0 (by decide)).wr TWIN.STAT_DRIVERS
      (bit ((t.wr TWIN.STAT_OWN_OUT (bit b)).flag TWIN.STAT_OWN_OUT && !(t.wr TWIN.STAT_OWN_OUT (bit b)).flag TWIN.STAT_OWN_IN)) 0
      (by decide) with }

end Steady

/-! ### The mode -/

/-- The mode changes in MODE_STAT, with MODE_CHANGE and the ALIVE part of the fault unit. -/
theorem setMode_frame (s : State) (m : Nat) : ∃ f : FaultUnit,
    s.setMode m = { ((s.wr DEVICE.MODE_STAT_PREV s.mode).wr DEVICE.MODE_STAT_MODE m).raise 0 0 with flt := f } ∧
      f.todo = s.flt.todo := by
  have htodo := ((Steady.refl [place DEVICE.MODE_STAT_PREV 0, place DEVICE.MODE_STAT_MODE 0] true true s).wrBut
    DEVICE.MODE_STAT_PREV s.mode (by decide)).wrBut DEVICE.MODE_STAT_MODE m (by decide) |>.raise 0 0 |>.todo
  unfold State.setMode
  dsimp only
  split
  · exact ⟨_, rfl, htodo⟩
  · exact ⟨_, rfl, htodo⟩

theorem setMode_steady (q l : Bool) (s : State) (m : Nat) :
    Steady [place DEVICE.MODE_STAT_PREV 0, place DEVICE.MODE_STAT_MODE 0] q l s (s.setMode m) := by
  obtain ⟨f, hset, htodo⟩ := setMode_frame s m
  rw [hset]
  exact { ((Steady.refl _ q l s).wrBut DEVICE.MODE_STAT_PREV s.mode (by decide)).wrBut DEVICE.MODE_STAT_MODE m
    (by decide) |>.raise 0 0 with todo := htodo }

theorem setMode_mode (s : State) {m : Nat} (hm : m < 8) : (s.setMode m).mode = m := by
  obtain ⟨f, hset, -⟩ := setMode_frame s m
  rw [hset]
  show (((s.wr DEVICE.MODE_STAT_PREV s.mode).wr DEVICE.MODE_STAT_MODE m).raise 0 0).mode = m
  rw [((Steady.refl [] true true _).raise 0 0).mode]
  exact (rdn_wrn_same _ 0 DEVICE.MODE_STAT_MODE m 0).trans (Nat.mod_eq_of_lt hm)

theorem setMode_prev (s : State) (m : Nat) : (s.setMode m).rd DEVICE.MODE_STAT_PREV = s.mode % 8 := by
  obtain ⟨f, hset, -⟩ := setMode_frame s m
  rw [hset]
  show (((s.wr DEVICE.MODE_STAT_PREV s.mode).wr DEVICE.MODE_STAT_MODE m).raise 0 0).rd DEVICE.MODE_STAT_PREV = _
  rw [((Steady.refl [] true true _).raise 0 0).fields _ (by simp [startFields]) List.not_mem_nil]
  exact (rdn_wrn_elsewhere _ m 0 0 (by decide)).trans (rdn_wrn_same s 0 DEVICE.MODE_STAT_PREV s.mode 0)

theorem setMode_event (s : State) (m : Nat) : event (s.setMode m) 0 0 = true := by
  obtain ⟨f, hset, -⟩ := setMode_frame s m
  rw [hset]
  exact (event_raise _ 0 0 0 (by decide)).trans (by rw [decide_eq_true rfl, Bool.true_or])

/-! ### Every domain but PD0 off -/

theorem pdOn_congr {s t : State} (h : t.pd = s.pd) (d : Nat) : t.pdOn d = s.pdOn d := congrArg (List.contains · d) h

theorem pdOn_domainOff_of_off (s : State) (d e : Nat) (he : s.pdOn e = false) : (s.domainOff d).pdOn e = false := by
  by_cases hoff : (!s.pdOn d || decide (d = 0)) = true
  · rwa [State.domainOff, if_pos hoff]
  · obtain ⟨hon, hd⟩ : s.pdOn d = true ∧ d ≠ 0 := by simpa using hoff
    have hpd : (s.domainOff d).pd = deleteNat s.pd d := (Steady.domainOff_on [] false s hd hon).pd rfl
    rw [State.pdOn, hpd]
    simp only [State.pdOn, deleteNat] at he ⊢
    simp at he ⊢
    tauto

theorem pdOn_domainOff_same (s : State) {d : Nat} (hd : d ≠ 0) : (s.domainOff d).pdOn d = false := by
  by_cases hon : s.pdOn d = true
  · have hpd : (s.domainOff d).pd = deleteNat s.pd d := (Steady.domainOff_on [] false s hd hon).pd rfl
    rw [State.pdOn, hpd]
    simp [deleteNat]
  · exact pdOn_domainOff_of_off s d d (by simpa using hon)

theorem pdOn_foldl_domainOff (ds : List Nat) : ∀ (s : State) (e : Nat), e ≠ 0 → e ∈ ds ∨ s.pdOn e = false →
    (ds.foldl State.domainOff s).pdOn e = false := by
  induction ds with
  | nil => exact fun s e _ h => h.resolve_left List.not_mem_nil
  | cons d ds ih =>
    intro s e he h
    refine ih _ e he ?_
    rcases h with h | h
    · rcases List.mem_cons.mp h with rfl | h
      · exact .inr (pdOn_domainOff_same s he)
      · exact .inl h
    · exact .inr (pdOn_domainOff_of_off s d e h)

/-- The mode unit with PSU_EN low and nothing loaded. -/
def unlit (m : ModeUnit) : ModeUnit := { m with psu := false, loaded := false }

theorem domainsDark_steady (q : Bool) (s : State) : Steady [] q false (s.updMode unlit) s.domainsDark :=
  Steady.foldl (((Steady.refl [] q false s).setOwnOut false).updMode unlit fun _ _ => rfl) fun d _ _ hu => hu.domainOff d

theorem domainsDark_off (s : State) (d : Nat) (hd : 1 ≤ d) (hd' : d ≤ 7) : s.domainsDark.pdOn d = false :=
  pdOn_foldl_domainOff _ _ d (by omega) (.inl (by interval_cases d <;> decide))

/-! ### SENTINEL is entered -/

/-- The hub dark, its mode SENTINEL, before the slots go off. -/
def darkened (s : State) : State := if s.domainsDark.mode = 1 then s.domainsDark else s.domainsDark.setMode 1

theorem darkened_steady (s : State) :
    Steady [place DEVICE.MODE_STAT_PREV 0, place DEVICE.MODE_STAT_MODE 0] true true s.domainsDark (darkened s) := by
  unfold darkened
  split
  · exact Steady.refl _ _ _ _
  · exact setMode_steady true true _ 1

theorem darkened_mode (s : State) : (darkened s).mode = 1 := by
  unfold darkened
  split
  case isTrue h => exact h
  case isFalse => exact setMode_mode _ (by decide)

theorem enterSentinel_steady_darkened (s : State) : Steady [] false true (darkened s) s.enterSentinel :=
  ((Steady.refl [] false true (darkened s)).wr DEVICE.MODE_STAT_LOADING 0 0 (by decide)).slotsOff

/-- But for MODE_STAT, SENTINEL is entered as the domains go off and PSU_EN low. -/
theorem enterSentinel_steady (s : State) : Steady [place DEVICE.MODE_STAT_PREV 0, place DEVICE.MODE_STAT_MODE 0] false false
    (s.updMode unlit) s.enterSentinel := by
  have hdark := (domainsDark_steady true s).weaken (Y := [place DEVICE.MODE_STAT_PREV 0, place DEVICE.MODE_STAT_MODE 0])
    (by simp)
  have hlate := (enterSentinel_steady_darkened s).weaken (Y := [place DEVICE.MODE_STAT_PREV 0, place DEVICE.MODE_STAT_MODE 0])
    (by simp)
  exact (hdark.loosen.trans (darkened_steady s).loosen).trans hlate.loosen

theorem enterSentinel_mode (s : State) : s.enterSentinel.mode = 1 :=
  (enterSentinel_steady_darkened s).mode.trans (darkened_mode s)

theorem enterSentinel_off (s : State) (d : Nat) (hd : 1 ≤ d) (hd' : d ≤ 7) : s.enterSentinel.pdOn d = false := by
  rw [pdOn_congr ((enterSentinel_steady_darkened s).pd rfl), pdOn_congr ((darkened_steady s).pd rfl), domainsDark_off s d hd hd']

theorem enterSentinel_prev (s : State) (h : s.mode ≠ 1) : s.enterSentinel.rd DEVICE.MODE_STAT_PREV = s.mode % 8 := by
  have hmode : s.domainsDark.mode = s.mode := (domainsDark_steady true s).mode
  rw [(enterSentinel_steady_darkened s).fields _ (by simp [startFields]) List.not_mem_nil, darkened,
    if_neg (by rwa [hmode]), setMode_prev, hmode]

/-! ### Step 5 -/

/-- The mode unit as step 5 begins, with its exit delay. -/
def atStepFive (delay : Nat) (m : ModeUnit) : ModeUnit :=
  { m with exitDly := delay, dom := [], copying := false, copies := 0, halted := false, lastSector := none, boot := none,
           autoDone := false }

theorem waitStart_steady (q l : Bool) (s : State) (delay : Nat) :
    Steady [place DEVICE.START_STAT_NO_KEY 0, place DEVICE.START_STAT_STEP 0] q l
      ((s.updMode (atStepFive delay)).stop tDomain) (s.waitStart delay) :=
  ((Steady.refl _ q l ((s.updMode (atStepFive delay)).stop tDomain)).wrBut DEVICE.START_STAT_UNCOMMISSIONED
    (bit (s.role = 3)) (by decide)).wrBut DEVICE.START_STAT_NO_KEY (bit s.gcm.root.isNone) (by decide)
    |>.wrBut DEVICE.START_STAT_STEP 5 (by decide)

theorem waitStart_step (s : State) (delay : Nat) : (s.waitStart delay).step_ = 5 := rdn_wrn_same _ 0 DEVICE.START_STAT_STEP 5 0

theorem waitStart_noKey (s : State) (delay : Nat) : (s.waitStart delay).rd DEVICE.START_STAT_NO_KEY = bit s.gcm.root.isNone := by
  refine (rdn_wrn_elsewhere _ 5 0 0 (by decide)).trans ((rdn_wrn_same _ 0 DEVICE.START_STAT_NO_KEY _ 0).trans ?_)
  cases s.gcm.root.isNone <;> rfl

/-! A change of the mode unit leaves the rest. -/

theorem rd_updMode (s : State) (f : ModeUnit → ModeUnit) (g : Fld) : (s.updMode f).rd g = s.rd g := rfl
theorem modeU_updMode (s : State) (f : ModeUnit → ModeUnit) : (s.updMode f).modeU = f s.modeU := rfl
theorem pd_updMode (s : State) (f : ModeUnit → ModeUnit) : (s.updMode f).pd = s.pd := rfl
theorem root_updMode (s : State) (f : ModeUnit → ModeUnit) : (s.updMode f).gcm.root = s.gcm.root := rfl
theorem okAt_updMode (s : State) (f : ModeUnit → ModeUnit) : (s.updMode f).brk.okAt = s.brk.okAt := rfl
theorem enabled_updMode (s : State) (f : ModeUnit → ModeUnit) (pg : Nat) : (s.updMode f).enabled pg = s.enabled pg := rfl
theorem event_updMode (s : State) (f : ModeUnit → ModeUnit) (pg b : Nat) : event (s.updMode f) pg b = event s pg b := rfl
theorem todo_updMode (s : State) (f : ModeUnit → ModeUnit) : (s.updMode f).flt.todo = s.flt.todo := rfl

/-- Of the fields of the start, step 5 writes STEP and NO_KEY alone. -/
theorem waitStart_rd (s : State) (delay : Nat) (g : Fld) (hg : g ∈ startFields)
    (hbut : place g 0 ∉ [place DEVICE.START_STAT_NO_KEY 0, place DEVICE.START_STAT_STEP 0]) :
    (s.waitStart delay).rd g = s.rd g := (waitStart_steady true true s delay).fields g hg hbut

theorem waitStart_modeU (s : State) (delay : Nat) : (s.waitStart delay).modeU = atStepFive delay s.modeU := rfl

theorem waitStart_root (s : State) (delay : Nat) : (s.waitStart delay).gcm.root = s.gcm.root := rfl

theorem waitStart_okAt (s : State) (delay : Nat) : (s.waitStart delay).brk.okAt = s.brk.okAt := rfl

theorem waitStart_enabled (s : State) (delay pg : Nat) (hpg : pageDomain pg = 0) (h : s.enabled pg = true) :
    (s.waitStart delay).enabled pg = true := (waitStart_steady true true s delay).enabled pg hpg h

theorem waitStart_event (s : State) (delay pg b : Nat) (hpg : pageDomain pg = 0) (hb : b < 32) (h : event s pg b = true) :
    event (s.waitStart delay) pg b = true := (waitStart_steady true true s delay).events pg b hpg hb h

theorem waitStart_pd (s : State) (delay : Nat) : (s.waitStart delay).pd = s.pd := rfl

theorem waitStart_todo (s : State) (delay : Nat) : (s.waitStart delay).flt.todo = s.flt.todo := rfl

/-! ### Warm reset (R452) -/

/-- The mode unit as a warm reset leaves it, before step 5. -/
def restarted (m : ModeUnit) : ModeUnit := { m with auto := true, saving := false }

theorem restarted_saving (m : ModeUnit) (b : Bool) : restarted { m with saving := b } = restarted m := rfl

/-- The fields that a warm reset returns to reset. -/
def warmFields : List Fld :=
  [DEVICE.MODE_STAT_PREV, DEVICE.MODE_STAT_LOADING, DEVICE.MODE_STAT_PENDING, DEVICE.START_STAT_NO_IMAGE,
    DEVICE.START_STAT_IMAGE_FROM_B, DEVICE.START_STAT_IMAGE_OK]

/-- SENTINEL, those fields at reset. -/
def warmCleared (s : State) : State :=
  (s.endReq.enterSentinel.wr DEVICE.MODE_STAT_REFUSE_CAUSE 0).clrFields 0 warmFields

/-- SENTINEL with the cause of the reset. -/
def warmed (s : State) (debug : Bool) : State :=
  ((warmCleared s).wr DEVICE.RESET_CAUSE_WARM 1).wr DEVICE.RESET_CAUSE_DEBUG
    (bit (debug || (warmCleared s).flag DEVICE.RESET_CAUSE_DEBUG))

theorem warmReset_eq (s : State) (debug : Bool) :
    s.warmReset debug = ((warmed s debug).updMode restarted).waitStart (ms 1) := by
  unfold State.warmReset warmed warmCleared
  generalize s.endReq.enterSentinel = u
  rfl

/-- What a warm reset writes of the fields of the start. -/
def warmPlaces : List Nat :=
  [place DEVICE.MODE_STAT_REFUSE_CAUSE 0, place DEVICE.MODE_STAT_PREV 0, place DEVICE.RESET_CAUSE_WARM 0,
    place DEVICE.RESET_CAUSE_DEBUG 0]

theorem warmed_steady (s : State) (debug : Bool) : Steady warmPlaces false true s.endReq.enterSentinel (warmed s debug) :=
  ((((Steady.refl warmPlaces false true s.endReq.enterSentinel).wrBut DEVICE.MODE_STAT_REFUSE_CAUSE 0 (by decide)).clrFields 0
    warmFields (by decide)).wrBut DEVICE.RESET_CAUSE_WARM 1 (by decide)).wrBut DEVICE.RESET_CAUSE_DEBUG _ (by decide)

theorem warmed_refuseCause (s : State) (debug : Bool) : (warmed s debug).rd DEVICE.MODE_STAT_REFUSE_CAUSE = 0 := by
  have hlater : Steady [place DEVICE.MODE_STAT_PREV 0, place DEVICE.RESET_CAUSE_WARM 0, place DEVICE.RESET_CAUSE_DEBUG 0] true true
      (s.endReq.enterSentinel.wr DEVICE.MODE_STAT_REFUSE_CAUSE 0) (warmed s debug) :=
    (((Steady.refl _ true true _).clrFields 0 warmFields (by decide)).wrBut DEVICE.RESET_CAUSE_WARM 1 (by decide)).wrBut
      DEVICE.RESET_CAUSE_DEBUG _ (by decide)
  rw [hlater.fields _ (by simp [startFields]) (by decide)]
  exact rdn_wrn_same _ 0 DEVICE.MODE_STAT_REFUSE_CAUSE 0 0

theorem warmed_cause (s : State) (debug : Bool) : (warmed s debug).rd DEVICE.RESET_CAUSE_WARM = 1 :=
  (rdn_wrn_elsewhere _ _ 0 0 (by decide)).trans (rdn_wrn_same _ 0 DEVICE.RESET_CAUSE_WARM 1 0)

theorem warmed_debug (s : State) : (warmed s true).rd DEVICE.RESET_CAUSE_DEBUG = 1 :=
  rdn_wrn_same _ 0 DEVICE.RESET_CAUSE_DEBUG 1 0

/-- The fields that a warm reset sets before step 5 stand at it. -/
theorem warmReset_rd (s : State) (debug : Bool) (g : Fld) (hg : g ∈ startFields)
    (hbut : place g 0 ∉ [place DEVICE.START_STAT_NO_KEY 0, place DEVICE.START_STAT_STEP 0]) :
    (s.warmReset debug).rd g = (warmed s debug).rd g := by
  rw [warmReset_eq, waitStart_rd _ _ g hg hbut, rd_updMode]

theorem warmReset_mode (s : State) (debug : Bool) : (s.warmReset debug).mode = 1 := by
  rw [State.mode, warmReset_rd s debug _ (by simp [startFields]) (by decide),
    (warmed_steady s debug).fields _ (by simp [startFields]) (by decide)]
  exact enterSentinel_mode _

theorem warmReset_modeU (s : State) (debug : Bool) :
    (s.warmReset debug).modeU = atStepFive (ms 1) (restarted (unlit s.endReq.modeU)) := by
  rw [warmReset_eq, waitStart_modeU, modeU_updMode, (warmed_steady s debug).modeU, restarted_saving,
    (enterSentinel_steady s.endReq).modeU, restarted_saving, modeU_updMode]

theorem warmReset_off (s : State) (debug : Bool) (d : Nat) (hd : 1 ≤ d) (hd' : d ≤ 7) :
    (s.warmReset debug).pdOn d = false := by
  have hpd : (s.warmReset debug).pd = s.endReq.enterSentinel.pd := by
    rw [warmReset_eq, waitStart_pd, pd_updMode]
    exact (warmed_steady s debug).pd rfl
  rw [pdOn_congr hpd, enterSentinel_off _ d hd hd']

/-- Nothing reported before a warm reset, nothing after. -/
theorem warmReset_todo (s : State) (debug : Bool) : (s.warmReset debug).flt.todo = s.flt.todo := by
  rw [warmReset_eq, waitStart_todo, todo_updMode, (warmed_steady s debug).todo, (enterSentinel_steady s.endReq).todo,
    todo_updMode]
  rfl

/-- What stands after a warm reset, whatever the budget has shown since. -/
theorem warmReset_leaves {s t : State} {debug : Bool} (h : Steady [] false true (s.warmReset debug) t) :
    t.mode = 1 ∧ t.step_ = 5 ∧ t.rd DEVICE.RESET_CAUSE_WARM = 1 ∧ (debug = true → t.rd DEVICE.RESET_CAUSE_DEBUG = 1) ∧
      (t.modeU.want = none ∧ t.modeU.auto = true ∧ t.modeU.exitDly = ms 1) ∧ t.rd DEVICE.MODE_STAT_REFUSE_CAUSE = 0 ∧
      ∀ d, 1 ≤ d → d ≤ 7 → t.pdOn d = false := by
  have hrd : ∀ g ∈ startFields, place g 0 ∉ [place DEVICE.START_STAT_NO_KEY 0, place DEVICE.START_STAT_STEP 0] →
      t.rd g = (warmed s debug).rd g := fun g hg hbut =>
    (h.fields g hg List.not_mem_nil).trans (warmReset_rd s debug g hg hbut)
  refine ⟨h.mode.trans (warmReset_mode s debug), ?_, ?_, ?_, ?_, ?_, fun d hd hd' => ?_⟩
  · rw [h.step_, warmReset_eq, waitStart_step]
  · rw [hrd _ (by simp [startFields]) (by decide), warmed_cause]
  · rintro rfl
    rw [hrd _ (by simp [startFields]) (by decide), warmed_debug]
  · rw [h.modeU, warmReset_modeU]
    exact ⟨rfl, rfl, rfl⟩
  · rw [hrd _ (by simp [startFields]) (by decide), warmed_refuseCause]
  · rw [pdOn_congr (h.pd rfl), warmReset_off s debug d hd hd']

/-- RESET_N (R452): the reset, and the budget if it must. -/
theorem exec_warmReset_pin (s : State) (hmode : s.mode ≠ 0) (hstep : 5 ≤ s.step_) :
    exec (.warmReset none 0) s = .next (s.warmReset false).modeDone := by
  have hexec : exec (.warmReset none 0) s =
      .next (if s.mode = 0 || decide (s.step_ < 5) then s else (s.warmReset false).modeDone) := rfl
  rw [hexec, if_neg (by simp [hmode, hstep])]

/-- A permitted write of RESET_CTRL from step 5 on comes down to RESET_CTRL (R452). -/
theorem exec_warmReset_key (s : State) (p : Port) (k : Nat) (hstep : 5 ≤ s.step_) (hperm : Permitted s p 0 0x54 k) :
    exec (.warmReset (some p) k) s = .next (((s.heard p).resetCtrl p k).emit (done p)).modeDone := by
  have hexec : exec (.warmReset (some p) k) s =
      .next ((s.access p 0 0x54 k (fun s => if s.step_ < 5 then s else s.resetCtrl p k)).modeDone) := rfl
  have hheard : ¬ (s.heard p).step_ < 5 := by
    rw [State.step_, State.rd, heard_rdn]
    exact Nat.not_lt.mpr hstep
  rw [hexec, access_permitted s p 0 0x54 k _ hperm, if_neg hheard]

/-- The end of a warm reset keeps what it leaves. -/
theorem warmReset_done {s t : State} {debug : Bool} (htodo : s.flt.todo = [])
    (h : ∀ {Y}, Steady Y false true (s.warmReset debug) t) : Steady [] false true (s.warmReset debug) t.modeDone :=
  h.modeDone (by rw [(h (Y := [])).mode, warmReset_mode]; decide) ((h (Y := [])).todo.trans ((warmReset_todo s debug).trans htodo))

theorem warmReset_pin (s : State) (htodo : s.flt.todo = []) :
    Steady [] false true (s.warmReset false) (s.warmReset false).modeDone := warmReset_done htodo (Steady.refl _ _ _ _)

theorem warmReset_key (s : State) (p : Port) (htodo : s.flt.todo = []) :
    Steady [] false true ((s.heard p).warmReset (p = .debug))
      ((((s.heard p).resetCtrl p 0x5741524D).emit (done p)).modeDone) := by
  have htodo' : (s.heard p).flt.todo = [] := by
    obtain ⟨ts, h⟩ := heard_frame s p
    rw [h]
    exact htodo
  rw [State.resetCtrl, if_pos rfl]
  exact warmReset_done htodo' ((Steady.refl _ _ _ _).emit _)

/-- Another word in RESET_CTRL does nothing. -/
theorem warmReset_otherKey (s : State) (p : Port) (k : Nat) (hk : k ≠ 0x5741524D) (hset : Settled s) :
    (((s.heard p).resetCtrl p k).emit (done p)).modeDone = { s.heard p with sent := s.sent ++ [done p] } := by
  have hheard : Settled ((s.heard p).emit (done p)) := heard_settled s p hset
  rw [State.resetCtrl, if_neg hk, modeDone_settled _ hheard, State.emit, heard_sent]

end Sys2Proof.Proofs
end

section
/-! PROOFS. Power-up reset, the loss of VDEM, TRST, and the start sequence up to step 6: OTP, the root key, the start
conditions (R13, R446, R447, R450-R453, R464, R466). -/

namespace Sys2Proof.Proofs

open Sys2Proof.Machine Sys2Proof.Safety Sys2Proof.Laws

/-! ### OTP_LOAD (R464) -/

/-- Only fields of the blocks themselves, past the pages' headers, have changed. -/
def BlockOnly (s t : State) : Prop :=
  (∃ rs, t = { s with regs := rs }) ∧ ∀ n f i, f.off < 0x40 ∧ f.lo < 64 → t.rdn n f i = s.rdn n f i

theorem blockOnly_refl (s : State) : BlockOnly s s := ⟨⟨s.regs, rfl⟩, fun _ _ _ _ => rfl⟩

theorem blockOnly_wrn {s t : State} (h : BlockOnly s t) (n : Nat) (f : Fld) (v i : Nat)
    (hf : 0x40 ≤ f.off ∧ f.off < 4096 ∧ f.lo < 64) : BlockOnly s (t.wrn n f v i) := by
  obtain ⟨⟨rs, rfl⟩, hhdr⟩ := h
  refine ⟨⟨_, rfl⟩, fun m g j hg => Eq.trans ?_ (hhdr m g j hg)⟩
  exact rdn_wrn_elsewhere _ v i j (place_ne_of_off n m ⟨hf.2.1, hf.2.2⟩ (by omega) (by omega))

theorem blockOnly_putAll {s : State} (n v i : Nat) (fs : List Fld)
    (hfs : ∀ f ∈ fs, 0x40 ≤ f.off ∧ f.off < 4096 ∧ f.lo < 64) :
    ∀ {t : State}, BlockOnly s t → BlockOnly s (t.putAll n v i fs) := by
  induction fs with
  | nil => exact fun h => h
  | cons f fs ih =>
    intro t h
    refine ih (fun g hg => hfs g (List.mem_cons_of_mem f hg)) (t := t.put n v i f) ?_
    unfold State.put
    split
    · exact blockOnly_wrn h n f _ i (hfs f List.mem_cons_self)
    · exact h

/-- A page with the masks of the selected generation, unless it is locked. -/
def masked (s : State) (pg : Nat) : State :=
  if s.locked pg then s
  else (s.wrn pg HDR.BLK_ACCESS_RD_MASK (s.maskBits (12 * blockType pg)) pg).wrn pg HDR.BLK_ACCESS_WR_MASK
    (s.maskBits (12 * blockType pg + 6)) pg

theorem otpPage_masked (s : State) (pg : Nat) (hsel : s.otp.sel ≠ none) : BlockOnly (masked s pg) (s.otpPage pg) := by
  have hmasked := blockOnly_refl (masked s pg)
  unfold State.otpPage
  rw [if_neg hsel]
  unfold masked at hmasked ⊢
  dsimp only
  generalize (if s.locked pg then s
    else (s.wrn pg HDR.BLK_ACCESS_RD_MASK (s.maskBits (12 * blockType pg)) pg).wrn pg HDR.BLK_ACCESS_WR_MASK
      (s.maskBits (12 * blockType pg + 6)) pg) = u at hmasked ⊢
  split_ifs
  · exact blockOnly_putAll _ _ _ _ (by decide) hmasked
  · exact blockOnly_wrn (blockOnly_wrn (blockOnly_wrn hmasked _ _ _ _ (by decide)) _ _ _ _ (by decide)) _ _ _ _ (by decide)
  · exact blockOnly_wrn hmasked _ _ _ _ (by decide)
  · exact blockOnly_putAll _ _ _ _ (by decide) hmasked
  · exact blockOnly_wrn hmasked _ _ _ _ (by decide)
  · exact hmasked

theorem masked_frame (s : State) (pg : Nat) : ∃ rs, masked s pg = { s with regs := rs } := by
  have hwrn : ∀ {t : State} n f v i, (∃ rs, t = { s with regs := rs }) → ∃ rs, t.wrn n f v i = { s with regs := rs } := by
    rintro _ n f v i ⟨rs, rfl⟩
    exact ⟨_, rfl⟩
  unfold masked
  split
  · exact ⟨s.regs, rfl⟩
  · exact hwrn _ _ _ _ (hwrn _ _ _ _ ⟨s.regs, rfl⟩)

/-- The OTP values of a page are register fields. -/
theorem otpPage_frame (s : State) (pg : Nat) : ∃ rs, s.otpPage pg = { s with regs := rs } := by
  by_cases hsel : s.otp.sel = none
  · exact ⟨s.regs, if_pos hsel⟩
  · obtain ⟨⟨rs, h⟩, -⟩ := otpPage_masked s pg hsel
    obtain ⟨rs', h'⟩ := masked_frame s pg
    rw [h, h']
    exact ⟨rs, rfl⟩

/-- They leave every field of a header but the page's masks. -/
theorem otpPage_rdn_other (s : State) (pg n : Nat) (f : Fld) (i : Nat) (hsel : s.otp.sel ≠ none)
    (hf : f.off < 0x40 ∧ f.lo < 64) (hpage : f.page = 0) (hne : n ≠ pg ∨ f.off ≠ 0xC) :
    (s.otpPage pg).rdn n f i = s.rdn n f i := by
  rw [(otpPage_masked s pg hsel).2 n f i hf]
  unfold masked
  split
  · rfl
  · have hplace : ∀ g : Fld, g.page = 0 ∧ g.off = 0xC ∧ g.lo < 64 → place f n ≠ place g pg := fun g hg => by
      unfold place
      omega
    rw [rdn_wrn_elsewhere _ _ _ _ (hplace _ (by decide)), rdn_wrn_elsewhere _ _ _ _ (hplace _ (by decide))]

theorem maskBits_lt (s : State) (i : Nat) : s.maskBits i < 64 := Nat.mod_lt _ (by decide)

/-- Page `pg` has the access masks of the selected generation. -/
def Masks (s : State) (pg : Nat) : Prop :=
  s.rdn pg HDR.BLK_ACCESS_RD_MASK pg = s.maskBits (12 * blockType pg) ∧
    s.rdn pg HDR.BLK_ACCESS_WR_MASK pg = s.maskBits (12 * blockType pg + 6)

theorem masks_otpPage (s : State) (pg : Nat) (hsel : s.otp.sel ≠ none) (hlock : s.locked pg = false) :
    Masks (s.otpPage pg) pg := by
  have hbits : ∀ i, (s.otpPage pg).maskBits i = s.maskBits i := fun i => by
    obtain ⟨rs, h⟩ := otpPage_frame s pg
    rw [h]
    rfl
  have hread := fun f hf => (otpPage_masked s pg hsel).2 pg f pg hf
  unfold Masks
  rw [hbits, hbits, hread _ (by decide), hread _ (by decide), masked, hlock, if_neg Bool.false_ne_true, rdn_wrn_same,
    rdn_wrn_elsewhere _ _ _ _ (by simp [place, HDR.BLK_ACCESS_RD_MASK, HDR.BLK_ACCESS_WR_MASK]), rdn_wrn_same]
  exact ⟨Nat.mod_eq_of_lt (maskBits_lt s _), Nat.mod_eq_of_lt (maskBits_lt s _)⟩

theorem masks_otpPage_other (s : State) (pg n : Nat) (hsel : s.otp.sel ≠ none) (hn : n ≠ pg) (h : Masks s n) :
    Masks (s.otpPage pg) n := by
  have hbits : ∀ i, (s.otpPage pg).maskBits i = s.maskBits i := fun i => by
    obtain ⟨rs, h⟩ := otpPage_frame s pg
    rw [h]
    rfl
  unfold Masks
  rwa [hbits, hbits, otpPage_rdn_other s pg n _ n hsel (by decide) rfl (.inl hn),
    otpPage_rdn_other s pg n _ n hsel (by decide) rfl (.inl hn)]

/-- A list of pages takes its OTP values: registers alone, and each page that is not locked has its masks. -/
theorem foldl_otpPage (pgs : List Nat) : ∀ s : State, s.otp.sel ≠ none →
    (∃ rs, pgs.foldl State.otpPage s = { s with regs := rs }) ∧
      ∀ pg, s.locked pg = false → pg ∈ pgs ∨ Masks s pg → Masks (pgs.foldl State.otpPage s) pg := by
  induction pgs with
  | nil => exact fun s _ => ⟨⟨s.regs, rfl⟩, fun pg _ h => h.resolve_left List.not_mem_nil⟩
  | cons a pgs ih =>
    intro s hsel
    have hlocked : ∀ pg, (s.otpPage a).locked pg = s.locked pg := fun pg => by
      rw [State.locked, otpPage_rdn_other s a pg _ 0 hsel (by decide) rfl (.inr (by decide))]
      rfl
    have hmasks : ∀ pg, s.locked pg = false → pg = a ∨ Masks s pg → Masks (s.otpPage a) pg := fun pg hlock h => by
      by_cases hpg : pg = a
      · rw [hpg] at hlock ⊢
        exact masks_otpPage s a hsel hlock
      · exact masks_otpPage_other s a pg hsel hpg (h.resolve_left hpg)
    obtain ⟨rs, hframe⟩ := otpPage_frame s a
    obtain ⟨⟨rs', hframe'⟩, hrest⟩ := ih (s.otpPage a) (by rwa [hframe])
    refine ⟨⟨rs', by rw [List.foldl_cons, hframe', hframe]⟩, fun pg hlock h => ?_⟩
    refine hrest pg (by rwa [hlocked]) ?_
    rcases h with h | h
    · rcases List.mem_cons.mp h with h | h
      · exact .inr (hmasks pg hlock (.inl h))
      · exact .inl h
    · exact .inr (hmasks pg hlock (.inr h))

/-- OTP_LOAD acts at step 1 in SENTINEL (R453). -/
theorem exec_otpLoad (s : State) (hmode : s.mode = 1) (hstep : s.step_ = 1) : exec .otpLoad s = .next s.otpLoad := by
  have hexec : exec .otpLoad s = .next (if s.mode = 1 && s.step_ = 1 then s.otpLoad else s) := rfl
  rw [hexec, hmode, hstep]
  rfl

/-- Step 2 begins with the generation selected. -/
def selected (s : State) : State := { s with otp := { s.otp with sel := s.otp.select } }.toStep 2

theorem selected_step (s : State) : (selected s).step_ = 2 := rdn_wrn_same _ 0 DEVICE.START_STAT_STEP 2 0

theorem selected_locked (s : State) (pg : Nat) : (selected s).locked pg = s.locked pg :=
  congrArg (fun v => decide (v = 1)) (rdn_wrn_elsewhere { s with otp := { s.otp with sel := s.otp.select } } 2 0 0
    (place_ne_of_off 0 pg (by decide) (by decide) (by decide)))

theorem otpLoad_none (s : State) (h : s.otp.select = none) : s.otpLoad = (selected s).wr OTP.OTP_STAT_NONE 1 := by
  unfold State.otpLoad
  rw [if_pos h]
  rfl

theorem otpLoad_some (s : State) (h : s.otp.select ≠ none) :
    s.otpLoad = ([0, 1, 2, 3, 4, 0x5A, 0x4C, 0x4D].foldl State.otpPage (selected s)).wr DEVICE.START_STAT_UNCOMMISSIONED
      (bit ((selected s).role = 3)) := by
  unfold State.otpLoad
  rw [if_neg h]
  rfl

/-- What OTP_LOAD leaves. -/
theorem otpLoad_leaves (s : State) :
    s.otpLoad.otp = { s.otp with sel := s.otp.select } ∧ s.otpLoad.step_ = 2 ∧
      (s.otp.select = none → s.otpLoad.rd OTP.OTP_STAT_NONE = 1) ∧
      (s.otp.select ≠ none → ∀ pg ∈ [0, 1, 2, 3, 4, 0x5A, 0x4C, 0x4D], s.locked pg = false → Masks s.otpLoad pg) ∧
      s.otpLoad = { s with otp := s.otpLoad.otp, regs := s.otpLoad.regs } := by
  by_cases hsel : s.otp.select = none
  · rw [otpLoad_none s hsel]
    refine ⟨rfl, ?_, fun _ => rdn_wrn_same _ 0 OTP.OTP_STAT_NONE 1 0, fun h => absurd hsel h, rfl⟩
    rw [((Steady.refl [] true true (selected s)).wr OTP.OTP_STAT_NONE 1 0 (by decide)).step_, selected_step]
  · rw [otpLoad_some s hsel]
    have hstep := ((Steady.refl [] true true (selected s)).foldl fun pg _ _ hu => hu.otpPage pg).step_ (t :=
      [0, 1, 2, 3, 4, 0x5A, 0x4C, 0x4D].foldl State.otpPage (selected s))
    obtain ⟨⟨rs, hframe⟩, hmasks⟩ := foldl_otpPage [0, 1, 2, 3, 4, 0x5A, 0x4C, 0x4D] (selected s) hsel
    rw [hframe] at hstep hmasks ⊢
    refine ⟨rfl, ?_, fun h => absurd h hsel, fun _ pg hpg hlock => ?_, rfl⟩
    · rw [((Steady.refl [] true true _).wr DEVICE.START_STAT_UNCOMMISSIONED _ 0 (by decide)).step_, hstep, selected_step]
    · obtain ⟨hrd, hwr⟩ := hmasks pg (by rwa [selected_locked]) (.inl hpg)
      unfold Masks
      rw [State.wr, rdn_wrn_elsewhere _ _ _ _ (place_ne_of_off 0 pg (by decide) (by decide) (by decide)),
        rdn_wrn_elsewhere _ _ _ _ (place_ne_of_off 0 pg (by decide) (by decide) (by decide))]
      exact ⟨hrd, hwr⟩

/-! ### Power-up reset, the loss of VDEM, TRST (R13, R446, R447, R452) -/

theorem setMode_parts (s : State) (m : Nat) : (s.setMode m).otp = s.otp ∧ (s.setMode m).flash = s.flash ∧
    (s.setMode m).pd = s.pd ∧ (s.setMode m).timers = s.timers := by
  obtain ⟨f, hset, -⟩ := setMode_frame s m
  obtain ⟨_, _, hraise⟩ := raise_frame ((s.wr DEVICE.MODE_STAT_PREV s.mode).wr DEVICE.MODE_STAT_MODE m) 0 0
  rw [hset, hraise]
  exact ⟨rfl, rfl, rfl, rfl⟩

/-- The hub as VDEM comes back, TWIN_ID sampled. -/
def sampled (s : State) (index : Nat) : State :=
  { s.unpowered with otp := { s.unpowered.otp with index := index % 2 } }.wr DEVICE.MODE_STAT_MODE 0

/-- A list of blocks is enabled. -/
def enableAll (s : State) (pgs : List Nat) : State := pgs.foldl (fun t pg => t.wrn pg HDR.BLK_CTRL_ENABLE 1) s

theorem enableAll_frame (pgs : List Nat) : ∀ s : State, ∃ rs, enableAll s pgs = { s with regs := rs } := by
  induction pgs with
  | nil => exact fun s => ⟨s.regs, rfl⟩
  | cons a pgs ih =>
    intro s
    obtain ⟨rs, h⟩ := ih (s.wrn a HDR.BLK_CTRL_ENABLE 1)
    exact ⟨rs, h⟩

theorem enableAll_steady {X : List Nat} {q l : Bool} {s t : State} (h : Steady X q l s t) (pgs : List Nat) :
    Steady X q l s (enableAll t pgs) := h.foldl fun pg _ _ hu => hu.enable pg

theorem enableAll_enabled (pgs : List Nat) : ∀ (s : State) (pg : Nat), pageDomain pg = 0 → pg ∈ pgs ∨ s.enabled pg = true →
    (enableAll s pgs).enabled pg = true := by
  induction pgs with
  | nil => exact fun s pg _ h => h.resolve_left List.not_mem_nil
  | cons a pgs ih =>
    intro s pg hpg h
    refine ih _ pg hpg ?_
    rcases h with h | h
    · rcases List.mem_cons.mp h with rfl | h
      · refine .inr ?_
        rw [State.enabled, rdn_wrn_same]
        rfl
      · exact .inl h
    · exact .inr (((Steady.refl [] true true s).enable a).enabled pg hpg h)

theorem powerUp_eq (s : State) (index : Nat) :
    s.powerUp index = enableAll (((sampled s index).setMode 1).toStep 1) [0, 1, 2, 3, 4, 0x5A] := rfl

theorem powerUp_steady (s : State) (index : Nat) : Steady [place DEVICE.START_STAT_STEP 0] true true ((sampled s index).setMode 1)
    (s.powerUp index) := by
  rw [powerUp_eq]
  exact enableAll_steady ((Steady.refl _ true true _).wrBut DEVICE.START_STAT_STEP 1 (by decide)) _

theorem powerUp_step (s : State) (index : Nat) : (s.powerUp index).step_ = 1 := by
  rw [powerUp_eq, (enableAll_steady (Steady.refl [] true true _) _).step_]
  exact rdn_wrn_same _ 0 DEVICE.START_STAT_STEP 1 0

theorem powerUp_parts (s : State) (index : Nat) : (s.powerUp index).otp = (sampled s index).otp ∧
    (s.powerUp index).flash = (sampled s index).flash ∧ (s.powerUp index).pd = (sampled s index).pd ∧
    (s.powerUp index).timers = (sampled s index).timers := by
  obtain ⟨hotp, hflash, hpd, htimers⟩ := setMode_parts (sampled s index) 1
  rw [powerUp_eq]
  generalize (sampled s index).setMode 1 = t at hotp hflash hpd htimers ⊢
  obtain ⟨rs, h⟩ := enableAll_frame [0, 1, 2, 3, 4, 0x5A] (t.toStep 1)
  rw [h]
  exact ⟨hotp, hflash, hpd, htimers⟩

/-- Power-up reset acts in BYPASS and before step 1 (R13, R453). -/
theorem exec_powerUpReset (s : State) (index : Nat) (h : s.mode = 0 ∨ s.mode = 1 ∧ s.step_ = 0) :
    exec (.powerUpReset index) s = .next (s.powerUp index) := by
  have hexec : exec (.powerUpReset index) s =
      .next (if s.mode = 0 || (s.mode = 1 && s.step_ = 0) then s.powerUp index else s) := rfl
  rw [hexec, if_pos (by simpa using h)]

theorem powerUp_leaves (s : State) (index : Nat) :
    (s.powerUp index).mode = 1 ∧ (s.powerUp index).step_ = 1 ∧ (s.powerUp index).pd = [0] ∧
      (s.powerUp index).otp.index = index % 2 ∧ (s.powerUp index).otp.sel = none ∧
      (s.powerUp index).otp.words = s.otp.words ∧ (s.powerUp index).flash.mem = s.flash.mem ∧ (s.powerUp index).timers = [] ∧
      (s.powerUp index).rd DEVICE.RESET_CAUSE_POWER_UP = 1 ∧
      (∀ pg, pg < 5 ∨ pg = 0x5A → (s.powerUp index).enabled pg = true) ∧ event (s.powerUp index) 0 0 = true := by
  have hsteady := powerUp_steady s index
  obtain ⟨hotp, hflash, hpd, htimers⟩ := powerUp_parts s index
  refine ⟨hsteady.mode.trans (setMode_mode _ (by decide)), powerUp_step s index, hpd, by rw [hotp]; rfl, by rw [hotp]; rfl,
    by rw [hotp]; rfl, by rw [hflash]; rfl, htimers, ?_, fun pg hpg => ?_, ?_⟩
  · rw [hsteady.fields _ (by simp [startFields]) (by decide), (setMode_steady true true _ 1).fields _ (by simp [startFields])
      (by decide)]
    exact (rdn_wrn_elsewhere _ 0 0 0 (by decide)).trans rfl
  · rw [powerUp_eq]
    refine enableAll_enabled _ _ pg ?_ (.inl ?_)
    · rcases hpg with hpg | rfl
      · exact if_pos hpg
      · rfl
    · simp
      omega
  · exact hsteady.events 0 0 rfl (by decide) (setMode_event _ 1)

/-- BYPASS after the loss of VDEM. -/
theorem powerLost_mode (s : State) : s.powerLost.mode = 0 :=
  rdn_wrn_same { s.unpowered with pd := [] } 0 DEVICE.MODE_STAT_MODE 0 0

/-- What the debug port captured is dropped, and nothing else. -/
theorem trst_hold (s : State) (k : Nat) :
    Tbl.find (s.pageUnit.hold.filter (fun e => e.1 / 2 ^ 24 ≠ Port.code .debug)) k =
      if k / 2 ^ 24 = Port.code .debug then none else Tbl.find s.pageUnit.hold k := by
  rw [find_filter s.pageUnit.hold (fun k => decide (k / 2 ^ 24 ≠ Port.code .debug)) k]
  by_cases h : k / 2 ^ 24 = Port.code .debug
  · rw [if_neg (by simpa using h), if_pos h]
  · rw [if_pos (by simpa using h), if_neg h]

/-! ### ROOT_KEY_LOAD (R426, R453, R466) -/

/-- The key of a copy loaded, ROOT_STAT naming it. -/
def keyed (s : State) (copy : Nat) : State :=
  ({ s with gcm := { s.gcm with root := some (keyBytes (s.otp.key copy)) } }.wr KEYS.ROOT_STAT_PRESENT 1).wr
    KEYS.ROOT_STAT_COPY copy

/-- A difference of two good copies reported (R466). -/
def compared (s : State) : State :=
  if s.otp.keyGood 0 && s.otp.keyGood 1 && s.otp.key 0 ≠ s.otp.key 1 then s.report 0x19 2 else s

/-- The key of the first copy that passes loaded, if there is one. -/
def keyTaken (s : State) : State :=
  if !s.otp.keyThere then s else compared (keyed s (if s.otp.keyGood 0 then 0 else 1))

/-- The mode unit from which SENTINEL is left without being asked. -/
def leaving (m : ModeUnit) : ModeUnit := { m with auto := true }

/-- Step 4, before the wait of step 5. -/
def stepFour (s : State) : State := ((s.toStep 3).brkStart).wr DEVICE.START_STAT_NO_KEY (bit s.gcm.root.isNone)

theorem keyLoad_eq (s : State) (hstarted : s.otp.killStarted = false) :
    s.keyLoad = ((stepFour (keyTaken (s.wr KEYS.ROOT_STAT_KILLED (bit s.otp.killed)))).updMode leaving).waitStart (ms 1) := by
  have hkill : ¬ (s.otp.killStarted && !s.otp.killed) = true := by simp [hstarted]
  unfold State.keyLoad
  rw [if_neg hkill]
  dsimp only
  generalize s.wr KEYS.ROOT_STAT_KILLED (bit s.otp.killed) = u
  unfold stepFour keyTaken compared keyed
  rfl

/-- A difference of the two copies leaves no mark but the record that the collector will make (R466, R474). -/
theorem drain_keysDiffer (s : State) (h : s.flt.todo = [] ∨ ∃ d : Det, s.flt.todo = [d] ∧ d.page = 0x19 ∧ d.checker = 2) :
    ∃ f, s.drain = { s with flt := f } := by
  rcases h with h | ⟨d, h, hpage, hck⟩
  · exact ⟨s.flt, drain_settled s h⟩
  · refine ⟨{ s.flt with todo := [], det := s.flt.det ++ [{ d with corr := true }] }, ?_⟩
    unfold State.drain
    rw [h, List.foldl_cons, List.foldl_nil]
    unfold State.detect
    rw [hpage, hck]
    rfl

theorem stepFour_steady (s : State) :
    Steady [place DEVICE.START_STAT_NO_KEY 0, place DEVICE.START_STAT_STEP 0] false true s (stepFour s) :=
  (((Steady.refl _ false true s).wrBut DEVICE.START_STAT_STEP 3 (by decide)).brkStart).wrBut DEVICE.START_STAT_NO_KEY _ (by decide)

theorem stepFour_enabled (s : State) (pg : Nat) (hpg : pg = 0x4C ∨ pg = 0x4D) : (stepFour s).enabled pg = true := by
  have hrest := (Steady.brkStart_enabled [place DEVICE.START_STAT_NO_KEY 0] true (s.toStep 3)).wrBut DEVICE.START_STAT_NO_KEY
    (bit s.gcm.root.isNone) (by decide)
  refine hrest.enabled pg (by rcases hpg with rfl | rfl <;> rfl) ?_
  refine enableAll_enabled [0x4C, 0x4D] (s.toStep 3) pg (by rcases hpg with rfl | rfl <;> rfl) (.inl ?_)
  rcases hpg with rfl | rfl <;> decide

/-- SENTINEL at step 5 with the key that `s` has. -/
def keyDone (s : State) : State := ((stepFour s).updMode leaving).waitStart (ms 1)

theorem keyDone_todo (s : State) : (keyDone s).flt.todo = s.flt.todo := by
  rw [keyDone, waitStart_todo, todo_updMode, (stepFour_steady s).todo]

theorem keyDone_root (s : State) : (keyDone s).gcm.root = s.gcm.root := by
  rw [keyDone, waitStart_root, root_updMode, (stepFour_steady s).root]

theorem keyDone_rd (s : State) (g : Fld) (hg : g ∈ startFields)
    (hbut : place g 0 ∉ [place DEVICE.START_STAT_NO_KEY 0, place DEVICE.START_STAT_STEP 0]) : (keyDone s).rd g = s.rd g := by
  rw [keyDone, waitStart_rd _ _ g hg hbut, rd_updMode, (stepFour_steady s).fields g hg hbut]

theorem keyDone_noKey (s : State) : (keyDone s).rd DEVICE.START_STAT_NO_KEY = bit s.gcm.root.isNone := by
  rw [keyDone, waitStart_noKey, root_updMode, (stepFour_steady s).root]

theorem keyDone_enabled (s : State) (pg : Nat) (hpg : pg = 0x4C ∨ pg = 0x4D) : (keyDone s).enabled pg = true := by
  refine waitStart_enabled _ _ pg (by rcases hpg with rfl | rfl <;> rfl) ?_
  rw [enabled_updMode, stepFour_enabled s pg hpg]

/-- What stands at step 5, whatever the budget has shown since. -/
theorem keyDone_leaves (s : State) (hmode : s.mode = 1)
    (htodo : s.flt.todo = [] ∨ ∃ d : Det, s.flt.todo = [d] ∧ d.page = 0x19 ∧ d.checker = 2) :
    (keyDone s).modeDone.gcm.root = s.gcm.root ∧
      (keyDone s).modeDone.rd KEYS.ROOT_STAT_PRESENT = s.rd KEYS.ROOT_STAT_PRESENT ∧
      (keyDone s).modeDone.rd KEYS.ROOT_STAT_COPY = s.rd KEYS.ROOT_STAT_COPY ∧
      (keyDone s).modeDone.rd DEVICE.START_STAT_NO_KEY = bit s.gcm.root.isNone ∧ (keyDone s).modeDone.step_ = 5 ∧
      (keyDone s).modeDone.enabled 0x4C = true ∧ (keyDone s).modeDone.enabled 0x4D = true := by
  have hmode' : (keyDone s).mode = 1 := (keyDone_rd s _ (by simp [startFields]) (by decide)).trans hmode
  have hlow : (keyDone s).mode < 2 := by
    rw [hmode']
    decide
  have hwoken : Steady [] false true (keyDone s) (keyDone s).evalWoken :=
    ((Steady.refl [] false true (keyDone s)).evaluate hlow).ite (Steady.refl [] false true (keyDone s))
  have hstep : (keyDone s).step_ = 5 := waitStart_step _ _
  obtain ⟨f, hdrain⟩ := drain_keysDiffer (keyDone s).evalWoken (by rwa [hwoken.todo, keyDone_todo])
  rw [State.modeDone, hdrain]
  generalize (keyDone s).evalWoken = t at hwoken ⊢
  refine ⟨hwoken.root.trans (keyDone_root s), ?_, ?_, ?_, hwoken.step_.trans hstep, ?_, ?_⟩
  · exact (hwoken.fields _ (by simp [startFields]) List.not_mem_nil).trans (keyDone_rd s _ (by simp [startFields]) (by decide))
  · exact (hwoken.fields _ (by simp [startFields]) List.not_mem_nil).trans (keyDone_rd s _ (by simp [startFields]) (by decide))
  · exact (hwoken.fields _ (by simp [startFields]) List.not_mem_nil).trans (keyDone_noKey s)
  · exact hwoken.enabled _ rfl (keyDone_enabled s _ (.inl rfl))
  · exact hwoken.enabled _ rfl (keyDone_enabled s _ (.inr rfl))

/-- ROOT_KEY_LOAD acts at step 2 with a generation selected (R453, R466). -/
theorem exec_rootKeyLoad (s : State) (hmode : s.mode = 1) (hstep : s.step_ = 2) (hsel : s.otp.sel.isSome = true)
    (hstarted : s.otp.killStarted = false) :
    exec .rootKeyLoad s = .next (keyDone (keyTaken (s.wr KEYS.ROOT_STAT_KILLED (bit s.otp.killed)))).modeDone := by
  have hexec : exec .rootKeyLoad s =
      .next (if s.mode = 1 && s.step_ = 2 && s.otp.sel.isSome then s.keyLoad.modeDone else s) := rfl
  rw [hexec, if_pos (by simp [hmode, hstep, hsel]), keyLoad_eq s hstarted]
  rfl

/-- The key of copy 0 is taken when it passes; ROOT_STAT names it, and a copy 1 that passes and differs is reported. -/
theorem keyTaken_good (s : State) (hmode : s.mode = 1) (htodo : s.flt.todo = []) (hkilled : s.otp.killed = false)
    (hgood : s.otp.keyGood 0 = true) :
    (keyTaken s).gcm.root = some (keyBytes (s.otp.key 0)) ∧ (keyTaken s).rd KEYS.ROOT_STAT_PRESENT = 1 ∧
      (keyTaken s).rd KEYS.ROOT_STAT_COPY = 0 ∧ (keyTaken s).mode = 1 ∧
      ((keyTaken s).flt.todo = [] ∨ ∃ d : Det, (keyTaken s).flt.todo = [d] ∧ d.page = 0x19 ∧ d.checker = 2) := by
  have hthere : s.otp.keyThere = true := by rw [Otp.keyThere, hgood, hkilled]; rfl
  have hpresent : (keyed s 0).rd KEYS.ROOT_STAT_PRESENT = 1 :=
    (rdn_wrn_elsewhere _ 0 0 0 (by decide)).trans (rdn_wrn_same _ 0 KEYS.ROOT_STAT_PRESENT 1 0)
  have hcopy : (keyed s 0).rd KEYS.ROOT_STAT_COPY = 0 := rdn_wrn_same _ 0 KEYS.ROOT_STAT_COPY 0 0
  have hmode' : (keyed s 0).mode = 1 :=
    (rdn_wrn_elsewhere _ 0 0 0 (by decide)).trans ((rdn_wrn_elsewhere _ 1 0 0 (by decide)).trans hmode)
  have htodo' : (keyed s 0).flt.todo = [] := htodo
  have hroot : (keyed s 0).gcm.root = some (keyBytes (s.otp.key 0)) := rfl
  rw [keyTaken, hthere, hgood, if_neg (by decide), if_pos rfl]
  generalize keyed s 0 = t at *
  unfold compared
  split
  · exact ⟨hroot, hpresent, hcopy, hmode', .inr ⟨_, by rw [State.report, htodo', List.nil_append], rfl, rfl⟩⟩
  · exact ⟨hroot, hpresent, hcopy, hmode', .inl htodo'⟩

theorem keyTaken_bad (s : State) (hbad : s.otp.keyGood 0 = false) (hbad' : s.otp.keyGood 1 = false) : keyTaken s = s :=
  if_pos (by rw [Otp.keyThere, hbad, hbad']; rfl)

/-! ### Step 6 begins (R450, R453) -/

/-- SENTINEL_EXIT acts at step 5 once the start conditions hold. -/
theorem exec_sentinelExit (s : State) (hmode : s.mode = 1) (hstep : s.step_ = 5) (hauto : s.modeU.auto = true)
    (hready : s.startReady = true) : exec .sentinelExit s = .next s.beginSix := by
  have hexec : exec .sentinelExit s =
      .next (if s.mode = 1 && s.step_ = 5 && s.modeU.auto && s.startReady then s.beginSix else s) := rfl
  rw [hexec, if_pos (by simp [hmode, hstep, hauto, hready])]

theorem beginSix_leaves (s : State) :
    s.beginSix.step_ = 6 ∧ s.beginSix.modeU = { s.modeU with psu := true, dom := [3, 1, 2, 6, 7] } ∧
      Tbl.find s.beginSix.timers tDomain = some (s.mono + ms 1) ∧ TimersBut s s.beginSix [tDomain] ∧
      RegsBut s s.beginSix [key DEVICE.START_STAT_STEP] ∧
      s.beginSix = { s with regs := s.beginSix.regs, modeU := s.beginSix.modeU, timers := s.beginSix.timers } := by
  refine ⟨rdn_wrn_same _ 0 DEVICE.START_STAT_STEP 6 0, rfl, find_put_same _ _ _, fun k hk => ?_, ?_, rfl⟩
  · exact find_put_other _ _ _ _ (by simpa using hk)
  · exact regsBut_wrn s 0 DEVICE.START_STAT_STEP 6 0 (List.mem_singleton.mpr rfl)

end Sys2Proof.Proofs
end

section
/-! PROOFS. Step 6 and the entry to LISTEN, BUS_LOSS, and the statement on resets and the start sequence (R446, R447, R450,
R453, R514). -/

namespace Sys2Proof.Proofs

open Sys2Proof.Machine Sys2Proof.Safety Sys2Proof.Laws

/-! ### LISTEN is entered from SENTINEL (R446, R453) -/

/-- LISTEN with its time state, before the relay opens. -/
def listening (s : State) : State := ((s.setMode 2).wr TIME.CTRL_STEP_ARM 1).setTimeState 1

/-- An uncommissioned hub keeps its relay closed. -/
def forced (s : State) : State := if s.role = 3 then s.wr TRANSIT.BYP_CTRL_FORCE 1 else s

/-- The relay as LISTEN finds it: held by FORCE or by a transit fault, or opened. -/
def relaySet (s : State) : State :=
  if s.flag TRANSIT.BYP_CTRL_FORCE then { s with byp := { s.byp with startup := false } }.wr TRANSIT.BYP_STAT_CAUSE 3
  else if bitOf (s.rdn 0x0E HDR.FLT_STAT_CHECKERS) 0 then
    { s with byp := { s.byp with startup := false } }.wr TRANSIT.BYP_STAT_CAUSE 2
  else s.leaveBypass

/-- A pending copy of slot B starts. -/
def copyBegun (s : State) : State :=
  if s.copyPending then
    (s.updMode (fun m => { m with copying := true })).wr UPDATE.STAT_STATE 5 |>.wr UPDATE.STAT_STATUS 1
  else s

/-- The mode unit once a request is over. -/
def requestOver (m : ModeUnit) : ModeUnit := { m with want := none, loaded := false }

theorem enterListen_eq (s : State) : s.enterListen =
    copyBegun ((relaySet { forced (listening s) with
      byp := { (forced (listening s)).byp with entered := true } }).endReq.toStep 7) := by
  unfold State.enterListen
  rfl

namespace Steady

variable {X : List Nat} {q l : Bool} {s t : State}

theorem relaySet (h : Steady X q l s t) : Steady X q l s (relaySet t) := by
  have hshut : Steady X q l s { t with byp := { t.byp with startup := false } } := { h with }
  have hopen : Steady X q l s { t with byp := { t.byp with high := true, waiting := true } } := { h with }
  exact (hshut.wr _ _ _ (by decide)).ite ((hshut.wr _ _ _ (by decide)).ite
    (((hopen.wr _ _ _ (by decide)).wr _ _ _ (by decide)).start _ _ (by decide)))

theorem forced (h : Steady X q l s t) : Steady X q l s (forced t) := (h.wr _ _ _ (by decide)).ite h

theorem endReq (h : Steady X q l s t) : Steady X q l (s.updMode requestOver) t.endReq :=
  { ((h.updMode requestOver fun _ _ => rfl).wr DEVICE.MODE_STAT_PENDING 0 0 (by decide)).stop tAlone (by decide) with }

end Steady

/-- LISTEN with the relay set. -/
def relayed (s : State) : State :=
  relaySet { forced (listening s) with byp := { (forced (listening s)).byp with entered := true } }

theorem relayed_steady (s : State) : Steady [] true true (listening s) (relayed s) := by
  have hentered : Steady [] true true (listening s)
      { forced (listening s) with byp := { (forced (listening s)).byp with entered := true } } :=
    { (Steady.refl [] true true (listening s)).forced with }
  exact hentered.relaySet

/-- The mode unit with the copy under way, if one is pending. -/
def copying (b : Bool) (m : ModeUnit) : ModeUnit := if b then { m with copying := true } else m

theorem copyBegun_steady (s : State) : Steady [] true true (s.updMode (copying s.copyPending)) (copyBegun s) := by
  unfold copyBegun copying
  cases s.copyPending
  · exact Steady.refl _ _ _ _
  · exact ((Steady.refl [] true true (s.updMode fun m => { m with copying := true })).wr _ _ _ (by decide)).wr _ _ _ (by decide)

theorem toStep_steady (s : State) (n : Nat) : Steady [place DEVICE.START_STAT_STEP 0] true true s (s.toStep n) :=
  (Steady.refl _ true true s).wrBut DEVICE.START_STAT_STEP n (by decide)

theorem copying_saving (b : Bool) (m : ModeUnit) (v : Bool) :
    copying b { m with saving := v } = { copying b m with saving := (copying b { m with saving := v }).saving } := by
  unfold copying
  split <;> rfl

/-- Once it has entered LISTEN the hub ends the request, goes on to step 7 and begins a pending copy. -/
theorem enterListen_late (s : State) : ∃ b, Steady [place DEVICE.START_STAT_STEP 0] true true
    (((listening s).updMode requestOver).updMode (copying b)) s.enterListen := by
  have hover := ((relayed_steady s).weaken (by simp)).endReq.trans (toStep_steady (relayed s).endReq 7)
  refine ⟨((relayed s).endReq.toStep 7).copyPending, ?_⟩
  rw [enterListen_eq]
  exact (hover.updMode (copying _) (copying_saving _)).trans ((copyBegun_steady _).weaken (by simp))

theorem enterListen_step (s : State) : s.enterListen.step_ = 7 := by
  rw [enterListen_eq, State.step_, (copyBegun_steady _).fields _ (by simp [startFields]) List.not_mem_nil, rd_updMode]
  exact rdn_wrn_same _ 0 DEVICE.START_STAT_STEP 7 0

theorem listening_steady (s : State) : Steady [place DEVICE.MODE_STAT_PREV 0, place DEVICE.MODE_STAT_MODE 0,
    place TIME.CTRL_STEP_ARM 0, place TIME.STAT_STATE 0] true true s (listening s) :=
  (((setMode_steady true true s 2).weaken (by simp)).wrBut TIME.CTRL_STEP_ARM 1 (by decide)).wrBut TIME.STAT_STATE 1 (by decide)

theorem listening_fields (s : State) : (listening s).rd DEVICE.MODE_STAT_MODE = 2 ∧
    (listening s).rd DEVICE.MODE_STAT_PREV = s.mode % 8 ∧ (listening s).rd TIME.STAT_STATE = 1 ∧
    (listening s).rd TIME.CTRL_STEP_ARM = 1 := by
  have htime : Steady [place TIME.CTRL_STEP_ARM 0, place TIME.STAT_STATE 0] true true (s.setMode 2) (listening s) :=
    ((Steady.refl _ true true _).wrBut TIME.CTRL_STEP_ARM 1 (by decide)).wrBut TIME.STAT_STATE 1 (by decide)
  refine ⟨htime.mode.trans (setMode_mode s (by decide)), ?_, rdn_wrn_same _ 0 TIME.STAT_STATE 1 0, ?_⟩
  · exact (htime.fields _ (by simp [startFields]) (by decide)).trans (setMode_prev s 2)
  · exact (rdn_wrn_elsewhere _ 1 0 0 (by decide)).trans (rdn_wrn_same _ 0 TIME.CTRL_STEP_ARM 1 0)

theorem listening_event (s : State) : event (listening s) 0 0 = true := by
  have htime : Steady [place TIME.CTRL_STEP_ARM 0, place TIME.STAT_STATE 0] true true (s.setMode 2) (listening s) :=
    ((Steady.refl _ true true _).wrBut TIME.CTRL_STEP_ARM 1 (by decide)).wrBut TIME.STAT_STATE 1 (by decide)
  exact htime.events 0 0 rfl (by decide) (setMode_event s 2)

/-! ### The next domain of step 6 (R453, R514) -/

theorem mem_insertNat (l : List Nat) (d : Nat) : d ∈ insertNat l d := by
  induction l with
  | nil => simp [insertNat]
  | cons k l ih =>
    unfold insertNat
    split_ifs with hlt heq
    · simp
    · simp [heq]
    · exact List.mem_cons_of_mem k ih

theorem pdOn_domainOn (s : State) (d : Nat) : (s.domainOn d).pdOn d = true := by
  by_cases hon : s.pdOn d = true
  · rwa [State.domainOn, if_pos hon]
  · have hpd : (s.domainOn d).pd = insertNat s.pd d := (Steady.domainOn_off [] true s (by simpa using hon)).pd rfl
    rw [pdOn_congr (t := s.domainOn d) (s := { s with pd := insertNat s.pd d }) hpd]
    simpa [State.pdOn] using mem_insertNat s.pd d

/-- The mode unit with the domains still to come on. -/
def domainsLeft (rest : List Nat) (m : ModeUnit) : ModeUnit := { m with dom := rest }

/-- Domain `d` on, `rest` still to come. -/
def domainUp (s : State) (d : Nat) (rest : List Nat) : State :=
  if d = 6 then ((s.domainOn d).updMode (domainsLeft rest)).usbAttach ((s.domainOn d).updMode (domainsLeft rest)).usb.vbus
  else (s.domainOn d).updMode (domainsLeft rest)

theorem domainUp_steady_on (s : State) (d : Nat) (rest : List Nat) :
    Steady [] true true ((s.domainOn d).updMode (domainsLeft rest)) (domainUp s d rest) :=
  ((Steady.refl [] true true _).usbAttach _).ite (Steady.refl [] true true _)

theorem domainUp_steady (s : State) (d : Nat) (rest : List Nat) :
    Steady [] true false (s.updMode (domainsLeft rest)) (domainUp s d rest) := by
  have hon := ((Steady.refl [] true false s).domainOn d).updMode (domainsLeft rest) fun _ _ => rfl
  exact hon.trans { domainUp_steady_on s d rest with pd := fun e => nomatch e }

theorem domainUp_on (s : State) (d : Nat) (rest : List Nat) : (domainUp s d rest).pdOn d = true := by
  rw [pdOn_congr ((domainUp_steady_on s d rest).pd rfl), pdOn_congr (pd_updMode _ _), pdOn_domainOn]

/-- DOMAIN_SWITCH_ON acts at step 6 when the 1 ms since the last domain are over. -/
theorem exec_domainSwitchOn (s : State) (d : Nat) (rest : List Nat) (hmode : s.mode = 1) (hstep : s.step_ = 6)
    (hdue : s.due tDomain = true) (hdom : s.modeU.dom = d :: rest) :
    exec .domainSwitchOn s = .next (if rest = [] then (((domainUp s d rest).stop tDomain).enterListen).modeDone
      else (domainUp s d rest).start tDomain (ms 1)) := by
  have hexec : exec .domainSwitchOn s = .next (if s.mode = 1 && s.step_ = 6 && s.due tDomain then
      match s.modeU.dom with
      | [] => s
      | d :: rest => if rest = [] then (((domainUp s d rest).stop tDomain).enterListen).modeDone
        else (domainUp s d rest).start tDomain (ms 1)
      else s) := rfl
  rw [hexec, if_pos (by simp [hmode, hstep, hdue]), hdom]

/-- Another domain follows in 1 ms. -/
theorem domainUp_next (s : State) (d : Nat) (rest : List Nat) (hmode : s.mode = 1) (hstep : s.step_ = 6) :
    let t := (domainUp s d rest).start tDomain (ms 1)
    t.pdOn d = true ∧ t.modeU.dom = rest ∧ t.mode = 1 ∧ t.step_ = 6 ∧ Tbl.find t.timers tDomain = some (s.mono + ms 1) := by
  have hup := domainUp_steady s d rest
  have hon := domainUp_on s d rest
  generalize domainUp s d rest = u at hup hon ⊢
  have hmono : u.mono = s.mono := hup.mono
  refine ⟨hon, ?_, hup.mode.trans hmode, hup.step_.trans hstep, ?_⟩
  · show u.modeU.dom = rest
    rw [hup.modeU]
    rfl
  · rw [find_start_same, hmono]

/-- The last domain brings LISTEN. -/
theorem domainUp_last (s : State) (d : Nat) (hset : Settled s) (hmode : s.mode = 1) :
    let t := (((domainUp s d []).stop tDomain).enterListen).modeDone
    t.pdOn d = true ∧ t.mode = 2 ∧ t.rd DEVICE.MODE_STAT_PREV = 1 ∧ t.step_ = 7 ∧ t.rd TIME.STAT_STATE = 1 ∧
      t.rd TIME.CTRL_STEP_ARM = 1 ∧ t.modeU.want = none ∧ event t 0 0 = true ∧ t.running tDomain = false := by
  have hup := domainUp_steady s d []
  have hon := domainUp_on s d []
  generalize domainUp s d [] = u at hup hon ⊢
  have hmode' : (u.stop tDomain).mode = 1 := hup.mode.trans hmode
  have htodo : (u.stop tDomain).flt.todo = [] := hup.todo.trans hset.1
  have hwake : (u.stop tDomain).bud.wake = false := (hup.wake rfl).trans hset.2
  have hon' : (u.stop tDomain).pdOn d = true := hon
  have htimer := find_stop_same u tDomain
  generalize u.stop tDomain = v at hmode' htodo hwake hon' htimer ⊢
  obtain ⟨b, hlate⟩ := enterListen_late v
  have hearly := listening_steady v
  obtain ⟨hlmode, hlprev, hlstate, hlarm⟩ := listening_fields v
  have hlevent := listening_event v
  have hlstep := enterListen_step v
  generalize v.enterListen = w at hlate hlstep ⊢
  generalize listening v = x at hlate hearly hlmode hlprev hlstate hlarm hlevent
  have hdone : w.modeDone = w := modeDone_settled _
    ⟨hlate.todo.trans (hearly.todo.trans htodo), (hlate.wake rfl).trans ((hearly.wake rfl).trans hwake)⟩
  dsimp only
  rw [hdone]
  refine ⟨(pdOn_congr ((hlate.pd rfl).trans (hearly.pd rfl)) d).trans hon', hlate.mode.trans hlmode, ?_, hlstep, ?_, ?_, ?_,
    hlate.events 0 0 rfl (by decide) hlevent, ?_⟩
  · rw [hlate.fields _ (by simp [startFields]) (by decide), rd_updMode, rd_updMode, hlprev, hmode']
  · exact (hlate.fields _ (by simp [startFields]) (by decide)).trans hlstate
  · exact (hlate.fields _ (by simp [startFields]) (by decide)).trans hlarm
  · rw [hlate.modeU, modeU_updMode, modeU_updMode]
    cases b <;> rfl
  · have hnone : Tbl.find w.timers tDomain = none := hlate.domain.trans (hearly.domain.trans htimer)
    rw [State.running, hnone]
    rfl

/-! ### BUS_LOSS (R446, R447, R450) -/

/-- A request that loses is over and refused; without one nothing happens. -/
theorem loseReq_steady (s : State) (c : Nat) : ∃ f : ModeUnit → ModeUnit, (f s.modeU).want = none ∧
    Steady [place DEVICE.MODE_STAT_REFUSE_CAUSE 0] true true (s.updMode f) (s.loseReq c) := by
  unfold State.loseReq
  split
  case isTrue h => exact ⟨fun m => m, h, Steady.refl _ true true s⟩
  case isFalse h =>
    exact ⟨requestOver, rfl, (((Steady.refl _ true true s).endReq.wr DEVICE.MODE_STAT_LOADING 0 0 (by decide)).wrBut
      DEVICE.MODE_STAT_REFUSE_CAUSE c (by decide)).raise 0 1⟩

theorem loseReq_cause (s : State) {c : Nat} (hc : c < 8) (h : s.modeU.want.isSome = true) :
    (s.loseReq c).rd DEVICE.MODE_STAT_REFUSE_CAUSE = c := by
  have hsome : s.modeU.want ≠ none := Option.isSome_iff_ne_none.mp h
  rw [State.loseReq, if_neg hsome, State.refuseReq,
    ((Steady.refl [] true true _).raise 0 1).fields _ (by simp [startFields]) List.not_mem_nil]
  exact (rdn_wrn_same _ 0 DEVICE.MODE_STAT_REFUSE_CAUSE c 0).trans (Nat.mod_eq_of_lt hc)

theorem lossEntry_steady (s : State) : ∃ f : ModeUnit → ModeUnit, (∀ m, (f m).want = m.want) ∧
    Steady [place DEVICE.LOSS_CNT_COUNT 0] true true (s.updMode f) s.lossEntry := by
  unfold State.lossEntry
  dsimp only
  refine ⟨_, fun _ => ?_, ((Steady.refl [place DEVICE.LOSS_CNT_COUNT 0] true true s).wrBut DEVICE.LOSS_CNT_COUNT _
    (by decide)).updMode _ fun _ _ => rfl⟩
  rfl

theorem lossEntry_counted (s : State) : Counted s s.lossEntry 0 DEVICE.LOSS_CNT_COUNT := counted_satn s 0 DEVICE.LOSS_CNT_COUNT

/-- The bus measured below BUS_LOSS. -/
def busLow (s : State) (vbus : Nat) : State :=
  { s.wr LINE.V_BUS_CODE vbus with brk := { (s.wr LINE.V_BUS_CODE vbus).brk with okAt := none } }.raise 0x4D 1

theorem busLow_steady (s : State) (vbus : Nat) : Steady [place LINE.V_BUS_CODE 0] true true
    { s with brk := { s.brk with okAt := none } } (busLow s vbus) :=
  ((Steady.refl _ true true { s with brk := { s.brk with okAt := none } }).wrBut LINE.V_BUS_CODE vbus (by decide)).raise 0x4D 1

theorem busLow_code (s : State) {vbus : Nat} (h : vbus < 4096) : (busLow s vbus).rd LINE.V_BUS_CODE = vbus := by
  rw [busLow, ((Steady.refl [] true true _).raise 0x4D 1).fields _ (by simp [startFields]) List.not_mem_nil]
  exact (rdn_wrn_same s 0 LINE.V_BUS_CODE vbus 0).trans (Nat.mod_eq_of_lt h)

theorem busLow_event (s : State) (vbus : Nat) : event (busLow s vbus) 0x4D 1 = true :=
  (event_raise _ 0x4D 1 1 (by decide)).trans (by rw [decide_eq_true rfl, Bool.true_or])

/-- BUS_LOSS acts while LINE is enabled (R419). -/
theorem exec_busLoss (s : State) (vbus : Nat) (hline : s.enabled 0x4D = true)
    (hlow : codeGe vbus (s.rd LINE.PORT_CFG_BUS_LOSS) = false) :
    exec (.busLoss vbus) s = .next ((busLow s vbus).busLost.settleAll).modeDone := by
  have hexec : exec (.busLoss vbus) s = .next (if codeGe vbus (s.rd LINE.PORT_CFG_BUS_LOSS) || !s.enabled 0x4D then s
      else ((busLow s vbus).busLost.settleAll).modeDone) := rfl
  rw [hexec, hlow, hline]
  rfl

/-- In SENTINEL with only PD0 lit, waiting at step 5 of its own accord. -/
def sentinelAgain (s : State) : State := (s.enterSentinel.updMode leaving).waitStart s.enterSentinel.lossDelay

theorem busLost_live (s : State) (h : 2 ≤ s.mode) : s.busLost = sentinelAgain (s.loseReq 1).lossEntry := if_pos h

theorem busLost_waiting (s : State) (hmode : s.mode = 1) (hstep : s.step_ = 5) : s.busLost = s := by
  unfold State.busLost
  rw [if_neg (by omega), if_neg (by simp [hstep])]

theorem sentinelAgain_mode (s : State) : (sentinelAgain s).mode = 1 := by
  rw [sentinelAgain, State.mode, waitStart_rd _ _ _ (by simp [startFields]) (by decide), rd_updMode]
  exact enterSentinel_mode s

theorem sentinelAgain_prev (s : State) (h : s.mode ≠ 1) : (sentinelAgain s).rd DEVICE.MODE_STAT_PREV = s.mode % 8 := by
  rw [sentinelAgain, waitStart_rd _ _ _ (by simp [startFields]) (by decide), rd_updMode, enterSentinel_prev s h]

theorem sentinelAgain_rd (s : State) (g : Fld) (hg : g ∈ startFields) (hbut : place g 0 ∉ [place DEVICE.MODE_STAT_PREV 0,
    place DEVICE.MODE_STAT_MODE 0, place DEVICE.START_STAT_NO_KEY 0, place DEVICE.START_STAT_STEP 0]) :
    (sentinelAgain s).rd g = s.rd g := by
  simp only [List.mem_cons, List.not_mem_nil, or_false, not_or] at hbut
  obtain ⟨hprev, hmode, hkey, hstep⟩ := hbut
  rw [sentinelAgain, waitStart_rd _ _ g hg (by simp [hkey, hstep]), rd_updMode,
    (enterSentinel_steady s).fields g hg (by simp [hprev, hmode]), rd_updMode]

theorem sentinelAgain_modeU (s : State) : (sentinelAgain s).modeU.auto = true ∧ (sentinelAgain s).modeU.want = s.modeU.want := by
  rw [sentinelAgain, waitStart_modeU, modeU_updMode, (enterSentinel_steady s).modeU, modeU_updMode]
  exact ⟨rfl, rfl⟩

theorem sentinelAgain_off (s : State) (d : Nat) (hd : 1 ≤ d) (hd' : d ≤ 7) : (sentinelAgain s).pdOn d = false := by
  rw [sentinelAgain, pdOn_congr (waitStart_pd _ _), pdOn_congr (pd_updMode _ _), enterSentinel_off s d hd hd']

theorem sentinelAgain_okAt (s : State) : (sentinelAgain s).brk.okAt = s.brk.okAt := by
  rw [sentinelAgain, waitStart_okAt, okAt_updMode, (enterSentinel_steady s).okAt, okAt_updMode]

theorem sentinelAgain_todo (s : State) : (sentinelAgain s).flt.todo = s.flt.todo := by
  rw [sentinelAgain, waitStart_todo, todo_updMode, (enterSentinel_steady s).todo, todo_updMode]

theorem sentinelAgain_event (s : State) (pg b : Nat) (hpg : pageDomain pg = 0) (hb : b < 32) (h : event s pg b = true) :
    event (sentinelAgain s) pg b = true := by
  refine waitStart_event _ _ pg b hpg hb ?_
  rw [event_updMode]
  exact (enterSentinel_steady s).events pg b hpg hb h

/-- In SENTINEL the channels settle and the budget evaluates if it must, and no more. -/
theorem settled_done {s : State} (hmode : s.mode = 1) (htodo : s.flt.todo = []) :
    Steady [] false true s (s.settleAll).modeDone := by
  have hset := (Steady.refl [] false true s).settleAll
  exact hset.modeDone (by rw [hset.mode, hmode]; decide) (hset.todo.trans htodo)

/-- A bus too low outside SENTINEL: the request refused, the loss counted, SENTINEL at step 5. -/
theorem busLoss_live (s : State) {vbus : Nat} (htodo : s.flt.todo = []) (hlive : 2 ≤ s.mode) (hvbus : vbus < 4096) :
    let t := ((busLow s vbus).busLost.settleAll).modeDone
    t.mode = 1 ∧ t.rd DEVICE.MODE_STAT_PREV = s.mode % 8 ∧ t.step_ = 5 ∧ t.modeU.auto = true ∧ t.modeU.want = none ∧
      Counted s t 0 DEVICE.LOSS_CNT_COUNT ∧ t.rd LINE.V_BUS_CODE = vbus ∧ t.brk.okAt = none ∧ event t 0x4D 1 = true ∧
      (∀ d, 1 ≤ d → d ≤ 7 → t.pdOn d = false) ∧
      (s.modeU.want.isSome = true → t.rd DEVICE.MODE_STAT_REFUSE_CAUSE = 1) := by
  have hlow := busLow_steady s vbus
  have hcode := busLow_code s hvbus
  have hevent := busLow_event s vbus
  have hlowmode : (busLow s vbus).mode = s.mode := hlow.mode
  have hloss : (busLow s vbus).rd DEVICE.LOSS_CNT_COUNT = s.rd DEVICE.LOSS_CNT_COUNT :=
    hlow.fields _ (by simp [startFields]) (by decide)
  have hwant : (busLow s vbus).modeU.want = s.modeU.want := by rw [hlow.modeU]
  have hokAt : (busLow s vbus).brk.okAt = none := hlow.okAt
  have htodo' : (busLow s vbus).flt.todo = [] := hlow.todo.trans htodo
  generalize busLow s vbus = a at hcode hevent hlowmode hloss hwant hokAt htodo' ⊢
  obtain ⟨f, hnone, hlose⟩ := loseReq_steady a 1
  have hcause := loseReq_cause a (c := 1) (by decide)
  rw [busLost_live a (by omega)]
  generalize a.loseReq 1 = b at hlose hcause ⊢
  obtain ⟨g, hkeeps, hentry⟩ := lossEntry_steady b
  have hcount := lossEntry_counted b
  generalize b.lossEntry = c at hentry hcount ⊢
  have hmode : c.mode = s.mode := hentry.mode.trans (hlose.mode.trans hlowmode)
  have hwantc : c.modeU.want = none := by
    rw [hentry.modeU, modeU_updMode]
    refine (hkeeps _).trans ?_
    rw [hlose.modeU, modeU_updMode]
    exact hnone
  have htodoc : (sentinelAgain c).flt.todo = [] :=
    (sentinelAgain_todo c).trans (hentry.todo.trans (hlose.todo.trans htodo'))
  have hdone := settled_done (sentinelAgain_mode c) htodoc
  have hrd : ∀ g ∈ startFields, place g 0 ∉ [place DEVICE.MODE_STAT_PREV 0, place DEVICE.MODE_STAT_MODE 0,
      place DEVICE.START_STAT_NO_KEY 0, place DEVICE.START_STAT_STEP 0] →
      ((sentinelAgain c).settleAll).modeDone.rd g = c.rd g := fun g hg hbut =>
    (hdone.fields g hg List.not_mem_nil).trans (sentinelAgain_rd c g hg hbut)
  obtain ⟨hauto, hwantt⟩ := sentinelAgain_modeU c
  obtain ⟨hauto', hwant'⟩ := hdone.want
  dsimp only
  generalize ((sentinelAgain c).settleAll).modeDone = t at hdone hrd hauto' hwant' ⊢
  refine ⟨hdone.mode.trans (sentinelAgain_mode c), ?_, hdone.step_.trans (waitStart_step _ _), ?_, ?_, ?_, ?_, ?_, ?_, ?_, ?_⟩
  · rw [hdone.fields _ (by simp [startFields]) List.not_mem_nil, sentinelAgain_prev c (by omega), hmode]
  · exact hauto'.trans hauto
  · exact hwant'.trans (hwantt.trans hwantc)
  · unfold Counted at hcount ⊢
    rw [← State.rd, ← State.rd] at hcount ⊢
    rw [hrd _ (by simp [startFields]) (by decide), hcount, hlose.fields _ (by simp [startFields]) (by decide), rd_updMode, hloss]
  · rw [hrd _ (by simp [startFields]) (by decide), hentry.fields _ (by simp [startFields]) (by decide), rd_updMode,
      hlose.fields _ (by simp [startFields]) (by decide), rd_updMode, hcode]
  · rw [hdone.okAt, sentinelAgain_okAt, hentry.okAt, okAt_updMode, hlose.okAt, okAt_updMode, hokAt]
  · have hevent' : event c 0x4D 1 = true :=
      hentry.events _ _ rfl (by decide) (hlose.events 0x4D 1 rfl (by decide) hevent)
    exact hdone.events _ _ rfl (by decide) (sentinelAgain_event c _ _ rfl (by decide) hevent')
  · intro d hd hd'
    rw [pdOn_congr (hdone.pd rfl), sentinelAgain_off c d hd hd']
  · intro hsome
    rw [hrd _ (by simp [startFields]) (by decide), hentry.fields _ (by simp [startFields]) (by decide), rd_updMode]
    exact hcause (by rwa [hwant])

/-- At step 5 the hub goes on waiting. -/
theorem busLoss_waiting (s : State) (vbus : Nat) (htodo : s.flt.todo = []) (hmode : s.mode = 1) (hstep : s.step_ = 5) :
    let t := ((busLow s vbus).busLost.settleAll).modeDone
    t.mode = 1 ∧ t.step_ = 5 ∧ t.brk.okAt = none ∧ event t 0x4D 1 = true := by
  have hlow := busLow_steady s vbus
  have hevent := busLow_event s vbus
  have hlowmode : (busLow s vbus).mode = 1 := hlow.mode.trans hmode
  have hlowstep : (busLow s vbus).step_ = 5 := hlow.step_.trans hstep
  have hdone := settled_done hlowmode (hlow.todo.trans htodo)
  dsimp only
  rw [busLost_waiting _ hlowmode hlowstep]
  exact ⟨hdone.mode.trans hlowmode, hdone.step_.trans hlowstep, hdone.okAt.trans hlow.okAt,
    hdone.events _ _ rfl (by decide) hevent⟩

/-! ### The statement -/

/-- Settles O51: each clause is what the lemma above says its command leaves, from the state the clause names. -/
theorem resetsAndTheStartSequenceComplete : Obligations.ResetsAndTheStartSequenceComplete := by
  unfold Obligations.ResetsAndTheStartSequenceComplete
  refine ⟨?_, ?_, ?_, ?_, ?_, ?_, ?_, ?_⟩
  case refine_1 => exact fun s index h => ⟨_, exec_powerUpReset s index h, powerUp_leaves s index⟩
  case refine_2 =>
    refine fun s => ⟨⟨s.powerLost, rfl, powerLost_mode s, rfl, rfl, rfl, rfl, rfl, rfl⟩, _, rfl, fun k hk => ?_,
      fun k hk => ?_, rfl⟩
    · exact (trst_hold s k).trans (if_pos hk)
    · exact (trst_hold s k).trans (if_neg hk)
  case refine_3 =>
    intro s hset hmode hstep
    refine ⟨⟨_, exec_warmReset_pin s hmode hstep, ?_⟩, fun p hperm => ⟨_, exec_warmReset_key s p _ hstep hperm, ?_⟩,
      fun p k hk hperm => ?_⟩
    · obtain ⟨hmode', hstep', hwarm, -, ⟨hwant, hauto, hdly⟩, hcause, hoff⟩ := warmReset_leaves (warmReset_pin s hset.1)
      exact ⟨hmode', hstep', hwarm, hwant, hauto, hdly, hcause, hoff⟩
    · obtain ⟨hmode', hstep', hwarm, hdebug, -, -, hoff⟩ := warmReset_leaves (warmReset_key s p hset.1)
      exact ⟨hmode', hstep', hwarm, fun hp => hdebug (decide_eq_true hp), hoff⟩
    · rw [exec_warmReset_key s p k hstep hperm, warmReset_otherKey s p k hk hset]
  case refine_4 =>
    intro s hmode hstep
    obtain ⟨hotp, hstep', hnone, hmasks, hframe⟩ := otpLoad_leaves s
    refine ⟨_, exec_otpLoad s hmode hstep, hotp, hstep', hnone, fun g hg pg hpg hlock => ?_, hframe⟩
    exact hmasks (by rw [hg]; exact Option.some_ne_none g) pg hpg hlock
  case refine_5 =>
    intro s hset hmode hstep hsel hstarted hkilled
    have hmode' : (s.wr KEYS.ROOT_STAT_KILLED (bit s.otp.killed)).mode = 1 :=
      ((Steady.refl [] true true s).wr KEYS.ROOT_STAT_KILLED (bit s.otp.killed) 0 (by decide)).mode.trans hmode
    refine ⟨fun hgood => ⟨_, exec_rootKeyLoad s hmode hstep hsel hstarted, ?_⟩,
      fun hbad hbad' hroot => ⟨_, exec_rootKeyLoad s hmode hstep hsel hstarted, ?_⟩⟩
    · obtain ⟨hkey, hpresent, hcopy, hkmode, htodo⟩ := keyTaken_good _ hmode' hset.1 hkilled hgood
      obtain ⟨hroot, hpresent', hcopy', hnokey, hstep', hbrk, hline⟩ := keyDone_leaves _ hkmode htodo
      exact ⟨hroot.trans hkey, hpresent'.trans hpresent, hcopy'.trans hcopy, by rw [hnokey, hkey]; rfl, hstep', hbrk, hline⟩
    · rw [keyTaken_bad (s.wr KEYS.ROOT_STAT_KILLED (bit s.otp.killed)) hbad hbad']
      obtain ⟨hkey, -, -, hnokey, hstep', -, -⟩ := keyDone_leaves _ hmode' (.inl hset.1)
      have hroot' : (s.wr KEYS.ROOT_STAT_KILLED (bit s.otp.killed)).gcm.root = none := hroot
      exact ⟨hkey.trans hroot, by rw [hnokey, hroot']; rfl, hstep'⟩
  case refine_6 =>
    exact fun s hmode hstep hauto hready => ⟨_, exec_sentinelExit s hmode hstep hauto hready, beginSix_leaves s⟩
  case refine_7 =>
    intro s d rest hset hmode hstep hdue hdom
    have hexec := exec_domainSwitchOn s d rest hmode hstep hdue hdom
    refine ⟨fun hrest => ?_, fun hrest _ => ?_⟩
    · rw [if_neg hrest] at hexec
      exact ⟨_, hexec, domainUp_next s d rest hmode hstep⟩
    · subst hrest
      rw [if_pos rfl] at hexec
      exact ⟨_, hexec, domainUp_last s d hset hmode⟩
  case refine_8 =>
    intro s vbus hset hline hvbus hlow
    have hexec := exec_busLoss s vbus hline hlow
    exact ⟨fun hlive => ⟨_, hexec, busLoss_live s hset.1 hlive hvbus⟩,
      fun hmode hstep => ⟨_, hexec, busLoss_waiting s vbus hset.1 hmode hstep⟩⟩

end Sys2Proof.Proofs
end

section
/-! PROOFS. Misuse of a port, the words of a page's header, and the messages of interrupt sources (R32-R42, R47-R49). -/

-- One thread elaborates the proofs here: the check's memory limit counts the stacks of waiting threads too.
set_option Elab.async false

namespace Sys2Proof.Proofs

open Sys2Proof.Machine Sys2Proof.Safety Sys2Proof.Laws

/-! ### Bits and sets of numbers -/

/-- Taking the bits of `m` out of a number clears those and keeps the others. -/
theorem testBit_sub_and (a m b : Nat) : (a - (a &&& m)).testBit b = (a.testBit b && !m.testBit b) := by
  have hle : a &&& m ≤ a := Nat.and_le_left
  have hdiv : (a &&& m) / 2 = a / 2 &&& m / 2 := Nat.and_div_two
  have hmod : (a &&& m) % 2 = 1 ↔ a % 2 = 1 ∧ m % 2 = 1 := Nat.and_mod_two_eq_one
  induction b generalizing a m with
  | zero =>
    rw [Nat.testBit_zero, Nat.testBit_zero, Nat.testBit_zero, Bool.eq_iff_iff]
    simp
    omega
  | succ b ih =>
    rw [Nat.testBit_succ, Nat.testBit_succ, Nat.testBit_succ, ← ih (a / 2) (m / 2) Nat.and_le_left Nat.and_div_two
      Nat.and_mod_two_eq_one]
    congr 1
    omega

theorem mapBits_succ (n : Nat) (p : Nat → Bool) :
    mapBits (n + 1) p = if p n then mapBits n p + 2 ^ n else mapBits n p := by
  rw [mapBits, List.range_succ, List.foldl_append]
  rfl

/-- The bits that `mapBits` sets are those of the numbers that satisfy the condition. -/
theorem testBit_mapBits (n : Nat) (p : Nat → Bool) :
    mapBits n p < 2 ^ n ∧ ∀ b, (mapBits n p).testBit b = (decide (b < n) && p b) := by
  induction n with
  | zero => exact ⟨Nat.zero_lt_one, fun b => by simp [mapBits]⟩
  | succ n ih =>
    obtain ⟨hlt, hbit⟩ := ih
    rw [mapBits_succ]
    split
    case isTrue hp =>
      refine ⟨by omega, fun b => ?_⟩
      rcases Nat.lt_trichotomy b n with h | rfl | h
      · rw [Nat.add_comm, Nat.testBit_two_pow_add_gt h, hbit]
        simp [h, Nat.lt_succ_of_lt h]
      · rw [Nat.add_comm, Nat.testBit_two_pow_add_eq, hbit]
        simp [hp]
      · rw [Nat.testBit_lt_two_pow (Nat.lt_of_lt_of_le (by omega : _ < 2 ^ (n + 1)) (Nat.pow_le_pow_right (by decide) h))]
        simp
        omega
    case isFalse hp =>
      refine ⟨by omega, fun b => ?_⟩
      rw [hbit]
      by_cases h : b = n
      · simp [h, hp]
      · rw [show decide (b < n) = decide (b < n + 1) by simp; omega]

theorem mem_insertNat_iff (l : List Nat) (i j : Nat) : j ∈ insertNat l i ↔ j = i ∨ j ∈ l := by
  induction l with
  | nil => simp [insertNat]
  | cons k l ih =>
    unfold insertNat
    split
    · simp
    · split
      case isTrue h => simp [h]
      case isFalse => rw [List.mem_cons, ih, List.mem_cons, or_left_comm]

theorem mem_deleteNat_iff (l : List Nat) (i j : Nat) : j ∈ deleteNat l i ↔ j ∈ l ∧ j ≠ i := by
  simp [deleteNat]

/-! ### The judgement of a write (R41) -/

section
variable (s : State) (p : Port) (pg off v : Nat)

theorem judge_misaligned (a : Nat) (one : Bool) (h : a % 4 ≠ 0) : s.judge p true a v one = some 0 := by
  simp [State.judge, h]

theorem judge_register (a : Nat) (h : a % 4 = 0) (ha : a < 0x100000) :
    s.judge p true a v true = s.judgePage p true (a / 4096) (a % 4096) v := by
  simp [State.judge, h, ha]

theorem judgePage_unassigned (h : blockType pg = 0) : s.judgePage p true pg off v = some 1 := if_pos h

variable (hpg : blockType pg ≠ 0)
include hpg

theorem judgePage_dark (h : s.pageOn pg = false) : s.judgePage p true pg off v = some 4 := by
  simp [State.judgePage, hpg, h]

variable (hon : s.pageOn pg = true)
include hon

theorem judgePage_notOwner (hoff : off = 0xC) (h : s.isOwner p = false) : s.judgePage p true pg off v = some 3 := by
  simp [State.judgePage, hpg, hon, hoff, h]

theorem judgePage_denied (hoff : off ≠ 0xC) (h : s.mayWrite p pg = false) : s.judgePage p true pg off v = some 3 := by
  simp [State.judgePage, hpg, hon, hoff, h]

theorem judgePage_inReset (hoff : off ≠ 0xC) (hmay : s.mayWrite p pg = true) (h : 0x40 ≤ off)
    (hreset : s.pageUnit.inReset.contains pg = true) : s.judgePage p true pg off v = some 4 := by
  have hmem : pg ∈ s.pageUnit.inReset := by simpa using hreset
  simp [State.judgePage, hpg, hon, hoff, hmay, h, hmem]

theorem judgePage_wrongKey (hoff : off = 0x24) (hmay : s.mayWrite p pg = true) (h : v ≠ 0x4C4F434B) :
    s.judgePage p true pg off v = some 5 := by
  simp [State.judgePage, hpg, hon, hoff, hmay, h]

end

/-- A case of R41 is one of 0 to 5. -/
theorem judge_cause_le (s : State) (p : Port) (a v c : Nat) (one : Bool) (h : s.judge p true a v one = some c) : c ≤ 5 := by
  unfold State.judge State.judgePage at h
  dsimp only at h
  split_ifs at h <;> simp only [Option.some.injEq] at h <;> omega

/-! ### A misuse (R41, R42) -/

/-- Only register fields have changed. -/
def RegsOnly (s t : State) : Prop := ∃ rs, t = { s with regs := rs }

namespace RegsOnly

variable {s t : State}

theorem refl (s : State) : RegsOnly s s := ⟨s.regs, rfl⟩

theorem wrn (h : RegsOnly s t) (n : Nat) (f : Fld) (v i : Nat) : RegsOnly s (t.wrn n f v i) := by
  obtain ⟨rs, rfl⟩ := h
  exact ⟨_, rfl⟩

end RegsOnly

theorem misuse_regsOnly (s : State) (p : Port) (wr : Bool) (a c : Nat) : RegsOnly s (s.misuse p wr a c) :=
  ((((((RegsOnly.refl s).wrn _ _ _ _).wrn _ _ _ _).wrn _ _ _ _).wrn _ _ _ _).wrn _ _ _ _).wrn _ _ _ _

theorem misuse_regs (s : State) (p : Port) (wr : Bool) (a c : Nat) : RegsBut s (s.misuse p wr a c) (denyKeys p) := by
  have hstep : ∀ {t : State} (f : Fld) (v i : Nat), f.key 0 i ∈ denyKeys p → RegsBut s t (denyKeys p) →
      RegsBut s (t.wrn 0 f v i) (denyKeys p) := fun f v i h ht => regsBut_trans ht (regsBut_wrn _ 0 f v i h)
  refine hstep _ _ _ ?_ (hstep _ _ _ ?_ (hstep _ _ _ ?_ (hstep _ _ _ ?_ (hstep _ _ _ ?_ (hstep _ _ _ ?_
    (regsBut_refl s _)))))) <;> simp [denyKeys, key]

/-- What a misuse shows: its count, and the access in DENY_LAST. -/
theorem misuse_shows (s : State) (p : Port) (wr : Bool) (a c : Nat) :
    (s.misuse p wr a c).rd DEVICE.DENY_CNT_COUNT p.code = min (s.rd DEVICE.DENY_CNT_COUNT p.code + 1) 0xFFFFFFFF ∧
    (s.misuse p wr a c).rd DEVICE.DENY_LAST_VALID = 1 ∧ (s.misuse p wr a c).rd DEVICE.DENY_LAST_CAUSE = c % 8 ∧
    (s.misuse p wr a c).rd DEVICE.DENY_LAST_WRITE = bit wr ∧ (s.misuse p wr a c).rd DEVICE.DENY_LAST_PORT = p.code ∧
    (s.misuse p wr a c).rd DEVICE.DENY_LAST_WORD = a / 4 % 2 ^ 22 := by
  have hother := fun (t : State) (f g : Fld) (v j : Nat) (h : place g 0 ≠ place f 0) => rdn_wrn_elsewhere t v 0 j h
  have hbit : bit wr % 2 ^ 1 = bit wr := by cases wr <;> rfl
  have hport : p.code % 2 ^ 3 = p.code := by cases p <;> rfl
  have hcount : min (s.rdn 0 DEVICE.DENY_CNT_COUNT p.code + 1) (2 ^ 32 - 1) % 2 ^ 32 =
      min (s.rdn 0 DEVICE.DENY_CNT_COUNT p.code + 1) 0xFFFFFFFF := by omega
  simp only [State.misuse, State.sat, State.satn, wr_eq, rd_eq]
  refine ⟨?_, ?_, ?_, ?_, ?_, rdn_wrn_same _ 0 DEVICE.DENY_LAST_WORD _ 0⟩
  · rw [hother _ _ _ _ _ (by decide), hother _ _ _ _ _ (by decide), hother _ _ _ _ _ (by decide),
      hother _ _ _ _ _ (by decide), hother _ _ _ _ _ (by decide), rdn_wrn_same]
    exact hcount
  · rw [hother _ _ _ _ _ (by decide), hother _ _ _ _ _ (by decide), hother _ _ _ _ _ (by decide),
      hother _ _ _ _ _ (by decide), rdn_wrn_same]
    rfl
  · rw [hother _ _ _ _ _ (by decide), hother _ _ _ _ _ (by decide), hother _ _ _ _ _ (by decide), rdn_wrn_same]
    rfl
  · rw [hother _ _ _ _ _ (by decide), hother _ _ _ _ _ (by decide), rdn_wrn_same]
    exact hbit
  · rw [hother _ _ _ _ _ (by decide), rdn_wrn_same]
    exact hport

/-- A refused write as the port sees it: a wrong lock key is answered as done, the others with their case; the host's are
logged in AER. -/
def refused (s : State) (p : Port) (a c : Nat) : State :=
  (if c = 5 then (s.heard p).misuse p true a 5 else ((s.heard p).misuse p true a c).aerLog p).emit
    (.answer p.code (c = 5) (if c = 5 then 0 else c) 0)

/-- A write that is a case of R41 is refused. -/
theorem exec_registerWrite_refused (s : State) (p : Port) (a v dw be c : Nat) (ha : a < 2 ^ 24) (harr : s.arrives p = true)
    (hcredit : s.hostWaits p true = false) (hpair : msixPair p a dw be = false)
    (hjudge : s.judge p true a (v % 2 ^ 32) (oneWord dw be) = some c) :
    exec (.registerWrite p ⟨a, dw, be⟩ v) s = .next (refused s p a c) := by
  rw [exec_registerWrite s p a v dw be ha]
  by_cases hc : c = 5
  · simp only [State.busWrite, State.busWriteNow, harr, hcredit, hpair, hjudge, hc, refused, if_true]
    rfl
  · simp only [State.busWrite, State.busWriteNow, harr, hcredit, hpair, hjudge, refused, hc]
    rfl

theorem aerLog_frame (s : State) (p : Port) :
    s.aerLog p = { s with pcie := if p = .host then { s.pcie with aer := setBit s.pcie.aer 15 } else s.pcie } := by
  unfold State.aerLog
  split <;> rfl

/-- A refused write changes register fields, the log of answers and AER. -/
theorem refused_frame (s : State) (p : Port) (a c : Nat) :
    refused s p a c = { s.heard p with
      regs := ((s.heard p).misuse p true a c).regs
      sent := s.sent ++ [.answer p.code (c = 5) (if c = 5 then 0 else c) 0]
      pcie := if p = .host ∧ c ≠ 5 then { s.pcie with aer := setBit s.pcie.aer 15 } else s.pcie } := by
  obtain ⟨rs, hmisuse⟩ := misuse_regsOnly (s.heard p) p true a c
  obtain ⟨ts, hheard⟩ := heard_frame s p
  rw [refused]
  by_cases hc : c = 5
  · subst hc
    rw [if_pos rfl, hmisuse, hheard]
    simp only [ne_eq, not_true_eq_false, and_false, if_false]
    rfl
  · rw [if_neg hc, aerLog_frame, hmisuse, hheard]
    simp only [hc, ne_eq, not_false_eq_true, and_true]
    rfl

theorem refused_leaves (s : State) (p : Port) (a v c : Nat) (one : Bool) (ha : a < 2 ^ 24) (hc : s.judge p true a v one = some c) :
    (refused s p a c).rd DEVICE.DENY_CNT_COUNT p.code = min (s.rd DEVICE.DENY_CNT_COUNT p.code + 1) 0xFFFFFFFF ∧
      (refused s p a c).rd DEVICE.DENY_LAST_VALID = 1 ∧ (refused s p a c).rd DEVICE.DENY_LAST_CAUSE = c ∧
      (refused s p a c).rd DEVICE.DENY_LAST_WRITE = 1 ∧ (refused s p a c).rd DEVICE.DENY_LAST_PORT = p.code ∧
      (refused s p a c).rd DEVICE.DENY_LAST_WORD = a / 4 ∧ RegsBut s (refused s p a c) (denyKeys p) := by
  have hregs : (refused s p a c).regs = ((s.heard p).misuse p true a c).regs := by rw [refused_frame]
  have hrd : ∀ f i, (refused s p a c).rd f i = ((s.heard p).misuse p true a c).rd f i := fun f i => by
    unfold State.rd State.rdn
    rw [hregs]
  have hle := judge_cause_le s p a v c one hc
  obtain ⟨hcount, hvalid, hcause, hwrite, hport, hword⟩ := misuse_shows (s.heard p) p true a c
  refine ⟨?_, ?_, ?_, ?_, ?_, ?_, fun k hk => ?_⟩
  · rw [hrd, hcount, rd_eq, heard_rdn]
    rfl
  · rw [hrd, hvalid]
  · rw [hrd, hcause, Nat.mod_eq_of_lt (by omega)]
  · rw [hrd, hwrite]
    rfl
  · rw [hrd, hport]
  · rw [hrd, hword, Nat.mod_eq_of_lt (by omega)]
  · rw [hregs, ← heard_regs s p]
    exact misuse_regs (s.heard p) p true a c k hk

/-- Settles O4: the cases are the branches of the judgement in their order, and a refused write is a misuse and its answer. -/
theorem misuseIsJudgedInTheOrderOfTheTable : Obligations.MisuseIsJudgedInTheOrderOfTheTable := by
  unfold Obligations.MisuseIsJudgedInTheOrderOfTheTable
  refine ⟨fun s p a v _ _ => ⟨rfl, judge_misaligned s p v a true, fun h4 ha => ?_⟩,
    fun s p a v dw be c ha harr hcredit hpair hjudge => ?_⟩
  · rw [judge_register s p v a h4 ha]
    refine ⟨judgePage_unassigned s p _ _ v, judgePage_dark s p _ _ v, fun hpg hon => ⟨?_, ?_, ?_, ?_⟩⟩
    · exact judgePage_notOwner s p _ _ v hpg hon
    · exact judgePage_denied s p _ _ v hpg hon
    · exact judgePage_inReset s p _ _ v hpg hon
    · exact judgePage_wrongKey s p _ _ v hpg hon
  · obtain ⟨hcount, hvalid, hcause, hwrite, hport, hword, hregs⟩ := refused_leaves s p a _ c _ ha hjudge
    have hframe := refused_frame s p a c
    refine ⟨_, exec_registerWrite_refused s p a v dw be c ha harr hcredit hpair hjudge, hcount, hvalid, hcause, hwrite, hport,
      hword, ?_, ?_, hregs, ?_⟩ <;> rw [hframe]

/-! ### LOCK, FLT_INJ, BLK_ACCESS, DENY_CLR (R32-R37, R42) -/

theorem heard_locked (s : State) (p : Port) (pg : Nat) : (s.heard p).locked pg = s.locked pg := by
  rw [State.locked, State.locked, heard_rdn]

theorem heard_event (s : State) (p : Port) (pg b : Nat) : event (s.heard p) pg b = event s pg b := by
  rw [event, event, heard_rdn]

/-- An answered write that has changed nothing but register fields. -/
theorem answered_regs (s : State) (p : Port) (rs : Tbl Nat) :
    { s.heard p with regs := rs }.emit (done p) = { s.heard p with regs := rs, sent := s.sent ++ [done p] } := by
  rw [← heard_sent s p]
  rfl

section
variable (s : State) (p : Port) (pg v : Nat)

theorem exec_lock (h : Permitted s p pg 0x24 0x4C4F434B) :
    exec (.lock p pg 0x4C4F434B) s = .next (((s.heard p).wrn pg HDR.LOCK_LOCKED 1).emit (done p)) :=
  congrArg Host.Outcome.next (access_permitted s p pg 0x24 0x4C4F434B _ h)

theorem exec_fltInjWrite (h : Permitted s p pg 0x20 v) :
    exec (.fltInjWrite p pg v) s = .next (((s.heard p).fltInj pg v).emit (done p)) :=
  congrArg Host.Outcome.next (access_permitted s p pg 0x20 v _ h)

theorem exec_blkAccessWrite (h : Permitted s p pg 0x0C v) :
    exec (.blkAccessWrite p pg v) s = .next (((s.heard p).writeMasks pg v).emit (done p)) :=
  congrArg Host.Outcome.next (access_permitted s p pg 0x0C v _ h)

theorem exec_intSet (h : Permitted s p pg 0x18 v) :
    exec (.intSet p pg v) s = .next (((s.heard p).intSet pg v).emit (done p)) :=
  congrArg Host.Outcome.next (access_permitted s p pg 0x18 v _ h)

theorem exec_intStatClear (h : Permitted s p pg 0x10 v) :
    exec (.intStatClear p pg v) s = .next (((s.heard p).intClear pg v).emit (done p)) :=
  congrArg Host.Outcome.next (access_permitted s p pg 0x10 v _ h)

theorem exec_intEnWrite (h : Permitted s p pg 0x14 v) :
    exec (.intEnWrite p pg v) s = .next (((s.heard p).intEnable pg v).emit (done p)) :=
  congrArg Host.Outcome.next (access_permitted s p pg 0x14 v _ h)

theorem exec_denyClr (h : Permitted s p 0 0x118 v) :
    exec (.denyClr p v) s = .next (((s.heard p).denyClr v).emit (done p)) :=
  congrArg Host.Outcome.next (access_permitted s p 0 0x118 v _ h)

theorem fltInj_locked (h : s.locked pg = true) : s.fltInj pg v = s := if_pos h

theorem fltInj_unlocked (h : s.locked pg = false) : s.fltInj pg v = s.wrn pg HDR.FLT_INJ_INJECT (v &&& checkerMask pg) :=
  if_neg (by simp [h])

theorem writeMasks_locked (h : s.locked pg = true) : s.writeMasks pg v = s := if_pos h

theorem writeMasks_unlocked (h : s.locked pg = false) : s.writeMasks pg v =
    (s.wrn pg HDR.BLK_ACCESS_RD_MASK (bits v 0 6) pg).wrn pg HDR.BLK_ACCESS_WR_MASK (bits v 8 6) pg := if_neg (by simp [h])

/-- What the two masks hold after a write of them. -/
theorem masks_stored :
    let t := (s.wrn pg HDR.BLK_ACCESS_RD_MASK (bits v 0 6) pg).wrn pg HDR.BLK_ACCESS_WR_MASK (bits v 8 6) pg
    t.rdn pg HDR.BLK_ACCESS_RD_MASK pg = bits v 0 6 ∧ t.rdn pg HDR.BLK_ACCESS_WR_MASK pg = bits v 8 6 := by
  refine ⟨?_, (rdn_wrn_same _ pg HDR.BLK_ACCESS_WR_MASK _ pg).trans (Nat.mod_mod _ _)⟩
  rw [rdn_wrn_elsewhere _ _ _ _ (by simp [place, HDR.BLK_ACCESS_RD_MASK, HDR.BLK_ACCESS_WR_MASK]), rdn_wrn_same]
  exact Nat.mod_mod _ _

/-- Setting LOCKED where it is set changes no field. -/
theorem rdn_lock_locked (h : s.locked pg = true) (n : Nat) (f : Fld) (i : Nat) :
    (s.wrn pg HDR.LOCK_LOCKED 1).rdn n f i = s.rdn n f i := by
  by_cases hk : f.key n i = HDR.LOCK_LOCKED.key pg 0
  · have hset : Tbl.find s.regs (HDR.LOCK_LOCKED.key pg 0) = some 1 := by
      have hone : (Tbl.find s.regs (HDR.LOCK_LOCKED.key pg 0)).getD 0 = 1 := of_decide_eq_true h
      cases hfind : Tbl.find s.regs (HDR.LOCK_LOCKED.key pg 0) with
      | none => simp [hfind] at hone
      | some w => simpa [hfind] using hone
    have hput : Tbl.find (s.wrn pg HDR.LOCK_LOCKED 1).regs (HDR.LOCK_LOCKED.key pg 0) = some 1 := find_put_same _ _ _
    unfold State.rdn
    rw [hk, hput, hset]
  · exact rdn_wrn_other s pg n HDR.LOCK_LOCKED f 1 0 i hk

end

theorem key_denyCnt_ne {q r : Nat} (hq : q < 6) (hr : r < 6) (h : q ≠ r) :
    DEVICE.DENY_CNT_COUNT.key 0 q ≠ DEVICE.DENY_CNT_COUNT.key 0 r := by
  unfold Fld.key
  omega

/-- Counters cleared one by one: each listed one reads 0, and nothing else changes. -/
theorem foldl_denyCnt (qs : List Nat) : ∀ s : State, (∀ q ∈ qs, q < 6) →
    let t := qs.foldl (fun t q => t.wr DEVICE.DENY_CNT_COUNT 0 q) s
    (∃ rs, t = { s with regs := rs }) ∧ RegsBut s t (qs.map (fun q => key DEVICE.DENY_CNT_COUNT q)) ∧
      ∀ q, q < 6 → t.rd DEVICE.DENY_CNT_COUNT q = if q ∈ qs then 0 else s.rd DEVICE.DENY_CNT_COUNT q := by
  induction qs with
  | nil => exact fun s _ => ⟨⟨s.regs, rfl⟩, regsBut_refl s _, fun q _ => rfl⟩
  | cons a qs ih =>
    intro s hqs
    obtain ⟨⟨rs, hframe⟩, hregs, hread⟩ := ih (s.wr DEVICE.DENY_CNT_COUNT 0 a) (fun q hq => hqs q (List.mem_cons_of_mem a hq))
    refine ⟨⟨rs, hframe⟩, ?_, fun q hq => (hread q hq).trans ?_⟩
    · exact regsBut_trans (regsBut_wrn s 0 DEVICE.DENY_CNT_COUNT 0 a List.mem_cons_self) (regsBut_mono hregs (List.subset_cons_self _ _))
    · by_cases ha : q = a
      · have hzero : (s.wr DEVICE.DENY_CNT_COUNT 0 a).rd DEVICE.DENY_CNT_COUNT a = 0 := rdn_wrn_same s 0 _ 0 a
        simp only [ha, hzero, List.mem_cons, true_or, ite_self, if_true]
      · have hother : (s.wr DEVICE.DENY_CNT_COUNT 0 a).rd DEVICE.DENY_CNT_COUNT q = s.rd DEVICE.DENY_CNT_COUNT q :=
          rdn_wrn_other s 0 0 _ _ 0 a q (key_denyCnt_ne hq (hqs a List.mem_cons_self) ha)
        rw [hother]
        simp only [List.mem_cons, ha, false_or]

/-- DENY_CLR clears the counters of the ports written as 1 (R42). -/
theorem denyClr_leaves (s : State) (v : Nat) :
    (∃ rs, s.denyClr v = { s with regs := rs }) ∧
      RegsBut s (s.denyClr v) ((List.range 6).map (fun q => key DEVICE.DENY_CNT_COUNT q)) ∧
      ∀ q, q < 6 → (s.denyClr v).rd DEVICE.DENY_CNT_COUNT q = if bitOf v q then 0 else s.rd DEVICE.DENY_CNT_COUNT q := by
  obtain ⟨hframe, hregs, hread⟩ := foldl_denyCnt ((List.range 6).filter (bitOf v)) s (by simp; omega)
  refine ⟨hframe, regsBut_mono hregs (List.map_subset _ (List.filter_subset_self _)), fun q hq => (hread q hq).trans ?_⟩
  simp only [List.mem_filter, List.mem_range, hq, true_and]

/-! ### INT_SET, INT_STAT, INT_EN (R33, R48, R49) -/

/-- Events raised one by one: each sets its bit, and nothing changes but INT_STAT, MSI-X and the log. -/
theorem foldl_raise (pg : Nat) (bs : List Nat) : ∀ s : State,
    let t := bs.foldl (fun t b => t.raise pg b) s
    (∃ rs m l, t = { s with regs := rs, msix := m, sent := l }) ∧ RegsBut s t [intStat pg] ∧
      ∀ j, j < 32 → event t pg j = (event s pg j || decide (j ∈ bs)) := by
  induction bs with
  | nil => exact fun s => ⟨⟨s.regs, s.msix, s.sent, rfl⟩, regsBut_refl s _, fun j _ => by simp⟩
  | cons b bs ih =>
    intro s
    obtain ⟨⟨rs, m, l, hframe⟩, hregs, hevent⟩ := ih (s.raise pg b)
    obtain ⟨m', l', hraise⟩ := raise_frame s pg b
    refine ⟨⟨rs, m, l, hframe.trans (by rw [hraise]; rfl)⟩, regsBut_trans (regsBut_raise s pg b) hregs, fun j hj => ?_⟩
    refine (hevent j hj).trans ?_
    rw [event_raise s pg b j hj, Bool.or_comm (decide (b = j)), Bool.or_assoc]
    congr 1
    simp [eq_comm]

/-- INT_SET sets the bits written as 1 that name an event (R33). -/
theorem intSet_leaves (s : State) (pg v : Nat) :
    (∃ rs m l, s.intSet pg v = { s with regs := rs, msix := m, sent := l }) ∧ RegsBut s (s.intSet pg v) [intStat pg] ∧
      ∀ b, b < 32 → event (s.intSet pg v) pg b = (event s pg b || bitOf (v &&& irqMask pg) b) := by
  obtain ⟨hframe, hregs, hevent⟩ := foldl_raise pg ((List.range 32).filter (bitOf (v &&& irqMask pg))) s
  refine ⟨hframe, hregs, fun b hb => (hevent b hb).trans ?_⟩
  simp [hb]

/-- The bits of INT_STAT after a write of it (R49). -/
theorem intClear_event (s : State) (pg v b : Nat) (hb : b < 32) :
    event (s.intClear pg v) pg b = (event s pg b && !(bitOf v b && !s.justNow pg b)) := by
  unfold State.intClear event
  dsimp only
  rw [settle_rdn, rdn_wrn_same]
  simp only [bitOf_eq_testBit]
  rw [Nat.testBit_mod_two_pow, testBit_sub_and, testBit_sub_and, State.intWins, (testBit_mapBits 32 (s.justNow pg)).2]
  simp [hb, show b < HDR.INT_STAT_EVENTS.w from hb]

theorem intClear_frame (s : State) (pg v : Nat) :
    (∃ rs m l, s.intClear pg v = { s with regs := rs, msix := m, sent := l }) ∧ RegsBut s (s.intClear pg v) [intStat pg] := by
  unfold State.intClear
  dsimp only
  generalize s.rdn pg HDR.INT_STAT_EVENTS - (s.rdn pg HDR.INT_STAT_EVENTS &&& (v - (v &&& s.intWins pg))) = w
  obtain ⟨m, l, h⟩ := settle_frame (s.wrn pg HDR.INT_STAT_EVENTS w) s pg true
  rw [h]
  exact ⟨⟨_, m, l, rfl⟩, regsBut_wrn s pg HDR.INT_STAT_EVENTS w 0 (by simp [intStat])⟩

theorem heard_justNow (s : State) (p : Port) (pg b : Nat) : (s.heard p).justNow pg b = s.justNow pg b := by
  obtain ⟨ts, h⟩ := heard_frame s p
  rw [h]
  rfl

theorem intEnable_leaves (s : State) (pg v : Nat) :
    (∃ rs m l, s.intEnable pg v = { s with regs := rs, msix := m, sent := l }) ∧
      RegsBut s (s.intEnable pg v) [HDR.INT_EN_ENABLES.key pg 0] ∧
      (s.intEnable pg v).rdn pg HDR.INT_EN_ENABLES = (v &&& irqMask pg) % 2 ^ 32 := by
  unfold State.intEnable
  obtain ⟨m, l, h⟩ := settle_frame (s.wrn pg HDR.INT_EN_ENABLES (v &&& irqMask pg)) s pg true
  refine ⟨?_, ?_, ?_⟩
  · rw [h]
    exact ⟨_, m, l, rfl⟩
  · rw [h]
    exact regsBut_wrn s pg HDR.INT_EN_ENABLES _ 0 (by simp)
  · rw [settle_rdn]
    exact rdn_wrn_same s pg HDR.INT_EN_ENABLES _ 0

/-- An answered write that has changed register fields, MSI-X and the log. -/
theorem answered_irq {s : State} {p : Port} {t : State} (h : ∃ rs m l, t = { s.heard p with regs := rs, msix := m, sent := l }) :
    t.emit (done p) = { s.heard p with
      regs := (t.emit (done p)).regs, msix := (t.emit (done p)).msix, sent := (t.emit (done p)).sent } := by
  obtain ⟨rs, m, l, rfl⟩ := h
  rfl

theorem regsBut_heard {s : State} {p : Port} {t : State} {ks : List Nat} (h : RegsBut (s.heard p) t ks) (e : Emit) :
    RegsBut s (t.emit e) ks := fun k hk => (h k hk).trans (by rw [heard_regs])

/-- Settles O5: each write comes down to a store, a fold of events, or a store and the messages it calls for. -/
theorem pageHeaderWritesComplete : Obligations.PageHeaderWritesComplete := by
  unfold Obligations.PageHeaderWritesComplete
  refine ⟨?_, ?_, ?_, ?_, ?_, ?_, ?_⟩
  case refine_1 =>
    intro s p pg hperm
    refine ⟨_, exec_lock s p pg hperm, ?_, ?_, answered_regs s p _⟩
    · rw [State.locked, emit_rdn, rdn_wrn_same]
      rfl
    · exact regsBut_heard (regsBut_wrn _ pg HDR.LOCK_LOCKED 1 0 (by simp)) _
  case refine_2 =>
    intro s p pg v hperm
    obtain ⟨hframe, hregs, hevent⟩ := intSet_leaves (s.heard p) pg v
    refine ⟨_, exec_intSet s p pg v hperm, fun b hb => ?_, regsBut_heard hregs _, answered_irq hframe⟩
    rw [← heard_event s p]
    exact hevent b hb
  case refine_3 =>
    intro s p pg v hperm
    obtain ⟨hframe, hregs⟩ := intClear_frame (s.heard p) pg v
    refine ⟨_, exec_intStatClear s p pg v hperm, fun b hb => ?_, regsBut_heard hregs _, answered_irq hframe⟩
    rw [← heard_event s p, ← heard_justNow s p]
    exact intClear_event (s.heard p) pg v b hb
  case refine_4 =>
    intro s p pg v hperm
    obtain ⟨hframe, hregs, hen⟩ := intEnable_leaves (s.heard p) pg v
    exact ⟨_, exec_intEnWrite s p pg v hperm, hen, regsBut_heard hregs _, answered_irq hframe⟩
  case refine_5 =>
    intro s p pg v hperm hlock
    rw [exec_fltInjWrite s p pg v hperm, fltInj_unlocked _ pg v (by rwa [heard_locked])]
    exact ⟨_, rfl, rdn_wrn_same _ pg HDR.FLT_INJ_INJECT _ 0, regsBut_heard (regsBut_wrn _ pg _ _ 0 (by simp)) _,
      answered_regs s p _⟩
  case refine_6 =>
    intro s p pg v hperm hlock
    rw [exec_blkAccessWrite s p pg v hperm, writeMasks_unlocked _ pg v (by rwa [heard_locked])]
    obtain ⟨hrd, hwr⟩ := masks_stored (s.heard p) pg v
    refine ⟨_, rfl, hrd, hwr, regsBut_heard (regsBut_trans (regsBut_wrn _ pg HDR.BLK_ACCESS_RD_MASK _ pg (by simp))
      (regsBut_wrn _ pg HDR.BLK_ACCESS_WR_MASK _ pg (by simp))) _, answered_regs s p _⟩
  case refine_7 =>
    intro s p v hperm
    obtain ⟨⟨rs, hframe⟩, hregs, hread⟩ := denyClr_leaves (s.heard p) v
    refine ⟨_, exec_denyClr s p v hperm, fun q hq => ?_, regsBut_heard hregs _, ?_⟩
    · refine (hread q hq).trans ?_
      rw [rd_eq, rd_eq, heard_rdn]
    · rw [hframe]
      exact answered_regs s p rs

/-- Settles O6: each of the writes returns at once on a locked page, and the key stores the value that stands there. -/
theorem lockedPageKeepsItsLockableRegisters : Obligations.LockedPageKeepsItsLockableRegisters := by
  unfold Obligations.LockedPageKeepsItsLockableRegisters
  refine ⟨fun s p pg v hlock hperm => ?_, fun s p pg v hlock hperm => ?_, fun s p pg hlock hperm => ?_⟩
  · rw [exec_fltInjWrite s p pg v hperm, fltInj_locked _ pg v (by rwa [heard_locked])]
  · rw [exec_blkAccessWrite s p pg v hperm, writeMasks_locked _ pg v (by rwa [heard_locked])]
  · have hkeeps := rdn_lock_locked (s.heard p) pg (by rwa [heard_locked])
    refine ⟨_, exec_lock s p pg hperm, ?_, fun n f i => (hkeeps n f i).trans (heard_rdn s p n f i)⟩
    rw [State.locked, emit_rdn, hkeeps, heard_rdn]
    exact hlock

/-! ### Messages after a write of INT_STAT or INT_EN (R48) -/

/-- The message of a vector, as the MSI-X table gives it. -/
def msixOf (s : State) (src : Nat) : Emit :=
  .msix src (s.msix.word (4 * src) + s.msix.word (4 * src + 1) * 2 ^ 32) (s.msix.word (4 * src + 2))

/-- What a write of INT_STAT or INT_EN does for one source: sends or leaves pending if it stays asserted, else drops the pending
bit. -/
def settleSource (t : State) (src : Nat) : State :=
  if t.asserted src then t.msixSend src else { t with msix := { t.msix with pba := deleteNat t.msix.pba src } }

theorem settle_write (s old : State) (pg : Nat) : s.settle old pg true = (sourcesOf pg).foldl settleSource s := by
  unfold State.settle settleSource
  simp only [Bool.true_or, if_true]

/-- Only the pending bits and the log have changed, the log by `l` at its end. -/
def SentMsix (s t : State) (l : List Emit) : Prop :=
  t = { s with msix := { s.msix with pba := t.msix.pba }, sent := s.sent ++ l }

/-- One source: its message or its pending bit, and the other sources' pending bits as before. -/
theorem settleSource_sends (s : State) (src : Nat) : ∃ l, SentMsix s (settleSource s src) l ∧
    (s.asserted src = true → s.msixOpen src = true → msixOf s src ∈ l) ∧
    (src ∈ (settleSource s src).msix.pba ↔ s.asserted src = true ∧ s.msixOpen src = false) ∧
    ∀ v, v ≠ src → (v ∈ (settleSource s src).msix.pba ↔ v ∈ s.msix.pba) := by
  unfold settleSource State.msixSend
  by_cases hasserted : s.asserted src = true
  · by_cases hopen : s.msixOpen src = true
    · rw [if_pos hasserted, if_pos hopen]
      exact ⟨[msixOf s src], rfl, fun _ _ => List.mem_cons_self, by simp [mem_deleteNat_iff, hopen],
        fun v hv => by simp [mem_deleteNat_iff, hv]⟩
    · rw [if_pos hasserted, if_neg hopen]
      refine ⟨[], ?_, fun _ h => absurd h hopen, by simp [mem_insertNat_iff, hasserted, hopen],
        fun v hv => by simp [mem_insertNat_iff, hv]⟩
      rw [SentMsix, List.append_nil]
  · rw [if_neg hasserted]
    refine ⟨[], ?_, fun h => absurd h hasserted, by simp [mem_deleteNat_iff, hasserted],
      fun v hv => by simp [mem_deleteNat_iff, hv]⟩
    rw [SentMsix, List.append_nil]

/-- What decides about a source and its message is not changed by messages. -/
theorem sentMsix_same {s t : State} {l : List Emit} (h : SentMsix s t l) (src : Nat) :
    t.asserted src = s.asserted src ∧ t.msixOpen src = s.msixOpen src ∧ msixOf t src = msixOf s src := by
  unfold SentMsix at h
  rw [h]
  exact ⟨rfl, rfl, rfl⟩

theorem sentMsix_trans {s t u : State} {l k : List Emit} (h : SentMsix s t l) (h' : SentMsix t u k) : SentMsix s u (l ++ k) := by
  unfold SentMsix at h h' ⊢
  rw [h', h, List.append_assoc]

/-- Each of a list of different sources: its message or its pending bit. -/
theorem foldl_settleSource (srcs : List Nat) (hnodup : srcs.Nodup) : ∀ s : State,
    ∃ l, SentMsix s (srcs.foldl settleSource s) l ∧
      (∀ src ∈ srcs, s.asserted src = true → s.msixOpen src = true → msixOf s src ∈ l) ∧
      (∀ src ∈ srcs, (src ∈ (srcs.foldl settleSource s).msix.pba ↔ s.asserted src = true ∧ s.msixOpen src = false)) ∧
      ∀ v, v ∉ srcs → (v ∈ (srcs.foldl settleSource s).msix.pba ↔ v ∈ s.msix.pba) := by
  induction srcs with
  | nil =>
    refine fun s => ⟨[], ?_, nofun, nofun, fun _ _ => Iff.rfl⟩
    rw [SentMsix, List.append_nil]
    rfl
  | cons a srcs ih =>
    intro s
    obtain ⟨hnew, hnodup'⟩ := List.nodup_cons.mp hnodup
    obtain ⟨l, hone, hmsg, hpba, hother⟩ := settleSource_sends s a
    obtain ⟨k, hrest, hmsgs, hpbas, hothers⟩ := ih hnodup' (settleSource s a)
    refine ⟨l ++ k, sentMsix_trans hone hrest, fun src hsrc hasserted hopen => ?_, fun src hsrc => ?_, fun v hv => ?_⟩
    · obtain ⟨ha, ho, hm⟩ := sentMsix_same hone src
      rcases List.mem_cons.mp hsrc with rfl | hin
      · exact List.mem_append_left k (hmsg hasserted hopen)
      · exact List.mem_append_right l (hm ▸ hmsgs src hin (ha.trans hasserted) (ho.trans hopen))
    · obtain ⟨ha, ho, -⟩ := sentMsix_same hone src
      rcases List.mem_cons.mp hsrc with rfl | hin
      · exact (hothers src hnew).trans hpba
      · rw [List.foldl_cons, hpbas src hin, ha, ho]
    · rw [List.mem_cons, not_or] at hv
      exact (hothers v hv.2).trans (hother v hv.1)

theorem sourcesOf_nodup (pg : Nat) : (sourcesOf pg).Nodup := by
  unfold sourcesOf
  split_ifs
  · simp
    omega
  · simp
  · simp
  · split <;> decide

/-- The sources of a page after a permitted write of INT_STAT or INT_EN, whose store is `u`: each asserted one has sent its
message or is pending, and no other is pending. -/
theorem sources_settled (s : State) (p : Port) (u old : State) (pg src : Nat) (hsrc : src ∈ sourcesOf pg)
    (hu : ∃ rs, u = { s.heard p with regs := rs }) :
    ∃ l, ((u.settle old pg true).emit (done p)).sent = s.sent ++ l ++ [done p] ∧
      let t := (u.settle old pg true).emit (done p)
      (t.asserted src = true → s.msixOpen src = true → msixOf s src ∈ l ∧ src ∉ t.msix.pba) ∧
      (t.asserted src = true → s.msixOpen src = false → src ∈ t.msix.pba) ∧ (t.asserted src = false → src ∉ t.msix.pba) := by
  obtain ⟨l, hsent, hmsg, hpba, -⟩ := foldl_settleSource (sourcesOf pg) (sourcesOf_nodup pg) u
  rw [← settle_write u old pg] at hsent hpba
  have hasserted : ((u.settle old pg true).emit (done p)).asserted src = u.asserted src := (sentMsix_same hsent src).1
  have hlog : (u.settle old pg true).sent = u.sent ++ l := by rw [hsent]
  have hpba' := hpba src hsrc
  have hu' : u.sent = s.sent ∧ u.msixOpen src = s.msixOpen src ∧ msixOf u src = msixOf s src := by
    obtain ⟨rs, rfl⟩ := hu
    obtain ⟨ts, h⟩ := heard_frame s p
    rw [h]
    exact ⟨rfl, rfl, rfl⟩
  obtain ⟨hsent0, hopen0, hmsg0⟩ := hu'
  refine ⟨l, by rw [emit_sent, hlog, hsent0], fun ha ho => ⟨?_, fun hin => ?_⟩, fun ha ho => ?_, fun ha hin => ?_⟩
  · rw [← hmsg0]
    exact hmsg src hsrc (hasserted ▸ ha) (hopen0.trans ho)
  · exact absurd (hpba'.mp hin).2 (by simp [hopen0, ho])
  · exact hpba'.mpr ⟨hasserted ▸ ha, hopen0.trans ho⟩
  · exact absurd (hpba'.mp hin).1 (by simp [← hasserted, ha])

/-- Settles O7: both writes are a store of one field and then the page's sources, one by one. -/
theorem assertedSourceLeftByAWriteSendsItsMessage : Obligations.AssertedSourceLeftByAWriteSendsItsMessage := by
  unfold Obligations.AssertedSourceLeftByAWriteSendsItsMessage
  refine ⟨fun s p pg v src hperm hsrc => ?_, fun s p pg v src hperm hsrc => ?_⟩
  · obtain ⟨l, h⟩ := sources_settled s p _ (s.heard p) pg src hsrc ⟨((s.heard p).wrn pg HDR.INT_STAT_EVENTS
      ((s.heard p).rdn pg HDR.INT_STAT_EVENTS - ((s.heard p).rdn pg HDR.INT_STAT_EVENTS &&&
        (v - (v &&& (s.heard p).intWins pg))))).regs, rfl⟩
    exact ⟨_, l, exec_intStatClear s p pg v hperm, h⟩
  · obtain ⟨l, h⟩ := sources_settled s p _ (s.heard p) pg src hsrc
      ⟨((s.heard p).wrn pg HDR.INT_EN_ENABLES (v &&& irqMask pg)).regs, rfl⟩
    exact ⟨_, l, exec_intEnWrite s p pg v hperm, h⟩

end Sys2Proof.Proofs
end

section
/-! PROOFS. Soft resets and software fences (R28-R31). -/

set_option Elab.async false

namespace Sys2Proof.Proofs

open Sys2Proof.Machine Sys2Proof.Safety Sys2Proof.Laws

/-! ### BLK_CTRL (R28) -/

section
variable (s : State) (pg : Nat)

/-- ENABLE of a block that does nothing by itself when it is written. -/
theorem setEnable_plain (on : Bool) (husb : pg ≠ 0x48) (hbrk : pg ≠ 0x4C) (hline : pg ≠ 0x4D)
    (hlink : on = true ∨ (pg ≠ 0x08 ∧ pg ≠ 0x0A ∧ pg ≠ 0x0C)) : s.setEnable pg on = s.wrn pg HDR.BLK_CTRL_ENABLE (bit on) := by
  have hheld : ¬ (pg = 0x4C && !on && s.anyChannelOn) = true := by simp [hbrk]
  rw [State.setEnable, if_neg hheld]
  dsimp only
  rcases hlink with rfl | ⟨heast, hwest, htwin⟩
  · split
    · rfl
    · rfl
    · rfl
    · exact absurd rfl husb
    · exact absurd rfl hbrk
    · exact absurd rfl hline
    · rfl
  · split
    · exact absurd rfl heast
    · exact absurd rfl hwest
    · exact absurd rfl htwin
    · exact absurd rfl husb
    · exact absurd rfl hbrk
    · exact absurd rfl hline
    · rfl

theorem setFenceReq_on (hbrk : pg ≠ 0x4C) : s.setFenceReq pg true = s.wrn pg HDR.BLK_CTRL_FENCE_REQ 1 := if_neg hbrk

theorem setFenceReq_off (hbrk : pg ≠ 0x4C) (h : s.fenceReq pg = false) : s.setFenceReq pg false =
    { s.wrn pg HDR.BLK_CTRL_FENCE_REQ 0 with
      pageUnit := { s.pageUnit with swFence := deleteNat s.pageUnit.swFence pg } } := by
  rw [State.setFenceReq, if_neg hbrk]
  simp only [h]
  rfl

theorem place_enable_ne_fenceReq : place HDR.BLK_CTRL_ENABLE pg ≠ place HDR.BLK_CTRL_FENCE_REQ pg := by
  simp [place, HDR.BLK_CTRL_ENABLE, HDR.BLK_CTRL_FENCE_REQ]

end

/-- The register fields a write of BLK_CTRL stores. -/
def blkCtrlKeys (pg : Nat) : List Nat := [HDR.BLK_CTRL_ENABLE.key pg 0, HDR.BLK_CTRL_FENCE_REQ.key pg 0]

/-- `t` is `s` with ENABLE and FENCE_REQ of the page written, and perhaps no longer fenced by software. -/
def BlkCtrlWritten (s t : State) (pg : Nat) : Prop :=
  (∃ rs sw, t = { s with regs := rs, pageUnit := { s.pageUnit with swFence := sw } }) ∧ RegsBut s t (blkCtrlKeys pg) ∧
    (Tbl.rising s.regs = true → Tbl.rising t.regs = true)

/-- Writing ENABLE, and FENCE_REQ as it was. -/
theorem blkCtrl_kept (s : State) (pg : Nat) (on fence : Bool) (hpg : pg = 0x05 ∨ pg = 0x06 ∨ pg = 0x10 ∨ pg = 0x16)
    (hfence : s.fenceReq pg = fence) : BlkCtrlWritten s ((s.setEnable pg on).setFenceReq pg fence) pg := by
  have hbrk : pg ≠ 0x4C := by omega
  rw [setEnable_plain s pg on (by omega) hbrk (by omega) (.inr (by omega))]
  have hregs : ∀ v, RegsBut s ((s.wrn pg HDR.BLK_CTRL_ENABLE (bit on)).wrn pg HDR.BLK_CTRL_FENCE_REQ v) (blkCtrlKeys pg) :=
    fun v => regsBut_trans (regsBut_wrn s pg HDR.BLK_CTRL_ENABLE _ 0 (by simp [blkCtrlKeys]))
      (regsBut_wrn _ pg HDR.BLK_CTRL_FENCE_REQ v 0 (by simp [blkCtrlKeys]))
  have hrise : ∀ v, Tbl.rising s.regs = true →
      Tbl.rising ((s.wrn pg HDR.BLK_CTRL_ENABLE (bit on)).wrn pg HDR.BLK_CTRL_FENCE_REQ v).regs = true := fun v h =>
    rising_wrn _ pg _ v 0 (rising_wrn s pg _ _ 0 h)
  cases fence with
  | true =>
    rw [setFenceReq_on _ pg hbrk]
    exact ⟨⟨_, s.pageUnit.swFence, rfl⟩, hregs 1, hrise 1⟩
  | false =>
    have hoff : (s.wrn pg HDR.BLK_CTRL_ENABLE (bit on)).fenceReq pg = false := by
      rw [State.fenceReq, rdn_wrn_elsewhere _ _ _ _ (place_enable_ne_fenceReq pg).symm]
      exact hfence
    rw [setFenceReq_off _ pg hbrk hoff]
    exact ⟨⟨_, _, rfl⟩, hregs 0, hrise 0⟩

/-! ### The fields a soft reset returns (R29) -/

/-- Entries of a rising table put one by one into another: its own are found first. -/
theorem find_foldl_put (t : Tbl Nat) (k : Nat) : ∀ u : Tbl Nat, Tbl.rising t = true →
    Tbl.find (t.foldl (fun (u : Tbl Nat) (e : Nat × Nat) => Tbl.put u e.1 e.2) u) k =
      (Tbl.find t k).orElse fun _ => Tbl.find u k := by
  induction t with
  | nil => exact fun u _ => rfl
  | cons e t ih =>
    obtain ⟨i, v⟩ := e
    intro u hrise
    simp only [Tbl.rising, Bool.and_eq_true, List.all_eq_true, decide_eq_true_eq] at hrise
    rw [List.foldl_cons, ih _ hrise.2, Tbl.find]
    by_cases hk : i = k
    · have hnone : Tbl.find t k = none := by
        have hfilter := find_filter t (fun j => decide (i < j)) k
        rw [List.filter_eq_self.mpr (fun e he => by simpa using hrise.1 e he)] at hfilter
        simpa [hk] using hfilter
      rw [if_pos hk, hnone, ← hk, find_put_same]
      rfl
    · rw [if_neg hk, find_put_other _ _ _ _ (Ne.symm hk)]

/-- The pages whose soft reset these lemmas follow: TOUT, CUP, SWITCH and MGMT. -/
def SoftPage (pg : Nat) : Prop := pg = 0x05 ∨ pg = 0x06 ∨ pg = 0x10 ∨ pg = 0x16

/-- Which field copies are dropped depends on the page's lock alone. -/
theorem softDrops_congr {s t : State} (pg k : Nat) (h : t.locked pg = s.locked pg) : t.softDrops pg k = s.softDrops pg k := by
  unfold State.softDrops
  rw [h]

theorem softDrops_page (s : State) (pg k : Nat) (h : keyPage k ≠ pg) : s.softDrops pg k = false := by
  simp [State.softDrops, h]

theorem key_access (pg : Nat) (f : Fld) (i : Nat) (hf : f.page = 0 ∧ f.off = 0xC ∧ f.lo < 64) :
    keyPage (f.key pg i) = pg ∧ keyOff (f.key pg i) = 0xC := by
  obtain ⟨hpage, hoff, hlo⟩ := hf
  simp only [keyPage, keyOff, Fld.key, hpage, hoff]
  omega

/-- The masks of a page are not dropped. -/
theorem softDrops_masks (s : State) (pg : Nat) (f : Fld) (i : Nat) (hf : f.page = 0 ∧ f.off = 0xC ∧ f.lo < 64) :
    s.softDrops pg (f.key pg i) = false := by
  obtain ⟨-, hoff⟩ := key_access pg f i hf
  simp [State.softDrops, hoff]

/-- OTP gives these pages their masks and nothing else (R38, R463). -/
theorem otpPage_soft (s : State) (pg : Nat) (hpg : SoftPage pg) :
    RegsBut s (s.otpPage pg) [HDR.BLK_ACCESS_RD_MASK.key pg pg, HDR.BLK_ACCESS_WR_MASK.key pg pg] := by
  by_cases hsel : s.otp.sel = none
  · rw [State.otpPage, if_pos hsel]
    exact regsBut_refl s _
  · have hmasked : s.otpPage pg = masked s pg := by
      rw [State.otpPage, if_neg hsel]
      rcases hpg with rfl | rfl | rfl | rfl <;> rfl
    rw [hmasked]
    unfold masked
    split
    · exact regsBut_refl s _
    · exact regsBut_trans (regsBut_wrn s pg _ _ pg (by simp)) (regsBut_wrn _ pg _ _ pg (by simp))

/-- After a soft reset of one of these pages a dropped field copy is at its reset value, every other as before. -/
theorem find_softFields (s : State) (pg k : Nat) (hpg : SoftPage pg) (hrise : Tbl.rising s.regs = true) :
    Tbl.find (s.softFields pg).regs k = if s.softDrops pg k then none else Tbl.find s.regs k := by
  have hotp := otpPage_soft { s with regs := s.regs.filter (fun e => !s.softDrops pg e.1) } pg hpg
  unfold State.softFields
  dsimp only
  generalize ({ s with regs := s.regs.filter (fun e => !s.softDrops pg e.1) } : State).otpPage pg = t at hotp ⊢
  rw [find_foldl_put _ k _ (rising_filter _ _ hrise),
    find_filter s.regs (fun k => decide (keyPage k = pg) && !s.softDrops pg k) k,
    find_filter t.regs (fun k => decide (keyPage k ≠ pg) || s.softDrops pg k) k]
  have hfresh : keyPage k ≠ pg ∨ s.softDrops pg k = true →
      Tbl.find t.regs k = if s.softDrops pg k then none else Tbl.find s.regs k := fun hk => by
    have hmask : ∀ f : Fld, f.page = 0 ∧ f.off = 0xC ∧ f.lo < 64 → k ≠ f.key pg pg := by
      rintro f hf rfl
      rcases hk with hk | hk
      · exact hk (key_access pg f pg hf).1
      · rw [softDrops_masks s pg f pg hf] at hk
        exact absurd hk Bool.false_ne_true
    rw [hotp k (by simp only [List.mem_cons, List.not_mem_nil, or_false, not_or]; exact ⟨hmask _ (by decide), hmask _ (by decide)⟩)]
    refine (find_filter s.regs (fun k => !s.softDrops pg k) k).trans ?_
    cases s.softDrops pg k <;> rfl
  by_cases hpage : keyPage k = pg
  · cases hdrop : s.softDrops pg k with
    | true => simp [hfresh (.inr hdrop), hdrop]
    | false => simp [hpage]
  · have hkeep := softDrops_page s pg k hpage
    simp [hpage, hfresh (.inl hpage), hkeep]

/-! ### A soft reset of these pages -/

theorem resetUnit_soft (s : State) (pg : Nat) (hpg : SoftPage pg) :
    ∃ tou c cs, s.resetUnit pg = { s with tout := tou, cup := c, cupSnap := cs } := by
  rcases hpg with rfl | rfl | rfl | rfl
  · exact ⟨[], s.cup, s.cupSnap, rfl⟩
  · exact ⟨s.tout, [], none, rfl⟩
  · exact ⟨s.tout, s.cup, s.cupSnap, rfl⟩
  · exact ⟨s.tout, s.cup, s.cupSnap, rfl⟩

theorem resetAfter_soft (s : State) (pg : Nat) (hpg : SoftPage pg) : s.resetAfter pg = s := by
  rcases hpg with rfl | rfl | rfl | rfl <;> rfl

theorem contains_insertNat (l : List Nat) (i : Nat) : (insertNat l i).contains i = true := by
  simpa using (mem_insertNat_iff l i i).mpr (.inl rfl)

/-- What a soft reset of such a page leaves: the page in reset, its dropped fields at reset, nothing reported. -/
theorem softReset_leaves (s : State) (pg : Nat) (hpg : SoftPage pg) (hrise : Tbl.rising s.regs = true)
    (hnot : s.pageUnit.inReset.contains pg = false) :
    (s.softReset pg).pageUnit.inReset.contains pg = true ∧
      (∀ k, Tbl.find (s.softReset pg).regs k = if s.softDrops pg k then none else Tbl.find s.regs k) ∧
      (s.softReset pg).flt = s.flt ∧ (s.softReset pg).bud = s.bud := by
  unfold State.softReset
  rw [if_neg (by rw [hnot]; exact Bool.false_ne_true)]
  dsimp only
  rw [resetAfter_soft _ pg hpg]
  generalize hs1 : ({ s with pageUnit := { s.pageUnit with
    inReset := insertNat s.pageUnit.inReset pg
    hold := s.pageUnit.hold.filter (fun e => e.1 % 2 ^ 24 / 4096 ≠ pg) } } : State) = s1
  obtain ⟨tou, c, cs, hunit⟩ := resetUnit_soft s1 pg hpg
  obtain ⟨m, l, hsettle⟩ := settle_frame ((s1.resetUnit pg).softFields pg) s1 pg false
  have hregs : (s1.resetUnit pg).regs = s.regs := by rw [hunit, ← hs1]
  have hlocked : (s1.resetUnit pg).locked pg = s.locked pg := by rw [hunit, ← hs1]; rfl
  rw [hsettle]
  refine ⟨?_, fun k => ?_, ?_, ?_⟩
  · show (s1.resetUnit pg).pageUnit.inReset.contains pg = true
    rw [hunit, ← hs1]
    exact contains_insertNat _ pg
  · show Tbl.find ((s1.resetUnit pg).softFields pg).regs k = _
    rw [find_softFields _ pg k hpg (by rwa [hregs]), softDrops_congr pg k hlocked, hregs]
  · show (s1.resetUnit pg).flt = s.flt
    rw [hunit, ← hs1]
  · show (s1.resetUnit pg).bud = s.bud
    rw [hunit, ← hs1]

/-- A permitted write of BLK_CTRL has its effect and is answered, and with nothing reported nothing follows. -/
theorem blkCtrl_done (s u : State) (p : Port) (hset : Settled s) (hflt : u.flt = s.flt) (hbud : u.bud = s.bud) :
    (u.emit (done p)).modeDone = u.emit (done p) := modeDone_settled _ ⟨hflt ▸ hset.1, hbud ▸ hset.2⟩

theorem exec_softReset (s : State) (p : Port) (pg v : Nat)
    (hv : v = s.rdn pg HDR.BLK_CTRL_ENABLE + 2 + 4 * s.rdn pg HDR.BLK_CTRL_FENCE_REQ) (hperm : Permitted s p pg 4 v) :
    exec (.softReset p pg) s = .next (((s.heard p).writeBlkCtrl pg v).emit (done p)).modeDone := by
  subst hv
  exact congrArg (fun u => Host.Outcome.next (State.modeDone u)) (access_permitted s p pg 4 _ _ hperm)

/-- The three bits of BLK_CTRL as SOFT_RESET writes them. -/
theorem blkCtrl_bits (e f : Nat) (he : e ≤ 1) (hf : f ≤ 1) : bitOf (e + 2 + 4 * f) 0 = decide (e = 1) ∧
    bitOf (e + 2 + 4 * f) 1 = true ∧ bitOf (e + 2 + 4 * f) 2 = decide (f = 1) := by
  interval_cases e <;> interval_cases f <;> decide

/-- The state as SOFT_RESET begins: BLK_CTRL written as it was. -/
theorem writeBlkCtrl_soft (s : State) (pg : Nat) (hpg : SoftPage pg) (hen : s.rdn pg HDR.BLK_CTRL_ENABLE ≤ 1)
    (hreq : s.rdn pg HDR.BLK_CTRL_FENCE_REQ ≤ 1) : ∃ u, BlkCtrlWritten s u pg ∧
      s.writeBlkCtrl pg (s.rdn pg HDR.BLK_CTRL_ENABLE + 2 + 4 * s.rdn pg HDR.BLK_CTRL_FENCE_REQ) = u.softReset pg := by
  obtain ⟨h0, h1, h2⟩ := blkCtrl_bits _ _ hen hreq
  refine ⟨_, blkCtrl_kept s pg (decide (s.rdn pg HDR.BLK_CTRL_ENABLE = 1)) (s.fenceReq pg) hpg rfl, ?_⟩
  have hbrk : ¬ (pg = 0x4C && ((s.setEnable pg (decide (s.rdn pg HDR.BLK_CTRL_ENABLE = 1))).setFenceReq pg
      (s.fenceReq pg)).anyChannelOn) = true := by
    have : pg ≠ 0x4C := by unfold SoftPage at hpg; omega
    simp [this]
  rw [State.writeBlkCtrl, h0, h1, h2, if_pos rfl]
  exact if_neg hbrk

theorem key_hdr (pg : Nat) (f : Fld) (hf : f.page = 0 ∧ f.off < 4096 ∧ f.lo < 64) :
    keyPage (f.key pg 0) = pg ∧ keyOff (f.key pg 0) = f.off := by
  obtain ⟨hpage, hoff, hlo⟩ := hf
  simp only [keyPage, keyOff, Fld.key, hpage]
  omega

/-- INT_STAT and INT_EN are dropped but on SWITCH (R148). -/
theorem softDrops_int (s : State) (pg : Nat) (hpg : pg ≠ 0x10) :
    s.softDrops pg (HDR.INT_STAT_EVENTS.key pg 0) = true ∧ s.softDrops pg (HDR.INT_EN_ENABLES.key pg 0) = true := by
  obtain ⟨hp, ho⟩ := key_hdr pg HDR.INT_STAT_EVENTS (by decide)
  obtain ⟨hp', ho'⟩ := key_hdr pg HDR.INT_EN_ENABLES (by decide)
  have hoff : HDR.INT_STAT_EVENTS.off = 0x10 ∧ HDR.INT_EN_ENABLES.off = 0x14 := ⟨rfl, rfl⟩
  exact ⟨by simp [State.softDrops, hp, ho, hoff, hpg], by simp [State.softDrops, hp', ho', hoff, hpg]⟩

/-! ### FENCE_REQ (R30) -/

theorem exec_fenceReq (s : State) (p : Port) (pg : Nat) (hperm : Permitted s p pg 4 (s.rdn pg HDR.BLK_CTRL_ENABLE + 4)) :
    exec (.fenceReq p pg true) s =
      .next (((s.heard p).writeBlkCtrl pg (s.rdn pg HDR.BLK_CTRL_ENABLE + 4)).emit (done p)).modeDone :=
  congrArg (fun u => Host.Outcome.next (State.modeDone u)) (access_permitted s p pg 4 _ _ hperm)

/-- Asking for a fence of a block stores the request, ENABLE written as it was. -/
theorem writeBlkCtrl_fence (s : State) (pg e : Nat) (husb : pg ≠ 0x48) (hbrk : pg ≠ 0x4C) (hline : pg ≠ 0x4D)
    (hlink : e = 1 ∨ (pg ≠ 0x08 ∧ pg ≠ 0x0A ∧ pg ≠ 0x0C)) (he : e ≤ 1) :
    s.writeBlkCtrl pg (e + 4) = (s.wrn pg HDR.BLK_CTRL_ENABLE e).wrn pg HDR.BLK_CTRL_FENCE_REQ 1 := by
  have hbits : bitOf (e + 4) 0 = decide (e = 1) ∧ bitOf (e + 4) 1 = false ∧ bitOf (e + 4) 2 = true ∧ bit (decide (e = 1)) = e := by
    interval_cases e <;> decide
  obtain ⟨h0, h1, h2, hbit⟩ := hbits
  rw [State.writeBlkCtrl, h0, h1, h2, setEnable_plain s pg _ husb hbrk hline (by simpa using hlink), hbit,
    setFenceReq_on _ pg hbrk]
  rfl

/-- What such a write leaves in BLK_CTRL. -/
theorem blkCtrl_fenced (s : State) (pg e : Nat) (he : s.rdn pg HDR.BLK_CTRL_ENABLE = e) (hle : e ≤ 1) :
    let t := (s.wrn pg HDR.BLK_CTRL_ENABLE e).wrn pg HDR.BLK_CTRL_FENCE_REQ 1
    t.fenceReq pg = true ∧ t.enabled pg = s.enabled pg ∧ RegsBut s t (blkCtrlKeys pg) := by
  refine ⟨?_, ?_, ?_⟩
  · rw [State.fenceReq, rdn_wrn_same]
    rfl
  · have hfits : e % 2 ^ HDR.BLK_CTRL_ENABLE.w = e := Nat.mod_eq_of_lt (show e < 2 ^ 1 by omega)
    rw [State.enabled, State.enabled, rdn_wrn_elsewhere _ _ _ _ (place_enable_ne_fenceReq pg), rdn_wrn_same, he, hfits]
  · exact regsBut_trans (regsBut_wrn s pg HDR.BLK_CTRL_ENABLE e 0 (by simp [blkCtrlKeys]))
      (regsBut_wrn _ pg HDR.BLK_CTRL_FENCE_REQ 1 0 (by simp [blkCtrlKeys]))

/-! ### BLOCK_FENCED (R30, R31) -/

/-- A block that has no more to do for a fence than to report it. -/
theorem swFenced_plain (s : State) (pg : Nat) (hpg : pg = 0x05 ∨ pg = 0x06 ∨ pg = 0x15 ∨ pg = 0x18 ∨ pg = 0x19) :
    s.swFenced pg = { s with pageUnit := { s.pageUnit with swFence := insertNat s.pageUnit.swFence pg } } := by
  rcases hpg with rfl | rfl | rfl | rfl | rfl <;> rfl

theorem exec_blockFenced (s : State) (pg : Nat) (htype : blockType pg ≠ 0) (hon : s.pageOn pg = true)
    (hreq : s.fenceReq pg = true) (hnot : s.pageUnit.swFence.contains pg = false) :
    exec (.blockFenced pg) s = .next (s.swFenced pg).modeDone :=
  congrArg Host.Outcome.next (if_pos (by simp [-List.contains_eq_mem, htype, hon, hreq, hnot]))

/-- A page fenced by software shows FENCED and the source of its fence (R31). -/
theorem blkStat_fenced (s : State) (pg : Nat) (hon : s.pageOn pg = true) (h : s.pageUnit.swFence.contains pg = true) :
    bitOf (s.blkStat pg) 1 = true ∧ bitOf (s.blkStat pg) 4 = true := by
  unfold State.blkStat
  rw [hon, h]
  generalize s.locked pg = a
  generalize s.pageUnit.colFence.contains pg = b
  generalize decide (s.rdn pg HDR.FLT_STAT_CHECKERS ≠ 0) = c
  generalize (s.pageUnit.inReset.contains pg || s.opRuns pg) = d
  generalize (!s.pageUnit.inReset.contains pg && s.enabled pg) = e
  cases a <;> cases b <;> cases c <;> cases d <;> cases e <;> exact ⟨rfl, rfl⟩

/-- Settles O9: a soft reset filters the page's fields, a fence request is a store, and the fence an entry in the page unit. -/
theorem softResetAndFenceOfABlockComplete : Obligations.SoftResetAndFenceOfABlockComplete := by
  unfold Obligations.SoftResetAndFenceOfABlockComplete
  refine ⟨?_, fun s p pg => ⟨_, rfl⟩, ?_, ?_, fun s p pg on => ⟨_, rfl⟩, fun s on => rfl, ?_, fun s pg => ⟨_, rfl⟩⟩
  case refine_1 =>
    intro s p pg hpg hset hrise hnot hen hreq hperm
    obtain ⟨u, ⟨⟨rs, sw, hu⟩, hregs, hrise'⟩, hwrite⟩ := writeBlkCtrl_soft (s.heard p) pg hpg
      ((heard_rdn s p pg _ 0).trans_le hen) ((heard_rdn s p pg _ 0).trans_le hreq)
    rw [heard_rdn, heard_rdn] at hwrite
    have hlocked : u.locked pg = s.locked pg := by
      rw [State.locked, rdn_of_regsBut hregs, heard_rdn]
      · rfl
      · simp [blkCtrlKeys, Fld.key, HDR.LOCK_LOCKED, HDR.BLK_CTRL_ENABLE, HDR.BLK_CTRL_FENCE_REQ]
        omega
    obtain ⟨hin, hfind, hflt, hbud⟩ := softReset_leaves u pg hpg (hrise' (by rwa [heard_regs])) (by rw [hu, heard_pageUnit]; exact hnot)
    have hsame : u.flt = s.flt ∧ u.bud = s.bud := by
      obtain ⟨ts, h⟩ := heard_frame s p
      rw [hu, h]
      exact ⟨rfl, rfl⟩
    have hexec := exec_softReset s p pg _ rfl hperm
    rw [hwrite, blkCtrl_done s _ p hset (hflt.trans hsame.1) (hbud.trans hsame.2)] at hexec
    have hdrop : ∀ k, s.softDrops pg k = true → Tbl.find (u.softReset pg).regs k = none := fun k hk => by
      rw [hfind, softDrops_congr pg k hlocked, hk, if_pos rfl]
    refine ⟨_, hexec, hin, fun hswitch => ?_, hdrop, fun k hk hne hnf => ?_⟩
    · obtain ⟨hstat, hien⟩ := softDrops_int s pg hswitch
      rw [emit_rdn, emit_rdn, State.rdn, State.rdn, hdrop _ hstat, hdrop _ hien]
      exact ⟨rfl, rfl⟩
    · show Tbl.find (u.softReset pg).regs k = _
      rw [hfind, softDrops_congr pg k hlocked, hk, if_neg Bool.false_ne_true, hregs k (by simp [blkCtrlKeys, hne, hnf]), heard_regs]
  case refine_2 =>
    intro s pg hin heast hwest htwin husb
    have hdone : s.softResetDone pg = { s with pageUnit := { s.pageUnit with inReset := deleteNat s.pageUnit.inReset pg } } := by
      unfold State.softResetDone
      dsimp only
      split
      · exact absurd rfl heast
      · exact absurd rfl hwest
      · exact absurd rfl htwin
      · exact absurd rfl husb
      · rfl
    refine ⟨_, congrArg Host.Outcome.next (if_pos hin), ?_, ?_⟩
    · rw [hdone]
      simp [deleteNat]
    · rw [hdone]
  case refine_3 =>
    intro s p pg husb hbrk hline hset hlink hen hperm
    have hexec := exec_fenceReq s p pg hperm
    have hlink' : s.rdn pg HDR.BLK_CTRL_ENABLE = 1 ∨ (pg ≠ 0x08 ∧ pg ≠ 0x0A ∧ pg ≠ 0x0C) := hlink.imp_left of_decide_eq_true
    rw [writeBlkCtrl_fence _ pg _ husb hbrk hline hlink' hen] at hexec
    obtain ⟨hreq, hkeep, hregs⟩ := blkCtrl_fenced (s.heard p) pg _ (heard_rdn s p pg _ 0) hen
    have hset' := heard_settled s p hset
    rw [blkCtrl_done (s.heard p) (((s.heard p).wrn pg HDR.BLK_CTRL_ENABLE _).wrn pg HDR.BLK_CTRL_FENCE_REQ 1) p hset' rfl rfl]
      at hexec
    refine ⟨_, hexec, hreq, regsBut_heard hregs _, hkeep.trans ?_, answered_regs s p _⟩
    rw [State.enabled, heard_rdn]
    rfl
  case refine_4 =>
    intro s pg htype hon hreq hnot hset hpg
    have hexec := exec_blockFenced s pg htype hon hreq hnot
    rw [swFenced_plain s pg hpg, modeDone_settled _ (by exact hset)] at hexec
    obtain ⟨hfenced, hsource⟩ := blkStat_fenced
      { s with pageUnit := { s.pageUnit with swFence := insertNat s.pageUnit.swFence pg } } pg hon (contains_insertNat _ pg)
    exact ⟨_, hexec, hfenced, hsource, rfl⟩

end Sys2Proof.Proofs
end

section
/-! PROOFS. Cleared faults and released pins (R477-R486). -/

set_option Elab.async false

namespace Sys2Proof.Proofs

open Sys2Proof.Machine Sys2Proof.Safety Sys2Proof.Laws

/-! ### CLR_CTRL (R478, R480, R481) -/

theorem testBit_clrBit (v i j : Nat) : (clrBit v i).testBit j = (v.testBit j && decide (i ≠ j)) := by
  have hsub : clrBit v i = v - (v &&& 2 ^ i) := by
    rw [clrBit, bitOf_eq_testBit, Nat.and_two_pow]
    cases v.testBit i <;> simp
  rw [hsub, testBit_sub_and, Nat.testBit_two_pow]
  simp

/-- The register fields that show how a clear ended. -/
def clearKeys : List Nat := [key FAULT.CLR_CTRL_STATUS, key FAULT.CLR_CTRL_CAUSE]

section
variable (s : State) (pg ck : Nat) (gone : Bool)

/-- The page a clear names. -/
def clrPage : Nat := s.rd FAULT.CLR_SEL_PAGE
/-- The checker a clear names. -/
def clrChecker : Nat := s.rd FAULT.CLR_SEL_CHECKER
/-- The checker a clear names is of a page there is, and reports. -/
def ClrReported : Prop := blockType (clrPage s) ≠ 0 ∧ bitOf (s.rdn (clrPage s) HDR.FLT_STAT_CHECKERS) (clrChecker s) = true
/-- Something stands in the way of clearing the checker. -/
def ClrHeld : Prop := clrPage s = 3 ∨ (∃ d ∈ s.flt.det, d.page = clrPage s ∧ d.checker = clrChecker s ∧ d.corr = false) ∨
  s.conditionGone (clrPage s) (clrChecker s) gone = false

theorem clearDone_shows (st cause : Nat) (hst : st < 4) (hcause : cause < 4) :
    (s.clearDone st cause).rd FAULT.CLR_CTRL_STATUS = st ∧ (s.clearDone st cause).rd FAULT.CLR_CTRL_CAUSE = cause ∧
      RegsBut s (s.clearDone st cause) clearKeys := by
  refine ⟨?_, ?_, ?_⟩
  · exact (rdn_wrn_elsewhere _ _ _ _ (by decide)).trans ((rdn_wrn_same s 0 _ st 0).trans (Nat.mod_eq_of_lt hst))
  · exact (rdn_wrn_same _ 0 _ cause 0).trans (Nat.mod_eq_of_lt hcause)
  · exact regsBut_trans (regsBut_wrn s 0 _ st 0 (by simp [clearKeys, key])) (regsBut_wrn _ 0 _ cause 0 (by simp [clearKeys, key]))

theorem clearDone_elsewhere (st cause n : Nat) (f : Fld) (hf : f.off < 0x64 ∧ f.lo < 64) :
    (s.clearDone st cause).rdn n f = s.rdn n f := by
  have hoff : ∀ g : Fld, g.off = 0x64 → g.lo < 64 → place f n ≠ place g 0 := fun g hg hlo =>
    place_ne_of_off 0 n ⟨by omega, hlo⟩ ⟨by omega, hf.2⟩ (by omega)
  exact (rdn_wrn_elsewhere _ cause 0 0 (hoff FAULT.CLR_CTRL_CAUSE rfl (by decide))).trans
    (rdn_wrn_elsewhere s st 0 0 (hoff FAULT.CLR_CTRL_STATUS rfl (by decide)))

theorem clearGo_unreported (h : ¬ ClrReported s) : s.clearGo gone = s.clearDone 3 1 := by
  refine if_pos ?_
  rw [ClrReported, not_and_or, not_not, Bool.not_eq_true] at h
  simp only [Bool.or_eq_true, decide_eq_true_eq, Bool.not_eq_true']
  exact h

theorem clrReported_test (h : ClrReported s) :
    ¬ (blockType (s.rd FAULT.CLR_SEL_PAGE) = 0 || !bitOf (s.rdn (s.rd FAULT.CLR_SEL_PAGE) HDR.FLT_STAT_CHECKERS)
      (s.rd FAULT.CLR_SEL_CHECKER)) = true := by
  simp only [Bool.or_eq_true, decide_eq_true_eq, Bool.not_eq_true', not_or, Bool.not_eq_false]
  exact h

theorem clrHeld_test : (s.flt.det.any (fun d => d.page = s.rd FAULT.CLR_SEL_PAGE && d.checker = s.rd FAULT.CLR_SEL_CHECKER && !d.corr) ||
    !s.conditionGone (s.rd FAULT.CLR_SEL_PAGE) (s.rd FAULT.CLR_SEL_CHECKER) gone || s.rd FAULT.CLR_SEL_PAGE = 3) = true ↔
      ClrHeld s gone := by
  simp only [ClrHeld, clrPage, clrChecker, Bool.or_eq_true, List.any_eq_true, Bool.and_eq_true, decide_eq_true_eq, Bool.not_eq_true',
    and_assoc]
  exact or_comm

theorem clearGo_held (h : ClrReported s) (hheld : ClrHeld s gone) : s.clearGo gone = s.clearDone 3 2 :=
  (if_neg (clrReported_test s h)).trans (if_pos ((clrHeld_test s gone).mpr hheld))

/-- The bit of the checker is cleared and its fault leaves the uncleared ones. -/
def cleared : State :=
  (s.wrn pg HDR.FLT_STAT_CHECKERS (clrBit (s.rdn pg HDR.FLT_STAT_CHECKERS) ck)).updFlt (fun f => { f with
    conts := f.conts.filter (fun e => e ≠ (pg, ck))
    fatals := f.fatals.filter (fun e => e ≠ (pg, ck))
    prots := f.prots.filter (fun e => e ≠ (pg, ck))
    aliveOk := if f.fatals.contains (pg, ck) || f.prots.contains (pg, ck) then s.mono else f.aliveOk })

theorem clearGo_cleared (h : ClrReported s) (hheld : ¬ ClrHeld s gone) (hring : clrPage s ≠ 0x0E) :
    s.clearGo gone = ((cleared s (clrPage s) (clrChecker s)).unfenceUnit (clrPage s) (clrChecker s)).clearDone 2 0 := by
  refine (if_neg (clrReported_test s h)).trans ((if_neg (mt (clrHeld_test s gone).mp hheld)).trans ?_)
  refine congrArg (fun t => State.clearDone t 2 0) (if_neg ?_)
  rw [show s.rd FAULT.CLR_SEL_PAGE = clrPage s from rfl]
  simp [hring]

theorem cleared_regs : RegsBut s (cleared s pg ck) [HDR.FLT_STAT_CHECKERS.key pg 0] := regsBut_wrn s pg _ _ 0 (by simp)

theorem cleared_checker (b : Nat) : bitOf ((cleared s pg ck).rdn pg HDR.FLT_STAT_CHECKERS) b =
    (decide (b < 32) && (bitOf (s.rdn pg HDR.FLT_STAT_CHECKERS) b && decide (ck ≠ b))) := by
  have hsame : (cleared s pg ck).rdn pg HDR.FLT_STAT_CHECKERS = clrBit (s.rdn pg HDR.FLT_STAT_CHECKERS) ck % 2 ^ 32 :=
    rdn_wrn_same s pg _ _ 0
  rw [hsame, bitOf_eq_testBit, Nat.testBit_mod_two_pow, testBit_clrBit, ← bitOf_eq_testBit]

end

/-- The pages whose unit does no more when its fence ends than to work again. -/
def EndsFenceAlone (pg : Nat) : Prop :=
  pg = 0x01 ∨ pg = 0x15 ∨ pg = 0x18 ∨ pg = 0x19 ∨ pg = 0x4D ∨ pg = 0x5A ∨ (0x50 ≤ pg ∧ pg < 0x58)

/-- The end of such a unit's fence: no other contained fault, detected or recorded, keeps it (R481). -/
theorem unfenceUnit_alone (s : State) (pg ck : Nat) (hpg : EndsFenceAlone pg) :
    ∃ l, s.unfenceUnit pg ck = { s with pageUnit := { s.pageUnit with colFence := l } } ∧
      (∀ u, fencedPage pg ck = some u → (∀ e ∈ s.flt.conts, fencedPage e.1 e.2 ≠ some u) → s.flt.det = [] → u ∉ l) := by
  have hends : s.unfenceUnit pg ck = match fencedPage pg ck with
      | none => s
      | some p =>
        if s.flt.conts.any (fun e => fencedPage e.1 e.2 = some p) ||
            s.flt.det.any (fun d => d.cls = 1 && fencedPage d.page d.checker = some p) then s
        else { s with pageUnit := { s.pageUnit with colFence := deleteNat s.pageUnit.colFence p } } := by
    rcases hpg with rfl | rfl | rfl | rfl | rfl | rfl | ⟨hlo, hhi⟩
    case inr.inr.inr.inr.inr.inr => interval_cases pg <;> rfl
    all_goals rfl
  rw [hends]
  cases hu : fencedPage pg ck with
  | none => exact ⟨s.pageUnit.colFence, rfl, by simp⟩
  | some u =>
    dsimp only
    split
    case isTrue hkept =>
      refine ⟨s.pageUnit.colFence, rfl, fun u' hu' hconts hdet => ?_⟩
      simp only [hdet, List.any_nil, Bool.or_false, List.any_eq_true, decide_eq_true_eq] at hkept
      obtain ⟨e, he, hsame⟩ := hkept
      exact absurd (hsame.trans hu') (hconts e he)
    case isFalse =>
      refine ⟨_, rfl, fun u' hu' _ _ => ?_⟩
      obtain rfl := Option.some.inj hu'
      simp [deleteNat]

theorem exec_faultClear (s : State) (p : Port) (gone : Bool) (hperm : Permitted s p 3 0x64 1) :
    exec (.faultClear p gone) s = .next ((((s.heard p).clearGo gone).emit (done p)).evalWoken.drain) :=
  congrArg (fun t => Host.Outcome.next (State.drain (State.evalWoken t))) (access_permitted s p 3 0x64 1 _ hperm)

/-- Nothing follows an answered clear that leaves nothing reported and nothing asked for. -/
theorem faultClear_settled (s : State) (p : Port) (gone : Bool) (hperm : Permitted s p 3 0x64 1) {t : State}
    (ht : (s.heard p).clearGo gone = t) (hset : Settled t) : exec (.faultClear p gone) s = .next (t.emit (done p)) := by
  rw [exec_faultClear s p gone hperm, ht]
  exact congrArg Host.Outcome.next (modeDone_settled (t.emit (done p)) hset)

theorem faultClear_refused (s : State) (p : Port) (gone : Bool) (cause : Nat) (hperm : Permitted s p 3 0x64 1) (hset : Settled s)
    (hc : cause < 4) (hgo : (s.heard p).clearGo gone = (s.heard p).clearDone 3 cause) :
    ∃ t, exec (.faultClear p gone) s = .next t ∧ t.rd FAULT.CLR_CTRL_STATUS = 3 ∧ t.rd FAULT.CLR_CTRL_CAUSE = cause ∧
      RegsBut s t clearKeys ∧ t = { s.heard p with regs := t.regs, sent := s.sent ++ [done p] } := by
  obtain ⟨hst, hcause, hregs⟩ := clearDone_shows (s.heard p) 3 cause (by decide) hc
  refine ⟨_, faultClear_settled s p gone hperm hgo (heard_settled s p hset), hst, hcause, regsBut_heard hregs _, ?_⟩
  exact answered_regs s p ((s.heard p).clearDone 3 cause).regs

theorem cleared_frame (s : State) (pg ck : Nat) : ∃ rs, cleared s pg ck = { s with regs := rs, flt := (cleared s pg ck).flt } := ⟨_, rfl⟩

/-- The state after a clear that ends the fence of a unit by itself: `l` the pages the collector fences now. -/
def ClearedAlone (s t : State) (pg ck : Nat) (l : List Nat) : Prop :=
  t = { cleared s pg ck with pageUnit := { (cleared s pg ck).pageUnit with colFence := l } }

theorem clearedAlone_regs {s u : State} {pg ck : Nat} {l : List Nat} (h : ClearedAlone s u pg ck l) :
    u.regs = (cleared s pg ck).regs := by rw [h]

theorem clearedAlone_flt {s u : State} {pg ck : Nat} {l : List Nat} (h : ClearedAlone s u pg ck l) :
    u.flt = (cleared s pg ck).flt := by rw [h]

theorem clearedAlone_regsBut {s u : State} {pg ck : Nat} {l : List Nat} (h : ClearedAlone s u pg ck l) :
    RegsBut s (u.clearDone 2 0) [key FAULT.CLR_CTRL_STATUS, key FAULT.CLR_CTRL_CAUSE, HDR.FLT_STAT_CHECKERS.key pg 0] := by
  obtain ⟨-, -, hkeys⟩ := clearDone_shows u 2 0 (by decide) (by decide)
  have hcleared : RegsBut s u [HDR.FLT_STAT_CHECKERS.key pg 0] := fun k hk =>
    (congrArg (Tbl.find · k) (clearedAlone_regs h)).trans (cleared_regs s pg ck k hk)
  exact regsBut_trans (regsBut_mono hcleared (by simp)) (regsBut_mono hkeys (by simp [clearKeys]))

theorem clearedAlone_checker {s u : State} {pg ck : Nat} {l : List Nat} (h : ClearedAlone s u pg ck l) (b : Nat) :
    bitOf ((u.clearDone 2 0).rdn pg HDR.FLT_STAT_CHECKERS) b =
      (decide (b < 32) && (bitOf (s.rdn pg HDR.FLT_STAT_CHECKERS) b && decide (ck ≠ b))) := by
  rw [clearDone_elsewhere u 2 0 pg _ (by decide), State.rdn, clearedAlone_regs h]
  exact cleared_checker s pg ck b

theorem clearedAlone_fenced {s u : State} {pg ck : Nat} {l : List Nat} (h : ClearedAlone s u pg ck l) (v : Nat) (hv : v ∉ l) :
    (u.clearDone 2 0).fenced v = s.fenceReq v := by
  have hoff : place HDR.BLK_CTRL_FENCE_REQ v ≠ place HDR.FLT_STAT_CHECKERS pg :=
    place_ne_of_off pg v (by decide) (by decide) (by decide)
  have hreq : (u.clearDone 2 0).fenceReq v = s.fenceReq v := by
    rw [State.fenceReq, clearDone_elsewhere u 2 0 v _ (by decide), State.rdn, clearedAlone_regs h]
    exact congrArg (fun n => decide (n = 1)) (rdn_wrn_elsewhere s _ 0 0 hoff)
  have hcol : (u.clearDone 2 0).pageUnit.colFence.contains v = false := by
    have hl : (u.clearDone 2 0).pageUnit.colFence = l := congrArg (·.pageUnit.colFence) h
    rw [hl]
    simpa using hv
  rw [State.fenced, hreq, hcol, Bool.or_false]

theorem clearedAlone_settled {s u : State} {pg ck : Nat} {l : List Nat} (h : ClearedAlone s u pg ck l) (hset : Settled s) :
    Settled (u.clearDone 2 0) := by
  rw [h]
  exact hset

/-- What an answered clear of such a fault leaves unchanged. -/
theorem clearedAlone_frame {s u : State} {p : Port} {pg ck : Nat} {l : List Nat} (h : ClearedAlone (s.heard p) u pg ck l) :
    let t := (u.clearDone 2 0).emit (done p)
    t = { s.heard p with regs := t.regs, flt := t.flt, pageUnit := t.pageUnit, sent := s.sent ++ [done p] } := by
  obtain ⟨rs, hc⟩ := cleared_frame (s.heard p) pg ck
  rw [h, hc, ← heard_sent s p]
  rfl

/-- A clear of a fault whose condition is gone and whose unit does no more when its fence ends. -/
theorem clearGo_alone (s : State) (pg ck : Nat) (gone : Bool) (hpg : clrPage s = pg) (hck : clrChecker s = ck)
    (halone : EndsFenceAlone pg) (hbit : bitOf (s.rdn pg HDR.FLT_STAT_CHECKERS) ck = true) (hdet : s.flt.det = [])
    (hgone : s.conditionGone pg ck gone = true) :
    ∃ u l, ClearedAlone s u pg ck l ∧ s.clearGo gone = u.clearDone 2 0 ∧
      (∀ v, fencedPage pg ck = some v → (∀ e ∈ s.flt.conts, e = (pg, ck) ∨ fencedPage e.1 e.2 ≠ some v) → v ∉ l) := by
  subst hpg hck
  have hrep : ClrReported s := by
    refine ⟨?_, hbit⟩
    rcases halone with h | h | h | h | h | h | ⟨hlo, hhi⟩
    case inr.inr.inr.inr.inr.inr => interval_cases clrPage s <;> decide
    all_goals rw [h]; decide
  have hfree : ¬ ClrHeld s gone := by
    have hne : clrPage s ≠ 3 := by unfold EndsFenceAlone at halone; omega
    simp [ClrHeld, hdet, hgone, hne]
  have hring : clrPage s ≠ 0x0E := by unfold EndsFenceAlone at halone; omega
  obtain ⟨l, hunit, hlast⟩ := unfenceUnit_alone (cleared s (clrPage s) (clrChecker s)) (clrPage s) (clrChecker s) halone
  refine ⟨_, l, rfl, (clearGo_cleared s gone hrep hfree hring).trans (by rw [hunit]), fun v hv hconts => hlast v hv (fun e he => ?_) hdet⟩
  have hkept : e ∈ s.flt.conts ∧ e ≠ (clrPage s, clrChecker s) := by simpa using List.mem_filter.mp he
  exact (hconts e hkept.1).resolve_left hkept.2

/-! ### FLT_REL, FLT_N and ALIVE (R482, R485, R486) -/

theorem exec_fltRelease (s : State) (p : Port) (hperm : Permitted s p 3 0x6C 1) :
    exec (.fltRelease p) s = .next ((s.heard p).fltRelease.emit (done p)) :=
  congrArg Host.Outcome.next (access_permitted s p 3 0x6C 1 _ hperm)

/-- RELEASE while FLT_N is low and no self fault holds it: at once, or remembered while its 10 µs run. -/
theorem fltRelease_low (s : State) (hself : s.flt.self = false) (hlow : s.flt.fltLow = true) :
    s.fltRelease = { s with flt := { s.flt with
      fltLow := s.running tFltLow, relPend := if s.running tFltLow then true else s.flt.relPend } } := by
  unfold State.fltRelease
  rw [hself, hlow]
  cases hrun : s.running tFltLow with
  | true =>
    refine congrArg (fun f : FaultUnit => { s with flt := f }) ?_
    show { s.flt with relPend := true } = { s.flt with fltLow := true, relPend := true }
    rw [← hlow]
  | false => rfl

theorem heard_running (s : State) (p : Port) : (s.heard p).running tFltLow = s.running tFltLow := by
  unfold State.heard
  split
  · exact congrArg Option.isSome (find_put_other s.timers tHbTmo tFltLow _ (by decide))
  · rfl

/-- Settles O54: a clear is one of three branches, the rest are one branch each. -/
theorem faultsAreClearedAndTheirPinsReleased : Obligations.FaultsAreClearedAndTheirPinsReleased := by
  unfold Obligations.FaultsAreClearedAndTheirPinsReleased
  refine ⟨?_, ?_, ?_, ?_, ?_, ?_⟩
  case refine_1 =>
    intro s p gone pg ck hperm hset hpg hck
    obtain ⟨ts, hts⟩ := heard_frame s p
    have hpage : clrPage (s.heard p) = pg := by rw [clrPage, State.rd, heard_rdn]; exact hpg
    have hchecker : clrChecker (s.heard p) = ck := by rw [clrChecker, State.rd, heard_rdn]; exact hck
    have hrep : ClrReported (s.heard p) ↔ blockType pg ≠ 0 ∧ bitOf (s.rdn pg HDR.FLT_STAT_CHECKERS) ck = true := by
      rw [ClrReported, hpage, hchecker, heard_rdn]
    have hheld : ClrHeld (s.heard p) gone ↔ pg = 3 ∨
        (∃ d ∈ s.flt.det, d.page = pg ∧ d.checker = ck ∧ d.corr = false) ∨ s.conditionGone pg ck gone = false := by
      rw [ClrHeld, hpage, hchecker, hts]
      rfl
    refine ⟨?_, ?_⟩
    · rintro cause (⟨rfl, hun⟩ | ⟨rfl, htype, hbit, hwhy⟩)
      · refine faultClear_refused s p gone 1 hperm hset (by decide) (clearGo_unreported _ gone ?_)
        rw [hrep]
        rintro ⟨htype, hbit⟩
        exact hun.elim htype (fun hoff => by rw [hbit] at hoff; exact absurd hoff.symm Bool.false_ne_true)
      · exact faultClear_refused s p gone 2 hperm hset (by decide) (clearGo_held _ gone (hrep.mpr ⟨htype, hbit⟩) (hheld.mpr hwhy))
    · intro halone hbit hdet hgone
      have hflt : (s.heard p).flt = s.flt := by rw [hts]
      obtain ⟨u, l, hu, hgo, hlast⟩ := clearGo_alone (s.heard p) pg ck gone hpage hchecker halone (by rwa [heard_rdn]) (by rwa [hflt])
        (by rw [hts]; exact hgone)
      obtain ⟨hst, hcause, -⟩ := clearDone_shows u 2 0 (by decide) (by decide)
      have hsettled : Settled (u.clearDone 2 0) := clearedAlone_settled hu (heard_settled s p hset)
      have hbits := clearedAlone_checker hu
      rw [heard_rdn] at hbits
      have hfaults : u.flt = (cleared (s.heard p) pg ck).flt := clearedAlone_flt hu
      refine ⟨_, faultClear_settled s p gone hperm hgo hsettled, hst, hcause, ?_,
        fun b hne hb => ?_, ?_, ?_, ?_, ?_, fun v hv hconts => ?_, regsBut_heard (clearedAlone_regsBut hu) _, clearedAlone_frame hu⟩
      · exact (hbits ck).trans (by simp)
      · exact (hbits b).trans (by simp [hb, Ne.symm hne])
      · exact (congrArg FaultUnit.conts hfaults).trans (by rw [← hflt]; rfl)
      · exact (congrArg FaultUnit.fatals hfaults).trans (by rw [← hflt]; rfl)
      · exact (congrArg FaultUnit.prots hfaults).trans (by rw [← hflt]; rfl)
      · exact (congrArg FaultUnit.recs hfaults).trans (by rw [← hflt]; rfl)
      · refine (clearedAlone_fenced hu v (hlast v hv (by rwa [hflt]))).trans ?_
        rw [State.fenceReq, heard_rdn]
        rfl
  case refine_2 =>
    intro s p hperm
    refine ⟨_, congrArg Host.Outcome.next (access_permitted s p 3 0x54 1 _ hperm), ?_⟩
    obtain ⟨ts, hts⟩ := heard_frame s p
    rw [hts]
    rfl
  case refine_3 =>
    intro s p hperm
    obtain ⟨ts, hts⟩ := heard_frame s p
    have hflt : (s.heard p).flt = s.flt := by rw [hts]
    refine ⟨fun hself hlow => ⟨_, exec_fltRelease s p hperm, ?_⟩, fun hno => ⟨_, exec_fltRelease s p hperm, ?_⟩⟩
    · rw [fltRelease_low _ (by rwa [hflt]) (by rwa [hflt]), heard_running, hflt, hts]
      rfl
    · have hkept : (s.heard p).fltRelease = s.heard p := by
        refine if_pos ?_
        rw [hflt]
        simpa using hno
      rw [hkept, hts]
      rfl
  case refine_4 =>
    intro s hdue
    have hexec : exec .fltNMinEnd s = .next (if (s.stop tFltLow).flt.relPend && !(s.stop tFltLow).flt.self then
        (s.stop tFltLow).updFlt (fun f => { f with fltLow := false, relPend := false }) else s.stop tFltLow) :=
      congrArg Host.Outcome.next (if_neg (by simp [hdue]))
    have hstopped : (s.stop tFltLow).running tFltLow = false := congrArg Option.isSome (find_del_same s.timers tFltLow)
    have htimers : TimersBut s (s.stop tFltLow) [tFltLow] := fun k hk => find_del_other s.timers _ _ (by simpa using hk)
    refine ⟨fun hrel hself => ?_, fun hno => ?_⟩
    · rw [if_pos (by simp [hrel, hself])] at hexec
      exact ⟨_, hexec, rfl, rfl, hstopped, htimers, rfl⟩
    · rw [if_neg (by simpa [Bool.and_eq_true, ← Bool.not_eq_true, imp_iff_not_or] using hno)] at hexec
      exact ⟨_, hexec, hstopped, htimers, rfl⟩
  case refine_5 =>
    intro s hrun hgrid
    exact ⟨_, congrArg Host.Outcome.next (if_neg (by simp [hrun, hgrid])), rfl⟩
  case refine_6 =>
    intro s hmode hrun hself hfatals hprots hok
    exact ⟨_, congrArg Host.Outcome.next (if_pos (by simp [hmode, hrun, hself, hfatals, hprots, hok])), rfl⟩

end Sys2Proof.Proofs
end

section
/-! PROOFS. What work on the switch's queues leaves alone: everything but the queues, the outputs, the buffer and the
registers of the pages of the ring ports, SWITCH and BUFFER (R130-R146). -/

set_option Elab.async false

namespace Sys2Proof.Proofs

open Sys2Proof.Machine Sys2Proof.Safety Sys2Proof.Laws

/-! ### Register fields outside some pages -/

/-- Every stored field copy of a page that is not listed is as it was. -/
def PagesBut (s t : State) (ps : List Nat) : Prop := ∀ k, keyPage k ∉ ps → Tbl.find t.regs k = Tbl.find s.regs k

/-- A field of a page: within its words. -/
abbrev InPage (f : Fld) : Prop := f.off < 4096 ∧ f.lo < 64

theorem keyPage_key (f : Fld) (n i : Nat) (hf : InPage f) : keyPage (f.key n i) = f.page + n := by
  obtain ⟨hoff, hlo⟩ := hf
  unfold keyPage Fld.key
  omega

theorem pagesBut_refl (s : State) (ps : List Nat) : PagesBut s s ps := fun _ _ => rfl

theorem pagesBut_trans {s t u : State} {ps : List Nat} (h : PagesBut s t ps) (h' : PagesBut t u ps) : PagesBut s u ps :=
  fun k hk => (h' k hk).trans (h k hk)

theorem pagesBut_wrn (s : State) (n : Nat) (f : Fld) (v i : Nat) {ps : List Nat} (hf : InPage f) (h : f.page + n ∈ ps) :
    PagesBut s (s.wrn n f v i) ps :=
  fun k hk => find_wrn_other s n f v i k (fun e => hk (by rw [e, keyPage_key f n i hf]; exact h))

theorem pagesBut_raise (s : State) (pg b : Nat) {ps : List Nat} (h : pg ∈ ps) : PagesBut s (s.raise pg b) ps :=
  fun k hk => find_raise_other s pg b k (fun e => hk (by
    rw [e, keyPage_key HDR.INT_STAT_EVENTS pg 0 (by decide)]
    simpa [HDR.INT_STAT_EVENTS] using h))

theorem rdn_of_pagesBut {s t : State} {ps : List Nat} (h : PagesBut s t ps) (n : Nat) (f : Fld) (i : Nat) (hf : InPage f)
    (hp : f.page + n ∉ ps) : t.rdn n f i = s.rdn n f i := by
  unfold State.rdn
  rw [h _ (by rwa [keyPage_key f n i hf])]

theorem rdn_of_pagesBut_of {s t : State} {ps : List Nat} (h : PagesBut s t ps) (n : Nat) (f : Fld) (i : Nat) (hf : InPage f := by decide)
    (hp : f.page + n ∉ ps := by decide) : t.rdn n f i = s.rdn n f i := rdn_of_pagesBut h n f i hf hp

/-! ### Registers and interrupts of some pages -/

/-- `t` is `s` with register fields of the listed pages written and events of theirs raised. -/
def RegWork (ps : List Nat) (s t : State) : Prop :=
  (∃ rs m l, t = { s with regs := rs, msix := m, sent := l }) ∧ PagesBut s t ps

namespace RegWork

variable {ps : List Nat} {s t u : State}

theorem refl (ps : List Nat) (s : State) : RegWork ps s s := ⟨⟨_, _, _, rfl⟩, pagesBut_refl s _⟩

theorem trans (h : RegWork ps s t) (h' : RegWork ps t u) : RegWork ps s u := by
  obtain ⟨⟨rs, m, l, rfl⟩, hr⟩ := h
  obtain ⟨⟨rs', m', l', rfl⟩, hr'⟩ := h'
  exact ⟨⟨_, _, _, rfl⟩, pagesBut_trans hr hr'⟩

theorem wrn (h : RegWork ps s t) (n : Nat) (f : Fld) (v i : Nat) (hf : InPage f) (hp : f.page + n ∈ ps) :
    RegWork ps s (t.wrn n f v i) := h.trans ⟨⟨_, _, _, rfl⟩, pagesBut_wrn t n f v i hf hp⟩

theorem wr (h : RegWork ps s t) (f : Fld) (v i : Nat) (hf : InPage f := by decide) (hp : f.page + 0 ∈ ps := by decide) :
    RegWork ps s (t.wr f v i) := h.wrn 0 f v i hf hp

theorem sat (h : RegWork ps s t) (f : Fld) (i : Nat) (hf : InPage f := by decide) (hp : f.page + 0 ∈ ps := by decide) :
    RegWork ps s (t.sat f i) := h.wrn 0 f _ i hf hp

theorem raise (h : RegWork ps s t) (pg b : Nat) (hp : pg ∈ ps := by decide) : RegWork ps s (t.raise pg b) := by
  obtain ⟨m, l, hraise⟩ := raise_frame t pg b
  have hregs := pagesBut_raise t pg b hp
  refine h.trans ⟨?_, hregs⟩
  rw [hraise]
  exact ⟨_, _, _, rfl⟩

theorem emit (h : RegWork ps s t) (e : Emit) : RegWork ps s (t.emit e) := h.trans ⟨⟨_, _, _, rfl⟩, pagesBut_refl t _⟩

theorem ite {c : Prop} [Decidable c] (ht : RegWork ps s t) (hu : RegWork ps s u) : RegWork ps s (if c then t else u) := by
  split
  · exact ht
  · exact hu

end RegWork

/-! ### Work on queues -/

/-- The pages of the ring ports' MACs, of SWITCH and of BUFFER. -/
def switchPages : List Nat := [0x09, 0x0B, 0x10, 0x11]

/-- `t` is `s` after work on queues: stored copies, grants and cells have changed, and with them registers of the switch. -/
def QueueWork (s t : State) : Prop :=
  (∃ rs m l vs os x b, t = { s with regs := rs, msix := m, sent := l, voqs := vs, outs := os, tx := x, buf := b }) ∧
    PagesBut s t switchPages

namespace QueueWork

variable {s t u : State}

theorem refl (s : State) : QueueWork s s := ⟨⟨_, _, _, _, _, _, _, rfl⟩, pagesBut_refl s _⟩

theorem trans (h : QueueWork s t) (h' : QueueWork t u) : QueueWork s u := by
  obtain ⟨⟨rs, m, l, vs, os, x, b, rfl⟩, hr⟩ := h
  obtain ⟨⟨rs', m', l', vs', os', x', b', rfl⟩, hr'⟩ := h'
  exact ⟨⟨_, _, _, _, _, _, _, rfl⟩, pagesBut_trans hr hr'⟩

/-- A list of steps that each are such work is such work. -/
theorem foldl {α : Type} {f : State → α → State} {as : List α} (h : QueueWork s t)
    (hf : ∀ a ∈ as, ∀ u, QueueWork s u → QueueWork s (f u a)) : QueueWork s (as.foldl f t) := by
  induction as generalizing t with
  | nil => exact h
  | cons a as ih => exact ih (hf a List.mem_cons_self t h) (fun b hb => hf b (List.mem_cons_of_mem a hb))

/-- Work that writes no register. -/
theorem same (h : QueueWork s t) (m : Msix) (l : List Emit) (vs : Tbl Voq) (os : Tbl OutPort) (x : Tbl TxPort) (b : BufUnit) :
    QueueWork s { t with msix := m, sent := l, voqs := vs, outs := os, tx := x, buf := b } :=
  h.trans ⟨⟨_, _, _, _, _, _, _, rfl⟩, pagesBut_refl t _⟩

theorem ite {c : Prop} [Decidable c] (ht : QueueWork s t) (hu : QueueWork s u) : QueueWork s (if c then t else u) := by
  split
  · exact ht
  · exact hu

theorem wrn (h : QueueWork s t) (n : Nat) (f : Fld) (v i : Nat) (hf : InPage f) (hp : f.page + n ∈ switchPages) :
    QueueWork s (t.wrn n f v i) :=
  h.trans ⟨⟨_, _, _, _, _, _, _, rfl⟩, pagesBut_wrn t n f v i hf hp⟩

theorem wr (h : QueueWork s t) (f : Fld) (v i : Nat) (hf : InPage f := by decide) (hp : f.page + 0 ∈ switchPages := by decide) :
    QueueWork s (t.wr f v i) := h.wrn 0 f v i hf hp

theorem sat (h : QueueWork s t) (f : Fld) (i : Nat) (hf : InPage f := by decide) (hp : f.page + 0 ∈ switchPages := by decide) :
    QueueWork s (t.sat f i) := h.wrn 0 f _ i hf hp

theorem raise (h : QueueWork s t) (pg b : Nat) (hp : pg ∈ switchPages) : QueueWork s (t.raise pg b) := by
  obtain ⟨m, l, hraise⟩ := raise_frame t pg b
  have hregs := pagesBut_raise t pg b hp
  refine h.trans ⟨?_, hregs⟩
  rw [hraise]
  exact ⟨_, _, _, _, _, _, _, rfl⟩

theorem emit (h : QueueWork s t) (e : Emit) : QueueWork s (t.emit e) := h.same _ _ _ _ _ _

theorem updVoq (h : QueueWork s t) (v : Nat) (f : Voq → Voq) : QueueWork s (t.updVoq v f) := h.same _ _ _ _ _ _

theorem updOut (h : QueueWork s t) (p : Nat) (f : OutPort → OutPort) : QueueWork s (t.updOut p f) := h.same _ _ _ _ _ _

theorem touch (h : QueueWork s t) (v : Nat) : QueueWork s (t.touch v) := by
  unfold State.touch
  exact (h.ite (h.updVoq v _)).ite (h.updVoq v _)

theorem touchOut (h : QueueWork s t) (p : Nat) : QueueWork s (t.touchOut p) := h.foldl fun v _ _ hu => hu.touch v

theorem updCell (h : QueueWork s t) (c : Nat) (f : CellEnt → CellEnt) : QueueWork s (t.updCell c f) := h.same _ _ _ _ _ _

theorem releaseCells (h : QueueWork s t) (v : Nat) (cs : List Nat) : QueueWork s (t.releaseCells v cs) :=
  h.foldl fun c _ u hu => by
    dsimp only
    split_ifs
    · exact hu.updCell c _
    · exact (hu.updCell c _).same _ _ _ _ _ _
    all_goals exact hu.updCell c _

theorem releaseCopy (h : QueueWork s t) (v : Nat) (c : Copy) : QueueWork s (t.releaseCopy v c) :=
  (((h.updVoq v _).wr _ _ 0).wr _ _ (clsOf v)).releaseCells v c.cells

theorem countDiscard (h : QueueWork s t) (v cause : Nat) : QueueWork s (t.countDiscard v cause) := by
  have hcount := fun c : Bool => ite (c := c = true) (h.sat SWITCH.VOQ_DISC_COUNT (clsOf v)) (h.sat SWITCH.PDOWN_DISC_COUNT (clsOf v))
  exact ((((hcount _).wr _ _ _).wr _ _ _).wr _ _ _).raise _ _ (by decide)

theorem lostCopy (h : QueueWork s t) (c : Copy) : QueueWork s (t.lostCopy c) := by
  unfold State.lostCopy
  exact h.ite (h.same _ _ _ _ _ _)

theorem discardQueue (h : QueueWork s t) (cause v : Nat) : QueueWork s (t.discardQueue cause v) := by
  have hgone := h.foldl (as := (t.voq v).q) fun c _ _ hu => ((hu.releaseCopy v c).countDiscard v cause).lostCopy c
  exact h.ite ((hgone.updVoq v _).touch v)

theorem requeueCells (h : QueueWork s t) (v : Nat) (cs : List Nat) : QueueWork s (t.requeueCells v cs) :=
  h.foldl fun c _ u hu => by
    split_ifs
    all_goals exact hu.updCell c _

theorem abandonGrant (h : QueueWork s t) (p : Nat) : QueueWork s (t.abandonGrant p) := by
  unfold State.abandonGrant
  split
  · exact h
  · dsimp only
    split
    · exact h.updOut p _
    · exact ((h.updOut p _).requeueCells _ _).touch _

theorem settleOut (h : QueueWork s t) (p : Nat) : QueueWork s (t.settleOut p) := by
  unfold State.settleOut
  split_ifs
  · exact h
  · exact h.foldl fun v _ _ hu => hu.discardQueue 7 v
  · exact h
  · exact h.foldl fun v _ _ hu => (hu.discardQueue _ v).updVoq v _
  · exact h.foldl fun v _ _ hu => hu.discardQueue 7 v

theorem portDown (h : QueueWork s t) (p : Nat) : QueueWork s (t.portDown p) := by
  have hdown := (h.abandonGrant p).updOut p (fun o => { o with down := true, gen := (o.gen + 1) % 16 })
  unfold State.portDown
  dsimp only
  split_ifs
  · exact h
  all_goals refine (QueueWork.wr (QueueWork.settleOut ?_ p) _ _ _).touchOut p
  · exact (hdown.updOut p _).foldl fun v _ _ hu => hu.updVoq v _
  · exact (hdown.updOut p _).foldl fun v _ _ hu => hu.updVoq v _
  · exact hdown

theorem fenceOutput (h : QueueWork s t) (p : Nat) : QueueWork s (t.fenceOutput p) := by
  have hdown := (h.abandonGrant p).updOut p (fun o => { o with gen := (o.gen + 1) % 16 })
  unfold State.fenceOutput
  dsimp only
  refine (h.portDown p).ite ((QueueWork.wr (hdown.ite ?_) _ _ _).touchOut p)
  exact hdown.foldl fun v _ _ hu => hu.discardQueue 7 v

theorem unfenceOutput (h : QueueWork s t) (p : Nat) : QueueWork s (t.unfenceOutput p) := h.ite ((h.wr _ _ _).touchOut p)

theorem rdn (h : QueueWork s t) (n : Nat) (f : Fld) (i : Nat) (hf : InPage f) (hp : f.page + n ∉ switchPages) :
    t.rdn n f i = s.rdn n f i := rdn_of_pagesBut h.2 n f i hf hp

theorem event (h : QueueWork s t) (pg b : Nat) (hp : pg ∉ switchPages) : event t pg b = event s pg b :=
  congrArg (bitOf · b) (h.rdn pg HDR.INT_STAT_EVENTS 0 (by decide) (by simpa [HDR.INT_STAT_EVENTS] using hp))

end QueueWork

/-! ### Requesters brought up to date -/

/-- Requesters live in the queues alone. -/
theorem touch_voqs (s : State) (v : Nat) : ∃ vs, s.touch v = { s with voqs := vs } := by
  unfold State.touch
  split_ifs
  · exact ⟨_, rfl⟩
  · exact ⟨_, rfl⟩
  · exact ⟨_, rfl⟩

theorem touchOut_voqs (s : State) (p : Nat) : ∃ vs, s.touchOut p = { s with voqs := vs } := by
  have hall : ∀ (vs : List Nat) (t : State), (∃ q, t = { s with voqs := q }) → ∃ q, vs.foldl State.touch t = { s with voqs := q } := by
    intro vs
    induction vs with
    | nil => exact fun _ h => h
    | cons v vs ih =>
      rintro t ⟨q, rfl⟩
      obtain ⟨q', hq⟩ := touch_voqs { s with voqs := q } v
      exact ih _ ⟨q', hq⟩
  exact hall _ s ⟨_, rfl⟩

/-- The end of an output's fence shows the port up and brings its requesters up to date. -/
theorem unfenceOutput_frame (s : State) (p : Nat) : (∃ rs vs, s.unfenceOutput p = { s with regs := rs, voqs := vs }) ∧
    RegsBut s (s.unfenceOutput p) [key SWITCH.PORT_STAT_STATE p] := by
  unfold State.unfenceOutput
  split_ifs
  · exact ⟨⟨_, _, rfl⟩, regsBut_refl s _⟩
  · obtain ⟨vs, h⟩ := touchOut_voqs (s.wr SWITCH.PORT_STAT_STATE 0 p) p
    rw [h]
    exact ⟨⟨_, _, rfl⟩, regsBut_wrn s 0 SWITCH.PORT_STAT_STATE 0 p (List.mem_singleton_self _)⟩

/-- A fenced output other than a ring output shows that it is down (R146, R158). -/
theorem fenceOutput_shows (s : State) (p : Nat) (hp : 2 ≤ p) : (s.fenceOutput p).rd SWITCH.PORT_STAT_STATE p = 1 := by
  have hshown : ∀ t : State, ((t.wr SWITCH.PORT_STAT_STATE 1 p).touchOut p).rd SWITCH.PORT_STAT_STATE p = 1 := fun t => by
    obtain ⟨vs, h⟩ := touchOut_voqs (t.wr SWITCH.PORT_STAT_STATE 1 p) p
    rw [h]
    exact rdn_wrn_same t 0 SWITCH.PORT_STAT_STATE 1 p
  unfold State.fenceOutput
  rw [if_neg (by omega)]
  exact hshown _

end Sys2Proof.Proofs
end

section
/-! PROOFS. The PCI Express function (R45, R46, R48, R325, R452, R468). -/

set_option Elab.async false

namespace Sys2Proof.Proofs

open Sys2Proof.Machine Sys2Proof.Safety Sys2Proof.Laws

/-! ### MSI-X messages held back (R48) -/

theorem msixFlush_frame (s : State) : ∃ m l, s.msixFlush = { s with msix := m, sent := l } := by
  have hall : ∀ (vs : List Nat) (t : State), (∃ m l, t = { s with msix := m, sent := l }) →
      ∃ m l, vs.foldl (fun t v => if t.asserted v then (if t.msixOpen v then t.msixSend v else t)
        else { t with msix := { t.msix with pba := deleteNat t.msix.pba v } }) t = { s with msix := m, sent := l } := by
    intro vs
    induction vs with
    | nil => exact fun _ h => h
    | cons v vs ih =>
      rintro t ⟨m, l, rfl⟩
      refine ih _ ?_
      dsimp only
      split_ifs
      · obtain ⟨m', l', h⟩ := msixSend_frame { s with msix := m, sent := l } v
        exact ⟨m', l', h⟩
      · exact ⟨m, l, rfl⟩
      · exact ⟨_, l, rfl⟩
  exact hall _ s ⟨s.msix, s.sent, rfl⟩

/-- With no vector pending there is nothing to send. -/
theorem msixFlush_none (s : State) (h : s.msix.pba = []) : s.msixFlush = s := by
  unfold State.msixFlush
  rw [h]
  rfl

/-! ### The bridge without its host (R325) -/

theorem discardLine_work (s : State) (l : Line) (cause : Nat) :
    RegWork [0x14] (s.updBridge (fun b => { b with lines := b.lines.filter (fun x => x ≠ l) })) (s.discardLine l cause) := by
  unfold State.discardLine
  dsimp only
  generalize s.updBridge (fun b => { b with lines := b.lines.filter (fun x => x ≠ l) }) = s1
  have h := RegWork.refl [0x14] s1
  exact h.ite ((((((((h.wr _ _ _).wr _ _ _).wr _ _ _).wr _ _ _).wr _ _ _).wr _ _ _).sat _ _).raise 0x14 2)

theorem discardLine_frame (s : State) (l : Line) (cause : Nat) :
    (∃ rs m e, s.discardLine l cause = { s with
      regs := rs, msix := m, sent := e, bridge := { s.bridge with lines := s.bridge.lines.filter (fun x => x ≠ l) } }) ∧
    PagesBut s (s.discardLine l cause) [0x14] := by
  obtain ⟨⟨rs, m, e, h⟩, hpages⟩ := discardLine_work s l cause
  exact ⟨⟨rs, m, e, h⟩, hpages⟩

theorem discardLines_frame (cause : Nat) : ∀ (ls : List Line) (s : State),
    (∃ rs m e ln, ls.foldl (fun t l => t.discardLine l cause) s = { s with
      regs := rs, msix := m, sent := e, bridge := { s.bridge with lines := ln } } ∧ ∀ x ∈ ln, x ∈ s.bridge.lines ∧ x ∉ ls) ∧
    PagesBut s (ls.foldl (fun t l => t.discardLine l cause) s) [0x14] := by
  intro ls
  induction ls with
  | nil => exact fun s => ⟨⟨_, _, _, _, rfl, fun x hx => ⟨hx, List.not_mem_nil⟩⟩, pagesBut_refl s _⟩
  | cons l ls ih =>
    intro s
    obtain ⟨⟨rs, m, e, hone⟩, hpages⟩ := discardLine_frame s l cause
    obtain ⟨⟨rs', m', e', ln, hrest, hln⟩, hpages'⟩ := ih (s.discardLine l cause)
    refine ⟨⟨rs', m', e', ln, ?_, fun x hx => ?_⟩, pagesBut_trans hpages hpages'⟩
    · rw [List.foldl_cons, hrest, hone]
    · obtain ⟨hin, hnot⟩ := hln x hx
      rw [hone] at hin
      obtain ⟨hmem, hne⟩ := List.mem_filter.mp hin
      exact ⟨hmem, by simp_all⟩

/-- Without its host the bridge holds no read and no line. -/
theorem bridgeDown_frame (s : State) :
    (∃ rs m e, s.bridgeDown = { s with regs := rs, msix := m, sent := e, bridge := { s.bridge with
      reads := [], intake := [], reqs := s.bridge.reqs.filter (fun r => r.kind ≠ 1), lines := [] } }) ∧
    PagesBut s s.bridgeDown [0x14] := by
  unfold State.bridgeDown State.discardLines
  generalize hs1 : s.updBridge (fun b => { b with reads := [], intake := [], reqs := b.reqs.filter (fun r => r.kind ≠ 1) }) = s1
  have hlines : s1.bridge.lines = s.bridge.lines := by rw [← hs1]; rfl
  have hpages1 : PagesBut s s1 [0x14] := by rw [← hs1]; exact pagesBut_refl s _
  obtain ⟨⟨rs, m, e, ln, h, hln⟩, hpages⟩ := discardLines_frame 5 (s1.bridge.lines.filter (fun _ => true)) s1
  have hnone : ln = [] := List.eq_nil_iff_forall_not_mem.mpr fun x hx => by
    obtain ⟨hin, hnot⟩ := hln x hx
    exact hnot (by simpa using hin)
  subst hnone
  refine ⟨⟨rs, m, e, ?_⟩, pagesBut_trans hpages1 hpages⟩
  rw [h, ← hs1]
  rfl

/-- The host out of reach: the bridge without it, and P3 a fenced output. -/
theorem hostGone_frame (s : State) :
    (∃ rs m e vs os x b, s.hostGone = { s with
      regs := rs, msix := m, sent := e, voqs := vs, outs := os, tx := x, buf := b, bridge := { s.bridge with
        reads := [], intake := [], reqs := s.bridge.reqs.filter (fun r => r.kind ≠ 1), lines := [] } }) ∧
    s.hostGone.rd SWITCH.PORT_STAT_STATE 3 = 1 := by
  obtain ⟨⟨rs, m, e, hdown⟩, -⟩ := bridgeDown_frame s
  obtain ⟨⟨rs', m', e', vs, os, x, b, hfence⟩, -⟩ := (QueueWork.refl s.bridgeDown).fenceOutput 3
  refine ⟨⟨rs', m', e', vs, os, x, b, ?_⟩, fenceOutput_shows s.bridgeDown 3 (by decide)⟩
  rw [State.hostGone, hfence, hdown]

/-! ### The data link (R43, R325, R468) -/

/-- PCIE_STAT as the link's state is shown. -/
def linkShown (s : State) (up width speed : Nat) : State :=
  ((s.wr DEVICE.PCIE_STAT_DL_UP up).wr DEVICE.PCIE_STAT_WIDTH width).wr DEVICE.PCIE_STAT_SPEED speed

theorem linkShown_shows (s : State) (up width speed : Nat) :
    (linkShown s up width speed).rd DEVICE.PCIE_STAT_DL_UP = up % 2 ∧
    (linkShown s up width speed).rd DEVICE.PCIE_STAT_WIDTH = width % 2 ^ DEVICE.PCIE_STAT_WIDTH.w ∧
    (linkShown s up width speed).rd DEVICE.PCIE_STAT_SPEED = speed % 2 ^ DEVICE.PCIE_STAT_SPEED.w := by
  refine ⟨?_, ?_, ?_⟩
  · exact (rdn_wrn_elsewhere _ _ _ _ (by decide)).trans ((rdn_wrn_elsewhere _ _ _ _ (by decide)).trans (rdn_wrn_same s 0 _ up 0))
  · exact (rdn_wrn_elsewhere _ _ _ _ (by decide)).trans (rdn_wrn_same _ 0 _ width 0)
  · exact rdn_wrn_same _ 0 _ speed 0

/-- An event bit just raised is 1. -/
theorem event_raise_same (s : State) (pg b : Nat) (hb : b < 32) : event (s.raise pg b) pg b = true := by
  rw [event_raise s pg b b hb]
  simp

theorem exec_pcieLinkUp (s : State) (width speed : Nat) (hpd : s.pdOn 6 = true) (hperst : s.pcie.perst = false) (hup : s.pcie.up = false) :
    exec (.pcieLinkUp width speed) s = .next
      (((linkShown { s with pcie := { s.pcie with up := true } } 1 width speed).raise 0 8).unfenceOutput 3) :=
  congrArg Host.Outcome.next (if_neg (by simp [hpd, hperst, hup]))

/-- The loss of an up link. -/
theorem linkLost_up (s : State) (hup : s.pcie.up = true) :
    s.linkLost = (linkShown { s with pcie := { s.pcie with up := false } } 0 0 0).hostGone.raise 0 9 := if_neg (by simp [hup])

/-- A lost link is down, and the bridge without its host. -/
theorem linkLost_frame (s : State) (hup : s.pcie.up = true) :
    (∃ rs m e vs os x b, s.linkLost = { s with
      regs := rs, msix := m, sent := e, voqs := vs, outs := os, tx := x, buf := b, pcie := { s.pcie with up := false }
      bridge := { s.bridge with reads := [], intake := [], reqs := s.bridge.reqs.filter (fun r => r.kind ≠ 1), lines := [] } }) ∧
    s.linkLost.rd SWITCH.PORT_STAT_STATE 3 = 1 ∧ event s.linkLost 0 9 = true := by
  obtain ⟨⟨rs, m, e, vs, os, x, b, hgone⟩, hshown⟩ := hostGone_frame (linkShown { s with pcie := { s.pcie with up := false } } 0 0 0)
  rw [linkLost_up s hup]
  refine ⟨?_, ?_, event_raise_same _ 0 9 (by decide)⟩
  · obtain ⟨m', e', hraise⟩ := raise_frame (linkShown { s with pcie := { s.pcie with up := false } } 0 0 0).hostGone 0 9
    rw [hraise, hgone]
    exact ⟨_, _, _, _, _, _, _, rfl⟩
  · rw [State.rd, rdn_raise_other _ 0 9 0 _ 3 (by decide)]
    exact hshown

/-! ### A Function Level Reset (R45) -/

/-- The masks of a page written are its registers alone. -/
theorem masksWritten_frame (s : State) (pg rd wr : Nat) :
    (∃ rs, (s.wrn pg HDR.BLK_ACCESS_RD_MASK rd pg).wrn pg HDR.BLK_ACCESS_WR_MASK wr pg = { s with regs := rs }) ∧
      PagesBut s ((s.wrn pg HDR.BLK_ACCESS_RD_MASK rd pg).wrn pg HDR.BLK_ACCESS_WR_MASK wr pg) [pg] :=
  ⟨⟨_, rfl⟩, pagesBut_trans (pagesBut_wrn s pg HDR.BLK_ACCESS_RD_MASK rd pg (by decide) (by simp [HDR.BLK_ACCESS_RD_MASK]))
    (pagesBut_wrn _ pg HDR.BLK_ACCESS_WR_MASK wr pg (by decide) (by simp [HDR.BLK_ACCESS_WR_MASK]))⟩

theorem otpMasks_frame (s : State) (pg : Nat) :
    (∃ rs, s.otpMasks pg = { s with regs := rs }) ∧ PagesBut s (s.otpMasks pg) [pg] := by
  unfold State.otpMasks
  split
  · exact ⟨⟨_, rfl⟩, pagesBut_refl s _⟩
  · exact masksWritten_frame s pg _ _

/-- What a Function Level Reset makes of the state before OTP gives the masks and P3 is opened. -/
def flrCleared (s : State) : State :=
  { s.bridgeDown with
    regs := s.bridgeDown.regs.filter (fun e => flrKeeps e.1)
    msix := { events := s.bridgeDown.msix.events }
    pcie := { up := s.bridgeDown.pcie.up, perst := s.bridgeDown.pcie.perst }
    pageUnit := { s.bridgeDown.pageUnit with
      swFence := s.bridgeDown.pageUnit.swFence.filter (fun pg => pg ≠ 0x14 && pg ≠ 0x15)
      inReset := s.bridgeDown.pageUnit.inReset.filter (fun pg => pg ≠ 0x14 && pg ≠ 0x15) }
    bridge := { s.bridgeDown.bridge with
      reqs := (s.bridgeDown.bridge.reqs.filter (fun (r : Req) => r.kind = 0)).map (fun (r : Req) => { r with fenced := false })
      fence := none, turn := 0, txWait := [], polls := [], cq := [], lines := [] } }

theorem flr_eq (s : State) : s.flr = (((flrCleared s).otpMasks 0x14).otpMasks 0x15).unfenceOutput 3 := rfl

theorem flrCleared_bridge (s : State) : (flrCleared s).bridge.reads = [] ∧ (flrCleared s).bridge.lines = [] ∧
    (flrCleared s).bridge.fence = none ∧ (flrCleared s).bridge.cq = [] := by
  obtain ⟨⟨rs, m, e, hdown⟩, -⟩ := bridgeDown_frame s
  have hreads : s.bridgeDown.bridge.reads = [] := by rw [hdown]
  exact ⟨hreads, rfl, rfl, rfl⟩

theorem flrCleared_frame (s : State) : ∃ rs e l u b, flrCleared s = { s with
    regs := rs, msix := { events := e }, sent := l, pageUnit := u, bridge := b
    pcie := { up := s.pcie.up, perst := s.pcie.perst } } := by
  obtain ⟨⟨rs, m, e, hdown⟩, -⟩ := bridgeDown_frame s
  refine ⟨(flrCleared s).regs, (flrCleared s).msix.events, (flrCleared s).sent, (flrCleared s).pageUnit, (flrCleared s).bridge, ?_⟩
  unfold flrCleared
  rw [hdown]

theorem flrCleared_mode (s : State) : (flrCleared s).mode = s.mode := by
  obtain ⟨-, hpages⟩ := bridgeDown_frame s
  have hkeep : flrKeeps (DEVICE.MODE_STAT_MODE.key 0 0) = true := by decide
  have hfind : Tbl.find (flrCleared s).regs (DEVICE.MODE_STAT_MODE.key 0 0) = Tbl.find s.regs (DEVICE.MODE_STAT_MODE.key 0 0) := by
    refine (find_filter s.bridgeDown.regs flrKeeps _).trans ?_
    rw [if_pos hkeep]
    exact hpages _ (by decide)
  exact congrArg (Option.getD · _) hfind

/-- The masks and P3's requesters come after the reset proper. -/
theorem flr_after (s : State) : (∃ rs vs, s.flr = { flrCleared s with regs := rs, voqs := vs }) ∧ s.flr.mode = (flrCleared s).mode := by
  rw [flr_eq]
  obtain ⟨⟨rs3, h3⟩, hp3⟩ := otpMasks_frame (flrCleared s) 0x14
  obtain ⟨⟨rs4, h4⟩, hp4⟩ := otpMasks_frame ((flrCleared s).otpMasks 0x14) 0x15
  obtain ⟨⟨rs5, vs, h5⟩, hr5⟩ := unfenceOutput_frame (((flrCleared s).otpMasks 0x14).otpMasks 0x15) 3
  constructor
  · rw [h5, h4, h3]
    exact ⟨_, _, rfl⟩
  · have hmode5 := rdn_of_regsBut hr5 0 DEVICE.MODE_STAT_MODE 0 (by decide)
    have hmode4 := rdn_of_pagesBut hp4 0 DEVICE.MODE_STAT_MODE 0 (by decide) (by decide)
    have hmode3 := rdn_of_pagesBut hp3 0 DEVICE.MODE_STAT_MODE 0 (by decide) (by decide)
    exact hmode5.trans (hmode4.trans hmode3)

/-- What a Function Level Reset leaves of MSI-X, configuration space, the bridge and the mode. -/
theorem flr_frame (s : State) :
    (∃ rs e l u b vs, s.flr = { s with
      regs := rs, msix := { events := e }, sent := l, pageUnit := u, bridge := b, voqs := vs
      pcie := { up := s.pcie.up, perst := s.pcie.perst } }) ∧
    (s.flr.bridge.reads = [] ∧ s.flr.bridge.lines = [] ∧ s.flr.bridge.fence = none ∧ s.flr.bridge.cq = []) ∧ s.flr.mode = s.mode := by
  obtain ⟨rs, e, l, u, b, hcleared⟩ := flrCleared_frame s
  obtain ⟨⟨rs', vs, hafter⟩, hmode⟩ := flr_after s
  refine ⟨⟨rs', e, l, u, b, vs, ?_⟩, ?_, hmode.trans (flrCleared_mode s)⟩
  · rw [hafter, hcleared]
  · rw [hafter]
    exact flrCleared_bridge s

theorem exec_perst (s : State) (hpd : s.pdOn 6 = true) (hperst : s.pcie.perst = false) :
    exec (.perst true) s = .next (({ s with pcie := { s.pcie with perst := true } }.flr.linkLost).raise 0 10) :=
  congrArg Host.Outcome.next (if_neg (by simp [hpd, hperst]))

/-- A reset that also retrains the link: its end, up or down before. -/
theorem flr_linkLost (s : State) : s.flr.linkLost.pcie.perst = s.pcie.perst ∧ s.flr.linkLost.pcie.up = false ∧
    s.flr.linkLost.bridge.reads = [] := by
  obtain ⟨⟨rs, e, l, u, b, vs, hflr⟩, ⟨hflrReads, -⟩, -⟩ := flr_frame s
  have hperst : s.flr.pcie.perst = s.pcie.perst := by rw [hflr]
  cases hup : s.flr.pcie.up with
  | true =>
    obtain ⟨⟨rs', m', e', vs', os', x', b', hlost⟩, -⟩ := linkLost_frame s.flr hup
    rw [hlost]
    exact ⟨hperst, rfl, rfl⟩
  | false =>
    have hsame : s.flr.linkLost = s.flr := if_pos (by simp [hup])
    rw [hsame]
    exact ⟨hperst, hup, hflrReads⟩

/-! ### Writing the MSI-X controls (R48) -/

theorem exec_msixUnmask_control (s : State) (enable fmask : Bool) (hpd : s.pdOn 6 = true) :
    exec (.msixUnmask none enable fmask) s = .next { s with msix := { s.msix with enable := enable, fmask := fmask } }.msixFlush :=
  congrArg Host.Outcome.next (if_neg (by simp [hpd]))

/-- A vector's mask bit cleared with nothing pending. -/
theorem msixWrite_mask (s : State) (v : Nat) (hpba : s.msix.pba = []) :
    s.msixWrite (4 * v + 3) 0 = { s with msix := { s.msix with words := (s.msixWrite (4 * v + 3) 0).msix.words } } ∧
      (s.msixWrite (4 * v + 3) 0).msix.word (4 * v + 3) = 0 := by
  have hcontrol : (4 * v + 3) % 4 = 3 := by omega
  have hwrite : s.msixWrite (4 * v + 3) 0 = { s with msix := { s.msix with words := Tbl.set 1 s.msix.words (4 * v + 3) 0 } } := by
    unfold State.msixWrite
    rw [if_pos hcontrol, if_pos hcontrol]
    exact msixFlush_none _ hpba
  rw [hwrite]
  refine ⟨rfl, ?_⟩
  unfold Msix.word
  rw [if_pos hcontrol]
  exact get_set_same 1 s.msix.words (4 * v + 3) 0

theorem exec_msixUnmask_vector (s : State) (v : Nat) (e m : Bool) (hpd : s.pdOn 6 = true) (hv : v < 64)
    (harr : s.arrives .host = true) (hwait : s.hostWaits .host true = false) :
    exec (.msixUnmask (some v) e m) s = .next (s.msixWrite (4 * v + 3) 0) := by
  refine congrArg Host.Outcome.next ((if_neg (by simp [hpd])).trans ((if_pos (by simp [hv, harr])).trans (if_neg ?_)))
  simp [hwait]

/-- Settles O10: a link change is PCIE_STAT, the bridge and P3; a Function Level Reset a filter of fields and a fresh unit. -/
theorem pcieFunctionCommandsComplete : Obligations.PcieFunctionCommandsComplete := by
  unfold Obligations.PcieFunctionCommandsComplete
  refine ⟨?_, ?_, ?_, ?_, ?_, ?_, ?_, ?_, ?_⟩
  case refine_1 =>
    intro s width speed hpd hperst hup
    refine ⟨_, exec_pcieLinkUp s width speed hpd hperst hup, ?_⟩
    obtain ⟨hdl, hwidth, hspeed⟩ := linkShown_shows { s with pcie := { s.pcie with up := true } } 1 width speed
    generalize hs1 : linkShown { s with pcie := { s.pcie with up := true } } 1 width speed = s1 at hdl hwidth hspeed ⊢
    have hpcie : s1.pcie = { s.pcie with up := true } := by rw [← hs1]; rfl
    obtain ⟨m, e, hraise⟩ := raise_frame s1 0 8
    obtain ⟨⟨rs, vs, hunfence⟩, hregs⟩ := unfenceOutput_frame (s1.raise 0 8) 3
    have hkept : ∀ f : Fld, f.key 0 0 ∉ [key SWITCH.PORT_STAT_STATE 3] → f.key 0 0 ≠ HDR.INT_STAT_EVENTS.key 0 0 →
        ((s1.raise 0 8).unfenceOutput 3).rd f = s1.rd f := fun f hport hint =>
      (rdn_of_regsBut hregs 0 f 0 hport).trans (rdn_raise_other s1 0 8 0 f 0 hint)
    refine ⟨?_, (hkept _ (by decide) (by decide)).trans hdl, (hkept _ (by decide) (by decide)).trans hwidth,
      (hkept _ (by decide) (by decide)).trans hspeed, ?_⟩
    · rw [hunfence, hraise]
      exact hpcie
    · rw [event, rdn_of_regsBut hregs 0 HDR.INT_STAT_EVENTS 0 (by decide)]
      exact event_raise_same s1 0 8 (by decide)
  case refine_2 =>
    intro s hup
    obtain ⟨⟨rs, m, e, vs, os, x, b, hlost⟩, hshown, hevent⟩ := linkLost_frame s hup
    exact ⟨_, rfl, by rw [hlost], hshown, by rw [hlost], by rw [hlost], hevent, by rw [hlost], by rw [hlost], by rw [hlost]⟩
  case refine_3 =>
    intro s hpd hup hd3
    obtain ⟨⟨rs, m, e, vs, os, x, b, hgone⟩, hshown⟩ := hostGone_frame { s with pcie := { s.pcie with d3hot := true } }
    have hpcie : ({ s with pcie := { s.pcie with d3hot := true } } : State).hostGone.pcie = { s.pcie with d3hot := true } := by rw [hgone]
    refine ⟨_, congrArg Host.Outcome.next (if_pos (by simp [hpd, hup, hd3])), hpcie, ?_, hshown, fun v hv hcls => ?_,
      by rw [hgone], by rw [hgone], by rw [hgone]⟩
    · simp [State.arrives, hpcie]
    · simp [State.queueFenced, State.outFenced, hv, hcls, hpcie]
  case refine_4 =>
    intro s hd3
    obtain ⟨⟨rs, vs, hunfence⟩, -⟩ := unfenceOutput_frame { s with pcie := { s.pcie with d3hot := false } } 3
    obtain ⟨m, l, hflush⟩ := msixFlush_frame ({ s with pcie := { s.pcie with d3hot := false } }.unfenceOutput 3)
    refine ⟨_, congrArg Host.Outcome.next (if_pos hd3), ?_⟩
    rw [hflush, hunfence]
    exact ⟨rfl, rfl, rfl, rfl⟩
  case refine_5 =>
    intro s enable fmask hpd hpba
    rw [exec_msixUnmask_control s enable fmask hpd]
    exact congrArg Host.Outcome.next (msixFlush_none _ hpba)
  case refine_6 =>
    intro s v e m hpd hv hpba harr hwait
    obtain ⟨hframe, hword⟩ := msixWrite_mask s v hpba
    exact ⟨_, exec_msixUnmask_vector s v e m hpd hv harr hwait, hword, hframe⟩
  case refine_7 =>
    intro s hpd
    obtain ⟨⟨rs, e, l, u, b, vs, hflr⟩, ⟨hreads, hlines, hfence, hcq⟩, hmode⟩ := flr_frame s
    refine ⟨_, congrArg Host.Outcome.next (if_pos hpd), ?_, hreads, hlines, hfence, hcq, ?_, ?_, ?_, ?_, hmode⟩
    all_goals rw [hflr]
  case refine_8 =>
    intro s hpd hperst
    obtain ⟨hlow, hup, hreads⟩ := flr_linkLost { s with pcie := { s.pcie with perst := true } }
    obtain ⟨m, l, hraise⟩ := raise_frame { s with pcie := { s.pcie with perst := true } }.flr.linkLost 0 10
    refine ⟨_, exec_perst s hpd hperst, ?_, ?_, ?_, event_raise_same _ 0 10 (by decide)⟩
    · rw [hraise]; exact hlow
    · rw [hraise]; exact hup
    · rw [hraise]; exact hreads
  case refine_9 =>
    intro s
    exact congrArg Host.Outcome.next (if_pos (by simp))

end Sys2Proof.Proofs
end

section
/-! PROOFS. What an entry to SAFE leaves of the collector and the mode (R446, R482, R484). -/

set_option Elab.async false

namespace Sys2Proof.Proofs

open Sys2Proof.Machine Sys2Proof.Safety Sys2Proof.Laws

/-! ### The relation -/

/-- A stored field copy of the FAULT page, or that of the mode. -/
def CollectorKey (k : Nat) : Prop := keyPage k = 3 ∨ k = DEVICE.MODE_STAT_MODE.key 0 0

/-- A field of page `f.page + n` that is neither. -/
abbrev OffCollector (f : Fld) (n : Nat) : Prop :=
  InPage f ∧ f.page + n ≠ 3 ∧ place f n ≠ place DEVICE.MODE_STAT_MODE 0

/-- `t` has the collector, the FAULT page and the mode of `s`. -/
structure CollectorKept (s t : State) : Prop where
  flt : t.flt = s.flt
  fields : ∀ k, CollectorKey k → Tbl.find t.regs k = Tbl.find s.regs k

/-- A field of a page, none of the FAULT page and of page 0, at an offset of the page header. -/
theorem offCollector_hdr {f : Fld} {pg : Nat} (hf : InPage f) (hp : f.page = 0) (hoff : f.off ≠ DEVICE.MODE_STAT_MODE.off)
    (h3 : pg ≠ 3) : OffCollector f pg :=
  ⟨hf, by omega, place_ne_of_off 0 pg (by decide) hf hoff⟩

namespace CollectorKept

variable {s t u : State}

theorem refl (s : State) : CollectorKept s s := ⟨rfl, fun _ _ => rfl⟩

theorem trans (h : CollectorKept s t) (h' : CollectorKept t u) : CollectorKept s u :=
  ⟨h'.flt.trans h.flt, fun k hk => (h'.fields k hk).trans (h.fields k hk)⟩

theorem ite {c : Prop} [Decidable c] (ht : CollectorKept s t) (hu : CollectorKept s u) : CollectorKept s (if c then t else u) := by
  split
  · exact ht
  · exact hu

theorem foldl {α : Type} {f : State → α → State} {as : List α} (h : CollectorKept s t)
    (hf : ∀ a ∈ as, ∀ u, CollectorKept s u → CollectorKept s (f u a)) : CollectorKept s (as.foldl f t) := by
  induction as generalizing t with
  | nil => exact h
  | cons a as ih => exact ih (hf a List.mem_cons_self t h) (fun b hb => hf b (List.mem_cons_of_mem a hb))

theorem mode (h : CollectorKept s t) : t.mode = s.mode := congrArg (Option.getD · _) (h.fields _ (.inr rfl))

theorem wrn (h : CollectorKept s t) (n : Nat) (f : Fld) (v i : Nat) (hf : OffCollector f n) : CollectorKept s (t.wrn n f v i) := by
  obtain ⟨hin, h3, hmode⟩ := hf
  refine h.trans ⟨rfl, fun k hk => find_wrn_other t n f v i k ?_⟩
  rcases hk with hk | rfl
  · exact fun e => h3 (by rw [← keyPage_key f n i hin, ← e, hk])
  · exact key_ne hmode.symm i 0

theorem wr (h : CollectorKept s t) (f : Fld) (v i : Nat) (hf : OffCollector f 0 := by decide) : CollectorKept s (t.wr f v i) :=
  h.wrn 0 f v i hf

theorem raise (h : CollectorKept s t) (pg b : Nat) (hp : pg ≠ 3) : CollectorKept s (t.raise pg b) := by
  obtain ⟨m, l, e⟩ := raise_frame t pg b
  have hset := h.wrn pg HDR.INT_STAT_EVENTS (setBit (t.rdn pg HDR.INT_STAT_EVENTS) b) 0 (offCollector_hdr (by decide) rfl (by decide) hp)
  rw [e]
  exact ⟨hset.flt, hset.fields⟩

theorem stop (h : CollectorKept s t) (n : Nat) : CollectorKept s (t.stop n) := ⟨h.flt, h.fields⟩

theorem updCtx (h : CollectorKept s t) (e c : Nat) (f : Ctx → Ctx) : CollectorKept s (t.updCtx e c f) := ⟨h.flt, h.fields⟩

/-! ### Requests, contexts and pins -/

theorem loseReq (h : CollectorKept s t) (cause : Nat) : CollectorKept s (t.loseReq cause) := by
  have hend : CollectorKept s t.endReq := (wr (t := { t with
      modeU := { t.modeU with want := none, loaded := false }, twin := { t.twin with req := false, nextRole := 0 } })
      ⟨h.flt, h.fields⟩ DEVICE.MODE_STAT_PENDING 0 0).stop tAlone
  exact h.ite (((hend.wr DEVICE.MODE_STAT_LOADING 0 0).wr DEVICE.MODE_STAT_REFUSE_CAUSE cause 0).raise 0 1 (by decide))

theorem offer (h : CollectorKept s t) (src : Nat) (idx : Option Nat) (v : Int) : CollectorKept s (t.offer src idx v) := by
  have htaken : ∀ (u : State) (i : Nat), CollectorKept s u → CollectorKept s (u.monitorTake i v) := fun u i hu => by
    have hcup : ∀ f : CupMon → CupMon, CollectorKept s { u with cup := Tbl.upd {} u.cup i f } := fun f => ⟨hu.flt, hu.fields⟩
    exact ((hcup _).raise 0x06 i (by decide)).ite (hcup _)
  exact ite (h.foldl fun i _ u hu => ite (htaken u i hu) hu) h

theorem halt (h : CollectorKept s t) (e c result : Nat) (late : Bool) : CollectorKept s (t.halt e c result late) := by
  have hend : CollectorKept s (t.endDeferral e c false) :=
    ite ((h.updCtx e c _).offer _ _ _) (h.ite (ite (h.updCtx e c _) h))
  have hp : engPage e ≠ 3 := by unfold engPage; omega
  have hstopped := fun f => (hend.updCtx e c f).raise (engPage e) 10 hp
  exact ite ((hstopped _).raise (engPage e) 15 hp) (hstopped _)

theorem abortAll (h : CollectorKept s t) : CollectorKept s t.abortAll :=
  h.foldl fun _ _ _ hu => ite (hu.halt _ _ 1 false) hu

theorem pinEvent (h : CollectorKept s t) (e c r : Nat) (op : Option Bool) (at_ rank : Nat) :
    CollectorKept s (t.pinEvent e c r op at_ rank) := by
  unfold State.pinEvent
  dsimp only
  split_ifs
  · exact h
  · exact ⟨h.flt, h.fields⟩
  · exact ⟨h.flt, h.fields⟩

theorem safePin (h : CollectorKept s t) (e c r : Nat) : CollectorKept s (t.safePin e c r) := by
  unfold State.safePin
  dsimp only
  split_ifs
  · split
    · exact h.pinEvent _ _ _ _ _ _
    · exact h.pinEvent _ _ _ _ _ _
    · exact h.updCtx _ _ _
    · exact h
  · exact h

theorem safePins (h : CollectorKept s t) : CollectorKept s t.safePins :=
  h.foldl fun _ _ _ hu => ite (hu.foldl fun _ _ _ hv => hv.safePin _ _ _) hu

/-! ### Roles -/

theorem nameRelease (h : CollectorKept s t) (kind : Nat) : CollectorKept s (t.nameRelease kind) := by
  unfold State.nameRelease
  dsimp only
  refine CollectorKept.wr ?_ TWIN.STAT_HANDOVER_PEND 1 0
  exact ⟨h.flt, h.fields⟩

theorem setRole (h : CollectorKept s t) (r : Nat) : CollectorKept s (t.setRole r) := ite (h.wr TWIN.STAT_ROLE r 0) h

theorem keyDark (h : CollectorKept s t) : CollectorKept s t.keyDark := by
  unfold State.keyDark
  split_ifs
  · exact ⟨h.flt, h.fields⟩
  · exact h

/-! ### Domains (R23) -/

theorem queueWork (h : CollectorKept s t) (hq : QueueWork t u) : CollectorKept s u := by
  obtain ⟨⟨rs, m, l, vs, os, x, b, hframe⟩, hpages⟩ := hq
  refine h.trans ⟨by rw [hframe], fun k hk => hpages k ?_⟩
  rcases hk with hk | rfl
  · rw [hk]
    decide
  · decide

theorem raiseRef (h : CollectorKept s t) (b : Nat) : CollectorKept s (t.raiseRef b) := ite (h.raise 0x0A b (by decide)) h

theorem loseSource (h : CollectorKept s t) : CollectorKept s t.loseSource := by
  have hheld : CollectorKept s t.holdSource := ⟨h.flt, h.fields⟩
  exact (((hheld.wr CLOCKS.REF_STAT_SOURCE 2 0).wr CLOCKS.REF_STAT_LOCKED 0 0).raiseRef 5).raiseRef 6

theorem refDark (h : CollectorKept s t) (d : Nat) : CollectorKept s (t.refDark d) := by
  have hwest : CollectorKept s (if d = 2 then { t with ref := { t.ref with edges := none } }.wr CLOCKS.REF_STAT_CLOSED 0 else t) :=
    ite (wr (t := { t with ref := { t.ref with edges := none } }) ⟨h.flt, h.fields⟩ CLOCKS.REF_STAT_CLOSED 0 0) h
  exact ite hwest.loseSource hwest

theorem putAll (h : CollectorKept s t) (n v i : Nat) (fs : List Fld) (hfs : ∀ f ∈ fs, OffCollector f n) :
    CollectorKept s (t.putAll n v i fs) :=
  h.foldl fun f hf _ hu => ite (hu.wrn n f _ i (hfs f hf)) hu

theorem masked (h : CollectorKept s t) (pg : Nat) (hp : pg ≠ 3) : CollectorKept s (masked t pg) := by
  unfold Proofs.masked
  exact h.ite ((h.wrn pg _ _ pg (offCollector_hdr (by decide) rfl (by decide) hp)).wrn pg _ _ pg
    (offCollector_hdr (by decide) rfl (by decide) hp))

theorem otpPage (h : CollectorKept s t) (pg : Nat) (hp : pg ≠ 3) : CollectorKept s (t.otpPage pg) := by
  have hm := h.masked pg hp
  unfold Proofs.masked at hm
  unfold State.otpPage
  dsimp only
  generalize (if t.locked pg then t else (t.wrn pg HDR.BLK_ACCESS_RD_MASK (t.maskBits (12 * blockType pg)) pg).wrn
      pg HDR.BLK_ACCESS_WR_MASK (t.maskBits (12 * blockType pg + 6)) pg) = t1 at hm ⊢
  split_ifs with _ _ _ hbank
  · exact h
  · exact hm.putAll _ _ _ _ (by decide)
  · exact ((hm.wr _ _ _).wr _ _ _).wr _ _ _
  · refine hm.wrn _ _ _ _ ⟨by decide, ?_, ?_⟩
    · simp only [PINBANK.BANK_CFG_VSEL]
      omega
    · simp only [place, PINBANK.BANK_CFG_VSEL, DEVICE.MODE_STAT_MODE]
      omega
  · exact hm.putAll _ _ _ _ (by decide)
  · exact hm.wr _ _ _
  · exact hm

theorem msixFlush (h : CollectorKept s t) : CollectorKept s t.msixFlush := by
  obtain ⟨m, l, hflush⟩ := msixFlush_frame t
  rw [hflush]
  exact ⟨h.flt, h.fields⟩

theorem domRegs (h : CollectorKept s t) {d : Nat} (hd : d ≠ 0) : CollectorKept s (t.domRegs d) := by
  have hpage : ∀ pg ∈ allPages.filter (fun pg => pageDomain pg = d), pg ≠ 3 := by
    rintro pg hpg rfl
    have hdom : pageDomain 3 = d := by simpa using (List.mem_filter.mp hpg).2
    exact hd hdom.symm
  refine msixFlush (foldl ?_ fun pg hpg u hu => hu.otpPage pg (hpage pg hpg))
  refine h.trans ⟨rfl, fun k hk => (find_filter t.regs (fun k => decide (pageDomain (keyPage k) ≠ d) || keptOff k) k).trans (if_pos ?_)⟩
  have hdom : pageDomain (keyPage k) = 0 := by
    rcases hk with hk | rfl
    · rw [hk]
      rfl
    · decide
  simp [hdom, hd.symm]

/-- A ring domain goes off. -/
theorem domainOff_ring (h : CollectorKept s t) {d : Nat} (hd : d = 1 ∨ d = 2) : CollectorKept s (t.domainOff d) := by
  have hregs := (h.refDark d).domRegs (d := d) (by omega)
  unfold State.domainOff
  refine h.ite ?_
  rcases hd with rfl | rfl
  · exact ⟨hregs.flt, hregs.fields⟩
  · exact ⟨hregs.flt, hregs.fields⟩

theorem ringDark (h : CollectorKept s t) : CollectorKept s t.ringDark := by
  have hdown : CollectorKept s ((t.portDown 0).portDown 1) := h.queueWork (((QueueWork.refl t).portDown 0).portDown 1)
  exact (hdown.domainOff_ring (.inl rfl)).domainOff_ring (.inr rfl)

/-- A domain of a cluster comes on. -/
theorem domainOn_cluster (h : CollectorKept s t) {d : Nat} (hd : d = 4 ∨ d = 5) : CollectorKept s (t.domainOn d) := by
  have hpage : ∀ pg ∈ allPages.filter (fun pg => pageDomain pg = d), pg ≠ 3 := by
    rintro pg hpg rfl
    have hdom : pageDomain 3 = d := by simpa using (List.mem_filter.mp hpg).2
    have : pageDomain 3 = 0 := rfl
    omega
  unfold State.domainOn
  dsimp only
  rw [if_neg (show d ≠ 3 by omega)]
  refine h.ite (foldl ⟨h.flt, h.fields⟩ fun pg hpg u hu => ?_)
  exact (hu.otpPage pg (hpage pg hpg)).wrn pg _ 1 0 (offCollector_hdr (by decide) rfl (by decide) (hpage pg hpg))

end CollectorKept

/-! ### SAFE (R484) -/

/-- ALIVE that stands still is not changed by its stop. -/
theorem alive_stopped (f : FaultUnit) (ok : Nat) (hrun : f.aliveRun = false) (hlevel : f.aliveLevel = false) :
    { f with aliveRun := false, aliveLevel := false, aliveOk := ok } = { f with aliveOk := ok } := by
  cases f
  simp_all

/-- The mode changes and nothing of the FAULT page; of the collector, ALIVE's stop and its time alone. -/
theorem setMode_collector (s : State) (m : Nat) (hm : m < 8) (hrun : s.flt.aliveRun = false) (hlevel : s.flt.aliveLevel = false) :
    (s.setMode m).flt = { s.flt with aliveOk := s.mono } ∧ (s.setMode m).mode = m ∧
      ∀ k, keyPage k = 3 → Tbl.find (s.setMode m).regs k = Tbl.find s.regs k := by
  generalize hs1 : ((s.wr DEVICE.MODE_STAT_PREV s.mode).wr DEVICE.MODE_STAT_MODE m).raise 0 0 = s1
  have hregs : PagesBut s s1 [0] := by
    rw [← hs1]
    exact (((RegWork.refl [0] s).wr DEVICE.MODE_STAT_PREV s.mode 0).wr DEVICE.MODE_STAT_MODE m 0 |>.raise 0 0).2
  have hmode : s1.mode = m := by
    rw [← hs1]
    exact (rdn_raise_other _ 0 0 0 DEVICE.MODE_STAT_MODE 0 (by decide)).trans ((rdn_wrn_same _ 0 DEVICE.MODE_STAT_MODE m 0).trans (Nat.mod_eq_of_lt hm))
  have hflt : s1.flt = s.flt := by
    obtain ⟨mx, l, hraise⟩ := raise_frame ((s.wr DEVICE.MODE_STAT_PREV s.mode).wr DEVICE.MODE_STAT_MODE m) 0 0
    rw [← hs1, hraise]
    rfl
  have hpage : ∀ k, keyPage k = 3 → Tbl.find s1.regs k = Tbl.find s.regs k := fun k hk => hregs k (by rw [hk]; decide)
  unfold State.setMode
  dsimp only
  rw [hs1, hflt]
  split_ifs
  · exact ⟨alive_stopped s.flt s.mono hrun hlevel, hmode, hpage⟩
  · exact ⟨rfl, hmode, hpage⟩

/-- What follows the change of mode as SAFE is entered. -/
theorem safeEntered_kept (s : State) (u : State) (h : CollectorKept s u) :
    let sr := if bitOf (u.rdn 0x0E HDR.FLT_STAT_CHECKERS) 0 then u.ringDark else u
    let s2 := ((sr.domainOn 4).domainOn 5).keyDark
    let s3 := if !s2.isTwin || s2.flag TWIN.STAT_OWN_OUT then s2.safePins else s2
    CollectorKept s (if s3.isTwin && s3.twinRole = 1 && s3.rd TWIN.STAT_PEER_ROLE = 2 && s3.twin.peerRec then s3.nameRelease 1
      else if s3.twinRole = 2 then s3.setRole 0 else s3) := by
  intro sr s2 s3
  have hr : CollectorKept s sr := CollectorKept.ite h.ringDark h
  have h2 : CollectorKept s s2 := ((hr.domainOn_cluster (.inl rfl)).domainOn_cluster (.inr rfl)).keyDark
  have h3 : CollectorKept s s3 := CollectorKept.ite h2.safePins h2
  exact CollectorKept.ite (h3.nameRelease 1) (CollectorKept.ite (h3.setRole 0) h3)

/-- An entry to SAFE while ALIVE stands still. -/
theorem enterSafe_collector (s : State) (hrun : s.flt.aliveRun = false) (hlevel : s.flt.aliveLevel = false) :
    (∃ ok, s.enterSafe.flt = { s.flt with aliveOk := ok }) ∧ s.enterSafe.mode = (if s.mode < 2 then s.mode else 5) ∧
      ∀ k, keyPage k = 3 → Tbl.find s.enterSafe.regs k = Tbl.find s.regs k := by
  have hlost := (CollectorKept.refl s).loseReq 4
  by_cases hlow : s.mode < 2
  · rw [State.enterSafe, if_pos hlow, if_pos hlow]
    exact ⟨⟨s.flt.aliveOk, rfl⟩, rfl, fun _ _ => rfl⟩
  by_cases hsafe : s.mode = 5
  · rw [State.enterSafe, if_neg hlow, if_pos hsafe, if_neg hlow]
    exact ⟨⟨s.flt.aliveOk, hlost.flt⟩, hlost.mode.trans hsafe, fun k hk => hlost.fields k (.inl hk)⟩
  obtain ⟨hflt, hmode, hpage⟩ := setMode_collector (s.loseReq 4) 5 (by decide) (by rwa [hlost.flt]) (by rwa [hlost.flt])
  have hkept : CollectorKept ((s.loseReq 4).setMode 5) s.enterSafe := by
    rw [State.enterSafe, if_neg hlow, if_neg hsafe]
    exact safeEntered_kept _ _ ((CollectorKept.refl _).abortAll.stop tDomOff)
  refine ⟨⟨(s.loseReq 4).mono, ?_⟩, ?_, fun k hk => ?_⟩
  · rw [hkept.flt, hflt, hlost.flt]
  · rw [hkept.mode, hmode, if_neg hlow]
  · rw [hkept.fields k (.inl hk), hpage k hk, hlost.fields k (.inl hk)]

end Sys2Proof.Proofs
end

section
/-! PROOFS. Detected faults: their FLT_STAT bit and the fence of their unit (R474-R476). -/

set_option Elab.async false

namespace Sys2Proof.Proofs

open Sys2Proof.Machine Sys2Proof.Safety Sys2Proof.Laws

/-- The checkers of a page are among the word's 32. -/
theorem checkerClass_lt {pg ck c : Nat} (h : checkerClass pg ck = some c) : ck < 32 := by
  unfold checkerClass at h
  dsimp only at h
  repeat' split at h
  all_goals simp at h <;> omega

section
variable (s : State) (d : Det) {c : Nat}

/-- A fault enters the list the collector takes from. -/
def noted : State := { s with flt := { s.flt with det := s.flt.det ++ [d] } }

/-- A fault whose bit was 0 sets it and is noted. -/
def marked : State := noted (s.wrn d.page HDR.FLT_STAT_CHECKERS (setBit (s.rdn d.page HDR.FLT_STAT_CHECKERS) d.checker)) d

theorem detect_repeat (hclass : checkerClass d.page d.checker = some c) (hc : c ≠ 0) (hcorr : (d.corr && !d.inj) = false)
    (hbit : bitOf (s.rdn d.page HDR.FLT_STAT_CHECKERS) d.checker = true) : s.detect d = s.sat FAULT.REPEAT_CNT_COUNT := by
  rw [State.detect, hclass]
  exact (if_neg (by simp [hc, hcorr])).trans (if_pos hbit)

theorem detect_corrected (hclass : checkerClass d.page d.checker = some c) (hc : c ≠ 0) (hpg : d.page ≠ 0x11) (hcorr : d.corr = true)
    (hinj : d.inj = false) : s.detect d = noted s d := by
  have hsame : { d with corr := true } = d := by rw [← hcorr]
  rw [State.detect, hclass]
  refine (if_pos (by simp [hcorr, hinj])).trans ?_
  rw [if_neg (by simp [hc, hpg]), hsame]
  rfl

/-- A bad Cupping monitor is cleared (R495). -/
theorem detect_cup (hclass : checkerClass d.page d.checker = some c) (hpg : d.page = 6) :
    s.detect d = noted { s with cup := Tbl.del s.cup d.detail } { d with corr := true } := by
  have hc : c = 0 := by
    rw [hpg] at hclass
    change (if d.checker ≤ 0 then some 0 else none) = some c at hclass
    split at hclass
    · exact (Option.some.inj hclass).symm
    · cases hclass
  rw [State.detect, hclass]
  refine (if_pos (by simp [hc])).trans ?_
  rw [if_pos (by simp [hc, hpg]), hpg]
  rfl

theorem detect_new (hclass : checkerClass d.page d.checker = some c) (hc : c ≠ 0) (hcorr : d.corr = false)
    (hbit : bitOf (s.rdn d.page HDR.FLT_STAT_CHECKERS) d.checker = false) : s.detect d =
      if c = 1 then (marked s d).fenceUnit d.page d.checker d.detail
      else if d.page = 0x0E then
        (if s.mode = 5 then (if (marked s d).byp.high then (marked s d).enterBypass 2 else (marked s d).wr TRANSIT.BYP_STAT_CAUSE 2).ringDark
         else (if (marked s d).byp.high then (marked s d).enterBypass 2 else (marked s d).wr TRANSIT.BYP_STAT_CAUSE 2))
      else marked s d := by
  rw [State.detect, hclass]
  exact (if_neg (by simp [hc, hcorr])).trans (if_neg (by simp [hbit]))

theorem marked_bit (hck : d.checker < 32) : bitOf ((marked s d).rdn d.page HDR.FLT_STAT_CHECKERS) d.checker = true := by
  have hset : (marked s d).rdn d.page HDR.FLT_STAT_CHECKERS = setBit (s.rdn d.page HDR.FLT_STAT_CHECKERS) d.checker % 2 ^ 32 :=
    rdn_wrn_same s d.page _ _ 0
  rw [hset, bitOf_eq_testBit, Nat.testBit_mod_two_pow, testBit_setBit]
  simp [hck]

theorem marked_regs : RegsBut s (marked s d) [HDR.FLT_STAT_CHECKERS.key d.page 0] :=
  regsBut_wrn s d.page HDR.FLT_STAT_CHECKERS _ 0 (List.mem_singleton_self _)

end

/-- The pages whose contained faults fence a block that does no more by itself. -/
def FencesAlone (pg ck : Nat) : Prop :=
  pg = 0x01 ∨ pg = 0x15 ∨ pg = 0x18 ∨ (pg = 0x19 ∧ ck = 1) ∨ pg = 0x4D ∨ (0x50 ≤ pg ∧ pg < 0x58)

/-- Such a fault fences its block and does no more (R475). -/
theorem fenceUnit_alone (s : State) (pg ck detail : Nat) (hpg : FencesAlone pg ck) (hclass : checkerClass pg ck = some 1) :
    ∃ u, fencedPage pg ck = some u ∧ s.fenceUnit pg ck detail = s.setColFence u := by
  rcases hpg with rfl | rfl | rfl | ⟨rfl, rfl⟩ | rfl | ⟨hlo, hhi⟩
  · have hck : ck ≤ 1 := by
      change (if ck = 2 then some 2 else if ck ≤ 1 then some 1 else none) = some 1 at hclass
      split_ifs at hclass with _ hle
      · exact absurd hclass (by decide)
      · exact hle
    interval_cases ck
    all_goals exact ⟨_, rfl, rfl⟩
  · exact ⟨_, rfl, rfl⟩
  · exact ⟨_, rfl, rfl⟩
  · exact ⟨_, rfl, rfl⟩
  · exact ⟨_, rfl, rfl⟩
  · interval_cases pg
    all_goals exact ⟨_, rfl, rfl⟩

/-- A page in the collector's fence list is fenced. -/
theorem setColFence_fenced (s : State) (u : Nat) : (s.setColFence u).fenced u = true := by
  rw [State.fenced]
  exact Bool.or_eq_true_iff.mpr (.inr (contains_insertNat _ u))

/-- FAULT_DETECTED of a checker whose block does nothing by itself, and nothing else reported. -/
theorem exec_faultDetected (s : State) (pg ck detail : Nat) (corr : Bool) (h3 : pg ≠ 3) (hring : pg ≠ 0x0E)
    (htwin : pg = 0x0D → ck = 0 → s.isTwin = false) :
    exec (.faultDetected pg ck detail corr) s =
      .next (s.detect (detOf s pg ck detail (corr && !bitOf (s.rdn pg HDR.FLT_INJ_INJECT) ck))).drain := by
  have hacts : s.checkerActs pg ck detail = s := by
    have hown : ¬ (pg = 0x0D && ck = 0 && s.isTwin) = true := by
      intro h
      simp only [Bool.and_eq_true, decide_eq_true_eq] at h
      rw [htwin h.1.1 h.1.2] at h
      exact Bool.false_ne_true h.2
    rw [State.checkerActs, if_neg (by simp [hring]), if_neg hown]
  refine congrArg Host.Outcome.next ((if_neg h3).trans ?_)
  dsimp only
  rw [hacts, if_neg hring]
  rfl

/-! ### Transit checks and ownership (R117, R168) -/

/-- The register fields that show a bypass. -/
def bypassKeys : List Nat :=
  [key TRANSIT.BYP_STAT_BYPASSED, key TRANSIT.BYP_STAT_CAUSE, key TRANSIT.BYP_CTRL_REJOIN, intStat 0x0E]

/-- An event is not lost when another is raised. -/
theorem event_raise_mono (s : State) (pg b j : Nat) (hj : j < 32) (h : event s pg j = true) : event (s.raise pg b) pg j = true := by
  rw [event_raise s pg b j hj, h, Bool.or_true]

/-- A bypass entered shows its cause and raises its event. -/
theorem enterBypass_leaves (s : State) (cause : Nat) (hcause : cause < 4) :
    (s.enterBypass cause).byp.high = false ∧ (s.enterBypass cause).flt = s.flt ∧
      (s.enterBypass cause).rd TRANSIT.BYP_STAT_CAUSE = cause ∧ RegsBut s (s.enterBypass cause) bypassKeys ∧
      event (s.enterBypass cause) 0x0E 1 = true ∧ (event s 0x0E 0 = true → event (s.enterBypass cause) 0x0E 0 = true) := by
  generalize hs2 : (((({ s with byp := { s.byp with high := false, waiting := false, ports := false, startup := false } } : State).updTx
    .east (fun t => { t with silent := true })).updTx .west (fun t => { t with silent := true })).stop tRelay) = s2
  have hparts2 : s2.byp.high = false ∧ s2.flt = s.flt ∧ s2.regs = s.regs := by
    rw [← hs2]
    exact ⟨rfl, rfl, rfl⟩
  have hshow : s.enterBypass cause =
      (((s2.wr TRANSIT.BYP_STAT_BYPASSED 1).wr TRANSIT.BYP_STAT_CAUSE cause).wr TRANSIT.BYP_CTRL_REJOIN 0).raise 0x0E 1 := by
    rw [← hs2]
    rfl
  generalize hs3 : ((s2.wr TRANSIT.BYP_STAT_BYPASSED 1).wr TRANSIT.BYP_STAT_CAUSE cause).wr TRANSIT.BYP_CTRL_REJOIN 0 = s3 at hshow
  have hregs : RegsBut s s3 [key TRANSIT.BYP_STAT_BYPASSED, key TRANSIT.BYP_STAT_CAUSE, key TRANSIT.BYP_CTRL_REJOIN] := by
    have h2 : RegsBut s s2 [key TRANSIT.BYP_STAT_BYPASSED, key TRANSIT.BYP_STAT_CAUSE, key TRANSIT.BYP_CTRL_REJOIN] := fun k _ => by
      rw [hparts2.2.2]
    rw [← hs3]
    exact regsBut_trans (regsBut_trans (regsBut_trans h2 (regsBut_wrn s2 0 TRANSIT.BYP_STAT_BYPASSED 1 0 (by simp [key])))
      (regsBut_wrn _ 0 TRANSIT.BYP_STAT_CAUSE cause 0 (by simp [key]))) (regsBut_wrn _ 0 TRANSIT.BYP_CTRL_REJOIN 0 0 (by simp [key]))
  have hcauseShown : s3.rd TRANSIT.BYP_STAT_CAUSE = cause := by
    rw [← hs3]
    exact (rdn_wrn_elsewhere _ 0 0 0 (by decide)).trans ((rdn_wrn_same _ 0 TRANSIT.BYP_STAT_CAUSE cause 0).trans (Nat.mod_eq_of_lt hcause))
  have hparts : s3.byp.high = false ∧ s3.flt = s.flt := by
    rw [← hs3]
    exact ⟨hparts2.1, hparts2.2.1⟩
  obtain ⟨m, l, hraise⟩ := raise_frame s3 0x0E 1
  rw [hshow]
  refine ⟨?_, ?_, ?_, regsBut_trans (regsBut_mono hregs (by simp [bypassKeys])) (regsBut_mono (regsBut_raise s3 0x0E 1)
    (by simp [bypassKeys])), event_raise_same s3 0x0E 1 (by decide), fun h => event_raise_mono s3 0x0E 1 0 (by decide) ?_⟩
  · rw [hraise]
    exact hparts.1
  · rw [hraise]
    exact hparts.2
  · exact (rdn_raise_other s3 0x0E 1 0 TRANSIT.BYP_STAT_CAUSE 0 (by decide)).trans hcauseShown
  · rwa [event, rdn_of_regsBut hregs 0x0E HDR.INT_STAT_EVENTS 0 (by decide)]

/-- The register fields that show a transit check's failure. -/
def transitKeys : List Nat :=
  [key TRANSIT.CMP_STAT_VALID, key TRANSIT.CMP_STAT_OUTPUT, key TRANSIT.CMP_STAT_KIND, key TRANSIT.BYP_STAT_FAULT_HELD] ++ bypassKeys

/-- The first failure of a transit check while BYPASS_N is high (R117). -/
theorem transitFail_leaves (s : State) (out kind : Nat) (hout : out < 2) (hkind : kind < 4) (hvalid : s.flag TRANSIT.CMP_STAT_VALID = false)
    (hhigh : s.byp.high = true) :
    let t := s.transitFail out kind
    t.byp.high = false ∧ t.flt = s.flt ∧ t.rd TRANSIT.CMP_STAT_OUTPUT = out ∧ t.rd TRANSIT.CMP_STAT_KIND = kind ∧
      RegsBut s t transitKeys ∧ event t 0x0E 0 = true ∧ event t 0x0E 1 = true := by
  intro t
  generalize hs1 : ((s.wr TRANSIT.CMP_STAT_VALID 1).wr TRANSIT.CMP_STAT_OUTPUT out).wr TRANSIT.CMP_STAT_KIND kind = s1
  have hregs1 : RegsBut s s1 transitKeys := by
    rw [← hs1]
    exact regsBut_trans (regsBut_trans (regsBut_wrn s 0 TRANSIT.CMP_STAT_VALID 1 0 (by simp [transitKeys, key]))
      (regsBut_wrn _ 0 TRANSIT.CMP_STAT_OUTPUT out 0 (by simp [transitKeys, key])))
      (regsBut_wrn _ 0 TRANSIT.CMP_STAT_KIND kind 0 (by simp [transitKeys, key]))
  have hout1 : s1.rd TRANSIT.CMP_STAT_OUTPUT = out := by
    rw [← hs1]
    exact (rdn_wrn_elsewhere _ kind 0 0 (by decide)).trans ((rdn_wrn_same _ 0 TRANSIT.CMP_STAT_OUTPUT out 0).trans (Nat.mod_eq_of_lt hout))
  have hkind1 : s1.rd TRANSIT.CMP_STAT_KIND = kind := by
    rw [← hs1]
    exact (rdn_wrn_same _ 0 TRANSIT.CMP_STAT_KIND kind 0).trans (Nat.mod_eq_of_lt hkind)
  have hparts1 : s1.byp = s.byp ∧ s1.flt = s.flt := by
    rw [← hs1]
    exact ⟨rfl, rfl⟩
  generalize hs2 : (s1.wr TRANSIT.BYP_STAT_FAULT_HELD 1).raise 0x0E 0 = s2
  obtain ⟨m, l, hraise⟩ := raise_frame (s1.wr TRANSIT.BYP_STAT_FAULT_HELD 1) 0x0E 0
  have hregs2 : RegsBut s1 s2 [key TRANSIT.BYP_STAT_FAULT_HELD, intStat 0x0E] := by
    rw [← hs2]
    exact regsBut_trans (regsBut_wrn s1 0 TRANSIT.BYP_STAT_FAULT_HELD 1 0 (by simp [key]))
      (regsBut_mono (regsBut_raise _ 0x0E 0) (by simp))
  have hparts2 : s2.byp = s.byp ∧ s2.flt = s.flt := by
    rw [← hs2, hraise]
    exact hparts1
  have hevent2 : event s2 0x0E 0 = true := by
    rw [← hs2]
    exact event_raise_same _ 0x0E 0 (by decide)
  have ht : t = s2.enterBypass 2 := by
    have hfail : t = if s2.byp.high then s2.enterBypass 2 else s2.wr TRANSIT.BYP_STAT_CAUSE 2 := by
      rw [← hs2, ← hs1]
      show s.transitFail out kind = _
      unfold State.transitFail
      rw [hvalid]
      rfl
    rw [hfail, if_pos (by rw [hparts2.1, hhigh])]
  obtain ⟨hlow, hflt, -, hregs, hevent, hkept⟩ := enterBypass_leaves s2 2 (by decide)
  rw [ht]
  have hshown : ∀ f : Fld, f.key 0 0 ∉ bypassKeys → f.key 0 0 ∉ [key TRANSIT.BYP_STAT_FAULT_HELD, intStat 0x0E] →
      (s2.enterBypass 2).rd f = s1.rd f := fun f h h' => (rdn_of_regsBut hregs 0 f 0 h).trans (rdn_of_regsBut hregs2 0 f 0 h')
  refine ⟨hlow, hflt.trans hparts2.2, (hshown _ (by decide) (by decide)).trans hout1, (hshown _ (by decide) (by decide)).trans hkind1,
    ?_, hkept hevent2, hevent⟩
  exact regsBut_trans (regsBut_trans hregs1 (regsBut_mono hregs2 (by simp [transitKeys, bypassKeys])))
    (regsBut_mono hregs (List.subset_append_right _ _))

/-- The release of the drivers and the role at an ownership conflict in SAFE with no request in progress (R168). -/
theorem ownConflict_safe (s : State) (hmode : s.mode = 5) (hwant : s.modeU.want = none) (htwin : s.isTwin = true) :
    (∃ rs w, s.ownConflict = { s with regs := rs, twin := w }) ∧ s.ownConflict.flag TWIN.STAT_OWN_OUT = false ∧
      s.ownConflict.twinRole = 0 ∧ RegsBut s s.ownConflict [key TWIN.STAT_OWN_OUT, key TWIN.STAT_DRIVERS, key TWIN.STAT_ROLE] := by
  have hsafe : s.enterSafe = s := by
    rw [State.enterSafe, if_neg (by omega), if_pos hmode, State.loseReq, if_pos hwant]
  have hset : ∃ v w, s.setOwnOut false = { (s.wr TWIN.STAT_OWN_OUT 0).wr TWIN.STAT_DRIVERS v with twin := w } := ⟨_, _, rfl⟩
  obtain ⟨v, w, hset⟩ := hset
  generalize hs1 : s.setOwnOut false = s1 at hset
  have hframe : ∃ rs w, s1 = { s with regs := rs, twin := w } := by
    rw [hset]
    exact ⟨_, _, rfl⟩
  have hout : s1.rd TWIN.STAT_OWN_OUT = 0 := by
    rw [hset]
    exact (rdn_wrn_elsewhere (n := 0) (f := TWIN.STAT_DRIVERS) (s.wr TWIN.STAT_OWN_OUT 0) v 0 0 (by decide)).trans
      (rdn_wrn_same s 0 TWIN.STAT_OWN_OUT 0 0)
  have hregs : RegsBut s s1 [key TWIN.STAT_OWN_OUT, key TWIN.STAT_DRIVERS] := by
    rw [hset]
    exact regsBut_trans (regsBut_wrn s 0 TWIN.STAT_OWN_OUT 0 0 (by simp [key]))
      (regsBut_wrn (s.wr TWIN.STAT_OWN_OUT 0) 0 TWIN.STAT_DRIVERS v 0 (by simp [key]))
  have htwin1 : s1.isTwin = true := by
    obtain ⟨rs, w, h⟩ := hframe
    rw [h]
    exact htwin
  have hown : s.ownConflict = s1.wr TWIN.STAT_ROLE 0 := by
    rw [State.ownConflict, hsafe, hs1]
    exact if_pos htwin1
  rw [hown]
  refine ⟨?_, ?_, rdn_wrn_same s1 0 TWIN.STAT_ROLE 0 0, regsBut_trans (regsBut_mono hregs (by simp))
    (regsBut_wrn s1 0 TWIN.STAT_ROLE 0 0 (by simp [key]))⟩
  · obtain ⟨rs, w, h⟩ := hframe
    rw [h]
    exact ⟨_, _, rfl⟩
  · have hkept : (s1.wr TWIN.STAT_ROLE 0).rd TWIN.STAT_OWN_OUT = 0 := (rdn_wrn_elsewhere s1 0 0 0 (by decide)).trans hout
    rw [State.flag, hkept]
    rfl

end Sys2Proof.Proofs
end

section
/-! PROOFS. The collector: records, FLT_N, ALIVE and SAFE (R475, R477-R479, R482-R486). -/

set_option Elab.async false

namespace Sys2Proof.Proofs

open Sys2Proof.Machine Sys2Proof.Safety Sys2Proof.Laws

/-! ### A record and what goes with it -/

/-- The uncleared faults after one more. -/
def faultsAfter (f : FaultUnit) (d : Det) (fatal prot : Bool) : FaultUnit :=
  { f with
    conts := if d.cls = 1 then addFault f.conts d else f.conts
    fatals := if fatal then addFault f.fatals d else f.fatals
    prots := if prot then addFault f.prots d else f.prots }

/-- FLT_N driven low at a time, and ALIVE stopped or not. -/
def pinsAfter (f : FaultUnit) (mono : Nat) (stop : Bool) : FaultUnit :=
  { f with
    fltLow := true, lowAt := mono, relPend := false
    aliveRun := f.aliveRun && !stop, aliveLevel := f.aliveLevel && !stop }

section
variable (s : State) (d : Det) (row : Nat)

/-- The row a fault's record shows. -/
def rowOf : Nat := if d.cls = 1 then row else 0

/-- The fault reacts as a fatal one: its class, its escalation or a full FIFO. -/
def reactsFatal : Bool := d.cls = 2 || rowOf d row ≠ 0 || decide (32 ≤ s.flt.recs.length)

/-- The record is filed, or the full FIFO shows OVF. -/
def filed : State :=
  if 32 ≤ s.flt.recs.length then s.wr FAULT.COL_STAT_OVF 1
  else s.addRecord d d.cls (s.isProt d.page d.checker) (rowOf d row)

/-- FLT_N is driven low as an event is raised. -/
theorem fltDrive_raised (b : Nat) :
    ∃ rs m l, (s.raise 3 b).fltDrive = { s with
      regs := rs, msix := m, sent := l, timers := Tbl.put s.timers tFltLow (s.mono + us 10)
      flt := { s.flt with fltLow := true, lowAt := s.mono, relPend := false } } := by
  obtain ⟨m, l, hraise⟩ := raise_frame s 3 b
  rw [hraise]
  exact ⟨_, m, l, rfl⟩

/-- An event raised on the FAULT page with FLT_N, and with ALIVE stopped or not. -/
theorem raisedPins_leaves (b : Nat) (hb : b < 32) (stop : Bool) {t : State}
    (ht : t = if stop then (s.raise 3 b).fltDrive.aliveStop else (s.raise 3 b).fltDrive) :
    (∃ rs m l, t = { s with
      regs := rs, msix := m, sent := l, timers := Tbl.put s.timers tFltLow (s.mono + us 10), flt := pinsAfter s.flt s.mono stop }) ∧
    event t 3 b = true ∧ RegsBut s t [intStat 3] := by
  obtain ⟨rs, m, l, hdrive⟩ := fltDrive_raised s b
  have hregs : t.regs = (s.raise 3 b).regs := by
    rw [ht]
    cases stop <;> rfl
  refine ⟨⟨rs, m, l, ?_⟩, ?_, fun k hk => (congrArg (Tbl.find · k) hregs).trans (regsBut_raise s 3 b k hk)⟩
  · rw [ht, hdrive]
    cases stop with
    | true =>
      simp only [pinsAfter, Bool.not_true, Bool.and_false]
      rfl
    | false =>
      simp only [pinsAfter, Bool.not_false, Bool.and_true]
      rfl
  · rw [event, State.rdn, hregs]
    exact event_raise_same s 3 b hb

theorem recordFault_steps {prot fatal : Bool} (hprot : s.isProt d.page d.checker = prot) (hfatal : reactsFatal s d row = fatal) :
    s.recordFault d row = if fatal || prot
      then ((((filed s d row).updFlt (faultsAfter · d fatal prot)).raise 3 (if fatal then 2 else 1)).fltDrive).aliveStop
      else (((filed s d row).updFlt (faultsAfter · d fatal prot)).raise 3 (if fatal then 2 else 1)).fltDrive := by
  subst hprot hfatal
  unfold State.recordFault filed reactsFatal rowOf
  simp only [decide_eq_true_eq]
  rfl

/-- What the record of a contained or fatal fault leaves. -/
theorem recordFault_leaves {prot fatal : Bool} (hprot : s.isProt d.page d.checker = prot) (hfatal : reactsFatal s d row = fatal) :
    (∃ rs m l, s.recordFault d row = { filed s d row with
      regs := rs, msix := m, sent := l, timers := Tbl.put (filed s d row).timers tFltLow ((filed s d row).mono + us 10)
      flt := pinsAfter (faultsAfter (filed s d row).flt d fatal prot) (filed s d row).mono (fatal || prot) }) ∧
    event (s.recordFault d row) 3 (if fatal then 2 else 1) = true ∧ RegsBut (filed s d row) (s.recordFault d row) [intStat 3] := by
  obtain ⟨⟨rs, m, l, h⟩, hevent, hregs⟩ := raisedPins_leaves ((filed s d row).updFlt (faultsAfter · d fatal prot))
    (if fatal then 2 else 1) (by cases fatal <;> decide) (fatal || prot) (recordFault_steps s d row hprot hfatal)
  exact ⟨⟨rs, m, l, h⟩, hevent, hregs⟩

end

/-! ### The collector takes one fault (R475, R478) -/

/-- The collector with nothing left to take. -/
def taken (s : State) : State := { s with flt := { s.flt with det := [] } }

/-- The one fault's record, or its count. -/
def recorded (s : State) (d : Det) : State :=
  if d.cls = 0 then (taken s).recordCorrected d
  else (taken s).recordFault d ((taken s).escRow [d] (if d.cls = 1 then addFault s.flt.conts d else s.flt.conts))

theorem batch_one (s : State) (d : Det) (hdet : s.flt.det = [d]) : s.batch = [d] := by
  unfold State.batch
  rw [hdet]
  simp [insertDet]

theorem collect_one (s : State) (d : Det) (hdet : s.flt.det = [d]) :
    s.collect = if d.cls = 2 || (d.cls = 1 && (recorded s d).flt.fatals.contains (d.page, d.checker)) then (recorded s d).enterSafe
      else recorded s d := by
  have hconts : ([d].filter (fun d => d.cls = 1)).foldl addFault s.flt.conts = if d.cls = 1 then addFault s.flt.conts d else s.flt.conts := by
    by_cases h : d.cls = 1 <;> simp [h]
  have htaken : s.updFlt (fun f => { f with det := f.det.filter (fun e => !([d].contains e)) }) = taken s := by
    have hnone : s.flt.det.filter (fun e => !([d].contains e)) = [] := by
      rw [hdet]
      simp
    show { s with flt := { s.flt with det := s.flt.det.filter (fun e => !([d].contains e)) } } = taken s
    rw [hnone]
    rfl
  unfold State.collect
  rw [batch_one s d hdet]
  dsimp only
  rw [htaken]
  have hrec : [d].foldl (fun t e => if e.cls = 0 then t.recordCorrected e else t.recordFault e
      ((taken s).escRow [d] (([d].filter (fun d => d.cls = 1)).foldl addFault (taken s).flt.conts))) (taken s) = recorded s d := by
    rw [show (taken s).flt.conts = s.flt.conts from rfl, hconts]
    rfl
  rw [hrec, List.any_cons, List.any_nil, Bool.or_false]

/-- A contained fault that escalates by no row, with room for its record (R477, R485, R486). -/
theorem recorded_contained (s : State) (d : Det) (hcls : d.cls = 1) (hrow : s.escRow [d] (addFault s.flt.conts d) = 0)
    (hroom : s.flt.recs.length < 32) :
    let t := recorded s d
    (∃ rs m l f, t = { s with regs := rs, msix := m, sent := l, flt := f, timers := Tbl.put s.timers tFltLow (s.mono + us 10) }) ∧
    t.flt = pinsAfter (faultsAfter { s.flt with
        det := [], recs := s.flt.recs ++ [recOf s d (s.isProt d.page d.checker)], seq := (s.flt.seq + 1) % 256 } d false
        (s.isProt d.page d.checker)) s.mono (s.isProt d.page d.checker) ∧
    event t 3 1 = true ∧ RegsBut s t [intStat 3] := by
  have hesc : (taken s).escRow [d] (if d.cls = 1 then addFault s.flt.conts d else s.flt.conts) = 0 := by
    rw [if_pos hcls]
    exact hrow
  have hrec : recorded s d = (taken s).recordFault d 0 := by
    unfold recorded
    rw [if_neg (by omega), hesc]
  have hquiet : reactsFatal (taken s) d 0 = false := by
    have hlen : ¬ 32 ≤ (taken s).flt.recs.length := by
      show ¬ 32 ≤ s.flt.recs.length
      omega
    simp [reactsFatal, rowOf, hcls, hlen]
  have hprot : (taken s).isProt d.page d.checker = s.isProt d.page d.checker := rfl
  obtain ⟨⟨rs, m, l, h⟩, hevent, hregs⟩ := recordFault_leaves (taken s) d 0 hprot hquiet
  have hfiled : filed (taken s) d 0 = (taken s).addRecord d 1 (s.isProt d.page d.checker) 0 := by
    unfold filed
    rw [if_neg (show ¬ 32 ≤ (taken s).flt.recs.length from Nat.not_le.mpr hroom), hcls, hprot, rowOf, if_pos hcls]
  rw [hfiled] at h hregs
  intro t
  refine ⟨⟨rs, m, l, _, hrec.trans h⟩, ?_, ?_, ?_⟩
  · show (recorded s d).flt = _
    rw [hrec, h, recOf, hcls]
    rfl
  · show event (recorded s d) 3 1 = true
    rw [hrec]
    exact hevent
  · exact fun k hk => (congrArg (fun u : State => Tbl.find u.regs k) hrec).trans (hregs k hk)

/-- A fault that reacts as a fatal one: its record or OVF, the pins, and SAFE (R477, R479, R484). -/
theorem recordFault_fatal (s : State) (d : Det) (row : Nat) (hfatal : reactsFatal s d row = true) :
    let t := (s.recordFault d row).enterSafe
    t.flt.recs = (filed s d row).flt.recs ∧ t.flt.todo = (filed s d row).flt.todo ∧
    t.flt.fatals = addFault (filed s d row).flt.fatals d ∧ t.flt.fltLow = true ∧
    t.flt.aliveRun = false ∧ t.flt.aliveLevel = false ∧ event t 3 2 = true ∧
    t.mode = (if s.mode < 2 then s.mode else 5) ∧ t.rd FAULT.COL_STAT_OVF = (filed s d row).rd FAULT.COL_STAT_OVF := by
  obtain ⟨⟨rs, m, l, h⟩, hevent, hregs⟩ := recordFault_leaves s d row rfl hfatal
  have hflt : (s.recordFault d row).flt =
      pinsAfter (faultsAfter (filed s d row).flt d true (s.isProt d.page d.checker)) (filed s d row).mono true := by rw [h]; rfl
  have hmode : (s.recordFault d row).mode = s.mode := by
    have hfiled : (filed s d row).mode = s.mode := by
      unfold filed
      split_ifs
      · exact rdn_wrn_elsewhere s 1 0 0 (f := FAULT.COL_STAT_OVF) (n := 0) (by decide)
      · rfl
    exact (rdn_of_regsBut hregs 0 DEVICE.MODE_STAT_MODE 0 (by decide)).trans hfiled
  obtain ⟨⟨ok, hsafe⟩, hsafeMode, hpage⟩ := enterSafe_collector (s.recordFault d row) (by rw [hflt]; exact Bool.and_false _)
    (by rw [hflt]; exact Bool.and_false _)
  have hkept : ∀ (f : Fld) (n : Nat), InPage f → f.page + n = 3 → (s.recordFault d row).enterSafe.rdn n f = (s.recordFault d row).rdn n f :=
    fun f n hf hp => congrArg (Option.getD · _) (hpage _ ((keyPage_key f n 0 hf).trans hp))
  intro t
  have ht : t.flt = { (s.recordFault d row).flt with aliveOk := ok } := hsafe
  refine ⟨?_, ?_, ?_, ?_, ?_, ?_, ?_, ?_, ?_⟩
  · rw [ht, hflt]; rfl
  · rw [ht, hflt]; rfl
  · rw [ht, hflt]; rfl
  · rw [ht, hflt]; rfl
  · rw [ht, hflt]; exact Bool.and_false _
  · rw [ht, hflt]; exact Bool.and_false _
  · exact (congrArg (bitOf · 2) (hkept HDR.INT_STAT_EVENTS 3 (by decide) rfl)).trans hevent
  · rw [hsafeMode, hmode]
  · exact (hkept FAULT.COL_STAT_OVF 0 (by decide) rfl).trans (rdn_of_regsBut hregs 0 FAULT.COL_STAT_OVF 0 (by decide))

theorem addFault_contains (l : List (Nat × Nat)) (d : Det) : (addFault l d).contains (d.page, d.checker) = true := by
  unfold addFault
  split_ifs with h
  · exact h
  · simp

/-- A corrected fault is counted and raised, and filed if there is room for it (R477). -/
theorem recordCorrected_leaves (s : State) (d : Det) (hroom : s.flt.recs.length < 32) :
    let t := s.recordCorrected d
    event t 3 0 = true ∧ t.rd FAULT.CORR_CNT_COUNT = (s.rd FAULT.CORR_CNT_COUNT + 1) % 2 ^ FAULT.CORR_CNT_COUNT.w ∧
    ((s.flt.recs.filter (fun r => r.cls = 0)).length < 24 → t.flt = (s.addRecord d 0 false 0).flt ∧
      RegsBut s t [key FAULT.CORR_CNT_COUNT, intStat 3]) ∧
    (24 ≤ (s.flt.recs.filter (fun r => r.cls = 0)).length → t.flt = s.flt ∧ Counted s t 0 FAULT.CORR_LOST_COUNT ∧
      RegsBut s t [key FAULT.CORR_CNT_COUNT, key FAULT.CORR_LOST_COUNT, intStat 3]) ∧
    ∃ rs m l f, t = { s with regs := rs, flt := f, msix := m, sent := l } := by
  intro t
  obtain ⟨m, l, hraise⟩ := raise_frame (s.inc FAULT.CORR_CNT_COUNT) 3 0
  have hcount : ((s.inc FAULT.CORR_CNT_COUNT).raise 3 0).rd FAULT.CORR_CNT_COUNT =
      (s.rd FAULT.CORR_CNT_COUNT + 1) % 2 ^ FAULT.CORR_CNT_COUNT.w :=
    (rdn_raise_other _ 3 0 0 FAULT.CORR_CNT_COUNT 0 (by decide)).trans (rdn_wrn_same s 0 FAULT.CORR_CNT_COUNT _ 0)
  have hregs : RegsBut s ((s.inc FAULT.CORR_CNT_COUNT).raise 3 0) [key FAULT.CORR_CNT_COUNT, intStat 3] :=
    regsBut_trans (regsBut_wrn s 0 FAULT.CORR_CNT_COUNT _ 0 (by simp [key])) (regsBut_mono (regsBut_raise _ 3 0) (by simp))
  have hevent := event_raise_same (s.inc FAULT.CORR_CNT_COUNT) 3 0 (by decide)
  have hflt : ((s.inc FAULT.CORR_CNT_COUNT).raise 3 0).flt = s.flt := by rw [hraise]; rfl
  have hfab : ((s.inc FAULT.CORR_CNT_COUNT).raise 3 0).fab = s.fab := by rw [hraise]; rfl
  have hframe : ∃ rs m l, (s.inc FAULT.CORR_CNT_COUNT).raise 3 0 = { s with regs := rs, msix := m, sent := l } := by
    rw [hraise]
    exact ⟨_, _, _, rfl⟩
  have ht : t = if 24 ≤ (((s.inc FAULT.CORR_CNT_COUNT).raise 3 0).flt.recs.filter (fun r => r.cls = 0)).length ∨
      32 ≤ ((s.inc FAULT.CORR_CNT_COUNT).raise 3 0).flt.recs.length then ((s.inc FAULT.CORR_CNT_COUNT).raise 3 0).sat FAULT.CORR_LOST_COUNT
      else ((s.inc FAULT.CORR_CNT_COUNT).raise 3 0).addRecord d 0 false 0 := rfl
  rw [hflt] at ht
  generalize (s.inc FAULT.CORR_CNT_COUNT).raise 3 0 = s1 at *
  by_cases hfull : 24 ≤ (s.flt.recs.filter (fun r => r.cls = 0)).length
  · rw [if_pos (.inl hfull)] at ht
    rw [ht]
    refine ⟨?_, ?_, fun h => absurd hfull (by omega), fun _ => ⟨hflt, ?_, ?_⟩, ?_⟩
    · rw [event, State.sat, State.satn, rdn_wrn_elsewhere s1 _ 0 0 (by decide)]
      exact hevent
    · exact (rdn_wrn_elsewhere s1 _ 0 0 (f := FAULT.CORR_LOST_COUNT) (n := 0) (by decide)).trans hcount
    · have hlost : s1.rd FAULT.CORR_LOST_COUNT = s.rd FAULT.CORR_LOST_COUNT := rdn_of_regsBut hregs 0 FAULT.CORR_LOST_COUNT 0 (by decide)
      exact (counted_satn s1 0 FAULT.CORR_LOST_COUNT).trans (congrArg (fun n => min (n + 1) _) hlost)
    · exact regsBut_trans (regsBut_mono hregs (by simp)) (regsBut_wrn s1 0 FAULT.CORR_LOST_COUNT _ 0 (by simp [key]))
    · obtain ⟨rs, m, l, h⟩ := hframe
      rw [h]
      exact ⟨_, _, _, _, rfl⟩
  · rw [if_neg (by omega)] at ht
    rw [ht]
    refine ⟨hevent, hcount, fun _ => ⟨?_, hregs⟩, fun h => absurd h hfull, ?_⟩
    · unfold State.addRecord State.updFlt
      dsimp only
      rw [hflt, hfab]
    · obtain ⟨rs, m, l, h⟩ := hframe
      rw [h]
      exact ⟨_, _, _, _, rfl⟩

/-! ### A fault of the collector itself (R482) -/

/-- The collector's own fault before SAFE is entered. -/
def selfMarked (s : State) (ck : Nat) : State :=
  (((s.wrn 3 HDR.FLT_STAT_CHECKERS (setBit (s.rdn 3 HDR.FLT_STAT_CHECKERS) ck)).updFlt
    (fun f => { f with self := true, fltLow := true, relPend := false })).aliveStop).wr FAULT.COL_STAT_SELF 1

theorem selfFault_eq (s : State) (ck : Nat) : s.selfFault ck = (selfMarked s ck).enterSafe := rfl

theorem selfMarked_frame (s : State) (ck : Nat) : ∃ rs, selfMarked s ck = { s with
    regs := rs, flt := { s.flt with self := true, fltLow := true, relPend := false, aliveRun := false, aliveLevel := false } } := ⟨_, rfl⟩

theorem selfMarked_regs (s : State) (ck : Nat) :
    RegsBut s (selfMarked s ck) [HDR.FLT_STAT_CHECKERS.key 3 0, key FAULT.COL_STAT_SELF] :=
  regsBut_trans (regsBut_wrn s 3 HDR.FLT_STAT_CHECKERS _ 0 (by simp))
    (regsBut_wrn (s.wrn 3 HDR.FLT_STAT_CHECKERS _) 0 FAULT.COL_STAT_SELF 1 0 (by simp [key]))

theorem selfMarked_shows (s : State) (ck : Nat) (hck : ck < 32) :
    bitOf ((selfMarked s ck).rdn 3 HDR.FLT_STAT_CHECKERS) ck = true ∧ (selfMarked s ck).rd FAULT.COL_STAT_SELF = 1 := by
  have hset : (selfMarked s ck).rdn 3 HDR.FLT_STAT_CHECKERS = setBit (s.rdn 3 HDR.FLT_STAT_CHECKERS) ck % 2 ^ 32 :=
    (rdn_wrn_elsewhere (n := 0) (f := FAULT.COL_STAT_SELF) _ 1 0 0 (by decide)).trans
      (rdn_wrn_same s 3 HDR.FLT_STAT_CHECKERS (setBit (s.rdn 3 HDR.FLT_STAT_CHECKERS) ck) 0)
  refine ⟨?_, rdn_wrn_same _ 0 FAULT.COL_STAT_SELF 1 0⟩
  rw [hset, bitOf_eq_testBit, Nat.testBit_mod_two_pow, testBit_setBit]
  simp [hck]

end Sys2Proof.Proofs
end

section
/-! PROOFS. Detection and recording as the obligation states them (R474-R486). -/

set_option Elab.async false

namespace Sys2Proof.Proofs

open Sys2Proof.Machine Sys2Proof.Safety Sys2Proof.Laws

/-- Detecting leaves nothing reported where nothing was. -/
theorem exec_faultDetected_settled {s t : State} {pg ck detail : Nat} {corr : Bool} (h3 : pg ≠ 3) (hring : pg ≠ 0x0E)
    (htwin : pg = 0x0D → ck = 0 → s.isTwin = false)
    (ht : s.detect (detOf s pg ck detail (corr && !bitOf (s.rdn pg HDR.FLT_INJ_INJECT) ck)) = t) (htodo : t.flt.todo = []) :
    exec (.faultDetected pg ck detail corr) s = .next t := by
  rw [exec_faultDetected s pg ck detail corr h3 hring htwin, ht, drain_settled t htodo]

/-- A contained fault of a block that does no more by itself, or a fatal one, is marked (R475). -/
theorem detect_marks (s : State) (pg ck detail c : Nat) (hring : pg ≠ 0x0E) (hclass : checkerClass pg ck = some c)
    (hc : c = 2 ∨ c = 1 ∧ FencesAlone pg ck) (hbit : bitOf (s.rdn pg HDR.FLT_STAT_CHECKERS) ck = false) :
    let d := detOf s pg ck detail false
    ∃ u, s.detect d = { marked s d with pageUnit := u } ∧ (c = 2 → u = s.pageUnit) ∧
      (c = 1 → ∃ v, fencedPage pg ck = some v ∧ u = (s.setColFence v).pageUnit) := by
  intro d
  have hne : c ≠ 0 := by omega
  have hnew := detect_new s d hclass hne rfl hbit
  rcases hc with rfl | ⟨rfl, halone⟩
  · rw [if_neg (by decide), if_neg (show ¬ d.page = 0x0E from hring)] at hnew
    exact ⟨_, hnew, fun _ => rfl, fun h => absurd h (by decide)⟩
  · obtain ⟨v, hv, hfence⟩ := fenceUnit_alone (marked s d) pg ck d.detail halone hclass
    refine ⟨_, (hnew.trans (if_pos rfl)).trans hfence, fun h => absurd h (by decide), fun _ => ⟨v, hv, rfl⟩⟩

/-- The transit check's fault: captured, marked, and the bypass entered with cause 2 (R117). -/
theorem detect_transit (s : State) (detail : Nat) (htodo : s.flt.todo = []) (hhigh : s.byp.high = true) (hmode : s.mode ≠ 5)
    (hvalid : s.flag TRANSIT.CMP_STAT_VALID = false) (hbit : bitOf (s.rdn 0x0E HDR.FLT_STAT_CHECKERS) 0 = false) :
    let t := (s.transitFail (detail % 2) (detail / 2 % 4)).detect (detOf s 0x0E 0 0 false)
    t.flt.todo = [] ∧ bitOf (t.rdn 0x0E HDR.FLT_STAT_CHECKERS) 0 = true ∧
      t.byp.high = false ∧ t.rd TRANSIT.CMP_STAT_OUTPUT = detail % 2 ∧ t.rd TRANSIT.CMP_STAT_KIND = detail / 2 % 4 ∧
      t.rd TRANSIT.BYP_STAT_CAUSE = 2 ∧ event t 0x0E 0 = true ∧ event t 0x0E 1 = true ∧
      t.flt.det = s.flt.det ++ [detOf s 0x0E 0 0 false] := by
  obtain ⟨hlow, hflt, hout, hkind, hregs, hevent0, hevent1⟩ := transitFail_leaves s (detail % 2) (detail / 2 % 4) (by omega) (by omega)
    hvalid hhigh
  generalize s.transitFail (detail % 2) (detail / 2 % 4) = s1 at *
  generalize hd : detOf s 0x0E 0 0 false = d
  have hpage : d.page = 0x0E ∧ d.checker = 0 ∧ d.corr = false := by
    rw [← hd]
    exact ⟨rfl, rfl, rfl⟩
  obtain ⟨hpg, hck, hcorr⟩ := hpage
  have hbit1 : bitOf (s1.rdn d.page HDR.FLT_STAT_CHECKERS) d.checker = false := by
    rwa [hpg, hck, rdn_of_regsBut hregs 0x0E HDR.FLT_STAT_CHECKERS 0 (by decide)]
  have hmode1 : ¬ s1.mode = 5 := by
    rwa [State.mode, State.rd, rdn_of_regsBut hregs 0 DEVICE.MODE_STAT_MODE 0 (by decide)]
  have hnew := detect_new s1 d (c := 2) (by rw [hpg, hck]; rfl) (by decide) hcorr hbit1
  rw [if_neg (by decide), if_pos hpg, if_neg hmode1, if_neg (show ¬ (marked s1 d).byp.high = true by
    rw [show (marked s1 d).byp.high = s1.byp.high from rfl, hlow]; exact Bool.false_ne_true)] at hnew
  have hmarked := marked_regs s1 d
  rw [hpg] at hmarked
  have hshown : ∀ f : Fld, f.key 0 0 ∉ [HDR.FLT_STAT_CHECKERS.key 0x0E 0] → place f 0 ≠ place TRANSIT.BYP_STAT_CAUSE 0 →
      ((marked s1 d).wr TRANSIT.BYP_STAT_CAUSE 2).rd f = s1.rd f := fun f h h' =>
    (rdn_wrn_elsewhere _ 2 0 0 h').trans (rdn_of_regsBut hmarked 0 f 0 h)
  have hevents : ∀ b, event ((marked s1 d).wr TRANSIT.BYP_STAT_CAUSE 2) 0x0E b = event s1 0x0E b := fun b =>
    congrArg (bitOf · b) ((rdn_wrn_elsewhere (n := 0) (f := TRANSIT.BYP_STAT_CAUSE) _ 2 0 0 (by decide)).trans
      (rdn_of_regsBut hmarked 0x0E HDR.INT_STAT_EVENTS 0 (by decide)))
  have hset : bitOf (((marked s1 d).wr TRANSIT.BYP_STAT_CAUSE 2).rdn 0x0E HDR.FLT_STAT_CHECKERS) 0 = true := by
    have h := marked_bit s1 d (by rw [hck]; decide)
    rw [hpg, hck] at h
    rwa [State.wr, rdn_wrn_elsewhere (marked s1 d) 2 0 0 (by decide)]
  intro t
  have ht : t = (marked s1 d).wr TRANSIT.BYP_STAT_CAUSE 2 := hnew
  rw [ht]
  refine ⟨?_, hset, hlow, (hshown _ (by decide) (by decide)).trans hout, (hshown _ (by decide) (by decide)).trans hkind,
    rdn_wrn_same _ 0 TRANSIT.BYP_STAT_CAUSE 2 0, (hevents 0).trans hevent0, (hevents 1).trans hevent1, ?_⟩
  · exact (congrArg FaultUnit.todo hflt).trans htodo
  · exact congrArg (· ++ [d]) (congrArg FaultUnit.det hflt)

/-- The ownership conflict's fault in SAFE (R168). -/
theorem detect_conflict (s : State) (htodo : s.flt.todo = []) (htwin : s.isTwin = true) (hmode : s.mode = 5)
    (hwant : s.modeU.want = none) (hbit : bitOf (s.rdn 0x0D HDR.FLT_STAT_CHECKERS) 0 = false) (d : Det) (hpg : d.page = 0x0D)
    (hck : d.checker = 0) (hcorr : d.corr = false) :
    let t := s.ownConflict.detect d
    t.flt.todo = [] ∧ bitOf (t.rdn 0x0D HDR.FLT_STAT_CHECKERS) 0 = true ∧ t.flag TWIN.STAT_OWN_OUT = false ∧ t.twinRole = 0 ∧ t.mode = 5 := by
  obtain ⟨⟨rs, w, hframe⟩, hown, hrole, hregs⟩ := ownConflict_safe s hmode hwant htwin
  have htodo1 : s.ownConflict.flt.todo = [] := by
    rw [hframe]
    exact htodo
  generalize s.ownConflict = s1 at *
  have hbit1 : bitOf (s1.rdn d.page HDR.FLT_STAT_CHECKERS) d.checker = false := by
    rwa [hpg, hck, rdn_of_regsBut hregs 0x0D HDR.FLT_STAT_CHECKERS 0 (by decide)]
  have hnew := detect_new s1 d (c := 2) (by rw [hpg, hck]; rfl) (by decide) hcorr hbit1
  rw [if_neg (by decide), if_neg (by rw [hpg]; decide)] at hnew
  have hmarked := marked_regs s1 d
  rw [hpg] at hmarked
  have hset := marked_bit s1 d (by rw [hck]; decide)
  rw [hpg, hck] at hset
  intro t
  have ht : t = marked s1 d := hnew
  rw [ht]
  refine ⟨htodo1, hset, ?_, ?_, ?_⟩
  · rwa [State.flag, State.rd, rdn_of_regsBut hmarked 0 TWIN.STAT_OWN_OUT 0 (by decide)]
  · exact (rdn_of_regsBut hmarked 0 TWIN.STAT_ROLE 0 (by decide)).trans hrole
  · exact (rdn_of_regsBut hmarked 0 DEVICE.MODE_STAT_MODE 0 (by decide)).trans
      ((rdn_of_regsBut hregs 0 DEVICE.MODE_STAT_MODE 0 (by decide)).trans hmode)

/-- The collector takes its one fault, which does not enter SAFE. -/
theorem exec_faultRecorded_quiet (s : State) (d : Det) (hdet : s.flt.det = [d]) (hcls : d.cls ≠ 2)
    (hquiet : d.cls = 1 → (recorded s d).flt.fatals.contains (d.page, d.checker) = false) (htodo : (recorded s d).flt.todo = []) :
    exec .faultRecorded s = .next (recorded s d) := by
  have hstay : ¬ (d.cls = 2 || (d.cls = 1 && (recorded s d).flt.fatals.contains (d.page, d.checker))) = true := by
    simp only [Bool.or_eq_true, Bool.and_eq_true, decide_eq_true_eq, not_or, not_and]
    exact ⟨hcls, fun h => by rw [hquiet h]; exact Bool.false_ne_true⟩
  show Host.Outcome.next s.collect.drain = _
  rw [collect_one s d hdet, if_neg hstay, drain_settled _ htodo]

/-- The collector takes its one fault, which reacts as a fatal one. -/
theorem exec_faultRecorded_fatal (s : State) (d : Det) (hdet : s.flt.det = [d]) (hne : d.cls = 1 ∨ d.cls = 2) {row : Nat}
    (hrow : (taken s).escRow [d] (if d.cls = 1 then addFault s.flt.conts d else s.flt.conts) = row)
    (hfatal : reactsFatal (taken s) d row = true) (htodo : (filed (taken s) d row).flt.todo = []) :
    exec .faultRecorded s = .next ((taken s).recordFault d row).enterSafe := by
  have hrec : recorded s d = (taken s).recordFault d row := by
    unfold recorded
    rw [if_neg (by omega), hrow]
  obtain ⟨-, htodo', -⟩ := recordFault_fatal (taken s) d row hfatal
  have hcontains : ((taken s).recordFault d row).flt.fatals.contains (d.page, d.checker) = true := by
    obtain ⟨⟨rs, m, l, h⟩, -, -⟩ := recordFault_leaves (taken s) d row rfl hfatal
    rw [h]
    exact addFault_contains _ d
  have henter : (d.cls = 2 || (d.cls = 1 && ((taken s).recordFault d row).flt.fatals.contains (d.page, d.checker))) = true := by
    rw [hcontains]
    simpa using hne.symm
  show Host.Outcome.next s.collect.drain = _
  rw [collect_one s d hdet, hrec, if_pos henter, drain_settled _ (htodo'.trans htodo)]

/-- What a self fault leaves: the latch, the pins and SAFE (R482). -/
theorem selfFault_leaves (s : State) (ck : Nat) (hck : ck ≤ 2) :
    let t := s.selfFault ck
    bitOf (t.rdn 3 HDR.FLT_STAT_CHECKERS) ck = true ∧ t.rd FAULT.COL_STAT_SELF = 1 ∧
      t.flt.self = true ∧ t.flt.fltLow = true ∧ t.flt.aliveRun = false ∧ t.flt.aliveLevel = false ∧
      t.mode = (if s.mode < 2 then s.mode else 5) ∧ (s.mode < 2 → RegsBut s t [HDR.FLT_STAT_CHECKERS.key 3 0, key FAULT.COL_STAT_SELF] ∧
        t = { s with regs := t.regs, flt := t.flt }) := by
  obtain ⟨rs, hframe⟩ := selfMarked_frame s ck
  obtain ⟨hbit, hself⟩ := selfMarked_shows s ck (by omega)
  have hregs := selfMarked_regs s ck
  have hmode : (selfMarked s ck).mode = s.mode := rdn_of_regsBut hregs 0 DEVICE.MODE_STAT_MODE 0 (by decide)
  obtain ⟨⟨ok, hflt⟩, hsafe, hpage⟩ := enterSafe_collector (selfMarked s ck) (by rw [hframe]) (by rw [hframe])
  have hkept : ∀ (f : Fld) (n : Nat), InPage f → f.page + n = 3 → (selfMarked s ck).enterSafe.rdn n f = (selfMarked s ck).rdn n f :=
    fun f n hf hp => congrArg (Option.getD · _) (hpage _ ((keyPage_key f n 0 hf).trans hp))
  intro t
  have ht : t = (selfMarked s ck).enterSafe := rfl
  rw [ht]
  refine ⟨?_, (hkept FAULT.COL_STAT_SELF 0 (by decide) rfl).trans hself, ?_, ?_, ?_, ?_, hsafe.trans (by rw [hmode]), fun hlow => ?_⟩
  · rwa [hkept HDR.FLT_STAT_CHECKERS 3 (by decide) rfl]
  · rw [hflt, hframe]
  · rw [hflt, hframe]
  · rw [hflt, hframe]
  · rw [hflt, hframe]
  · have hstay : (selfMarked s ck).enterSafe = selfMarked s ck := by
      rw [State.enterSafe, if_pos (by rwa [hmode])]
    rw [hstay]
    exact ⟨hregs, by rw [hframe]⟩

/-- Settles O53: detection is a mark and a fence, recording a filed record with its pins, and SAFE keeps the collector. -/
theorem faultsAreDetectedAndRecorded : Obligations.FaultsAreDetectedAndRecorded := by
  unfold Obligations.FaultsAreDetectedAndRecorded
  refine ⟨?_, ?_, ?_, ?_, ?_, ?_⟩
  case refine_1 =>
    intro s pg ck detail c corr h3 hring htwin hclass htodo
    have hexec : ∀ {t : State}, s.detect (detOf s pg ck detail (corr && !bitOf (s.rdn pg HDR.FLT_INJ_INJECT) ck)) = t →
        t.flt.todo = [] → exec (.faultDetected pg ck detail corr) s = .next t := exec_faultDetected_settled h3 hring htwin
    refine ⟨fun hc hinj hbit => ?_, fun hc h11 hcorr hinj => ?_, fun h6 => ?_, fun hcorr hc hbit => ?_⟩
    · have hreal : ((corr && !bitOf (s.rdn pg HDR.FLT_INJ_INJECT) ck) && !bitOf (s.rdn pg HDR.FLT_INJ_INJECT) ck) = false := by
        rcases hinj with h | h <;> simp [h]
      exact ⟨_, hexec (detect_repeat s _ hclass hc hreal hbit) htodo, counted_satn s 0 FAULT.REPEAT_CNT_COUNT,
        regsBut_wrn s 0 FAULT.REPEAT_CNT_COUNT _ 0 (by simp [key]), rfl⟩
    · subst hcorr
      have hfound : (true && !bitOf (s.rdn pg HDR.FLT_INJ_INJECT) ck) = true := by simp [hinj]
      rw [hfound] at hexec
      exact ⟨_, hexec (detect_corrected s (detOf s pg ck detail true) hclass hc h11 rfl hinj) htodo, rfl, rfl⟩
    · exact ⟨_, hexec (detect_cup s _ hclass h6) htodo, rfl, rfl⟩
    · subst hcorr
      obtain ⟨u, hdetect, hfatal, hfence⟩ := detect_marks s pg ck detail c hring hclass hc hbit
      refine ⟨_, hexec hdetect htodo, marked_bit s (detOf s pg ck detail false) (checkerClass_lt hclass), rfl, fun h1 => ?_, hfatal,
        marked_regs s (detOf s pg ck detail false), rfl⟩
      obtain ⟨v, hv, rfl⟩ := hfence h1
      exact ⟨v, hv, setColFence_fenced (marked s (detOf s pg ck detail false)) v⟩
  case refine_2 =>
    intro s detail corr htodo hhigh hmode hvalid hbit hinj
    have hreal : (corr && !bitOf (s.rdn 0x0E HDR.FLT_INJ_INJECT) 0) = false := by
      rcases hinj with h | h <;> simp [h]
    obtain ⟨htodo', hmarked⟩ := detect_transit s detail htodo hhigh hmode hvalid hbit
    refine ⟨_, ?_, hmarked⟩
    show Host.Outcome.next ((s.transitFail (detail % 2) (detail / 2 % 4)).detect
      (detOf s 0x0E 0 0 (corr && !bitOf (s.rdn 0x0E HDR.FLT_INJ_INJECT) 0))).drain = _
    rw [hreal, drain_settled _ htodo']
  case refine_3 =>
    intro s detail htodo htwin hmode hwant hbit
    obtain ⟨htodo', hleft⟩ := detect_conflict s htodo htwin hmode hwant hbit (detOf s 0x0D 0 detail false) rfl rfl rfl
    refine ⟨_, ?_, hleft⟩
    have hacts : s.checkerActs 0x0D 0 detail = s.ownConflict := (if_neg (by decide)).trans (if_pos (by simp [htwin]))
    show Host.Outcome.next ((s.checkerActs 0x0D 0 detail).detect (detOf s 0x0D 0 detail false)).drain = _
    rw [hacts, drain_settled _ htodo']
  case refine_4 =>
    intro s d htodo hdet hroom
    refine ⟨fun hcls hrow hnew => ?_, fun hcls => ?_, fun hcls => ?_⟩
    · obtain ⟨⟨rs, m, l, f, hframe⟩, hflt, hevent, hregs⟩ := recorded_contained s d hcls hrow hroom
      have hfatals : (recorded s d).flt.fatals = s.flt.fatals := by rw [hflt]; rfl
      have htodo' : (recorded s d).flt.todo = [] := by rw [hflt]; exact htodo
      refine ⟨_, exec_faultRecorded_quiet s d hdet (by omega) (fun _ => by rw [hfatals]; exact hnew) htodo', ?_, ?_, ?_, ?_, hfatals,
        hevent, ?_, ?_, ?_, ?_, ?_, hregs, ?_, ?_⟩
      · rw [hflt]; rfl
      · rw [hflt]; rfl
      · rw [hflt]; rfl
      · rw [hflt]; exact if_pos hcls
      · rw [hflt]; rfl
      · rw [hflt]; rfl
      · rw [hframe]; exact find_put_same s.timers tFltLow _
      · rw [hflt]; rfl
      · exact rdn_of_regsBut hregs 0 DEVICE.MODE_STAT_MODE 0 (by decide)
      · intro k hk
        rw [hframe]
        exact find_put_other s.timers tFltLow k _ (by simpa using hk)
      · rw [hframe]
    · have hfatal : reactsFatal (taken s) d ((taken s).escRow [d] (if d.cls = 1 then addFault s.flt.conts d else s.flt.conts)) = true := by
        simp [reactsFatal, hcls]
      generalize hrow : (taken s).escRow [d] (if d.cls = 1 then addFault s.flt.conts d else s.flt.conts) = row at hfatal
      have hfiled : filed (taken s) d row = (taken s).addRecord d 2 (s.isProt d.page d.checker) 0 := by
        have hplain : rowOf d row = 0 := if_neg (by omega)
        rw [filed, if_neg (show ¬ 32 ≤ (taken s).flt.recs.length from Nat.not_le.mpr hroom), hcls, hplain]
        rfl
      obtain ⟨hrecs, -, hfatals, hlow, hrun, hlevel, hevent, hmode, -⟩ := recordFault_fatal (taken s) d row hfatal
      refine ⟨_, exec_faultRecorded_fatal s d hdet (.inr hcls) hrow hfatal (by rw [hfiled]; exact htodo), ?_, hevent, hlow, hrun, hlevel,
        ?_, hmode⟩
      · rw [hrecs, hfiled, recOf, hcls]
        rfl
      · rw [hfatals, hfiled]
        rfl
    · obtain ⟨hevent, hcount, hfiled, hlost, rs, m, l, f, hframe⟩ := recordCorrected_leaves (taken s) d hroom
      have hrec : recorded s d = (taken s).recordCorrected d := if_pos hcls
      have htodo' : (recorded s d).flt.todo = [] := by
        rw [hrec]
        by_cases hfew : ((taken s).flt.recs.filter (fun r => r.cls = 0)).length < 24
        · rw [(hfiled hfew).1]
          exact htodo
        · rw [(hlost (by omega)).1]
          exact htodo
      have hexec := exec_faultRecorded_quiet s d hdet (by omega) (fun h => absurd h (by omega)) htodo'
      rw [hrec] at hexec
      refine ⟨_, hexec, hevent, hcount, fun hfew => ⟨?_, (hfiled hfew).2⟩, fun hmany => hlost hmany, ?_⟩
      · rw [(hfiled hfew).1, recOf, hcls]
        rfl
      · rw [hframe]
        rfl
  case refine_5 =>
    intro s d htodo hdet hcls hfull
    generalize hrow : (taken s).escRow [d] (if d.cls = 1 then addFault s.flt.conts d else s.flt.conts) = row
    have hfullTaken : 32 ≤ (taken s).flt.recs.length := hfull
    have hfatal : reactsFatal (taken s) d row = true := by simp [reactsFatal, hfullTaken]
    have hfiled : filed (taken s) d row = (taken s).wr FAULT.COL_STAT_OVF 1 := if_pos hfullTaken
    obtain ⟨hrecs, -, -, hlow, hrun, -, hevent, hmode, hovf⟩ := recordFault_fatal (taken s) d row hfatal
    refine ⟨_, exec_faultRecorded_fatal s d hdet (.inl hcls) hrow hfatal (by rw [hfiled]; exact htodo), ?_, ?_, hevent, hlow, hrun, hmode⟩
    · rw [hovf, hfiled]
      exact rdn_wrn_same (taken s) 0 FAULT.COL_STAT_OVF 1 0
    · rw [hrecs, hfiled]
      rfl
  case refine_6 =>
    rintro s ck detail corr c hck (rfl | rfl)
    · exact ⟨_, congrArg Host.Outcome.next (if_pos hck), selfFault_leaves s ck hck⟩
    · exact ⟨_, congrArg Host.Outcome.next ((if_pos rfl).trans (if_pos hck)), selfFault_leaves s ck hck⟩

end Sys2Proof.Proofs
end

section
/-! PROOFS. Fences, aborts and the error logs of the bridge (R303, R313, R315-R318, R321). -/

set_option Elab.async false

namespace Sys2Proof.Proofs

open Sys2Proof.Machine Sys2Proof.Safety Sys2Proof.Laws

/-! ### A register of page 0 after the operations of the bridge -/

theorem rd_wr_same (s : State) (f : Fld) (v i : Nat) : (s.wr f v i).rd f i = v % 2 ^ f.w := rdn_wrn_same s 0 f v i

theorem rd_wr_other (s : State) {f g : Fld} (v i j : Nat) (h : place g 0 ≠ place f 0) : (s.wr f v i).rd g j = s.rd g j :=
  rdn_wrn_elsewhere s v i j h

theorem rd_updBridge (s : State) (b : BridgeUnit → BridgeUnit) (g : Fld) (j : Nat) : (s.updBridge b).rd g j = s.rd g j := rfl

theorem rd_emit (s : State) (e : Emit) (g : Fld) (j : Nat) : (s.emit e).rd g j = s.rd g j := rfl

theorem rd_heard (s : State) (p : Port) (g : Fld) (j : Nat) : (s.heard p).rd g j = s.rd g j := heard_rdn s p 0 g j

theorem rd_raise (s : State) (pg b : Nat) (g : Fld) (j : Nat) (h : key g j ≠ intStat pg) : (s.raise pg b).rd g j = s.rd g j :=
  rdn_of_regsBut (regsBut_raise s pg b) 0 g j (by rwa [List.mem_singleton])

theorem heard_bridge (s : State) (p : Port) : (s.heard p).bridge = s.bridge := by
  obtain ⟨ts, h⟩ := heard_frame s p
  rw [h]

theorem raise_bridge (s : State) (pg b : Nat) : (s.raise pg b).bridge = s.bridge := by
  obtain ⟨⟨rs, m, l, h⟩, -⟩ := foldl_raise pg [b] s
  rw [show s.raise pg b = _ from h]

/-! ### Fences (R316, R318) -/

section
variable (s : State) (w : Nat)

/-- A fence has been started over the posted writes of the window that are outstanding. -/
def fenceStarted : State :=
  (((((s.wr BRIDGE.FENCE_CTRL_WINDOW w).wr BRIDGE.FENCE_STAT_FAILED 0).wr BRIDGE.FENCE_STAT_ABORT_LATE 0).wr
    BRIDGE.FENCE_STAT_STATUS 1).updBridge (fun b => { b with
      fence := some w
      reqs := b.reqs.map (fun r =>
        { r with fenced := r.kind = 0 && r.win = w && !s.flag BRIDGE.WIN_CFG_NONPOSTED w }) })).wr BRIDGE.FENCE_CTRL_GO 1

theorem fenceGo_started (h : s.rd BRIDGE.FENCE_STAT_STATUS ≠ 1) : s.fenceGo w = (fenceStarted s w).fenceCheck :=
  if_neg (by rwa [rd_wr_other s w 0 0 (by decide)])

theorem fenceStarted_bridge : (fenceStarted s w).bridge.fence = some w ∧ (fenceStarted s w).bridge.reqs = s.bridge.reqs.map (fun r =>
    { r with fenced := r.kind = 0 && r.win = w && !s.flag BRIDGE.WIN_CFG_NONPOSTED w }) := ⟨rfl, rfl⟩

theorem fenceStarted_shows : (fenceStarted s w).rd BRIDGE.FENCE_STAT_STATUS = 1 ∧ (fenceStarted s w).rd BRIDGE.FENCE_CTRL_GO = 1 ∧
    (fenceStarted s w).rd BRIDGE.FENCE_STAT_FAILED = 0 ∧ (fenceStarted s w).sent = s.sent := by
  refine ⟨?_, ?_, ?_, ?_⟩
  · rw [fenceStarted, rd_wr_other _ 1 0 0 (by decide), rd_updBridge, rd_wr_same]
    rfl
  · rw [fenceStarted, rd_wr_same]
    rfl
  · rw [fenceStarted, rd_wr_other _ 1 0 0 (by decide), rd_updBridge, rd_wr_other _ 1 0 0 (by decide),
      rd_wr_other _ 0 0 0 (by decide), rd_wr_same]
    rfl
  · simp only [fenceStarted, State.wr, wrn_sent, State.updBridge]

theorem fenceCheck_runs (hw : s.bridge.fence = some w) (h : s.bridge.reqs.any (·.fenced) = true) : s.fenceCheck = s := by
  rw [State.fenceCheck, hw]
  exact if_pos h

theorem fenceCheck_completes (hw : s.bridge.fence = some w) (h : s.bridge.reqs.any (·.fenced) = false) :
    s.fenceCheck.rd BRIDGE.FENCE_STAT_STATUS = 2 ∧ s.fenceCheck.rd BRIDGE.FENCE_CTRL_GO = 0 ∧
      s.fenceCheck.rd BRIDGE.FENCE_STAT_FAILED = s.rd BRIDGE.FENCE_STAT_FAILED ∧ s.fenceCheck.bridge.fence = none ∧
      event s.fenceCheck 0x14 3 = true := by
  have hdone : s.fenceCheck = (((s.updBridge (fun b => { b with fence := none })).wr BRIDGE.FENCE_STAT_STATUS 2).wr
      BRIDGE.FENCE_CTRL_GO 0).raise 0x14 3 := by
    rw [State.fenceCheck, hw]
    exact if_neg (by simp [h])
  rw [hdone]
  refine ⟨?_, ?_, ?_, ?_, event_raise_same _ 0x14 3 (by decide)⟩
  · rw [rd_raise _ _ _ _ _ (by decide), rd_wr_other _ 0 0 0 (by decide), rd_wr_same]
    rfl
  · rw [rd_raise _ _ _ _ _ (by decide), rd_wr_same]
    rfl
  · rw [rd_raise _ _ _ _ _ (by decide), rd_wr_other _ 0 0 0 (by decide), rd_wr_other _ 2 0 0 (by decide), rd_updBridge]
  · rw [raise_bridge]
    rfl

theorem fenceAbort_running (h : s.rd BRIDGE.FENCE_STAT_STATUS = 1) :
    (s.fenceAbort w).rd BRIDGE.FENCE_STAT_STATUS = 3 ∧ (s.fenceAbort w).rd BRIDGE.FENCE_CTRL_GO = 0 ∧
      (s.fenceAbort w).bridge.fence = none ∧ ∃ rs b, s.fenceAbort w = { s with regs := rs, bridge := b } := by
  have hab : s.fenceAbort w = ((((s.wr BRIDGE.FENCE_CTRL_WINDOW w).updBridge (fun b => { b with
      fence := none, reqs := b.reqs.map (fun r => { r with fenced := false }) })).wr BRIDGE.FENCE_STAT_STATUS 3).wr
        BRIDGE.FENCE_CTRL_GO 0) := by
    have hst : (s.wr BRIDGE.FENCE_CTRL_WINDOW w).rd BRIDGE.FENCE_STAT_STATUS = 1 := (rd_wr_other s w 0 0 (by decide)).trans h
    rw [State.fenceAbort]
    simp only [hst]
  rw [hab]
  refine ⟨?_, ?_, rfl, _, _, rfl⟩
  · rw [rd_wr_other _ 0 0 0 (by decide), rd_wr_same]
    rfl
  · rw [rd_wr_same]
    rfl

theorem fenceAbort_late (h : s.rd BRIDGE.FENCE_STAT_STATUS = 2) :
    (s.fenceAbort w).rd BRIDGE.FENCE_STAT_STATUS = 2 ∧ (s.fenceAbort w).rd BRIDGE.FENCE_STAT_ABORT_LATE = 1 ∧
      event (s.fenceAbort w) 0x14 4 = true := by
  have hst : (s.wr BRIDGE.FENCE_CTRL_WINDOW w).rd BRIDGE.FENCE_STAT_STATUS = 2 := (rd_wr_other s w 0 0 (by decide)).trans h
  have hab : s.fenceAbort w = ((s.wr BRIDGE.FENCE_CTRL_WINDOW w).wr BRIDGE.FENCE_STAT_ABORT_LATE 1).raise 0x14 4 := by
    rw [State.fenceAbort]
    simp only [hst]
  rw [hab]
  refine ⟨?_, ?_, event_raise_same _ 0x14 4 (by decide)⟩
  · rw [rd_raise _ _ _ _ _ (by decide), rd_wr_other _ 1 0 0 (by decide), hst]
  · rw [rd_raise _ _ _ _ _ (by decide), rd_wr_same]
    rfl

end

theorem flag_heard (s : State) (p : Port) (f : Fld) (i : Nat) : (s.heard p).flag f i = s.flag f i := heard_flagn s p 0 f i

section
variable (s : State) (p : Port) (w : Nat) (hw : w < 128)
include hw

theorem exec_fenceGo (hperm : Permitted s p 0x14 0x60 (w * 65536 + 1)) :
    exec (.fenceGo p w) s = .next (((s.heard p).fenceGo w).emit (done p)) :=
  congrArg Host.Outcome.next (by
    rw [Nat.mod_eq_of_lt hw]
    exact access_permitted s p 0x14 0x60 _ _ hperm)

theorem exec_fenceAbort (hperm : Permitted s p 0x14 0x60 (w * 65536 + 2)) :
    exec (.fenceAbort p w) s = .next (((s.heard p).fenceAbort w).emit (done p)) :=
  congrArg Host.Outcome.next (by
    rw [Nat.mod_eq_of_lt hw]
    exact access_permitted s p 0x14 0x60 _ _ hperm)

theorem exec_readAbort (hperm : Permitted s p 0x14 0x68 (w * 65536 + 1)) :
    exec (.readAbort p w) s = .next (((s.heard p).readAbort w).emit (done p)) :=
  congrArg Host.Outcome.next (by
    rw [Nat.mod_eq_of_lt hw]
    exact access_permitted s p 0x14 0x68 _ _ hperm)

/-- A fence over nothing completes at once. -/
theorem fenceGo_nothing (hperm : Permitted s p 0x14 0x60 (w * 65536 + 1)) (hst : s.rd BRIDGE.FENCE_STAT_STATUS ≠ 1)
    (hnone : ∀ r ∈ s.bridge.reqs, r.kind = 0 → r.win ≠ w) :
    ∃ t, exec (.fenceGo p w) s = .next t ∧ t.rd BRIDGE.FENCE_STAT_STATUS = 2 ∧ t.rd BRIDGE.FENCE_STAT_FAILED = 0 ∧
      t.rd BRIDGE.FENCE_CTRL_GO = 0 ∧ t.bridge.fence = none ∧ event t 0x14 3 = true := by
  refine ⟨_, exec_fenceGo s p w hw hperm, ?_⟩
  rw [fenceGo_started _ w (by rwa [rd_heard])]
  obtain ⟨hfence, hreqs⟩ := fenceStarted_bridge (s.heard p) w
  have hany : (fenceStarted (s.heard p) w).bridge.reqs.any (·.fenced) = false := by
    rw [hreqs, heard_bridge, List.any_map, List.any_eq_false]
    intro r hr
    by_cases hkind : r.kind = 0
    · simp [hnone r hr hkind]
    · simp [hkind]
  obtain ⟨hstatus, hgo, hfailed, hnofence, hevent⟩ := fenceCheck_completes _ w hfence hany
  exact ⟨hstatus, hfailed.trans (fenceStarted_shows (s.heard p) w).2.2.1, hgo, hnofence, hevent⟩

/-- A fence over outstanding posted writes runs. -/
theorem fenceGo_outstanding (hperm : Permitted s p 0x14 0x60 (w * 65536 + 1)) (hst : s.rd BRIDGE.FENCE_STAT_STATUS ≠ 1)
    (hsome : ∃ r ∈ s.bridge.reqs, r.kind = 0 ∧ r.win = w) (hposted : s.flag BRIDGE.WIN_CFG_NONPOSTED w = false) :
    ∃ t, exec (.fenceGo p w) s = .next t ∧ t.rd BRIDGE.FENCE_STAT_STATUS = 1 ∧ t.rd BRIDGE.FENCE_CTRL_GO = 1 ∧
      t.bridge.fence = some w ∧ (∀ r ∈ t.bridge.reqs, r.fenced = (r.kind = 0 && r.win = w)) ∧ t.sent = s.sent ++ [done p] := by
  refine ⟨_, exec_fenceGo s p w hw hperm, ?_⟩
  rw [fenceGo_started _ w (by rwa [rd_heard])]
  obtain ⟨hfence, hreqs⟩ := fenceStarted_bridge (s.heard p) w
  rw [heard_bridge, flag_heard, hposted] at hreqs
  have hany : (fenceStarted (s.heard p) w).bridge.reqs.any (·.fenced) = true := by
    obtain ⟨r, hr, hkind, hwin⟩ := hsome
    rw [hreqs, List.any_map, List.any_eq_true]
    exact ⟨r, hr, by simp [hkind, hwin]⟩
  rw [fenceCheck_runs _ w hfence hany]
  obtain ⟨hstatus, hgo, -, hsent⟩ := fenceStarted_shows (s.heard p) w
  refine ⟨hstatus, hgo, hfence, fun r hr => ?_, by rw [emit_sent, hsent, heard_sent]⟩
  replace hr : r ∈ (fenceStarted (s.heard p) w).bridge.reqs := hr
  rw [hreqs] at hr
  obtain ⟨q, -, rfl⟩ := List.mem_map.mp hr
  simp

end

/-! ### Read aborts (R317, R318) -/

/-- What a read abort shows. -/
def abortShown (s : State) (w status n late : Nat) (won : Bool) : State :=
  ((((s.wr BRIDGE.RDA_CTRL_WINDOW w).wr BRIDGE.RDA_STAT_STATUS status).wr BRIDGE.RDA_STAT_ABORT_LATE (bit won)).wr
    BRIDGE.RDA_STAT_ABORTED_N n).wr BRIDGE.RDA_STAT_LATE_N late

theorem abortShown_shows (s : State) (w status n late : Nat) (won : Bool) :
    (abortShown s w status n late won).rd BRIDGE.RDA_STAT_STATUS = status % 4 ∧
      (abortShown s w status n late won).rd BRIDGE.RDA_STAT_ABORT_LATE = bit won % 2 ∧
      (abortShown s w status n late won).rd BRIDGE.RDA_STAT_ABORTED_N = n % 2 ^ BRIDGE.RDA_STAT_ABORTED_N.w ∧
      (abortShown s w status n late won).rd BRIDGE.RDA_STAT_LATE_N = late % 2 ^ BRIDGE.RDA_STAT_LATE_N.w := by
  unfold abortShown
  refine ⟨?_, ?_, ?_, rd_wr_same _ _ late 0⟩
  · rw [rd_wr_other _ late 0 0 (by decide), rd_wr_other _ n 0 0 (by decide), rd_wr_other _ _ 0 0 (by decide), rd_wr_same]
    rfl
  · rw [rd_wr_other _ late 0 0 (by decide), rd_wr_other _ n 0 0 (by decide), rd_wr_same]
    rfl
  · rw [rd_wr_other _ late 0 0 (by decide), rd_wr_same]

theorem abortShown_frame (s : State) (w status n late : Nat) (won : Bool) : RegsOnly s (abortShown s w status n late won) :=
  (((((RegsOnly.refl s).wrn _ _ _ _).wrn _ _ _ _).wrn _ _ _ _).wrn _ _ _ _).wrn _ _ _ _

/-- The reads of the window that have ended in this core cycle. -/
def lateReads (s : State) (w : Nat) : List (Nat × Nat) :=
  s.bridge.ended.filter (fun e => e.1 = w && e.2 = s.mono / 64)

theorem readAbort_eq (s : State) (w : Nat) (held : List HeldRead) (hheld : s.bridge.reads.filter (fun h => h.win = w) = held) :
    s.readAbort w =
      let won := decide (held = []) && decide (0 < (lateReads s w).length)
      let t := abortShown (held.foldl State.failRead s) w (if held = [] then 2 else 3) held.length (lateReads s w).length won
      if won then t.raise 0x14 4 else t := by
  subst hheld
  rfl

theorem readAbort_none (s : State) (w : Nat) (hheld : ∀ h ∈ s.bridge.reads, h.win ≠ w) (hlate : lateReads s w = []) :
    s.readAbort w = abortShown s w 2 0 0 false := by
  rw [readAbort_eq s w [] (List.filter_eq_nil_iff.mpr (by simpa using hheld)), hlate]
  rfl

theorem readAbort_late (s : State) (w : Nat) (hheld : ∀ h ∈ s.bridge.reads, h.win ≠ w) (hlate : lateReads s w ≠ []) :
    s.readAbort w = (abortShown s w 2 0 (lateReads s w).length true).raise 0x14 4 := by
  have hpos : 0 < (lateReads s w).length := List.length_pos_iff.mpr hlate
  rw [readAbort_eq s w [] (List.filter_eq_nil_iff.mpr (by simpa using hheld))]
  simp [hpos]

theorem readAbort_one (s : State) (w : Nat) (h : HeldRead) (hreads : s.bridge.reads = [h]) (hwin : h.win = w) :
    s.readAbort w = abortShown (s.failRead h) w 3 1 (lateReads s w).length false := by
  rw [readAbort_eq s w [h] (by rw [hreads]; simp [hwin])]
  rfl

theorem completeRead_frame (s : State) (host a : Nat) (data : List Byte) : ∃ l, s.completeRead host a data = { s with sent := l } := by
  unfold State.completeRead
  generalize completions 32 a (bnat data) = pieces
  induction pieces generalizing s with
  | nil => exact ⟨s.sent, rfl⟩
  | cons bs pieces ih =>
    obtain ⟨l, h⟩ := ih (s.emit (.item "CPLD" (host :: bs)))
    exact ⟨l, h⟩

theorem failRead_frame (s : State) (h : HeldRead) : ∃ l, s.failRead h = { s with
    bridge := { s.bridge with
      reads := s.bridge.reads.filter (fun x => x.id ≠ h.id), reqs := s.bridge.reqs.filter (fun r => r.kind ≠ 1 || r.read ≠ h.id) }
    sent := l } := by
  unfold State.failRead
  split
  case isTrue =>
    obtain ⟨l, e⟩ := completeRead_frame (s.updBridge (fun b => { b with
      reads := b.reads.filter (fun x => x.id ≠ h.id), reqs := b.reqs.filter (fun r => r.kind ≠ 1 || r.read ≠ h.id) })) h.host h.addr
      (List.replicate h.len 0xFF)
    exact ⟨l, e⟩
  case isFalse => exact ⟨_, rfl⟩

/-- The read abort of a window's only held read ends it and forgets its requests. -/
theorem readAbort_one_shows (s : State) (w : Nat) (h : HeldRead) (hreads : s.bridge.reads = [h]) (hwin : h.win = w) :
    let t := s.readAbort w
    t.rd BRIDGE.RDA_STAT_STATUS = 3 ∧ t.rd BRIDGE.RDA_STAT_ABORTED_N = 1 ∧ t.rd BRIDGE.RDA_STAT_ABORT_LATE = 0 ∧
      t.bridge.reads = [] ∧ (∀ r ∈ t.bridge.reqs, r.kind = 1 → r.read ≠ h.id) ∧
      ∃ rs b l, t = { s with regs := rs, bridge := b, sent := l } := by
  rw [readAbort_one s w h hreads hwin]
  obtain ⟨hst, hlate, hn, -⟩ := abortShown_shows (s.failRead h) w 3 1 (lateReads s w).length false
  obtain ⟨rs, hshown⟩ := abortShown_frame (s.failRead h) w 3 1 (lateReads s w).length false
  obtain ⟨l, hfail⟩ := failRead_frame s h
  refine ⟨hst, hn, hlate, ?_⟩
  rw [hshown, hfail]
  refine ⟨?_, fun r hr hkind => ?_, _, _, _, rfl⟩
  · simp [hreads]
  · simpa [hkind] using (List.mem_filter.mp hr).2

theorem lateReads_heard (s : State) (p : Port) (w : Nat) : lateReads (s.heard p) w = lateReads s w := by
  obtain ⟨ts, h⟩ := heard_frame s p
  rw [h]
  rfl

/-! ### The error logs and the change queue (R313, R315, R321) -/

/-- A field copy of which the table holds nothing reads its reset value. -/
theorem rdn_of_find_none {s : State} {n : Nat} {f : Fld} {i : Nat} (h : s.regs.find (f.key n i) = none) : s.rdn n f i = f.dflt i := by
  rw [State.rdn, h]
  rfl

theorem find_wrn_reset (s : State) (n : Nat) (f : Fld) (i k : Nat) (h0 : f.dflt i = 0) (h : k = f.key n i ∨ s.regs.find k = none) :
    (s.wrn n f (f.dflt i) i).regs.find k = none := by
  by_cases hk : k = f.key n i
  · rw [hk, State.wrn, putField, h0]
    exact find_del_same _ _
  · exact (find_wrn_other s n f _ i k hk).trans (h.resolve_left hk)

theorem find_foldl_reset (n : Nat) (f : Fld) (k : Nat) (h0 : ∀ i, f.dflt i = 0) (is : List Nat) : ∀ s : State,
    ((∃ i ∈ is, k = f.key n i) ∨ s.regs.find k = none) →
      (is.foldl (fun s i => s.wrn n f (f.dflt i) i) s).regs.find k = none := by
  induction is with
  | nil => exact fun s h => h.resolve_left (by simp)
  | cons a is ih =>
    intro s h
    refine ih _ ?_
    rcases h with ⟨i, hi, hk⟩ | h
    · rcases List.mem_cons.mp hi with rfl | hi
      · exact .inr (find_wrn_reset s n f i k (h0 i) (.inl hk))
      · exact .inl ⟨i, hi, hk⟩
    · exact .inr (find_wrn_reset s n f a k (h0 a) (.inr h))

/-- Cleared fields with reset value 0 read 0. -/
theorem find_clrFields (n k : Nat) (fs : List Fld) : (∀ f ∈ fs, ∀ i, f.dflt i = 0) → ∀ s : State,
    ((∃ f ∈ fs, ∃ i < f.cnt, k = f.key n i) ∨ s.regs.find k = none) → (s.clrFields n fs).regs.find k = none := by
  induction fs with
  | nil => exact fun _ s h => h.resolve_left (by simp)
  | cons g fs ih =>
    intro h0 s h
    refine ih (fun f hf => h0 f (List.mem_cons_of_mem g hf)) _ ?_
    have hg := find_foldl_reset n g k (h0 g List.mem_cons_self) (List.range g.cnt) s
    rcases h with ⟨f, hf, i, hi, hk⟩ | h
    · rcases List.mem_cons.mp hf with rfl | hf
      · exact .inr (hg (.inl ⟨i, List.mem_range.mpr hi, hk⟩))
      · exact .inl ⟨f, hf, i, hi, hk⟩
    · exact .inr (hg (.inr h))

theorem rd_clrFields (s : State) (fs : List Fld) (h0 : ∀ f ∈ fs, ∀ i, f.dflt i = 0) (g : Fld) (hg : g ∈ fs) (i : Nat) (hi : i < g.cnt) :
    (s.clrFields 0 fs).rd g i = 0 :=
  (rdn_of_find_none (find_clrFields 0 _ fs h0 s (.inl ⟨g, hg, i, hi, rfl⟩))).trans (h0 g hg i)

theorem clrFields_regsOnly (s : State) (n : Nat) (fs : List Fld) : RegsOnly s (s.clrFields n fs) := by
  have hcopies : ∀ (f : Fld) (is : List Nat) (t : State), RegsOnly s t →
      RegsOnly s (is.foldl (fun s i => s.wrn n f (f.dflt i) i) t) := by
    intro f is
    induction is with
    | nil => exact fun t h => h
    | cons i is ih => exact fun t h => ih _ (h.wrn n f _ i)
  have hall : ∀ t : State, RegsOnly s t → RegsOnly s (t.clrFields n fs) := by
    induction fs with
    | nil => exact fun t h => h
    | cons f fs ih => exact fun t h => ih _ (hcopies f _ t h)
  exact hall s (.refl s)

theorem pweClear_shows (s : State) : s.pweClear.rd BRIDGE.PWE_STAT_TOTAL = 0 ∧ s.pweClear.rd BRIDGE.PWE_STAT_VALID = 0 ∧
    (∀ i, i < 16 → s.pweClear.rd BRIDGE.PWE_W0_ADDR_LO i = 0 ∧ s.pweClear.rd BRIDGE.PWE_W2_CODE i = 0) ∧ RegsOnly s s.pweClear := by
  unfold State.pweClear
  have h0 := rd_clrFields s [BRIDGE.PWE_STAT_TOTAL, BRIDGE.PWE_STAT_VALID, BRIDGE.PWE_W0_ADDR_LO, BRIDGE.PWE_W1_WINDOW,
    BRIDGE.PWE_W1_ADDR_HI, BRIDGE.PWE_W2_TAG, BRIDGE.PWE_W2_CODE, BRIDGE.PWE_W2_PORT, BRIDGE.PWE_W3_NS, BRIDGE.PWE_W4_SEC_LO] (by
      simp only [List.forall_mem_cons, List.not_mem_nil, false_implies, implies_true, and_true]
      exact ⟨fun _ => rfl, fun _ => rfl, fun _ => rfl, fun _ => rfl, fun _ => rfl, fun _ => rfl, fun _ => rfl, fun _ => rfl,
        fun _ => rfl, fun _ => rfl⟩)
  exact ⟨h0 BRIDGE.PWE_STAT_TOTAL (by simp) 0 (by decide), h0 BRIDGE.PWE_STAT_VALID (by simp) 0 (by decide),
    fun i hi => ⟨h0 BRIDGE.PWE_W0_ADDR_LO (by simp) i hi, h0 BRIDGE.PWE_W2_CODE (by simp) i hi⟩, clrFields_regsOnly s 0 _⟩

theorem pfdClear_shows (s : State) : s.pfdClear.rd BRIDGE.PFD_STAT_TOTAL = 0 ∧ s.pfdClear.rd BRIDGE.PFD_STAT_VALID = 0 ∧
    (∀ i, i < 32 → s.pfdClear.rd BRIDGE.PFD_W0_ADDR_LO i = 0 ∧ s.pfdClear.rd BRIDGE.PFD_W2_CAUSE i = 0) ∧ RegsOnly s s.pfdClear := by
  unfold State.pfdClear
  have h0 := rd_clrFields s [BRIDGE.PFD_STAT_TOTAL, BRIDGE.PFD_STAT_VALID, BRIDGE.PFD_W0_ADDR_LO, BRIDGE.PFD_W1_WINDOW,
    BRIDGE.PFD_W1_ADDR_HI, BRIDGE.PFD_W2_CAUSE, BRIDGE.PFD_W2_COUNT] (by
      simp only [List.forall_mem_cons, List.not_mem_nil, false_implies, implies_true, and_true]
      exact ⟨fun _ => rfl, fun _ => rfl, fun _ => rfl, fun _ => rfl, fun _ => rfl, fun _ => rfl, fun _ => rfl⟩)
  exact ⟨h0 BRIDGE.PFD_STAT_TOTAL (by simp) 0 (by decide), h0 BRIDGE.PFD_STAT_VALID (by simp) 0 (by decide),
    fun i hi => ⟨h0 BRIDGE.PFD_W0_ADDR_LO (by simp) i hi, h0 BRIDGE.PFD_W2_CAUSE (by simp) i hi⟩, clrFields_regsOnly s 0 _⟩

/-- An answered access that changes registers only. -/
theorem regsOnly_answered {s t : State} {p : Port} (h : RegsOnly (s.heard p) t) :
    t.emit (done p) = { s.heard p with regs := (t.emit (done p)).regs, sent := s.sent ++ [done p] } := by
  obtain ⟨rs, rfl⟩ := h
  rw [← heard_sent s p]
  rfl

section
variable (s : State) (p : Port) (w : Nat) (hw : w < 128)
include hw

/-- The abort of a running fence ends it. -/
theorem exec_fenceAbort_running (hperm : Permitted s p 0x14 0x60 (w * 65536 + 2)) (hst : s.rd BRIDGE.FENCE_STAT_STATUS = 1) :
    ∃ t, exec (.fenceAbort p w) s = .next t ∧ t.rd BRIDGE.FENCE_STAT_STATUS = 3 ∧ t.rd BRIDGE.FENCE_CTRL_GO = 0 ∧
      t.bridge.fence = none ∧ t = { s.heard p with regs := t.regs, bridge := t.bridge, sent := s.sent ++ [done p] } := by
  refine ⟨_, exec_fenceAbort s p w hw hperm, ?_⟩
  obtain ⟨hstatus, hgo, hfence, rs, b, hframe⟩ := fenceAbort_running (s.heard p) w ((rd_heard s p _ 0).trans hst)
  refine ⟨hstatus, hgo, hfence, ?_⟩
  rw [hframe, ← heard_sent s p]
  rfl

/-- The abort of a completed fence comes late. -/
theorem exec_fenceAbort_late (hperm : Permitted s p 0x14 0x60 (w * 65536 + 2)) (hst : s.rd BRIDGE.FENCE_STAT_STATUS = 2) :
    ∃ t, exec (.fenceAbort p w) s = .next t ∧ t.rd BRIDGE.FENCE_STAT_STATUS = 2 ∧ t.rd BRIDGE.FENCE_STAT_ABORT_LATE = 1 ∧
      event t 0x14 4 = true :=
  ⟨_, exec_fenceAbort s p w hw hperm, fenceAbort_late (s.heard p) w ((rd_heard s p _ 0).trans hst)⟩

variable (hperm : Permitted s p 0x14 0x68 (w * 65536 + 1))
include hperm

/-- A read abort of a window with no held read and none that ended in the core cycle finds nothing. -/
theorem exec_readAbort_nothing (hheld : ∀ h ∈ s.bridge.reads, h.win ≠ w) (hlate : ∀ e ∈ s.bridge.ended, e.1 = w → e.2 ≠ s.mono / 64) :
    ∃ t, exec (.readAbort p w) s = .next t ∧ t.rd BRIDGE.RDA_STAT_STATUS = 2 ∧ t.rd BRIDGE.RDA_STAT_ABORTED_N = 0 ∧
      t.rd BRIDGE.RDA_STAT_ABORT_LATE = 0 ∧ t.rd BRIDGE.RDA_STAT_LATE_N = 0 ∧
      t.bridge = s.bridge ∧ t = { s.heard p with regs := t.regs, sent := s.sent ++ [done p] } := by
  refine ⟨_, exec_readAbort s p w hw hperm, ?_⟩
  have hnone : lateReads s w = [] := List.filter_eq_nil_iff.mpr (by simpa using hlate)
  rw [readAbort_none _ w (by rwa [heard_bridge]) (by rwa [lateReads_heard])]
  obtain ⟨hst, hl, hn, hln⟩ := abortShown_shows (s.heard p) w 2 0 0 false
  have hregs := abortShown_frame (s.heard p) w 2 0 0 false
  refine ⟨hst, hn, hl, hln, ?_, regsOnly_answered hregs⟩
  obtain ⟨rs, e⟩ := hregs
  rw [e]
  exact heard_bridge s p

/-- A read abort comes late where the window's last read ended in the core cycle (R317, log 69). -/
theorem exec_readAbort_late (e : Nat × Nat) (he : e ∈ s.bridge.ended) (hwin : e.1 = w) (hcycle : e.2 = s.mono / 64)
    (hheld : ∀ h ∈ s.bridge.reads, h.win ≠ w) :
    ∃ t, exec (.readAbort p w) s = .next t ∧ t.rd BRIDGE.RDA_STAT_STATUS = 2 ∧ t.rd BRIDGE.RDA_STAT_ABORTED_N = 0 ∧
      t.rd BRIDGE.RDA_STAT_ABORT_LATE = 1 ∧ event t 0x14 4 = true ∧ t.bridge = s.bridge := by
  refine ⟨_, exec_readAbort s p w hw hperm, ?_⟩
  have hsome : lateReads s w ≠ [] := List.ne_nil_of_mem (List.mem_filter.mpr ⟨he, by simp [hwin, hcycle]⟩)
  rw [readAbort_late _ w (by rwa [heard_bridge]) (by rwa [lateReads_heard]), lateReads_heard]
  obtain ⟨hst, hl, hn, -⟩ := abortShown_shows (s.heard p) w 2 0 (lateReads s w).length true
  have hkept : ∀ (t : State) (g : Fld), key g ≠ intStat 0x14 → ((t.raise 0x14 4).emit (done p)).rd g = t.rd g :=
    fun t g hg => rd_raise t 0x14 4 g 0 hg
  refine ⟨(hkept _ _ (by decide)).trans hst, (hkept _ _ (by decide)).trans hn, (hkept _ _ (by decide)).trans hl,
    event_raise_same _ 0x14 4 (by decide), ?_⟩
  obtain ⟨rs, e⟩ := abortShown_frame (s.heard p) w 2 0 (lateReads s w).length true
  rw [e]
  exact (raise_bridge _ 0x14 4).trans (heard_bridge s p)

/-- A read abort ends the window's held read. -/
theorem exec_readAbort_one (h : HeldRead) (hreads : s.bridge.reads = [h]) (hwin : h.win = w) :
    ∃ t, exec (.readAbort p w) s = .next t ∧ t.rd BRIDGE.RDA_STAT_STATUS = 3 ∧ t.rd BRIDGE.RDA_STAT_ABORTED_N = 1 ∧
      t.rd BRIDGE.RDA_STAT_ABORT_LATE = 0 ∧ t.bridge.reads = [] ∧ (∀ r ∈ t.bridge.reqs, r.kind = 1 → r.read ≠ h.id) ∧
      t = { s.heard p with regs := t.regs, bridge := t.bridge, sent := t.sent } := by
  refine ⟨_, exec_readAbort s p w hw hperm, ?_⟩
  obtain ⟨hst, hn, hl, hnoread, hnoreq, rs, b, l, hframe⟩ := readAbort_one_shows (s.heard p) w h (by rwa [heard_bridge]) hwin
  refine ⟨hst, hn, hl, hnoread, hnoreq, ?_⟩
  rw [hframe]
  rfl

end

theorem exec_pweClear (s : State) (p : Port) (h : Permitted s p 0x14 0x74 1) :
    ∃ t, exec (.pweClear p) s = .next t ∧ t.rd BRIDGE.PWE_STAT_TOTAL = 0 ∧ t.rd BRIDGE.PWE_STAT_VALID = 0 ∧
      (∀ i, i < 16 → t.rd BRIDGE.PWE_W0_ADDR_LO i = 0 ∧ t.rd BRIDGE.PWE_W2_CODE i = 0) ∧
      t = { s.heard p with regs := t.regs, sent := s.sent ++ [done p] } := by
  refine ⟨(s.heard p).pweClear.emit (done p), congrArg Host.Outcome.next (access_permitted s p 0x14 0x74 1 _ h), ?_⟩
  simp only [rd_emit]
  obtain ⟨htotal, hvalid, hrows, hregs⟩ := pweClear_shows (s.heard p)
  exact ⟨htotal, hvalid, hrows, regsOnly_answered hregs⟩

theorem exec_pfdClear (s : State) (p : Port) (h : Permitted s p 0x14 0x7C 1) :
    ∃ t, exec (.pfdClear p) s = .next t ∧ t.rd BRIDGE.PFD_STAT_TOTAL = 0 ∧ t.rd BRIDGE.PFD_STAT_VALID = 0 ∧
      (∀ i, i < 32 → t.rd BRIDGE.PFD_W0_ADDR_LO i = 0 ∧ t.rd BRIDGE.PFD_W2_CAUSE i = 0) ∧
      t = { s.heard p with regs := t.regs, sent := s.sent ++ [done p] } := by
  refine ⟨(s.heard p).pfdClear.emit (done p), congrArg Host.Outcome.next (access_permitted s p 0x14 0x7C 1 _ h), ?_⟩
  simp only [rd_emit]
  obtain ⟨htotal, hvalid, hrows, hregs⟩ := pfdClear_shows (s.heard p)
  exact ⟨htotal, hvalid, hrows, regsOnly_answered hregs⟩

theorem exec_cqPop (s : State) (p : Port) (h : Permitted s p 0x15 0x74 1) :
    ∃ t, exec (.cqPop p) s = .next t ∧ t.bridge = { s.bridge with cq := s.bridge.cq.drop 1 } ∧
      t = { s.heard p with bridge := t.bridge, sent := s.sent ++ [done p] } := by
  refine ⟨_, congrArg Host.Outcome.next (access_permitted s p 0x15 0x74 1 _ h), ?_⟩
  rw [← heard_bridge s p, ← heard_sent s p]
  exact ⟨rfl, rfl⟩

end Sys2Proof.Proofs
end

section
/-! PROOFS. The receive rings of the host and the doorbell of MGMT (R322, R323, R331). -/

set_option Elab.async false

namespace Sys2Proof.Proofs

open Sys2Proof.Machine Sys2Proof.Safety Sys2Proof.Laws

/-! ### Receive rings (R323) -/

section
variable (s : State) (f : Frame) (buf r : Nat)

/-- The frame is written to the host buffer and its descriptor is done. -/
def rxDelivered (s1 : State) : State :=
  let head := s1.rd BRIDGE.RXR_HEAD_INDEX r
  let desc := s1.rd BRIDGE.RXR_BASE_HI_ADDR r * 2 ^ 32 + s1.rd BRIDGE.RXR_BASE_LO_ADDR r / 16 * 16 + 16 * head
  let s2 := s1.emit (.item "HOST_WRITE" (buf / 64 * 64 :: (f.head28 ++ beBytes 4 f.hchk ++ bnat f.payload)))
  (s2.emit (.item "HOST_WRITE" ((desc + 8) :: leBytes 4 (2 ^ 31 + (32 + f.payload.length))))).wr BRIDGE.RXR_HEAD_INDEX
    (ringNext (s1.rd BRIDGE.RXR_CFG_SIZE r) head) r

theorem exec_hostRxDelivery (hup : s.hostUp = true) (hr : r = s.rd BRIDGE.RX_MAP_RING f.tc) :
    exec (.hostRxDelivery f buf) s = .next (
      if !s.flag BRIDGE.RXR_CFG_EN r || s.rd BRIDGE.RXR_HEAD_INDEX r = s.rd BRIDGE.RXR_TAIL_INDEX r ||
          decide (s.rd BRIDGE.RXR_CFG_BUF_LEN r < 32 + f.payload.length) then (s.takeInbox 3 f).sat BRIDGE.RXR_DROP_COUNT r
      else rxDelivered f buf r (s.takeInbox 3 f)) := by
  subst hr
  have hup' : ¬ (!(s.takeInbox 3 f).hostUp) = true := by
    rw [show (s.takeInbox 3 f).hostUp = s.hostUp from rfl, hup]
    decide
  exact congrArg Host.Outcome.next (if_neg hup')

theorem rxDelivered_shows (s1 : State) :
    (rxDelivered f buf r s1).sent.length = s1.sent.length + 2 ∧
      Emit.item "HOST_WRITE" (buf / 64 * 64 :: (f.head28 ++ beBytes 4 f.hchk ++ bnat f.payload)) ∈ (rxDelivered f buf r s1).sent ∧
      (rxDelivered f buf r s1).rd BRIDGE.RXR_HEAD_INDEX r =
        (s1.rd BRIDGE.RXR_HEAD_INDEX r + 1) % 2 ^ s1.rd BRIDGE.RXR_CFG_SIZE r % 2 ^ 12 ∧
      RegsBut s1 (rxDelivered f buf r s1) [key BRIDGE.RXR_HEAD_INDEX r] ∧
      ∃ rs l, rxDelivered f buf r s1 = { s1 with regs := rs, sent := l } := by
  unfold rxDelivered
  dsimp only
  refine ⟨?_, ?_, ?_, ?_, _, _, rfl⟩
  · rw [State.wr, wrn_sent, emit_sent, emit_sent]
    simp
  · rw [State.wr, wrn_sent, emit_sent, emit_sent]
    simp
  · rw [rd_wr_same, ringNext]
    rfl
  · exact regsBut_wrn _ 0 _ _ r (by simp [key])

/-- A ring with room takes the message. -/
theorem hostRxDelivery_taken (hup : s.hostUp = true) (hr : r = s.rd BRIDGE.RX_MAP_RING f.tc)
    (hen : s.flag BRIDGE.RXR_CFG_EN r = true) (hroom : s.rd BRIDGE.RXR_HEAD_INDEX r ≠ s.rd BRIDGE.RXR_TAIL_INDEX r)
    (hlen : 32 + f.payload.length ≤ s.rd BRIDGE.RXR_CFG_BUF_LEN r) :
    ∃ t, exec (.hostRxDelivery f buf) s = .next t ∧ t.sent.length = s.sent.length + 2 ∧
      Emit.item "HOST_WRITE" (buf / 64 * 64 :: (f.head28 ++ beBytes 4 f.hchk ++ bnat f.payload)) ∈ t.sent ∧
      t.rd BRIDGE.RXR_HEAD_INDEX r = (s.rd BRIDGE.RXR_HEAD_INDEX r + 1) % 2 ^ s.rd BRIDGE.RXR_CFG_SIZE r % 2 ^ 12 ∧
      RegsBut s t [key BRIDGE.RXR_HEAD_INDEX r] ∧ t = { s with regs := t.regs, inbox := t.inbox, sent := t.sent } := by
  refine ⟨_, (exec_hostRxDelivery s f buf r hup hr).trans (congrArg Host.Outcome.next (if_neg ?_)), ?_⟩
  · rw [hen, decide_eq_false hroom, decide_eq_false (Nat.not_lt.mpr hlen)]
    decide
  · obtain ⟨hlength, hmem, hhead, hregs, rs, l, hframe⟩ := rxDelivered_shows f buf r (s.takeInbox 3 f)
    refine ⟨hlength, hmem, hhead, hregs, ?_⟩
    rw [hframe]
    rfl

/-- A ring that is off drops the message and counts it. -/
theorem hostRxDelivery_dropped (hup : s.hostUp = true) (hr : r = s.rd BRIDGE.RX_MAP_RING f.tc)
    (hen : s.flag BRIDGE.RXR_CFG_EN r = false) :
    ∃ t, exec (.hostRxDelivery f buf) s = .next t ∧ Counted s t 0 BRIDGE.RXR_DROP_COUNT r ∧
      RegsBut s t [key BRIDGE.RXR_DROP_COUNT r] ∧ t = { s with regs := t.regs, inbox := t.inbox } := by
  refine ⟨_, (exec_hostRxDelivery s f buf r hup hr).trans (congrArg Host.Outcome.next (if_pos ?_)), ?_, ?_, rfl⟩
  · rw [hen]
    rfl
  · show ((s.takeInbox 3 f).sat BRIDGE.RXR_DROP_COUNT r).rdn 0 BRIDGE.RXR_DROP_COUNT r = _
    rw [State.sat, State.satn, rdn_wrn_same]
    exact Nat.mod_eq_of_lt (lt_of_le_of_lt (min_le_right _ _) (by decide))
  · exact regsBut_wrn (s.takeInbox 3 f) 0 _ _ r (by simp [key])

end

/-! ### The doorbell (R331) -/

section
variable (s : State) (p : Port) (node v : Nat)

/-- The node a doorbell shows: the sender of a ring access, else 0. -/
def bellNode : Nat := if p = .ringE ∨ p = .ringW then node % 4096 else 0

theorem bell_events : (s.ring_ 0x16 0 v) = ((List.range 8).filter (bitOf v)).foldl (fun t b => t.raise 0x16 b) s := by
  simp only [State.ring_, Nat.zero_add]

theorem portCode_lt : p.code % 2 ^ MGMT.DB_LAST_PORT.w = p.code := by cases p <;> rfl

/-- The doorbell sets its events and shows who rang. -/
theorem ring_doorbell (n : Nat) (hn : n < 4096) :
    let t := ((s.wr MGMT.DB_LAST_PORT p.code).wr MGMT.DB_LAST_NODE n).ring_ 0x16 0 v
    (∀ b, b < 8 → event t 0x16 b = (event s 0x16 b || bitOf v b)) ∧ t.rd MGMT.DB_LAST_PORT = p.code ∧
      t.rd MGMT.DB_LAST_NODE = n ∧ RegsBut s t [intStat 0x16, key MGMT.DB_LAST_PORT, key MGMT.DB_LAST_NODE] ∧
      ∃ rs m l, t = { s with regs := rs, msix := m, sent := l } := by
  rw [bell_events]
  obtain ⟨⟨rs, m, l, hframe⟩, hregs, hevents⟩ := foldl_raise 0x16 ((List.range 8).filter (bitOf v))
    ((s.wr MGMT.DB_LAST_PORT p.code).wr MGMT.DB_LAST_NODE n)
  have hkept : ∀ g : Fld, key g ≠ intStat 0x16 → _ = ((s.wr MGMT.DB_LAST_PORT p.code).wr MGMT.DB_LAST_NODE n).rd g := fun g hg =>
    rdn_of_regsBut hregs 0 g 0 (by rwa [List.mem_singleton])
  refine ⟨fun b hb => ?_, ?_, ?_, ?_, ?_⟩
  · have hsame : event ((s.wr MGMT.DB_LAST_PORT p.code).wr MGMT.DB_LAST_NODE n) 0x16 b = event s 0x16 b :=
      congrArg (bitOf · b) ((rdn_wrn_elsewhere _ (f := MGMT.DB_LAST_NODE) (n := 0) n 0 0 (by decide)).trans
        (rdn_wrn_elsewhere s (f := MGMT.DB_LAST_PORT) (n := 0) p.code 0 0 (by decide)))
    rw [hevents b (by omega), hsame]
    congr 1
    cases h : bitOf v b <;> simp [h, hb]
  · exact (hkept _ (by decide)).trans ((rd_wr_other _ n 0 0 (by decide)).trans ((rd_wr_same _ _ _ 0).trans (portCode_lt p)))
  · exact (hkept _ (by decide)).trans ((rd_wr_same _ _ _ 0).trans (Nat.mod_eq_of_lt hn))
  · refine regsBut_trans (regsBut_trans (regsBut_wrn s 0 MGMT.DB_LAST_PORT p.code 0 (by simp [key]))
      (regsBut_wrn _ 0 MGMT.DB_LAST_NODE n 0 (by simp [key]))) ?_
    exact regsBut_mono hregs (by simp)
  · exact ⟨rs, m, l, hframe⟩

theorem mgmtDoorbell_rings (hperm : Permitted s p 0x16 0x4C v) :
    ∃ t, exec (.mgmtDoorbell p node v) s = .next t ∧ (∀ b, b < 8 → event t 0x16 b = (event s 0x16 b || bitOf v b)) ∧
      t.rd MGMT.DB_LAST_PORT = p.code ∧ t.rd MGMT.DB_LAST_NODE = (if p = .ringE ∨ p = .ringW then node % 4096 else 0) ∧
      RegsBut s t [intStat 0x16, key MGMT.DB_LAST_PORT, key MGMT.DB_LAST_NODE] ∧
      t = { s.heard p with regs := t.regs, msix := t.msix, sent := t.sent } := by
  have hn : bellNode p node < 4096 := by
    unfold bellNode
    split <;> omega
  obtain ⟨hevents, hport, hnode, hregs, hframe⟩ := ring_doorbell (s.heard p) p v (bellNode p node) hn
  refine ⟨((((s.heard p).wr MGMT.DB_LAST_PORT p.code).wr MGMT.DB_LAST_NODE (bellNode p node)).ring_ 0x16 0 v).emit (done p),
    congrArg Host.Outcome.next (access_permitted s p 0x16 0x4C v _ hperm), ?_, hport, hnode, regsBut_heard hregs (done p), ?_⟩
  · intro b hb
    rw [← heard_event s p]
    exact hevents b hb
  · obtain ⟨rs, m, l, e⟩ := hframe
    rw [e]
    rfl

end

end Sys2Proof.Proofs
end

section
/-! PROOFS. Frames the bridge and MGMT send onto the ring: what their admission reads, and the report of their queuing
(R108, R303, R324). -/

set_option Elab.async false

namespace Sys2Proof.Proofs

open Sys2Proof.Machine Sys2Proof.Safety Sys2Proof.Laws

/-! ### What admission to the ring reads -/

/-- The header fields of any page that a frame bound for the ring meets. -/
def routeHeads : List Fld := [HDR.BLK_CTRL_FENCE_REQ, HDR.FLT_STAT_CHECKERS]

/-- The block fields that a frame bound for the ring meets. -/
def routeFields : List Fld :=
  [TWIN.STAT_DRIVES, GCM.CFG_TX_REQ, GCM.A_CFG_EN, GCM.A_CFG_DIR, GCM.A_CFG_TC, GCM.A_MASK_MASK, GCM.A_BASE_BASE, BUFFER.VOQ_MIN_MIN,
   BUFFER.CLASS_USED_CELLS, BUFFER.CEIL_CELLS, BUFFER.POOL_STAT_SHARED_USED, BUFFER.BANK_STAT_FENCED, BUFFER.MIN_SUM_SUM]

/-- Only the bridge, the inbox and registers that no frame bound for the ring meets have changed. -/
def SameRoute (s t : State) : Prop :=
  (∃ rs b ib, t = { s with regs := rs, bridge := b, inbox := ib }) ∧ (∀ g ∈ routeHeads, ∀ n, t.rdn n g = s.rdn n g) ∧
    ∀ g ∈ routeFields, ∀ i, t.rd g i = s.rd g i

namespace SameRoute

variable {s t : State}

theorem refl (s : State) : SameRoute s s := ⟨⟨s.regs, s.bridge, s.inbox, rfl⟩, fun _ _ _ => rfl, fun _ _ _ => rfl⟩

theorem wr (h : SameRoute s t) (f : Fld) (v i : Nat) (hf : ∀ g ∈ routeHeads, g.off ≠ f.off := by decide)
    (hin : InPage f := by decide) (hp : ∀ g ∈ routeFields, place g 0 ≠ place f 0 := by decide) : SameRoute s (t.wr f v i) := by
  obtain ⟨⟨rs, b, ib, rfl⟩, hheads, hfields⟩ := h
  have hhead : ∀ g ∈ routeHeads, InPage g := by decide
  exact ⟨⟨_, _, _, rfl⟩,
    fun g hg n => (rdn_wrn_elsewhere _ v i 0 (place_ne_of_off 0 n hin (hhead g hg) (hf g hg))).trans (hheads g hg n),
    fun g hg j => (rd_wr_other _ v i j (hp g hg)).trans (hfields g hg j)⟩

theorem updBridge (h : SameRoute s t) (f : BridgeUnit → BridgeUnit) : SameRoute s (t.updBridge f) := by
  obtain ⟨⟨rs, b, ib, rfl⟩, hregs⟩ := h
  exact ⟨⟨_, _, _, rfl⟩, hregs⟩

theorem takeInbox (h : SameRoute s t) (p : Nat) (f : Frame) : SameRoute s (t.takeInbox p f) := by
  obtain ⟨⟨rs, b, ib, rfl⟩, hregs⟩ := h
  exact ⟨⟨_, _, _, rfl⟩, hregs⟩

theorem nodeId (h : SameRoute s t) : t.nodeId = s.nodeId := by
  obtain ⟨⟨rs, b, ib, rfl⟩, -⟩ := h
  rfl

theorem isTwin (h : SameRoute s t) : t.isTwin = s.isTwin := by
  obtain ⟨⟨rs, b, ib, rfl⟩, -⟩ := h
  rfl

theorem voq (h : SameRoute s t) (v : Nat) : t.voq v = s.voq v := by
  obtain ⟨⟨rs, b, ib, rfl⟩, -⟩ := h
  rfl

theorem fields (h : SameRoute s t) (g : Fld) (hg : g ∈ routeFields := by simp [routeFields]) :
    ∀ i, t.rdn 0 g i = s.rdn 0 g i := h.2.2 g hg

theorem ringOuts (h : SameRoute s t) : t.ringOuts = s.ringOuts := by
  rw [State.ringOuts, State.ringOuts, h.isTwin, rd_eq, rd_eq, h.fields TWIN.STAT_DRIVES]

theorem plain (h : SameRoute s t) {tc dest : Nat} (hp : Plain s tc dest) : Plain t tc dest := by
  obtain ⟨hentry, hreq⟩ := hp
  rw [rd_eq] at hreq
  refine ⟨?_, by rw [rd_eq, h.fields GCM.CFG_TX_REQ, hreq]⟩
  unfold State.txEntry at hentry ⊢
  simp only [flag_eq, rd_eq] at hentry
  simp only [flag_eq, rd_eq, h.fields GCM.A_CFG_EN, h.fields GCM.A_CFG_DIR, h.fields GCM.A_CFG_TC, h.fields GCM.A_MASK_MASK,
    h.fields GCM.A_BASE_BASE]
  exact hentry

theorem refusedEarly (h : SameRoute s t) (v : Nat) : t.refusedEarly v = s.refusedEarly v := by
  obtain ⟨⟨rs, b, ib, rfl⟩, hheads, -⟩ := h
  have hreq := hheads HDR.BLK_CTRL_FENCE_REQ (by simp [routeHeads])
  have hflt := hheads HDR.FLT_STAT_CHECKERS (by simp [routeHeads])
  simp only [State.refusedEarly, State.queueFenced, State.outFenced, State.unitFenced, State.fenced, State.fenceReq, hreq, hflt]
  rfl

theorem room (h : SameRoute s t) {inp c : Nat} (hr : Room s inp c) : Room t inp c := by
  intro p hp
  have hroom := hr p (h.ringOuts ▸ hp)
  have hpool : t.pool = s.pool := pool_congr (h.fields _ (by simp [routeFields]) 0) (h.fields _ (by simp [routeFields]) 0)
  unfold RoomAt at hroom ⊢
  simp only [rd_eq] at hroom ⊢
  rwa [h.refusedEarly, h.voq, hpool, h.fields BUFFER.VOQ_MIN_MIN, h.fields BUFFER.CLASS_USED_CELLS, h.fields BUFFER.CEIL_CELLS,
    h.fields BUFFER.POOL_STAT_SHARED_USED]

/-- What is queued after a change that no queue sees is queued from where it began. -/
theorem queued (h : SameRoute s t) {u : State} {inp c : Nat} {P : Frame → Prop} (hq : Queued t u inp c P) : Queued s u inp c P := by
  intro p hp
  obtain ⟨x, hx, haccepted, hP⟩ := hq p (h.ringOuts ▸ hp)
  exact ⟨x, by rw [hx, h.voq], haccepted, hP⟩

end SameRoute

theorem queued_of_voqs {s t u : State} {inp c : Nat} {P : Frame → Prop} (hq : Queued s t inp c P) (h : u.voqs = t.voqs) :
    Queued s u inp c P := by
  intro p hp
  obtain ⟨x, hx, hP⟩ := hq p hp
  exact ⟨x, by rw [← hx, State.voq, State.voq, h], hP⟩

/-! ### A frame with a tag -/

theorem takeCells_lost (n : Nat) (s : State) : (State.takeCells n s).2.buf.lost = s.buf.lost := by
  induction n generalizing s with
  | zero =>
    delta State.takeCells
    rfl
  | succ n ih =>
    rw [takeCells_succ]
    split
    · rfl
    · next b c _ => exact ih { s with buf := { s.buf with nextBank := (b + 1) % 16, offFree := insertNat s.buf.offFree c } }

theorem ownCells_lost (s : State) (cs : List Nat) (st owner gen refs : Nat) :
    (s.ownCells cs st owner gen refs).buf.lost = s.buf.lost := by
  unfold State.ownCells
  generalize cs.zip (cs.drop 1 ++ [0x7FFF]) = l
  induction l generalizing s with
  | nil => rfl
  | cons e l ih => exact ih (s.updCell e.1 (fun _ => { st := st, owner := owner, gen := gen % 16, refs := refs, next := e.2 }))

/-- Storing a frame notes no request as lost. -/
theorem storeCopies_lost (s : State) (adm : List (Nat × Nat × Nat)) (f : Frame) (accepted : Bool) (launch : Option Nat) (tag : Nat)
    (hnodup : (adm.map Prod.fst).Nodup) : (s.storeCopies adm f accepted launch tag).buf.lost = s.buf.lost := by
  cases adm with
  | nil => rfl
  | cons e0 rest =>
    obtain ⟨⟨vs, hframe⟩, -⟩ := foldl_enqueue_queues _ (e0 :: rest) _ (s.storeCopies (e0 :: rest) f accepted launch tag) hnodup rfl
    rw [hframe]
    obtain ⟨m, hm⟩ := fillCells_frame (s.takeCells (cellsOf f)).1 f.bytes
      ((s.takeCells (cellsOf f)).2.ownCells (s.takeCells (cellsOf f)).1 (if accepted then 2 else 3)
        (if accepted then e0.1 else e0.1 / 64) (if accepted then (s.voq e0.1).gen else (s.out (e0.1 / 64)).gen) (e0 :: rest).length)
    rw [hm]
    exact (ownCells_lost _ _ _ _ _ _).trans (takeCells_lost _ s)

/-- A frame with a tag is stored like one without, and its queuing is reported (R303). -/
theorem storeRing_reported (s : State) (inp : Nat) (f : Frame) (tag : Nat) (hc : f.tc < 8) (hlen : f.len ≤ 220)
    (hroom : Room s inp f.tc) (houts : s.ringOuts ≠ []) :
    ∃ q n u, s.storeRing inp (freshFrame f) tag .plain = (.queued q n, u.reqSent tag q n) ∧ SentOnRing s u inp f ∧
      u.buf.lost = s.buf.lost := by
  obtain ⟨hnodup, hfew⟩ := ringOuts_cases s
  have hcell := cellsOf_freshFrame f hlen
  have hadmitted := admitAll_ring inp f.tc hc s.ringOuts s hnodup (fun p hp => roomFor_of_roomAt (hroom p hp) hfew)
  generalize hadm : State.admitAll (s.ringOuts.map (voqIdx inp · f.tc)) 1 s = adm at hadmitted
  obtain ⟨hfst, ⟨vs, rs, hframe⟩, hregs, hq⟩ := hadmitted
  have htc : (freshFrame f).tc = f.tc := rfl
  have hsome : adm.1 ≠ [] := fun hnone => houts (by simpa [hnone] using hfst.symm)
  have hvoqs : (adm.1.map Prod.fst).Nodup :=
    hfst ▸ hnodup.map (fun p p' h => by_contra (fun hne => voqIdx_ne inp f.tc hne h))
  let s1 := adm.2.inc TRANSIT.SEQ_NEXT_NEXT f.tc
  let g : Frame := { freshFrame f with seq := adm.2.rd TRANSIT.SEQ_NEXT_NEXT f.tc }
  obtain ⟨⟨vs', b, m, hcopies⟩, hqueued⟩ := storeCopies_queues s1 adm.1 (s1.placed 0 g) true (s1.launchOf g) tag hvoqs
  refine ⟨adm.2.rd TRANSIT.SEQ_NEXT_NEXT f.tc, adm.1.length, s1.storeCopies adm.1 (s1.placed 0 g) true (s1.launchOf g) tag, ?_,
    ⟨⟨vs', s1.regs, b, m, ?_⟩, ?_, fun p hp => ?_⟩, ?_⟩
  · simp only [State.storeRing, htc, hcell, hadm, if_neg hsome]
    rfl
  · rw [hcopies]
    simp only [s1, hframe]
    rfl
  · rw [hcopies]
    exact regsBut_trans (regsBut_mono hregs (List.subset_cons_self _ _)) (regsBut_inc_seq adm.2 f.tc)
  · have hmem : voqIdx inp p f.tc ∈ adm.1.map Prod.fst := hfst ▸ List.mem_map_of_mem hp
    obtain ⟨e, he, hv⟩ := List.mem_map.mp hmem
    obtain ⟨x, hx, haccepted, hxf⟩ := hqueued e he
    exact ⟨x, by rw [← hv, hx]; exact congrArg (· ++ [x]) (hq e.1), haccepted, by rw [hxf]; rfl⟩
  · rw [storeCopies_lost s1 adm.1 _ true _ tag hvoqs]
    simp only [s1, hframe]
    rfl

/-- A plain frame for another node is sent with its tag, and its queuing is reported. -/
theorem send_reported (s : State) (inp : Nat) (f : Frame) (tag : Nat) (hc : f.tc < 8) (hlen : f.len ≤ 220)
    (hnode : nodeOf f.dest ≠ s.nodeId) (hplain : Plain s f.tc f.dest) (hroom : Room s inp f.tc) (houts : s.ringOuts ≠ []) :
    ∃ q n u, s.send inp f tag = (.queued q n, u.reqSent tag q n) ∧ SentOnRing s u inp f ∧ u.buf.lost = s.buf.lost := by
  obtain ⟨hentry, hreq⟩ := hplain
  have hplan : s.sealPlan (freshFrame f) = .plain := by
    unfold State.sealPlan
    rw [show s.txEntry (freshFrame f).tc (freshFrame f).dest = none from hentry]
    exact if_neg (by rw [show (freshFrame f).tc = f.tc from rfl, hreq]; exact Bool.false_ne_true)
  have horig : s.originate inp f tag = s.storeRing inp (freshFrame f) tag .plain := by
    unfold State.originate
    rw [if_neg (show ¬ nodeOf (freshFrame f).dest = s.nodeId from hnode), hplan]
  obtain ⟨q, n, u, hstore, hsent⟩ := storeRing_reported s inp f tag hc hlen hroom houts
  exact ⟨q, n, u, by rw [send_of_present s inp f tag (by rw [horig, hstore]; nofun), horig, hstore], hsent⟩

theorem ringOuts_single (s : State) (h : s.isTwin = false) : s.ringOuts ≠ [] := by
  unfold State.ringOuts
  rw [h]
  exact List.cons_ne_nil 0 [1]

/-! ### The report of a send ring's frame -/

theorem txDone_work (s : State) (n desc status : Nat) : RegWork [0x14] s (s.txDone n desc status) := by
  have htold : RegWork [0x14] s (if s.pcie.up && !s.pcie.d3hot then
      s.emit (.item "HOST_WRITE" ((desc + 12) :: leBytes 4 (2 ^ 31 + status))) else s) :=
    ((RegWork.refl _ s).emit _).ite (RegWork.refl _ s)
  have hhead := htold.wr BRIDGE.TXR_HEAD_INDEX (ringNext (s.rd BRIDGE.TXR_CFG_SIZE n) (s.rd BRIDGE.TXR_HEAD_INDEX n)) n
  exact hhead.ite (hhead.sat BRIDGE.TXR_REFUSED_COUNT n)

/-- The frames of send rings that wait for their key are `tw`. -/
def withWait (s : State) (tw : List TxWait) : State := { s with bridge := { s.bridge with txWait := tw } }

theorem txSettled_none (s : State) (tag status : Nat) (h : s.bridge.txWait = []) : s.txSettled tag status = s := by
  rw [State.txSettled, h]
  rfl

theorem txSettled_work (s : State) (tag status : Nat) : ∃ tw, RegWork [0x14] (withWait s tw) (s.txSettled tag status) := by
  unfold State.txSettled
  split
  · exact ⟨s.bridge.txWait, RegWork.refl _ s⟩
  · next w _ => exact ⟨s.bridge.txWait.filter (fun (x : TxWait) => x.tag ≠ tag), txDone_work _ w.ring w.desc status⟩

theorem reqSent_idle (s : State) (tag q n : Nat) (hreqs : s.bridge.reqs = []) (hwait : s.bridge.txWait = []) :
    s.reqSent tag q n = s := by
  have hsame : ∀ f : Req → Req, { s with bridge := { s.bridge with reqs := s.bridge.reqs.map f } } = s := fun f => by
    rw [hreqs, List.map_nil, ← hreqs]
  unfold State.reqSent
  split
  · rfl
  · exact (congrArg (fun t => State.txSettled t tag 0) (hsame _)).trans (txSettled_none s tag 0 hwait)

/-- What the bridge notes of a request that has been queued. -/
def notedSent (s : State) (tag q n : Nat) : State :=
  { s with bridge := { s.bridge with reqs := s.bridge.reqs.map (fun (r : Req) =>
      if r.tag + 1 = tag then { r with left := some s.mono, seq := q, copies := n } else r) } }

theorem reqSent_work (s : State) (tag q n : Nat) (htag : tag ≠ 0) :
    ∃ tw, RegWork [0x14] (withWait (notedSent s tag q n) tw) (s.reqSent tag q n) := by
  rw [State.reqSent, if_neg htag]
  exact txSettled_work (notedSent s tag q n) tag 0

/-! ### A bridge with nothing waiting -/

theorem settleLost_nothing (s : State) (h : s.buf.lost = []) : s.settleLost = s := by
  rw [State.settleLost, h, List.foldl_nil, ← h]

theorem pump_sends (s : State) (hlost : s.buf.lost = []) (hintake : s.bridge.intake = []) :
    s.pump = State.sendReady s.bridge.reqs.length s := by
  rw [State.pump, settleLost_nothing s hlost, hintake]
  rfl

theorem pump_idle (s : State) (h : BridgeIdle s) : s.pump = s := by
  obtain ⟨hreqs, -, -, hintake, hlost⟩ := h
  rw [pump_sends s hlost hintake, hreqs]
  rfl

end Sys2Proof.Proofs
end

section
/-! PROOFS. The send rings of the host (R322, R324). -/

set_option Elab.async false

namespace Sys2Proof.Proofs

open Sys2Proof.Machine Sys2Proof.Safety Sys2Proof.Laws

/-! ### A descriptor that is done -/

section
variable (s : State) (n desc status : Nat)

/-- The host is told of the descriptor's status. -/
def txTold : State :=
  if s.pcie.up && !s.pcie.d3hot then s.emit (.item "HOST_WRITE" ((desc + 12) :: leBytes 4 (2 ^ 31 + status))) else s

theorem txTold_rd (g : Fld) (i : Nat) : (txTold s desc status).rd g i = s.rd g i := by
  unfold txTold
  split
  · exact rd_emit s _ g i
  · rfl

theorem txDone_eq : s.txDone n desc status =
    let s2 := (txTold s desc status).wr BRIDGE.TXR_HEAD_INDEX
      (ringNext (s.rd BRIDGE.TXR_CFG_SIZE n) (s.rd BRIDGE.TXR_HEAD_INDEX n)) n
    if status = 0 then s2 else s2.sat BRIDGE.TXR_REFUSED_COUNT n := rfl

theorem txDone_head : (s.txDone n desc status).rd BRIDGE.TXR_HEAD_INDEX n =
    (s.rd BRIDGE.TXR_HEAD_INDEX n + 1) % 2 ^ s.rd BRIDGE.TXR_CFG_SIZE n % 2 ^ 12 := by
  rw [txDone_eq]
  dsimp only
  split
  · exact rd_wr_same _ _ _ n
  · exact (rdn_wrn_elsewhere (n := 0) (f := BRIDGE.TXR_REFUSED_COUNT) _ _ n n (by decide)).trans (rd_wr_same _ _ _ n)

theorem txDone_msix : (s.txDone n desc status).msix = s.msix := by
  have htold : (txTold s desc status).msix = s.msix := by
    unfold txTold
    split <;> rfl
  rw [txDone_eq]
  dsimp only
  split <;> exact htold

theorem txDone_refused (h : status ≠ 0) : Counted s (s.txDone n desc status) 0 BRIDGE.TXR_REFUSED_COUNT n := by
  rw [txDone_eq]
  dsimp only
  rw [if_neg h, Counted, State.sat, State.satn, rdn_wrn_same]
  have hcount : ∀ v, ((txTold s desc status).wr BRIDGE.TXR_HEAD_INDEX v n).rdn 0 BRIDGE.TXR_REFUSED_COUNT n =
      s.rdn 0 BRIDGE.TXR_REFUSED_COUNT n := fun v => (rd_wr_other _ v n n (by decide)).trans (txTold_rd s desc status _ n)
  rw [hcount]
  exact Nat.mod_eq_of_lt (lt_of_le_of_lt (min_le_right _ _) (by decide))

theorem txDone_sent (h : (s.pcie.up && !s.pcie.d3hot) = true) : (s.txDone n desc status).sent.length = s.sent.length + 1 := by
  have htold : (txTold s desc status).sent.length = s.sent.length + 1 := by
    rw [txTold, if_pos h, emit_sent]
    simp
  rw [txDone_eq]
  dsimp only
  split
  · exact htold
  · exact htold

end

theorem pcie_of_hostUp {s : State} (h : s.hostUp = true) : (s.pcie.up && !s.pcie.d3hot) = true := by
  unfold State.hostUp at h
  rw [Bool.and_eq_true, Bool.and_eq_true] at h
  exact h.1.1

/-! ### SEND_RING_SERVE (R324) -/

section
variable (s : State) (n : Nat) (image : List Byte) (f : Frame)

/-- The address of a send ring's head descriptor. -/
def txDesc : Nat :=
  s.rd BRIDGE.TXR_BASE_HI_ADDR n * 2 ^ 32 + s.rd BRIDGE.TXR_BASE_LO_ADDR n / 16 * 16 + 16 * s.rd BRIDGE.TXR_HEAD_INDEX n

/-- The turn passes to the next ring. -/
def turnPassed (t : State) : State := t.updBridge (fun b => { b with turn := (n + 1) % 8, txTag := b.txTag + 1 })

/-- The ring is the one to serve, the bridge having nothing else to do. -/
structure RingServed : Prop where
  up : s.hostUp = true
  turn : s.txTurn = some n
  todo : s.flt.todo = []
  idle : BridgeIdle s

/-- The image holds a frame that may be sent, of one cell, for another node, with room for it and no association. -/
structure GoodImage : Prop where
  frame : f = s.imageFrame image
  header : f.badHeader = false
  length : image.length = 32 + f.len
  oneCell : f.len ≤ 220
  cls : f.tc ≠ 1 ∧ f.tc ≠ 4 ∧ f.tc ≠ 7
  far : nodeOf f.dest ≠ s.nodeId
  plain : Plain s f.tc f.dest
  room : Room s 3 f.tc

theorem exec_sendRingServe (count st : Nat) (t : State) (hring : RingServed s n)
    (hframe : s.txFrame count image = (some st, t)) :
    exec (.sendRingServe n count image) s = .next (((turnPassed n t).txDone n (txDesc s n) st).pump.drain) := by
  have hserve : ¬ (!s.hostUp || s.txTurn ≠ some n) = true := by simp [hring.up, hring.turn]
  refine congrArg Host.Outcome.next ((if_neg hserve).trans ?_)
  dsimp only
  rw [hframe]
  rfl

theorem bridgeIdle_turnPassed {t : State} (hidle : BridgeIdle t) (st : Nat) (d : Nat) :
    BridgeIdle ((turnPassed n t).txDone n d st) := by
  obtain ⟨⟨rs, m, l, hwork⟩, -⟩ := txDone_work (turnPassed n t) n d st
  rw [hwork]
  exact hidle

/-- After a served descriptor an idle bridge has no more to do. -/
theorem served_settled {t : State} (hidle : BridgeIdle t) (htodo : t.flt.todo = []) (st d : Nat) :
    ((turnPassed n t).txDone n d st).pump.drain = (turnPassed n t).txDone n d st := by
  rw [pump_idle _ (bridgeIdle_turnPassed n hidle st d)]
  obtain ⟨⟨rs, m, l, hwork⟩, -⟩ := txDone_work (turnPassed n t) n d st
  rw [hwork]
  exact drain_settled _ htodo

theorem txFrame_bad (hbad : (s.imageFrame image).badHeader = true) : s.txFrame image.length image = (some 1, s) := by
  refine if_pos ?_
  rw [hbad]
  rfl

/-- A frame of a send ring with a good header is queued, and its descriptor done. -/
theorem txFrame_good (hgood : GoodImage s image f) (htwin : s.isTwin = false) (hreqs : s.bridge.reqs = [])
    (hwait : s.bridge.txWait = []) :
    ∃ u, s.txFrame image.length image = (some 0, u) ∧ SentOnRing s u 3 f ∧ u.buf.lost = s.buf.lost := by
  obtain ⟨hf, hbad, hlen, hshort, ⟨h1, h4, h7⟩, hnode, hplain, hroom⟩ := hgood
  have hc : f.tc < 8 := by
    rw [hf]
    exact Nat.mod_lt _ (by decide)
  obtain ⟨q, k, u, hsend, hsent, hlost⟩ :=
    send_reported s 3 f s.bridge.txTag hc hshort hnode hplain hroom (ringOuts_single s htwin)
  have hbridge : u.bridge = s.bridge := by
    obtain ⟨⟨vs, rs, b, m, rfl⟩, -⟩ := hsent
    rfl
  refine ⟨u, ?_, hsent, hlost⟩
  have hgood : ¬ (f.badHeader || image.length ≠ 32 + f.len || image.length ≠ image.length) = true := by simp [hbad, hlen]
  have hclass : ¬ (f.tc = 1 ∨ f.tc = 4 ∨ f.tc = 7) := by simp [h1, h4, h7]
  rw [reqSent_idle u _ _ _ (by rw [hbridge, hreqs]) (by rw [hbridge, hwait])] at hsend
  unfold State.txFrame
  rw [← hf]
  dsimp only
  rw [if_neg hgood, if_neg hclass, hsend]

theorem sendRing_queues (hring : RingServed s n) (hgood : GoodImage s image f) (htwin : s.isTwin = false)
    (hwait : s.bridge.txWait = []) :
    ∃ t, exec (.sendRingServe n image.length image) s = .next t ∧ t.bridge.turn = (n + 1) % 8 ∧
      t.rd BRIDGE.TXR_HEAD_INDEX n = (s.rd BRIDGE.TXR_HEAD_INDEX n + 1) % 2 ^ s.rd BRIDGE.TXR_CFG_SIZE n % 2 ^ 12 ∧
      Queued s t 3 f.tc (fun g => g.dest = f.dest ∧ g.src = s.nodeId * 8192 ∧ g.payload = image.drop 32) := by
  obtain ⟨u, hframe, hsent, hlost⟩ := txFrame_good s image f hgood htwin hring.idle.1 hwait
  obtain ⟨⟨vs, rs, b, m, hu⟩, hregs, hqueued⟩ := hsent
  have hidleU : BridgeIdle u := by
    obtain ⟨hreqs, hreads, hlines, hintake, hnolost⟩ := hring.idle
    refine ⟨?_, ?_, ?_, ?_, hlost.trans hnolost⟩ <;> rw [hu] <;> assumption
  have htodoU : u.flt.todo = [] := by
    rw [hu]
    exact hring.todo
  have hkept : ∀ g : Fld, place g 0 ≠ place BUFFER.POOL_STAT_SHARED_USED 0 → place g 0 ≠ place BUFFER.CLASS_USED_CELLS 0 →
      place g 0 ≠ place TRANSIT.SEQ_NEXT_NEXT 0 → u.rd g n = s.rd g n := fun g hp hcl hs =>
    rdn_of_regsBut hregs 0 g n (key_notMem_sendKeys hp hcl hs)
  refine ⟨_, (exec_sendRingServe s n image image.length 0 u hring hframe).trans
    (congrArg Host.Outcome.next (served_settled n hidleU htodoU 0 _)), ?_, ?_, ?_⟩
  · obtain ⟨⟨rs', m', l', hwork⟩, -⟩ := txDone_work (turnPassed n u) n (txDesc s n) 0
    rw [hwork]
    rfl
  · rw [txDone_head, ← hkept BRIDGE.TXR_HEAD_INDEX (by decide) (by decide) (by decide),
      ← hkept BRIDGE.TXR_CFG_SIZE (by decide) (by decide) (by decide)]
    rfl
  · obtain ⟨⟨rs', m', l', hwork⟩, -⟩ := txDone_work (turnPassed n u) n (txDesc s n) 0
    have hvoqs : ((turnPassed n u).txDone n (txDesc s n) 0).voqs = u.voqs := by
      rw [hwork]
      rfl
    refine queued_of_voqs (queued_mono hqueued fun x hx => ?_) hvoqs
    obtain ⟨-, hdest, hsrc, hpayload, -⟩ := putOnRing_fields hx
    exact ⟨hdest, hsrc.trans (by rw [hgood.frame]; rfl), hpayload.trans (by rw [hgood.frame]; rfl)⟩

theorem sendRing_refuses (hring : RingServed s n) (hbad : (s.imageFrame image).badHeader = true) :
    ∃ t, exec (.sendRingServe n image.length image) s = .next t ∧
      t.bridge = { s.bridge with turn := (n + 1) % 8, txTag := s.bridge.txTag + 1 } ∧
      Counted s t 0 BRIDGE.TXR_REFUSED_COUNT n ∧
      t.rd BRIDGE.TXR_HEAD_INDEX n = (s.rd BRIDGE.TXR_HEAD_INDEX n + 1) % 2 ^ s.rd BRIDGE.TXR_CFG_SIZE n % 2 ^ 12 ∧
      t.sent.length = s.sent.length + 1 ∧ t = { s with regs := t.regs, bridge := t.bridge, sent := t.sent } := by
  refine ⟨_, (exec_sendRingServe s n image image.length 1 s hring (txFrame_bad s image hbad)).trans
    (congrArg Host.Outcome.next (served_settled n hring.idle hring.todo 1 _)), ?_, txDone_refused (turnPassed n s) n _ 1 (by decide),
    txDone_head (turnPassed n s) n _ 1, txDone_sent (turnPassed n s) n _ 1 (pcie_of_hostUp hring.up), ?_⟩
  · obtain ⟨⟨rs, m, l, hwork⟩, -⟩ := txDone_work (turnPassed n s) n (txDesc s n) 1
    rw [hwork]
    rfl
  · obtain ⟨⟨rs, m, l, hwork⟩, -⟩ := txDone_work (turnPassed n s) n (txDesc s n) 1
    have hm : m = s.msix := by
      have hkept := txDone_msix (turnPassed n s) n (txDesc s n) 1
      rw [hwork] at hkept
      exact hkept
    rw [hwork, hm]
    rfl

end

end Sys2Proof.Proofs
end

section
/-! PROOFS. Polls (R301, R305, R319). -/

set_option Elab.async false

namespace Sys2Proof.Proofs

open Sys2Proof.Machine Sys2Proof.Safety Sys2Proof.Laws

/-! ### The bytes of an access (R301) -/

theorem ofBe_pair (x y : Nat) : ofBe [x, y] = x % 256 * 256 + y % 256 := by simp [ofBe]

theorem ofBe_quad (x y z w : Nat) :
    ofBe [x, y, z, w] = ((x % 256 * 256 + y % 256) * 256 + z % 256) * 256 + w % 256 := by simp [ofBe]

theorem bnat_natb_mod (l : List Nat) : bnat (natb l) = l.map (· % 256) := by
  simp [bnat, natb, Function.comp_def]

/-- An access reads back from its bytes. -/
theorem parseAccess_accessBytes (f : Frame) (op flags tag off count : Nat) (data : List Byte) (hop : op < 256)
    (hpay : f.payload = accessBytes op flags tag off count data) :
    parseAccess f = some ⟨op, flags % 256, tag % 65536, off % 2 ^ 24, count % 2 ^ 32, data⟩ := by
  have hbytes : bnat f.payload = [op % 256, flags % 256, tag / 256 % 256 % 256, tag % 256 % 256, off % 2 ^ 24 / 16777216 % 256 % 256,
      off % 2 ^ 24 / 65536 % 256 % 256, off % 2 ^ 24 / 256 % 256 % 256, off % 2 ^ 24 % 256 % 256, count / 16777216 % 256 % 256,
      count / 65536 % 256 % 256, count / 256 % 256 % 256, count % 256 % 256] ++ bnat data := by
    rw [hpay, accessBytes, bnat, List.map_append]
    exact congrArg (· ++ bnat data) ((bnat_natb_mod _).trans (by simp [beBytes]))
  have hdata : f.payload.drop 12 = data := by
    rw [hpay, accessBytes]
    rfl
  unfold parseAccess
  rw [hbytes, hdata]
  simp only [List.cons_append, List.nil_append, List.length_cons, List.getD_cons_zero, List.getD_cons_succ, List.drop_succ_cons,
    List.drop_zero, List.take_succ_cons, List.take_zero, ofBe_pair, ofBe_quad]
  rw [if_neg (by omega)]
  congr 2 <;> omega

/-! ### The poll that is sent (R305, R319) -/

section
variable (s : State) (i t : Nat)

/-- The address an entry polls. -/
def pollAddr : Nat := s.rd POLL.PE_ADDR_HI_ADDR i * 2 ^ 32 + s.rd POLL.PE_ADDR_LO_ADDR i * 4

/-- The request of a poll. -/
def pollReq : Req := { kind := 2, tag := t, win := i, count := 4, at_ := s.mono, addr := pollAddr s i }

/-- The poll with its request in the table, not yet sent. -/
def pollStarted : State :=
  (((s.updPoll i (fun e => { e with tag := some t })).wr POLL.PE_STAT_IN_FLIGHT 1 i).updBridge (fun b => { b with
    pollTag := (t + 1) % 32768
    reqs := b.reqs ++ [pollReq s i t] }))

theorem pollSend_eq : s.pollSend i = (pollStarted s i s.nextPollTag).pump := rfl

theorem nextPollTag_bit15 : 32768 ≤ s.nextPollTag := by
  unfold State.nextPollTag
  cases h : ((List.range 2048).map (fun k => 32768 + (s.bridge.pollTag + k) % 32768)).find? (fun t =>
      s.bridge.reqs.all (fun r => r.tag ≠ t)) with
  | none => exact Nat.le_refl _
  | some t =>
    obtain ⟨k, -, hk⟩ := List.mem_map.mp (List.mem_of_find?_eq_some h)
    rw [Option.getD_some, ← hk]
    exact Nat.le_add_right _ _

theorem poll_updPoll (f : PollEnt → PollEnt) : (s.updPoll i f).poll i = f (s.poll i) := get_upd_same _ s.bridge.polls i f

theorem pollStarted_shows : (pollStarted s i t).rd POLL.PE_STAT_IN_FLIGHT i = 1 ∧ ((pollStarted s i t).poll i).tag = some t ∧
    (pollStarted s i t).bridge.reqs = s.bridge.reqs ++ [pollReq s i t] ∧ SameRoute s (pollStarted s i t) := by
  refine ⟨?_, ?_, rfl, (((SameRoute.refl s).updBridge _).wr POLL.PE_STAT_IN_FLIGHT 1 i).updBridge _⟩
  · rw [pollStarted, rd_updBridge, rd_wr_same]
    rfl
  · exact congrArg PollEnt.tag (poll_updPoll s i (fun e => { e with tag := some t }))

/-- A bridge with one request that may leave sends it. -/
theorem sendReady_one (r : Req) (hreqs : s.bridge.reqs = [r]) (hgone : r.gone = false) (horder : r.order = false) :
    State.sendReady 1 s = (s.sendReq r).settleLost := by
  have hnext : nextToSend [] s.bridge.reqs = some r := by
    rw [hreqs]
    simp [nextToSend, heldBehind, hgone, horder]
  rw [State.sendReady, hnext]
  rfl

/-- The request has been marked as gone. -/
def markedGone (r : Req) : State :=
  s.updBridge (fun b => { b with reqs := b.reqs.map (fun q => if q.tag = r.tag then { q with gone := true } else q) })

/-- A poll's request leaves as a plain frame, and its queuing is reported. -/
theorem sendReq_poll (r : Req) (hkind : r.kind = 2) (hnode : nodeOf (addrEp r.addr) ≠ s.nodeId) (hplain : Plain s 4 (addrEp r.addr))
    (hroom : Room s 3 4) (htwin : s.isTwin = false) :
    ∃ q n u, s.sendReq r = u.reqSent (r.tag + 1) q n ∧ SentOnRing (markedGone s r) u 3 (s.reqFrame r) ∧
      u.buf.lost = s.buf.lost := by
  have hsame : SameRoute s (markedGone s r) := (SameRoute.refl s).updBridge _
  have hlen : (s.reqFrame r).len ≤ 220 := by
    simp [State.reqFrame, hkind, accessBytes, natb, beBytes]
  obtain ⟨q, n, u, hsend, hsent, hlost⟩ := send_reported (markedGone s r) 3 (s.reqFrame r) (r.tag + 1) (show 4 < 8 by decide) hlen
    hnode (hsame.plain hplain) (hsame.room hroom) (ringOuts_single _ (hsame.isTwin.trans htwin))
  refine ⟨q, n, u, ?_, hsent, hlost⟩
  have hreq : s.sendReq r = match ((markedGone s r).send 3 (s.reqFrame r) (r.tag + 1)).1 with
      | .absent => ((markedGone s r).send 3 (s.reqFrame r) (r.tag + 1)).2.reqSent (r.tag + 1) 0 1
      | _ => ((markedGone s r).send 3 (s.reqFrame r) (r.tag + 1)).2 := by
    unfold State.sendReq
    rw [if_neg (by rw [hkind]; decide)]
    rfl
  rw [hreq, hsend]

end

/-- The report of the only request's queuing keeps it outstanding, and the polls, the queues and the reports. -/
theorem reqSent_one (u : State) (r : Req) (q n : Nat) (hreqs : u.bridge.reqs = [r]) :
    let t := u.reqSent (r.tag + 1) q n
    t.bridge.reqs = [{ r with left := some u.mono, seq := q, copies := n }] ∧ t.bridge.polls = u.bridge.polls ∧ t.voqs = u.voqs ∧
      t.buf = u.buf ∧ t.flt = u.flt ∧ t.rd POLL.PE_STAT_IN_FLIGHT r.win = u.rd POLL.PE_STAT_IN_FLIGHT r.win := by
  obtain ⟨tw, ⟨rs, m, l, hwork⟩, hpages⟩ := reqSent_work u (r.tag + 1) q n (Nat.succ_ne_zero _)
  dsimp only
  refine ⟨?_, ?_, ?_, ?_, ?_, rdn_of_pagesBut_of hpages 0 POLL.PE_STAT_IN_FLIGHT r.win⟩
  · rw [hwork, withWait, notedSent, hreqs]
    simp
  all_goals
    rw [hwork]
    rfl

/-- The frame of a poll asks its address for four bytes. -/
theorem reqFrame_asks (s : State) (r : Req) (hkind : r.kind = 2) (hcount : r.count = 4) (x : Frame) (hx : PutOnRing (s.reqFrame r) x) :
    x.dest = addrEp r.addr ∧ Asks x (fun a => a.op = 2 ∧ a.count = 4 ∧ a.offset = r.addr % 2 ^ 24) := by
  obtain ⟨-, hdest, -, hpayload, -⟩ := putOnRing_fields hx
  have hbytes : (s.reqFrame r).payload = accessBytes 2 (bit r.pf) r.tag (r.addr % 2 ^ 24) 4 [] := by
    simp [State.reqFrame, hkind, hcount]
  exact ⟨hdest, _, parseAccess_accessBytes x 2 _ _ _ _ _ (by decide) (hpayload.trans hbytes), rfl, rfl, Nat.mod_mod _ _⟩

/-! ### POLL_DUE (R319) -/

section
variable (s : State) (i : Nat)

/-- The next poll of the entry falls due at the next multiple of its PERIOD. -/
def slotTaken : State := s.updPoll i (fun e => { e with slot := s.fabNs / s.pollPeriod i })

theorem slotTaken_slot : ((slotTaken s i).poll i).slot = s.fabNs / s.pollPeriod i := congrArg PollEnt.slot (poll_updPoll s i _)

theorem slotTaken_route : SameRoute s (slotTaken s i) :=
  (SameRoute.refl s).updBridge (fun b => { b with polls := Tbl.upd {} b.polls i (fun e => { e with slot := s.fabNs / s.pollPeriod i }) })

/-- The entry is the first that is due, and POLL works. -/
structure FirstDue : Prop where
  on : s.pageOn 0x15 = true
  unfenced : s.fenced 0x15 = false
  lt : i < 1024
  due : s.pollIsDue i = true
  first : ∀ j, j < i → s.pollIsDue j = false

theorem exec_pollDue (hdue : FirstDue s i) :
    exec (.pollDue i) s = .next (if (s.poll i).tag.isSome then (slotTaken s i).sat POLL.POLL_SKIP_COUNT
      else ((slotTaken s i).pollSend i).drain) := by
  have hany : (List.range i).any s.pollIsDue = false :=
    List.any_eq_false.mpr (fun j hj => by rw [hdue.first j (List.mem_range.mp hj)]; decide)
  refine congrArg Host.Outcome.next (if_neg ?_)
  rw [hdue.on, hdue.unfenced, hdue.due, hany, decide_eq_true hdue.lt]
  decide

/-- A due poll whose last one is unanswered is skipped and counted. -/
theorem pollDue_skips (hdue : FirstDue s i) (hflight : (s.poll i).tag.isSome = true) :
    ∃ t, exec (.pollDue i) s = .next t ∧ Counted s t 0 POLL.POLL_SKIP_COUNT ∧ t.pollIsDue i = false ∧
      RegsBut s t [key POLL.POLL_SKIP_COUNT] ∧ t = { s with regs := t.regs, bridge := t.bridge } := by
  have hregs : RegsBut (slotTaken s i) ((slotTaken s i).sat POLL.POLL_SKIP_COUNT) [key POLL.POLL_SKIP_COUNT] :=
    regsBut_wrn (slotTaken s i) 0 POLL.POLL_SKIP_COUNT _ 0 (by simp [key])
  refine ⟨_, (exec_pollDue s i hdue).trans (congrArg Host.Outcome.next (if_pos hflight)),
    counted_satn (slotTaken s i) 0 POLL.POLL_SKIP_COUNT, ?_, hregs, rfl⟩
  have hperiod : ((slotTaken s i).sat POLL.POLL_SKIP_COUNT).pollPeriod i = s.pollPeriod i := by
    rw [State.pollPeriod, State.pollPeriod]
    exact congrArg (· * 10000) (rdn_wrn_elsewhere (slotTaken s i) (n := 0) (f := POLL.POLL_SKIP_COUNT) _ 0 i (by decide))
  have hslot : (((slotTaken s i).sat POLL.POLL_SKIP_COUNT).poll i).slot = s.fabNs / s.pollPeriod i := slotTaken_slot s i
  have hnow : ((slotTaken s i).sat POLL.POLL_SKIP_COUNT).fabNs = s.fabNs := rfl
  rw [State.pollIsDue, hslot, hperiod, hnow, decide_eq_false (Nat.lt_irrefl _), Bool.and_false]

/-- The first poll of an idle bridge leaves as a READ of its address. -/
theorem pollSend_sends (hfree : BridgeIdle s) (htodo : s.flt.todo = []) (htwin : s.isTwin = false)
    (hnode : nodeOf (addrEp (pollAddr s i)) ≠ s.nodeId) (hplain : Plain s 4 (addrEp (pollAddr s i))) (hroom : Room s 3 4) :
    ∃ r, ((s.pollSend i).drain).bridge.reqs = [r] ∧ r.kind = 2 ∧ r.win = i ∧ r.addr = pollAddr s i ∧ 32768 ≤ r.tag ∧
      (((s.pollSend i).drain).poll i).tag = some r.tag ∧ ((s.pollSend i).drain).rd POLL.PE_STAT_IN_FLIGHT i = 1 ∧
      Queued s ((s.pollSend i).drain) 3 4 (fun f => f.dest = addrEp (pollAddr s i) ∧
        Asks f (fun x => x.op = 2 ∧ x.count = 4 ∧ x.offset = pollAddr s i % 2 ^ 24)) := by
  rw [pollSend_eq]
  have htag := nextPollTag_bit15 s
  generalize s.nextPollTag = tag at htag ⊢
  obtain ⟨hreqs0, -, -, hintake, hlost⟩ := hfree
  obtain ⟨hflight, hentry, hreqs, hroute⟩ := pollStarted_shows s i tag
  rw [hreqs0, List.nil_append] at hreqs
  have hstart : (pollStarted s i tag).buf.lost = [] ∧ (pollStarted s i tag).bridge.intake = [] ∧ (pollStarted s i tag).flt.todo = [] :=
    ⟨hlost, hintake, htodo⟩
  have hone : State.sendReady (pollStarted s i tag).bridge.reqs.length (pollStarted s i tag) =
      ((pollStarted s i tag).sendReq (pollReq s i tag)).settleLost := by
    rw [hreqs]
    exact sendReady_one _ (pollReq s i tag) hreqs rfl rfl
  rw [pump_sends _ hstart.1 hstart.2.1, hone]
  generalize pollStarted s i tag = s3 at hflight hentry hreqs hroute hstart ⊢
  obtain ⟨q, n, u, hsend, hsent, hlostU⟩ := sendReq_poll s3 (pollReq s i tag) rfl (by rw [hroute.nodeId]; exact hnode)
    (hroute.plain hplain) (hroute.room hroom) (hroute.isTwin.trans htwin)
  rw [hsend]
  obtain ⟨⟨vs, rs, b, m, hu⟩, hregs, hqueued⟩ := hsent
  have hreqsU : u.bridge.reqs = [{ pollReq s i tag with gone := true }] := by
    rw [hu, markedGone, State.updBridge, hreqs]
    simp
  obtain ⟨hreqsT, hpolls, hvoqs, hbuf, hflt, hflightT⟩ := reqSent_one u { pollReq s i tag with gone := true } q n hreqsU
  have hsettled : (u.reqSent ((pollReq s i tag).tag + 1) q n).settleLost.drain = u.reqSent ((pollReq s i tag).tag + 1) q n := by
    rw [settleLost_nothing _ (by rw [hbuf]; exact hlostU.trans hstart.1)]
    refine drain_settled _ ?_
    rw [hflt, hu]
    exact hstart.2.2
  rw [hsettled]
  refine ⟨_, hreqsT, rfl, rfl, rfl, htag, ?_, hflightT.trans ?_, ?_⟩
  · rw [State.poll, hpolls, hu]
    exact hentry
  · exact (rdn_of_regsBut hregs 0 POLL.PE_STAT_IN_FLIGHT i (key_notMem_sendKeys (by decide) (by decide) (by decide))).trans hflight
  · have hmarked : SameRoute s (markedGone s3 (pollReq s i tag)) := hroute.updBridge _
    refine hmarked.queued (queued_of_voqs (queued_mono hqueued fun x hx => ?_) hvoqs)
    exact reqFrame_asks s3 (pollReq s i tag) rfl rfl x hx

/-- A due poll of an idle bridge becomes an outstanding READ of its address. -/
theorem pollDue_sends (a : Nat) (hdue : FirstDue s i) (hnone : (s.poll i).tag = none)
    (htodo : s.flt.todo = []) (hfree : BridgeIdle s) (htwin : s.isTwin = false)
    (ha : a = s.rd POLL.PE_ADDR_HI_ADDR i * 2 ^ 32 + s.rd POLL.PE_ADDR_LO_ADDR i * 4) (hnode : nodeOf (addrEp a) ≠ s.nodeId)
    (hplain : Plain s 4 (addrEp a)) (hroom : Room s 3 4) :
    ∃ t r, exec (.pollDue i) s = .next t ∧ t.bridge.reqs = [r] ∧ r.kind = 2 ∧ r.win = i ∧ r.addr = a ∧ 32768 ≤ r.tag ∧
      (t.poll i).tag = some r.tag ∧ t.rd POLL.PE_STAT_IN_FLIGHT i = 1 ∧
      Queued s t 3 4 (fun f => f.dest = addrEp a ∧ Asks f (fun x => x.op = 2 ∧ x.count = 4 ∧ x.offset = a % 2 ^ 24)) := by
  subst ha
  have hroute := slotTaken_route s i
  obtain ⟨r, hreqs, hkind, hwin, haddr, htag, hentry, hflight, hqueued⟩ := pollSend_sends (slotTaken s i) i hfree htodo htwin
    (by rw [hroute.nodeId]; exact hnode) (hroute.plain hplain) (hroute.room hroom)
  have hexec := exec_pollDue s i hdue
  rw [hnone] at hexec
  exact ⟨_, r, hexec, hreqs, hkind, hwin, haddr, htag, hentry, hflight, hroute.queued hqueued⟩

end

end Sys2Proof.Proofs
end

section
/-! PROOFS. Remote writes to endpoint 0 (R41, R301-R303, R331). -/

set_option Elab.async false

namespace Sys2Proof.Proofs

open Sys2Proof.Machine Sys2Proof.Safety Sys2Proof.Laws

/-! ### A request that MGMT performs -/

theorem ofLe_lt (bs : List Nat) : ofLe bs < 256 ^ bs.length := by
  induction bs with
  | nil => decide
  | cons b bs ih =>
    rw [ofLe, List.length_cons, Nat.pow_succ]
    omega

theorem sentOnRing_settled {s t : State} {inp : Nat} {f : Frame} (h : SentOnRing s t inp f) (hset : Settled s) : Settled t := by
  obtain ⟨⟨_, _, _, _, rfl⟩, -⟩ := h
  exact hset

theorem sentOnRing_rd {s t : State} {inp : Nat} {f : Frame} (h : SentOnRing s t inp f) (g : Fld) (i : Nat)
    (hpool : place g 0 ≠ place BUFFER.POOL_STAT_SHARED_USED 0 := by decide)
    (hclass : place g 0 ≠ place BUFFER.CLASS_USED_CELLS 0 := by decide)
    (hseq : place g 0 ≠ place TRANSIT.SEQ_NEXT_NEXT 0 := by decide) : t.rd g i = s.rd g i :=
  rdn_of_regsBut h.2.1 0 g i (key_notMem_sendKeys hpool hclass hseq)

namespace SameRoute

theorem settled {s t : State} (h : SameRoute s t) (hset : Settled s) : Settled t := by
  obtain ⟨⟨_, _, _, rfl⟩, -⟩ := h
  exact hset

theorem misuse {s t : State} (h : SameRoute s t) (p : Port) (wr : Bool) (a c : Nat) : SameRoute s (t.misuse p wr a c) :=
  (((((h.wr DEVICE.DENY_CNT_COUNT _ p.code).wr DEVICE.DENY_LAST_VALID 1 0).wr DEVICE.DENY_LAST_CAUSE c 0).wr
    DEVICE.DENY_LAST_WRITE (bit wr) 0).wr DEVICE.DENY_LAST_PORT p.code 0).wr DEVICE.DENY_LAST_WORD (a / 4) 0

end SameRoute

section
variable (s : State) (f : Frame) (a : Access)

/-- A write of one word by another node has reached MGMT of a settled hub, which has room for the answer. -/
structure RemoteWrite : Prop where
  on : s.pageOn 0x16 = true
  tc : f.tc = 4
  ep0 : localOf f.dest = 0
  request : f.resp = false ∧ f.refuse = false
  single : s.isTwin = false
  settled : Settled s
  parsed : parseAccess f = some a
  good : a.good f = true
  write : a.op = 1 ∧ a.data.length = 4
  far : nodeOf f.src ≠ s.nodeId
  plain : Plain s 4 f.src
  room : Room s 7 4

theorem exec_mgmtRequest (h : RemoteWrite s f a) :
    exec (.mgmtRequest f) s = .next (((s.takeInbox 7 f).mgmtPerform f a).modeDone) := by
  have htaken : ¬ (!s.pageOn 0x16 || f.tc ≠ 4 || localOf f.dest ≠ 0 || f.resp || f.refuse) = true := by
    simp [h.on, h.tc, h.ep0, h.request]
  have hanswers : ¬ (!(s.takeInbox 7 f).answersEp0) = true := by
    rw [State.answersEp0, show (s.takeInbox 7 f).isTwin = s.isTwin from rfl, h.single]
    exact Bool.false_ne_true
  refine congrArg Host.Outcome.next ((if_neg htaken).trans ((if_neg hanswers).trans ?_))
  rw [h.parsed]
  dsimp only
  rw [if_pos h.good]

/-- A write that R41 permits. -/
theorem mgmtPerform_permitted (s1 : State) (hop : a.op = 1) (hlen : a.data.length = 4) (hfar : nodeOf f.src ≠ s1.nodeId)
    (hjudge : s1.judge (s1.arrivalPort f) true a.offset (ofLe (bnat a.data)) true = none) :
    s1.mgmtPerform f a =
      ((s1.writeWord (s1.arrivalPort f) (nodeOf f.src) a.offset (ofLe (bnat a.data))).inc MGMT.REMOTE_WR_COUNT).answer 7 f a 0x81 0 [] := by
  have hport : s1.arrivalPort f ≠ .host := by
    rw [State.arrivalPort, if_neg hfar]
    split <;> decide
  simp [State.mgmtPerform, hop, hlen, hjudge, hport]

/-- A write that R41 does not permit. -/
theorem mgmtPerform_misuse (s1 : State) (c : Nat) (hop : a.op = 1) (hlen : a.data.length = 4)
    (hjudge : s1.judge (s1.arrivalPort f) true a.offset (ofLe (bnat a.data)) true = some c) (hc : c ≠ 5) :
    s1.mgmtPerform f a = (s1.misuse (s1.arrivalPort f) true a.offset c).refuse 7 f (refusalCode c) := by
  simp [State.mgmtPerform, hop, hlen, hjudge]

/-- The remote write has its effect and is counted. -/
def remoteWritten (s1 : State) (v : Nat) : State := (s1.wr DEVICE.INTN_EN_LO_ENABLE v).inc MGMT.REMOTE_WR_COUNT

theorem writeWord_remote (s1 : State) (p : Port) (node v : Nat) (hv : v < 2 ^ 32) :
    s1.writeWord p node 0x128 v = s1.wr DEVICE.INTN_EN_LO_ENABLE v := by
  have hbits : bits v 0 32 = v := by simpa [bits] using hv
  have hnode : s1.writeWord p node 0x128 v = s1.writeWord p 0 0x128 v := rfl
  rw [hnode, writeWord_intnEnLo, hbits]

theorem remoteWritten_shows (s1 : State) (v : Nat) (hv : v < 2 ^ 32) :
    (remoteWritten s1 v).rd DEVICE.INTN_EN_LO_ENABLE = v ∧
      (remoteWritten s1 v).rd MGMT.REMOTE_WR_COUNT = (s1.rd MGMT.REMOTE_WR_COUNT + 1) % 2 ^ 32 ∧
      SameRoute s1 (remoteWritten s1 v) := by
  refine ⟨?_, ?_, ((SameRoute.refl s1).wr DEVICE.INTN_EN_LO_ENABLE v 0).wr MGMT.REMOTE_WR_COUNT _ 0⟩
  · exact (rdn_wrn_elsewhere (n := 0) (f := MGMT.REMOTE_WR_COUNT) _ _ 0 0 (by decide)).trans
      ((rdn_wrn_same s1 0 _ v 0).trans (Nat.mod_eq_of_lt hv))
  · refine (rdn_wrn_same _ 0 MGMT.REMOTE_WR_COUNT _ 0).trans ?_
    have hkept : (s1.wr DEVICE.INTN_EN_LO_ENABLE v).rdn 0 MGMT.REMOTE_WR_COUNT = s1.rd MGMT.REMOTE_WR_COUNT :=
      rd_wr_other s1 v 0 0 (by decide)
    rw [hkept]
    rfl

theorem parseAccess_tag (h : parseAccess f = some a) : a.tag < 65536 := by
  unfold parseAccess at h
  dsimp only at h
  split at h
  · cases h
  · obtain rfl := Option.some.inj h
    have hpair : ∀ l : List Nat, ofBe (l.take 2) < 65536 := by
      rintro (_ | ⟨x, _ | ⟨y, l⟩⟩)
      · decide
      · simp [ofBe]
        omega
      · simp only [List.take_succ_cons, List.take_zero, ofBe_pair]
        omega
    exact hpair _

/-- The answer to a remote write as the ring carries it. -/
theorem answerTo_asks (htag : a.tag < 65536) (x : Frame) (hx : PutOnRing (answerTo f a 0x81 0 []) x) :
    x.dest = f.src ∧ x.resp = true ∧ Asks x (fun y => y.op = 0x81 ∧ y.tag = a.tag) := by
  obtain ⟨-, hdest, -, hpayload, -⟩ := putOnRing_fields hx
  refine ⟨hdest, ?_, _, parseAccess_accessBytes x 0x81 0 a.tag a.offset 0 [] (by decide) hpayload, rfl, Nat.mod_eq_of_lt htag⟩
  unfold PutOnRing at hx
  rw [hx]
  rfl

/-- A permitted remote write has its effect, is counted and answered. -/
theorem mgmtRequest_writes (h : RemoteWrite s f a) (hoff : a.offset = 0x128)
    (hjudge : s.judge (s.arrivalPort f) true 0x128 (ofLe (bnat a.data)) true = none) :
    ∃ t, exec (.mgmtRequest f) s = .next t ∧ t.rd DEVICE.INTN_EN_LO_ENABLE = ofLe (bnat a.data) ∧
      t.rd MGMT.REMOTE_WR_COUNT = (s.rd MGMT.REMOTE_WR_COUNT + 1) % 2 ^ 32 ∧
      Queued s t 7 4 (fun g => g.dest = f.src ∧ g.resp = true ∧ Asks g (fun x => x.op = 0x81 ∧ x.tag = a.tag)) := by
  have hv : ofLe (bnat a.data) < 2 ^ 32 := by
    have hbound := ofLe_lt (bnat a.data)
    rwa [bnat, List.length_map, h.write.2] at hbound
  have hperform := mgmtPerform_permitted f a (s.takeInbox 7 f) h.write.1 h.write.2 h.far (by rw [hoff]; exact hjudge)
  rw [hoff, writeWord_remote _ _ _ _ hv] at hperform
  obtain ⟨hen, hcount, hroute1⟩ := remoteWritten_shows (s.takeInbox 7 f) (ofLe (bnat a.data)) hv
  have hroute : SameRoute s (remoteWritten (s.takeInbox 7 f) (ofLe (bnat a.data))) :=
    (((SameRoute.refl s).takeInbox 7 f).wr DEVICE.INTN_EN_LO_ENABLE _ 0).wr MGMT.REMOTE_WR_COUNT _ 0
  have hsent : SentOnRing (remoteWritten (s.takeInbox 7 f) (ofLe (bnat a.data))) ((s.takeInbox 7 f).mgmtPerform f a) 7
      (answerTo f a 0x81 0 []) := by
    rw [hperform]
    exact send_ring _ 7 (answerTo f a 0x81 0 []) (show 4 < 8 by decide) (show 12 + 0 ≤ 220 by decide)
      (by rw [hroute.nodeId]; exact h.far) (hroute.plain h.plain) (hroute.room h.room)
  have hexec := exec_mgmtRequest s f a h
  rw [modeDone_settled _ (sentOnRing_settled hsent (hroute.settled h.settled))] at hexec
  exact ⟨_, hexec, (sentOnRing_rd hsent _ 0).trans hen, (sentOnRing_rd hsent _ 0).trans hcount,
    hroute.queued (queued_mono hsent.2.2 fun x hx => answerTo_asks f a (parseAccess_tag f a h.parsed) x hx)⟩

theorem refusalCode_small (c : Nat) : refusalCode c < 256 := by
  unfold refusalCode
  split_ifs <;> decide

/-- The refusal of a frame as the ring carries it. -/
theorem refusalOf_code (code : Nat) (hcode : code < 256) (x : Frame) (hx : PutOnRing (refusalOf f code) x) :
    x.dest = f.src ∧ x.refuse = true ∧ (bnat x.payload).headD 0 = code := by
  obtain ⟨-, hdest, -, hpayload, href⟩ := putOnRing_fields hx
  refine ⟨hdest, href, ?_⟩
  rw [hpayload]
  exact (BitVec.toNat_ofNat code 8).trans (Nat.mod_eq_of_lt hcode)

/-- A refusal of whatever code is sent from a state in which only the count of absent endpoints may differ. -/
theorem refuse_sent (s2 : State) (code : Nat) (hresp : f.resp = false) (hrefuse : f.refuse = false) (hfar : nodeOf f.src ≠ s2.nodeId)
    (hplain : Plain s2 4 f.src) (hroom : Room s2 7 4) :
    ∃ s3, SentOnRing s3 (s2.refuse 7 f code) 7 (refusalOf f code) ∧ SameRoute s2 s3 ∧ RegsBut s2 s3 [key MGMT.ABSENT_CNT_COUNT] := by
  by_cases hcode : code = 2
  · subst hcode
    exact ⟨s2.sat MGMT.ABSENT_CNT_COUNT, refuse_absent_ring s2 7 f hresp hrefuse hfar hplain hroom,
      (SameRoute.refl s2).wr MGMT.ABSENT_CNT_COUNT _ 0, regsBut_wrn s2 0 MGMT.ABSENT_CNT_COUNT _ 0 (by simp [key])⟩
  · exact ⟨s2, refuse_ring s2 7 f code hcode hresp hrefuse hfar hplain hroom, SameRoute.refl s2, regsBut_refl s2 _⟩

/-- A remote write that R41 does not permit is counted as misuse and refused. -/
theorem mgmtRequest_refuses (c : Nat) (h : RemoteWrite s f a)
    (hjudge : s.judge (s.arrivalPort f) true a.offset (ofLe (bnat a.data)) true = some c) (hc : c ≠ 5) :
    ∃ t, exec (.mgmtRequest f) s = .next t ∧
      t.rd DEVICE.DENY_CNT_COUNT (s.arrivalPort f).code = min (s.rd DEVICE.DENY_CNT_COUNT (s.arrivalPort f).code + 1) 0xFFFFFFFF ∧
      t.rd DEVICE.DENY_LAST_CAUSE = c % 8 ∧ t.rd MGMT.REMOTE_WR_COUNT = s.rd MGMT.REMOTE_WR_COUNT ∧
      Queued s t 7 4 (fun g => g.dest = f.src ∧ g.refuse = true ∧ (bnat g.payload).headD 0 = refusalCode c) := by
  have hperform := mgmtPerform_misuse f a (s.takeInbox 7 f) c h.write.1 h.write.2 hjudge hc
  have hroute : SameRoute s ((s.takeInbox 7 f).misuse (s.arrivalPort f) true a.offset c) :=
    ((SameRoute.refl s).takeInbox 7 f).misuse _ _ _ _
  obtain ⟨hcount, -, hcause, -⟩ := misuse_shows (s.takeInbox 7 f) (s.arrivalPort f) true a.offset c
  have hremote : ((s.takeInbox 7 f).misuse (s.arrivalPort f) true a.offset c).rd MGMT.REMOTE_WR_COUNT = s.rd MGMT.REMOTE_WR_COUNT :=
    rdn_of_regsBut (misuse_regs (s.takeInbox 7 f) (s.arrivalPort f) true a.offset c) 0 MGMT.REMOTE_WR_COUNT 0 (by
      simp only [denyKeys, List.mem_cons, List.not_mem_nil, or_false, not_or]
      exact ⟨key_ne (by decide) _ _, key_ne (by decide) _ _, key_ne (by decide) _ _, key_ne (by decide) _ _,
        key_ne (by decide) _ _, key_ne (by decide) _ _⟩)
  rw [show (s.takeInbox 7 f).arrivalPort f = s.arrivalPort f from rfl] at hperform
  obtain ⟨s3, hsent, hroute3, hregs3⟩ := refuse_sent f _ (refusalCode c) h.request.1 h.request.2
    (by rw [hroute.nodeId]; exact h.far) (hroute.plain h.plain) (hroute.room h.room)
  have hexec := exec_mgmtRequest s f a h
  rw [hperform, modeDone_settled _ (sentOnRing_settled hsent (hroute3.settled (hroute.settled h.settled)))] at hexec
  have hkept : ∀ (g : Fld) (i : Nat), place g 0 ≠ place MGMT.ABSENT_CNT_COUNT 0 →
      s3.rd g i = ((s.takeInbox 7 f).misuse (s.arrivalPort f) true a.offset c).rd g i := fun g i hg =>
    rdn_of_regsBut hregs3 0 g i (by rw [List.mem_singleton]; exact key_ne hg _ _)
  refine ⟨_, hexec, ?_, ?_, ?_, ?_⟩
  · exact (sentOnRing_rd hsent _ _).trans ((hkept _ _ (by decide)).trans hcount)
  · exact (sentOnRing_rd hsent _ _).trans ((hkept _ _ (by decide)).trans hcause)
  · exact (sentOnRing_rd hsent _ _).trans ((hkept _ _ (by decide)).trans hremote)
  · refine hroute.queued (hroute3.queued (queued_mono hsent.2.2 fun x hx => ?_))
    exact refusalOf_code f (refusalCode c) (refusalCode_small c) x hx

end

/-! ### The obligation -/

/-- Settles O41: one lemma for each command, from what it does to the bridge or to the registers of MGMT; the polls, the send
rings and the answers of MGMT through the storing of a plain frame at the ring outputs. -/
theorem fencesPollsRingsAndManagementComplete : Obligations.FencesPollsRingsAndManagementComplete := by
  unfold Obligations.FencesPollsRingsAndManagementComplete
  refine ⟨fun s p w hw => ⟨fun hperm hst => ?_, fun hperm => ?_, fun hperm => ?_⟩,
    fun s p => ⟨exec_pweClear s p, exec_pfdClear s p, exec_cqPop s p⟩,
    fun s i hon hopen hi hdue hfirst => ?_, fun s f buf r hup hr => ?_, fun s n image f hup hturn htodo hidle htwin hwait hf => ?_,
    fun s f a hon htc hep hresp hrefuse htwin hset hparse hgood hop hlen hfar hplain hroom => ?_, mgmtDoorbell_rings⟩
  · exact ⟨fenceGo_nothing s p w hw hperm hst, fenceGo_outstanding s p w hw hperm hst⟩
  · exact ⟨exec_fenceAbort_running s p w hw hperm, exec_fenceAbort_late s p w hw hperm⟩
  · exact ⟨exec_readAbort_nothing s p w hw hperm, exec_readAbort_late s p w hw hperm, exec_readAbort_one s p w hw hperm⟩
  · have hfirstDue : FirstDue s i := ⟨hon, hopen, hi, hdue, hfirst⟩
    exact ⟨pollDue_skips s i hfirstDue, fun a => pollDue_sends s i a hfirstDue⟩
  · exact ⟨hostRxDelivery_taken s f buf r hup hr, hostRxDelivery_dropped s f buf r hup hr⟩
  · have hring : RingServed s n := ⟨hup, hturn, htodo, hidle⟩
    exact ⟨fun hbad hlen hshort h1 h4 h7 hnode hplain hroom =>
        sendRing_queues s n image f hring ⟨hf, hbad, hlen, hshort, ⟨h1, h4, h7⟩, hnode, hplain, hroom⟩ htwin hwait,
      fun hbad => sendRing_refuses s n image hring (hf ▸ hbad)⟩
  · have hwrite : RemoteWrite s f a :=
      ⟨hon, htc, hep, ⟨hresp, hrefuse⟩, htwin, hset, hparse, hgood, ⟨hop, hlen⟩, hfar, hplain, hroom⟩
    exact ⟨mgmtRequest_writes s f a hwrite, fun c => mgmtRequest_refuses s f a c hwrite⟩

end Sys2Proof.Proofs
end

section
/-! PROOFS. What the links, the lanes and the reference share: fields read through writes elsewhere, the log of what is
sent, TC7 frames (R33, R56, R77, R103). -/

set_option Elab.async false

namespace Sys2Proof.Proofs

open Sys2Proof.Machine Sys2Proof.Safety Sys2Proof.Laws

/-! ### Fields read through writes elsewhere -/

/-- Storing a field leaves the fields at other offsets, on whatever pages. -/
theorem rdn_wrn_off (s : State) (n m : Nat) {f g : Fld} (v i j : Nat) (hf : InPage f) (hg : InPage g) (h : g.off ≠ f.off) :
    (s.wrn n f v i).rdn m g j = s.rdn m g j := rdn_wrn_elsewhere s v i j (place_ne_of_off n m hf hg h)

theorem place_add (f : Fld) (n : Nat) : place f n = place f 0 + 262144 * n := by
  unfold place
  omega

/-- Storing a field leaves the other fields of its page. -/
theorem rdn_wrn_block (s : State) (n : Nat) {f g : Fld} (v i j : Nat) (h : place g 0 ≠ place f 0) :
    (s.wrn n f v i).rdn n g j = s.rdn n g j := by
  refine rdn_wrn_elsewhere s v i j ?_
  rw [place_add g n, place_add f n]
  exact fun e => h (Nat.add_right_cancel e)

/-- An event leaves every field that is not INT_STAT. -/
theorem rdn_raise_off (s : State) (pg b n : Nat) {g : Fld} (i : Nat) (hg : InPage g) (h : g.off ≠ HDR.INT_STAT_EVENTS.off) :
    (s.raise pg b).rdn n g i = s.rdn n g i :=
  rdn_raise_other s pg b n g i (key_ne (place_ne_of_off pg n (by decide) hg h) 0 i)

/-- Storing a field that is not INT_STAT leaves every event. -/
theorem event_wrn_off (s : State) (n : Nat) {f : Fld} (v i pg b : Nat) (hf : InPage f) (h : HDR.INT_STAT_EVENTS.off ≠ f.off) :
    event (s.wrn n f v i) pg b = event s pg b := congrArg (bitOf · b) (rdn_wrn_off s n pg v i 0 hf (by decide) h)

/-- An event keeps the events before it, on every page. -/
theorem event_raise_keeps (s : State) (pg b pg' j : Nat) (hj : j < 32) (h : event s pg' j = true) :
    event (s.raise pg b) pg' j = true := by
  by_cases hpg : pg' = pg
  · subst hpg
    exact event_raise_mono s pg' b j hj h
  · rw [event, rdn_raise_other s pg b pg' _ 0 (fun e => hpg (by simp only [Fld.key, HDR.INT_STAT_EVENTS] at e; omega))]
    exact h

@[simp] theorem rdn_setRef (s : State) (r : RefUnit) (n : Nat) (f : Fld) (i : Nat) :
    State.rdn { s with ref := r } n f i = s.rdn n f i := rfl

@[simp] theorem event_setRef (s : State) (r : RefUnit) (pg b : Nat) : event { s with ref := r } pg b = event s pg b := rfl

/-! ### What the hub has sent -/

theorem msixSend_sent (s : State) (v : Nat) : s.sent <+: (s.msixSend v).sent := by
  unfold State.msixSend
  split
  · exact List.prefix_append _ _
  · exact List.prefix_rfl

theorem settle_sent (s old : State) (pg : Nat) (wr : Bool) : s.sent <+: (s.settle old pg wr).sent := by
  unfold State.settle
  generalize sourcesOf pg = srcs
  induction srcs generalizing s with
  | nil => exact List.prefix_rfl
  | cons src srcs ih =>
    refine List.IsPrefix.trans ?_ (ih _)
    dsimp only
    split_ifs
    · exact msixSend_sent s src
    · exact List.prefix_rfl
    · exact List.prefix_rfl

/-- An event only adds messages to what the hub has sent. -/
theorem raise_sent (s : State) (pg b : Nat) : s.sent <+: (s.raise pg b).sent := settle_sent { s.wrn pg HDR.INT_STAT_EVENTS
    (setBit (s.rdn pg HDR.INT_STAT_EVENTS) b) with msix := { s.msix with events := Tbl.put s.msix.events (32 * pg + b) s.mono } } s pg false

/-! ### TC7 frames (R100, R102, R103) -/

/-- A TC7 frame that carries no time stamp. -/
def Stampless : Maint → Prop
  | .pdelayReq _ | .pdelayResp _ => False
  | _ => True

/-- Frames have left or wait in rank 2 of the ring outputs; nothing sent is taken back, and no frame ceases to wait. -/
def MaintSent (s t : State) : Prop :=
  (∃ x l, t = { s with tx := x, sent := l }) ∧ s.sent <+: t.sent ∧ ∀ d m, m ∈ (s.txOf d).maint → m ∈ (t.txOf d).maint

theorem maintSent_refl (s : State) : MaintSent s s := ⟨⟨_, _, rfl⟩, List.prefix_rfl, fun _ _ h => h⟩

theorem maintSent_trans {s t u : State} (h : MaintSent s t) (h' : MaintSent t u) : MaintSent s u := by
  obtain ⟨⟨x, l, rfl⟩, hsent, hmaint⟩ := h
  obtain ⟨⟨x', l', rfl⟩, hsent', hmaint'⟩ := h'
  exact ⟨⟨_, _, rfl⟩, hsent.trans hsent', fun d m hm => hmaint' d m (hmaint d m hm)⟩

theorem maintSent_emit (s : State) (e : Emit) : MaintSent s (s.emit e) :=
  ⟨⟨_, _, rfl⟩, List.prefix_append _ _, fun _ _ h => h⟩

theorem emitMaint_stampless (s : State) (d : Side) {m : Maint} (hm : Stampless m) :
    s.emitMaint d m = (s.fillSlot d).emit (.maint d.code m) := by
  cases m with
  | pdelayReq msg => exact hm.elim
  | pdelayResp msg => exact hm.elim
  | _ => rfl

theorem fillSlot_sent (s : State) (d : Side) : MaintSent s (s.fillSlot d) := by
  unfold State.fillSlot
  split
  · exact maintSent_emit s _
  · exact maintSent_refl s

theorem maint_updTx (s : State) (d e : Side) (f : TxPort → TxPort) (m : Maint)
    (hf : ∀ x : TxPort, m ∈ x.maint → m ∈ (f x).maint) (h : m ∈ (s.txOf e).maint) : m ∈ ((s.updTx d f).txOf e).maint := by
  unfold State.txOf State.updTx at *
  by_cases he : e.code = d.code
  · rw [he] at h ⊢
    rw [get_upd_same]
    exact hf _ h
  · rwa [get_upd_other _ _ _ _ _ he]

theorem sendMaint_sent (s : State) (d : Side) {m : Maint} (hm : Stampless m) : MaintSent s (s.sendMaint d m) := by
  unfold State.sendMaint
  split_ifs
  · exact maintSent_refl s
  · rw [emitMaint_stampless s d hm]
    exact maintSent_trans (fillSlot_sent s d) (maintSent_emit _ _)
  · exact ⟨⟨_, _, rfl⟩, List.prefix_rfl, fun e k => maint_updTx s d e _ k fun _ hk => List.mem_append_left _ hk⟩

/-- A frame that may leave has left or waits. -/
theorem sendMaint_passed (s : State) (d : Side) {m : Maint} (hm : Stampless m) : Passed s (s.sendMaint d m) d m := by
  intro hforwards hup
  unfold State.sendMaint
  rw [if_neg (by simp [hforwards, hup])]
  split_ifs
  · rw [emitMaint_stampless s d hm]
    exact .inl (List.mem_append_right _ (List.mem_singleton_self _))
  · right
    unfold State.txOf State.updTx
    rw [get_upd_same]
    exact List.mem_append_right _ (List.mem_singleton_self _)

/-- What has passed has passed in every later state that takes nothing back. -/
theorem passed_later {s t u : State} {d : Side} {m : Maint} (h : Passed s t d m) (h' : MaintSent t u) : Passed s u d m :=
  fun hf hu => (h hf hu).imp (fun hm => h'.2.1.subset hm) (h'.2.2 d m)

/-- Whether a frame may leave is read from the registers and from OTP. -/
theorem passed_earlier {s s' t : State} {d : Side} {m : Maint} (h : Passed s' t d m) (hf : s'.forwards d = s.forwards d)
    (hu : s'.linkState (.ring d) = s.linkState (.ring d)) : Passed s t d m :=
  fun hforwards hup => h (hf.trans hforwards) (hu.trans hup)

/-- A periodic event whose timer does not run happens now. -/
theorem every_idle (s : State) (t d : Nat) (k : State → State) (h : s.running t = false) : s.every t d k = (k s).start t d :=
  if_neg (by simp [h])

/-- Starting one timer leaves the others. -/
theorem timersBut_start (s : State) (t d : Nat) : TimersBut s (s.start t d) [t] :=
  fun k hk => find_start_other s t d k (by simpa using hk)

end Sys2Proof.Proofs
end

section
/-! PROOFS. The shared reference: beacons, contests, TAKE, YIELD and its sources (R56-R64, R81). -/

set_option Elab.async false

namespace Sys2Proof.Proofs

open Sys2Proof.Machine Sys2Proof.Safety Sys2Proof.Laws

/-! ### Events of the reference (R84) -/

section
variable (s : State) (b : Nat)

theorem raiseRef_work : RegWork [0x0A] s (s.raiseRef b) := ((RegWork.refl _ s).raise 0x0A b).ite (RegWork.refl _ s)

theorem rdn_raiseRef (n : Nat) {g : Fld} (i : Nat) (hg : InPage g) (h : g.off ≠ HDR.INT_STAT_EVENTS.off) :
    (s.raiseRef b).rdn n g i = s.rdn n g i := by
  unfold State.raiseRef
  split
  · exact rdn_raise_off s 0x0A b n i hg h
  · rfl

theorem pageOn_raiseRef (pg : Nat) : (s.raiseRef b).pageOn pg = s.pageOn pg := by
  obtain ⟨⟨rs, m, l, h⟩, -⟩ := raiseRef_work s b
  rw [h]
  rfl

/-- While the page is powered the event shows. -/
theorem event_raiseRef (hb : b < 32) (hon : s.pageOn 0x0A = true) : event (s.raiseRef b) 0x0A b = true := by
  rw [State.raiseRef, if_pos hon]
  exact event_raise_same s 0x0A b hb

theorem event_raiseRef_keeps (pg j : Nat) (hj : j < 32) (h : event s pg j = true) : event (s.raiseRef b) pg j = true := by
  unfold State.raiseRef
  split
  · exact event_raise_keeps s 0x0A b pg j hj h
  · exact h

end

/-! ### The source lost (R57, R61) -/

/-- The registers of a hub whose source is gone, which it holds over. -/
def sourceLost (s : State) : State := (s.holdSource.wr CLOCKS.REF_STAT_SOURCE 2).wr CLOCKS.REF_STAT_LOCKED 0

theorem loseSource_work (s : State) : RegWork [0x0A] (sourceLost s) s.loseSource :=
  (raiseRef_work (sourceLost s) 5).trans (raiseRef_work _ 6)

theorem loseSource_frame (s : State) :
    ∃ rs m l, s.loseSource = { s with regs := rs, msix := m, sent := l, ref := s.holdSource.ref } := by
  obtain ⟨⟨rs, m, l, h⟩, -⟩ := loseSource_work s
  exact ⟨rs, m, l, h⟩

theorem rdn_loseSource (s : State) (n : Nat) {g : Fld} (i : Nat) (hg : InPage g) (h : g.off ≠ HDR.INT_STAT_EVENTS.off) :
    s.loseSource.rdn n g i = (sourceLost s).rdn n g i :=
  (rdn_raiseRef _ 6 n i hg h).trans (rdn_raiseRef _ 5 n i hg h)

theorem loseSource_shows (s : State) : s.loseSource.rd CLOCKS.REF_STAT_SOURCE = 2 ∧ s.loseSource.rd CLOCKS.REF_STAT_LOCKED = 0 ∧
    (s.pageOn 0x0A = true → event s.loseSource 0x0A 5 = true ∧ event s.loseSource 0x0A 6 = true) := by
  refine ⟨?_, ?_, fun hon => ⟨?_, ?_⟩⟩
  · rw [State.rd, rdn_loseSource s 0 0 (by decide) (by decide)]
    simp (disch := decide) [sourceLost, rdn_wrn_block]
    decide
  · rw [State.rd, rdn_loseSource s 0 0 (by decide) (by decide)]
    simp [sourceLost]
  · exact event_raiseRef_keeps _ 6 0x0A 5 (by decide) (event_raiseRef (sourceLost s) 5 (by decide) hon)
  · exact event_raiseRef _ 6 (by decide) ((pageOn_raiseRef _ 5 0x0A).trans hon)

/-- The other fields of CLOCKS stay. -/
theorem rd_loseSource (s : State) {g : Fld} (hg : InPage g) (hint : g.off ≠ HDR.INT_STAT_EVENTS.off)
    (hsource : place g 0 ≠ place CLOCKS.REF_STAT_SOURCE 0) (hlocked : place g 0 ≠ place CLOCKS.REF_STAT_LOCKED 0) :
    s.loseSource.rd g = s.rd g :=
  (rdn_loseSource s 0 0 hg hint).trans ((rdn_wrn_block _ 0 _ _ _ hlocked).trans (rdn_wrn_block _ 0 _ _ _ hsource))

theorem event_loseSource_keeps (s : State) (pg j : Nat) (hj : j < 32) (h : event s pg j = true) : event s.loseSource pg j = true := by
  refine event_raiseRef_keeps _ 6 pg j hj (event_raiseRef_keeps _ 5 pg j hj ?_)
  simp (disch := decide) only [wr_eq, event_wrn_off]
  exact h

/-! ### Beginning and ending to act (R56, R60, R63, R64) -/

/-- The registers and the reference unit of a hub that begins to act, on its crystal. -/
def actingBegun (s : State) : State :=
  (({ s with ref := { s.ref with stay := false, origin := s.mono } }.wr CLOCKS.REF_STAT_ACTING_MASTER 1).wr
    CLOCKS.REF_STAT_SOURCE 3).wr CLOCKS.REF_STAT_LOCKED 1

theorem becomeActing_eq (s : State) (h : s.acting = false) :
    s.becomeActing = (((actingBegun s).raiseRef 7).raiseRef 6).stop tBeaconTmo := if_neg (by simp [h])

theorem becomeActing_acting (s : State) (h : s.acting = true) : s.becomeActing = s := if_pos h

theorem rd_begun (s : State) {g : Fld} (hg : InPage g) (hint : g.off ≠ HDR.INT_STAT_EVENTS.off) :
    ((((actingBegun s).raiseRef 7).raiseRef 6).stop tBeaconTmo).rd g = (actingBegun s).rd g :=
  (rdn_raiseRef _ 6 0 0 hg hint).trans (rdn_raiseRef _ 7 0 0 hg hint)

theorem becomeActing_shows (s : State) (h : s.acting = false) : s.becomeActing.acting = true ∧
    s.becomeActing.rd CLOCKS.REF_STAT_SOURCE = 3 ∧ s.becomeActing.rd CLOCKS.REF_STAT_LOCKED = 1 ∧
    (s.pageOn 0x0A = true → event s.becomeActing 0x0A 7 = true) ∧ s.becomeActing.running tBeaconTmo = false := by
  rw [becomeActing_eq s h]
  refine ⟨decide_eq_true ?_, ?_, ?_, fun hon => ?_, ?_⟩
  · rw [rd_begun s (by decide) (by decide)]
    simp (disch := decide) [actingBegun, rdn_wrn_block]
  · rw [rd_begun s (by decide) (by decide)]
    simp (disch := decide) [actingBegun, rdn_wrn_block]
    decide
  · rw [rd_begun s (by decide) (by decide)]
    simp [actingBegun]
    decide
  · exact event_raiseRef_keeps _ 6 0x0A 7 (by decide) (event_raiseRef (actingBegun s) 7 (by decide) hon)
  · simp [State.running]

/-- What a hub that becomes acting master leaves alone, whether it acted before or not. -/
theorem becomeActing_frame (s : State) :
    ∃ rs r ts m l, s.becomeActing = { s with regs := rs, ref := r, timers := ts, msix := m, sent := l } := by
  cases h : s.acting with
  | true => exact ⟨_, _, _, _, _, becomeActing_acting s h⟩
  | false =>
    obtain ⟨⟨rs, m, l, hevents⟩, -⟩ := (raiseRef_work (actingBegun s) 7).trans (raiseRef_work _ 6)
    rw [becomeActing_eq s h, hevents]
    exact ⟨_, _, _, _, _, rfl⟩

/-- The registers and the reference unit of a master that ceases to act, before it loses its source. -/
def actingEnded (s : State) : State :=
  ({ s with ref := { s.holdSource.ref with stay := true } }.wr CLOCKS.REF_STAT_ACTING_MASTER 0).wr CLOCKS.REF_STAT_CLOSED 0

theorem stopActing_eq (s : State) (h : s.acting = true) : s.stopActing =
    (((actingEnded s).raiseRef 7).loseSource).start tBeaconTmo ((actingEnded s).rd CLOCKS.REF_CFG_BEACON_TMO * ms 1) := if_pos h

theorem stopActing_shows (s : State) (h : s.acting = true) : s.stopActing.acting = false ∧
    s.stopActing.rd CLOCKS.REF_STAT_SOURCE = 2 ∧ s.stopActing.rd CLOCKS.REF_STAT_CLOSED = 0 ∧
    (s.pageOn 0x0A = true → event s.stopActing 0x0A 5 = true ∧ event s.stopActing 0x0A 7 = true) := by
  rw [stopActing_eq s h]
  obtain ⟨hsource, -, hevents⟩ := loseSource_shows ((actingEnded s).raiseRef 7)
  have hrd : ∀ {g : Fld}, InPage g → g.off ≠ HDR.INT_STAT_EVENTS.off → place g 0 ≠ place CLOCKS.REF_STAT_SOURCE 0 →
      place g 0 ≠ place CLOCKS.REF_STAT_LOCKED 0 → ((actingEnded s).raiseRef 7).loseSource.rd g = (actingEnded s).rd g :=
    fun hg hint h2 h3 => (rd_loseSource _ hg hint h2 h3).trans (rdn_raiseRef _ 7 0 0 hg hint)
  have hacting : (actingEnded s).rd CLOCKS.REF_STAT_ACTING_MASTER = 0 := by
    simp (disch := decide) [actingEnded, rdn_wrn_block]
  have hclosed : (actingEnded s).rd CLOCKS.REF_STAT_CLOSED = 0 := by simp [actingEnded]
  refine ⟨decide_eq_false ?_, hsource, ?_, fun hon => ⟨?_, ?_⟩⟩
  · show ¬ ((actingEnded s).raiseRef 7).loseSource.rd CLOCKS.REF_STAT_ACTING_MASTER = 1
    rw [hrd (by decide) (by decide) (by decide) (by decide), hacting]
    decide
  · exact (hrd (by decide) (by decide) (by decide) (by decide)).trans hclosed
  · exact (hevents ((pageOn_raiseRef _ 7 0x0A).trans hon)).1
  · exact event_loseSource_keeps _ 0x0A 7 (by decide) (event_raiseRef (actingEnded s) 7 (by decide) hon)

theorem stopActing_frame (s : State) (h : s.acting = true) :
    ∃ rs r ts m l, s.stopActing = { s with regs := rs, ref := r, timers := ts, msix := m, sent := l } := by
  obtain ⟨rs, m, l, hlose⟩ := loseSource_frame ((actingEnded s).raiseRef 7)
  obtain ⟨⟨rs', m', l', hevent⟩, -⟩ := raiseRef_work (actingEnded s) 7
  rw [stopActing_eq s h, hlose, hevent]
  exact ⟨_, _, _, _, _, rfl⟩

/-! ### Beacons and contests (R56, R63, R64) -/

theorem exec_refBeaconSend (s : State) (hacting : s.acting = true) (hidle : s.running tBeacon = false) :
    exec .refBeaconSend s = .next (((s.sendMaint .east (.beacon s.nodeId (s.rd CLOCKS.REF_CFG_ROLE))).sendMaint .west
      (.beacon s.nodeId (s.rd CLOCKS.REF_CFG_ROLE))).start tBeacon (ms 1)) :=
  congrArg Host.Outcome.next ((if_pos hacting).trans (every_idle s tBeacon (ms 1) _ hidle))

/-- A frame sent both ways passes each way. -/
theorem sendBoth_passed (s : State) {m m' : Maint} (hm : Stampless m) (hm' : Stampless m') :
    MaintSent s ((s.sendMaint .east m).sendMaint .west m') ∧
    Passed s ((s.sendMaint .east m).sendMaint .west m') .east m ∧ Passed s ((s.sendMaint .east m).sendMaint .west m') .west m' := by
  have heast := sendMaint_sent s .east hm
  have hwest := sendMaint_sent (s.sendMaint .east m) .west hm'
  refine ⟨maintSent_trans heast hwest, passed_later (sendMaint_passed s .east hm) hwest,
    passed_earlier (sendMaint_passed (s.sendMaint .east m) .west hm') ?_ ?_⟩
  · obtain ⟨⟨x, l, h⟩, -⟩ := heast
    rw [h]
    rfl
  · obtain ⟨⟨x, l, h⟩, -⟩ := heast
    rw [h]
    rfl

theorem refBeaconSend_passes (s : State) (hacting : s.acting = true) (hidle : s.running tBeacon = false) :
    ∃ t, exec .refBeaconSend s = .next t ∧
      Passed s t .east (.beacon s.nodeId (s.rd CLOCKS.REF_CFG_ROLE)) ∧ Passed s t .west (.beacon s.nodeId (s.rd CLOCKS.REF_CFG_ROLE)) ∧
      Tbl.find t.timers tBeacon = some (s.mono + ms 1) ∧ TimersBut s t [tBeacon] ∧
      t = { s with timers := t.timers, tx := t.tx, sent := t.sent } := by
  refine ⟨_, exec_refBeaconSend s hacting hidle, ?_⟩
  obtain ⟨⟨⟨x, l, h⟩, -⟩, heast, hwest⟩ := sendBoth_passed s (m := .beacon s.nodeId (s.rd CLOCKS.REF_CFG_ROLE))
    (m' := .beacon s.nodeId (s.rd CLOCKS.REF_CFG_ROLE)) trivial trivial
  rw [h] at heast hwest ⊢
  exact ⟨heast, hwest, find_start_same _ _ _, timersBut_start _ _ _, rfl⟩

/-- A follower that learns of a master at most sends contest notices. -/
theorem learnMaster_follower (s : State) (node role : Nat) (h : s.acting = false) : MaintSent s (s.learnMaster node role) := by
  unfold State.learnMaster
  rw [if_neg (by simp [h])]
  split
  · exact (sendBoth_passed s (m := .contest node role) (m' := .contest node role) trivial trivial).1
  · exact maintSent_refl s

/-- What a follower that has passed a beacon on as `u` keeps of it: the master, its role and when it was heard. -/
def beaconHeard (u : State) (node role : Nat) : State :=
  { u.wr CLOCKS.REF_STAT_MASTER_ID node with ref := { u.ref with
    masterRole := role, heard := u.mono, stay := u.ref.stay || u.rd CLOCKS.REF_CFG_ROLE = 1 } }

theorem exec_refBeaconRx (s : State) (d : Side) (node role : Nat) (hother : node ≠ s.nodeId) {u : State}
    (hu : (s.learnMaster node role).sendMaint d.opp (.beacon node role) = u) (hacting : u.acting = false) :
    exec (.refBeaconRx d node role) s =
      .next ((beaconHeard u node role).start tBeaconTmo ((beaconHeard u node role).rd CLOCKS.REF_CFG_BEACON_TMO * ms 1)) := by
  subst hu
  refine congrArg Host.Outcome.next ((if_neg hother).trans (if_neg ?_))
  have hkept : ((s.learnMaster node role).sendMaint d.opp (.beacon node role)).rd CLOCKS.REF_STAT_ACTING_MASTER ≠ 1 :=
    of_decide_eq_false hacting
  have hafter : (beaconHeard ((s.learnMaster node role).sendMaint d.opp (.beacon node role)) node role).rd CLOCKS.REF_STAT_ACTING_MASTER ≠ 1 := by
    rwa [show (beaconHeard _ node role).rd CLOCKS.REF_STAT_ACTING_MASTER = _ from rdn_wrn_block _ 0 _ _ _ (by decide)]
  exact fun h => hafter (of_decide_eq_true h)

theorem refBeaconRx_follows (s : State) (d : Side) (node role : Nat) (hother : node ≠ s.nodeId) (hacting : s.acting = false) :
    ∃ t, exec (.refBeaconRx d node role) s = .next t ∧ t.rd CLOCKS.REF_STAT_MASTER_ID = node % 2 ^ 12 ∧
      Passed s t d.opp (.beacon node role) ∧
      Tbl.find t.timers tBeaconTmo = some (s.mono + s.rd CLOCKS.REF_CFG_BEACON_TMO * ms 1) ∧
      RegsBut s t [key CLOCKS.REF_STAT_MASTER_ID] ∧ TimersBut s t [tBeaconTmo] ∧
      t = { s with regs := t.regs, timers := t.timers, ref := t.ref, tx := t.tx, sent := t.sent } := by
  have hlearn := learnMaster_follower s node role hacting
  have hsend := maintSent_trans hlearn (sendMaint_sent (s.learnMaster node role) d.opp (m := .beacon node role) trivial)
  have hpass : Passed s ((s.learnMaster node role).sendMaint d.opp (.beacon node role)) d.opp (.beacon node role) := by
    obtain ⟨⟨x, l, h⟩, -⟩ := hlearn
    exact passed_earlier (sendMaint_passed _ d.opp (m := .beacon node role) trivial) (by rw [h]; rfl) (by rw [h]; rfl)
  obtain ⟨⟨x, l, h⟩, -⟩ := hsend
  rw [h] at hpass
  refine ⟨_, exec_refBeaconRx s d node role hother h hacting, rdn_wrn_same _ 0 _ node 0, hpass, ?_, ?_, timersBut_start _ _ _, rfl⟩
  · rw [find_start_same]
    exact congrArg (fun v => some (s.mono + v * ms 1)) (rdn_wrn_block s 0 _ _ _ (by decide))
  · exact regsBut_wrn s 0 CLOCKS.REF_STAT_MASTER_ID node 0 (List.mem_singleton_self _)

/-- The hub's own beacon, come eastward around the ring, shows whether it is closed (log 63). -/
theorem refBeaconRx_own (s : State) (role : Nat) (hacting : s.acting = true) :
    ∃ t, exec (.refBeaconRx .west s.nodeId role) s = .next t ∧ t.rd CLOCKS.REF_STAT_CLOSED = bit s.ref.edges.isSome ∧
      RegsBut s t [key CLOCKS.REF_STAT_CLOSED] ∧ t = { s with regs := t.regs } := by
  refine ⟨s.wr CLOCKS.REF_STAT_CLOSED (bit s.ref.edges.isSome), congrArg Host.Outcome.next ((if_pos rfl).trans (if_pos ?_)), ?_,
    regsBut_wrn s 0 _ _ 0 (List.mem_singleton_self _), rfl⟩
  · simp [hacting]
  · refine (rdn_wrn_same s 0 _ _ 0).trans ?_
    cases s.ref.edges <;> rfl

theorem beaconTimeout_acts (s : State) (hdue : s.due tBeaconTmo = true) (hacting : s.acting = false)
    (hrole : s.rd CLOCKS.REF_CFG_ROLE = 2 ∨ (s.rd CLOCKS.REF_CFG_ROLE = 1 ∧ s.ref.stay = false)) :
    exec .beaconTimeout s = .next s.becomeActing := by
  refine congrArg Host.Outcome.next (if_pos ?_)
  rcases hrole with h | ⟨h, hstay⟩
  · rw [hdue, hacting, h]
    rfl
  · rw [hdue, hacting, h, hstay]
    rfl

theorem contestNotice_passes (s : State) (d : Side) (node role : Nat) (hacting : s.acting = false) :
    ∃ t, exec (.contestNotice d node role) s = .next t ∧ Passed s t d.opp (.contest node role) ∧
      t = { s with tx := t.tx, sent := t.sent } := by
  refine ⟨_, congrArg Host.Outcome.next (if_neg (by simp [hacting])),
    sendMaint_passed s d.opp (m := .contest node role) trivial, ?_⟩
  obtain ⟨⟨x, l, h⟩, -⟩ := sendMaint_sent s d.opp (m := .contest node role) trivial
  rw [h]

/-! ### TAKE and YIELD (R63, R81) -/

section
variable (s : State) (p : Port)

theorem exec_refTake (h : Permitted s p 2 0x84 1) (hrole : s.rd CLOCKS.REF_CFG_ROLE ≠ 0) :
    exec (.refTake p) s = .next ((s.heard p).becomeActing.emit (done p)) :=
  congrArg Host.Outcome.next ((access_permitted s p 2 0x84 1 _ h).trans
    (congrArg (State.emit · (done p)) (if_neg (by rwa [rd_heard]))))

theorem exec_refTake_follower (h : Permitted s p 2 0x84 1) (hrole : s.rd CLOCKS.REF_CFG_ROLE = 0) :
    exec (.refTake p) s = .next ((s.heard p).emit (done p)) :=
  congrArg Host.Outcome.next ((access_permitted s p 2 0x84 1 _ h).trans
    (congrArg (State.emit · (done p)) (if_pos (by rwa [rd_heard]))))

theorem heard_acting : (s.heard p).acting = s.acting := congrArg (decide <| · = 1) (rd_heard s p _ 0)

theorem heard_pageOn (pg : Nat) : (s.heard p).pageOn pg = s.pageOn pg := by
  obtain ⟨ts, h⟩ := heard_frame s p
  rw [h]
  rfl

theorem refTake_acts (h : Permitted s p 2 0x84 1) (hrole : s.rd CLOCKS.REF_CFG_ROLE ≠ 0) :
    ∃ t, exec (.refTake p) s = .next t ∧ t.acting = true ∧ done p ∈ t.sent ∧ (s.acting = false → t.rd CLOCKS.REF_STAT_SOURCE = 3) ∧
      t = { s.heard p with regs := t.regs, ref := t.ref, timers := t.timers, msix := t.msix, sent := t.sent } := by
  refine ⟨_, exec_refTake s p h hrole, ?_, List.mem_append_right _ (List.mem_singleton_self _), fun hacting => ?_, ?_⟩
  · cases hacting : (s.heard p).acting with
    | true =>
      rw [becomeActing_acting _ hacting]
      exact hacting
    | false => exact (becomeActing_shows _ hacting).1
  · exact (becomeActing_shows (s.heard p) ((heard_acting s p).trans hacting)).2.1
  · obtain ⟨rs, r, ts, m, l, hbecome⟩ := becomeActing_frame (s.heard p)
    rw [hbecome]
    rfl

theorem refYield_stops (h : Permitted s p 2 0x84 2) (hacting : s.acting = true) :
    ∃ t, exec (.refYield p) s = .next t ∧ t.acting = false ∧ t.rd CLOCKS.REF_STAT_SOURCE = 2 ∧ t.rd CLOCKS.REF_STAT_CLOSED = 0 ∧
      (s.pageOn 0x0A = true → event t 0x0A 5 = true ∧ event t 0x0A 7 = true) ∧ done p ∈ t.sent ∧
      t = { s.heard p with regs := t.regs, ref := t.ref, timers := t.timers, msix := t.msix, sent := t.sent } := by
  have hheard := (heard_acting s p).trans hacting
  obtain ⟨hstopped, hsource, hclosed, hevents⟩ := stopActing_shows (s.heard p) hheard
  refine ⟨_, congrArg Host.Outcome.next (access_permitted s p 2 0x84 2 _ h), hstopped, hsource, hclosed,
    fun hon => hevents ((heard_pageOn s p 0x0A).trans hon), List.mem_append_right _ (List.mem_singleton_self _), ?_⟩
  obtain ⟨rs, r, ts, m, l, hstop⟩ := stopActing_frame (s.heard p) hheard
  rw [hstop]
  rfl

end

/-! ### Changes of the source (R57, R58, R61) -/

/-- REFW without edges. -/
def refwDark (s : State) : State := { s with ref := { s.ref with edges := none } }.wr CLOCKS.REF_STAT_CLOSED 0

theorem exec_refwLoss (s : State) (hacting : s.acting = false) (hsource : s.rd CLOCKS.REF_STAT_SOURCE = 0) :
    exec .refwLoss s = .next (refwDark s).loseSource :=
  congrArg Host.Outcome.next (if_pos (by rw [hacting, hsource]; rfl))

theorem refwLoss_holdsOver (s : State) (hacting : s.acting = false) (hsource : s.rd CLOCKS.REF_STAT_SOURCE = 0) :
    ∃ t, exec .refwLoss s = .next t ∧ t.ref.edges = none ∧ t.rd CLOCKS.REF_STAT_CLOSED = 0 ∧ t.rd CLOCKS.REF_STAT_SOURCE = 2 ∧
      t.rd CLOCKS.REF_STAT_LOCKED = 0 ∧ t.refeDriven = false ∧
      (s.pageOn 0x0A = true → event t 0x0A 5 = true ∧ event t 0x0A 6 = true) ∧
      t = { s with regs := t.regs, ref := t.ref, msix := t.msix, sent := t.sent } := by
  obtain ⟨hlost, hlocked, hevents⟩ := loseSource_shows (refwDark s)
  obtain ⟨rs, m, l, hframe⟩ := loseSource_frame (refwDark s)
  have hstill : (refwDark s).loseSource.acting = false := by
    rw [State.acting, State.flag, rd_loseSource _ (by decide) (by decide) (by decide) (by decide),
      show (refwDark s).rd CLOCKS.REF_STAT_ACTING_MASTER = s.rd CLOCKS.REF_STAT_ACTING_MASTER from
        rdn_wrn_block _ 0 _ _ _ (by decide)]
    exact hacting
  refine ⟨_, exec_refwLoss s hacting hsource, ?_, ?_, hlost, hlocked, ?_, hevents, ?_⟩
  · rw [hframe]
    rfl
  · exact (rd_loseSource _ (by decide) (by decide) (by decide) (by decide)).trans (rdn_wrn_same _ 0 _ 0 0)
  · rw [State.refeDriven, hstill, hlost]
    rfl
  · rw [hframe]
    rfl

theorem sourceReady_lt (s : State) (src : Nat) (h : s.sourceReady src = true) : src < 2 := by
  match src, h with
  | 0, _ => decide
  | 1, _ => decide

/-- The spread the source carries and where its modulation stands. -/
def sourceTaken (s : State) (ssc : Option (Nat × Nat × Nat)) : State :=
  { s with ref := { s.ref with
    carried := ssc.map (fun (x : Nat × Nat × Nat) => (x.1, x.2.1))
    origin := match ssc with | some x => s.mono - x.2.2 % spreadPeriod x.2.1 | none => s.ref.origin } }

theorem exec_refSourceQualified (s : State) (src : Nat) (ssc : Option (Nat × Nat × Nat)) (hacting : s.acting = false)
    (hprior : src < s.rd CLOCKS.REF_STAT_SOURCE) (hready : s.sourceReady src = true) :
    exec (.refSourceQualified (.qualified src ssc)) s =
      .next ((((sourceTaken s ssc).wr CLOCKS.REF_STAT_SOURCE src).wr CLOCKS.REF_STAT_LOCKED 1).raiseRef 6) :=
  congrArg Host.Outcome.next (if_pos (by rw [hacting, hready, decide_eq_true hprior]; rfl))

theorem refSourceQualified_takes (s : State) (src : Nat) (ssc : Option (Nat × Nat × Nat)) (hacting : s.acting = false)
    (hprior : src < s.rd CLOCKS.REF_STAT_SOURCE) (hready : s.sourceReady src = true) :
    ∃ t, exec (.refSourceQualified (.qualified src ssc)) s = .next t ∧ t.rd CLOCKS.REF_STAT_SOURCE = src ∧
      t.rd CLOCKS.REF_STAT_LOCKED = 1 ∧ t.ref.carried = ssc.map (fun (x : Nat × Nat × Nat) => (x.1, x.2.1)) ∧
      (s.pageOn 0x0A = true → event t 0x0A 6 = true) ∧
      t = { s with regs := t.regs, ref := t.ref, msix := t.msix, sent := t.sent } := by
  have hsmall : src % 2 ^ CLOCKS.REF_STAT_SOURCE.w = src :=
    Nat.mod_eq_of_lt ((sourceReady_lt s src hready).trans (by decide))
  obtain ⟨⟨rs, m, l, hframe⟩, -⟩ :=
    raiseRef_work (((sourceTaken s ssc).wr CLOCKS.REF_STAT_SOURCE src).wr CLOCKS.REF_STAT_LOCKED 1) 6
  refine ⟨_, exec_refSourceQualified s src ssc hacting hprior hready, ?_, ?_, ?_, ?_, ?_⟩
  · exact (rdn_raiseRef _ 6 0 0 (by decide) (by decide)).trans
      ((rdn_wrn_block _ 0 _ _ _ (by decide)).trans ((rdn_wrn_same _ 0 _ src 0).trans hsmall))
  · exact (rdn_raiseRef _ 6 0 0 (by decide) (by decide)).trans (rdn_wrn_same _ 0 _ 1 0)
  · rw [hframe]
    rfl
  · exact fun hon => event_raiseRef _ 6 (by decide) hon
  · rw [hframe]
    rfl

/-! ### The obligation -/

/-- Settles O12: a command of the reference sends TC7 frames, which change nothing but the ranks of the ring outputs, or moves
the hub between acting, following and holdover, each a row of CLOCKS fields and an event. -/
theorem sharedReferenceCommandsComplete : Obligations.SharedReferenceCommandsComplete := by
  unfold Obligations.SharedReferenceCommandsComplete
  refine ⟨refBeaconSend_passes, refBeaconRx_follows, refBeaconRx_own, fun s hdue hacting hrole => ?_, contestNotice_passes,
    refTake_acts, exec_refTake_follower, refYield_stops, refwLoss_holdsOver, fun s hedges hon => ?_, refSourceQualified_takes⟩
  · obtain ⟨hacts, hsource, hlocked, hevent, hstopped⟩ := becomeActing_shows s hacting
    obtain ⟨rs, r, ts, m, l, hframe⟩ := becomeActing_frame s
    exact ⟨_, beaconTimeout_acts s hdue hacting hrole, hacts, hsource, hlocked, hevent, hstopped, by rw [hframe]⟩
  · exact congrArg Host.Outcome.next (if_pos (by simp [hedges, hon]))

end Sys2Proof.Proofs
end

section
/-! PROOFS. Links: their registers by offset, the codeword counters, what a link that goes down or comes up does to its
registers, to the switch core and to the units behind it (R57, R73-R75, R82, R83, R106, R145, R177). -/

set_option Elab.async false

namespace Sys2Proof.Proofs

open Sys2Proof.Machine Sys2Proof.Safety Sys2Proof.Laws

/-! ### Registers by their offsets -/

/-- Every field at another offset than the listed ones reads as before, on whatever page. -/
def OffsBut (offs : List Nat) (s t : State) : Prop := ∀ n g i, InPage g → g.off ∉ offs → t.rdn n g i = s.rdn n g i

namespace OffsBut

variable {offs : List Nat} {s t u : State}

theorem refl (offs : List Nat) (s : State) : OffsBut offs s s := fun _ _ _ _ _ => rfl

theorem trans (h : OffsBut offs s t) (h' : OffsBut offs t u) : OffsBut offs s u :=
  fun n g i hg ho => (h' n g i hg ho).trans (h n g i hg ho)

theorem mono {offs' : List Nat} (h : OffsBut offs s t) (hsub : offs ⊆ offs' := by decide) : OffsBut offs' s t :=
  fun n g i hg ho => h n g i hg (fun hm => ho (hsub hm))

theorem sameRegs (h : OffsBut offs s t) (hu : u.regs = t.regs) : OffsBut offs s u :=
  fun n g i hg ho => (congrArg (fun r => (Tbl.find r (g.key n i)).getD (g.dflt i)) hu).trans (h n g i hg ho)

theorem wrn (h : OffsBut offs s t) (n : Nat) (f : Fld) (v i : Nat) (hf : InPage f := by decide) (ho : f.off ∈ offs := by decide) :
    OffsBut offs s (t.wrn n f v i) :=
  h.trans fun m _ j hg hoff => rdn_wrn_off t n m v i j hf hg (fun e => hoff (e ▸ ho))

theorem raise (h : OffsBut offs s t) (pg b : Nat) (ho : HDR.INT_STAT_EVENTS.off ∈ offs := by decide) :
    OffsBut offs s (t.raise pg b) :=
  h.trans fun n _ i hg hoff => rdn_raise_off t pg b n i hg (fun e => hoff (e ▸ ho))

theorem foldl {α : Type} {f : State → α → State} {as : List α} (h : OffsBut offs s t)
    (hf : ∀ a ∈ as, ∀ u, OffsBut offs s u → OffsBut offs s (f u a)) : OffsBut offs s (as.foldl f t) := by
  induction as generalizing t with
  | nil => exact h
  | cons a as ih => exact ih (hf a List.mem_cons_self t h) (fun b hb => hf b (List.mem_cons_of_mem a hb))

theorem clrFields (h : OffsBut offs s t) (n : Nat) (fs : List Fld) (hfs : ∀ f ∈ fs, InPage f ∧ f.off ∈ offs := by decide) :
    OffsBut offs s (t.clrFields n fs) :=
  h.foldl fun f hf _ hu => hu.foldl fun i _ _ hv => hv.wrn n f _ i (hfs f hf).1 (hfs f hf).2

theorem event (h : OffsBut offs s t) (pg b : Nat) (ho : HDR.INT_STAT_EVENTS.off ∉ offs := by decide) :
    event t pg b = event s pg b := congrArg (bitOf · b) (h pg HDR.INT_STAT_EVENTS 0 (by decide) ho)

end OffsBut

/-! ### STATE, DOWN_CAUSE, SYNTONISED (R82, R185) -/

theorem linkState_ring (s : State) (d : Side) : s.linkState (.ring d) = s.rdn d.n PHY.PHY_STAT_STATE := rfl

theorem linkState_twin (s : State) : s.linkState .twin = s.rd TWINLINK.LINK_STAT_STATE := rfl

/-- A link's STATE has its place at one offset of its page. -/
theorem linkState_of_offs {offs : List Nat} {s t : State} (h : OffsBut offs s t) (l : Link)
    (ho : PHY.PHY_STAT_STATE.off ∉ offs := by decide) : t.linkState l = s.linkState l := by
  cases l with
  | ring d => exact h d.n PHY.PHY_STAT_STATE 0 (by decide) ho
  | twin => exact h 0 TWINLINK.LINK_STAT_STATE 0 (by decide) ho

theorem linkState_setLinkState (s : State) (l : Link) {v : Nat} (hv : v < 16) : (s.setLinkState l v).linkState l = v := by
  cases l with
  | ring d => exact (rdn_wrn_same s d.n PHY.PHY_STAT_STATE v 0).trans (Nat.mod_eq_of_lt hv)
  | twin => exact (rdn_wrn_same s 0 TWINLINK.LINK_STAT_STATE v 0).trans (Nat.mod_eq_of_lt hv)

theorem setLinkState_regsOnly (s : State) (l : Link) (v : Nat) : RegsOnly s (s.setLinkState l v) := by
  cases l <;> exact ⟨_, rfl⟩

theorem setSynt_regsOnly (s : State) (l : Link) (v : Nat) : RegsOnly s (s.setSynt l v) := by
  cases l <;> exact ⟨_, rfl⟩

theorem setLinkState_offs (s : State) (l : Link) (v : Nat) : OffsBut [PHY.PHY_STAT_STATE.off] s (s.setLinkState l v) := by
  cases l with
  | ring d => exact (OffsBut.refl _ s).wrn d.n PHY.PHY_STAT_STATE v 0
  | twin => exact (OffsBut.refl _ s).wrn 0 TWINLINK.LINK_STAT_STATE v 0

theorem setSynt_offs (s : State) (l : Link) (v : Nat) : OffsBut [PHY.PHY_STAT_STATE.off] s (s.setSynt l v) := by
  cases l with
  | ring d => exact (OffsBut.refl _ s).wrn d.n PHY.PHY_STAT_SYNTONISED v 0
  | twin => exact (OffsBut.refl _ s).wrn 0 TWINLINK.LINK_STAT_SYNTONISED v 0

theorem linkState_setSynt (s : State) (l : Link) (v : Nat) : (s.setSynt l v).linkState l = s.linkState l := by
  cases l with
  | ring d => exact rdn_wrn_block s d.n v 0 0 (by decide)
  | twin => exact rdn_wrn_block s 0 v 0 0 (by decide)

theorem regsOnly_trans {s t u : State} (h : RegsOnly s t) (h' : RegsOnly t u) : RegsOnly s u := by
  obtain ⟨rs, rfl⟩ := h
  obtain ⟨rs', rfl⟩ := h'
  exact ⟨rs', rfl⟩

@[simp] theorem rdn_updPhy (s : State) (l : Link) (f : Phy → Phy) (n : Nat) (g : Fld) (i : Nat) :
    (s.updPhy l f).rdn n g i = s.rdn n g i := rfl

/-! ### Codeword counters (R83) -/

/-- Where the counters of a lane's codewords, corrected symbols and slips stand, of the ring ports and of the twin link. -/
def cwOffs : List Nat := [PHY.CW_COUNT.off, PHY.CORR_COUNT.off, TWINLINK.SLIP_COUNT.off]

theorem cwStop_frame (s : State) (l : Link) (lane : Nat) : ∃ rs p, s.cwStop l lane = { s with regs := rs, phy := p } := by
  unfold State.cwStop
  split
  · exact ⟨_, _, rfl⟩
  · cases l <;> exact ⟨_, _, rfl⟩

theorem cwStop_offs (s : State) (l : Link) (lane : Nat) : OffsBut cwOffs s (s.cwStop l lane) := by
  unfold State.cwStop
  split
  · exact OffsBut.refl _ s
  · cases l with
    | ring d =>
      exact ((((OffsBut.refl cwOffs s).wrn d.n PHY.CW_COUNT (s.cwShown (.ring d) lane) lane).wrn d.n PHY.CORR_COUNT
        (s.corrShown (.ring d) lane) lane)).sameRegs rfl
    | twin =>
      exact ((((OffsBut.refl cwOffs s).wrn 0 TWINLINK.CW_COUNT (s.cwShown .twin lane) 0).wrn 0 TWINLINK.CORR_COUNT
        (s.corrShown .twin lane) 0).wrn 0 TWINLINK.SLIP_COUNT s.slipShown 0).sameRegs rfl

/-! ### A link that goes down, from any step (R74, R75) -/

/-- The registers of a link that goes down: its counters stand, its STATE is hold-off, its cause recorded. -/
def halted (s : State) (l : Link) (cause : Nat) : State :=
  ((((s.cwStop l 0).cwStop l 1).setLinkState l 9).setDownCause l cause).setSynt l 0

/-- The same with its PHY cleared and its hold-off begun. -/
def lowered (s : State) (l : Link) (cause : Nat) : State :=
  ((((halted s l cause).updPhy l (fun p =>
    { p with run0 := 0, run1 := 0, winCnt := 0, qualified := false, farReady := false, upAt := none })).start (tPhy l)
    ((halted s l cause).holdoff l)).stop (tUnc l)).stop (tQual l)

/-- A ring port shows besides that it has no lanes and no lock. -/
def ringLowered (s : State) (d : Side) (cause : Nat) : State :=
  (((lowered s (.ring d) cause).wrn d.n PHY.PHY_STAT_TX_LANES 0).wrn d.n PHY.PHY_STAT_RX_LANES 0).wrn d.n PHY.PHY_STAT_CW_LOCK 0

section
variable (s : State) (l : Link) (d : Side) (cause : Nat)

theorem halted_frame : ∃ rs p, halted s l cause = { s with regs := rs, phy := p } := by
  obtain ⟨rs, p, h⟩ := cwStop_frame s l 0
  obtain ⟨rs', p', h'⟩ := cwStop_frame (s.cwStop l 0) l 1
  unfold halted
  rw [h', h]
  cases l <;> exact ⟨_, _, rfl⟩

/-- Of all offsets but those of the counters and the link's STAT a link going down leaves the fields. -/
theorem halted_offs : OffsBut (PHY.PHY_STAT_STATE.off :: cwOffs) s (halted s l cause) := by
  have hcw := ((cwStop_offs s l 0).trans (cwStop_offs _ l 1)).mono (offs' := PHY.PHY_STAT_STATE.off :: cwOffs)
  cases l with
  | ring d =>
    exact ((hcw.wrn d.n PHY.PHY_STAT_STATE 9 0).wrn d.n PHY.PHY_STAT_DOWN_CAUSE cause 0).wrn d.n PHY.PHY_STAT_SYNTONISED 0 0
  | twin =>
    exact ((hcw.wrn 0 TWINLINK.LINK_STAT_STATE 9 0).wrn 0 TWINLINK.LINK_STAT_DOWN_CAUSE cause 0).wrn 0
      TWINLINK.LINK_STAT_SYNTONISED 0 0

theorem halted_linkState : (halted s l cause).linkState l = 9 := by
  refine (linkState_setSynt _ l 0).trans ?_
  cases l with
  | ring d => exact (rdn_wrn_block _ d.n cause 0 0 (by decide)).trans (rdn_wrn_same _ d.n PHY.PHY_STAT_STATE 9 0)
  | twin => exact (rdn_wrn_block _ 0 cause 0 0 (by decide)).trans (rdn_wrn_same _ 0 TWINLINK.LINK_STAT_STATE 9 0)

theorem halted_cause_ring : (halted s (.ring d) cause).rdn d.n PHY.PHY_STAT_DOWN_CAUSE = cause % 2 ^ PHY.PHY_STAT_DOWN_CAUSE.w :=
  (rdn_wrn_block _ d.n 0 0 0 (by decide)).trans (rdn_wrn_same _ d.n PHY.PHY_STAT_DOWN_CAUSE cause 0)

theorem halted_cause_twin : (halted s .twin cause).rd TWINLINK.LINK_STAT_DOWN_CAUSE = cause % 2 ^ TWINLINK.LINK_STAT_DOWN_CAUSE.w :=
  (rdn_wrn_block _ 0 0 0 0 (by decide)).trans (rdn_wrn_same _ 0 TWINLINK.LINK_STAT_DOWN_CAUSE cause 0)

theorem halted_clash : (halted s .twin cause).rd TWINLINK.LINK_STAT_INDEX_CLASH = s.rd TWINLINK.LINK_STAT_INDEX_CLASH := by
  have hcw : ((s.cwStop .twin 0).cwStop .twin 1).rd TWINLINK.LINK_STAT_INDEX_CLASH = s.rd TWINLINK.LINK_STAT_INDEX_CLASH :=
    ((cwStop_offs s .twin 0).trans (cwStop_offs _ .twin 1)) 0 _ 0 (by decide) (by decide)
  rw [← hcw]
  exact (rdn_wrn_block _ 0 0 0 0 (by decide)).trans ((rdn_wrn_block _ 0 cause 0 0 (by decide)).trans (rdn_wrn_block _ 0 9 0 0 (by decide)))

theorem holdoff_of_offs {offs : List Nat} {t : State} (h : OffsBut offs s t) (hr : PHY.PHY_DOWN_CFG_HOLDOFF.off ∉ offs := by decide)
    (ht : TWINLINK.DOWN_CFG_HOLDOFF.off ∉ offs := by decide) : t.holdoff l = s.holdoff l := by
  cases l with
  | ring d => exact congrArg (· * us 100) (h d.n PHY.PHY_DOWN_CFG_HOLDOFF 0 (by decide) hr)
  | twin => exact congrArg (· * us 100) (h 0 TWINLINK.DOWN_CFG_HOLDOFF 0 (by decide) ht)

theorem lowered_rdn (n : Nat) (g : Fld) (i : Nat) : (lowered s l cause).rdn n g i = (halted s l cause).rdn n g i := by
  simp only [lowered, stop_rdn, start_rdn, rdn_updPhy]

/-- Hold-off lasts HOLDOFF from now (R75). -/
theorem lowered_timer : Tbl.find (lowered s l cause).timers (tPhy l) = some (s.mono + s.holdoff l) := by
  have hmono : (halted s l cause).mono = s.mono := by
    obtain ⟨rs, p, h⟩ := halted_frame s l cause
    rw [h]
  have hunc : tPhy l ≠ tUnc l := by
    unfold tPhy tUnc
    omega
  have hqual : tPhy l ≠ tQual l := by
    unfold tPhy tQual
    omega
  rw [lowered, find_stop_other _ _ _ hqual, find_stop_other _ _ _ hunc, find_start_same, holdoff_of_offs s l (halted_offs s l cause)]
  exact congrArg (fun m => some (m + s.holdoff l)) hmono

theorem lowered_frame : ∃ rs p ts, lowered s l cause = { s with regs := rs, phy := p, timers := ts } := by
  obtain ⟨rs, p, h⟩ := halted_frame s l cause
  unfold lowered
  rw [h]
  exact ⟨_, _, _, rfl⟩

theorem ringLowered_frame : ∃ rs p ts, ringLowered s d cause = { s with regs := rs, phy := p, timers := ts } := by
  obtain ⟨rs, p, ts, h⟩ := lowered_frame s (.ring d) cause
  unfold ringLowered
  rw [h]
  exact ⟨_, _, _, rfl⟩

theorem ringLowered_timer : Tbl.find (ringLowered s d cause).timers (tPhy (.ring d)) = some (s.mono + s.holdoff (.ring d)) :=
  lowered_timer s (.ring d) cause

theorem ringLowered_shows : (ringLowered s d cause).linkState (.ring d) = 9 ∧
    (ringLowered s d cause).rdn d.n PHY.PHY_STAT_DOWN_CAUSE = cause % 2 ^ PHY.PHY_STAT_DOWN_CAUSE.w := by
  have hkept : ∀ g : Fld, place g 0 ≠ place PHY.PHY_STAT_CW_LOCK 0 → place g 0 ≠ place PHY.PHY_STAT_RX_LANES 0 →
      place g 0 ≠ place PHY.PHY_STAT_TX_LANES 0 → (ringLowered s d cause).rdn d.n g = (halted s (.ring d) cause).rdn d.n g :=
    fun g hlock hrx htx => (rdn_wrn_block _ d.n 0 0 0 hlock).trans ((rdn_wrn_block _ d.n 0 0 0 hrx).trans
      ((rdn_wrn_block _ d.n 0 0 0 htx).trans (lowered_rdn s (.ring d) cause d.n g 0)))
  constructor
  · rw [linkState_ring, hkept _ (by decide) (by decide) (by decide), ← linkState_ring]
    exact halted_linkState s (.ring d) cause
  · rw [hkept _ (by decide) (by decide) (by decide)]
    exact halted_cause_ring s d cause

theorem ringLowered_offs : OffsBut (PHY.PHY_STAT_STATE.off :: cwOffs) s (ringLowered s d cause) :=
  ((((halted_offs s (.ring d) cause).sameRegs (u := lowered s (.ring d) cause) rfl).wrn d.n PHY.PHY_STAT_TX_LANES 0 0).wrn d.n
    PHY.PHY_STAT_RX_LANES 0 0).wrn d.n PHY.PHY_STAT_CW_LOCK 0 0

/-- A link that is not up is lowered and nothing else happens. -/
theorem linkDown_ring_training (h : s.linkState (.ring d) ≠ 8) : s.linkDown (.ring d) cause = ringLowered s d cause := if_neg h

theorem linkDown_twin_training (h : s.linkState .twin ≠ 8) : s.linkDown .twin cause = lowered s .twin cause := if_neg h

end

/-! ### The switch core told (R145) -/

/-- `t` is `s` after work in the switch core that takes no output up or down and only adds to what has been sent. -/
structure SwitchWork (s t : State) : Prop where
  down : ∀ p, (t.out p).down = (s.out p).down
  sent : s.sent <+: t.sent

namespace SwitchWork

variable {s t u : State}

theorem refl (s : State) : SwitchWork s s := ⟨fun _ => rfl, List.prefix_rfl⟩

theorem trans (h : SwitchWork s t) (h' : SwitchWork t u) : SwitchWork s u :=
  ⟨fun p => (h'.down p).trans (h.down p), h.sent.trans h'.sent⟩

theorem ite {c : Prop} [Decidable c] (ht : SwitchWork s t) (hu : SwitchWork s u) : SwitchWork s (if c then t else u) := by
  split
  · exact ht
  · exact hu

theorem foldl {α : Type} {f : State → α → State} {as : List α} (h : SwitchWork s t)
    (hf : ∀ a ∈ as, ∀ u, SwitchWork s u → SwitchWork s (f u a)) : SwitchWork s (as.foldl f t) := by
  induction as generalizing t with
  | nil => exact h
  | cons a as ih => exact ih (hf a List.mem_cons_self t h) (fun b hb => hf b (List.mem_cons_of_mem a hb))

/-- Work that touches neither the outputs nor the log. -/
theorem same (h : SwitchWork s t) (houts : u.outs = t.outs) (hsent : u.sent = t.sent) : SwitchWork s u :=
  h.trans ⟨fun p => congrArg (fun o => (Tbl.get {} o p).down) houts, hsent ▸ List.prefix_rfl⟩

theorem raise (h : SwitchWork s t) (pg b : Nat) : SwitchWork s (t.raise pg b) :=
  h.trans ⟨fun p => congrArg (fun o => (Tbl.get {} o p).down) (raise_outs t pg b), raise_sent t pg b⟩

theorem updVoq (h : SwitchWork s t) (v : Nat) (f : Voq → Voq) : SwitchWork s (t.updVoq v f) := h.same rfl rfl

/-- A change of an output that leaves it up or down. -/
theorem updOut (h : SwitchWork s t) (p : Nat) (f : OutPort → OutPort) (hf : ∀ o, (f o).down = o.down) :
    SwitchWork s (t.updOut p f) := by
  refine h.trans ⟨fun q => ?_, List.prefix_rfl⟩
  unfold State.out State.updOut
  by_cases hq : q = p
  · rw [hq, get_upd_same]
    exact hf _
  · rw [get_upd_other _ _ _ _ _ hq]

theorem touch (h : SwitchWork s t) (v : Nat) : SwitchWork s (t.touch v) := by
  obtain ⟨vs, he⟩ := touch_voqs t v
  exact h.same (by rw [he]) (by rw [he])

theorem touchOut (h : SwitchWork s t) (p : Nat) : SwitchWork s (t.touchOut p) := h.foldl fun v _ _ hu => hu.touch v

theorem releaseCells (h : SwitchWork s t) (v : Nat) (cs : List Nat) : SwitchWork s (t.releaseCells v cs) :=
  h.foldl fun c _ u hu => by
    dsimp only
    split_ifs <;> exact hu.same rfl rfl

theorem countDiscard (h : SwitchWork s t) (v cause : Nat) : SwitchWork s (t.countDiscard v cause) := by
  refine SwitchWork.raise ?_ 0x10 _
  exact ((h.same (u := t.sat SWITCH.VOQ_DISC_COUNT (clsOf v)) rfl rfl).ite (h.same (u := t.sat SWITCH.PDOWN_DISC_COUNT (clsOf v)) rfl rfl)).same
    rfl rfl

theorem lostCopy (h : SwitchWork s t) (c : Copy) : SwitchWork s (t.lostCopy c) := h.ite (h.same rfl rfl)

theorem releaseCopy (h : SwitchWork s t) (v : Nat) (c : Copy) : SwitchWork s (t.releaseCopy v c) :=
  releaseCells (t := ((t.updVoq v (fun q => { q with minUsed := q.minUsed - c.a })).wr BUFFER.POOL_STAT_SHARED_USED _).wr
    BUFFER.CLASS_USED_CELLS _ (clsOf v)) (h.same rfl rfl) v c.cells

theorem discardQueue (h : SwitchWork s t) (cause v : Nat) : SwitchWork s (t.discardQueue cause v) :=
  h.ite ((updVoq (h.foldl fun c _ _ hu => ((hu.releaseCopy v c).countDiscard v cause).lostCopy c) v _).touch v)

theorem requeueCells (h : SwitchWork s t) (v : Nat) (cs : List Nat) : SwitchWork s (t.requeueCells v cs) :=
  h.foldl fun c _ u hu => by
    split_ifs <;> exact hu.same rfl rfl

theorem abandonGrant (h : SwitchWork s t) (p : Nat) : SwitchWork s (t.abandonGrant p) := by
  have hend := h.updOut p (fun o => { o with grant := none, since := o.prev }) (fun _ => rfl)
  unfold State.abandonGrant
  split
  · exact h
  · dsimp only
    split
    · exact hend
    · exact (hend.requeueCells _ _).touch _

theorem settleOut (h : SwitchWork s t) (p : Nat) : SwitchWork s (t.settleOut p) := by
  unfold State.settleOut
  split_ifs
  · exact h
  · exact h.foldl fun v _ _ hu => hu.discardQueue 7 v
  · exact h
  · exact h.foldl fun v _ _ hu => (hu.discardQueue _ v).updVoq v _
  · exact h.foldl fun v _ _ hu => hu.discardQueue 7 v

end SwitchWork

theorem out_updOut_same (s : State) (p : Nat) (f : OutPort → OutPort) : (s.updOut p f).out p = f (s.out p) := get_upd_same _ _ _ _

/-- An output told to be down is down, and so are those that were. -/
theorem portDown_down (s : State) (p : Nat) : ((s.portDown p).out p).down = true ∧
    (∀ q, (s.out q).down = true → ((s.portDown p).out q).down = true) ∧ s.sent <+: (s.portDown p).sent := by
  have hgrant := (SwitchWork.refl s).abandonGrant p
  set s0 := (s.abandonGrant p).updOut p (fun o => { o with down := true, gen := (o.gen + 1) % 16 }) with hs0
  have hdown : (s0.out p).down = true := by
    rw [hs0, out_updOut_same]
  have hothers : ∀ q, (s.out q).down = true → (s0.out q).down = true := fun q hq => by
    by_cases hqp : q = p
    · rw [hqp, hdown]
    · rw [← hgrant.down q] at hq
      rwa [hs0, State.out, State.updOut, get_upd_other _ _ _ _ _ hqp]
  have hrest : ∀ t, SwitchWork s0 t → (t.out p).down = true ∧ (∀ q, (s.out q).down = true → (t.out q).down = true) ∧ s.sent <+: t.sent :=
    fun t ht => ⟨(ht.down p).trans hdown, fun q hq => (ht.down q).trans (hothers q hq), hgrant.sent.trans ht.sent⟩
  unfold State.portDown
  dsimp only
  split_ifs with h
  · exact ⟨h, fun _ hq => hq, List.prefix_rfl⟩
  all_goals
    refine hrest _ (SwitchWork.touchOut ?_ p)
    refine SwitchWork.same (SwitchWork.settleOut ?_ p) rfl rfl
  · exact SwitchWork.foldl ((SwitchWork.refl s0).updOut p _ (by exact fun _ => rfl)) fun v _ _ hu => hu.updVoq v _
  · exact SwitchWork.foldl ((SwitchWork.refl s0).updOut p _ (by exact fun _ => rfl)) fun v _ _ hu => hu.updVoq v _
  · exact SwitchWork.refl s0

end Sys2Proof.Proofs
end

section
/-! PROOFS. A link that was up goes down, and a link comes up: its registers and timers, the switch core, the reference and
the peer (R57, R73, R74, R106, R145, R177). -/

set_option Elab.async false

namespace Sys2Proof.Proofs

open Sys2Proof.Machine Sys2Proof.Safety Sys2Proof.Laws

/-! ### What a page keeps while other units learn of its link -/

/-- Storing a field leaves the fields of other pages. -/
theorem rdn_wrn_page (s : State) (n m : Nat) {f g : Fld} (v i j : Nat) (hf : InPage f) (hg : InPage g)
    (h : g.page + m ≠ f.page + n) : (s.wrn n f v i).rdn m g j = s.rdn m g j :=
  rdn_wrn_other s n m f g v i j (fun e => h (by rw [← keyPage_key g m j hg, e, keyPage_key f n i hf]))

/-- `t` has the fields and at least the events of a page of `s`, its timers, at least its outputs that are down, and all that
it has sent. -/
structure PageKept (pg : Nat) (s t : State) : Prop where
  fields : ∀ n g i, InPage g → g.page + n = pg → g.off ≠ HDR.INT_STAT_EVENTS.off → t.rdn n g i = s.rdn n g i
  events : ∀ b, b < 32 → event s pg b = true → event t pg b = true
  timers : t.timers = s.timers
  down : ∀ p, (s.out p).down = true → (t.out p).down = true
  sent : s.sent <+: t.sent

namespace PageKept

variable {pg : Nat} {s t u : State}

theorem refl (pg : Nat) (s : State) : PageKept pg s s := ⟨fun _ _ _ _ _ _ => rfl, fun _ _ h => h, rfl, fun _ h => h, List.prefix_rfl⟩

theorem trans (h : PageKept pg s t) (h' : PageKept pg t u) : PageKept pg s u where
  fields n g i hg hp hoff := (h'.fields n g i hg hp hoff).trans (h.fields n g i hg hp hoff)
  events b hb he := h'.events b hb (h.events b hb he)
  timers := h'.timers.trans h.timers
  down p hp := h'.down p (h.down p hp)
  sent := h.sent.trans h'.sent

theorem ite {c : Prop} [Decidable c] (ht : PageKept pg s t) (hu : PageKept pg s u) : PageKept pg s (if c then t else u) := by
  split
  · exact ht
  · exact hu

/-- A change of parts that the relation does not speak of. -/
theorem same (h : PageKept pg s t) (hregs : u.regs = t.regs) (htimers : u.timers = t.timers) (houts : u.outs = t.outs)
    (hsent : t.sent <+: u.sent) : PageKept pg s u := by
  have hfield : ∀ n g i, u.rdn n g i = t.rdn n g i := fun n g i => congrArg (fun r => (Tbl.find r (g.key n i)).getD (g.dflt i)) hregs
  refine h.trans ⟨fun n g i _ _ _ => hfield n g i, fun b _ he => ?_, htimers, fun p hp => ?_, hsent⟩
  · rw [event, hfield]
    exact he
  · rw [State.out, houts]
    exact hp

theorem emit (h : PageKept pg s t) (e : Emit) : PageKept pg s (t.emit e) := h.same rfl rfl rfl (List.prefix_append _ _)

theorem raise (h : PageKept pg s t) (pg' b : Nat) : PageKept pg s (t.raise pg' b) := by
  refine h.trans ⟨fun n g i hg _ hoff => rdn_raise_off t pg' b n i hg hoff, fun j hj => event_raise_keeps t pg' b pg j hj,
    raise_timers t pg' b, fun p hp => ?_, raise_sent t pg' b⟩
  rw [State.out, raise_outs]
  exact hp

/-- A field of another page is written. -/
theorem wrn (h : PageKept pg s t) (n : Nat) (f : Fld) (v i : Nat) (hf : InPage f ∧ f.off ≠ HDR.INT_STAT_EVENTS.off)
    (hp : f.page + n ≠ pg) : PageKept pg s (t.wrn n f v i) := by
  obtain ⟨hin, hint⟩ := hf
  refine h.trans ⟨fun m g j hg hpg _ => rdn_wrn_page t n m v i j hin hg (fun e => hp (e ▸ hpg)), fun b _ he => ?_, rfl,
    fun _ hq => hq, List.prefix_rfl⟩
  rwa [event_wrn_off t n v i pg b hin hint.symm]

theorem wr (h : PageKept pg s t) (f : Fld) (v i : Nat) (hp : f.page + 0 ≠ pg)
    (hf : InPage f ∧ f.off ≠ HDR.INT_STAT_EVENTS.off := by decide) : PageKept pg s (t.wr f v i) := h.wrn 0 f v i hf hp

theorem sat (h : PageKept pg s t) (f : Fld) (i : Nat) (hp : f.page + 0 ≠ pg)
    (hf : InPage f ∧ f.off ≠ HDR.INT_STAT_EVENTS.off := by decide) : PageKept pg s (t.sat f i) := h.wrn 0 f _ i hf hp

theorem portDown (h : PageKept pg s t) (p : Nat) (hpg : pg ∉ switchPages) : PageKept pg s (t.portDown p) := by
  have hwork := (QueueWork.refl t).portDown p
  obtain ⟨-, hdown, hsent⟩ := portDown_down t p
  refine h.trans ⟨fun n g i hg hp _ => hwork.rdn n g i hg (by rwa [hp]), fun b _ he => (hwork.event pg b hpg).trans he, ?_, hdown, hsent⟩
  obtain ⟨⟨rs, m, l, vs, os, x, b, hframe⟩, -⟩ := hwork
  rw [hframe]

theorem raiseRef (h : PageKept pg s t) (b : Nat) : PageKept pg s (t.raiseRef b) := (h.raise 0x0A b).ite h

theorem loseSource (h : PageKept pg s t) (hpg : 2 ≠ pg) : PageKept pg s t.loseSource := by
  have hheld : PageKept pg s t.holdSource := h.same rfl rfl rfl List.prefix_rfl
  exact (((hheld.wr CLOCKS.REF_STAT_SOURCE 2 0 hpg).wr CLOCKS.REF_STAT_LOCKED 0 0 hpg).raiseRef 5).raiseRef 6

theorem dropTbuf (h : PageKept pg s t) (d : Side) (hpg : 9 + d.n ≠ pg) : PageKept pg s (t.dropTbuf d) :=
  same (t := t.satn d.n MAC.TBUF_DROP_COUNT 0 (t.txOf d).tbuf.length) (h.wrn d.n MAC.TBUF_DROP_COUNT _ 0 (by decide) hpg)
    rfl rfl rfl List.prefix_rfl

theorem dropPartial (h : PageKept pg s t) (hpg : 0x0D ≠ pg) : PageKept pg s t.dropPartial := by
  unfold State.dropPartial
  split
  · exact h
  · refine PageKept.raise (PageKept.sat ?_ TWIN.SNAP_PARTIAL_COUNT 0 hpg) 0x0D 5
    exact h.same rfl rfl rfl List.prefix_rfl

theorem peerLost (h : PageKept pg s t) (cause : Nat) (hpg : 0x0D ≠ pg) : PageKept pg s (t.peerLost cause) := by
  have hdrop := dropPartial (t := { t with twin := { t.twin with lost := true, cause := cause } })
    (h.same rfl rfl rfl List.prefix_rfl) hpg
  have hseen := (hdrop.ite (hdrop.wr TWIN.STAT_PEER_SEEN 0 0 hpg) (c := cause = 3)).raise 0x0D 2
  exact ite (ite (hseen.wr TWIN.STAT_ROLE 3 0 hpg) hseen) h

end PageKept

/-! ### A link that was up goes down (R74, R106, R145, R177) -/

section
variable (s : State) (d : Side) (cause : Nat)

/-- A ring port that was up: LINK_DOWN is raised and remote fault blocks leave. -/
def ringFault : State := ((ringLowered s d cause).raise (8 + d.n) 1).emit (.maint d.code (.remoteFault cause))

/-- Then the switch core and the transit path learn of it. -/
def ringTold : State :=
  ((((ringFault s d cause).satn d.n MAC.LINK_DOWN_CNT_COUNT).portDown d.code).dropTbuf d).updRx d (fun _ => {})

/-- A hub locked to the lanes of the east port that went down loses its source (R57). -/
def lanesLost (u : State) (d : Side) : State := if d = .east && u.rd CLOCKS.REF_STAT_SOURCE = 1 then u.loseSource else u

theorem linkDown_ring_up (h : s.linkState (.ring d) = 8) : s.linkDown (.ring d) cause =
    if cause = 6 then (lanesLost (ringTold s d cause) d).raise (9 + d.n) 3 else lanesLost (ringTold s d cause) d := if_pos h

theorem phyPage_ring_apart : 8 + d.n ∉ switchPages ∧ 9 + d.n ≠ 8 + d.n ∧ 2 ≠ 8 + d.n := by
  cases d <;> decide

theorem linkDown_ring_kept (h : s.linkState (.ring d) = 8) : PageKept (8 + d.n) (ringFault s d cause) (s.linkDown (.ring d) cause) ∧
    ((s.linkDown (.ring d) cause).out d.code).down = true := by
  obtain ⟨hswitch, hmac, hclocks⟩ := phyPage_ring_apart d
  have hcount := (PageKept.refl (8 + d.n) (ringFault s d cause)).wrn d.n MAC.LINK_DOWN_CNT_COUNT
    (min ((ringFault s d cause).rdn d.n MAC.LINK_DOWN_CNT_COUNT + 1) (2 ^ MAC.LINK_DOWN_CNT_COUNT.w - 1)) 0 (by decide) hmac
  have hport := hcount.portDown d.code hswitch
  have htold : PageKept (8 + d.n) (((ringFault s d cause).satn d.n MAC.LINK_DOWN_CNT_COUNT).portDown d.code) (ringTold s d cause) :=
    ((PageKept.refl _ _).dropTbuf d hmac).same rfl rfl rfl List.prefix_rfl
  have hlanes : PageKept (8 + d.n) (ringTold s d cause) (lanesLost (ringTold s d cause) d) :=
    ((PageKept.refl _ _).loseSource hclocks).ite (PageKept.refl _ _)
  have hend := hlanes.raise (9 + d.n) 3 |>.ite hlanes (c := cause = 6)
  rw [linkDown_ring_up s d cause h]
  exact ⟨(hport.trans htold).trans hend, hend.down _ (htold.down _ (portDown_down _ _).1)⟩

/-- What a ring port that was up shows once it is down, and what the switch core knows. -/
theorem linkDown_ring_shows (h : s.linkState (.ring d) = 8) : (s.linkDown (.ring d) cause).linkState (.ring d) = 9 ∧
    (s.linkDown (.ring d) cause).rdn d.n PHY.PHY_STAT_DOWN_CAUSE = cause % 2 ^ PHY.PHY_STAT_DOWN_CAUSE.w ∧
    event (s.linkDown (.ring d) cause) (8 + d.n) 1 = true ∧
    Emit.maint d.code (.remoteFault cause) ∈ (s.linkDown (.ring d) cause).sent ∧
    Tbl.find (s.linkDown (.ring d) cause).timers (tPhy (.ring d)) = some (s.mono + s.holdoff (.ring d)) := by
  obtain ⟨hkept, -⟩ := linkDown_ring_kept s d cause h
  obtain ⟨hstate, hcause⟩ := ringLowered_shows s d cause
  have hfault : ∀ g : Fld, InPage g → g.off ≠ HDR.INT_STAT_EVENTS.off →
      (ringFault s d cause).rdn d.n g = (ringLowered s d cause).rdn d.n g := fun g hg hoff =>
    (emit_rdn _ _ d.n g 0).trans (rdn_raise_off _ _ 1 d.n 0 hg hoff)
  refine ⟨?_, ?_, hkept.events 1 (by decide) (event_raise_same _ _ 1 (by decide)),
    hkept.sent.subset (List.mem_append_right _ (List.mem_singleton_self _)), ?_⟩
  · rw [linkState_ring, hkept.fields d.n _ 0 (by decide) rfl (by decide), hfault _ (by decide) (by decide), ← linkState_ring]
    exact hstate
  · rw [hkept.fields d.n _ 0 (by decide) rfl (by decide), hfault _ (by decide) (by decide)]
    exact hcause
  · rw [hkept.timers, ringFault, emit_timers, raise_timers]
    exact ringLowered_timer s d cause

/-- The twin link that was up: LINK_DOWN is raised and remote fault blocks leave. -/
def twinFault : State := ((lowered s .twin cause).raise 0x0C 1).emit (.maint Link.twin.code (.remoteFault cause))

theorem linkDown_twin_up (h : s.linkState .twin = 8) : s.linkDown .twin cause =
    if (twinFault s cause).role = 2 ∨ (twinFault s cause).role = 1 then ((twinFault s cause).portDown 2).peerLost 1
    else twinFault s cause := if_pos h

theorem linkDown_twin_shows (h : s.linkState .twin = 8) : (s.linkDown .twin cause).linkState .twin = 9 ∧
    (s.linkDown .twin cause).rd TWINLINK.LINK_STAT_DOWN_CAUSE = cause % 2 ^ TWINLINK.LINK_STAT_DOWN_CAUSE.w ∧
    event (s.linkDown .twin cause) 0x0C 1 = true := by
  have hkept : PageKept 0x0C (twinFault s cause) (s.linkDown .twin cause) := by
    rw [linkDown_twin_up s cause h]
    exact (((PageKept.refl _ _).portDown 2 (by decide)).peerLost 1 (by decide)).ite (PageKept.refl _ _)
  have hfault : ∀ g : Fld, InPage g → g.page + 0 = 0x0C → g.off ≠ HDR.INT_STAT_EVENTS.off →
      (s.linkDown .twin cause).rd g = (halted s .twin cause).rd g := fun g hg hpg hoff =>
    (hkept.fields 0 g 0 hg hpg hoff).trans ((emit_rdn _ _ 0 g 0).trans ((rdn_raise_off _ _ 1 0 0 hg hoff).trans (lowered_rdn s .twin cause 0 g 0)))
  refine ⟨?_, ?_, hkept.events 1 (by decide) (event_raise_same _ _ 1 (by decide))⟩
  · rw [linkState_twin, hfault _ (by decide) (by decide) (by decide), ← linkState_twin]
    exact halted_linkState s .twin cause
  · rw [hfault _ (by decide) (by decide) (by decide)]
    exact halted_cause_twin s cause

end

/-! ### A link comes up (R73, R74, R83, R145) -/

namespace QueueWork

theorem portUp {s t : State} (h : QueueWork s t) (p : Nat) : QueueWork s (t.portUp p) := by
  have hreleased := (h.updOut p (fun o => { o with down := false, hold := [] })).foldl (as := queuesOf p)
    (f := fun t v => t.updVoq v (fun q => { q with held := false })) fun v _ _ hu => hu.updVoq v _
  have hshown := fun n => (hreleased.wr SWITCH.PORT_STAT_STATE n p).touchOut p
  exact h.ite ((hshown _).ite ((hshown _).raise 0x10 2 (by decide)))

end QueueWork

/-- The port of an output comes up unless it is fenced. -/
theorem portUp_up (s : State) (p : Nat) (h : s.portFenced p = false) : ((s.portUp p).out p).down = false := by
  set s1 := s.updOut p (fun o => { o with down := false, hold := [] }) with hs1
  have hup : (s1.out p).down = false := by rw [hs1, out_updOut_same]
  have hreleased := (SwitchWork.refl s1).foldl (as := queuesOf p)
    (f := fun t v => t.updVoq v (fun q => { q with held := false })) fun v _ _ hu => hu.updVoq v _
  have hshown := fun n => (hreleased.same (u := ((queuesOf p).foldl (fun t v => t.updVoq v (fun q => { q with held := false })) s1).wr
    SWITCH.PORT_STAT_STATE n p) rfl rfl).touchOut p
  rw [State.portUp, if_neg (by simp [h])]
  exact (((hshown _).ite ((hshown _).raise 0x10 2)).down p).trans hup

/-- The fence of a ring port is read from its page and from the collector. -/
theorem portFenced_of_offs {offs : List Nat} {s t : State} (h : OffsBut offs s t) (hunit : t.pageUnit = s.pageUnit) (p : Nat)
    (hreq : HDR.BLK_CTRL_FENCE_REQ.off ∉ offs := by decide) (hflt : HDR.FLT_STAT_CHECKERS.off ∉ offs := by decide) :
    t.portFenced p = s.portFenced p := by
  unfold State.portFenced State.fenced State.fenceReq
  rw [h _ HDR.BLK_CTRL_FENCE_REQ 0 (by decide) hreq, h _ HDR.FLT_STAT_CHECKERS 0 (by decide) hflt,
    h _ HDR.FLT_STAT_CHECKERS 0 (by decide) hflt, hunit]

/-- Where the fields stand that a link changes as it comes up: its STAT and the counters of its codewords. -/
def upOffs : List Nat := [PHY.PHY_STAT_STATE.off, PHY.CW_COUNT.off, PHY.CORR_COUNT.off, PHY.UNC_COUNT.off]

/-- STATE and SYNTONISED of a link that is up, its PHY so, and its first window begun. -/
def upMarked (s : State) (l : Link) : State :=
  (((s.setLinkState l 8).setSynt l 1).updPhy l (fun p =>
    { p with farReady := true, winCnt := 0, upAt := some s.mono })).start (tUnc l) (ms 1)

theorem upMarked_leaves (s : State) (l : Link) : (∃ rs p ts, upMarked s l = { s with regs := rs, phy := p, timers := ts }) ∧
    (upMarked s l).linkState l = 8 ∧ Tbl.find (upMarked s l).timers (tUnc l) = some (s.mono + ms 1) ∧ OffsBut upOffs s (upMarked s l) := by
  have hstate := linkState_setLinkState s l (v := 8) (by decide)
  have hoffs : OffsBut upOffs s ((s.setLinkState l 8).setSynt l 1) :=
    ((setLinkState_offs s l 8).trans (setSynt_offs _ l 1)).mono
  have hsynt := (linkState_setSynt (s.setLinkState l 8) l 1).trans hstate
  obtain ⟨rs, hregs⟩ := regsOnly_trans (setLinkState_regsOnly s l 8) (setSynt_regsOnly _ l 1)
  unfold upMarked
  rw [hregs] at hoffs hsynt ⊢
  refine ⟨⟨_, _, _, rfl⟩, ?_, find_start_same _ _ _, hoffs.sameRegs rfl⟩
  exact (linkState_of_offs ((OffsBut.refl [] _).sameRegs rfl) l).trans hsynt

theorem showLanes_up (s : State) (d : Side) : s.showLanes d true =
    (s.wrn d.n PHY.PHY_STAT_TX_LANES (s.laneMode (.ring d))).wrn d.n PHY.PHY_STAT_RX_LANES (s.laneMode (.ring d.opp)) := rfl

theorem showLanes_offs (s : State) (d : Side) : OffsBut [PHY.PHY_STAT_STATE.off] s (s.showLanes d true) := by
  rw [showLanes_up]
  exact ((OffsBut.refl _ s).wrn d.n PHY.PHY_STAT_TX_LANES _ 0).wrn d.n PHY.PHY_STAT_RX_LANES _ 0

theorem rdn_updRx (s : State) (d : Side) (f : RxPort → RxPort) (n : Nat) (g : Fld) (i : Nat) :
    (s.updRx d f).rdn n g i = s.rdn n g i := rfl

/-- The counters of a ring port start anew, and it shows its lanes. -/
def ringOpened (s : State) (d : Side) : State :=
  (((upMarked s (.ring d)).clrFields d.n [PHY.CW_COUNT, PHY.CORR_COUNT, PHY.UNC_COUNT]).showLanes d true).updRx d (fun _ => {})

/-- The counters of the twin link start anew. -/
def twinOpened (s : State) : State := (upMarked s .twin).clrFields 0 [TWINLINK.CW_COUNT, TWINLINK.CORR_COUNT, TWINLINK.UNC_COUNT]

/-- The counters of the lanes in use run. -/
def countersRun (u : State) (d : Side) : State :=
  if u.laneMode (.ring d.opp) = 2 then (u.cwFrom (.ring d) 0).cwFrom (.ring d) 1 else u.cwFrom (.ring d) 0

theorem linkUp_ring (s : State) (d : Side) :
    s.linkUp (.ring d) = ((countersRun (ringOpened s d) d).raise (8 + d.n) 0).portUp d.code := rfl

theorem linkUp_twin (s : State) : s.linkUp .twin = (((twinOpened s).cwFrom .twin 0).raise 0x0C 0).portUp 2 := rfl

theorem countersRun_phy (u : State) (d : Side) : ∃ p, countersRun u d = { u with phy := p } := by
  unfold countersRun
  split <;> exact ⟨_, rfl⟩

theorem linkState_sameRegs {u v : State} (h : v.regs = u.regs) (l : Link) : v.linkState l = u.linkState l :=
  linkState_of_offs ((OffsBut.refl [] u).sameRegs h) l

/-- A link about to be told up: its STATE, its first window, the fences as they were. -/
def Opened (s u : State) (l : Link) : Prop :=
  u.linkState l = 8 ∧ Tbl.find u.timers (tUnc l) = some (s.mono + ms 1) ∧ u.pageUnit = s.pageUnit ∧ OffsBut upOffs s u

theorem opened_phy {s u : State} {l : Link} (h : Opened s u l) (p : Tbl Phy) : Opened s { u with phy := p } l := by
  obtain ⟨hstate, htimer, hunit, hoffs⟩ := h
  exact ⟨(linkState_sameRegs (u := u) rfl l).trans hstate, htimer, hunit, hoffs.sameRegs rfl⟩

/-- Counters that start anew leave what a link shows. -/
theorem opened_clrFields {s u : State} {l : Link} (h : Opened s u l) (n : Nat) (fs : List Fld)
    (hfs : ∀ f ∈ fs, InPage f ∧ f.off ∈ [PHY.CW_COUNT.off, PHY.CORR_COUNT.off, PHY.UNC_COUNT.off]) : Opened s (u.clrFields n fs) l := by
  obtain ⟨hstate, htimer, hunit, hoffs⟩ := h
  obtain ⟨rs, hclear⟩ := clrFields_regsOnly u n fs
  have hcounted := (OffsBut.refl _ u).clrFields n fs hfs
  refine ⟨(linkState_of_offs hcounted l).trans hstate, ?_, ?_, hoffs.trans hcounted.mono⟩
  · rw [hclear]
    exact htimer
  · rw [hclear]
    exact hunit

theorem opened_upMarked (s : State) (l : Link) : Opened s (upMarked s l) l := by
  obtain ⟨⟨rs, p, ts, hframe⟩, hstate, htimer, hoffs⟩ := upMarked_leaves s l
  exact ⟨hstate, htimer, by rw [hframe], hoffs⟩

theorem opened_ring (s : State) (d : Side) : Opened s (ringOpened s d) (.ring d) := by
  obtain ⟨hstate, htimer, hunit, hoffs⟩ := opened_clrFields (opened_upMarked s (.ring d)) d.n
    [PHY.CW_COUNT, PHY.CORR_COUNT, PHY.UNC_COUNT] (by decide)
  refine ⟨?_, htimer, hunit, (hoffs.trans (showLanes_offs _ d).mono).sameRegs rfl⟩
  rw [ringOpened, showLanes_up, linkState_ring, rdn_updRx, rdn_wrn_block _ _ _ _ _ (by decide), rdn_wrn_block _ _ _ _ _ (by decide),
    ← linkState_ring]
  exact hstate

/-- A link that comes up: registers, PHY, timers and input of its own first; then LINK_UP is raised and the switch core told. -/
theorem linkUp_steps (s : State) (l : Link) : ∃ u, s.linkUp l = (u.raise (phyPage l) 0).portUp l.code ∧ Opened s u l := by
  cases l with
  | ring d =>
    obtain ⟨p, hrun⟩ := countersRun_phy (ringOpened s d) d
    exact ⟨_, linkUp_ring s d, hrun ▸ opened_phy (opened_ring s d) p⟩
  | twin =>
    exact ⟨_, linkUp_twin s, opened_phy (opened_clrFields (opened_upMarked s .twin) 0 _ (by decide)) _⟩

theorem phyPage_apart (l : Link) : phyPage l ∉ switchPages := by
  rcases l with ⟨_ | _⟩ | _ <;> decide

theorem linkState_of_queueWork {s t : State} (h : QueueWork s t) (l : Link) : t.linkState l = s.linkState l := by
  rcases l with d | _
  · exact h.rdn d.n PHY.PHY_STAT_STATE 0 (by decide) (phyPage_apart (.ring d))
  · exact h.rdn 0 TWINLINK.LINK_STAT_STATE 0 (by decide) (by decide)

/-- What a link shows that has come up, and what the switch core knows. -/
theorem linkUp_shows (s : State) (l : Link) (hfenced : s.portFenced l.code = false) : (s.linkUp l).linkState l = 8 ∧
    event (s.linkUp l) (phyPage l) 0 = true ∧ ((s.linkUp l).out l.code).down = false ∧
    Tbl.find (s.linkUp l).timers (tUnc l) = some (s.mono + ms 1) := by
  obtain ⟨u, hsteps, hstate, htimer, hunit, hoffs⟩ := linkUp_steps s l
  have hport := (QueueWork.refl (u.raise (phyPage l) 0)).portUp l.code
  have hraised := (hoffs.mono (offs' := HDR.INT_STAT_EVENTS.off :: upOffs)).raise (phyPage l) 0
  rw [hsteps]
  refine ⟨?_, ?_, portUp_up _ _ ?_, ?_⟩
  · rw [linkState_of_queueWork hport l, linkState_of_offs ((OffsBut.refl [HDR.INT_STAT_EVENTS.off] u).raise (phyPage l) 0) l]
    exact hstate
  · rw [hport.event (phyPage l) 0 (phyPage_apart l)]
    exact event_raise_same u (phyPage l) 0 (by decide)
  · rw [portFenced_of_offs hraised ((raise_pageUnit u _ 0).trans hunit)]
    exact hfenced
  · obtain ⟨⟨rs, m, l', vs, os, x, b, hframe⟩, -⟩ := hport
    rw [hframe]
    exact (congrArg (Tbl.find · (tUnc l)) (raise_timers u _ 0)).trans htimer

end Sys2Proof.Proofs
end

section
/-! PROOFS. Bring-up of a link, step by step (R65, R66, R69, R73, R82, R156). -/

set_option Elab.async false

namespace Sys2Proof.Proofs

open Sys2Proof.Machine Sys2Proof.Safety Sys2Proof.Laws

/-! ### Fields written and events raised -/

/-- `t` is `s` with fields at the listed offsets written and events raised, which needs INT_STAT's offset among them. -/
def FieldWork (offs : List Nat) (s t : State) : Prop :=
  (∃ rs m l, t = { s with regs := rs, msix := m, sent := l }) ∧ OffsBut offs s t

namespace FieldWork

variable {offs : List Nat} {s t u : State}

theorem refl (offs : List Nat) (s : State) : FieldWork offs s s := ⟨⟨_, _, _, rfl⟩, OffsBut.refl _ s⟩

theorem trans (h : FieldWork offs s t) (h' : FieldWork offs t u) : FieldWork offs s u := by
  obtain ⟨⟨rs, m, l, rfl⟩, ho⟩ := h
  obtain ⟨⟨rs', m', l', rfl⟩, ho'⟩ := h'
  exact ⟨⟨_, _, _, rfl⟩, ho.trans ho'⟩

theorem wrn (h : FieldWork offs s t) (n : Nat) (f : Fld) (v i : Nat) (hf : InPage f := by decide) (ho : f.off ∈ offs := by decide) :
    FieldWork offs s (t.wrn n f v i) := h.trans ⟨⟨_, _, _, rfl⟩, (OffsBut.refl _ t).wrn n f v i hf ho⟩

theorem raise (h : FieldWork offs s t) (pg b : Nat) (ho : HDR.INT_STAT_EVENTS.off ∈ offs := by decide) :
    FieldWork offs s (t.raise pg b) := by
  obtain ⟨m, l, he⟩ := raise_frame t pg b
  refine h.trans ⟨?_, (OffsBut.refl _ t).raise pg b ho⟩
  rw [he]
  exact ⟨_, _, _, rfl⟩

theorem ite {c : Prop} [Decidable c] (ht : FieldWork offs s t) (hu : FieldWork offs s u) : FieldWork offs s (if c then t else u) := by
  split
  · exact ht
  · exact hu

theorem foldl {α : Type} {f : State → α → State} {as : List α} (h : FieldWork offs s t)
    (hf : ∀ a ∈ as, ∀ u, FieldWork offs s u → FieldWork offs s (f u a)) : FieldWork offs s (as.foldl f t) := by
  induction as generalizing t with
  | nil => exact h
  | cons a as ih => exact ih (hf a List.mem_cons_self t h) (fun b hb => hf b (List.mem_cons_of_mem a hb))

end FieldWork

/-- Storing one copy of a field leaves its other copies. -/
theorem rdn_wrn_copy (s : State) (n : Nat) (f : Fld) (v i j : Nat) (h : j % 8192 ≠ i % 8192) :
    (s.wrn n f v i).rdn n f j = s.rdn n f j :=
  rdn_wrn_other s n n f f v i j (fun e => h (Nat.add_left_cancel e))

theorem bits_mod (v lo w : Nat) : bits v lo w % 2 ^ w = bits v lo w := Nat.mod_mod _ _

/-! ### Steps 1 to 3: start, lane PLLs, training (R64, R65, R73) -/

theorem running_stop (s : State) (t : Nat) : (s.stop t).running t = false := congrArg Option.isSome (find_stop_same s t)

/-- A STATE stored stands whatever timers, blocks or PHYs follow. -/
theorem linkState_stored {s u : State} {l : Link} {v : Nat} (hv : v < 16) (h : u.regs = (s.setLinkState l v).regs) : u.linkState l = v :=
  (linkState_sameRegs (u := s.setLinkState l v) h l).trans (linkState_setLinkState s l hv)

theorem setRetrain_regsOnly (s : State) (l : Link) (v : Nat) : RegsOnly s (s.setRetrain l v) := by
  cases l <;> exact ⟨_, rfl⟩

theorem linkRestart_frame (s : State) (l : Link) : ∃ rs ts, s.linkRestart l = { s with regs := rs, timers := ts } := by
  obtain ⟨rs, h⟩ := regsOnly_trans (setLinkState_regsOnly s l 1) (setRetrain_regsOnly _ l 0)
  unfold State.linkRestart
  rw [h]
  exact ⟨_, _, rfl⟩

/-- A port that may train starts from off, from a hold-off that is over, or from step 1. -/
theorem phyBringUpStart_starts (s : State) (l : Link) (hallowed : s.linkAllowed l = true)
    (h : ((s.linkState l = 0 ∨ (s.linkState l = 9 ∧ s.running (tPhy l) = false)) ∧ s.autoTrain l = true) ∨ s.linkState l = 1) :
    ∃ t, exec (.phyBringUpStart l) s = .next t ∧ t.linkState l = 2 ∧ t = { s with regs := t.regs, timers := t.timers } := by
  have hstart : (s.linkAllowed l && (s.linkState l = 1 ||
      ((s.linkState l = 0 || (s.linkState l = 9 && !s.running (tPhy l))) && s.autoTrain l))) = true := by
    rcases h with ⟨hfrom, hauto⟩ | h
    · rcases hfrom with hoff | ⟨hheld, hover⟩
      · simp [hallowed, hoff, hauto]
      · simp [hallowed, hheld, hover, hauto]
    · simp [hallowed, h]
  refine ⟨(s.linkRestart l).setLinkState l 2, congrArg Host.Outcome.next (if_pos hstart), linkState_setLinkState _ l (by decide), ?_⟩
  obtain ⟨rs, ts, hrestart⟩ := linkRestart_frame s l
  obtain ⟨rs', hset⟩ := setLinkState_regsOnly (s.linkRestart l) l 2
  rw [hset, hrestart]

/-- The master a hub names is no matter of its links' registers. -/
theorem namedMaster_setLinkState (s : State) (l : Link) (v t d : Nat) :
    ((s.setLinkState l v).start t d).namedMaster = s.namedMaster := by
  have hoffs : OffsBut [PHY.PHY_STAT_STATE.off] s ((s.setLinkState l v).start t d) := (setLinkState_offs s l v).sameRegs rfl
  have hrd : ∀ g : Fld, InPage g → g.off ≠ PHY.PHY_STAT_STATE.off → ((s.setLinkState l v).start t d).rd g = s.rd g :=
    fun g hg ho => hoffs 0 g 0 hg (by simpa using ho)
  obtain ⟨rs, hset⟩ := setLinkState_regsOnly s l v
  have hnode : ((s.setLinkState l v).start t d).nodeId = s.nodeId := by
    rw [hset]
    rfl
  have href : ((s.setLinkState l v).start t d).ref = s.ref := by rw [hset]; rfl
  unfold State.namedMaster State.acting State.flag
  rw [hrd _ (by decide) (by decide), hrd _ (by decide) (by decide), hrd _ (by decide) (by decide), hnode, href]

theorem lanePllLocked_trains (s : State) (l : Link) : s.linkState l = 2 →
    ∃ t, exec (.lanePllLocked l) s = .next t ∧ t.linkState l = 3 ∧ Tbl.find t.timers (tPhy l) = some (s.mono + ms 500) ∧
      TimersBut s t [tPhy l] ∧
      t.sent = (match l with
        | .ring d => s.sent ++ [.maint d.code (.training s.namedMaster.1 s.namedMaster.2)]
        | .twin => s.sent) ∧
      t = { s with regs := t.regs, timers := t.timers, sent := t.sent } := by
  intro h
  have hstate := linkState_setLinkState s l (v := 3) (by decide)
  have hnamed := namedMaster_setLinkState s l 3 (tPhy l) (ms 500)
  cases l with
  | ring d =>
    refine ⟨_, congrArg Host.Outcome.next (if_pos h), hstate, find_start_same _ _ _, timersBut_start _ _ _, ?_, rfl⟩
    rw [emit_sent, hnamed]
    rfl
  | twin => exact ⟨_, congrArg Host.Outcome.next (if_pos h), hstate, find_start_same _ _ _, timersBut_start _ _ _, rfl, rfl⟩

theorem setFfe_ring (s : State) (d : Side) (v0 v1 : Nat) : s.setFfe (.ring d) v0 v1 =
    (((((s.wrn d.n PHY.TX_FFE_POST (bits v0 16 8) 0).wrn d.n PHY.TX_FFE_MAIN (bits v0 8 8) 0).wrn d.n PHY.TX_FFE_PRE (bits v0 0 8) 0).wrn
      d.n PHY.TX_FFE_POST (bits v1 16 8) 1).wrn d.n PHY.TX_FFE_MAIN (bits v1 8 8) 1).wrn d.n PHY.TX_FFE_PRE (bits v1 0 8) 1 := rfl

theorem setFfe_twin (s : State) (v0 v1 : Nat) : s.setFfe .twin v0 v1 =
    ((s.wr TWINLINK.TX_FFE_POST (bits v0 16 8)).wr TWINLINK.TX_FFE_MAIN (bits v0 8 8)).wr TWINLINK.TX_FFE_PRE (bits v0 0 8) := rfl

theorem setFfe_regsOnly (s : State) (l : Link) (v0 v1 : Nat) : RegsOnly s (s.setFfe l v0 v1) := by
  cases l with
  | ring d =>
    rw [setFfe_ring]
    exact ((((((RegsOnly.refl s).wrn _ _ _ _).wrn _ _ _ _).wrn _ _ _ _).wrn _ _ _ _).wrn _ _ _ _).wrn _ _ _ _
  | twin =>
    rw [setFfe_twin]
    exact (((RegsOnly.refl s).wrn _ _ _ _).wrn _ _ _ _).wrn _ _ _ _

/-- Training done leaves everything but registers and the port's timer. -/
theorem ffeSet_frame (s : State) (l : Link) (v0 v1 : Nat) : ∃ rs ts,
    ((s.setFfe l v0 v1).setLinkState l 4).stop (tPhy l) = { s with regs := rs, timers := ts } := by
  obtain ⟨rs, h⟩ := regsOnly_trans (setFfe_regsOnly s l v0 v1) (setLinkState_regsOnly _ l 4)
  rw [h]
  exact ⟨_, _, rfl⟩

theorem exec_trainingComplete_ring (s : State) (d : Side) (ffe0 ffe1 : Nat) (h : s.linkState (.ring d) = 3)
    (hdue : s.due (tPhy (.ring d)) = false) :
    exec (.trainingComplete (.ring d) ffe0 ffe1 (s.flagn d.n PHY.PHY_CTRL_PRECODE_DIS) none) s =
      .next (((s.setFfe (.ring d) ffe0 ffe1).setLinkState (.ring d) 4).stop (tPhy (.ring d))) :=
  congrArg Host.Outcome.next (if_pos (by simp [h, hdue]))

theorem trainingComplete_ring (s : State) (d : Side) (ffe0 ffe1 : Nat) (h : s.linkState (.ring d) = 3)
    (hdue : s.due (tPhy (.ring d)) = false) :
    ∃ t, exec (.trainingComplete (.ring d) ffe0 ffe1 (s.flagn d.n PHY.PHY_CTRL_PRECODE_DIS) none) s = .next t ∧
      t.linkState (.ring d) = 4 ∧ t.running (tPhy (.ring d)) = false ∧
      t.rdn d.n PHY.TX_FFE_MAIN 0 = bits ffe0 8 8 ∧ t.rdn d.n PHY.TX_FFE_PRE 1 = bits ffe1 0 8 ∧
      t = { s with regs := t.regs, timers := t.timers } := by
  refine ⟨_, exec_trainingComplete_ring s d ffe0 ffe1 h hdue,
    linkState_stored (s := s.setFfe (.ring d) ffe0 ffe1) (by decide) rfl, running_stop _ _, ?_, ?_, ?_⟩
  · rw [stop_rdn, State.setLinkState, rdn_wrn_block _ _ _ _ _ (by decide), setFfe_ring]
    simp (disch := decide) only [rdn_wrn_block, rdn_wrn_copy, rdn_wrn_same]
    exact bits_mod ffe0 8 8
  · rw [stop_rdn, State.setLinkState, rdn_wrn_block _ _ _ _ _ (by decide), setFfe_ring, rdn_wrn_same]
    exact bits_mod ffe1 0 8
  · obtain ⟨rs, ts, hframe⟩ := ffeSet_frame s (.ring d) ffe0 ffe1
    rw [hframe]

theorem trainingComplete_twin (s : State) (ffe0 ffe1 : Nat) (h : s.linkState .twin = 3) (hdue : s.due (tPhy .twin) = false) :
    ∃ t, exec (.trainingComplete .twin ffe0 ffe1 false none) s = .next t ∧ t.linkState .twin = 4 ∧
      t.running (tPhy .twin) = false ∧ t.rd TWINLINK.TX_FFE_MAIN = bits ffe0 8 8 ∧ t = { s with regs := t.regs, timers := t.timers } := by
  refine ⟨((s.setFfe .twin ffe0 ffe1).setLinkState .twin 4).stop (tPhy .twin), congrArg Host.Outcome.next (if_pos (by simp [h, hdue])),
    linkState_stored (s := s.setFfe .twin ffe0 ffe1) (by decide) rfl, running_stop _ _, ?_, ?_⟩
  · rw [State.rd, stop_rdn, State.setLinkState, State.wr, rdn_wrn_block _ _ _ _ _ (by decide), setFfe_twin, State.wr,
      rdn_wrn_block _ _ _ _ _ (by decide)]
    exact (rdn_wrn_same _ 0 TWINLINK.TX_FFE_MAIN _ 0).trans (bits_mod ffe0 8 8)
  · obtain ⟨rs, ts, hframe⟩ := ffeSet_frame s .twin ffe0 ffe1
    rw [hframe]

/-- The registers of a port whose training has failed: TRAIN_FAIL, and the wish to shed if lane 1 alone fails (R80). -/
def trainingFailed (s : State) (d : Side) (one : Bool) : State :=
  if one && s.rdn d.n MAC.LANE_CTRL_POLICY ≠ 1 then (s.raise (8 + d.n) 4).wrn d.n MAC.LANE_STAT_FAULT_WISH 1 else s.raise (8 + d.n) 4

theorem trainingFailed_kept (s : State) (d : Side) (one : Bool) : PageKept (8 + d.n) (s.raise (8 + d.n) 4) (trainingFailed s d one) := by
  obtain ⟨-, hmac, -⟩ := phyPage_ring_apart d
  exact ((PageKept.refl _ _).wrn d.n MAC.LANE_STAT_FAULT_WISH 1 0 (by decide) hmac).ite (PageKept.refl _ _)

theorem trainingFailed_frame (s : State) (d : Side) (one : Bool) :
    ∃ rs m l, trainingFailed s d one = { s with regs := rs, msix := m, sent := l } :=
  (((FieldWork.refl [HDR.INT_STAT_EVENTS.off, MAC.LANE_STAT_FAULT_WISH.off] s).raise (8 + d.n) 4).wrn d.n MAC.LANE_STAT_FAULT_WISH 1 0
    |>.ite ((FieldWork.refl _ s).raise (8 + d.n) 4)).1

theorem rdn_trainingFailed (s : State) (d : Side) (one : Bool) {g : Fld} (hg : InPage g) (hpg : g.page = 8)
    (hoff : g.off ≠ HDR.INT_STAT_EVENTS.off) : (trainingFailed s d one).rdn d.n g = s.rdn d.n g :=
  ((trainingFailed_kept s d one).fields d.n g 0 hg (by rw [hpg]) hoff).trans (rdn_raise_off s _ 4 d.n 0 hg hoff)

theorem trainFail_holdsOff (s : State) (d : Side) (one : Bool) (h : s.linkState (.ring d) = 3) (hdue : s.due (tPhy (.ring d)) = true) :
    ∃ t, exec (.trainFail (.ring d) one) s = .next t ∧ t.linkState (.ring d) = 9 ∧
      t.rdn d.n PHY.PHY_STAT_DOWN_CAUSE = 8 ∧ event t (8 + d.n) 4 = true ∧
      Tbl.find t.timers (tPhy (.ring d)) = some (s.mono + s.holdoff (.ring d)) ∧
      t = { s with regs := t.regs, phy := t.phy, timers := t.timers, msix := t.msix, sent := t.sent } := by
  have hstate : (trainingFailed s d one).linkState (.ring d) = 3 := (rdn_trainingFailed s d one (by decide) rfl (by decide)).trans h
  have hexec : exec (.trainFail (.ring d) one) s = .next (ringLowered (trainingFailed s d one) d 8) :=
    congrArg Host.Outcome.next ((if_pos (by simp [h, hdue])).trans (linkDown_ring_training (trainingFailed s d one) d 8 (hstate ▸ by decide)))
  obtain ⟨hdown, hcause⟩ := ringLowered_shows (trainingFailed s d one) d 8
  obtain ⟨rs, m, l, hfail⟩ := trainingFailed_frame s d one
  obtain ⟨rs', p, ts, hlow⟩ := ringLowered_frame (trainingFailed s d one) d 8
  refine ⟨_, hexec, hdown, hcause, ?_, ?_, ?_⟩
  · rw [(ringLowered_offs _ d 8).event (8 + d.n) 4]
    exact (trainingFailed_kept s d one).events 4 (by decide) (event_raise_same s (8 + d.n) 4 (by decide))
  · have hholdoff : (trainingFailed s d one).holdoff (.ring d) = s.holdoff (.ring d) :=
      congrArg (· * us 100) (rdn_trainingFailed s d one (by decide) rfl (by decide))
    rw [ringLowered_timer, hholdoff, hfail]
  · rw [hlow, hfail]

/-! ### Step 4: the equalisers adapt (R66, R82) -/

/-- Where the equaliser and eye fields of a ring port's lanes stand. -/
def eyeOffs : List Nat := [HDR.INT_STAT_EVENTS.off, PHY.RX_EQ_CTLE.off, PHY.EYE_WIDTH.off, PHY.DFE_VAL_VALUE.off]

section
variable (s : State) (d : Side) (lane : Nat)

theorem setEye_work (width height : Nat) : FieldWork eyeOffs s (s.setEye d lane width height) := by
  have hset := ((FieldWork.refl eyeOffs s).wrn d.n PHY.EYE_WIDTH width lane).wrn d.n PHY.EYE_HEIGHT height lane
  exact (hset.raise (8 + d.n) 3).ite hset

/-- The height shown for a lane is the one measured; the other lanes keep theirs. -/
theorem setEye_height (width height j : Nat) : (s.setEye d lane width height).rdn d.n PHY.EYE_HEIGHT j =
    ((s.wrn d.n PHY.EYE_WIDTH width lane).wrn d.n PHY.EYE_HEIGHT height lane).rdn d.n PHY.EYE_HEIGHT j := by
  unfold State.setEye
  dsimp only
  split
  · exact rdn_raise_off _ _ 3 d.n j (by decide) (by decide)
  · rfl

theorem setTaps_work (taps : List Nat) : FieldWork [PHY.DFE_VAL_VALUE.off, PHY.RX_EQ_TAP1.off] s (s.setTaps d lane taps) :=
  ((FieldWork.refl _ s).foldl fun k _ _ hu => hu.wrn d.n PHY.DFE_VAL_VALUE _ (16 * lane + k + 1)).wrn d.n PHY.RX_EQ_TAP1 _ lane

theorem adaptLane_work (ctle eye : Nat) (taps : List Nat) : FieldWork eyeOffs s (s.adaptLane d lane ctle eye taps) := by
  have heye := ((FieldWork.refl eyeOffs s).wrn d.n PHY.RX_EQ_CTLE (min 12 ctle) lane).trans
    (setEye_work _ d lane (bits eye 16 16) (bits eye 0 16))
  obtain ⟨hframe, hoffs⟩ := setTaps_work ((s.wrn d.n PHY.RX_EQ_CTLE (min 12 ctle) lane).setEye d lane (bits eye 16 16) (bits eye 0 16)) d lane taps
  exact heye.ite (heye.trans ⟨hframe, hoffs.mono⟩)

theorem adaptLane_height (ctle eye : Nat) (taps : List Nat) (j : Nat) : (s.adaptLane d lane ctle eye taps).rdn d.n PHY.EYE_HEIGHT j =
    ((s.wrn d.n PHY.RX_EQ_CTLE (min 12 ctle) lane).setEye d lane (bits eye 16 16) (bits eye 0 16)).rdn d.n PHY.EYE_HEIGHT j := by
  unfold State.adaptLane
  dsimp only
  split
  · rfl
  · exact (setTaps_work _ d lane taps).2 d.n PHY.EYE_HEIGHT j (by decide) (by decide)

theorem adaptLane_height_same (ctle eye : Nat) (taps : List Nat) :
    (s.adaptLane d lane ctle eye taps).rdn d.n PHY.EYE_HEIGHT lane = bits eye 0 16 := by
  rw [adaptLane_height, setEye_height, rdn_wrn_same]
  exact bits_mod eye 0 16

theorem adaptLane_height_other (ctle eye : Nat) (taps : List Nat) {j : Nat} (h : j % 8192 ≠ lane % 8192) :
    (s.adaptLane d lane ctle eye taps).rdn d.n PHY.EYE_HEIGHT j = s.rdn d.n PHY.EYE_HEIGHT j := by
  rw [adaptLane_height, setEye_height, rdn_wrn_copy _ _ _ _ _ _ h, rdn_wrn_block _ _ _ _ _ (by decide), rdn_wrn_block _ _ _ _ _ (by decide)]

end

theorem adaptTwin_leaves (s : State) (ctle eye : Nat) (taps : List Nat) : RegsOnly s (s.adaptTwin ctle eye taps) ∧
    (s.adaptTwin ctle eye taps).rd TWINLINK.EYE_HEIGHT = bits eye 0 16 := by
  have hshown : (((s.wr TWINLINK.RX_EQ_CTLE (min 12 ctle)).wr TWINLINK.EYE_WIDTH (bits eye 16 16)).wr TWINLINK.EYE_HEIGHT
      (bits eye 0 16)).rd TWINLINK.EYE_HEIGHT = bits eye 0 16 := (rd_wr_same _ TWINLINK.EYE_HEIGHT _ 0).trans (bits_mod eye 0 16)
  unfold State.adaptTwin
  dsimp only
  split
  · exact ⟨⟨_, rfl⟩, hshown⟩
  · split
    · exact ⟨⟨_, rfl⟩, hshown⟩
    · exact ⟨⟨_, rfl⟩, (rd_wr_other _ _ 0 0 (by decide)).trans hshown⟩

/-- The lanes of a ring port that trains have adapted: lane 1 has power then. -/
def lanesAdapted (s : State) (d : Side) (ctle0 ctle1 eye0 eye1 : Nat) (taps : List Nat) : State :=
  (s.adaptLane d 0 ctle0 eye0 (taps.take 12)).adaptLane d 1 ctle1 eye1 ((taps.drop 12).take 12)

theorem exec_eqAdapted_ring (s : State) (d : Side) (ctle0 ctle1 eye0 eye1 : Nat) (taps : List Nat) (h : s.linkState (.ring d) = 4) :
    exec (.eqAdapted (.ring d) ctle0 ctle1 eye0 eye1 taps) s =
      .next ((lanesAdapted s d ctle0 ctle1 eye0 eye1 taps).setLinkState (.ring d) 5) :=
  congrArg Host.Outcome.next ((if_pos (by simp [h])).trans ((if_pos h).trans
    (congrArg (State.setLinkState · (.ring d) 5) (if_pos (by simp [State.lane1On, h])))))

theorem exec_eqAdapted_twin (s : State) (ctle0 ctle1 eye0 eye1 : Nat) (taps : List Nat) (h : s.linkState .twin = 4) :
    exec (.eqAdapted .twin ctle0 ctle1 eye0 eye1 taps) s = .next ((s.adaptTwin ctle0 eye0 taps).setLinkState .twin 5) :=
  congrArg Host.Outcome.next ((if_pos (by simp [h])).trans (if_pos h))

theorem eqAdapted_shows (s : State) (l : Link) (ctle0 ctle1 eye0 eye1 : Nat) (taps : List Nat) : s.linkState l = 4 →
    ∃ t, exec (.eqAdapted l ctle0 ctle1 eye0 eye1 taps) s = .next t ∧ t.linkState l = 5 ∧
      (match l with
       | .ring d => t.rdn d.n PHY.EYE_HEIGHT 0 = bits eye0 0 16 ∧ t.rdn d.n PHY.EYE_HEIGHT 1 = bits eye1 0 16
       | .twin => t.rd TWINLINK.EYE_HEIGHT = bits eye0 0 16) ∧
      t = { s with regs := t.regs, msix := t.msix, sent := t.sent } := by
  intro h
  cases l with
  | ring d =>
    refine ⟨_, exec_eqAdapted_ring s d ctle0 ctle1 eye0 eye1 taps h, linkState_setLinkState _ (.ring d) (by decide), ⟨?_, ?_⟩, ?_⟩
    · rw [State.setLinkState, rdn_wrn_block _ _ _ _ _ (by decide), lanesAdapted, adaptLane_height_other _ _ _ _ _ _ (by decide)]
      exact adaptLane_height_same s d 0 ctle0 eye0 (taps.take 12)
    · rw [State.setLinkState, rdn_wrn_block _ _ _ _ _ (by decide)]
      exact adaptLane_height_same _ d 1 ctle1 eye1 ((taps.drop 12).take 12)
    · obtain ⟨⟨rs, m, k, hframe⟩, -⟩ := (adaptLane_work s d 0 ctle0 eye0 (taps.take 12)).trans
        (adaptLane_work _ d 1 ctle1 eye1 ((taps.drop 12).take 12))
      rw [lanesAdapted, hframe]
      rfl
  | twin =>
    obtain ⟨⟨rs, hframe⟩, hshown⟩ := adaptTwin_leaves s ctle0 eye0 taps
    refine ⟨_, exec_eqAdapted_twin s ctle0 ctle1 eye0 eye1 taps h, linkState_setLinkState _ .twin (by decide), ?_, ?_⟩
    · exact (rd_wr_other _ 5 0 0 (by decide)).trans hshown
    · rw [hframe]
      rfl

/-! ### Steps 5 to 8: lock, deskew, qualification, up (R69, R73, R156) -/

theorem codewordLock_locks (s : State) (l : Link) (good : Nat) (h : s.linkState l = 5) (hgood : 4 ≤ good) :
    ∃ t, exec (.codewordLock l good) s = .next t ∧ t.linkState l = (if l = .twin then 7 else 6) ∧
      t = { s with regs := t.regs, timers := t.timers } := by
  have hlock : (decide (s.linkState l = 5) && decide (4 ≤ good)) = true := by simp [h, hgood]
  cases l with
  | ring d =>
    exact ⟨(s.wrn d.n PHY.PHY_STAT_CW_LOCK (if s.laneMode (.ring d.opp) = 2 then 3 else 1)).setLinkState (.ring d) 6,
      congrArg Host.Outcome.next (if_pos hlock), linkState_setLinkState _ (.ring d) (by decide), rfl⟩
  | twin =>
    exact ⟨(s.setLinkState .twin 7).start (tQual .twin) (ms 1), congrArg Host.Outcome.next (if_pos hlock),
      linkState_stored (s := s) (by decide) rfl, rfl⟩

theorem phyOf_updPhy (s : State) (l : Link) (f : Phy → Phy) : (s.updPhy l f).phyOf l = f (s.phyOf l) := get_upd_same _ _ _ _

theorem deskewDone_qualifies (s : State) (d : Side) (skew : Nat) (h : s.linkState (.ring d) = 6) :
    ∃ t, exec (.deskewDone d false skew) s = .next t ∧ t.linkState (.ring d) = 7 ∧ (t.phyOf (.ring d)).skew = skew ∧
      Tbl.find t.timers (tQual (.ring d)) = some (s.mono + ms 1) ∧ exec (.deskewDone d true skew) s = .next s ∧
      t = { s with regs := t.regs, phy := t.phy, timers := t.timers } := by
  refine ⟨_, congrArg Host.Outcome.next (if_pos (by simp [h])),
    linkState_stored (s := s.updPhy (.ring d) (fun p => { p with skew := skew })) (by decide) rfl, ?_, find_start_same _ _ _, congrArg Host.Outcome.next (if_neg (by simp)), rfl⟩
  exact congrArg Phy.skew (phyOf_updPhy s (.ring d) (fun p => { p with skew := skew }))

/-- This end of a link has qualified: lane-ready blocks leave (R73). -/
def endQualified (s : State) (d : Side) : State :=
  (((s.updPhy (.ring d) (fun p => { p with qualified := true })).setSynt (.ring d) 1).stop (tQual (.ring d))).emit
    (.maint d.code (.laneReady 0))

theorem endQualified_phy (s : State) (d : Side) :
    (endQualified s d).phyOf (.ring d) = { s.phyOf (.ring d) with qualified := true } :=
  phyOf_updPhy s (.ring d) (fun p => { p with qualified := true })

theorem linkQualified_readies (s : State) (d : Side) (peer : Nat) (h : s.linkState (.ring d) = 7)
    (hdue : s.due (tQual (.ring d)) = true) (hfar : (s.phyOf (.ring d)).farReady = false) :
    ∃ t, exec (.linkQualified (.ring d) peer) s = .next t ∧ (t.phyOf (.ring d)).qualified = true ∧
      t.sent = s.sent ++ [.maint d.code (.laneReady 0)] ∧ t.linkState (.ring d) = 7 ∧
      t = { s with regs := t.regs, phy := t.phy, timers := t.timers, sent := t.sent } := by
  have hphy := endQualified_phy s d
  have hnot : ¬ ((endQualified s d).phyOf (.ring d)).farReady = true :=
    Bool.eq_false_iff.mp ((congrArg Phy.farReady hphy).trans hfar)
  have hexec : exec (.linkQualified (.ring d) peer) s = .next (endQualified s d) :=
    congrArg Host.Outcome.next ((if_pos (by simp [h, hdue])).trans ((if_neg (by simp)).trans (if_neg hnot)))
  exact ⟨_, hexec, congrArg Phy.qualified hphy, rfl, (linkState_setSynt _ (.ring d) 1).trans h, rfl⟩

/-- A mode request that is lost shows on page 0 alone. -/
theorem loseReq_pages (s : State) (cause : Nat) : PagesBut s (s.loseReq cause) [0] := by
  unfold State.loseReq
  split
  · exact pagesBut_refl s _
  · have hend : PagesBut s (s.endReq.wr DEVICE.MODE_STAT_LOADING 0) [0] :=
      pagesBut_trans (pagesBut_wrn s 0 DEVICE.MODE_STAT_PENDING 0 0 (by decide) (by decide))
        (pagesBut_wrn s.endReq 0 DEVICE.MODE_STAT_LOADING 0 0 (by decide) (by decide))
    exact pagesBut_trans hend (pagesBut_trans (pagesBut_wrn _ 0 DEVICE.MODE_STAT_REFUSE_CAUSE cause 0 (by decide) (by decide))
      (pagesBut_raise _ 0 1 (by decide)))

/-- A twin whose peer reports the same index: INDEX_CLASH, and a mode request in progress is lost (R14). -/
def indexClash (s : State) : State := ((s.wr TWINLINK.LINK_STAT_INDEX_CLASH 1).raise 0x0C 3).loseReq 6

theorem indexClash_shows (s : State) : (indexClash s).linkState .twin = s.linkState .twin ∧
    (indexClash s).rd TWINLINK.LINK_STAT_INDEX_CLASH = 1 ∧ event (indexClash s) 0x0C 3 = true := by
  have hpages := loseReq_pages ((s.wr TWINLINK.LINK_STAT_INDEX_CLASH 1).raise 0x0C 3) 6
  have hrd : ∀ g : Fld, InPage g → g.page + 0 ∉ [0] → g.off ≠ HDR.INT_STAT_EVENTS.off →
      (indexClash s).rd g = (s.wr TWINLINK.LINK_STAT_INDEX_CLASH 1).rd g := fun g hg hpg hoff =>
    (rdn_of_pagesBut hpages 0 g 0 hg hpg).trans (rdn_raise_off _ _ 3 0 0 hg hoff)
  refine ⟨?_, ?_, ?_⟩
  · rw [linkState_twin, linkState_twin, hrd _ (by decide) (by decide) (by decide)]
    exact rd_wr_other s 1 0 0 (by decide)
  · rw [hrd _ (by decide) (by decide) (by decide)]
    exact rd_wr_same s TWINLINK.LINK_STAT_INDEX_CLASH 1 0
  · have hkept : event (indexClash s) 0x0C 3 = event ((s.wr TWINLINK.LINK_STAT_INDEX_CLASH 1).raise 0x0C 3) 0x0C 3 :=
      congrArg (bitOf · 3) (rdn_of_pagesBut hpages 0x0C HDR.INT_STAT_EVENTS 0 (by decide) (by decide))
    rw [hkept]
    exact event_raise_same _ 0x0C 3 (by decide)

theorem linkQualified_clashes (s : State) (h : s.linkState .twin = 7) (hdue : s.due (tQual .twin) = true) (htwin : s.isTwin = true) :
    ∃ t, exec (.linkQualified .twin s.otp.index) s = .next t ∧ t.linkState .twin = 9 ∧ t.rd TWINLINK.LINK_STAT_INDEX_CLASH = 1 ∧
      t.rd TWINLINK.LINK_STAT_DOWN_CAUSE = 9 ∧ event t 0x0C 3 = true := by
  obtain ⟨hstate, hclash, hevent⟩ := indexClash_shows s
  have hexec : exec (.linkQualified .twin s.otp.index) s = .next (lowered (indexClash s) .twin 9) :=
    congrArg Host.Outcome.next ((if_pos (by simp [h, hdue])).trans ((if_pos (by simp [htwin])).trans
      (linkDown_twin_training _ 9 (by rw [← indexClash, hstate, h]; decide))))
  have hrd : ∀ g, (lowered (indexClash s) .twin 9).rd g = (halted (indexClash s) .twin 9).rd g := fun g => lowered_rdn _ .twin 9 0 g 0
  refine ⟨_, hexec, ?_, ?_, ?_, ?_⟩
  · rw [linkState_twin, hrd, ← linkState_twin]
    exact halted_linkState _ .twin 9
  · rw [hrd, halted_clash]
    exact hclash
  · rw [hrd, halted_cause_twin]
    rfl
  · rw [event, lowered_rdn, ← event, (halted_offs _ .twin 9).event]
    exact hevent

/-! ### The obligation -/

/-- Settles O13: each command of bring-up is one store of STATE beside the registers of its step; a link that fails is lowered,
and one that comes up opens its output. -/
theorem linkBringUpTakesTheStepsInOrder : Obligations.LinkBringUpTakesTheStepsInOrder := by
  unfold Obligations.LinkBringUpTakesTheStepsInOrder
  refine ⟨phyBringUpStart_starts, lanePllLocked_trains, trainingComplete_ring, trainingComplete_twin, trainFail_holdsOff,
    eqAdapted_shows, codewordLock_locks, deskewDone_qualifies, linkQualified_readies, linkQualified_clashes,
    fun s l h hqualified hfenced => ?_⟩
  exact ⟨_, congrArg Host.Outcome.next ((if_pos h).trans (if_pos hqualified)), linkUp_shows s l hfenced⟩

end Sys2Proof.Proofs
end

section
/-! PROOFS. A link goes down, counts its codewords, retrains and leaves hold-off (R72, R74, R75, R82, R83, R145, R156). -/

set_option Elab.async false

namespace Sys2Proof.Proofs

open Sys2Proof.Machine Sys2Proof.Safety Sys2Proof.Laws

/-! ### Down conditions (R74, R156) -/

theorem linkDown_ring_falls (s : State) (d : Side) (cause skew : Nat) (h : s.linkState (.ring d) = 8) (_hup : (s.out d.code).down = false)
    (hskew : cause = 4 → s.skewed (.ring d) skew = true) :
    ∃ t, exec (.linkDown (.ring d) ⟨cause, skew⟩) s = .next t ∧ t.linkState (.ring d) = 9 ∧
      t.rdn d.n PHY.PHY_STAT_DOWN_CAUSE = cause % 2 ^ PHY.PHY_STAT_DOWN_CAUSE.w ∧ event t (8 + d.n) 1 = true ∧
      Emit.maint d.code (.remoteFault cause) ∈ t.sent ∧ (t.out d.code).down = true ∧ t.outOpen d.code = false ∧
      Tbl.find t.timers (tPhy (.ring d)) = some (s.mono + s.holdoff (.ring d)) := by
  have hfalls : (decide (s.linkState (.ring d) = 8) && !(decide (cause = 4) && !s.skewed (.ring d) skew) &&
      !(decide (Link.ring d = .twin) && (decide (cause = 4) || (decide (cause = 5) && decide (s.role = 2))))) = true := by
    by_cases hcause : cause = 4
    · simp [h, hskew hcause]
    · simp [h, hcause]
  obtain ⟨hstate, hshown, hevent, hsent, htimer⟩ := linkDown_ring_shows s d cause h
  obtain ⟨-, hdown⟩ := linkDown_ring_kept s d cause h
  exact ⟨_, congrArg Host.Outcome.next (if_pos hfalls), hstate, hshown, hevent, hsent, hdown, by simp [State.outOpen, hdown], htimer⟩

theorem linkDown_twin_falls (s : State) (cause skew : Nat) (h : s.linkState .twin = 8) (hskew : cause ≠ 4)
    (hsynt : ¬(cause = 5 ∧ s.role = 2)) :
    ∃ t, exec (.linkDown .twin ⟨cause, skew⟩) s = .next t ∧ t.linkState .twin = 9 ∧
      t.rd TWINLINK.LINK_STAT_DOWN_CAUSE = cause % 2 ^ TWINLINK.LINK_STAT_DOWN_CAUSE.w ∧ event t 0x0C 1 = true := by
  have hfalls : (decide (s.linkState .twin = 8) && !(decide (cause = 4) && !s.skewed .twin skew) &&
      !(decide (Link.twin = .twin) && (decide (cause = 4) || (decide (cause = 5) && decide (s.role = 2))))) = true := by
    simpa [h, hskew] using not_and_or.mp hsynt
  exact ⟨_, congrArg Host.Outcome.next (if_pos hfalls), linkDown_twin_shows s cause h⟩

theorem linkDown_twin_skew_ignored (s : State) (skew : Nat) : exec (.linkDown .twin ⟨4, skew⟩) s = .next s :=
  congrArg Host.Outcome.next (if_neg (by simp))

/-! ### Uncorrectable codewords and their windows (R72, R83) -/

theorem rollWindow_frame (s : State) (l : Link) : ∃ p ts, s.rollWindow l = { s with phy := p, timers := ts } := by
  unfold State.rollWindow
  split
  · exact ⟨_, _, rfl⟩
  · split <;> exact ⟨_, _, rfl⟩

/-- The next window begins where one of the last ended, and within 1 ms (R72). -/
theorem uncWindowEnd_follows (s : State) (l : Link) (a : Nat) (h : Tbl.find s.timers (tUnc l) = some a) (hended : a ≤ s.mono) :
    ∃ t b, exec (.uncWindowEnd l) s = .next t ∧ (t.phyOf l).winCnt = 0 ∧ Tbl.find t.timers (tUnc l) = some b ∧
      s.mono < b ∧ b ≤ s.mono + ms 1 ∧ (b - a) % ms 1 = 0 ∧
      TimersBut s t [tUnc l] ∧ t = { s with phy := t.phy, timers := t.timers } := by
  have hroll : s.rollWindow l =
      (s.updPhy l (fun p => { p with winCnt := 0 })).start (tUnc l) (a + ((s.mono - a) / ms 1 + 1) * ms 1 - s.mono) := by
    unfold State.rollWindow
    rw [h]
    exact if_neg (Nat.not_lt.mpr hended)
  have hlast : (s.mono - a) / ms 1 * ms 1 ≤ s.mono - a := Nat.div_mul_le_self _ _
  have hnext : s.mono - a < ((s.mono - a) / ms 1 + 1) * ms 1 := 
    (Nat.lt_mul_div_succ _ (by decide)).trans_eq (Nat.mul_comm _ _)
  have hb : s.mono + (a + ((s.mono - a) / ms 1 + 1) * ms 1 - s.mono) = a + ((s.mono - a) / ms 1 + 1) * ms 1 := by omega
  have hwindow : ((s.mono - a) / ms 1 + 1) * ms 1 = (s.mono - a) / ms 1 * ms 1 + ms 1 := Nat.succ_mul _ _
  refine ⟨_, a + ((s.mono - a) / ms 1 + 1) * ms 1, congrArg Host.Outcome.next hroll, ?_, ?_, by omega, by omega, ?_,
    timersBut_start _ _ _, rfl⟩
  · exact congrArg Phy.winCnt (phyOf_updPhy s l (fun p => { p with winCnt := 0 }))
  · exact (find_start_same _ _ _).trans (congrArg some hb)
  · rw [Nat.add_sub_cancel_left]
    exact Nat.mul_mod_left _ _

theorem abandonTransit_frame (s : State) (d : Side) :
    ∃ rs rx tx l, s.abandonTransit d = { s with regs := rs, rx := rx, tx := tx, sent := l } := by
  unfold State.abandonTransit
  split <;> exact ⟨_, _, _, _, rfl⟩

/-- Where the counters of errored and abandoned frames stand. -/
def abandonOffs : List Nat := [MAC.RX_ERRORED_COUNT.off, MAC.ABANDONED_COUNT.off]

theorem abandonTransit_offs (s : State) (d : Side) : OffsBut abandonOffs s (s.abandonTransit d) := by
  have herrored : ∀ u : State, u.regs = s.regs → OffsBut abandonOffs s (u.satn d.n MAC.RX_ERRORED_COUNT) := fun u hu =>
    ((OffsBut.refl _ s).sameRegs hu).wrn d.n MAC.RX_ERRORED_COUNT _ 0
  unfold State.abandonTransit
  split
  · exact (((herrored (s.emit (.abandon d.opp.code)) rfl).sameRegs rfl).wrn d.opp.n MAC.ABANDONED_COUNT _ 0).sameRegs rfl
  · exact (((herrored (s.emit (.abandon d.opp.code)) rfl).sameRegs rfl).wrn d.opp.n MAC.ABANDONED_COUNT _ 0).sameRegs rfl
  · exact (herrored s rfl).sameRegs rfl
  · exact OffsBut.refl _ s
  · exact (OffsBut.refl _ s).sameRegs rfl

/-- An uncorrectable codeword is counted, abandons what passes through, and adds to its window (R72). -/
def uncTallied (s : State) (d : Side) (lane : Nat) : State :=
  ((s.satn d.n PHY.UNC_COUNT (lane % 2)).abandonTransit d).updPhy (.ring d) (fun p =>
    { p with winCnt := p.winCnt + 1, run0 := if lane = 0 then 1 else p.run0, run1 := if lane = 0 then p.run1 else 1 })

section
variable (s : State) (d : Side) (lane : Nat)

theorem uncTallied_frame : ∃ rs p rx tx l, uncTallied s d lane = { s with regs := rs, phy := p, rx := rx, tx := tx, sent := l } := by
  obtain ⟨rs, rx, tx, l, h⟩ := abandonTransit_frame (s.satn d.n PHY.UNC_COUNT (lane % 2)) d
  unfold uncTallied
  rw [h]
  exact ⟨_, _, _, _, _, rfl⟩

theorem uncTallied_offs : OffsBut (PHY.UNC_COUNT.off :: abandonOffs) s (uncTallied s d lane) := by
  have hcount := (OffsBut.refl (PHY.UNC_COUNT.off :: abandonOffs) s).wrn d.n PHY.UNC_COUNT
    (min (s.rdn d.n PHY.UNC_COUNT (lane % 2) + 1) (2 ^ PHY.UNC_COUNT.w - 1)) (lane % 2)
  exact (hcount.trans (abandonTransit_offs _ d).mono).sameRegs rfl

theorem uncTallied_count : (uncTallied s d lane).rdn d.n PHY.UNC_COUNT (lane % 2) =
    min (s.rdn d.n PHY.UNC_COUNT (lane % 2) + 1) (2 ^ PHY.UNC_COUNT.w - 1) := by
  rw [uncTallied, rdn_updPhy, abandonTransit_offs _ d d.n PHY.UNC_COUNT (lane % 2) (by decide) (by decide), State.satn, rdn_wrn_same]
  have := Nat.two_pow_pos PHY.UNC_COUNT.w
  exact Nat.mod_eq_of_lt (by omega)

theorem uncTallied_window : ((uncTallied s d lane).phyOf (.ring d)).winCnt = (s.phyOf (.ring d)).winCnt + 1 := by
  obtain ⟨rs, rx, tx, l, h⟩ := abandonTransit_frame (s.satn d.n PHY.UNC_COUNT (lane % 2)) d
  rw [uncTallied, phyOf_updPhy, h]
  rfl

/-- Neither the third in a row nor above UNC_LIMIT: the codeword is counted and raised, and the port stays up. -/
theorem exec_uncorrectable_ring (h : s.linkState (.ring d) = 8)
    (hfew : ((s.rollWindow (.ring d)).phyOf (.ring d)).winCnt < s.uncLimit (.ring d)) :
    exec (.uncorrectableCodeword (.ring d) lane false) s = .next ((uncTallied (s.rollWindow (.ring d)) d lane).raise (8 + d.n) 2) := by
  have hlimit : ((uncTallied (s.rollWindow (.ring d)) d lane).raise (8 + d.n) 2).uncLimit (.ring d) = s.uncLimit (.ring d) := by
    obtain ⟨p, ts, hroll⟩ := rollWindow_frame s (.ring d)
    refine (rdn_raise_off _ _ 2 d.n 0 (by decide) (by decide)).trans
      ((uncTallied_offs _ d lane d.n PHY.PHY_DOWN_CFG_UNC_LIMIT 0 (by decide) (by decide)).trans ?_)
    rw [hroll]
    rfl
  have hstays : ¬ ((uncTallied (s.rollWindow (.ring d)) d lane).raise (8 + d.n) 2).uncLimit (.ring d) <
      ((s.rollWindow (.ring d)).phyOf (.ring d)).winCnt + 1 := by
    rw [hlimit]
    omega
  exact congrArg Host.Outcome.next ((if_neg (by rw [h]; decide)).trans ((if_pos h).trans
    ((if_neg (show ¬ 3 ≤ 0 + 1 by decide)).trans (if_neg hstays))))

theorem uncorrectable_ring_counts (h : s.linkState (.ring d) = 8) (hlane : lane < 2)
    (hfew : ((s.rollWindow (.ring d)).phyOf (.ring d)).winCnt < s.uncLimit (.ring d)) :
    ∃ t, exec (.uncorrectableCodeword (.ring d) lane false) s = .next t ∧ t.linkState (.ring d) = 8 ∧
      t.rdn d.n PHY.UNC_COUNT lane = min (s.rdn d.n PHY.UNC_COUNT lane + 1) (2 ^ PHY.UNC_COUNT.w - 1) ∧
      event t (8 + d.n) 2 = true ∧ (t.phyOf (.ring d)).winCnt = ((s.rollWindow (.ring d)).phyOf (.ring d)).winCnt + 1 ∧
      t = { s with regs := t.regs, phy := t.phy, rx := t.rx, tx := t.tx, timers := t.timers, msix := t.msix, sent := t.sent } := by
  obtain ⟨p, ts, hroll⟩ := rollWindow_frame s (.ring d)
  have hroll_rdn : ∀ g i, (s.rollWindow (.ring d)).rdn d.n g i = s.rdn d.n g i := fun g i => by rw [hroll]; rfl
  have hcount := uncTallied_count (s.rollWindow (.ring d)) d lane
  rw [hroll_rdn, Nat.mod_eq_of_lt hlane] at hcount
  refine ⟨_, exec_uncorrectable_ring s d lane h hfew, ?_, ?_, event_raise_same _ _ 2 (by decide), ?_, ?_⟩
  · rw [linkState_ring, rdn_raise_off _ _ 2 d.n 0 (by decide) (by decide),
      uncTallied_offs _ d lane d.n PHY.PHY_STAT_STATE 0 (by decide) (by decide), hroll_rdn]
    exact h
  · rw [rdn_raise_off _ _ 2 d.n lane (by decide) (by decide)]
    exact hcount
  · rw [State.phyOf, raise_phy]
    exact uncTallied_window (s.rollWindow (.ring d)) d lane
  · obtain ⟨m, l, hraise⟩ := raise_frame (uncTallied (s.rollWindow (.ring d)) d lane) (8 + d.n) 2
    obtain ⟨rs, p', rx, tx, l', htally⟩ := uncTallied_frame (s.rollWindow (.ring d)) d lane
    rw [hraise, htally, hroll]
    rfl

end

theorem uncorrectable_restarts (s : State) (l : Link) (lane : Nat) (follows : Bool) (h : s.linkState l = 7) :
    exec (.uncorrectableCodeword l lane follows) s = .next (s.start (tQual l) (ms 1)) := congrArg Host.Outcome.next (if_pos h)

/-! ### Eyes (R82) -/

theorem eyeLow_ring_raises (s : State) (d : Side) (lane height : Nat) (hlane : lane < 2) (hheight : height < 2 ^ 16)
    (h5 : 5 ≤ s.linkState (.ring d)) (h9 : s.linkState (.ring d) ≠ 9) (hon : lane = 1 → s.lane1On d = true)
    (hold : s.rdn d.n PHY.EYE_MIN_HEIGHT ≤ s.rdn d.n PHY.EYE_HEIGHT lane) (hlow : height < s.rdn d.n PHY.EYE_MIN_HEIGHT) :
    ∃ t, exec (.eyeLow (.ring d) lane height) s = .next t ∧ t.rdn d.n PHY.EYE_HEIGHT lane = height ∧ event t (8 + d.n) 3 = true ∧
      RegsBut s t [PHY.EYE_WIDTH.key d.n lane, PHY.EYE_HEIGHT.key d.n lane, intStat (8 + d.n)] ∧
      t = { s with regs := t.regs, msix := t.msix, sent := t.sent } := by
  have hmod : lane % 2 = lane := Nat.mod_eq_of_lt hlane
  have hused : ¬ (decide (lane % 2 = 1) && !s.lane1On d) = true := by
    by_cases h1 : lane = 1
    · simp [hon h1]
    · simp [hmod, h1]
  have hset : exec (.eyeLow (.ring d) lane height) s = .next (s.setEye d (lane % 2) (s.rdn d.n PHY.EYE_WIDTH (lane % 2)) height) :=
    congrArg Host.Outcome.next ((if_neg (by simp [h9, Nat.not_lt.mpr h5])).trans (if_neg hused))
  rw [hmod] at hset
  have hbelow : height % 2 ^ 16 < s.rdn d.n PHY.EYE_MIN_HEIGHT := (Nat.mod_le _ _).trans_lt hlow
  have hraised : s.setEye d lane (s.rdn d.n PHY.EYE_WIDTH lane) height =
      ((s.wrn d.n PHY.EYE_WIDTH (s.rdn d.n PHY.EYE_WIDTH lane) lane).wrn d.n PHY.EYE_HEIGHT height lane).raise (8 + d.n) 3 :=
    if_pos (Bool.and_eq_true_iff.mpr ⟨decide_eq_true hold, decide_eq_true hbelow⟩)
  rw [hraised] at hset
  refine ⟨_, hset, ?_, event_raise_same _ _ 3 (by decide), ?_, ?_⟩
  · rw [rdn_raise_off _ _ 3 d.n lane (by decide) (by decide), rdn_wrn_same]
    exact Nat.mod_eq_of_lt hheight
  · exact regsBut_trans (regsBut_wrn s d.n PHY.EYE_WIDTH _ lane (by simp))
      (regsBut_trans (regsBut_wrn _ d.n PHY.EYE_HEIGHT height lane (by simp)) (regsBut_mono (regsBut_raise _ (8 + d.n) 3) (by simp)))
  · obtain ⟨m, l, hframe⟩ := raise_frame
      ((s.wrn d.n PHY.EYE_WIDTH (s.rdn d.n PHY.EYE_WIDTH lane) lane).wrn d.n PHY.EYE_HEIGHT height lane) (8 + d.n) 3
    rw [hframe]
    rfl

theorem eyeLow_twin_shows (s : State) (lane height : Nat) (h5 : 5 ≤ s.linkState .twin) (h9 : s.linkState .twin ≠ 9) :
    ∃ t, exec (.eyeLow .twin lane height) s = .next t ∧ t.rd TWINLINK.EYE_HEIGHT = height % 2 ^ 16 ∧ t = { s with regs := t.regs } :=
  ⟨_, congrArg Host.Outcome.next (if_neg (by simp [h9, Nat.not_lt.mpr h5])), rd_wr_same s TWINLINK.EYE_HEIGHT height 0, rfl⟩

/-! ### RETRAIN and the end of hold-off (R75, R82) -/

/-- The value written matters to the judgement of LOCK alone (R35, R41). -/
theorem permitted_value {s : State} {p : Port} {pg v : Nat} (h : Permitted s p pg 0x40 v) (w : Nat) : Permitted s p pg 0x40 w := h

theorem heard_linkAllowed (s : State) (p : Port) (l : Link) : (s.heard p).linkAllowed l = s.linkAllowed l := by
  obtain ⟨ts, h⟩ := heard_frame s p
  rw [h]
  cases l <;> rfl

theorem linkState_setRetrain (s : State) (l : Link) (v : Nat) : (s.setRetrain l v).linkState l = s.linkState l := by
  cases l with
  | ring d => exact rdn_wrn_block s d.n v 0 0 (by decide)
  | twin => exact rdn_wrn_block s 0 v 0 0 (by decide)

/-- A link that was up and goes down is in hold-off with its cause. -/
theorem linkDown_shows_cause (s : State) (l : Link) (cause : Nat) : s.linkState l = 8 → (s.linkDown l cause).linkState l = 9 ∧
    (match l with
     | .ring d => (s.linkDown l cause).rdn d.n PHY.PHY_STAT_DOWN_CAUSE = cause % 2 ^ PHY.PHY_STAT_DOWN_CAUSE.w
     | .twin => (s.linkDown l cause).rd TWINLINK.LINK_STAT_DOWN_CAUSE = cause % 2 ^ TWINLINK.LINK_STAT_DOWN_CAUSE.w) := by
  intro h
  cases l with
  | ring d =>
    obtain ⟨hstate, hcause, -⟩ := linkDown_ring_shows s d cause h
    exact ⟨hstate, hcause⟩
  | twin =>
    obtain ⟨hstate, hcause, -⟩ := linkDown_twin_shows s cause h
    exact ⟨hstate, hcause⟩

theorem retrain_lowers (s : State) (l : Link) (hallowed : s.linkAllowed l = true) (h : s.linkState l = 8) :
    s.retrain l = (s.setRetrain l 1).linkDown l 7 :=
  (if_neg (by simp [hallowed])).trans ((if_neg (by simp [h])).trans (if_neg (by rw [h]; decide)))

theorem retrain_holdsOff (s : State) (p : Port) (l : Link) (v : Nat) :
    Permitted s p (phyPage l) 0x40 v → s.linkAllowed l = true → s.linkState l = 8 →
    ∃ t, exec (.retrain p l) s = .next t ∧ t.linkState l = 9 ∧ done p ∈ t.sent ∧
      (match l with
       | .ring d => t.rdn d.n PHY.PHY_STAT_DOWN_CAUSE = 7
       | .twin => t.rd TWINLINK.LINK_STAT_DOWN_CAUSE = 7) := by
  intro hpermitted hallowed h
  have hstate : (s.heard p).linkState l = 8 := (linkState_sameRegs (heard_regs s p) l).trans h
  have hexec : exec (.retrain p l) s = .next ((((s.heard p).setRetrain l 1).linkDown l 7).emit (done p)) :=
    congrArg Host.Outcome.next ((access_permitted s p (phyPage l) 0x40 _ _ (permitted_value hpermitted _)).trans
      (congrArg (State.emit · (done p)) (retrain_lowers _ l ((heard_linkAllowed s p l).trans hallowed) hstate)))
  obtain ⟨hdown, hcause⟩ := linkDown_shows_cause ((s.heard p).setRetrain l 1) l 7 ((linkState_setRetrain _ l 1).trans hstate)
  refine ⟨_, hexec, (linkState_sameRegs (emit_regs _ _) l).trans hdown, List.mem_append_right _ (List.mem_singleton_self _), ?_⟩
  cases l with
  | ring d => exact hcause
  | twin => exact hcause

theorem linkRestart_starts (s : State) (l : Link) : (s.linkRestart l).linkState l = 1 :=
  (linkState_sameRegs (stop_regs _ _) l).trans ((linkState_setRetrain _ l 0).trans (linkState_setLinkState s l (by decide)))

theorem holdoffExpiry_restarts (s : State) (l : Link) (h : s.linkState l = 9) (hdue : s.due (tPhy l) = true)
    (hallowed : s.linkAllowed l = true) (hauto : s.autoTrain l = true) :
    ∃ t, exec (.holdoffExpiry l) s = .next t ∧ t.linkState l = 1 ∧ t.running (tPhy l) = false ∧
      t = { s with regs := t.regs, timers := t.timers } := by
  obtain ⟨rs, ts, hframe⟩ := linkRestart_frame s l
  refine ⟨_, congrArg Host.Outcome.next ((if_pos (by simp [h, hdue])).trans (if_pos (by simp [hallowed, hauto]))),
    linkRestart_starts s l, running_stop _ _, ?_⟩
  rw [hframe]

/-! ### The obligation -/

/-- Settles O14: a link that goes down is lowered, then told to the switch core and its units; codewords and eyes touch their own
counters; RETRAIN lowers a link that is up, and the end of hold-off starts it again. -/
theorem linkDownAndRetrainComplete : Obligations.LinkDownAndRetrainComplete := by
  unfold Obligations.LinkDownAndRetrainComplete
  exact ⟨linkDown_ring_falls, linkDown_twin_falls, linkDown_twin_skew_ignored, uncorrectable_ring_counts, uncorrectable_restarts,
    uncWindowEnd_follows, eyeLow_ring_raises, eyeLow_twin_shows, retrain_holdsOff, holdoffExpiry_restarts⟩

end Sys2Proof.Proofs
end

section
/-! PROOFS. Ballots, sheds and joins of lanes (R76-R80, R85, R86). -/

set_option Elab.async false

namespace Sys2Proof.Proofs

open Sys2Proof.Machine Sys2Proof.Safety Sys2Proof.Laws

/-! ### The lane unit of a direction -/

theorem lane_updLane_same (s : State) (d : Side) (f : LaneDir → LaneDir) : (s.updLane d f).lane d = f (s.lane d) := get_upd_same _ _ _ _

theorem lane_updLane_other (s : State) {d e : Side} (f : LaneDir → LaneDir) (h : e ≠ d) : (s.updLane d f).lane e = s.lane e :=
  get_upd_other _ _ _ _ _ (by revert h; cases d <;> cases e <;> decide)

theorem ballotNeed_frame (s : State) (d : Side) (need : Bool) : ∃ ls, s.ballotNeed d need = { s with lanes := ls } := by
  cases need <;> exact ⟨_, rfl⟩

theorem ballotNeed_lane (s : State) (d : Side) (need : Bool) :
    (s.ballotNeed d need).lane d = { s.lane d with asked := (s.lane d).asked || need } := by
  cases need with
  | false => simp [State.ballotNeed]
  | true => exact (lane_updLane_same s d _).trans (by simp)

theorem ballotNeed_lane_other (s : State) {d e : Side} (need : Bool) (h : e ≠ d) : (s.ballotNeed d need).lane e = s.lane e := by
  cases need with
  | false => rfl
  | true => exact lane_updLane_other s _ h

/-! ### A ballot leaves (R77) -/

/-- A ballot or an announcement leaves on direction `d`, the need noted and this hub's wish shown. -/
def ballotLeft (s : State) (d : Side) (need : Bool) (m : Maint) : State :=
  ((s.ballotNeed d need).wrn d.n MAC.LANE_STAT_WISH (bit (s.shedWish d))).sendMaint d m

section
variable (s : State) (d : Side) (need : Bool) {m : Maint} (hm : Stampless m)

include hm in
theorem ballotLeft_work : (∃ rs ls x l, ballotLeft s d need m = { s with regs := rs, lanes := ls, tx := x, sent := l }) ∧
    RegsBut s (ballotLeft s d need m) [MAC.LANE_STAT_WISH.key d.n 0] ∧ (ballotLeft s d need m).lanes = (s.ballotNeed d need).lanes := by
  obtain ⟨ls, hneed⟩ := ballotNeed_frame s d need
  obtain ⟨⟨x, l, hsent⟩, -⟩ := sendMaint_sent ((s.ballotNeed d need).wrn d.n MAC.LANE_STAT_WISH (bit (s.shedWish d))) d hm
  unfold ballotLeft
  rw [hsent, hneed]
  exact ⟨⟨_, _, _, _, rfl⟩, regsBut_wrn s d.n MAC.LANE_STAT_WISH _ 0 (List.mem_singleton_self _), rfl⟩

include hm in
/-- What tells whether a frame may leave, and the wishes of this hub, stand elsewhere than the wish shown. -/
theorem ballotLeft_reads (e : Side) : (ballotLeft s d need m).forwards e = s.forwards e ∧
    (ballotLeft s d need m).shedWish e = s.shedWish e ∧ (ballotLeft s d need m).portsUp = s.portsUp ∧
    (ballotLeft s d need m).linkState (.ring e) = s.linkState (.ring e) := by
  obtain ⟨⟨rs, ls, x, l, hframe⟩, hregs, -⟩ := ballotLeft_work s d need hm
  have htwin : (ballotLeft s d need m).isTwin = s.isTwin ∧ (ballotLeft s d need m).twin = s.twin := by
    rw [hframe]
    exact ⟨rfl, rfl⟩
  obtain ⟨hrole, hpeer⟩ := htwin
  have hstate : ∀ e : Side, (ballotLeft s d need m).linkState (.ring e) = s.linkState (.ring e) := fun e =>
    rdn_of_regsBut hregs e.n PHY.PHY_STAT_STATE 0 (by cases d <;> cases e <;> decide)
  have hdrives := rdn_of_regsBut hregs 0 TWIN.STAT_DRIVES 0 (by cases d <;> decide)
  have hpolicy := rdn_of_regsBut hregs e.n MAC.LANE_CTRL_POLICY 0 (by cases d <;> cases e <;> decide)
  have hfault := rdn_of_regsBut hregs e.n MAC.LANE_STAT_FAULT_WISH 0 (by cases d <;> cases e <;> decide)
  have heast := rdn_of_regsBut hregs 0 POWER.LEVERS_WISH_E 0 (by cases d <;> decide)
  have hwest := rdn_of_regsBut hregs 0 POWER.LEVERS_WISH_W 0 (by cases d <;> decide)
  refine ⟨?_, ?_, ?_, hstate e⟩
  · rw [State.forwards, hrole, State.rd, hdrives]
    rfl
  · unfold State.shedWish State.ownWish State.flag State.flagn State.rd
    rw [hpolicy, hfault, heast, hwest, hrole, hpeer]
  · rw [State.portsUp, hstate, hstate]
    rfl

include hm in
theorem ballotLeft_passed : Passed s (ballotLeft s d need m) d m := by
  obtain ⟨ls, hneed⟩ := ballotNeed_frame s d need
  refine passed_earlier (sendMaint_passed _ d hm) ?_ ?_
  · have hdrives : ((s.ballotNeed d need).wrn d.n MAC.LANE_STAT_WISH (bit (s.shedWish d))).rd TWIN.STAT_DRIVES =
        (s.ballotNeed d need).rd TWIN.STAT_DRIVES := rdn_wrn_other _ d.n 0 _ _ _ 0 0 (by cases d <;> decide)
    rw [State.forwards, hdrives, hneed]
    rfl
  · rw [linkState_ring, rdn_wrn_page _ _ _ _ _ _ (by decide) (by decide) (by cases d <;> decide), hneed]
    rfl

include hm in
/-- A frame that has passed stands while a ballot leaves. -/
theorem ballotLeft_keeps {r : State} {e : Side} {k : Maint} (h : Passed r s e k) : Passed r (ballotLeft s d need m) e k := by
  obtain ⟨ls, hneed⟩ := ballotNeed_frame s d need
  refine passed_later ?_ (sendMaint_sent _ d hm)
  rw [hneed]
  exact h

end

/-- The ballot that the coordinator sends around a direction: its own wish, need and flags (R77). -/
def ownBallot (s : State) (d : Side) : Maint := .ballot d.code (s.shedWish d) (s.lane d).need s.portsUp (s.lane d).ready

theorem laneBallotSend_passes (s : State) (hacting : s.acting = true) (hidle : s.running tBallot = false) :
    ∃ t, exec .laneBallotSend s = .next t ∧
      Passed s t .east (.ballot 0 (s.shedWish .east) (s.lane .east).need s.portsUp (s.lane .east).ready) ∧
      Passed s t .west (.ballot 1 (s.shedWish .west) (s.lane .west).need s.portsUp (s.lane .west).ready) ∧
      Tbl.find t.timers tBallot = some (s.mono + ms 1) ∧ RegsBut s t [MAC.LANE_STAT_WISH.key 0 0, MAC.LANE_STAT_WISH.key 2 0] ∧
      t = { s with regs := t.regs, lanes := t.lanes, tx := t.tx, timers := t.timers, sent := t.sent } := by
  set u := ballotLeft s .east (s.lane .east).need (ownBallot s .east) with hu
  have hexec : exec .laneBallotSend s =
      .next ((ballotLeft u .west (u.lane .west).need (ownBallot u .west)).start tBallot (ms 1)) :=
    congrArg Host.Outcome.next ((if_pos hacting).trans (every_idle s tBallot (ms 1) _ hidle))
  obtain ⟨⟨rs, ls, x, l, hframe⟩, hregs, hlanes⟩ := ballotLeft_work s .east (s.lane .east).need (m := ownBallot s .east) trivial
  obtain ⟨hforwards, hwish, hup, hstate⟩ := ballotLeft_reads s .east (s.lane .east).need (m := ownBallot s .east) trivial .west
  have hlane : u.lane .west = s.lane .west := by
    rw [hu, State.lane, hlanes]
    exact ballotNeed_lane_other s _ (by decide)
  have hballot : ownBallot u .west = ownBallot s .west := by rw [ownBallot, hu, hwish, hup, ← hu, hlane, ownBallot]
  rw [hballot] at hexec
  obtain ⟨⟨rs', ls', x', l', hframe'⟩, hregs', -⟩ := ballotLeft_work u .west (u.lane .west).need (m := ownBallot s .west) trivial
  have heast := ballotLeft_keeps u .west (u.lane .west).need (m := ownBallot s .west) trivial
    (ballotLeft_passed s .east (s.lane .east).need (m := ownBallot s .east) trivial)
  have hwest := passed_earlier (ballotLeft_passed u .west (u.lane .west).need (m := ownBallot s .west) trivial) hforwards hstate
  have hchanged := regsBut_trans (regsBut_mono hregs (ks' := [MAC.LANE_STAT_WISH.key 0 0, MAC.LANE_STAT_WISH.key 2 0]) (by decide))
    (regsBut_mono hregs' (by decide))
  refine ⟨_, hexec, heast, hwest, ?_, hchanged, ?_⟩
  · rw [find_start_same, hframe', hu, hframe]
  · rw [hframe', hu, hframe]
    rfl

theorem laneBallotRx_passes (s : State) (d : Side) (shed join allUp ready : Bool) :
    ∃ t, exec (.laneBallotRx d shed join allUp ready none) s = .next t ∧
      Passed s t d (.ballot d.code (shed && s.shedWish d) (join || (s.lane d).need) (allUp && s.portsUp) (ready && (s.lane d).ready)) ∧
      (t.lane d).asked = ((s.lane d).asked || join || (s.lane d).need) ∧
      RegsBut s t [MAC.LANE_STAT_WISH.key d.n 0] ∧
      t = { s with regs := t.regs, lanes := t.lanes, tx := t.tx, sent := t.sent } := by
  set m : Maint := .ballot d.code (shed && s.shedWish d) (join || (s.lane d).need) (allUp && s.portsUp) (ready && (s.lane d).ready) with hm
  have hstampless : Stampless m := trivial
  obtain ⟨⟨rs, ls, x, l, hframe⟩, hregs, hlanes⟩ := ballotLeft_work s d (join || (s.lane d).need) hstampless
  refine ⟨ballotLeft s d (join || (s.lane d).need) m, rfl, ballotLeft_passed s d _ hstampless, ?_, hregs, ?_⟩
  · rw [State.lane, hlanes, ← State.lane, ballotNeed_lane, Bool.or_assoc]
  · rw [hframe]

/-! ### The coordinator schedules a change (R76, R78, R79) -/

/-- A change of the lanes of direction `d` is scheduled 200 µs ahead and announced. -/
def laneAnnounced (s : State) (d : Side) (isJoin : Bool) : State :=
  ((s.updLane d (fun l => { l with sched := some (isJoin, s.fab + fns 200000), sentBlock := false, gotBlock := false })).wrn d.n
    MAC.LANE_STAT_PHASE 2).sendMaint d (.announce d.code isJoin (s.fab + fns 200000))

section
variable (s : State) (d : Side) (isJoin : Bool)

theorem laneAnnounced_leaves : ((laneAnnounced s d isJoin).lane d).sched = some (isJoin, s.fab + fns 200000) ∧
    Passed s (laneAnnounced s d isJoin) d (.announce d.code isJoin (s.fab + fns 200000)) ∧
    (laneAnnounced s d isJoin).rdn d.n MAC.LANE_STAT_PHASE = 2 ∧
    RegsBut s (laneAnnounced s d isJoin) [MAC.LANE_STAT_PHASE.key d.n 0] ∧
    ∃ rs ls x l, laneAnnounced s d isJoin = { s with regs := rs, lanes := ls, tx := x, sent := l } := by
  set u := (s.updLane d (fun l => { l with sched := some (isJoin, s.fab + fns 200000), sentBlock := false, gotBlock := false })).wrn d.n
    MAC.LANE_STAT_PHASE 2 with hu
  have hlane := lane_updLane_same s d
    (fun l => { l with sched := some (isJoin, s.fab + fns 200000), sentBlock := false, gotBlock := false })
  have hpassed := sendMaint_passed u d (m := .announce d.code isJoin (s.fab + fns 200000)) trivial
  have hforwards : u.forwards d = s.forwards d := by
    have hdrives : u.rd TWIN.STAT_DRIVES = s.rd TWIN.STAT_DRIVES := rdn_wrn_other _ d.n 0 _ _ _ 0 0 (by cases d <;> decide)
    rw [State.forwards, hdrives]
    rfl
  have hup : u.linkState (.ring d) = s.linkState (.ring d) :=
    rdn_wrn_page _ d.n d.n 2 0 0 (by decide) (by decide) (by cases d <;> decide)
  have hleft := passed_earlier hpassed hforwards hup
  obtain ⟨⟨x, l, hsent⟩, -⟩ := sendMaint_sent u d (m := .announce d.code isJoin (s.fab + fns 200000)) trivial
  have hstep : laneAnnounced s d isJoin = { u with tx := x, sent := l } := hsent
  rw [hsent] at hleft
  rw [hstep]
  exact ⟨congrArg LaneDir.sched hlane, hleft, rdn_wrn_same _ d.n MAC.LANE_STAT_PHASE 2 0,
    regsBut_wrn s d.n MAC.LANE_STAT_PHASE 2 0 (List.mem_singleton_self _), ⟨_, _, _, _, rfl⟩⟩

end

theorem laneBallotReturn_sheds (s : State) (d : Side) (ready : Bool) (hacting : s.acting = true) (hfree : (s.lane d).sched = none)
    (hmode : s.laneMode (.ring d) = 2) :
    ∃ t, exec (.laneBallotReturn d true false true ready) s = .next t ∧ (t.lane d).sched = some (false, s.fab + fns 200000) ∧
      Passed s t d (.announce d.code false (s.fab + fns 200000)) ∧
      t.rdn d.n MAC.LANE_STAT_PHASE = 2 ∧ RegsBut s t [MAC.LANE_STAT_PHASE.key d.n 0] ∧
      t = { s with regs := t.regs, lanes := t.lanes, tx := t.tx, sent := t.sent } := by
  have hexec : exec (.laneBallotReturn d true false true ready) s = .next (laneAnnounced s d false) := by
    change execLaneBallotReturn d true false true ready s = _
    unfold execLaneBallotReturn
    dsimp only
    rw [if_pos hacting, show s.ballotNeed d false = s from rfl, if_neg (by simp [hacting, hfree]), if_pos (by simp [hmode])]
    rfl
  obtain ⟨hsched, hpassed, hphase, hregs, rs, ls, x, l, hframe⟩ := laneAnnounced_leaves s d false
  refine ⟨_, hexec, hsched, hpassed, hphase, hregs, ?_⟩
  rw [hframe]

theorem laneBallotReturn_joins (s : State) (d : Side) (shed : Bool) (hacting : s.acting = true) (hfree : (s.lane d).sched = none)
    (hmode : s.laneMode (.ring d) = 1) :
    ∃ t, exec (.laneBallotReturn d shed true true true) s = .next t ∧ (t.lane d).sched = some (true, s.fab + fns 200000) := by
  set u := s.ballotNeed d true with hu
  have hacting' : u.acting = true := hacting
  have hmode' : u.laneMode (.ring d) = 1 := hmode
  have hfree' : (u.lane d).sched = none := by
    rw [hu, ballotNeed_lane]
    exact hfree
  have hexec : exec (.laneBallotReturn d shed true true true) s = .next (laneAnnounced u d true) := by
    change execLaneBallotReturn d shed true true true s = _
    unfold execLaneBallotReturn
    dsimp only
    rw [if_pos hacting, ← hu, if_neg (by simp [hacting', hfree']), if_neg (by simp [hmode']), if_pos (by simp [hmode'])]
    rfl
  obtain ⟨hsched, -⟩ := laneAnnounced_leaves u d true
  exact ⟨_, hexec, hsched⟩

theorem shedPauseStart_pauses (s : State) (d : Side) (at_ : Nat) (hsched : (s.lane d).sched = some (false, at_))
    (hnear : at_ ≤ s.fab + fns 20000) :
    ∃ t, exec (.shedPauseStart d) s = .next t ∧ t.paused d = true ∧ RegsBut s t [MAC.LANE_STAT_PHASE.key d.n 0] ∧
      t = { s with regs := t.regs } := by
  have hexec : exec (.shedPauseStart d) s = .next (s.wrn d.n MAC.LANE_STAT_PHASE 3) := by
    change execShedPauseStart d s = _
    unfold execShedPauseStart
    rw [hsched]
    exact congrArg Host.Outcome.next (if_pos hnear)
  exact ⟨_, hexec, decide_eq_true (rdn_wrn_same s d.n MAC.LANE_STAT_PHASE 3 0),
    regsBut_wrn s d.n MAC.LANE_STAT_PHASE 3 0 (List.mem_singleton_self _), rfl⟩

/-! ### The blocks of a change, sent and received (R78, R79, R85, R86) -/

/-- A change that has been sent and received: the mode stands, the phase is over, the change is counted. -/
def modeSet (s : State) (d : Side) (isJoin : Bool) : State :=
  ((((s.updLane d (fun _ => {})).wrn d.n MAC.LANE_STAT_MODE (if isJoin then 2 else 1)).wrn d.n MAC.LANE_STAT_PHASE 0).incn d.n
    MAC.LANE_CHG_CNT_COUNT).stop (tJoin d)

section
variable (s : State) (d : Side) (isJoin : Bool)

theorem laneChanged_complete (h : (s.lane d).sentBlock = true ∧ (s.lane d).gotBlock = true) :
    s.laneChanged d isJoin = (modeSet s d isJoin).raise (9 + d.n) (bit isJoin) := if_pos (by simp [h])

theorem laneChanged_waits (h : ¬((s.lane d).sentBlock = true ∧ (s.lane d).gotBlock = true)) : s.laneChanged d isJoin = s :=
  if_neg (by simpa using h)

/-- A completed change touches its MAC page alone, and takes nothing back. -/
theorem laneChanged_keeps : PagesBut s (s.laneChanged d isJoin) [9 + d.n] ∧ s.sent <+: (s.laneChanged d isJoin).sent := by
  by_cases h : (s.lane d).sentBlock = true ∧ (s.lane d).gotBlock = true
  · have hset : PagesBut s (modeSet s d isJoin) [9 + d.n] :=
      pagesBut_trans (pagesBut_wrn (s.updLane d (fun _ => {})) d.n MAC.LANE_STAT_MODE (if isJoin then 2 else 1) 0 (by decide)
        (List.mem_singleton_self _)) (pagesBut_trans (pagesBut_wrn _ d.n MAC.LANE_STAT_PHASE 0 0 (by decide) (List.mem_singleton_self _))
        (pagesBut_wrn _ d.n MAC.LANE_CHG_CNT_COUNT _ 0 (by decide) (List.mem_singleton_self _)))
    rw [laneChanged_complete s d isJoin h]
    exact ⟨pagesBut_trans hset (pagesBut_raise _ _ _ (List.mem_singleton_self _)), raise_sent (modeSet s d isJoin) _ _⟩
  · rw [laneChanged_waits s d isJoin h]
    exact ⟨pagesBut_refl _ _, List.prefix_rfl⟩

theorem laneChanged_shows (h : (s.lane d).sentBlock = true ∧ (s.lane d).gotBlock = true) :
    (s.laneChanged d isJoin).laneMode (.ring d) = (if isJoin then 2 else 1) ∧ (s.laneChanged d isJoin).paused d = false ∧
    event (s.laneChanged d isJoin) (9 + d.n) (bit isJoin) = true := by
  rw [laneChanged_complete s d isJoin h]
  refine ⟨?_, ?_, event_raise_same _ _ _ (by cases isJoin <;> decide)⟩
  · refine (rdn_raise_off _ _ _ d.n 0 (by decide) (by decide)).trans ?_
    rw [modeSet, stop_rdn, State.incn, rdn_wrn_block _ _ _ _ _ (by decide), rdn_wrn_block _ _ _ _ _ (by decide), rdn_wrn_same]
    cases isJoin <;> rfl
  · have hphase : ((modeSet s d isJoin).raise (9 + d.n) (bit isJoin)).rdn d.n MAC.LANE_STAT_PHASE = 0 := by
      rw [rdn_raise_off _ _ _ d.n 0 (by decide) (by decide), modeSet, stop_rdn, State.incn, rdn_wrn_block _ _ _ _ _ (by decide),
        rdn_wrn_same]
      rfl
    exact decide_eq_false (by rw [hphase]; decide)

end

/-- The lanes in use change with the block sent, which leaves on an output that this hub drives (R78, R79). -/
def blockOut (s : State) (d : Side) (lanes : Nat) (m : Maint) : State :=
  ((s.wrn d.n PHY.PHY_STAT_TX_LANES lanes).sendBlock d m).updLane d (fun l => { l with sentBlock := true })

section
variable (s : State) (d : Side) (lanes : Nat) (m : Maint)

theorem sendBlock_frame : ∃ l, s.sendBlock d m = { s with sent := l } := by
  unfold State.sendBlock
  split <;> exact ⟨_, rfl⟩

theorem blockOut_lane : (blockOut s d lanes m).lane d = { s.lane d with sentBlock := true } := by
  obtain ⟨l, h⟩ := sendBlock_frame (s.wrn d.n PHY.PHY_STAT_TX_LANES lanes) d m
  rw [blockOut, lane_updLane_same, h]
  rfl

theorem blockOut_rdn (n : Nat) (g : Fld) (i : Nat) :
    (blockOut s d lanes m).rdn n g i = (s.wrn d.n PHY.PHY_STAT_TX_LANES lanes).rdn n g i := by
  obtain ⟨l, h⟩ := sendBlock_frame (s.wrn d.n PHY.PHY_STAT_TX_LANES lanes) d m
  rw [blockOut, h]
  rfl

theorem blockOut_sent (h : s.forwards d = true) : Emit.maint d.code m ∈ (blockOut s d lanes m).sent := by
  have hdrives : (s.wrn d.n PHY.PHY_STAT_TX_LANES lanes).rd TWIN.STAT_DRIVES = s.rd TWIN.STAT_DRIVES :=
    rdn_wrn_other _ d.n 0 _ _ _ 0 0 (by cases d <;> decide)
  have hforwards : (s.wrn d.n PHY.PHY_STAT_TX_LANES lanes).forwards d = true := by
    rw [State.forwards, hdrives]
    exact h
  have hleft : (s.wrn d.n PHY.PHY_STAT_TX_LANES lanes).sendBlock d m = (s.wrn d.n PHY.PHY_STAT_TX_LANES lanes).emit (.maint d.code m) :=
    if_pos hforwards
  rw [blockOut, hleft]
  exact List.mem_append_right _ (List.mem_singleton_self _)

/-- A block sent changes the transmit lanes; with the block received too, the direction is in its new mode. -/
theorem blockOut_changes (isJoin : Bool) (hlanes : lanes < 4) :
    ((blockOut s d lanes m).laneChanged d isJoin).rdn d.n PHY.PHY_STAT_TX_LANES = lanes ∧
    (s.forwards d = true → Emit.maint d.code m ∈ ((blockOut s d lanes m).laneChanged d isJoin).sent) ∧
    ((s.lane d).gotBlock = false → ((blockOut s d lanes m).laneChanged d isJoin).laneMode (.ring d) = s.laneMode (.ring d) ∧
      (((blockOut s d lanes m).laneChanged d isJoin).lane d).sentBlock = true) ∧
    ((s.lane d).gotBlock = true → ((blockOut s d lanes m).laneChanged d isJoin).laneMode (.ring d) = (if isJoin then 2 else 1) ∧
      ((blockOut s d lanes m).laneChanged d isJoin).paused d = false ∧
      event ((blockOut s d lanes m).laneChanged d isJoin) (9 + d.n) (bit isJoin) = true) := by
  have hlane := blockOut_lane s d lanes m
  obtain ⟨hpages, hsent⟩ := laneChanged_keeps (blockOut s d lanes m) d isJoin
  refine ⟨?_, fun h => hsent.subset (blockOut_sent s d lanes m h), fun h => ?_, fun h => laneChanged_shows _ d isJoin (by simp [hlane, h])⟩
  · rw [rdn_of_pagesBut hpages d.n PHY.PHY_STAT_TX_LANES 0 (by decide) (by cases d <;> decide), blockOut_rdn, rdn_wrn_same]
    exact Nat.mod_eq_of_lt hlanes
  · rw [laneChanged_waits _ d isJoin (by simp [hlane, h])]
    refine ⟨?_, by rw [hlane]⟩
    exact (blockOut_rdn s d lanes m d.n MAC.LANE_STAT_MODE 0).trans
      (rdn_wrn_page s d.n d.n lanes 0 0 (by decide) (by decide) (by cases d <;> decide))

end

/-- The block received in a state whose receive lanes have changed. -/
def blockIn (v : State) (d : Side) : State := v.updLane d (fun l => { l with gotBlock := true })

/-- A block received keeps the receive lanes set; with the block sent too, the direction is in its new mode. -/
theorem blockIn_changes (s v : State) (d : Side) (isJoin : Bool) (hsame : v.lane d = s.lane d) :
    ((blockIn v d).laneChanged d isJoin).rdn d.opp.n PHY.PHY_STAT_RX_LANES = v.rdn d.opp.n PHY.PHY_STAT_RX_LANES ∧
    ((s.lane d).sentBlock = false → ((blockIn v d).laneChanged d isJoin).laneMode (.ring d) = v.laneMode (.ring d) ∧
      (((blockIn v d).laneChanged d isJoin).lane d).gotBlock = true) ∧
    ((s.lane d).sentBlock = true → ((blockIn v d).laneChanged d isJoin).laneMode (.ring d) = (if isJoin then 2 else 1) ∧
      ((blockIn v d).laneChanged d isJoin).paused d = false ∧
      event ((blockIn v d).laneChanged d isJoin) (9 + d.n) (bit isJoin) = true) := by
  have hlane : (blockIn v d).lane d = { s.lane d with gotBlock := true } := by rw [blockIn, lane_updLane_same, hsame]
  obtain ⟨hpages, -⟩ := laneChanged_keeps (blockIn v d) d isJoin
  refine ⟨rdn_of_pagesBut hpages d.opp.n PHY.PHY_STAT_RX_LANES 0 (by decide) (by cases d <;> decide), fun h => ?_,
    fun h => laneChanged_shows _ d isJoin (by simp [hlane, h])⟩
  rw [laneChanged_waits _ d isJoin (by simp [hlane, h])]
  exact ⟨rfl, by rw [hlane]⟩

theorem shedBlockSend_sheds (s : State) (d : Side) (at_ : Nat) (hsched : (s.lane d).sched = some (false, at_)) (hdue : at_ ≤ s.fab)
    (hfirst : (s.lane d).sentBlock = false) :
    ∃ t, exec (.shedBlockSend d) s = .next t ∧ t.rdn d.n PHY.PHY_STAT_TX_LANES = 1 ∧
      (s.forwards d = true → Emit.maint d.code (.shedBlock d.code (s.nextCodeword d)) ∈ t.sent) ∧
      ((s.lane d).gotBlock = false → t.laneMode (.ring d) = s.laneMode (.ring d) ∧ (t.lane d).sentBlock = true) ∧
      ((s.lane d).gotBlock = true → t.laneMode (.ring d) = 1 ∧ t.paused d = false ∧ event t (9 + d.n) 0 = true) := by
  refine ⟨(blockOut s d 1 (.shedBlock d.code (s.nextCodeword d))).laneChanged d false, ?_, blockOut_changes s d 1 _ false (by decide)⟩
  change execShedBlockSend d s = _
  unfold execShedBlockSend
  rw [hsched]
  exact congrArg Host.Outcome.next (if_pos (by simp [hdue, hfirst]))

theorem joinBlockSend_joins (s : State) (d : Side) (at_ : Nat) (hsched : (s.lane d).sched = some (true, at_)) (hdue : at_ ≤ s.fab)
    (hfirst : (s.lane d).sentBlock = false) :
    ∃ t, exec (.joinBlockSend d) s = .next t ∧ t.rdn d.n PHY.PHY_STAT_TX_LANES = 2 ∧
      (s.forwards d = true → Emit.maint d.code (.joinBlock d.code (s.nextCodeword d)) ∈ t.sent) ∧
      ((s.lane d).gotBlock = true → t.laneMode (.ring d) = 2 ∧ event t (9 + d.n) 1 = true) := by
  obtain ⟨htx, hsent, -, hdone⟩ := blockOut_changes s d 2 (.joinBlock d.code (s.nextCodeword d)) true (by decide)
  refine ⟨(blockOut s d 2 (.joinBlock d.code (s.nextCodeword d))).laneChanged d true, ?_, htx, hsent, fun h => ?_⟩
  · change execJoinBlockSend d s = _
    unfold execJoinBlockSend
    rw [hsched]
    exact congrArg Host.Outcome.next (if_pos (by simp [hdue, hfirst]))
  · obtain ⟨hmode, -, hevent⟩ := hdone h
    exact ⟨hmode, hevent⟩

/-- The receiver of a shed: lane 1's counters stand, one lane and its lock are shown (R78). -/
def oneLaneIn (s : State) (d : Side) : State :=
  ((s.cwStop (.ring d.opp) 1).wrn d.opp.n PHY.PHY_STAT_RX_LANES 1).wrn d.opp.n PHY.PHY_STAT_CW_LOCK 1

theorem shedBlockRx_sheds (s : State) (d : Side) (at_ : Nat) (hsched : (s.lane d).sched = some (false, at_)) :
    ∃ t, exec (.shedBlockRx d) s = .next t ∧ t.rdn d.opp.n PHY.PHY_STAT_RX_LANES = 1 ∧
      ((s.lane d).sentBlock = false → t.laneMode (.ring d) = s.laneMode (.ring d) ∧ (t.lane d).gotBlock = true) ∧
      ((s.lane d).sentBlock = true → t.laneMode (.ring d) = 1 ∧ t.paused d = false ∧ event t (9 + d.n) 0 = true) := by
  have hlane : (oneLaneIn s d).lane d = s.lane d := by
    obtain ⟨rs, p, h⟩ := cwStop_frame s (.ring d.opp) 1
    rw [oneLaneIn, h]
    rfl
  have hmode : (oneLaneIn s d).laneMode (.ring d) = s.laneMode (.ring d) := by
    refine (rdn_wrn_page _ d.opp.n d.n 1 0 0 (by decide) (by decide) (by cases d <;> decide)).trans
      ((rdn_wrn_page _ d.opp.n d.n 1 0 0 (by decide) (by decide) (by cases d <;> decide)).trans ?_)
    exact cwStop_offs s (.ring d.opp) 1 d.n MAC.LANE_STAT_MODE 0 (by decide) (by decide)
  have hrx : (oneLaneIn s d).rdn d.opp.n PHY.PHY_STAT_RX_LANES = 1 :=
    (rdn_wrn_block _ d.opp.n 1 0 0 (by decide)).trans (rdn_wrn_same _ d.opp.n PHY.PHY_STAT_RX_LANES 1 0)
  obtain ⟨hkept, hwaits, hdone⟩ := blockIn_changes s (oneLaneIn s d) d false hlane
  rw [hrx] at hkept
  rw [hmode] at hwaits
  refine ⟨(blockIn (oneLaneIn s d) d).laneChanged d false, ?_, hkept, hwaits, hdone⟩
  change execShedBlockRx d s = _
  unfold execShedBlockRx
  rw [hsched]
  rfl

theorem joinBlockRx_joins (s : State) (d : Side) (at_ : Nat) (hsched : (s.lane d).sched = some (true, at_)) :
    ∃ t, exec (.joinBlockRx d) s = .next t ∧ t.rdn d.opp.n PHY.PHY_STAT_RX_LANES = 2 ∧
      ((s.lane d).sentBlock = true → t.laneMode (.ring d) = 2 ∧ event t (9 + d.n) 1 = true) := by
  obtain ⟨hkept, -, hdone⟩ := blockIn_changes s ((s.cwFrom (.ring d.opp) 1).wrn d.opp.n PHY.PHY_STAT_RX_LANES 2) d true rfl
  refine ⟨(blockIn ((s.cwFrom (.ring d.opp) 1).wrn d.opp.n PHY.PHY_STAT_RX_LANES 2) d).laneChanged d true, ?_,
    hkept.trans (rdn_wrn_same _ d.opp.n PHY.PHY_STAT_RX_LANES 2 0), fun h => ?_⟩
  · change execJoinBlockRx d s = _
    unfold execJoinBlockRx
    rw [hsched]
    rfl
  · obtain ⟨hmode, -, hevent⟩ := hdone h
    exact ⟨hmode, hevent⟩

/-! ### A join is prepared (R79, R80) -/

theorem joinStart_prepares (s : State) (d : Side) (hmode : s.laneMode (.ring d) = 1) (hprep : (s.lane d).prep = false)
    (hasked : (s.lane d).asked = true) :
    ∃ t, exec (.joinStart d) s = .next t ∧ (t.lane d).prep = true ∧ (t.lane d).ready = false ∧
      Tbl.find t.timers (tJoin d) = some (s.mono + ms 3) ∧ t.rdn d.n MAC.LANE_STAT_PHASE = 1 ∧
      RegsBut s t [MAC.LANE_STAT_PHASE.key d.n 0] ∧ t = { s with regs := t.regs, lanes := t.lanes, timers := t.timers } := by
  have hlane := lane_updLane_same s d (fun l => { l with prep := true, ready := false, asked := false })
  exact ⟨_, congrArg Host.Outcome.next (if_pos (by simp [hmode, hprep, hasked])), congrArg LaneDir.prep hlane,
    congrArg LaneDir.ready hlane, find_start_same _ _ _, rdn_wrn_same _ d.n MAC.LANE_STAT_PHASE 1 0,
    regsBut_wrn s d.n MAC.LANE_STAT_PHASE 1 0 (List.mem_singleton_self _), rfl⟩

theorem joinLaneReady_readies (s : State) (d : Side) (hprep : (s.lane d).prep = true) (hdue : s.due (tJoin d) = false) :
    ∃ t, exec (.joinLaneReady d) s = .next t ∧ (t.lane d).ready = true ∧ t.rdn d.n MAC.LANE_STAT_FAULT_WISH = 0 ∧
      t.running (tJoin d) = false ∧ t = { s with regs := t.regs, lanes := t.lanes, timers := t.timers } :=
  ⟨_, congrArg Host.Outcome.next (if_pos (by simp [hprep, hdue])),
    congrArg LaneDir.ready (lane_updLane_same s d (fun l => { l with ready := true })),
    rdn_wrn_same _ d.n MAC.LANE_STAT_FAULT_WISH 0 0, running_stop _ _, rfl⟩

/-- A join that has failed: its preparation is over (R80). -/
def joinDropped (s : State) (d : Side) : State :=
  ((s.updLane d (fun l => { l with prep := false, asked := false, sched := none })).wrn d.n MAC.LANE_STAT_PHASE 0).stop (tJoin d)

theorem joinFail_drops (s : State) (d : Side) (hprep : (s.lane d).prep = true) (hready : (s.lane d).ready = false)
    (hdue : s.due (tJoin d) = true) :
    ∃ t, exec (.joinFail d) s = .next t ∧ (t.lane d).prep = false ∧ event t (9 + d.n) 2 = true ∧
      t.laneMode (.ring d) = s.laneMode (.ring d) ∧
      t = { s with regs := t.regs, lanes := t.lanes, timers := t.timers, msix := t.msix, sent := t.sent } := by
  have hlane := lane_updLane_same s d (fun l => { l with prep := false, asked := false, sched := none })
  refine ⟨(joinDropped s d).raise (9 + d.n) 2, congrArg Host.Outcome.next (if_pos (by simp [hprep, hready, hdue])), ?_,
    event_raise_same _ _ 2 (by decide), ?_, ?_⟩
  · rw [State.lane, raise_lanes]
    exact congrArg LaneDir.prep hlane
  · refine (rdn_raise_off _ _ 2 d.n 0 (by decide) (by decide)).trans ?_
    rw [joinDropped, stop_rdn, rdn_wrn_block _ _ _ _ _ (by decide)]
    rfl
  · obtain ⟨m, l, h⟩ := raise_frame (joinDropped s d) (9 + d.n) 2
    rw [h]
    rfl

/-! ### The obligation -/

/-- Settles O15: a ballot leaves with the hub's wish beside the lane units; a change completes, whichever of its blocks is the
second, by the one step that sets the mode, counts and raises it. -/
theorem laneShedAndJoinComplete : Obligations.LaneShedAndJoinComplete := by
  unfold Obligations.LaneShedAndJoinComplete
  exact ⟨laneBallotSend_passes, laneBallotRx_passes, laneBallotReturn_sheds, laneBallotReturn_joins, shedPauseStart_pauses,
    shedBlockSend_sheds, shedBlockRx_sheds, joinStart_prepares, joinLaneReady_readies, joinBlockSend_joins, joinBlockRx_joins,
    joinFail_drops⟩

end Sys2Proof.Proofs
end

section
/-! PROOFS. The stream window: how a number is judged by its distance from the highest accepted one, and what marking it
leaves (R111-R113). -/

set_option Elab.async false

namespace Sys2Proof.Proofs

open Sys2Proof.Machine Sys2Proof.Safety Sys2Proof.Laws

/-! ### One entry (R112) -/

/-- The number lies ahead of the highest accepted one. -/
def Ahead (e : StreamEnt) (q : Nat) : Prop :=
  1 ≤ (q + 65536 - e.high) % 65536 ∧ (q + 65536 - e.high) % 65536 ≤ 32767

section
variable {e : StreamEnt} {q : Nat}

theorem judge_ahead (h : Ahead e q) : e.judge q = .accept := if_pos h

theorem judge_behind (h : ¬ Ahead e q) (hi : (e.high + 65536 - q) % 65536 ≤ 63) :
    e.judge q = if e.map.testBit ((e.high + 65536 - q) % 65536) then .duplicate else .accept := by
  rw [← bitOf_eq_testBit]
  exact (if_neg h).trans (if_pos hi)

theorem judge_far_behind (h : ¬ Ahead e q) (hi : 63 < (e.high + 65536 - q) % 65536) : e.judge q = .stale :=
  (if_neg h).trans (if_neg (Nat.not_le.mpr hi))

/-- A map of 64 bits keeps nothing of a shift by 64 or more. -/
theorem shifted_mod (m d : Nat) : (m * 2 ^ min d 64 + 1) % 2 ^ 64 = (m * 2 ^ d + 1) % 2 ^ 64 := by
  rcases Nat.le_total d 64 with hd | hd
  · rw [Nat.min_eq_left hd]
  · rw [Nat.min_eq_right hd]
    have hgone : ∀ k, 64 ≤ k → m * 2 ^ k ≡ 0 [MOD 2 ^ 64] := fun k hk =>
      Nat.modEq_zero_iff_dvd.mpr (Dvd.dvd.mul_left (Nat.pow_dvd_pow 2 hk) m)
    exact ((hgone 64 (Nat.le_refl 64)).trans (hgone d hd).symm).add_right 1

theorem mark_ahead (h : Ahead e q) (now : Nat) : e.mark q now =
    { e with high := q, map := (e.map * 2 ^ ((q + 65536 - e.high) % 65536) + 1) % 2 ^ 64, last := now } := by
  rw [← shifted_mod]
  exact if_pos h

theorem mark_behind (h : ¬ Ahead e q) (now : Nat) :
    e.mark q now = { e with map := setBit e.map ((e.high + 65536 - q) % 65536), last := now } := if_neg h

/-- The highest accepted number itself is a duplicate when its bit is set. -/
theorem judge_highest (hhigh : e.high = q) (hbit : e.map.testBit 0 = true) : e.judge q = .duplicate := by
  have hdist : (q + 65536 - e.high) % 65536 = 0 ∧ (e.high + 65536 - q) % 65536 = 0 := by omega
  rw [judge_behind (fun h => by have := h.1; omega) (by omega), hdist.2, hbit]
  rfl

theorem shifted_testBit_zero (m d : Nat) (hd : 1 ≤ d) : ((m * 2 ^ d + 1) % 2 ^ 64).testBit 0 = true := by
  obtain ⟨k, rfl⟩ := Nat.exists_eq_add_of_le' hd
  rw [Nat.testBit_mod_two_pow, Nat.testBit_zero, pow_succ, ← Nat.mul_assoc, Nat.mul_add_mod']
  rfl

/-- A number that an entry accepts is a duplicate to the entry it leaves. -/
theorem judge_mark (h : e.judge q = .accept) (now : Nat) : (e.mark q now).judge q = .duplicate := by
  by_cases ha : Ahead e q
  · rw [mark_ahead ha]
    exact judge_highest rfl (shifted_testBit_zero e.map _ ha.1)
  · have hi : (e.high + 65536 - q) % 65536 ≤ 63 := by
      by_contra hfar
      rw [judge_far_behind ha (Nat.not_le.mp hfar)] at h
      cases h
    rw [mark_behind ha]
    refine (judge_behind (e := { e with map := setBit e.map _, last := now }) ha hi).trans ?_
    rw [testBit_setBit, decide_eq_true rfl, Bool.true_or]
    rfl

end

/-! ### The table (R111, R113) -/

section
variable {s : State} {node cls : Nat} {e : StreamEnt}

theorem streamFresh_now (s : State) (e : StreamEnt) (h : e.last = s.fab) : s.streamFresh e = true := by
  rw [State.streamFresh, h, decide_eq_true_eq, fns]
  omega

/-- Marking changes the stream window alone. -/
theorem markSeq_frame (s : State) (node cls q : Nat) : ∃ w, s.markSeq node cls q = { s with win := w } := by
  unfold State.markSeq
  split
  · exact ⟨_, rfl⟩
  · exact ⟨_, rfl⟩

theorem markSeq_fab (s : State) (node cls q : Nat) : (s.markSeq node cls q).fab = s.fab := by
  obtain ⟨w, h⟩ := markSeq_frame s node cls q
  rw [h]

/-- The entry a stream finds after every entry of the stream has been replaced. -/
theorem find?_map_replaced {α : Type} {p : α → Bool} {l : List α} {a b : α} (h : l.find? p = some a) (hb : p b = true) :
    (l.map (fun x => if p x then b else x)).find? p = some b := by
  have hsame : (p ∘ fun x => if p x then b else x) = p := by
    funext x
    by_cases hx : p x = true
    · simp [hx, hb]
    · simp [hx]
  rw [List.find?_map, hsame, h, Option.map_some, if_pos (List.find?_some h)]

/-- The entry of a stream after a number of it has been marked: the old one marked while fresh, else one opened anew. -/
theorem stream_markSeq_some (h : s.stream node cls = some e) (q : Nat) : (s.markSeq node cls q).stream node cls =
    some (if s.streamFresh e then e.mark q s.fab else { e with high := q, map := 1, last := s.fab }) := by
  have hkey : (e.node = node && e.cls = cls) = true :=
    List.find?_some (p := fun x : StreamEnt => x.node = node && x.cls = cls) h
  have hkept : ∀ now, (e.mark q now).node = e.node ∧ (e.mark q now).cls = e.cls := fun now => by
    unfold StreamEnt.mark
    dsimp only
    split_ifs
    all_goals exact ⟨rfl, rfl⟩
  simp only [State.markSeq, h]
  refine find?_map_replaced h ?_
  split_ifs
  · rwa [(hkept s.fab).1, (hkept s.fab).2]
  · exact hkey

theorem stream_markSeq_none (h : s.stream node cls = none) (q : Nat) : (s.markSeq node cls q).stream node cls =
    some { node := node, cls := cls, high := q, map := 1, last := s.fab } := by
  have habsent : ∀ x ∈ s.win, ¬ (x.node = node && x.cls = cls) = true := List.find?_eq_none.mp h
  have hkept : (if s.win.length < 4096 then s.win else s.win.filter s.streamFresh).find?
      (fun x => x.node = node && x.cls = cls) = none := by
    refine List.find?_eq_none.mpr fun x hx => habsent x ?_
    split_ifs at hx
    · exact hx
    · exact List.mem_of_mem_filter hx
  simp only [State.markSeq, h]
  rw [State.stream, List.find?_append, hkept]
  simp

theorem judgeSeq_fresh (h : s.stream node cls = some e) (hfresh : s.streamFresh e = true) (q : Nat) :
    s.judgeSeq node cls q = e.judge q := by
  simp only [State.judgeSeq, h, hfresh, if_true]

/-- After a number is marked its stream's entry is fresh, and judges. -/
theorem judgeSeq_marked {q : Nat} (h : (s.markSeq node cls q).stream node cls = some e) (hlast : e.last = s.fab) :
    (s.markSeq node cls q).judgeSeq node cls q = e.judge q :=
  judgeSeq_fresh h (streamFresh_now _ e (hlast.trans (markSeq_fab s node cls q).symm)) q

theorem mark_last (e : StreamEnt) (q now : Nat) : (e.mark q now).last = now := by
  unfold StreamEnt.mark
  dsimp only
  split_ifs
  · rfl
  · rfl

/-- An accepted number is a duplicate afterwards. -/
theorem judgeSeq_markSeq {q : Nat} (h : s.judgeSeq node cls q = .accept) : (s.markSeq node cls q).judgeSeq node cls q = .duplicate := by
  cases hent : s.stream node cls with
  | none =>
    rw [judgeSeq_marked (stream_markSeq_none hent q) rfl]
    exact judge_highest rfl (Nat.testBit_zero 1)
  | some e =>
    have hmarked := stream_markSeq_some hent q
    by_cases hfresh : s.streamFresh e = true
    · rw [if_pos hfresh] at hmarked
      rw [judgeSeq_marked hmarked (mark_last e q s.fab)]
      exact judge_mark ((judgeSeq_fresh hent hfresh q).symm.trans h) s.fab
    · rw [if_neg hfresh] at hmarked
      rw [judgeSeq_marked hmarked rfl]
      exact judge_highest rfl (Nat.testBit_zero 1)

end

/-! ### Discards (R112) -/

theorem judgeAndDeliver_duplicate {s : State} {f : Frame} (h : s.judgeSeq (nodeOf f.src) f.tc f.seq = .duplicate) (d : Nat)
    (b : RxBound) (g : Frame) (m : Option (Nat × Nat × Nat × Nat)) :
    s.judgeAndDeliver d b f g m = (s.satn (2 * d) MAC.RX_DUP_COUNT).dropBound b f := by
  simp only [State.judgeAndDeliver, h]

theorem judgeAndDeliver_stale {s : State} {f : Frame} (h : s.judgeSeq (nodeOf f.src) f.tc f.seq = .stale) (d : Nat)
    (b : RxBound) (g : Frame) (m : Option (Nat × Nat × Nat × Nat)) :
    s.judgeAndDeliver d b f g m = ((s.satn (2 * d) MAC.RX_STALE_COUNT).raise (9 + 2 * d) 4).dropBound b f := by
  simp only [State.judgeAndDeliver, h]

/-! ### The obligations -/

/-- Settles O16: a fresh entry judges by the distance, and marking it shifts its map or sets the number's bit. -/
theorem streamWindowJudgesAsTheTableSays : Obligations.StreamWindowJudgesAsTheTableSays := by
  unfold Obligations.StreamWindowJudgesAsTheTableSays
  refine ⟨fun s node cls q e _ _ _ hent hfresh => ?_, fun s d f g b m => ⟨fun h => judgeAndDeliver_duplicate h d.code b g m,
    fun h => judgeAndDeliver_stale h d.code b g m⟩⟩
  have hmarked := stream_markSeq_some hent q
  rw [if_pos hfresh] at hmarked
  rw [judgeSeq_fresh hent hfresh, hmarked]
  refine ⟨fun h => ⟨judge_ahead h, by rw [mark_ahead h]⟩, fun h hi hbit => ?_, fun h hi hbit => ⟨?_, ?_⟩,
    fun h hi => judge_far_behind h hi⟩
  · rw [judge_behind h hi, hbit]
    rfl
  · rw [judge_behind h hi, hbit]
    rfl
  · rw [mark_behind h, setBit, bitOf_eq_testBit, hbit]
    rfl

/-- Settles O17: whatever entry the stream had, the one it has after the acceptance is fresh and holds the number's bit. -/
theorem acceptedNumberIsADuplicateAfterwards : Obligations.AcceptedNumberIsADuplicateAfterwards := by
  unfold Obligations.AcceptedNumberIsADuplicateAfterwards
  refine fun s node cls q _ _ => ⟨judgeSeq_markSeq, fun hent hfull => ?_⟩
  simp only [State.judgeSeq, hent]
  exact if_pos hfull

end Sys2Proof.Proofs
end

section
/-! PROOFS. A frame start on a ring port meets the first row of R95 that matches it (R91, R94, R95, R99, R102). -/

set_option Elab.async false

namespace Sys2Proof.Proofs

open Sys2Proof.Machine Sys2Proof.Safety Sys2Proof.Laws

/-! ### Ring inputs and outputs -/

@[simp] theorem rxOf_updRx_same (s : State) (d : Side) (f : RxPort → RxPort) : (s.updRx d f).rxOf d = f (s.rxOf d) :=
  get_upd_same _ _ _ _

@[simp] theorem txOf_updTx_same (s : State) (d : Side) (f : TxPort → TxPort) : (s.updTx d f).txOf d = f (s.txOf d) :=
  get_upd_same _ _ _ _

@[simp] theorem txOf_updRx (s : State) (d e : Side) (f : RxPort → RxPort) : (s.updRx d f).txOf e = s.txOf e := rfl

theorem side_code_ne_opp (d : Side) : d.opp.code ≠ d.code := by
  cases d
  · decide
  · decide

@[simp] theorem txOf_updTx_opp (s : State) (d : Side) (f : TxPort → TxPort) : (s.updTx d f).txOf d.opp = s.txOf d.opp :=
  get_upd_other _ _ _ _ _ (side_code_ne_opp d)

/-- Only the last block of a codeword group is filled, by an idle block (R91). -/
theorem fillSlot_eq (s : State) (d : Side) :
    s.fillSlot d = { s with sent := s.sent ++ (if s.lastOfGroup d then [.maint d.code .idle] else []) } := by
  unfold State.fillSlot
  split
  · rfl
  · rw [List.append_nil]

/-! ### The rows of R95 -/

/-- The port has taken the header of the frame, which it skips until a row says otherwise. -/
def arrived (s : State) (d : Side) (f : Frame) (stamp : Nat) : State :=
  s.updRx d (fun _ => { cur := f, kind := .skip, errored := false, stamp := stamp })

section
variable {s : State} {d : Side} {f : Frame} {bad : Bool} {stamp : Nat}

theorem exec_frameArrival (hup : s.linkState (.ring d) = 8) (hlive : s.live = true) :
    exec (.frameArrival d f bad stamp) s = .next (s.arrive d f bad stamp) :=
  congrArg Host.Outcome.next (if_pos (by rw [hup, hlive]; rfl))

theorem arrive_badCheck (h : bad = true ∨ f.hchk ≠ f.headCheck) :
    s.arrive d f bad stamp = (arrived s d f stamp).satn d.n MAC.RX_HCHK_COUNT :=
  if_pos (by simpa using h)

theorem arrive_checked (hbad : bad = false) (hchk : f.hchk = f.headCheck) : s.arrive d f bad stamp =
    if f.badHeader then (arrived s d f stamp).satn d.n MAC.RX_MALFORMED_COUNT
    else if f.tc = 7 then (arrived s d f stamp).updRx d (fun r => { r with kind := .ring })
    else (arrived s d f stamp).sortFrame d f stamp :=
  if_neg (by simp [hbad, hchk])

theorem arrive_malformed (hbad : bad = false) (hchk : f.hchk = f.headCheck) (h : f.badHeader = true) :
    s.arrive d f bad stamp = (arrived s d f stamp).satn d.n MAC.RX_MALFORMED_COUNT :=
  (arrive_checked hbad hchk).trans (if_pos h)

theorem arrive_maintenance (hbad : bad = false) (hchk : f.hchk = f.headCheck) (h : f.badHeader = false) (htc : f.tc = 7) :
    s.arrive d f bad stamp = (arrived s d f stamp).updRx d (fun r => { r with kind := .ring }) :=
  (arrive_checked hbad hchk).trans ((if_neg (by simp [h])).trans (if_pos htc))

theorem arrive_sorted (hbad : bad = false) (hchk : f.hchk = f.headCheck) (h : f.badHeader = false) (htc : f.tc ≠ 7) :
    s.arrive d f bad stamp = (arrived s d f stamp).sortFrame d f stamp :=
  (arrive_checked hbad hchk).trans ((if_neg (by simp [h])).trans (if_neg htc))

theorem sortFrame_returned (h : f.entry = s.station) :
    s.sortFrame d f stamp = (s.satn d.n MAC.REMOVED_RETURN_COUNT).updRx d (fun r => { r with kind := .skip }) := if_pos h

theorem sortFrame_absent (hentry : f.entry ≠ s.station) (hnode : nodeOf f.dest = s.nodeId) (hresp : f.resp = false)
    (hrefuse : f.refuse = false) (hlocal : localOf f.dest ≠ 0) (hport : s.destPort f = none) :
    s.sortFrame d f stamp = s.updRx d (fun r => { r with kind := .absent }) := by
  refine (if_neg hentry).trans ((if_pos hnode).trans ((if_neg (by simp [hlocal])).trans ((if_neg ?_).trans ?_)))
  · simp [hresp, hrefuse]
  · rw [hport]

/-- A frame for another node, which no junction takes, goes on while it has hops left. -/
theorem sortFrame_elsewhere (hentry : f.entry ≠ s.station) (hnode : nodeOf f.dest ≠ s.nodeId) (hrole : s.role ≠ 2) :
    s.sortFrame d f stamp =
      if f.hops = 0 then (s.satn d.n MAC.REMOVED_HOPS_COUNT).updRx d (fun r => { r with kind := .skip })
      else s.transit d f stamp :=
  (if_neg hentry).trans ((if_neg hnode).trans (if_neg (by simp [hrole])))

theorem meetExpress_idle {o : Side} (h : (s.txOf o).cur = .idle) : s.meetExpress o = s := by
  have hnone : s.sendingFrame o = none := by rw [State.sendingFrame, h]
  rw [State.meetExpress, hnone]

/-- An express frame goes on at once through an idle output (R99). -/
theorem transit_express (hexp : f.tc ≤ 3) (hforwards : s.forwards d.opp = true) (hup : s.outUp d.opp = true)
    (hidle : (s.txOf d.opp).cur = .idle) : s.transit d f stamp =
      (((((s.fillSlot d.opp).satn d.opp.n MAC.TRANSIT_EXP_COUNT).emit
        (.frame d.opp.code (transitHead f (s.residence d stamp)))).updTx d.opp (fun t => { t with cur := .transit })).updRx d
        (fun r => { r with kind := .express })) := by
  refine (if_neg (by simp [hforwards])).trans ((if_pos (by simpa [express] using hexp)).trans ((if_pos hup).trans ?_))
  rw [meetExpress_idle hidle]

end

/-! ### What a row leaves -/

/-- The frame a port receives is removed and counted; nothing else happens. -/
def Removed (s t : State) (d : Side) (c : Fld) : Prop :=
  (t.rxOf d).kind = .skip ∧ Counted s t d.n c ∧ RegsBut s t [c.key d.n 0] ∧ t = { s with regs := t.regs, rx := t.rx }

theorem removed_of {s t : State} {d : Side} {c : Fld} (hkind : (t.rxOf d).kind = .skip) (hregs : t.regs = (s.satn d.n c).regs)
    (hframe : t = { s with regs := t.regs, rx := t.rx }) : Removed s t d c := by
  refine ⟨hkind, ?_, fun k hk => ?_, hframe⟩
  · rw [Counted, State.rdn, hregs]
    exact counted_satn s d.n c
  · rw [hregs]
    exact regsBut_wrn s d.n c _ 0 (List.mem_singleton_self _) k hk

theorem arrived_kind (s : State) (d : Side) (f : Frame) (stamp : Nat) : ((arrived s d f stamp).rxOf d).kind = .skip :=
  congrArg RxPort.kind (rxOf_updRx_same s d _)

theorem arrived_removed (s : State) (d : Side) (f : Frame) (stamp : Nat) (c : Fld) :
    Removed s ((arrived s d f stamp).satn d.n c) d c := removed_of (arrived_kind s d f stamp) rfl rfl

theorem arrived_skipped (s : State) (d : Side) (f : Frame) (stamp : Nat) (c : Fld) :
    Removed s (((arrived s d f stamp).satn d.n c).updRx d (fun r => { r with kind := .skip })) d c :=
  removed_of (congrArg RxPort.kind (rxOf_updRx_same _ d _)) rfl rfl

/-- What the next row of R95 is left: a frame whose header is sound, on a port that is up. -/
theorem exec_frameArrival_sorted {s : State} {d : Side} {f : Frame} {bad : Bool} {stamp : Nat} (hup : s.linkState (.ring d) = 8)
    (hlive : s.live = true) (hbad : bad = false) (hchk : f.hchk = f.headCheck) (h : f.badHeader = false) (htc : f.tc ≠ 7) :
    exec (.frameArrival d f bad stamp) s = .next ((arrived s d f stamp).sortFrame d f stamp) :=
  (exec_frameArrival hup hlive).trans (congrArg _ (arrive_sorted hbad hchk h htc))

/-- The express frame sent on: its header anew, and nothing changed but the port, the output and the count (R102). -/
theorem express_leaves (s : State) (d : Side) (f : Frame) (stamp : Nat) (hexp : f.tc ≤ 3) (hforwards : s.forwards d.opp = true)
    (hup : s.outUp d.opp = true) (hidle : (s.txOf d.opp).cur = .idle) :
    ∃ t g, (arrived s d f stamp).transit d f stamp = t ∧
      t.sent = s.sent ++ (if s.lastOfGroup d.opp then [.maint d.opp.code .idle] else []) ++ [.frame d.opp.code g] ∧
      g.hops = f.hops - 1 ∧ g.hchk = g.headCheck ∧ g.payload = f.payload ∧ g.crc = f.crc ∧
      g.launch = (if f.tc = 1 then (f.launch + s.residence d stamp) % 2 ^ 64 else f.launch) ∧
      (t.rxOf d).kind = .express ∧ (t.txOf d.opp).cur = .transit ∧ Counted s t d.opp.n MAC.TRANSIT_EXP_COUNT ∧
      RegsBut s t [MAC.TRANSIT_EXP_COUNT.key d.opp.n 0] ∧ t = { s with regs := t.regs, rx := t.rx, tx := t.tx, sent := t.sent } := by
  have hgone := transit_express (s := arrived s d f stamp) (stamp := stamp) hexp hforwards hup hidle
  rw [fillSlot_eq] at hgone
  refine ⟨_, transitHead f (s.residence d stamp), hgone, rfl, rfl, rfl, rfl, rfl, rfl, ?_, ?_, ?_, ?_, rfl⟩
  · exact congrArg RxPort.kind (rxOf_updRx_same _ d _)
  · rw [txOf_updRx, txOf_updTx_same]
  · exact counted_satn s d.opp.n MAC.TRANSIT_EXP_COUNT
  · exact regsBut_wrn s d.opp.n MAC.TRANSIT_EXP_COUNT _ 0 (List.mem_singleton_self _)

/-! ### The obligation -/

/-- Settles O18: each row's condition selects its branch of the sorting, and that branch counts once. -/
theorem frameArrivalIsSortedByTheFirstMatchingRow : Obligations.FrameArrivalIsSortedByTheFirstMatchingRow := by
  unfold Obligations.FrameArrivalIsSortedByTheFirstMatchingRow
  refine fun s d f bad stamp hup hlive => ⟨fun h => ?_, fun hbad hchk h => ?_, fun hbad hchk h => ⟨fun htc => ?_,
    fun htc hentry => ?_, fun htc hentry hnode hresp hrefuse hlocal hport => ?_, fun htc hentry hnode hrole =>
    ⟨fun hhops => ?_, fun hhops hexp hforwards houtUp hidle => ?_⟩⟩⟩
  · exact ⟨_, (exec_frameArrival hup hlive).trans (congrArg _ (arrive_badCheck h)), arrived_removed s d f stamp _⟩
  · exact ⟨_, (exec_frameArrival hup hlive).trans (congrArg _ (arrive_malformed hbad hchk h)), arrived_removed s d f stamp _⟩
  · exact ⟨_, (exec_frameArrival hup hlive).trans (congrArg _ (arrive_maintenance hbad hchk h htc)),
      congrArg RxPort.kind (rxOf_updRx_same _ d _), rfl⟩
  · exact ⟨_, (exec_frameArrival_sorted hup hlive hbad hchk h htc).trans (congrArg _ (sortFrame_returned hentry)),
      arrived_skipped s d f stamp _⟩
  · have hsorted := sortFrame_absent (s := arrived s d f stamp) (d := d) (stamp := stamp) hentry hnode hresp hrefuse hlocal hport
    refine ⟨_, (exec_frameArrival_sorted hup hlive hbad hchk h htc).trans (congrArg _ hsorted),
      congrArg RxPort.kind (rxOf_updRx_same _ d _), ?_, rfl⟩
    exact (congrArg RxPort.cur (rxOf_updRx_same _ d _)).trans (congrArg RxPort.cur (rxOf_updRx_same s d _))
  · have hsorted := sortFrame_elsewhere (s := arrived s d f stamp) (d := d) (stamp := stamp) hentry hnode hrole
    exact ⟨_, (exec_frameArrival_sorted hup hlive hbad hchk h htc).trans (congrArg _ (hsorted.trans (if_pos hhops))),
      arrived_skipped s d f stamp _⟩
  · have hsorted := sortFrame_elsewhere (s := arrived s d f stamp) (d := d) (stamp := stamp) hentry hnode hrole
    obtain ⟨t, g, ht, hleft⟩ := express_leaves s d f stamp hexp hforwards houtUp hidle
    exact ⟨t, g, (exec_frameArrival_sorted hup hlive hbad hchk h htc).trans
      (congrArg _ (hsorted.trans ((if_neg hhops).trans ht))), hleft⟩

end Sys2Proof.Proofs
end

section
/-! PROOFS. Frame ends, frames a junction relays, retired streams, insertion periods and the insertion gate (R91, R94, R98,
R101-R106, R110, R113, R115). -/

set_option Elab.async false

namespace Sys2Proof.Proofs

open Sys2Proof.Machine Sys2Proof.Safety Sys2Proof.Laws

/-! ### The end of a frame (R94, R110) -/

/-- The port awaits the next frame. -/
def received (s : State) (d : Side) : State := s.updRx d (fun _ => {})

theorem received_idle (s : State) (d : Side) : ((received s d).rxOf d).kind = .idle :=
  congrArg RxPort.kind (rxOf_updRx_same s d _)

theorem side_n (d : Side) : 2 * d.code = d.n := by
  cases d
  · rfl
  · rfl

section
variable {s t : State} {d : Side} {f : Frame} {e c : Bool} {n : Nat}

/-- A frame end that reports no fault leaves what the trailer leaves. -/
theorem exec_frameTrailerAccept (h : s.trailer d e c n = t) (htodo : t.flt.todo = []) :
    exec (.frameTrailerAccept d e c n) s = .next t := by
  rw [← drain_settled t htodo, ← h]
  rfl

theorem trailer_skip (h : (s.rxOf d).kind = .skip) : s.trailer d e c n = received s d := by
  simp only [State.trailer, h]
  rfl

theorem trailer_absent (h : (s.rxOf d).kind = .absent) : s.trailer d e c n =
    (received s d).acceptFrame d.code .absent (s.rxOf d).cur (e || (s.rxOf d).errored) c n := by
  simp only [State.trailer, h]
  rfl

theorem trailer_answer (h : (s.rxOf d).kind = .answer) : s.trailer d e c n =
    (received s d).acceptFrame d.code .answer (s.rxOf d).cur (e || (s.rxOf d).errored) c n := by
  simp only [State.trailer, h]
  rfl

theorem acceptFrame_errored (b : RxBound) :
    s.acceptFrame d.code b f true c n = (s.satn d.n MAC.RX_ERRORED_COUNT).dropBound b f := by
  rw [← side_n]
  rfl

/-- An unsecured frame that passes steps 1 to 5 of R110 is judged by its number. -/
theorem acceptFrame_unsecured (b : RxBound) (hsec : f.sec = false) (hcrc : f.crc = f.trailer)
    (hreq : bitOf (s.rd GCM.CFG_RX_REQ) f.tc = false) :
    s.acceptFrame d.code b f false false f.statedLen = s.judgeAndDeliver d.code b f f none := by
  have hopen : s.openFrame f true = .unsecured := by
    rw [State.openFrame, hsec, hreq]
    rfl
  have hjudge : s.openAndJudge d.code b f = s.judgeAndDeliver d.code b f f none := by
    rw [State.openAndJudge, hopen]
  rw [← hjudge]
  exact (if_neg (by decide)).trans ((if_neg (by simp)).trans ((if_neg (by simp [hcrc])).trans (if_neg (by simp [hsec]))))

theorem judgeAndDeliver_accept (h : s.judgeSeq (nodeOf f.src) f.tc f.seq = .accept) (b : RxBound) (g : Frame) :
    s.judgeAndDeliver d.code b f g none =
      ((s.markSeq (nodeOf f.src) f.tc f.seq).satn d.n MAC.RX_ACCEPT_COUNT).deliverBound d.code b f g := by
  simp only [State.judgeAndDeliver, h, side_n]

/-- An answer that no unit awaits is counted and recorded on the MGMT page (R115). -/
theorem countAnswer_leaves (s : State) (f : Frame) : Counted s (s.countAnswer f) 0 MGMT.REFUSED_RX_COUNT ∧
    PagesBut s (s.countAnswer f) [0x16] ∧ RegsOnly s (s.countAnswer f) := by
  have hregs : RegsOnly s (s.countAnswer f) :=
    ((((((RegsOnly.refl s).wrn 0 MGMT.REFUSED_RX_COUNT _ 0).wrn 0 MGMT.REFUSED_LAST0_VALID _ 0).wrn 0 MGMT.REFUSED_LAST0_CODE
      _ 0).wrn 0 MGMT.REFUSED_LAST0_ENDPOINT _ 0).wrn 0 MGMT.REFUSED_LAST1_SEQ _ 0).wrn 0 MGMT.REFUSED_LAST1_NODE _ 0
  have hpages : PagesBut s (s.countAnswer f) [0x16] :=
    (((((((RegWork.refl [0x16] s).sat MGMT.REFUSED_RX_COUNT 0).wr MGMT.REFUSED_LAST0_VALID _ 0).wr MGMT.REFUSED_LAST0_CODE
      _ 0).wr MGMT.REFUSED_LAST0_ENDPOINT _ 0).wr MGMT.REFUSED_LAST1_SEQ _ 0).wr MGMT.REFUSED_LAST1_NODE _ 0).2
  refine ⟨Eq.trans ?_ (counted_satn s 0 MGMT.REFUSED_RX_COUNT), hpages, hregs⟩
  simp only [State.countAnswer, wr_eq]
  iterate 5 rw [rdn_wrn_elsewhere (h := by decide)]
  rfl

end

theorem trailer_skipped (s : State) (d : Side) (e c : Bool) (n : Nat) (htodo : s.flt.todo = []) (h : (s.rxOf d).kind = .skip) :
    ∃ t, exec (.frameTrailerAccept d e c n) s = .next t ∧ (t.rxOf d).kind = .idle ∧ t = { s with rx := t.rx } :=
  ⟨_, exec_frameTrailerAccept (trailer_skip h) htodo, received_idle s d, rfl⟩

theorem trailer_errored (s : State) (d : Side) (c : Bool) (n : Nat) (htodo : s.flt.todo = []) (h : (s.rxOf d).kind = .absent) :
    ∃ t, exec (.frameTrailerAccept d true c n) s = .next t ∧ (t.rxOf d).kind = .idle ∧ Counted s t d.n MAC.RX_ERRORED_COUNT ∧
      RegsBut s t [MAC.RX_ERRORED_COUNT.key d.n 0] ∧ t = { s with regs := t.regs, rx := t.rx } :=
  ⟨_, exec_frameTrailerAccept ((trailer_absent h).trans (acceptFrame_errored .absent)) htodo, received_idle s d,
    counted_satn s d.n MAC.RX_ERRORED_COUNT, regsBut_wrn s d.n MAC.RX_ERRORED_COUNT _ 0 (List.mem_singleton_self _), rfl⟩

/-- The state an accepted answer leaves. -/
def answered (s : State) (d : Side) (f : Frame) : State :=
  (((received s d).markSeq (nodeOf f.src) f.tc f.seq).satn d.n MAC.RX_ACCEPT_COUNT).countAnswer f

/-- The window is marked as if the port still received. -/
theorem received_markSeq_win (s : State) (d : Side) (node cls q : Nat) :
    ((received s d).markSeq node cls q).win = (s.markSeq node cls q).win := by
  unfold State.markSeq
  rw [show (received s d).stream node cls = s.stream node cls from rfl]
  cases s.stream node cls with
  | none => rfl
  | some e => rfl

theorem answered_leaves (s : State) (d : Side) (f : Frame) :
    ((answered s d f).rxOf d).kind = .idle ∧ Counted s (answered s d f) d.n MAC.RX_ACCEPT_COUNT ∧
      Counted s (answered s d f) 0 MGMT.REFUSED_RX_COUNT ∧
      (answered s d f).win = (s.markSeq (nodeOf f.src) f.tc f.seq).win ∧
      answered s d f = { s with regs := (answered s d f).regs, rx := (answered s d f).rx, win := (answered s d f).win } := by
  have hwin := received_markSeq_win s d (nodeOf f.src) f.tc f.seq
  obtain ⟨w, hmarked⟩ := markSeq_frame (received s d) (nodeOf f.src) f.tc f.seq
  obtain ⟨hcount, hpages, rs, hframe⟩ :=
    countAnswer_leaves (((received s d).markSeq (nodeOf f.src) f.tc f.seq).satn d.n MAC.RX_ACCEPT_COUNT) f
  change answered s d f = _ at hframe
  change Counted _ (answered s d f) _ _ _ at hcount
  change PagesBut _ (answered s d f) _ at hpages
  rw [hmarked] at hframe hcount hpages hwin
  have hother : place MGMT.REFUSED_RX_COUNT 0 ≠ place MAC.RX_ACCEPT_COUNT d.n := by
    cases d
    · decide
    · decide
  refine ⟨?_, ?_, ?_, ?_, ?_⟩
  · rw [hframe]
    exact received_idle s d
  · refine (rdn_of_pagesBut hpages d.n MAC.RX_ACCEPT_COUNT 0 (by decide) ?_).trans (counted_satn s d.n MAC.RX_ACCEPT_COUNT)
    cases d
    · decide
    · decide
  · rw [Counted] at hcount ⊢
    rw [hcount, State.satn, rdn_wrn_elsewhere _ _ _ _ hother]
    rfl
  · rw [← hwin, hframe]
    rfl
  · rw [hframe]
    rfl

theorem trailer_answered (s : State) (d : Side) (f : Frame) (htodo : s.flt.todo = []) (hcur : (s.rxOf d).cur = f)
    (hkind : (s.rxOf d).kind = .answer) (herr : (s.rxOf d).errored = false) (hsec : f.sec = false) (hcrc : f.crc = f.trailer)
    (hreq : bitOf (s.rd GCM.CFG_RX_REQ) f.tc = false) (haccept : s.judgeSeq (nodeOf f.src) f.tc f.seq = .accept) :
    ∃ t, exec (.frameTrailerAccept d false false f.statedLen) s = .next t ∧ (t.rxOf d).kind = .idle ∧
      Counted s t d.n MAC.RX_ACCEPT_COUNT ∧ Counted s t 0 MGMT.REFUSED_RX_COUNT ∧
      t.win = (s.markSeq (nodeOf f.src) f.tc f.seq).win ∧ t = { s with regs := t.regs, rx := t.rx, win := t.win } := by
  have hleft := answered_leaves s d f
  have htrailer : s.trailer d false false f.statedLen = answered s d f := by
    rw [trailer_answer hkind, hcur, herr, Bool.or_self, acceptFrame_unsecured (s := received s d) .answer hsec hcrc hreq,
      judgeAndDeliver_accept (s := received s d) haccept]
    rfl
  have htodo' : (answered s d f).flt.todo = [] := by
    obtain ⟨-, -, -, -, hframe⟩ := hleft
    rw [hframe]
    exact htodo
  exact ⟨_, exec_frameTrailerAccept htrailer htodo', hleft⟩

end Sys2Proof.Proofs
end

section
/-! PROOFS. A frame that the junction's peer relays is queued for this ring, whatever becomes of the copy that the time unit
judges (R98, R134, R199, R206, R394). -/

set_option Elab.async false

namespace Sys2Proof.Proofs

open Sys2Proof.Machine Sys2Proof.Safety Sys2Proof.Laws

/-! ### Admission (R132, R134) -/

/-- A discard is counted, recorded and raised on the SWITCH page; nothing else changes. -/
theorem countDiscard_work (s : State) (v cause : Nat) : RegWork [0x10] s (s.countDiscard v cause) := by
  have h := RegWork.refl [0x10] s
  have hcount := fun c : Bool =>
    RegWork.ite (c := c = true) (h.sat SWITCH.VOQ_DISC_COUNT (clsOf v)) (h.sat SWITCH.PDOWN_DISC_COUNT (clsOf v))
  exact ((((hcount _).wr _ _ _).wr _ _ _).wr _ _ _).raise _ _ (by decide)

/-- Judging copies charges queues and counts discards, and admits some of the queues asked, in their order. -/
theorem admitAll_leaves (vs : List Nat) (n : Nat) (s : State) :
    ((State.admitAll vs n s).1.map Prod.fst).Sublist vs ∧
      (∃ q rs m l, (State.admitAll vs n s).2 = { s with voqs := q, regs := rs, msix := m, sent := l }) ∧
      ∀ w, ((State.admitAll vs n s).2.voq w).q = (s.voq w).q := by
  induction vs generalizing s with
  | nil => exact ⟨List.Sublist.refl _, ⟨_, _, _, _, rfl⟩, fun _ => rfl⟩
  | cons v vs ih =>
    rw [State.admitAll]
    cases s.admitCopy v n with
    | error cause =>
      obtain ⟨rs, m, l, hcount⟩ := (countDiscard_work s v cause).1
      obtain ⟨hsub, ⟨q, rs', m', l', hframe⟩, hqueues⟩ := ih (s.countDiscard v cause)
      refine ⟨hsub.cons v, ⟨q, rs', m', l', by rw [hframe, hcount]⟩, fun w => (hqueues w).trans ?_⟩
      rw [hcount]
      rfl
    | ok split =>
      obtain ⟨a, sh⟩ := split
      obtain ⟨q, rs, hcharge, -, hsame, -⟩ := charge_frame s v a sh
      obtain ⟨hsub, ⟨q', rs', m', l', hframe⟩, hqueues⟩ := ih (s.charge v a sh)
      exact ⟨hsub.cons_cons v, ⟨q', rs', m', l', by rw [hframe, hcharge]⟩, fun w => (hqueues w).trans (hsame w)⟩

/-- A queue with room admits its copy, whatever the queues judged after it do. -/
theorem mem_admitAll {s : State} {v n : Nat} {vs : List Nat} (h : ∃ as, s.admitCopy v n = .ok as) :
    v ∈ (State.admitAll (v :: vs) n s).1.map Prod.fst := by
  obtain ⟨⟨a, sh⟩, h⟩ := h
  rw [State.admitAll, h]
  exact List.mem_cons_self

/-! ### What judging a time message leaves -/

/-- The queues are as they were, and at most key alarms have been reported. -/
def QueuesAndAlarms (s t : State) : Prop :=
  t.voqs = s.voqs ∧ ∀ r ∈ t.flt.todo, r ∈ s.flt.todo ∨ (r.page = 0x19 ∧ r.checker = 3)

/-- What an alarm does at once: its cause and date shown, the session closed, the keys erased (R394). -/
def alarmErased (s : State) (cause : Nat) : State :=
  let s1 := s.wr KEYS.ALARM_STAT_CAUSE (setBit (s.rd KEYS.ALARM_STAT_CAUSE) cause)
  let s2 := ((s1.wr KEYS.ROOT_STAT_LOCKED 1).wr KEYS.ALARM_NS_NS s1.nowNs).wr KEYS.ALARM_SEC_SEC_LO s1.nowSec
  { s2.closeSession with gcm := { s2.gcm with root := none, cache := [] } }

/-- With KILL_EN the kill of the root key begins (R395). -/
def killBegun (s : State) : State :=
  if s.otp.killEn then
    (({ s with otp := { s.otp with killStarted := true } }).wr KEYS.ROOT_STAT_KILL_RUN 1).start tKill (ms 40)
  else s

theorem alarm_eq (s : State) (cause : Nat) : s.alarm cause =
    if s.rd KEYS.ALARM_STAT_CAUSE ≠ 0 then s.wr KEYS.ALARM_STAT_CAUSE (setBit (s.rd KEYS.ALARM_STAT_CAUSE) cause)
    else (killBegun (((alarmErased s cause).raise 0x19 0).report 0x19 3 cause)).keyDark := rfl

namespace QueuesAndAlarms

variable {s t u : State}

theorem refl (s : State) : QueuesAndAlarms s s := ⟨rfl, fun _ => .inl⟩

theorem same (h : QueuesAndAlarms s t) (hvoqs : u.voqs = t.voqs) (hflt : u.flt = t.flt) : QueuesAndAlarms s u :=
  ⟨hvoqs.trans h.1, fun r hr => h.2 r (hflt ▸ hr)⟩

theorem wr (h : QueuesAndAlarms s t) (f : Fld) (v i : Nat) : QueuesAndAlarms s (t.wr f v i) := h.same rfl rfl

theorem raise (h : QueuesAndAlarms s t) (pg b : Nat) : QueuesAndAlarms s (t.raise pg b) :=
  h.same (raise_voqs t pg b) (raise_flt t pg b)

theorem ite {c : Prop} [Decidable c] (ht : QueuesAndAlarms s t) (hu : QueuesAndAlarms s u) :
    QueuesAndAlarms s (if c then t else u) := by
  split
  · exact ht
  · exact hu

theorem report (h : QueuesAndAlarms s t) (detail : Nat) : QueuesAndAlarms s (t.report 0x19 3 detail) :=
  ⟨h.1, fun r hr => (List.mem_append.mp hr).elim (h.2 r) fun hr => .inr (by
    rw [List.mem_singleton.mp hr]
    exact ⟨rfl, rfl⟩)⟩

theorem closeSession (h : QueuesAndAlarms s t) : QueuesAndAlarms s t.closeSession := by
  refine ite (raise ?_ 0x49 1) h
  exact h.same rfl rfl

theorem alarmErased (h : QueuesAndAlarms s t) (cause : Nat) : QueuesAndAlarms s (alarmErased t cause) :=
  ((((h.wr _ _ _).wr _ _ _).wr _ _ _).wr _ _ _).closeSession.same rfl rfl

theorem killBegun (h : QueuesAndAlarms s t) : QueuesAndAlarms s (killBegun t) := ite (h.same rfl rfl) h

theorem keyDark (h : QueuesAndAlarms s t) : QueuesAndAlarms s t.keyDark := ite (h.same rfl rfl) h

theorem alarm (h : QueuesAndAlarms s t) (cause : Nat) : QueuesAndAlarms s (t.alarm cause) := by
  rw [alarm_eq]
  exact ite (h.wr _ _ _) (((h.alarmErased cause).raise 0x19 0).report cause).killBegun.keyDark

theorem tagLast (h : QueuesAndAlarms s t) (d cause : Nat) (f : Frame) : QueuesAndAlarms s (t.tagLast d cause f) :=
  ((((((h.wr _ _ _).wr _ _ _).wr _ _ _).wr _ _ _).wr _ _ _).wr _ _ _).raise 0x18 2

theorem tagCounted (h : QueuesAndAlarms s t) : QueuesAndAlarms s t.tagCounted := by
  refine ite (alarm ?_ 4) ?_
  · exact h.same rfl rfl
  · exact h.same rfl rfl

/-- A failure on the twin link is counted, and may be the alarm of too many tags that fail. -/
theorem openFailed_twin (h : QueuesAndAlarms s t) (cause : Nat) (f : Frame) : QueuesAndAlarms s (t.openFailed 3 cause f) := by
  have hcounted : QueuesAndAlarms s (t.sat (gcmFailFld cause)) := h.same rfl rfl
  exact ite hcounted.tagCounted (ite (hcounted.tagLast 3 cause f) hcounted)

theorem advanceEpoch (h : QueuesAndAlarms s t) (i b e : Nat) : QueuesAndAlarms s (t.advanceEpoch i b e) :=
  ite (h.same rfl rfl) h

theorem keyCached (h : QueuesAndAlarms s t) (k : Nat × Nat × Nat × Nat) :
    QueuesAndAlarms s ((t.inc KEYS.MISS_CNT_COUNT).cacheKey k) := by
  unfold State.cacheKey
  exact h.same rfl rfl

theorem timeVerdict_twin (h : QueuesAndAlarms s t) (f : Frame) (v : OpenVerdict) : QueuesAndAlarms s (t.timeVerdict 3 f v) := by
  cases v with
  | fail cause => exact h.openFailed_twin cause f
  | unsecured => exact h.same rfl rfl
  | derive k => exact h
  | opened i b e p plain k => exact (h.advanceEpoch i b e).same rfl rfl

/-- A time broadcast from the twin link is judged for the time unit. -/
theorem timeRelayed (h : QueuesAndAlarms s t) (f : Frame) : QueuesAndAlarms s (t.timeRelayed f) := by
  unfold State.timeRelayed State.timeOpen
  cases t.openFrame f false with
  | derive k => exact (h.keyCached k).timeVerdict_twin f _
  | fail cause => exact h.timeVerdict_twin f _
  | unsecured => exact h.timeVerdict_twin f _
  | opened => exact h.timeVerdict_twin f _

end QueuesAndAlarms

/-- The fault of a key alarm leaves the queues (R394, R475). -/
theorem detect_alarm_voqs (s : State) (r : Det) (h : r.page = 0x19 ∧ r.checker = 3) : (s.detect r).voqs = s.voqs := by
  obtain ⟨hpage, hck⟩ := h
  have hclass : checkerClass r.page r.checker = some 1 := by rw [hpage, hck]; rfl
  rw [State.detect, hclass]
  dsimp only
  split
  · rw [if_neg (by simp [hpage])]
  · split
    · rfl
    · rw [if_pos rfl, hpage, hck]
      rfl

theorem drain_alarms_voqs (s : State) (h : ∀ r ∈ s.flt.todo, r.page = 0x19 ∧ r.checker = 3) : s.drain.voqs = s.voqs := by
  have hall : ∀ (l : List Det) (t : State), (∀ r ∈ l, r.page = 0x19 ∧ r.checker = 3) →
      (l.foldl State.detect t).voqs = t.voqs := by
    intro l
    induction l with
    | nil => exact fun _ _ => rfl
    | cons r l ih =>
      exact fun t hl => (ih (t.detect r) fun x hx => hl x (List.mem_cons_of_mem r hx)).trans
        (detect_alarm_voqs t r (hl r List.mem_cons_self))
  exact hall s.flt.todo _ h

/-! ### The relay -/

/-- The frame as the junction takes it over: one crossing more, a time broadcast with its receive stamp (R98, R199). -/
def crossed (f : Frame) (stamp : Nat) : Frame :=
  { f with xings := f.xings + 1, launch := if isBroadcast f then corrLater f.launch stamp else f.launch }

/-- The state in which the frame's copies are stored. -/
def relayStored (s : State) (g : Frame) : State :=
  let adm := State.admitAll [voqIdx 2 0 g.tc, voqIdx 2 1 g.tc] (cellsOf g) s
  adm.2.storeCopies adm.1 (adm.2.placed 0 g) true none 0

theorem relayStored_queued (s : State) (g : Frame) (hroom : ∃ as, s.admitCopy (voqIdx 2 0 g.tc) (cellsOf g) = .ok as) :
    (∃ c, ((relayStored s g).voq (voqIdx 2 0 g.tc)).q = (s.voq (voqIdx 2 0 g.tc)).q ++ [c] ∧ c.accepted = true ∧
      ∃ t, c.frame = State.placed t 0 g ∧ t.otp = s.otp) ∧ (relayStored s g).flt = s.flt := by
  obtain ⟨hsub, ⟨q, rs, m, l, hframe⟩, hqueues⟩ := admitAll_leaves [voqIdx 2 0 g.tc, voqIdx 2 1 g.tc] (cellsOf g) s
  have hmem := mem_admitAll (vs := [voqIdx 2 1 g.tc]) hroom
  unfold relayStored
  dsimp only
  generalize State.admitAll [voqIdx 2 0 g.tc, voqIdx 2 1 g.tc] (cellsOf g) s = adm at *
  have hnodup : (adm.1.map Prod.fst).Nodup := hsub.nodup (by simp [voqIdx])
  obtain ⟨⟨vs, b, bm, hstored⟩, hqueued⟩ := storeCopies_queues adm.2 adm.1 (adm.2.placed 0 g) true none 0 hnodup
  obtain ⟨e, he, hv⟩ := List.mem_map.mp hmem
  obtain ⟨c, hc, haccepted, hcopy⟩ := hqueued e he
  rw [hv] at hc
  refine ⟨⟨c, ?_, haccepted, adm.2, hcopy, ?_⟩, ?_⟩
  · rw [hc, hqueues]
  · rw [hframe]
  · rw [hstored, hframe]

section
variable {s : State} {f : Frame} {stamp : Nat} (hrole : s.role = 2) (hup : s.linkState .twin = 8)
include hrole hup

theorem exec_junctionRelayRx : exec (.junctionRelayRx f stamp) s =
    .next (if s.rd TRANSIT.HOP_CFG_XING_MAX < (crossed f stamp).xings then s.satn 0 MAC.REMOVED_XING_COUNT
      else (if isBroadcast f then (relayStored s (crossed f stamp)).timeRelayed f else relayStored s (crossed f stamp)).drain) :=
  congrArg Host.Outcome.next (if_neg (by simp [hrole, hup]))

/-- A frame that has crossed too many junctions is discarded (R98). -/
theorem junctionRelayRx_removed (hfar : s.rd TRANSIT.HOP_CFG_XING_MAX < f.xings + 1) :
    ∃ t, exec (.junctionRelayRx f stamp) s = .next t ∧ Counted s t 0 MAC.REMOVED_XING_COUNT ∧
      RegsBut s t [MAC.REMOVED_XING_COUNT.key 0 0] ∧ t = { s with regs := t.regs } :=
  ⟨_, (exec_junctionRelayRx hrole hup).trans (congrArg _ (if_pos hfar)), counted_satn s 0 MAC.REMOVED_XING_COUNT,
    regsBut_wrn s 0 MAC.REMOVED_XING_COUNT _ 0 (List.mem_singleton_self _), rfl⟩

theorem junctionRelayRx_queued (htodo : s.flt.todo = []) (hnear : f.xings + 1 ≤ s.rd TRANSIT.HOP_CFG_XING_MAX)
    (hroom : ∃ as, s.admitCopy (voqIdx 2 0 f.tc) (cellsOf f) = .ok as) :
    ∃ t c, exec (.junctionRelayRx f stamp) s = .next t ∧
      (t.voq (voqIdx 2 0 f.tc)).q = (s.voq (voqIdx 2 0 f.tc)).q ++ [c] ∧ c.accepted = true ∧ c.frame.xings = f.xings + 1 ∧
      c.frame.src = f.src ∧ c.frame.seq = f.seq ∧ c.frame.payload = f.payload ∧ c.frame.entry = s.station := by
  obtain ⟨⟨c, hqueue, haccepted, u, hcopy, hotp⟩, hflt⟩ := relayStored_queued s (crossed f stamp) hroom
  generalize hstored : relayStored s (crossed f stamp) = r at hqueue hflt
  have hjudged : QueuesAndAlarms r (if isBroadcast f then r.timeRelayed f else r) := by
    exact QueuesAndAlarms.ite ((QueuesAndAlarms.refl r).timeRelayed f) (QueuesAndAlarms.refl r)
  have hvoqs : (if isBroadcast f then r.timeRelayed f else r).drain.voqs = r.voqs := by
    refine (drain_alarms_voqs _ fun x hx => (hjudged.2 x hx).resolve_left ?_).trans hjudged.1
    rw [hflt, htodo]
    exact List.not_mem_nil
  have hentry : c.frame.entry = s.station := by
    rw [hcopy]
    show u.station = s.station
    rw [State.station, State.station, State.nodeId, State.nodeId, State.shadow, State.shadow, hotp]
  refine ⟨_, c, (exec_junctionRelayRx hrole hup).trans (congrArg _ (if_neg (Nat.not_lt.mpr hnear))), ?_, haccepted, ?_, ?_, ?_, ?_,
    hentry⟩
  · rw [hstored, State.voq, hvoqs]
    exact hqueue
  all_goals
    rw [hcopy]
    rfl

end

end Sys2Proof.Proofs
end

section
/-! PROOFS. Retired streams, insertion periods and the insertion gate (R91, R101, R103-R105, R113). -/

set_option Elab.async false

namespace Sys2Proof.Proofs

open Sys2Proof.Machine Sys2Proof.Safety Sys2Proof.Laws

/-! ### Streams and periods (R105, R113) -/

theorem streamEntryRetire_retires (s : State) (node cls : Nat) :
    ∃ t, exec (.streamEntryRetire node cls) s = .next t ∧
      (∀ e ∈ t.win, e.node = node → e.cls = cls → s.streamFresh e = true) ∧
      (∀ e ∈ s.win, e ∈ t.win ∨ (e.node = node ∧ e.cls = cls ∧ s.streamFresh e = false)) ∧ t = { s with win := t.win } := by
  refine ⟨_, rfl, fun e he hnode hcls => ?_, fun e he => ?_, rfl⟩
  · have hkept := (List.mem_filter.mp he).2
    simpa [hnode, hcls] using hkept
  · by_cases hold : e.node = node ∧ e.cls = cls ∧ s.streamFresh e = false
    · exact .inr hold
    · refine .inl (List.mem_filter.mpr ⟨he, ?_⟩)
      simp only [not_and, Bool.not_eq_false] at hold
      simp only [Bool.or_eq_true, Bool.not_eq_true', Bool.and_eq_false_iff, decide_eq_false_iff_not]
      by_cases hnode : e.node = node
      · by_cases hcls : e.cls = cls
        · exact .inr (hold hnode hcls)
        · exact .inl (.inr hcls)
      · exact .inl (.inl hnode)

theorem insPeriodStart_restarts (s : State) (d : Side) (h : s.fab / fns (s.rdn d.n MAC.INS_PERIOD_PERIOD * 100) ≠
      (s.txOf d).started / fns (s.rdn d.n MAC.INS_PERIOD_PERIOD * 100)) :
    ∃ t, exec (.insPeriodStart d) s = .next t ∧ (t.txOf d).used = [] ∧ (t.txOf d).period = s.rdn d.n MAC.INS_PERIOD_PERIOD ∧
      (t.txOf d).started = s.fab ∧ t.txOf d.opp = s.txOf d.opp ∧ t = { s with tx := t.tx } := by
  have htx := txOf_updTx_same s d fun t => { t with used := [], period := s.rdn d.n MAC.INS_PERIOD_PERIOD, started := s.fab }
  exact ⟨_, congrArg Host.Outcome.next (if_pos h), congrArg TxPort.used htx, congrArg TxPort.period htx,
    congrArg TxPort.started htx, txOf_updTx_opp s d _, rfl⟩

/-! ### The gate at an idle output (R103, R104) -/

/-- Sending a TC7 frame changes what is sent and, for a delay request, the stamps of the time unit. -/
theorem emitMaint_frame (s : State) (d : Side) (m : Maint) : ∃ l u, s.emitMaint d m = { s with sent := l, time := u } := by
  unfold State.emitMaint
  rw [fillSlot_eq]
  cases m with
  | pdelayReq msg => exact ⟨_, _, rfl⟩
  | _ => exact ⟨_, s.time, rfl⟩

section
variable {s : State} {d : Side} {ea : Option Nat} {vis : Nat}

theorem insert_maint {m : Maint} {rest : List Maint} (hup : s.outUp d = true) (hidle : (s.txOf d).cur = .idle)
    (hwait : (s.txOf d).maint = m :: rest) :
    s.insert d ea vis = (s.emitMaint d m).updTx d (fun t => { t with maint := rest }) := by
  refine (if_neg (by simp [hup, hidle])).trans ?_
  rw [hwait]

/-- With no TC7 frame waiting, what is granted starts. -/
theorem insert_granted (hup : s.outUp d = true) (hidle : (s.txOf d).cur = .idle) (hwait : (s.txOf d).maint = [])
    (hsettled : (s.yieldGrant d).ringArbitrate d = s) (hgrant : (s.out d.code).grant.isSome = true) (hpaused : s.paused d = false) :
    s.insert d ea vis = s.startGranted d ea vis := by
  refine (if_neg (by simp [hup, hidle])).trans ?_
  rw [hwait]
  dsimp only
  rw [hsettled, if_pos hgrant, if_neg (by simp [hpaused])]

/-- With nothing granted, the head of the transit buffer starts. -/
theorem insert_buffered {e : Frame × Nat} {rest : List (Frame × Nat)} (hup : s.outUp d = true) (hidle : (s.txOf d).cur = .idle)
    (hwait : (s.txOf d).maint = []) (hsettled : (s.yieldGrant d).ringArbitrate d = s) (hgrant : (s.out d.code).grant = none)
    (htbuf : (s.txOf d).tbuf = e :: rest) (hgate : s.gateOpen d e.1.statedLen false ea vis = true) :
    s.insert d ea vis = (s.fillSlot d).updTx d (fun t => { t with cur := .fromBuf }) := by
  refine (if_neg (by simp [hup, hidle])).trans ?_
  rw [hwait]
  dsimp only
  rw [hsettled, hgrant, htbuf]
  exact if_pos hgate

theorem yieldGrant_none (h : (s.out d.code).grant = none) : s.yieldGrant d = s := by rw [State.yieldGrant, h]

/-- A grant in the offered rank does not give way, nor one that keeps nothing of a rank before it waiting. -/
theorem yieldGrant_kept {v : Nat} (hgrant : (s.out d.code).grant = some v) (h : (s.classes3 d).contains (clsOf v) = true ∨
    ((s.txOf d).tbuf = [] ∧ s.requesters d.code (s.classes3 d) = [])) : s.yieldGrant d = s := by
  rw [State.yieldGrant, hgrant]
  refine if_neg ?_
  rcases h with hrank | ⟨htbuf, hreq⟩
  · rw [hrank]
    simp
  · simp [htbuf, hreq]

theorem ringArbitrate_granted (h : (s.out d.code).grant.isSome = true) : s.ringArbitrate d = s := if_pos (by rw [h]; rfl)

/-- The transit buffer goes before rank 5: nothing is granted. -/
theorem ringArbitrate_tbuf (hgrant : (s.out d.code).grant = none) (hreq : s.requesters d.code (s.classes3 d) = [])
    (hopen : s.outOpen d.code = true) (hpaused : s.paused d = false) (htbuf : (s.txOf d).tbuf ≠ []) : s.ringArbitrate d = s :=
  (if_neg (by simp [hgrant, hpaused, hopen])).trans ((if_neg (by simp [hreq])).trans (if_neg htbuf))

theorem startGranted_plain {v : Nat} {c : Copy} {rest : List Copy} (hgrant : (s.out d.code).grant = some v)
    (hqueue : (s.voq v).q = c :: rest) (hlaunch : c.launchAt = none) (hgate : s.gateOpen d c.frame.statedLen false ea vis = true) :
    s.startGranted d ea vis = (s.fillSlot d).updTx d (fun t => { t with cur := .queue v, slotAt := s.slotFab d }) := by
  rw [State.startGranted, hgrant]
  dsimp only
  rw [hqueue]
  dsimp only
  rw [hlaunch]
  exact (if_neg Bool.false_ne_true).trans (if_pos (by simpa using hgate))

theorem insertion_maint {m : Maint} {rest : List Maint} (hup : s.outUp d = true) (hidle : (s.txOf d).cur = .idle)
    (hwait : (s.txOf d).maint = m :: rest) :
    ∃ t, exec (.insertion d ea vis) s = .next t ∧ (t.txOf d).maint = rest ∧ (t.txOf d).cur = .idle ∧ t.txOf d.opp = s.txOf d.opp ∧
      (m = .laneReady 0 → s.lastOfGroup d = false → t.sent = s.sent ++ [.maint d.code m]) ∧
      t = { s with tx := t.tx, sent := t.sent, time := t.time } := by
  obtain ⟨l, u, hsent⟩ := emitMaint_frame s d m
  refine ⟨_, congrArg Host.Outcome.next (insert_maint hup hidle hwait), ?_, ?_, ?_, fun hm hlast => ?_, ?_⟩
  · rw [txOf_updTx_same]
  · rw [txOf_updTx_same, hsent]
    exact hidle
  · rw [txOf_updTx_opp, hsent]
    rfl
  · rw [hm]
    show (s.fillSlot d).sent ++ _ = _
    rw [fillSlot_eq, hlast]
    simp
  · rw [hsent]
    rfl

theorem insertion_tbuf {f : Frame} {how : Nat} {rest : List (Frame × Nat)} (hup : s.outUp d = true)
    (hidle : (s.txOf d).cur = .idle) (hwait : (s.txOf d).maint = []) (hgrant : (s.out d.code).grant = none)
    (hreq : s.requesters d.code (s.classes3 d) = []) (hopen : s.outOpen d.code = true) (hpaused : s.paused d = false)
    (htbuf : (s.txOf d).tbuf = (f, how) :: rest) (hgate : s.gateOpen d f.statedLen false ea vis = true) :
    ∃ t, exec (.insertion d ea vis) s = .next t ∧ (t.txOf d).cur = .fromBuf ∧ (t.txOf d).tbuf = (s.txOf d).tbuf ∧
      t.sent = s.sent ++ (if s.lastOfGroup d then [.maint d.code .idle] else []) ∧
      t.txOf d.opp = s.txOf d.opp ∧ t = { s with tx := t.tx, sent := t.sent } := by
  have hsettled : (s.yieldGrant d).ringArbitrate d = s := by
    rw [yieldGrant_none hgrant]
    exact ringArbitrate_tbuf hgrant hreq hopen hpaused (by simp [htbuf])
  have hstart := insert_buffered hup hidle hwait hsettled hgrant htbuf hgate
  rw [fillSlot_eq] at hstart
  refine ⟨_, congrArg Host.Outcome.next hstart, ?_, ?_, rfl, ?_, rfl⟩
  · rw [txOf_updTx_same]
  · rw [txOf_updTx_same]
    rfl
  · rw [txOf_updTx_opp]
    rfl

theorem insertion_granted {v : Nat} {c : Copy} {rest : List Copy} (hup : s.outUp d = true) (hidle : (s.txOf d).cur = .idle)
    (hwait : (s.txOf d).maint = []) (hgrant : (s.out d.code).grant = some v) (hpaused : s.paused d = false)
    (hqueue : (s.voq v).q = c :: rest) (hrank : (s.classes3 d).contains (clsOf v) = true ∨
      ((s.txOf d).tbuf = [] ∧ s.requesters d.code (s.classes3 d) = [])) (hlaunch : c.launchAt = none)
    (hgate : s.gateOpen d c.frame.statedLen false ea vis = true) :
    ∃ t, exec (.insertion d ea vis) s = .next t ∧ (t.txOf d).cur = .queue v ∧
      t.sent = s.sent ++ (if s.lastOfGroup d then [.maint d.code .idle] else []) ∧ t = { s with tx := t.tx, sent := t.sent } := by
  have hsettled : (s.yieldGrant d).ringArbitrate d = s := by
    rw [yieldGrant_kept hgrant hrank]
    exact ringArbitrate_granted (by rw [hgrant]; rfl)
  have hstart := (insert_granted hup hidle hwait hsettled (by rw [hgrant]; rfl) hpaused).trans
    (startGranted_plain hgrant hqueue hlaunch hgate)
  rw [fillSlot_eq] at hstart
  refine ⟨_, congrArg Host.Outcome.next hstart, ?_, rfl, rfl⟩
  rw [txOf_updTx_same]

end

/-! ### The obligation -/

/-- Settles O19: each command's hypotheses select one branch of what a port, the window or the gate does; the copy that the time
unit judges of a relayed frame reports at most a key alarm, which leaves the queues. -/
theorem frameEndRelayAndInsertionComplete : Obligations.FrameEndRelayAndInsertionComplete := by
  unfold Obligations.FrameEndRelayAndInsertionComplete
  exact ⟨trailer_skipped, trailer_errored, trailer_answered,
    fun _ _ _ hrole hup htodo => ⟨junctionRelayRx_removed hrole hup, junctionRelayRx_queued hrole hup htodo⟩,
    streamEntryRetire_retires, insPeriodStart_restarts, fun _ _ _ _ _ _ => insertion_maint,
    fun _ _ _ _ _ _ _ => insertion_tbuf, fun _ _ _ _ _ _ _ => insertion_granted⟩

end Sys2Proof.Proofs
end

section
/-! PROOFS. The bypass relay: a transit check that fails, FORCE, REJOIN and the end of the relay wait (R116-R118, R121, R122,
R126). -/

set_option Elab.async false

namespace Sys2Proof.Proofs

open Sys2Proof.Machine Sys2Proof.Safety Sys2Proof.Laws

/-! ### Entering the bypass (R117) -/

/-- Both ring outputs are silent and the ports disabled; only what drives them, registers and events have changed. -/
def Bypassed (s t : State) : Prop :=
  t.byp.ports = false ∧ (t.txOf .east).silent = true ∧ (t.txOf .west).silent = true ∧
    t = { s with regs := t.regs, byp := t.byp, tx := t.tx, timers := t.timers, msix := t.msix, sent := t.sent }

theorem txOf_updTx_both (s : State) (f g : TxPort → TxPort) :
    ((s.updTx .east f).updTx .west g).txOf .east = f (s.txOf .east) ∧ ((s.updTx .east f).updTx .west g).txOf .west = g (s.txOf .west) :=
  ⟨(txOf_updTx_opp _ .west g).trans (txOf_updTx_same s .east f),
    (txOf_updTx_same _ .west g).trans (congrArg g (txOf_updTx_opp s .east f))⟩

/-- Both ring outputs cease to drive. -/
def silenced (s : State) : State := (s.updTx .east (fun t => { t with silent := true })).updTx .west (fun t => { t with silent := true })

theorem silenced_both (s : State) : ((silenced s).txOf .east).silent = true ∧ ((silenced s).txOf .west).silent = true := by
  obtain ⟨heast, hwest⟩ := txOf_updTx_both s (fun t => { t with silent := true }) (fun t => { t with silent := true })
  exact ⟨congrArg TxPort.silent heast, congrArg TxPort.silent hwest⟩

/-- The outputs silenced, BYPASS_N low and no relay wait running. -/
def bypassDriven (s : State) : State :=
  (silenced { s with byp := { s.byp with high := false, waiting := false, ports := false, startup := false } }).stop tRelay

/-- A bypass entered shows itself on the TRANSIT page. -/
theorem enterBypass_work (s : State) (cause : Nat) : RegWork [0x0E] (bypassDriven s) (s.enterBypass cause) :=
  ((((RegWork.refl [0x0E] (bypassDriven s)).wr TRANSIT.BYP_STAT_BYPASSED 1 0).wr TRANSIT.BYP_STAT_CAUSE cause 0).wr
    TRANSIT.BYP_CTRL_REJOIN 0 0).raise 0x0E 1

theorem enterBypass_bypassed (s : State) (cause : Nat) : Bypassed s (s.enterBypass cause) := by
  obtain ⟨⟨rs, m, l, hframe⟩, -⟩ := enterBypass_work s cause
  obtain ⟨heast, hwest⟩ := silenced_both
    { s with byp := { s.byp with high := false, waiting := false, ports := false, startup := false } }
  rw [hframe]
  exact ⟨rfl, heast, hwest, rfl⟩

/-- What came before the bypass was entered may have written registers and raised events. -/
theorem bypassed_after {s u t : State} (h : Bypassed u t) (hu : ∃ rs m l, u = { s with regs := rs, msix := m, sent := l }) :
    Bypassed s t := by
  obtain ⟨hports, heast, hwest, hframe⟩ := h
  obtain ⟨rs, m, l, rfl⟩ := hu
  exact ⟨hports, heast, hwest, hframe⟩

/-! ### A transit check fails (R116, R121) -/

/-- The first failure is captured and raised. -/
def failureShown (s : State) (out kind : Nat) : State :=
  ((((s.wr TRANSIT.CMP_STAT_VALID 1).wr TRANSIT.CMP_STAT_OUTPUT out).wr TRANSIT.CMP_STAT_KIND kind).wr
    TRANSIT.BYP_STAT_FAULT_HELD 1).raise 0x0E 0

theorem transitFail_first (s : State) (out kind : Nat) (hvalid : s.flag TRANSIT.CMP_STAT_VALID = false) (hhigh : s.byp.high = true) :
    s.transitFail out kind = (failureShown s out kind).enterBypass 2 := by
  have hstill : (failureShown s out kind).byp.high = true := by
    rw [failureShown, raise_byp]
    exact hhigh
  rw [State.transitFail, hvalid]
  exact if_pos hstill

theorem transitFail_bypassed (s : State) (out kind : Nat) (hvalid : s.flag TRANSIT.CMP_STAT_VALID = false)
    (hhigh : s.byp.high = true) : Bypassed s (s.transitFail out kind) ∧ (s.transitFail out kind).rd TRANSIT.BYP_STAT_CAUSE = 2 := by
  rw [transitFail_first s out kind hvalid hhigh]
  obtain ⟨-, -, hcause, -⟩ := enterBypass_leaves (failureShown s out kind) 2 (by decide)
  exact ⟨bypassed_after (enterBypass_bypassed _ 2) (((((((RegWork.refl [0x0E] s).wr TRANSIT.CMP_STAT_VALID _ 0).wr
    TRANSIT.CMP_STAT_OUTPUT _ 0).wr TRANSIT.CMP_STAT_KIND _ 0).wr TRANSIT.BYP_STAT_FAULT_HELD _ 0).raise 0x0E 0).1), hcause⟩

/-- One report, where none waited, is detected when the command ends. -/
theorem drain_report (s : State) (pg ck : Nat) (htodo : s.flt.todo = []) :
    (s.report pg ck).drain = s.detect (detOf s pg ck 0 false) := by
  have hsame : { s with flt := { s.flt with todo := [] } } = s := by rw [← htodo]
  rw [State.drain, State.report]
  dsimp only
  rw [htodo]
  show State.detect { s with flt := { s.flt with todo := [] } } _ = _
  rw [hsame]
  rfl

/-- The registers that detecting a transit check's fault writes. -/
def transitFaultKeys : List Nat := [key FAULT.REPEAT_CNT_COUNT, HDR.FLT_STAT_CHECKERS.key 0x0E 0, key TRANSIT.BYP_STAT_CAUSE]

/-- A transit check's fault on a hub already in bypass: its bit is set, whether for the first time or again (R475, R478). -/
theorem detect_bypassed (u : State) (hlow : u.byp.high = false) (hmode : u.mode ≠ 5) (hcause : u.rd TRANSIT.BYP_STAT_CAUSE = 2) :
    let t := u.detect (detOf u 0x0E 0 0 false)
    t.rd TRANSIT.BYP_STAT_CAUSE = 2 ∧ bitOf (t.rdn 0x0E HDR.FLT_STAT_CHECKERS) 0 = true ∧ RegsBut u t transitFaultKeys ∧
      t = { u with regs := t.regs, flt := t.flt } := by
  generalize hd : detOf u 0x0E 0 0 false = d
  obtain ⟨hpg, hck, hcorr⟩ : d.page = 0x0E ∧ d.checker = 0 ∧ d.corr = false := by
    rw [← hd]
    exact ⟨rfl, rfl, rfl⟩
  have hclass : checkerClass d.page d.checker = some 2 := by
    rw [hpg, hck]
    rfl
  intro t
  cases hbit : bitOf (u.rdn d.page HDR.FLT_STAT_CHECKERS) d.checker with
  | true =>
    have ht : t = u.sat FAULT.REPEAT_CNT_COUNT := detect_repeat u d hclass (by decide) (by rw [hcorr]; rfl) hbit
    have hregs : RegsBut u t [key FAULT.REPEAT_CNT_COUNT] := by
      rw [ht]
      exact regsBut_wrn u 0 FAULT.REPEAT_CNT_COUNT _ 0 (List.mem_singleton_self _)
    refine ⟨(rdn_of_regsBut hregs 0 _ 0 (by decide)).trans hcause, ?_, regsBut_mono hregs (by simp [transitFaultKeys]), ?_⟩
    · rw [rdn_of_regsBut hregs 0x0E HDR.FLT_STAT_CHECKERS 0 (by decide)]
      rwa [hpg, hck] at hbit
    · rw [ht]
      rfl
  | false =>
    have ht : t = (marked u d).wr TRANSIT.BYP_STAT_CAUSE 2 := by
      have hnew := detect_new u d hclass (by decide) hcorr hbit
      rwa [if_neg (by decide), if_pos hpg, if_neg hmode, if_neg (by rw [show (marked u d).byp.high = u.byp.high from rfl, hlow]; decide)]
        at hnew
    have hset := marked_bit u d (by rw [hck]; decide)
    have hmarked := marked_regs u d
    rw [hpg] at hset hmarked
    rw [hck] at hset
    rw [ht]
    refine ⟨rdn_wrn_same _ 0 TRANSIT.BYP_STAT_CAUSE 2 0, ?_, ?_, rfl⟩
    · rwa [State.wr, rdn_wrn_elsewhere (marked u d) 2 0 0 (by decide)]
    · exact regsBut_trans (regsBut_mono hmarked (by simp [transitFaultKeys]))
        (regsBut_wrn _ 0 TRANSIT.BYP_STAT_CAUSE 2 0 (by simp [transitFaultKeys, key]))

theorem transitCheckFail_bypasses (s : State) (o : Side) (kind : Nat) (htodo : s.flt.todo = []) (hhigh : s.byp.high = true)
    (hmode : s.mode ≠ 5) (hkind : kind < 4) (hvalid : s.flag TRANSIT.CMP_STAT_VALID = false) :
    ∃ t, exec (.transitCheckFail o kind) s = .next t ∧ t.byp.high = false ∧ t.byp.ports = false ∧
      (t.txOf .east).silent = true ∧ (t.txOf .west).silent = true ∧ t.rd TRANSIT.BYP_STAT_CAUSE = 2 ∧
      t.rd TRANSIT.CMP_STAT_OUTPUT = o.code ∧ t.rd TRANSIT.CMP_STAT_KIND = kind ∧ event t 0x0E 0 = true ∧ event t 0x0E 1 = true ∧
      bitOf (t.rdn 0x0E HDR.FLT_STAT_CHECKERS) 0 = true ∧
      t = { s with regs := t.regs, byp := t.byp, tx := t.tx, timers := t.timers, flt := t.flt, msix := t.msix, sent := t.sent } := by
  have hcode : o.code < 2 := by
    cases o
    · decide
    · decide
  obtain ⟨hlow, hflt, hout, hkindShown, hregs, hevent0, hevent1⟩ := transitFail_leaves s o.code kind hcode hkind hvalid hhigh
  obtain ⟨⟨hports, heast, hwest, hframe⟩, hcause⟩ := transitFail_bypassed s o.code kind hvalid hhigh
  have hexec : exec (.transitCheckFail o kind) s =
      .next ((s.transitFail o.code kind).detect (detOf (s.transitFail o.code kind) 0x0E 0 0 false)) :=
    congrArg Host.Outcome.next (drain_report _ 0x0E 0 (by rw [hflt, htodo]))
  generalize s.transitFail o.code kind = u at *
  have hmode' : u.mode ≠ 5 := by
    rwa [State.mode, State.rd, rdn_of_regsBut hregs 0 DEVICE.MODE_STAT_MODE 0 (by decide)]
  obtain ⟨hcause', hbit, hregs', hframe'⟩ := detect_bypassed u hlow hmode' hcause
  generalize u.detect (detOf u 0x0E 0 0 false) = t at *
  have hevents : ∀ b, event t 0x0E b = event u 0x0E b := fun b =>
    congrArg (bitOf · b) (rdn_of_regsBut hregs' 0x0E HDR.INT_STAT_EVENTS 0 (by decide))
  have hbyp : t.byp = u.byp := by rw [hframe']
  have htx : ∀ d, t.txOf d = u.txOf d := fun d => by
    rw [hframe']
    rfl
  refine ⟨t, hexec, by rw [hbyp, hlow], by rw [hbyp, hports], by rw [htx, heast], by rw [htx, hwest], hcause',
    (rdn_of_regsBut hregs' 0 _ 0 (by decide)).trans hout, (rdn_of_regsBut hregs' 0 _ 0 (by decide)).trans hkindShown,
    (hevents 0).trans hevent0, (hevents 1).trans hevent1, hbit, ?_⟩
  rw [hframe', hframe]

theorem heard_byp (s : State) (p : Port) : (s.heard p).byp = s.byp := by
  obtain ⟨ts, h⟩ := heard_frame s p
  rw [h]

theorem heard_mono (s : State) (p : Port) : (s.heard p).mono = s.mono := by
  obtain ⟨ts, h⟩ := heard_frame s p
  rw [h]

/-! ### FORCE -/

theorem force_enters (u : State) (hentered : u.byp.entered = true) (hhigh : u.byp.high = true)
    (hforce : u.flag TRANSIT.BYP_CTRL_FORCE = false) :
    u.force true = (u.wr TRANSIT.BYP_CTRL_FORCE 1).enterBypass 3 := by
  have hgo : ¬ (!(u.wr TRANSIT.BYP_CTRL_FORCE 1).byp.entered || decide (u.flag TRANSIT.BYP_CTRL_FORCE = true)) = true := by
    rw [hforce, show (u.wr TRANSIT.BYP_CTRL_FORCE 1).byp.entered = u.byp.entered from rfl, hentered]
    decide
  exact (if_neg hgo).trans ((if_pos rfl).trans (if_pos hhigh))

theorem bypassForce_bypasses (s : State) (p : Port) (hperm : Permitted s p 0x0E 0x48 1) (hentered : s.byp.entered = true)
    (hhigh : s.byp.high = true) (hforce : s.flag TRANSIT.BYP_CTRL_FORCE = false) :
    ∃ t, exec (.bypassForce p true) s = .next t ∧ t.byp.high = false ∧ (t.txOf .east).silent = true ∧
      (t.txOf .west).silent = true ∧
      t.flag TRANSIT.BYP_CTRL_FORCE = true ∧ t.rd TRANSIT.BYP_STAT_CAUSE = 3 ∧ event t 0x0E 1 = true ∧ done p ∈ t.sent ∧
      t = { s.heard p with regs := t.regs, byp := t.byp, tx := t.tx, timers := t.timers, msix := t.msix, sent := t.sent } := by
  have hforced := force_enters (s.heard p) (by rwa [heard_byp]) (by rwa [heard_byp])
    (by rwa [State.flag, State.rd, heard_rdn])
  have hexec : exec (.bypassForce p true) s = .next (((s.heard p).force true).emit (done p)) :=
    congrArg Host.Outcome.next (access_permitted s p 0x0E 0x48 1 (fun s => s.force true) hperm)
  generalize s.heard p = u at hforced hexec ⊢
  have hshown : (u.wr TRANSIT.BYP_CTRL_FORCE 1).flag TRANSIT.BYP_CTRL_FORCE = true :=
    decide_eq_true (rdn_wrn_same u 0 TRANSIT.BYP_CTRL_FORCE 1 0)
  obtain ⟨hlow, -, hcause, hregs, hevent, -⟩ := enterBypass_leaves (u.wr TRANSIT.BYP_CTRL_FORCE 1) 3 (by decide)
  obtain ⟨-, heast, hwest, hframe⟩ := bypassed_after (enterBypass_bypassed (u.wr TRANSIT.BYP_CTRL_FORCE 1) 3)
    (s := u) ⟨_, u.msix, u.sent, rfl⟩
  rw [← hforced] at hlow hcause hregs hevent heast hwest hframe
  generalize u.force true = t at *
  refine ⟨_, hexec, hlow, heast, hwest, ?_, hcause, hevent, List.mem_append_right _ (List.mem_singleton_self _), ?_⟩
  · rw [← hshown]
    exact congrArg (fun v => decide (v = 1)) (rdn_of_regsBut hregs 0 TRANSIT.BYP_CTRL_FORCE 0 (by decide))
  · rw [hframe]
    rfl

/-! ### REJOIN -/

/-- Why a REJOIN is ignored: an uncleared transit fault, FORCE, or a hub that has not entered LISTEN (R118). -/
def RejoinBarred (s : State) : Prop :=
  bitOf (s.rdn 0x0E HDR.FLT_STAT_CHECKERS) 0 = true ∨ s.flag TRANSIT.BYP_CTRL_FORCE = true ∨ s.byp.entered = false

theorem rejoin_barred (u : State) (h : RejoinBarred u) : u.rejoin = u := by
  refine if_pos ?_
  rcases h with hflt | hforce | hentered
  · simp [-flag_eq, hflt]
  · simp [-flag_eq, hforce]
  · simp [-flag_eq, hentered]

theorem rejoin_leaves (u : State) (hflt : bitOf (u.rdn 0x0E HDR.FLT_STAT_CHECKERS) 0 = false)
    (hforce : u.flag TRANSIT.BYP_CTRL_FORCE = false) (hentered : u.byp.entered = true) (hwaiting : u.byp.waiting = false) :
    u.rejoin = u.leaveBypass.wr TRANSIT.BYP_CTRL_REJOIN 1 := by
  refine if_neg ?_
  rw [hflt, hforce, hentered, hwaiting]
  decide

/-- Leaving the bypass drives BYPASS_N high and starts the relay wait. -/
theorem leaveBypass_starts (u : State) : u.leaveBypass.byp.high = true ∧ u.leaveBypass.byp.waiting = true ∧
    Tbl.find u.leaveBypass.timers tRelay = some (u.mono + u.rd TRANSIT.BYP_CTRL_RELAY_WAIT * ms 1) ∧
    TimersBut u u.leaveBypass [tRelay] ∧
    u.leaveBypass = { u with regs := u.leaveBypass.regs, byp := u.leaveBypass.byp, timers := u.leaveBypass.timers } :=
  ⟨rfl, rfl, find_start_same _ _ _, fun k hk => find_start_other _ _ _ k (by simpa using hk), rfl⟩

theorem exec_bypassRejoin (s : State) (p : Port) (hperm : Permitted s p 0x0E 0x48 2) :
    exec (.bypassRejoin p) s = .next ((s.heard p).rejoin.emit (done p)) :=
  congrArg Host.Outcome.next (access_permitted s p 0x0E 0x48 (2 + s.rd TRANSIT.BYP_CTRL_FORCE) State.rejoin hperm)

theorem bypassRejoin_leaves (s : State) (p : Port) (hperm : Permitted s p 0x0E 0x48 2)
    (hflt : bitOf (s.rdn 0x0E HDR.FLT_STAT_CHECKERS) 0 = false) (hforce : s.flag TRANSIT.BYP_CTRL_FORCE = false)
    (hentered : s.byp.entered = true) (hwaiting : s.byp.waiting = false) :
    ∃ t, exec (.bypassRejoin p) s = .next t ∧ t.byp.high = true ∧ t.byp.waiting = true ∧ t.rd TRANSIT.BYP_CTRL_REJOIN = 1 ∧
      Tbl.find t.timers tRelay = some (s.mono + s.rd TRANSIT.BYP_CTRL_RELAY_WAIT * ms 1) ∧ TimersBut (s.heard p) t [tRelay] ∧
      t = { s.heard p with regs := t.regs, byp := t.byp, timers := t.timers, sent := s.sent ++ [done p] } := by
  have hexec := exec_bypassRejoin s p hperm
  rw [rejoin_leaves (s.heard p) (by rwa [heard_rdn]) (by rwa [State.flag, State.rd, heard_rdn]) (by rwa [heard_byp])
    (by rwa [heard_byp])] at hexec
  obtain ⟨hhigh, hwait, htimer, htimers, hframe⟩ := leaveBypass_starts (s.heard p)
  rw [heard_mono, State.rd, heard_rdn] at htimer
  rw [← heard_sent s p]
  generalize (s.heard p).leaveBypass = v at *
  refine ⟨_, hexec, hhigh, hwait, rdn_wrn_same _ 0 TRANSIT.BYP_CTRL_REJOIN 1 0, htimer, htimers, ?_⟩
  rw [hframe]
  rfl

theorem bypassRejoin_ignored (s : State) (p : Port) (hperm : Permitted s p 0x0E 0x48 2) (h : RejoinBarred s) :
    exec (.bypassRejoin p) s = .next ((s.heard p).emit (done p)) := by
  rw [exec_bypassRejoin s p hperm, rejoin_barred]
  rwa [RejoinBarred, State.flag, State.rd, heard_rdn, heard_rdn, heard_byp]

/-! ### The relay wait ends -/

/-- A port that restarts changes registers of its PHY page and its timer. -/
theorem portRestart_frame (s : State) (d : Side) : (∃ rs ts, s.portRestart d = { s with regs := rs, timers := ts }) ∧
    PagesBut s (s.portRestart d) [8, 0x0A] := by
  have hpage : PHY.PHY_STAT_STATE.page + d.n ∈ [8, 0x0A] ∧ PHY.PHY_CTRL_RETRAIN.page + d.n ∈ [8, 0x0A] := by
    cases d
    · decide
    · decide
  unfold State.portRestart
  split
  · exact ⟨linkRestart_frame s (.ring d), pagesBut_trans (pagesBut_wrn s d.n PHY.PHY_STAT_STATE 1 0 (by decide) hpage.1)
      (pagesBut_wrn _ d.n PHY.PHY_CTRL_RETRAIN 0 0 (by decide) hpage.2)⟩
  · exact ⟨⟨_, _, rfl⟩, pagesBut_refl s _⟩

/-- The ring ports are enabled. -/
def portsOn (s : State) : State := { s with byp := { s.byp with waiting := false, ports := true, startup := false } }

/-- They drive the outputs that the hub forwards on, and REJOIN reads 0. -/
def portsDriven (s : State) : State :=
  (((portsOn s).updTx .east (fun t => { t with silent := !(portsOn s).forwards .east })).updTx .west
    (fun t => { t with silent := !(portsOn s).forwards .west })).wr TRANSIT.BYP_CTRL_REJOIN 0

theorem portsDriven_frame (s : State) : ∃ rs b x, portsDriven s = { s with regs := rs, byp := b, tx := x } := ⟨_, _, _, rfl⟩

/-- A hub that is not acting master listens for beacons from now on. -/
def beaconsAwaited (s : State) : State :=
  if s.acting || s.running tBeaconTmo then s else s.start tBeaconTmo (s.rd CLOCKS.REF_CFG_BEACON_TMO * ms 1)

theorem portsEnabled_single (s : State) (htwin : s.isTwin = false) (hstartup : s.byp.startup = false) :
    s.portsEnabled = (beaconsAwaited (((portsDriven s).portRestart .east).portRestart .west)).raise 0x0E 2 := by
  rw [State.portsEnabled, htwin, hstartup]
  rfl

theorem portsDriven_single (s : State) (htwin : s.isTwin = false) :
    ((portsDriven s).txOf .east).silent = false ∧ ((portsDriven s).txOf .west).silent = false := by
  have hdrives : ∀ d, (portsOn s).forwards d = true := fun d => by
    rw [State.forwards, show (portsOn s).isTwin = s.isTwin from rfl, htwin]
    rfl
  obtain ⟨heast, hwest⟩ := txOf_updTx_both (portsOn s) (fun t => { t with silent := !(portsOn s).forwards .east })
    (fun t => { t with silent := !(portsOn s).forwards .west })
  exact ⟨(congrArg TxPort.silent heast).trans (congrArg Bool.not (hdrives .east)),
    (congrArg TxPort.silent hwest).trans (congrArg Bool.not (hdrives .west))⟩

theorem beaconsAwaited_frame (s : State) : ∃ ts, beaconsAwaited s = { s with timers := ts } := by
  unfold beaconsAwaited
  split
  · exact ⟨_, rfl⟩
  · exact ⟨_, rfl⟩

/-- What the end of the wait leaves before it is raised: the ports driven, with registers of the PHYs and timers changed. -/
theorem portsEnabled_leaves (s : State) (htwin : s.isTwin = false) (hstartup : s.byp.startup = false) :
    ∃ u rs ts, s.portsEnabled = u.raise 0x0E 2 ∧ u = { portsDriven s with regs := rs, timers := ts } ∧
      u.rd TRANSIT.BYP_CTRL_REJOIN = 0 := by
  obtain ⟨⟨rs, ts, heast⟩, hpagesE⟩ := portRestart_frame (portsDriven s) .east
  obtain ⟨⟨rs', ts', hwest⟩, hpagesW⟩ := portRestart_frame ((portsDriven s).portRestart .east) .west
  obtain ⟨ts'', hbeacon⟩ := beaconsAwaited_frame (((portsDriven s).portRestart .east).portRestart .west)
  refine ⟨_, rs', ts'', portsEnabled_single s htwin hstartup, ?_, ?_⟩
  · rw [hbeacon, hwest, heast]
  · rw [hbeacon]
    refine (rdn_of_pagesBut (pagesBut_trans hpagesE hpagesW) 0 TRANSIT.BYP_CTRL_REJOIN 0 (by decide) (by decide)).trans ?_
    exact rdn_wrn_same _ 0 TRANSIT.BYP_CTRL_REJOIN 0 0

theorem rejoinRelayWaitEnd_enables (s : State) (hwaiting : s.byp.waiting = true) (hdue : s.due tRelay = true)
    (htwin : s.isTwin = false) (hstartup : s.byp.startup = false) :
    ∃ t, exec .rejoinRelayWaitEnd s = .next t ∧ t.byp.ports = true ∧ t.byp.waiting = false ∧ (t.txOf .east).silent = false ∧
      (t.txOf .west).silent = false ∧ t.rd TRANSIT.BYP_CTRL_REJOIN = 0 ∧ event t 0x0E 2 = true ∧
      t = { s with regs := t.regs, byp := t.byp, tx := t.tx, timers := t.timers, msix := t.msix, sent := t.sent } := by
  obtain ⟨u, rs, ts, hend, hu, hrejoin⟩ := portsEnabled_leaves (s.stop tRelay) htwin hstartup
  obtain ⟨heast, hwest⟩ := portsDriven_single (s.stop tRelay) htwin
  have hexec : exec .rejoinRelayWaitEnd s = .next (u.raise 0x0E 2) :=
    congrArg Host.Outcome.next ((if_pos hwaiting).trans ((if_pos hdue).trans hend))
  have hshown : (u.raise 0x0E 2).rd TRANSIT.BYP_CTRL_REJOIN = 0 :=
    (rdn_raise_other u 0x0E 2 0 TRANSIT.BYP_CTRL_REJOIN 0 (by decide)).trans hrejoin
  have hevent := event_raise_same u 0x0E 2 (by decide)
  obtain ⟨m, l, hraise⟩ := raise_frame u 0x0E 2
  refine ⟨_, hexec, ?_, ?_, ?_, ?_, hshown, hevent, ?_⟩
  · rw [raise_byp, hu]
    rfl
  · rw [raise_byp, hu]
    rfl
  · rw [State.txOf, raise_tx, hu]
    exact heast
  · rw [State.txOf, raise_tx, hu]
    exact hwest
  · obtain ⟨rs', b, x, hdriven⟩ := portsDriven_frame (s.stop tRelay)
    rw [hraise, hu, hdriven]
    rfl

/-! ### The obligation -/

/-- Settles O20: a bypass is entered by the one step that silences both outputs; REJOIN is barred or starts the relay wait, whose end
enables the ports. -/
theorem bypassCommandsComplete : Obligations.BypassCommandsComplete := by
  unfold Obligations.BypassCommandsComplete
  exact ⟨transitCheckFail_bypasses, bypassForce_bypasses, bypassRejoin_leaves, bypassRejoin_ignored, rejoinRelayWaitEnd_enables⟩

end Sys2Proof.Proofs
end
